-- ==== Sys2Proof/Word.lean ====
section
/-! DEFINITION. The word types of the WX3216 and their plainest arithmetic (R8, R9, R11). -/

namespace Sys2Proof

/-- A byte. -/
abbrev Byte := BitVec 8
/-- A 32-bit scalar register, flag or lane. -/
abbrev W32 := BitVec 32
/-- A 64-bit counter or key. -/
abbrev W64 := BitVec 64
/-- One LSP row, bundle or descriptor: 256 bits (R165, R188). -/
abbrev Row := BitVec 256
/-- One vector register: 2,048 bits (R130). -/
abbrev VReg := BitVec 2048

/-- A core: 16 times its physical cluster site (36 * bay + site, R38) plus its logical core index. -/
abbrev CoreId := Nat
/-- A physical cluster site of the module: 36 * bay + site, 0 to 575 (R38). -/
abbrev SiteId := Nat

end Sys2Proof
end

