-- ==== Sys2Proof/Syntax.lean ====
section
/-! DEFINITION. The commands of the block: one constructor for each row of spec/opcode_table.json,
with the operands of its row. Raw slot fields are kept whole, reserved bits too, so that the
encoding rules (R19) are checked by the machine and not assumed. -/

namespace Sys2Proof

/-- The MX slot, pass form (R70), without its OP field, which the constructor is. -/
structure MxSlot where
  desc : BitVec 4
  bank : Bool
  clr : Bool
  neg : Bool
  dual : Bool
  neg2 : Bool
  sa : BitVec 4
  sb : BitVec 4
  rsv : BitVec 11
  deriving DecidableEq, Repr

/-- The MX slot, address form (R70). -/
structure MxAddr where
  desc : BitVec 4
  rsv : BitVec 12
  addr : BitVec 12
  deriving DecidableEq, Repr

/-- The VX slot, compute form (R133). -/
structure VxSlot where
  lw : BitVec 2
  msk : BitVec 3
  vd : BitVec 4
  va : BitVec 4
  vb : BitVec 4
  vc : BitVec 4
  md : BitVec 3
  imb : Bool
  rsv : Bool
  imm : BitVec 16
  deriving DecidableEq, Repr

/-- The VX slot, address form (R133). -/
structure VxAddr where
  p : BitVec 2
  rsv : BitVec 28
  addr : BitVec 12
  deriving DecidableEq, Repr

/-- The SEQ slot (R169). -/
structure SeqSlot where
  sd : BitVec 4
  sa : BitVec 4
  sb : BitVec 4
  rsv : BitVec 3
  tgt : BitVec 11
  imm : BitVec 16
  deriving DecidableEq, Repr

/-- An LS slot (R191); `port1` says LS1. -/
structure LsSlot where
  port1 : Bool
  reg : BitVec 4
  cnt : BitVec 2
  part : BitVec 3
  wsel : BitVec 3
  sa : BitVec 4
  rsv : BitVec 8
  addr : BitVec 12
  deriving DecidableEq, Repr

/-- The CP slot (R178). -/
structure CpSlot where
  eng : BitVec 2
  rsv : BitVec 6
  addr : BitVec 12
  deriving DecidableEq, Repr

/-- The FL slot (R181). -/
structure FlSlot where
  flag : BitVec 6
  imm : BitVec 14
  deriving DecidableEq, Repr

/-- What a check of a stored code word finds (R176, R195, R212, R229). -/
inductive Finding where
  | ok
  | bit
  | symbol
  | uncorrectable
  deriving DecidableEq, Repr

/-- What is found as a core cycle begins: by the fetch of its bundle (R176), and the scalar registers and flags in which a read
of that cycle finds a parity error (R517). -/
structure FetchFind where
  found : Finding
  scalars : List Nat
  flags : List Nat
  deriving DecidableEq, Repr

/-- What an HBM request asks for (R229, R232, R243). -/
inductive HbmOp where
  | read
  | write (data : List Byte) (poison : Bool)
  | zero
  | aaddx (wp32 : Bool) (guard : Nat) (eSrc eDst : Int) (values : List Int) (poison : Bool)
  deriving DecidableEq, Repr

/-- A packet of window traffic (R460): the fields of its transport header and its data. -/
structure WinPkt where
  dst : BitVec 16
  src : BitVec 16
  tag : BitVec 32
  hops : Nat
  ageUs : Nat
  handle : Nat
  pfmt : Bool
  guard : Nat
  ngr : Nat
  eSrc : BitVec 16
  eDst : BitVec 16
  offset : Nat
  key : BitVec 64
  pmap : BitVec 64
  cid : BitVec 24
  npkt : Nat
  data : List Byte
  deriving DecidableEq, Repr

/-- Which window request a packet is (R460). -/
inductive WinKind where
  | wmove
  | waaddx
  | wzero
  deriving DecidableEq, Repr

/-- A time message (R465). -/
structure TimeMsg where
  masterId : BitVec 16
  src : BitVec 16
  idv : Bool
  lock : Bool
  tdepth : Nat
  term : BitVec 16
  mseq : BitVec 16
  ft : Int
  tRx : Int
  deriving DecidableEq, Repr

/-- A management message of the fabric (R470). -/
structure MgmtMsg where
  dst : BitVec 16
  src : BitVec 16
  tag : BitVec 32
  hops : Nat
  ageUs : Nat
  idv : Bool
  nbr : Bool
  flood : Bool
  term : BitVec 16
  serial : BitVec 128
  ident : BitVec 16
  idf : Bool
  status : Nat
  rlink : Nat
  relay : BitVec 16
  tver : BitVec 32
  tpart : Nat
  tnpart : Nat
  entries : List (BitVec 128 × BitVec 16)
  deriving DecidableEq, Repr

/-- A routed packet beside DST_ID, TYPE, HOPS and AGE_US: its other header bits and its data (R460, R470). -/
structure PktBody where
  low : BitVec 3
  src : BitVec 16
  tag : BitVec 32
  mid : BitVec 5
  high : BitVec 288
  data : List Byte
  deriving DecidableEq, Repr

/-- What FEC finds in a pair: its pair header, how many of its codewords are corrected, and at which of its symbols
(R444). -/
structure FecFind where
  header : BitVec 40
  corrected : Nat
  symbols : List Nat
  deriving DecidableEq, Repr

/-- The header of a flit of a link, its payload bytes, and whether its CRC is good (R446). -/
structure Flit where
  crcGood : Bool
  fk : Nat
  vc : Nat
  dl : Bool
  sop : Bool
  eop : Bool
  seq : Nat
  ack : Nat
  nak : Bool
  cvc : Nat
  cdl : Bool
  ccnt : Nat
  vlen : Nat
  rsv : Nat
  data : List Byte
  deriving DecidableEq, Repr

/-- Where a UDP datagram comes from, and the port it goes to (R569); a frame on an I3C port has none. -/
structure Datagram where
  srcIp : BitVec 32
  srcPort : BitVec 16
  dstPort : BitVec 16
  deriving DecidableEq, Repr

/-- The header of an image or package that staging reads (R505, R526): its fields, and the
digest of its body as SHAKE256 gives it. -/
structure ImgHdr where
  magic : BitVec 32
  ver : BitVec 32
  secVer : BitVec 32
  minPeer : BitVec 32
  bodyLen : BitVec 32
  rsvZero : Bool
  digest : BitVec 512
  signer : BitVec 512
  tests : BitVec 2
  runMs : Nat
  answer : BitVec 256
  bodyDigest : BitVec 512
  sig : Nat
  deriving DecidableEq, Repr

/-- An object-dictionary access (R559, R566): its route, DBG bit, address, offset, length; data
of a write. `badForm` stands for a reserved OP or a non-zero RSV field (R563, order 1). -/
structure OdReq where
  route : Nat
  dbg : Bool
  index : Nat
  sub : Nat
  offset : Nat
  len : Nat
  data : List Byte
  badForm : Bool
  deriving DecidableEq, Repr

/-- The studbook's name of a physical unit (R494). -/
structure UnitId where
  ut : Nat
  a : Nat
  b : Nat
  c : Nat
  deriving DecidableEq, Repr

/-- A failed wire of a crossing, named from its lower bay (R348): the direction (out of that bay or into it), the
plane (0 request, 1 response), the wire group (0 to 33 active, 34 and 35 the spare groups of a bridge) and the wire
in it. -/
structure WireFail where
  bay : Nat
  side : Nat
  link : Nat
  out : Bool
  plane : Nat
  group : Nat
  wire : Nat
  deriving DecidableEq, Repr

/-- A unit that fails a start test (R490, R496, R502): whether it is the known-answer run, the digest that this gives, which
is a mismatch where it differs from the one in the image, and whether the unit passes both retests. -/
structure TestFail where
  un : UnitId
  known : Bool
  answer : BitVec 256
  retestsPass : Bool
  test : Nat
  deriving DecidableEq, Repr

/-- What the check of the fuse-map copies and of the mirror finds (R481 to R483). -/
structure FuseFind where
  aGood : Bool
  bGood : Bool
  equal : Bool
  mirrorGood : Bool
  deriving DecidableEq, Repr

/-- What the tests of a cold start find, and what its sources hold (R348, R482, R490, R496, R500, R502, R558); a
unit not named is good. `refA` and `refB` say which references have been good for 10 ms by the end of the boot ROM (R376),
`fabric` the offset of the DT master to the time of a fabric that the module joins, in 2^-16 ns (R404), and `stAValid` and
`stBValid` which copies of service time are valid (R480). -/
structure StartFind where
  refA : Bool
  refB : Bool
  fabric : Option Int
  romGrooms : List Nat
  fuse : FuseFind
  studAValid : Bool
  studBValid : Bool
  storedAValid : Bool
  storedBValid : Bool
  stAValid : Bool
  stBValid : Bool
  imageVerified : Bool
  badWires : List WireFail
  fails : List TestFail
  deriving DecidableEq, Repr

/-! ### Operands that come together -/

/-- An addend that reaches its granule: its place among those under way, and its request's source port and number (R243,
R369). -/
structure AddRef where
  i : Nat
  src : Nat
  num : BitVec 32
  deriving DecidableEq, Repr

/-- A mesh request: its source port and its number (R353). -/
structure ReqName where
  src : Nat
  num : BitVec 32
  deriving DecidableEq, Repr

/-- What the ECC of an HBM granule finds, and on which lane (R229, R231). -/
structure EccFind where
  found : Finding
  lane : Option Nat
  deriving DecidableEq, Repr

/-- A digest that completes, and what the SRAM checks of the update chiplets that work on it find (R257, R292). -/
structure DigestEnd where
  part : Nat
  sram : List (Nat × Finding)
  deriving DecidableEq, Repr

/-- The groups that an update chiplet applies: the stack of its shard, and what its SRAM check finds (R257). -/
structure GroupFind where
  stack : Nat
  sram : Finding
  deriving DecidableEq, Repr

/-- The head of a mesh packet: its tag, and REQ_HI of its first flit (R352, R353). -/
structure Head where
  tag : BitVec 64
  reqHi : BitVec 20
  deriving DecidableEq, Repr

/-- A request at a cluster port: its head, and whether it changes memory (R363, R369). -/
structure PortReq where
  tag : BitVec 64
  reqHi : BitVec 20
  changes : Bool
  deriving DecidableEq, Repr

/-- A flit on a crossing: its plane, payload, tag and control word (R351 to R353). -/
structure CrossFlit where
  plane : Nat
  payload : BitVec 2048
  tag : BitVec 64
  ctl : BitVec 64
  deriving DecidableEq, Repr

/-- What the tests of an aisle that returns find: of its groom and routers, and of its wires (R370, R371). -/
structure RejoinFind where
  passed : Bool
  bad : List WireFail
  deriving DecidableEq, Repr

/-- What the fast loop of a bay estimates: the current of its clusters, and how many of them must step down (R422). -/
structure FastAsk where
  currents : List (SiteId × Nat)
  count : Nat
  deriving DecidableEq, Repr

/-- The activity counts of 10 ms (R436): MXE products by format class, LSP and CMEM accesses, mesh flits, HBM bytes and
update elements. -/
structure Activity where
  mxe : List Nat
  lsp : Nat
  cmem : Nat
  flits : Nat
  hbm : Nat
  upd : Nat
  deriving DecidableEq, Repr

/-- Where a thermal sensor is: in a cluster site, an aisle, an update chiplet or a link die (R429, R434). -/
inductive Sensor where
  | cluster
  | aisle
  | upc
  | linkDie
  deriving DecidableEq, Repr

/-- What the slow loop reads over PMBus: the power of the other supplies, and the devices that do not answer (R423,
R584). -/
structure PmbPoll where
  otherPower : Nat
  silent : List (Nat × Nat)
  deriving DecidableEq, Repr

/-- The bays of a write of BAY_REENABLE, and those whose rail comes up steady (R427). -/
structure RailMask where
  mask : BitVec 16
  steady : BitVec 16
  deriving DecidableEq, Repr

/-- A window packet, and the link that it comes over; none for one of this module (R458, R460). -/
structure WinIn where
  link : Option Nat
  pkt : WinPkt
  deriving DecidableEq, Repr

/-- A WDONE: the link that it comes over, and its tag (R464). -/
structure DoneIn where
  link : Option Nat
  tag : BitVec 32
  deriving DecidableEq, Repr

/-- A management message, and the link that it comes over (R468 to R470). -/
structure MgmtIn where
  link : Option Nat
  msg : MgmtMsg
  deriving DecidableEq, Repr

/-- A write of MODULE_RESET, and what the checks of the fuse map and of the image find (R482, R493). -/
structure ResetIn where
  v : BitVec 8
  fuse : FuseFind
  imageGood : Bool
  deriving DecidableEq, Repr

/-- A sideband frame, and its datagram on Ethernet (R567, R569). -/
structure SideIn where
  bytes : List Byte
  udp : Datagram
  deriving DecidableEq, Repr

/-- A command of the block. -/
inductive Instr where
  -- MX slot and array
  | mxNop (c : CoreId) (f : MxSlot)
  | mxDload (c : CoreId) (f : MxAddr)
  | mxLoad (c : CoreId) (f : MxSlot)
  | shadowPlaneComplete (c : CoreId)
  | mxSwap (c : CoreId) (f : MxSlot)
  | swapTakesEffect (c : CoreId)
  | mxStream (c : CoreId) (f : MxSlot)
  | passStepAccumulate (c : CoreId)
  | mxDrain (c : CoreId) (f : MxSlot)
  | replayHoldEnd (c : CoreId)
  | drainRowOutput (c : CoreId)
  -- VX slot
  | vxNop (c : CoreId) (f : VxSlot)
  | vxAdd (c : CoreId) (f : VxSlot)
  | vxSub (c : CoreId) (f : VxSlot)
  | vxMul (c : CoreId) (f : VxSlot)
  | vxAddu (c : CoreId) (f : VxSlot)
  | vxSubu (c : CoreId) (f : VxSlot)
  | vxMulu (c : CoreId) (f : VxSlot)
  | vxDiv (c : CoreId) (f : VxSlot)
  | vxDivu (c : CoreId) (f : VxSlot)
  | vxMin (c : CoreId) (f : VxSlot)
  | vxMax (c : CoreId) (f : VxSlot)
  | vxMinu (c : CoreId) (f : VxSlot)
  | vxMaxu (c : CoreId) (f : VxSlot)
  | vxAnd (c : CoreId) (f : VxSlot)
  | vxOr (c : CoreId) (f : VxSlot)
  | vxXor (c : CoreId) (f : VxSlot)
  | vxAndn (c : CoreId) (f : VxSlot)
  | vxShl (c : CoreId) (f : VxSlot)
  | vxShr (c : CoreId) (f : VxSlot)
  | vxSra (c : CoreId) (f : VxSlot)
  | vxCmpeq (c : CoreId) (f : VxSlot)
  | vxCmplt (c : CoreId) (f : VxSlot)
  | vxCmple (c : CoreId) (f : VxSlot)
  | vxCmpltu (c : CoreId) (f : VxSlot)
  | vxSel (c : CoreId) (f : VxSlot)
  | vxMov (c : CoreId) (f : VxSlot)
  | vxMovhi (c : CoreId) (f : VxSlot)
  | vxMset (c : CoreId) (f : VxSlot)
  | vxMget (c : CoreId) (f : VxSlot)
  | vxFadd (c : CoreId) (f : VxSlot)
  | vxFsub (c : CoreId) (f : VxSlot)
  | vxFmul (c : CoreId) (f : VxSlot)
  | vxFma (c : CoreId) (f : VxSlot)
  | vxFmin (c : CoreId) (f : VxSlot)
  | vxFmax (c : CoreId) (f : VxSlot)
  | vxFcmpeq (c : CoreId) (f : VxSlot)
  | vxFcmplt (c : CoreId) (f : VxSlot)
  | vxFcmple (c : CoreId) (f : VxSlot)
  | vxFrcp (c : CoreId) (f : VxSlot)
  | vxFrsq (c : CoreId) (f : VxSlot)
  | vxFexp2 (c : CoreId) (f : VxSlot)
  | vxFlog2 (c : CoreId) (f : VxSlot)
  | vxCvt (c : CoreId) (f : VxSlot)
  | vxLut (c : CoreId) (f : VxSlot)
  | vxRsum (c : CoreId) (f : VxSlot)
  | vxRmax (c : CoreId) (f : VxSlot)
  | vxRmin (c : CoreId) (f : VxSlot)
  | vxFrsum (c : CoreId) (f : VxSlot)
  | vxFrmax (c : CoreId) (f : VxSlot)
  | vxFrmin (c : CoreId) (f : VxSlot)
  | vxStat (c : CoreId) (f : VxSlot)
  | vxResultWrite (c : CoreId)
  | vxPload (c : CoreId) (f : VxAddr)
  | vxRun (c : CoreId) (f : VxAddr)
  | runDescriptorCheck (c : CoreId)
  | runIteration (c : CoreId)
  | runComplete (c : CoreId)
  -- SEQ slot
  | seqNop (c : CoreId) (f : SeqSlot)
  | movi (c : CoreId) (f : SeqSlot)
  | orhi (c : CoreId) (f : SeqSlot)
  | seqAdd (c : CoreId) (f : SeqSlot)
  | seqSub (c : CoreId) (f : SeqSlot)
  | addi (c : CoreId) (f : SeqSlot)
  | seqMul (c : CoreId) (f : SeqSlot)
  | seqAnd (c : CoreId) (f : SeqSlot)
  | seqOr (c : CoreId) (f : SeqSlot)
  | seqXor (c : CoreId) (f : SeqSlot)
  | shli (c : CoreId) (f : SeqSlot)
  | shri (c : CoreId) (f : SeqSlot)
  | srai (c : CoreId) (f : SeqSlot)
  | slt (c : CoreId) (f : SeqSlot)
  | sltu (c : CoreId) (f : SeqSlot)
  | jump (c : CoreId) (f : SeqSlot)
  | beqz (c : CoreId) (f : SeqSlot)
  | bnez (c : CoreId) (f : SeqSlot)
  | bltz (c : CoreId) (f : SeqSlot)
  | loop (c : CoreId) (f : SeqSlot)
  | loopi (c : CoreId) (f : SeqSlot)
  | rdc (c : CoreId) (f : SeqSlot)
  | post (c : CoreId) (f : SeqSlot)
  | mrd (c : CoreId) (f : SeqSlot)
  | mack (c : CoreId) (f : SeqSlot)
  | seqEnd (c : CoreId) (f : SeqSlot)
  -- LS slots
  | lsNop (c : CoreId) (f : LsSlot)
  | lsLdv (c : CoreId) (f : LsSlot)
  | lsStv (c : CoreId) (f : LsSlot)
  | lsLdw (c : CoreId) (f : LsSlot)
  | lsStw (c : CoreId) (f : LsSlot)
  | lsLdm (c : CoreId) (f : LsSlot)
  | lsStm (c : CoreId) (f : LsSlot)
  -- CP slot
  | cpNop (c : CoreId) (f : CpSlot)
  | cpIssue (c : CoreId) (f : CpSlot)
  | cpOvl (c : CoreId) (f : CpSlot)
  | overlayComplete (c : CoreId)
  -- FL slot
  | flNop (c : CoreId) (f : FlSlot)
  | flWait (c : CoreId) (f : FlSlot)
  | flWaitd (c : CoreId) (f : FlSlot)
  | flWaits (c : CoreId) (f : FlSlot)
  | flAdd (c : CoreId) (f : FlSlot)
  | flSet (c : CoreId) (f : FlSlot)
  | flSig (c : CoreId) (f : FlSlot)
  | flRead (c : CoreId) (f : FlSlot)
  | signalDelivery (i : Nat)
  | waitLimit (c : CoreId)
  -- instruction memory and scratchpad
  | imemFetch (c : CoreId) (find : FetchFind)
  | lspReadCheck (c : CoreId) (row : BitVec 12) (found : Finding)
  | coreHoldEnd (c : CoreId)
  | lspWriteback (c : CoreId) (row : BitVec 12)
  | poisonDelivery (c : CoreId)
  | lspPatrolScrub (c : CoreId) (row : BitVec 12) (found : Finding) (late : Bool)
  -- copies and memory tiers
  | copyMove (n : Nat)
  | copyAaddx (n : Nat)
  | copyZero (n : Nat)
  | copyMarks (n : Nat)
  | copyComplete (n : Nat)
  | aaddxGranuleAdd (k : AddRef)
  | cmemAccessCheck (site : SiteId) (granule : Nat) (found : Finding)
  | cmemPatrolScrub (site : SiteId) (granule : Nat) (found : Finding)
  | hbmRequest (src : Nat) (num : BitVec 32) (pc : Nat) (off : Nat) (op : HbmOp) (ecc : EccFind)
      (parity : Nat)
  | hbmPatrolScrub (pc : Nat) (off : Nat) (ecc : EccFind)
  | hbmTemperatureRead (stack : Nat) (celsius : Int)
  | pcRejoin (pc : Nat) (passed : Bool)
  | windowWriteArrival (kind : WinKind) (p : WinPkt)
  | notifyTrackerClose (i : Nat)
  | windowCloseComplete (handle : Nat)
  -- parameter update
  | stepCommit (ring idx : Nat)
  | gateCheck (part : Nat)
  | updateGroupApply (part : Nat) (g : GroupFind)
  | commitComplete (part : Nat)
  | commitAfterReset (part : Nat)
  | upcDrainReq (route : Nat) (mask : BitVec 8)
  | upcDrain (u : Nat)
  | upcFault (u : Nat)
  | upcReturn (u : Nat)
  | digestReq (ring idx : Nat)
  | digestStart (part : Nat)
  | digestComplete (d : DigestEnd)
  -- partitions, rings, jobs
  | compose (part : Nat)
  | remap (part : Nat)
  | partitionReset (part : Nat)
  | partitionResetComplete (part : Nat)
  | dissolve (part : Nat)
  | ringEnable (ring : Nat)
  | ringDisable (ring : Nat)
  | ringRestart (ring : Nat)
  | doorbell (route : Nat) (w : BitVec 64)
  | commandFetch (ring : Nat) (start : Bool)
  | jobLoad (ring idx : Nat)
  | jobArm (ring idx : Nat)
  | jobStart (ring idx : Nat)
  | launch (part : Nat)
  | stepEnd (part : Nat)
  | jobHalt (ring idx : Nat)
  | jobRelease (ring idx : Nat)
  | hostCopyToHbm (ring idx : Nat) (write : Bool)
  | hostCopyFromHbm (ring idx : Nat)
  | windowOpen (ring idx : Nat)
  | remoteReferenceEnter (ring idx : Nat)
  | windowClose (ring idx : Nat)
  | remoteReferenceClear (ring idx : Nat)
  | hintLoad (ring idx : Nat)
  | hintWindowStart (i : Nat)
  | hintWindowEnd (i : Nat)
  | fence (ring idx : Nat)
  | eventWait (ring idx : Nat)
  | eventWaitTimeout (ring idx : Nat)
  | farrierGrant (ring idx : Nat)
  | farrierGrantEnd (part : Nat)
  | hostPost (route : Nat) (w : BitVec 128)
  | hostAck (route : Nat) (w : BitVec 128)
  | mailboxArrival (i : Nat)
  -- aisle mesh
  | routerHeadArrival (site : SiteId) (h : Head) (readFlits : Nat)
  | escapeMove (site : SiteId) (h : Head)
  | crossingFlitReceive (bay side link : Nat) (f : CrossFlit)
  | clusterPortRequest (site : SiteId) (r : PortReq)
  | retryResend (r : ReqName)
  | meshRequestTimeout (r : ReqName)
  | routeTableSwitch
  | crossingRejoin (bay side link : Nat) (bad : List WireFail)
  | aisleRejoin (bay : Nat) (find : RejoinFind)
  | routerFault (site : SiteId)
  -- clocks and time
  | referenceLost (isB : Bool)
  | referenceGood (isB : Bool)
  | refclkSelectWrite (route : Nat) (v : BitVec 8)
  | beatSpreadWrite (route : Nat) (v : BitVec 8)
  | beatNodeLost (node : Nat)
  | clusterClockFault (site : SiteId)
  | opPointChange (site : SiteId)
  | opPointChangeComplete (site : SiteId)
  | stretchRaise (site : SiteId) (level : Nat)
  | stretchFall (site : SiteId)
  | stretchPersistent (site : SiteId)
  | timeWord (flips : BitVec 96)
  | dtStepReq (route : Nat) (v : BitVec 8)
  | dtMasterStep
  | fabricTimeSilence
  -- power and heat
  | aisleConverterPoll (status0 status1 : Option Bool)
  | ldoSliceFailed (site : SiteId) (slice : Nat)
  | clusterPark (site : SiteId)
  | powerOnStage (bay : Nat) (meanCurrent : Nat)
  | inrushSlowMode (bay : Nat) (currents : List (SiteId × Nat))
  | inrushAssistEnd (bay : Nat)
  | hintDeferralEnd (bay : Nat)
  | powerOnComplete (site : SiteId)
  | fastLoopSample (bay : Nat) (mean1us : Nat) (energy10ms : Nat) (ask : FastAsk)
  | slowLoop (poll : PmbPoll) (shares : List (Nat × Nat)) (limits : List Nat)
      (modulePower : Nat) (acts : List (Nat × Activity)) (rest : Activity)
  | bayRailLost (bay : Nat)
  | bayReenable (route : Nat) (r : RailMask)
  | aisleFeedLost (bay : Nat)
  | thermalSample (kind : Sensor) (unit : Nat) (celsius : Int)
  | thermalStepUp (site : SiteId)
  | thermalSwitchOff (site : SiteId)
  | minVReset (route : Nat) (index sub : Nat)
  -- the Mivon link
  | fecPairReceive (link : Nat) (find : FecFind) (uncorrectable : Nat) (flits : List (BitVec 2048))
  | linkNakReplay (link : Nat)
  | portRetrainComplete (link : Nat) (ok : Bool)
  | portTrainingAttempt (link : Nat) (ok : Bool) (good : BitVec 8) (peer : BitVec 16)
  | laneBad (link lane : Nat) (signal : Bool)
  | laneRetest (link lane : Nat) (errors : Nat)
  | portEnable (route link : Nat)
  | portDisable (route link : Nat)
  | portRetrain (route link : Nat)
  | routedPacketArrival (link : Nat) (dst : BitVec 16) (typ hops ageUs : Nat) (dl : Bool) (body : PktBody)
  | linkWaitDiscard (link : Nat)
  | wmove (x : WinIn)
  | waaddx (x : WinIn)
  | wzero (x : WinIn)
  | wdone (d : DoneIn) (ovf : Bool)
  | linkRequestResend (tag : BitVec 32)
  | timeAnn (link : Nat) (m : TimeMsg)
  | timeAnnSend (link : Nat)
  | delayReq (link : Nat) (m : TimeMsg)
  | delayReqSend (link : Nat)
  | delayResp (link : Nat) (m : TimeMsg)
  | masterSilent
  | masterClaim (link : Nat) (m : MgmtMsg)
  | masterTakeOffice
  | configuredMasterReclaim
  | idReq (link : Nat) (m : MgmtMsg)
  | idAssign (link : Nat) (m : MgmtMsg)
  | idReqRepeat
  | idTable (x : MgmtIn)
  | idTableSend
  | hrdData (tag : BitVec 32) (data : List Byte)
  | hostPortReturn
  -- start-up, studbook, firmware
  | powerGoodRise (straps : BitVec 5) (find : StartFind)
  | electionRetry (announced : List Nat)
  | heartbeat (acks : Nat)
  | yardmasterTakeover (confirmed : Nat)
  | yardmasterAbdicate
  | groomRestart (groom : Nat) (ok : Bool)
  | moduleReset (route : Nat) (w : ResetIn)
  | serviceTimeWrite
  | studbookCopyWrite
  | degradedAckF (route : Nat)
  | degradedAckS (route : Nat)
  | fwStage (route : Nat) (h : ImgHdr)
  | fwStageVerified
  | fwApply (route : Nat)
  | fwAbort (route : Nat)
  | fwUnitSwitch (unit : Nat)
  | farrierStage (route : Nat) (h : ImgHdr)
  | farrierRevert (route : Nat)
  | farrierRunStart (isUpc : Bool) (unit : Nat)
  | farrierRunEnd (isUpc : Bool) (unit : Nat) (digest : BitVec 256) (faulted : Bool) (test : Nat)
  | farrierRunTimeout (isUpc : Bool) (unit : Nat)
  | farrierOverdue (site : SiteId)
  -- security
  | authChallenge (route : Nat)
  | authCheckSignature (route : Nat)
  | authCheckPassword (route : Nat)
  | unlockTest (route : Nat) (password : Bool)
  | unlockObserve (route : Nat) (password : Bool)
  | unlockFull (route : Nat) (password : Bool)
  | lifecycleField (route : Nat)
  | lifecycleTransfer (route : Nat)
  | lifecycleRetire (route : Nat)
  | lifecycleClaim (route : Nat)
  | pwDigestWrite (route : Nat) (digest : BitVec 256) (maxScope : Nat)
  | quoteCtrl (route : Nat) (v : BitVec 8)
  | quoteSign
  -- object dictionary and sideband
  | odRead (r : OdReq)
  | odWrite (r : OdReq)
  | registerWrite (r : OdReq)
  | sidebandFrame (route : Nat) (f : SideIn)
  | i3cPrivateRead (port : Nat)
  | i3cAddressAssign (port : Nat) (setdasa : Bool) (static : BitVec 7) (dynamic : BitVec 7)
  | arpRequest (target : BitVec 32) (srcMac : BitVec 48) (srcIp : BitVec 32)
  | icmpEcho (target : BitVec 32) (srcIp : BitVec 32) (payload : List Byte)
  -- pins and supplies
  | pwrgoodFall
  | resetNAssert (lowNs : Nat)
  | resetNRelease (find : StartFind)
  | supplyLost (kind : Nat) (unit : Nat)
  -- late rows of the table
  | lspLoadDelivery (c : CoreId)
  | partCtrlEnd (part : Nat)
  | clusterWake (site : SiteId)
  | persistentStretchLapse (site : SiteId)
  | storedEntryCopyWrite (index sub : Nat)
  | attestationCertificateIssued
  deriving DecidableEq, Repr

end Sys2Proof
end

