-- ==== Sys2Proof/Decode.lean ====
section
/-! DEFINITION. The command that a table word spells. The table gives its rows no bits, so no word
spells a command; the bit fields of slots are operands of the commands (log 17). -/

namespace Sys2Proof

/-- The command that a word spells by the table's bits: none, the table gives no bits. -/
def decodeTableWord (_nbits _w : Nat) : Option Instr := none

end Sys2Proof
end

