-- ==== Sys2Proof/Config.lean ====
section
/-! DEFINITION. What an implementation fixes and the values the manual leaves open. Every constant
here is opaque: nothing can be proved of its value (log 5, 6, 9, 10). -/

namespace Sys2Proof

/-- A fresh value for each count: the value that the manual leaves open (log 5). -/
opaque Config.freeValue : Nat → W64

/-- SHAKE256 of a message with an output of `n` bytes, as a little-endian number (R481, R502, R541;
a published standard the manual only names, log 10). -/
opaque Config.shake256 : Nat → List Byte → Nat

/-- Whether an SLH-DSA signature over a message verifies under a 64-byte key (R505, R550; a
published standard the manual only names, log 10). -/
opaque Config.slhVerify : Nat → List Byte → List Byte → Bool

/-- Whether the SLH-DSA signature `sig` over a 256-byte header verifies under a 64-byte key: header, signature
and key as numbers (R506, R527, R544; log 10). -/
opaque Config.imageSigned : Nat → Nat → Nat → Bool

/-- The public key that the key generation of FIPS 205 gives for a seed, by its parameter set: 1 256s, 2 256f (R541; log
10). -/
opaque Config.slhPublic : Nat → Nat → Nat

/-- The deterministic signature of a message under the key of a seed, by its parameter set (R541; log 10). -/
opaque Config.slhSign : Nat → Nat → List Byte → List Byte

/-- The public key of Rhoique's identity authority (R543; log 6). -/
opaque Config.authorityKey : Nat

/-- The authority's signature over the body of the identity certificate (R543; log 10). -/
opaque Config.authoritySign : List Byte → List Byte

/-- The service time at which the identity certificate was issued (R543; log 6). -/
opaque Config.idIssuedSt : Nat

/-- The four vendor signing keys (R544; log 6). -/
opaque Config.vendorKey : Nat → Nat

/-- The random generator (R549; log 5). -/
opaque Config.random : Nat → BitVec 256

/-- The serial number of the fuse map (R481, R575; log 6). -/
opaque Config.serial : BitVec 128

/-- The fused password salt (R551; log 6). -/
opaque Config.pwSalt : BitVec 128

/-- The fused MAC address (R575; log 6). -/
opaque Config.mac : BitVec 48

/-- The fused silicon step, as ASCII (R575; log 6). -/
opaque Config.siliconStep : List Byte

/-- The fused voltage in mV of a site at a point, 550 to 880 (R415; log 6). -/
opaque Config.pointMv : Nat → Nat → Nat

/-- The coefficient of an activity count, in pJ: 0 an LSP access, 1 a CMEM access, 2 a mesh flit, 3 an HBM byte, 4 an update
element, 16 + k an MXE product of format class k (R436; held in firmware, log 9). -/
opaque Config.energyCoef : Nat → Nat

/-- The leakage of a powered cluster in 1 µs, in pJ, by site and by CLUSTER_POINT code, 6 at the retention voltage (R436; the
manual gives no figure, log 9). -/
opaque Config.leakage : Nat → Nat → Nat

/-- The bytes of a fuse map: 0 the fused one, 1 another that is in use (R481, R503, R575; log 6). -/
opaque Config.fuseMapBytes : Nat → List Byte

/-- Spare lanes of an HBM channel (R231, R232; the manual gives no number, log 5). -/
opaque Config.hbmSpareLanes : Nat

/-- The payload code of a drain's cause: 0 FARRIER, 1 FAULT, 2 REQUEST (R293; the manual gives no
code, log 5). -/
opaque Config.drainCause : Nat → Nat

/-- The payload code of the change behind a table switch: 0 an aisle, 1 a router, 2 a crossing fenced, 3 a
crossing that rejoins (R373; the manual gives no code, log 5). -/
opaque Config.rerouteChange : Nat → Nat

/-- The payload code of the cause of a SUSPECT verdict: 0 the digest, 1 a fault, 2 the time (R525, R529; the
manual gives no code, log 5). -/
opaque Config.farrierCause : Nat → Nat

/-- Field `i` of the header of the image or package that host memory holds at an address, for a length, which an access by the
object dictionary alone does not carry (R509, R527; log 5). -/
opaque Config.hostImage : Nat → Nat → Nat → Nat

/-- What a granule of the system region holds, by its number: image, studbook or log (R226; the manual does not lay the
region out, log 5). -/
opaque Config.sysGranule : Nat → Nat

/-- The 64 bytes of a granule of the system region, by its number, as the tack room gives them: of the image (0), or of the
studbook by the sequence number of its copy, plus 1 (R226, R518; the manual does not lay the region out, log 5). -/
opaque Config.sysBytes : Nat → Nat → Nat

/-- Which log and which record of it a granule of the system region holds (R226, R518; log 5). -/
opaque Config.sysRecord : Nat → Nat

/-- Where in the system region the program of a run lies, and its bundles: by the kind of run (0 farrier, 1 known-answer,
2 BIST) and the core site of the cluster (R507; the manual does not lay the region out, log 100). -/
opaque Config.runtimeAt : Nat → Nat → Nat

/-- The device secret that the key vault of every link die holds (R540; log 10). -/
opaque Config.uds : BitVec 256

end Sys2Proof
end

