-- ==== Sys2Proof/Machine/Num.lean ====
section
/-! DEFINITION. Number formats and exact arithmetic (R95 to R98, R120, R124, R125, R139, R140):
a floating value is decoded to an exact dyadic number, computed exactly, and rounded once. -/

namespace Sys2Proof.Machine

open Sys2Proof

/-- `n` bits of a word from bit `lo` on, as a number (R11). -/
def fld {w : Nat} (x : BitVec w) (lo n : Nat) : Nat := (x.extractLsb' lo n).toNat

/-- The two's-complement value of the low `n` bits of a number. -/
def sgn (n : Nat) (x : Nat) : Int :=
  let y := x % 2 ^ n
  if 2 * y < 2 ^ n then (y : Int) else (y : Int) - (2 ^ n : Nat)

/-- A signed field. -/
def sfld {w : Nat} (x : BitVec w) (lo n : Nat) : Int := sgn n (fld x lo n)

/-- Two's complement of an integer in `n` bits. -/
def wrapI (n : Nat) (x : Int) : Nat := (x % (2 ^ n : Nat)).toNat

/-- floor(x * 2^e) for any integer e (the floor of R103 and the arithmetic shift of the manual's
pseudocode). -/
def shiftI (x : Int) (e : Int) : Int :=
  if 0 ≤ e then x * (2 ^ e.toNat : Nat) else x / ((2 ^ (-e).toNat : Nat) : Int)

/-- Little-endian bytes of a number (R11). -/
def leBytes : Nat → Nat → List Byte
  | 0, _ => []
  | n + 1, x => BitVec.ofNat 8 x :: leBytes n (x / 256)

/-- The number that little-endian bytes spell (R11). -/
def ofLe : List Byte → Nat
  | [] => 0
  | b :: bs => b.toNat + 256 * ofLe bs

/-- Eight bits of the CRC-32 of IEEE 802.3, in its reflected form (R567). -/
def crcBits : Nat → BitVec 32 → BitVec 32
  | 0, c => c
  | n + 1, c => crcBits n (if c.getLsbD 0 then (c >>> 1) ^^^ 0xEDB88320#32 else c >>> 1)

/-- The frame check sequence of IEEE 802.3 over bytes (R567). -/
def crc32 (l : List Byte) : BitVec 32 :=
  ~~~(l.foldl (fun c b => crcBits 8 (c ^^^ b.setWidth 32)) 0xFFFFFFFF#32)

/-- Pack elements of `w` bits, the first lowest (R129). -/
def packElems (w : Nat) : List Nat → Nat
  | [] => 0
  | x :: xs => x % 2 ^ w + 2 ^ w * packElems w xs

/-- An exact floating value: (-1)^neg * m * 2^e, an infinity, or a NaN. -/
inductive FV where
  | nan
  | inf (neg : Bool)
  | fin (neg : Bool) (m : Nat) (e : Int)
  deriving DecidableEq, Repr

/-- A floating-point format (R95): exponent and mantissa bits, bias, whether the top exponent
holds infinities and NaNs, whether only the all-ones code is a NaN, and the code of its largest
finite magnitude. -/
structure Fmt where
  eb : Nat
  mb : Nat
  bias : Int
  ieee : Bool
  e4m3 : Bool
  maxCode : Nat
  maxExp : Int
  deriving DecidableEq, Repr

/-- FP32 (R95). -/
def fp32 : Fmt := ⟨8, 23, 127, true, false, 0x7F7FFFFF, 127⟩
/-- FP64, for PRECOND (R286, R287). -/
def fp64 : Fmt := ⟨11, 52, 1023, true, false, 0x7FEFFFFFFFFFFFFF, 1023⟩
/-- BF16 (R95). -/
def bf16 : Fmt := ⟨8, 7, 127, true, false, 0x7F7F, 127⟩
/-- FP16 (R95). -/
def fp16 : Fmt := ⟨5, 10, 15, true, false, 0x7BFF, 15⟩
/-- FP8 E4M3 (R95): no infinity, one NaN. -/
def e4m3 : Fmt := ⟨4, 3, 7, false, true, 0x7E, 8⟩
/-- FP8 E5M2 (R95). -/
def e5m2 : Fmt := ⟨5, 2, 15, true, false, 0x7B, 15⟩
/-- FP6 E3M2 (R95). -/
def e3m2 : Fmt := ⟨3, 2, 3, false, false, 0x1F, 4⟩
/-- FP6 E2M3 (R95). -/
def e2m3 : Fmt := ⟨2, 3, 1, false, false, 0x1F, 2⟩
/-- FP4 E2M1 (R95). -/
def e2m1 : Fmt := ⟨2, 1, 1, false, false, 0x7, 2⟩

/-- The exact value of an encoding (R95). -/
def Fmt.decode (f : Fmt) (w : Nat) : FV :=
  let man := w % 2 ^ f.mb
  let ex := w / 2 ^ f.mb % 2 ^ f.eb
  let neg := decide (w / 2 ^ (f.mb + f.eb) % 2 = 1)
  if f.ieee && decide (ex = 2 ^ f.eb - 1) then (if man = 0 then .inf neg else .nan)
  else if f.e4m3 && decide (ex = 15) && decide (man = 7) then .nan
  else if ex = 0 then .fin neg man (1 - f.bias - f.mb)
  else .fin neg (2 ^ f.mb + man) ((ex : Int) - f.bias - f.mb)

/-- How a value off the grid is rounded (R117, R125). -/
inductive Rnd where
  | even
  | zero
  | stoch (r : Nat)
  deriving DecidableEq, Repr

/-- Whether the neighbour away from zero is taken, for `rem` / 2^s past the lower one (R125). -/
def Rnd.up (r : Rnd) (lo rem s : Nat) : Bool :=
  match r with
  | .even => decide (2 * rem > 2 ^ s) || (decide (2 * rem = 2 ^ s) && decide (lo % 2 = 1))
  | .zero => false
  | .stoch v => decide (v < 2 ^ 16 * rem / 2 ^ s)

/-- The magnitude code of m * 2^e rounded to the format, with an unbounded exponent (R125). -/
def Fmt.roundMag (f : Fmt) (r : Rnd) (m : Nat) (e : Int) : Nat :=
  if m = 0 then 0 else
    let q := max ((Nat.log2 m : Int) + e - f.mb) (1 - f.bias - f.mb)
    let u : Nat :=
      if q ≤ e then m * 2 ^ (e - q).toNat
      else
        let s := (q - e).toNat
        let lo := m / 2 ^ s
        let rem := m % 2 ^ s
        if rem ≠ 0 && r.up lo rem s then lo + 1 else lo
    if u < 2 ^ f.mb then u else ((q + f.mb + f.bias) * (2 ^ f.mb : Nat) + u - (2 ^ f.mb : Nat)).toNat

/-- The sign bit of a format. -/
def Fmt.signBit (f : Fmt) (neg : Bool) : Nat := if neg then 2 ^ (f.mb + f.eb) else 0

/-- The code of infinity of an IEEE format. -/
def Fmt.infCode (f : Fmt) : Nat := (2 ^ f.eb - 1) * 2 ^ f.mb

/-- The canonical NaN of a format (R120, R124, R139). -/
def Fmt.nanCode (f : Fmt) : Nat :=
  if f.e4m3 then 0x7F else if f.ieee then f.infCode + 2 ^ (f.mb - 1) else 0

/-- Encode for IEEE arithmetic, rounding to nearest even (R120, R139): overflow to infinity. -/
def Fmt.encode (f : Fmt) : FV → Nat
  | .nan => f.nanCode
  | .inf neg => f.signBit neg + f.infCode
  | .fin neg m e =>
    let c := f.roundMag .even m e
    f.signBit neg + (if c > f.maxCode then f.infCode else c)

/-- Output conversion of R124 for a floating format, under a rounding mode and SAT. -/
def Fmt.convert (f : Fmt) (r : Rnd) (sat : Bool) : FV → Nat
  | .nan => f.nanCode
  | .inf neg =>
    if f.e4m3 then (if sat then f.signBit neg + f.maxCode else f.nanCode)
    else if f.ieee then f.signBit neg + (if sat then f.maxCode else f.infCode)
    else f.signBit neg + f.maxCode
  | .fin neg m e =>
    let c := f.roundMag r m e
    if c ≤ f.maxCode then f.signBit neg + c
    else if sat then f.signBit neg + f.maxCode
    else if r = .zero then f.signBit neg + f.maxCode
    else if f.e4m3 then f.nanCode
    else if f.ieee then f.signBit neg + f.infCode
    else f.signBit neg + f.maxCode

/-- The signed mantissa of a finite value at exponent `q` ≤ e. -/
def FV.at (neg : Bool) (m : Nat) (e q : Int) : Int :=
  let x : Int := (m : Int) * (2 ^ (e - q).toNat : Nat)
  if neg then -x else x

/-- A signed integer times a power of two as an exact value; zero takes the sign `z`. -/
def FV.ofInt (x : Int) (e : Int) (z : Bool) : FV :=
  if x = 0 then .fin z 0 0 else .fin (decide (x < 0)) x.natAbs e

/-- Negation. -/
def FV.neg : FV → FV
  | .nan => .nan
  | .inf n => .inf (!n)
  | .fin n m e => .fin (!n) m e

/-- Whether a value is a NaN. -/
def FV.isNan : FV → Bool
  | .nan => true
  | _ => false

/-- Whether a value is a zero. -/
def FV.isZero : FV → Bool
  | .fin _ m _ => decide (m = 0)
  | _ => false

/-- The exact sum (IEEE 754): an exact zero from unlike signs is +0 (R139). -/
def FV.add : FV → FV → FV
  | .nan, _ => .nan
  | _, .nan => .nan
  | .inf a, .inf b => if a = b then .inf a else .nan
  | .inf a, _ => .inf a
  | _, .inf b => .inf b
  | .fin n1 m1 e1, .fin n2 m2 e2 =>
    let q := min e1 e2
    FV.ofInt (FV.at n1 m1 e1 q + FV.at n2 m2 e2 q) q (n1 && n2)

/-- The exact product (IEEE 754). -/
def FV.mul : FV → FV → FV
  | .nan, _ => .nan
  | _, .nan => .nan
  | .inf a, .inf b => .inf (a != b)
  | .inf a, .fin n m _ => if m = 0 then .nan else .inf (a != n)
  | .fin n m _, .inf b => if m = 0 then .nan else .inf (n != b)
  | .fin n1 m1 e1, .fin n2 m2 e2 => .fin (n1 != n2) (m1 * m2) (e1 + e2)

/-- The quotient to 160 bits below the dividend, with its inexactness jammed into the last bit:
one rounding of it rounds the exact quotient correctly (log 12). -/
def FV.div : FV → FV → FV
  | .nan, _ => .nan
  | _, .nan => .nan
  | .inf _, .inf _ => .nan
  | .inf a, .fin n _ _ => .inf (a != n)
  | .fin n _ _, .inf b => .fin (n != b) 0 0
  | .fin n1 m1 e1, .fin n2 m2 e2 =>
    if m2 = 0 then (if m1 = 0 then .nan else .inf (n1 != n2))
    else
      let k := 160 + Nat.log2 m2
      let n := m1 * 2 ^ k
      .fin (n1 != n2) (2 * (n / m2) + (if n % m2 = 0 then 0 else 1)) (e1 - e2 - k - 1)

/-- Integer square root by Newton steps from above. -/
def isqrtFrom : Nat → Nat → Nat → Nat
  | 0, _, x => x
  | k + 1, n, x =>
    let y := (x + n / x) / 2
    if y < x then isqrtFrom k n y else x

/-- The integer square root. -/
def isqrt (n : Nat) : Nat :=
  if n = 0 then 0 else isqrtFrom 700 n (2 ^ (Nat.log2 n / 2 + 1))

/-- The square root to at least 160 bits, its inexactness jammed into the last bit (log 12). -/
def FV.sqrt : FV → FV
  | .nan => .nan
  | .inf false => .inf false
  | .inf true => .nan
  | .fin n m e =>
    if m = 0 then .fin n 0 0
    else if n then .nan
    else
      let odd := (e % 2).toNat
      let x := m * 2 ^ odd * 2 ^ 320
      let r := isqrt x
      .fin false (2 * r + (if r * r = x then 0 else 1)) ((e - odd) / 2 - 160 - 1)

/-- 1 / sqrt A to at least 160 bits, jammed (R140, log 12). -/
def FV.rsqrt : FV → FV
  | .nan => .nan
  | .inf false => .fin false 0 0
  | .inf true => .nan
  | .fin n m e =>
    if m = 0 then .inf n
    else if n then .nan
    else
      let odd := (e % 2).toNat
      let d := m * 2 ^ odd
      let k := 400 + 2 * Nat.log2 d
      let x := 2 ^ (2 * (k / 2)) / d
      let r := isqrt x
      .fin false (2 * r + (if r * r * d = 2 ^ (2 * (k / 2)) then 0 else 1))
        (-((e - odd) / 2) - ((k / 2 : Nat) : Int) - 1)

/-- The fixed-point product over the bits of f of 2^(bit * 2^-i), with 224 fraction bits. -/
def exp2Bits : Nat → Nat → Nat → Nat → Nat
  | 0, _, _, acc => acc
  | k + 1, f, root, acc =>
    let root' := isqrt (root * 2 ^ 224)
    let acc' := if f / 2 ^ k % 2 = 1 then acc * root' / 2 ^ 224 else acc
    exp2Bits k f root' acc'

/-- 2^A (R140): exact for an integer A, else a lower bound to about 200 bits, jammed (log 12). -/
def FV.exp2 : FV → FV
  | .nan => .nan
  | .inf false => .inf false
  | .inf true => .fin false 0 0
  | .fin n m e =>
    if m = 0 then .fin false 1 0
    else if (Nat.log2 m : Int) + e > 12 then (if n then .fin false 1 (-5000) else .inf false)
    else
      let x := shiftI (if n then -(m : Int) else m) (e + 192)
      let ip := x / (2 ^ 192 : Nat)
      let fp := (x % (2 ^ 192 : Nat)).toNat
      let exact := decide (shiftI x (-(e + 192)) = (if n then -(m : Int) else m))
      if fp = 0 && exact then .fin false 1 ip
      else .fin false (2 * exp2Bits 192 fp (2 ^ 225) (2 ^ 224) + 1) (ip - 225)

/-- Fraction bits of log2 y for a fixed-point y in [1, 2) with 320 fraction bits, by squaring. -/
def log2Bits : Nat → Nat → Nat → Nat
  | 0, _, acc => acc
  | k + 1, y, acc =>
    let y2 := y * y / 2 ^ 320
    if 2 ^ 321 ≤ y2 then log2Bits k (y2 / 2) (2 * acc + 1) else log2Bits k y2 (2 * acc)

/-- log2 A (R140): exact for a power of two, else a lower bound to 140 bits, jammed (log 12). -/
def FV.log2 : FV → FV
  | .nan => .nan
  | .inf false => .inf false
  | .inf true => .nan
  | .fin n m e =>
    if m = 0 then .inf true
    else if n then .nan
    else
      let l := Nat.log2 m
      if m = 2 ^ l then FV.ofInt ((l : Int) + e) 0 false
      else
        let f := log2Bits 140 (m * 2 ^ 320 / 2 ^ l) 0
        FV.ofInt (2 * (((l : Int) + e) * (2 ^ 140 : Nat) + f) + 1) (-141) false

/-- Compare two finite or infinite values: less, with -0 equal to +0. -/
def FV.lt : FV → FV → Bool
  | .nan, _ => false
  | _, .nan => false
  | .inf a, .inf b => a && !b
  | .inf a, .fin _ _ _ => a
  | .fin _ _ _, .inf b => !b
  | .fin n1 m1 e1, .fin n2 m2 e2 =>
    let q := min e1 e2
    decide (FV.at n1 m1 e1 q < FV.at n2 m2 e2 q)

/-- Equality of values, with -0 equal to +0; a NaN equals nothing (R139). -/
def FV.eq (a b : FV) : Bool := !a.isNan && !b.isNan && !a.lt b && !b.lt a

/-- The sign of a value. -/
def FV.sign : FV → Bool
  | .nan => false
  | .inf n => n
  | .fin n _ _ => n

/-- Minimum with the NaN and signed-zero rules of R139. -/
def FV.fmin (a b : FV) : FV :=
  if a.isNan || b.isNan then .nan
  else if a.lt b then a else if b.lt a then b else if a.sign then a else b

/-- Maximum with the NaN and signed-zero rules of R139. -/
def FV.fmax (a b : FV) : FV :=
  if a.isNan || b.isNan then .nan
  else if a.lt b then b else if b.lt a then a else if a.sign then b else a

/-- An exact sum of values (R143, R268): -0 only when every term is -0; an empty sum is +0. -/
def FV.sum : List FV → FV
  | [] => .fin false 0 0
  | x :: xs => xs.foldl FV.add x

/-- Round toward zero to an integer, exactly; a tie to even under RND 0. -/
def FV.toInt (r : Rnd) : FV → Int
  | .fin neg m e =>
    let u : Nat :=
      if 0 ≤ e then m * 2 ^ e.toNat
      else
        let s := (-e).toNat
        let lo := m / 2 ^ s
        let rem := m % 2 ^ s
        if rem ≠ 0 && r.up lo rem s then lo + 1 else lo
    if neg then -(u : Int) else u
  | _ => 0

/-- floor(log2 of the magnitude) of a finite non-zero value (R99, R127). -/
def FV.expo : FV → Option Int
  | .fin _ m e => if m = 0 then none else some ((Nat.log2 m : Int) + e)
  | _ => none

/-- The mixing function of R126. -/
def mix (z : Nat) : Nat :=
  let z := z ^^^ (z >>> 31)
  let z := z * 0x9E3779B1 % 2 ^ 64
  let z := z ^^^ (z >>> 29)
  let z := z * 0x85EBCA77 % 2 ^ 64
  z ^^^ (z >>> 32)

/-- The 16 bits of stochastic rounding for an element (R126). -/
def rbits (seed tid n : Nat) : Nat :=
  let z := mix (seed ^^^ 0xC2B2AE3D)
  let z := mix (z ^^^ tid)
  let z := mix (z ^^^ (n % 2 ^ 64))
  z >>> 48

/-- FP32 addition of encodings, rounded once (R120). -/
def f32add (a b : Nat) : Nat := fp32.encode ((fp32.decode a).add (fp32.decode b))
/-- FP32 multiplication of encodings, rounded once (R120). -/
def f32mul (a b : Nat) : Nat := fp32.encode ((fp32.decode a).mul (fp32.decode b))
/-- FP32 fused multiply-add of encodings, rounded once (R120, R139). -/
def f32fma (a b c : Nat) : Nat :=
  fp32.encode (((fp32.decode a).mul (fp32.decode b)).add (fp32.decode c))
/-- FP32 division of encodings, rounded once (R268). -/
def f32div (a b : Nat) : Nat := fp32.encode ((fp32.decode a).div (fp32.decode b))
/-- FP32 square root of an encoding, rounded once (R268). -/
def f32sqrt (a : Nat) : Nat := fp32.encode (fp32.decode a).sqrt
/-- FP32 negation. -/
def f32neg (a : Nat) : Nat := fp32.encode (fp32.decode a).neg

end Sys2Proof.Machine
end

