-- ==== Sys2Proof/Machine/Map.lean ====
section
/-! DEFINITION. Sparse maps from Nat to plain data in one canonical form: keys strictly rising and
no entry equal to what an unlisted key reads as. Every RAM, register file and table of the state
is one, so that equal contents are equal data. -/

namespace Sys2Proof

/-- A sparse map: what an unlisted key reads as is a function `d` given at every use. -/
abbrev SMap (α : Type) := List (Nat × α)

/-- Read key `k`. -/
def mget {α : Type} (d : Nat → α) : SMap α → Nat → α
  | [], k => d k
  | (k', v) :: m, k => if k = k' then v else if k < k' then d k else mget d m k

/-- Write `v` at key `k`, keeping the canonical form: writing the default removes the entry. -/
def mset {α : Type} [DecidableEq α] (d : Nat → α) : SMap α → Nat → α → SMap α
  | [], k, v => if v = d k then [] else [(k, v)]
  | (k', v') :: m, k, v =>
    if k = k' then (if v = d k then m else (k, v) :: m)
    else if k < k' then (if v = d k then (k', v') :: m else (k, v) :: (k', v') :: m)
    else (k', v') :: mset d m k v

/-- The canonical form, from a lower bound of the keys on. -/
def mwfFrom {α : Type} [DecidableEq α] (d : Nat → α) : Nat → SMap α → Bool
  | _, [] => true
  | lo, (k, v) :: m => decide (lo ≤ k) && decide (v ≠ d k) && mwfFrom d (k + 1) m

/-- The canonical form of a sparse map. -/
def mwf {α : Type} [DecidableEq α] (d : Nat → α) (m : SMap α) : Bool := mwfFrom d 0 m

/-- Write a list of values at consecutive keys. -/
def msetRange {α : Type} [DecidableEq α] (d : Nat → α) (m : SMap α) (k : Nat) : List α → SMap α
  | [] => m
  | v :: vs => msetRange d (mset d m k v) (k + 1) vs

/-- Read `n` consecutive keys. -/
def mgetRange {α : Type} (d : Nat → α) (m : SMap α) (k n : Nat) : List α :=
  (List.range n).map fun i => mget d m (k + i)

/-- Set `n` consecutive keys to their default (drops them from the list). -/
def mclearRange {α : Type} (m : SMap α) (k n : Nat) : SMap α :=
  m.filter fun p => !(decide (k ≤ p.1) && decide (p.1 < k + n))

/-- What an unlisted byte reads as. -/
def zB : Nat → Byte := fun _ => 0
/-- What an unlisted mark reads as. -/
def zF : Nat → Bool := fun _ => false
/-- What an unlisted row reads as. -/
def zR : Nat → Row := fun _ => 0
/-- What an unlisted 32-bit register reads as. -/
def zW : Nat → W32 := fun _ => 0
/-- What an unlisted count reads as. -/
def zN : Nat → Nat := fun _ => 0
/-- What an unlisted vector register reads as. -/
def zV : Nat → VReg := fun _ => 0
/-- What an unlisted mask register reads as. -/
def zM : Nat → W64 := fun _ => 0

end Sys2Proof
end

