-- ==== Sys2Proof/Machine/State.lean ====
section
/-! DEFINITION. The state of the WX3216: every register, memory, queue, table and pin the manual
gives the module, as plain data, and its value right after power is applied. -/

namespace Sys2Proof.Machine

open Sys2Proof

/-! ### The core -/

/-- Where a core stands in its job (R161, R175, R202). -/
inductive CorePhase where
  | off
  | idle
  | running
  | ended
  | faulted
  deriving DecidableEq, Repr

/-- Why a core is frozen (R161). `hold` and `replay` follow the present cycle. `fetchHold` and the two states of
a wait precede it: the bundle is fetched, and its cycle has not come (R160, R176, R183). A wait is `gate` until its
first test. -/
inductive Freeze where
  | none
  | hold (n : Nat)
  | fetchHold (n : Nat)
  | replay (n : Nat)
  | gate
  | wait (since limit : Nat)
  deriving DecidableEq, Repr

/-- An open loop (R172): its body, and the iterations left after the one in progress. -/
structure LoopSt where
  first : Nat
  last : Nat
  left : Nat
  deriving DecidableEq, Repr

/-- A VX result in flight (R145): it takes effect at the end of cycle `due`. -/
structure VxPend where
  due : Nat
  issued : Nat
  bpc : Nat
  vd : Option Nat
  data : VReg
  lanes : VReg
  md : Option Nat
  mbits : W64
  mlanes : W64
  flags : BitVec 3
  lutTab : Option Nat
  deriving DecidableEq, Repr

/-- Where a load writes (R192). -/
inductive LoadDst where
  | vpart (reg part : Nat)
  | scalar (reg wsel : Nat)
  | mask (reg q : Nat)
  | none
  deriving DecidableEq, Repr

/-- A core LSP read in flight, of any engine (R189). Only loads have a destination; what the other
engines read goes to them in the cycle of the read, and only its poison is delivered here. -/
structure LspRead where
  issued : Nat
  rank : Nat
  bpc : Nat
  slot : Nat
  row : Nat
  data : Row
  poison : Bool
  dst : LoadDst
  deriving DecidableEq, Repr

/-- A core LSP write in flight: full-row, or of the bytes whose bits `lanes` sets (R190). -/
structure LspWrite where
  issued : Nat
  row : Nat
  full : Bool
  data : Row
  lanes : Row
  poison : Bool
  deriving DecidableEq, Repr

/-- One bank use of a cycle (R191). -/
structure BankUse where
  cyc : Nat
  bank : Nat
  write : Bool
  deriving DecidableEq, Repr

/-- A CP operation between its issue and its descriptor check (R179). -/
structure CpPend where
  issued : Nat
  bpc : Nat
  eng : Nat
  ovl : Bool
  data : Row
  poison : Bool
  deriving DecidableEq, Repr

/-- An overlay outstanding (R177, R180): `boot` says that a groom started it, and `sys` that it reads the core runtime
in the system region (R318, R507). -/
structure OvlSt where
  start : Nat
  count : Nat
  flag : Nat
  inc : Nat
  src : Nat
  busyFrom : Nat
  boot : Bool
  sys : Bool
  deriving DecidableEq, Repr

/-- An item of a mailbox channel (R174, R337). -/
structure MbItem where
  pointer : BitVec 64
  tag : W32
  src : BitVec 16
  ack : Bool
  deriving DecidableEq, Repr

/-- What an MRD of a channel last returned (R174). -/
inductive MbLast where
  | none
  | empty
  | ack
  | msg (src : BitVec 16)
  deriving DecidableEq, Repr

/-- A run in flight (R150, R155): its descriptor as read, whether it has been checked, its length
TRUN, the iterations run, the input rows read and not used yet, and the output rows not written yet
(row, data, byte lanes). -/
structure RunSt where
  issued : Nat
  bpc : Nat
  desc : Row
  checked : Bool
  trun : Nat
  iter : Nat
  inRows : List Row
  outRows : List (Nat × Row × Row)
  deriving DecidableEq, Repr

/-! ### The MXE -/

/-- The special state of an accumulator (R101). -/
inductive AccSt where
  | finite
  | posInf
  | negInf
  | nan
  deriving DecidableEq, Repr

/-- An accumulator: the 88-bit value, 24 extension bits included, and its special state (R101). -/
structure Acc where
  val : BitVec 88
  st : AccSt
  deriving DecidableEq, Repr

/-- An accumulator that an opened tile sets (R101). -/
def Acc.zero : Acc := ⟨0, .finite⟩
/-- What an unlisted accumulator reads as. -/
def zA : Nat → Acc := fun _ => Acc.zero

/-- What an MX.LOAD gives a plane beside its cells (R63, R85): mode, format, word select, and the
descriptor it was loaded by. -/
structure PlaneTag where
  mode : Nat
  fmt : Nat
  sa : Nat
  src : Row
  deriving DecidableEq, Repr

/-- The tag of a plane after reset: OS, BF16 (R84). -/
def PlaneTag.zero : PlaneTag := ⟨0, 0, 0, 0⟩

/-- A cell plane: 1,024 cell words of 16 bits at 32 * i + j, and the block-side rows that travel
with it (R60, R63, R69). -/
structure Plane where
  cells : SMap (BitVec 16)
  blocks : SMap Row
  tag : PlaneTag
  deriving DecidableEq, Repr

/-- A plane after reset (R84). -/
def Plane.zero : Plane := ⟨[], [], PlaneTag.zero⟩

/-- A plane load in flight: its issue cycle, its cycles T, the rows of its image and block-side
vector, the next cycle whose reads issue, and what it has read (R77). -/
structure MxLoadSt where
  issued : Nat
  bpc : Nat
  cycles : Nat
  addr : Nat
  bsv : Nat
  next : Nat
  plane : Plane
  deriving DecidableEq, Repr

/-- An entry of a pass log (R85): the copied descriptor and slot fields, and for a WS or IS pass the planes it ran on,
each with the first step that ran on it. `other` says that this is the log of the other bank of a DUAL pass (R72). -/
structure PassLog where
  desc : Row
  descNo : Nat
  bank : Bool
  clr : Bool
  dual : Bool
  neg2 : Bool
  sa : Nat
  sb : Nat
  neg : Bool
  other : Bool
  planes : List (Nat × PlaneTag)
  deriving DecidableEq, Repr

/-- One step of a pass, with the words its reads took in cycle `read` (R76), and, once it has multiplied, the plane on
which a WS or IS step did (R78). -/
structure StepSt where
  read : Nat
  t : Nat
  a : BitVec 1024
  b : BitVec 1024
  ea : BitVec 512
  eb : BitVec 512
  plane : Option Plane
  deriving DecidableEq, Repr

/-- An accumulator bank and its tile state (R85, R101, R107). -/
structure Bank where
  isOpen : Bool
  accs : SMap Acc
  w : Int
  wSet : Bool
  k : Nat
  kind : Option Bool
  sticky : Bool
  late : Bool
  log : List PassLog
  deriving DecidableEq, Repr

/-- A bank after reset (R84, R107): closed, W = 49 and k = 0. -/
def Bank.zero : Bank := ⟨false, [], 49, false, 0, .none, false, false, []⟩

/-- A pass in flight (R76): `next` is the step whose reads issue next; `ea` and `eb` are the
block-side words last read; `steps` are the steps to be added and `done` those added, `req` is its pass exponent as far as
the planes of its steps are known (R105), and `pre0` and `pre1` are the banks as they were before its first addition. -/
structure PassSt where
  issued : Nat
  bpc : Nat
  desc : Row
  sa : Nat
  sb : Nat
  bank : Bool
  clr : Bool
  neg : Bool
  dual : Bool
  neg2 : Bool
  next : Nat
  ea : BitVec 512
  eb : BitVec 512
  steps : List StepSt
  done : List StepSt
  req : Option Int
  pre0 : Bank
  pre1 : Bank
  deriving DecidableEq, Repr

/-- A drain in flight (R79, R119): `start` is its cycle d, `next` its next output unit. -/
structure DrainSt where
  start : Nat
  bpc : Nat
  desc : Row
  next : Nat
  scale : BitVec 1024
  bias : BitVec 1024
  accs : SMap Acc
  eLsb : Int
  bsoEntries : BitVec 512
  deriving DecidableEq, Repr

/-- The MXE of a core (R60, R73, R80). -/
structure Mxe where
  desc : SMap Row
  dpend : List (Nat × Nat × Row)
  active : Plane
  shadow : Plane
  replay : Plane
  loads : List MxLoadSt
  actTag : PlaneTag
  shTag : PlaneTag
  swaps : List Nat
  lastStream : Option (Nat × Nat)
  lastLoad : Option (Nat × Nat)
  lastSwap : Option Nat
  lastDrain : Option (Nat × Nat)
  streamA : Option (Nat × Nat)
  streamB : Option (Nat × Nat)
  drainA : Option (Nat × Nat)
  drainB : Option (Nat × Nat)
  bank0 : Bank
  bank1 : Bank
  passes : List PassSt
  drains : List DrainSt
  deriving DecidableEq, Repr

/-- The MXE after power-on, a warm reset or a partition reset (R84). -/
def Mxe.zero : Mxe :=
  ⟨[], [], Plane.zero, Plane.zero, Plane.zero, [], PlaneTag.zero, PlaneTag.zero, [], .none, .none,
   .none, .none, .none, .none, .none, .none, Bank.zero, Bank.zero, [], []⟩

/-- The state of one core at one moment of its core cycle. `confl` holds the bank conflicts that a partial-row write
meets in a later cycle: the cycle, the bundle and the slot (R191). `acted` holds the slots of the bundle that have issued
in the present cycle (R166), `fInc` the flag increments that arrive in it (R184), `late` the causes that a frozen core
raises in its next core cycle (R123, R142), `tabs` the tables that copies write in it (whether an activation table, its
number, whether the core was held then), and `symHeld` says that a hold for symbol errors of the present cycle has run
out (R196). -/
structure CoreSt where
  phase : CorePhase
  started : Bool
  cyc : W64
  holdCyc : W64
  waitCyc : W64
  latCyc : W32
  latHold : W32
  latWait : W32
  latDt : W32
  pc : Nat
  bpc : Nat
  bundle : Row
  branch : Option (Nat × Nat)
  loops : List LoopSt
  freeze : Freeze
  sreg : SMap W32
  sranks : List (Nat × Nat)
  sPar : SMap Bool
  flags : SMap W32
  fPar : SMap Bool
  vreg : SMap VReg
  mask : SMap W64
  vstat : BitVec 3
  vraise : BitVec 3
  vpend : List VxPend
  prog : SMap (BitVec 4096)
  pload : List (Nat × Nat × Nat × Nat)
  run : Option RunSt
  lut : SMap W32
  lutMark : SMap Bool
  act : SMap Byte
  actMark : SMap Bool
  lsp : SMap Row
  lspPoison : SMap Bool
  reads : List LspRead
  writes : List LspWrite
  banks : List BankUse
  confl : List (Nat × Nat × Nat)
  wback : List Nat
  imem : SMap Row
  imemPoison : SMap Bool
  imemWback : List Nat
  cpPend : List CpPend
  ovls : List OvlSt
  sigPend : List (Nat × Nat × Nat × Nat)
  postPend : List (Nat × Nat × MbItem)
  ackPend : List (Nat × BitVec 16 × W32)
  mb : SMap (List MbItem)
  mbLast : SMap MbLast
  mx : Mxe
  ovf : Bool
  causes : List (Nat × Nat × Nat)
  fault : Option (Nat × Nat × Nat)
  acted : List Nat
  fInc : List (Nat × W32)
  late : List (Nat × Nat × Nat)
  tabs : List (Bool × Nat × Bool)
  symHeld : Bool
  deriving DecidableEq, Repr

/-- A core in the state of R205, R84 and R158, not issuing. -/
def CoreSt.zero : CoreSt :=
  { phase := .off, started := false, cyc := 0, holdCyc := 0, waitCyc := 0,
    latCyc := 0, latHold := 0, latWait := 0, latDt := 0, pc := 0, bpc := 0, bundle := 0,
    branch := .none, loops := [], freeze := .none, sreg := [], sranks := [],
    sPar := [], flags := [], fPar := [], vreg := [], mask := [], vstat := 0, vraise := 0, vpend := [],
    prog := [], pload := [], run := .none, lut := [], lutMark := [], act := [], actMark := [],
    lsp := [], lspPoison := [], reads := [], writes := [], banks := [], confl := [], wback := [], imem := [],
    imemPoison := [], imemWback := [], cpPend := [], ovls := [], sigPend := [], postPend := [],
    ackPend := [], mb := [], mbLast := [], mx := Mxe.zero, ovf := false, causes := [], fault := .none,
    acted := [], fInc := [], late := [], tabs := [], symHeld := false }

/-- A core: its state now, and its state at the start of the present core cycle, which every slot
of the bundle reads (R166) and to which a fault of the cycle returns it (R202). -/
structure Core where
  cur : CoreSt
  beg : CoreSt
  deriving DecidableEq, Repr

/-- A core after reset. -/
def Core.zero : Core := ⟨CoreSt.zero, CoreSt.zero⟩
/-- What an unlisted core is. -/
def zCore : Nat → Core := fun _ => Core.zero

/-! ### Clusters and bays -/

/-- Whether a cluster domain has power (R417, R426, R430, R431). -/
inductive Power where
  | off
  | powering
  | on
  | parked
  | paused
  deriving DecidableEq, Repr

/-- The state of a cluster port (R363). -/
inductive PortSt where
  | opened
  | hold
  | park
  | reset
  | dark
  deriving DecidableEq, Repr

/-- A cluster site and its domain. `cnt` is the counter of COUNTED mode, in 2^-24 ns (R397); `ran` is the device time in
ns that it has taken in since the last time word, `cycRem` the part of a CCLK cycle under way, in 2^-24 ns, and `levelCyc`
counts the cycles at the present level of stretch (R390). `hotOff` says that heat has switched the site off (R431), and `leak`
is its leakage since the last slow loop, in pJ (R436). -/
structure Cluster where
  power : Power
  port : PortSt
  waking : Bool
  fenced : Bool
  routerFaulty : Bool
  owner : Option (Nat × Nat)
  coreMap : List Nat
  coreBad : Nat
  point : Nat
  change : Option (Nat × Bool)
  kept : Option Nat
  fastReq : Nat
  heatReq : Nat
  persistReq : Option (Nat × Nat)
  inrushReq : Option Nat
  stretch : Nat
  cnt : Nat
  counted : Bool
  slew : Int
  cntStop : Bool
  ran : Nat
  cycRem : Nat
  levelCyc : Nat
  pauseAt : Option Nat
  pausePoint : Nat
  heatAt : Nat
  liftAt : Nat
  coolAt : Option Nat
  hotOff : Bool
  leak : Nat
  episode : Bool
  idleSince : Nat
  fixes : List Nat
  due : Bool
  lent : Bool
  deriving DecidableEq, Repr

/-- A site at power-on: switched off, its port DARK (R363, R417); core map of R30 with all good. -/
def Cluster.zero : Cluster :=
  { power := .off, port := .dark, waking := false, fenced := false, routerFaulty := false, owner := .none,
    coreMap := List.range 16, coreBad := 0, point := 0, change := .none, kept := .none,
    fastReq := 0, heatReq := 0, persistReq := .none, inrushReq := .none, stretch := 0,
    cnt := 0, counted := false, slew := 0, cntStop := false, ran := 0, cycRem := 0, levelCyc := 0,
    pauseAt := .none, pausePoint := 0, heatAt := 0, liftAt := 0, coolAt := .none, hotOff := false, leak := 0, episode := false, idleSince := 0, fixes := [],
    due := false, lent := false }
/-- What an unlisted site is. -/
def zCl : Nat → Cluster := fun _ => Cluster.zero

/-- The power-on sequencer of a bay (R418 to R421). -/
structure PowerSeq where
  site : SiteId
  stage : Nat
  failNs : Nat
  slow : Bool
  deferSince : Option Nat
  hintDone : Bool
  deriving DecidableEq, Repr

/-- A bay: its rail, its aisle, its sequencer and its groom (R51, R409, R419, R422, R489). `unmapped` holds the logical
positions that no partition owns and whose index stays unmapped until a remap withdraws their half-bay (R45). `cool` names the
sensors of a bay switched off for heat that have read below 85 °C since, sites 0 to 35 and the aisle as 36 (R432), and `means`
holds the 1 µs means of the bay current over the last 1 ms with their device times (R422, R439). -/
structure Bay where
  conv : Bool
  railLost : Bool
  aisleDown : Bool
  thermOff : Bool
  seq : Option PowerSeq
  want : List SiteId
  assist : List SiteId
  assistUntil : Nat
  fastActAt : Option Nat
  fastEvtAt : Option Nat
  fastRelAt : Nat
  fenceN : List Nat
  fenceE : List Nat
  fenceS : List Nat
  fenceW : List Nat
  unmapped : List Nat
  cool : List Nat
  means : List (Nat × Nat)
  deriving DecidableEq, Repr

/-- A bay at power-on. -/
def Bay.zero : Bay :=
  { conv := false, railLost := false, aisleDown := false, thermOff := false, seq := .none, want := [],
    assist := [], assistUntil := 0, fastActAt := .none, fastEvtAt := .none, fastRelAt := 0,
    fenceN := [], fenceE := [], fenceS := [], fenceW := [], unmapped := [], cool := [], means := [] }
/-- What an unlisted bay is. -/
def zBay : Nat → Bay := fun _ => Bay.zero

/-- A groom (R334, R485, R489). -/
structure Groom where
  inService : Bool
  down : Bool
  hard : Bool
  fails : List Nat
  deriving DecidableEq, Repr

/-- A groom at power-on: not announced yet. -/
def Groom.zero : Groom := ⟨false, false, false, []⟩
/-- What an unlisted groom is. -/
def zGroom : Nat → Groom := fun _ => Groom.zero

/-! ### Partitions, jobs and rings -/

/-- The job states of R315, with their codes. -/
inductive JobState where
  | empty
  | loaded
  | armed
  | running
  | stepPending
  | halted
  | faulted
  | released
  deriving DecidableEq, Repr

/-- The code of a job state (R315). -/
def JobState.code : JobState → Nat
  | .empty => 0
  | .loaded => 1
  | .armed => 2
  | .running => 3
  | .stepPending => 4
  | .halted => 5
  | .faulted => 6
  | .released => 7

/-- The job of a partition (R315 to R325). `prep` says that what R318 asks before a launch has been set
going, `wipe` that the step starts from HALTED or FAULTED, `bootDt` is when the last boot overlay
landed, and `bodies` holds the loader body as the groom of each bay has read it for the step (R508). `energy` is what the
job has been charged since it was loaded, and `stepEnergy` what the step has been since its launch, in pJ (R437). -/
structure Job where
  st : JobState
  jobId : W32
  seed : W64
  step : W32
  manifest : List (BitVec 512)
  loader : Option Row
  launchDt : Nat
  actualDt : Nat
  armCmd : Option (Nat × Nat)
  prep : Bool
  wipe : Bool
  bootDt : Nat
  bodies : List (Nat × List (Nat × Bool))
  reason : Nat
  loadDt : Nat
  energy : Nat
  stepDt : Nat
  stepEnergy : Option Nat
  deriving DecidableEq, Repr

/-- No job (R298). -/
def Job.zero : Job :=
  { st := .empty, jobId := 0, seed := 0, step := 0, manifest := [], loader := .none,
    launchDt := 0, actualDt := 0, armCmd := .none, prep := false,
    wipe := false, bootDt := 0, bodies := [], reason := 0, loadDt := 0, energy := 0, stepDt := 0, stepEnergy := .none }

/-- A remote reference (R236). -/
structure RemoteRef where
  peer : BitVec 16
  handle : Nat
  key : W64
  deriving DecidableEq, Repr

/-- A load hint (R328, R425): `asked` is the launch DT asked for by the armed step against which it was placed. -/
structure Hint where
  part : Nat
  cls : Nat
  offsetUs : Nat
  durUs : Nat
  start : Option Nat
  asked : Option Nat
  active : Bool
  deriving DecidableEq, Repr

/-- The phase of a commit (R274). -/
inductive CommitPhase where
  | gate
  | apply
  deriving DecidableEq, Repr

/-- The progress marker of a shard in a commit (R279). -/
structure ShardSt where
  desc : Nat
  stack : Nat
  phase : Nat
  next : Nat
  finished : Bool
  deriving DecidableEq, Repr

/-- A commit in progress (R274 to R284): `wrote` says that a write has begun (R280). -/
structure Commit where
  ring : Nat
  idx : Nat
  phase : CommitPhase
  descs : List (BitVec 1024)
  shards : List ShardSt
  sums : List (Nat × Nat × W32 × Bool)
  torn : List Nat
  resumed : Bool
  wrote : Bool
  poisoned : SMap Nat
  stale : List (Nat × Nat)
  afterReset : Bool
  startDt : Nat
  deriving DecidableEq, Repr

/-- A digest in progress or waiting (R292): its entries; once started, its value and whether it read
poison. -/
structure Digest where
  ring : Nat
  idx : Nat
  started : Bool
  entries : List Row
  value : BitVec 128
  poison : Bool
  deriving DecidableEq, Repr

/-- A farrier grant in progress (R330, R531). -/
structure Grant where
  ring : Nat
  idx : Nat
  endDt : Nat
  maxCl : Nat
  visited : List SiteId
  deriving DecidableEq, Repr

/-- A partition (R298 to R303, R227). -/
structure Part where
  composed : Bool
  halfBays : List Nat
  stackSet : List Nat
  chans : List Nat
  base : Nat
  span : Nat
  ctrl : Option (Nat × Nat)
  resetAt : Option Nat
  sites : List (Option SiteId)
  lost : List Nat
  job : Job
  refs : SMap (Option RemoteRef)
  commit : Option Commit
  digests : List Digest
  grant : Option Grant
  hostCnt : SMap Nat
  deriving DecidableEq, Repr

/-- A partition that is not composed. -/
def Part.zero : Part :=
  { composed := false, halfBays := [], stackSet := [], chans := [], base := 0, span := 0,
    ctrl := .none, resetAt := .none, sites := [], lost := [], job := Job.zero, refs := [],
    commit := .none, digests := [], grant := .none, hostCnt := [] }
/-- What an unlisted partition is. -/
def zPart : Nat → Part := fun _ => Part.zero

/-- A ring (R304 to R312, R344). -/
structure Ring where
  part : Nat
  prio : Nat
  cls : Nat
  log2 : Nat
  base : Nat
  cpl : Nat
  enabled : Bool
  stopped : Bool
  stopIdx : W32
  prod : W32
  cons : W32
  intrAt : Nat
  intrDue : Bool
  deriving DecidableEq, Repr

/-- A ring at its defaults (R344). -/
def Ring.zero : Ring :=
  { part := 255, prio := 0, cls := 1, log2 := 6, base := 0, cpl := 0, enabled := false,
    stopped := false, stopIdx := 0, prod := 0, cons := 0, intrAt := 0, intrDue := false }
/-- What an unlisted ring is. -/
def zRing : Nat → Ring := fun _ => Ring.zero

/-- A ring command that has been fetched and has not completed (R309): `hint` is what a HINT_LOAD records, placed against
the step that is armed or running when it starts (R328). -/
structure RingCmd where
  ring : Nat
  idx : Nat
  part : Nat
  desc : BitVec 512
  startDt : Nat
  acted : Bool
  hint : Option Hint := none
  deriving DecidableEq, Repr

/-! ### Copies, windows, mesh -/

/-- A copy outstanding (R215 to R219). `acted` says its bytes have moved; `pkts` are window
packets not done yet; `retryUs` and `retryAt` stand for the delay after a RETRY (R364). -/
structure CopySt where
  num : Nat
  core : CoreId
  part : Nat
  eng : Nat
  bpc : Nat
  desc : Row
  acted : Bool
  adds : Nat
  pkts : List (BitVec 32)
  ovf : Bool
  retryUs : Nat
  retryAt : Nat
  deriving DecidableEq, Repr

/-- One granule of addends on its way to a memory-side adder (R243). -/
structure AddReq where
  copy : Nat
  hbm : Bool
  key : Nat
  wp32 : Bool
  guard : Nat
  addends : List (Int × Bool)
  poison : Bool
  deriving DecidableEq, Repr

/-- The delay of a source after a RETRY (R364): in µs, and the device time from which it sends again. -/
structure Retry where
  us : Nat
  due : Nat
  deriving DecidableEq, Repr

/-- A request that has drawn no RETRY. -/
def Retry.zero : Retry := ⟨0, 0⟩
/-- A RETRY answer at a device time: 1 µs, then twice as long each time, up to 64 µs (R364). -/
def Retry.again (r : Retry) (now : Nat) : Retry :=
  let us := if r.us = 0 then 1 else min 64 (2 * r.us)
  ⟨us, now + 1000 * us⟩

/-- A signal on its way (R185, R186). -/
structure Signal where
  src : CoreId
  dst : CoreId
  flag : Nat
  inc : Nat
  retry : Retry
  deriving DecidableEq, Repr

/-- A message or acknowledgement on its way to a core channel (R174, R337). -/
structure Mail where
  dst : CoreId
  chan : Nat
  item : MbItem
  retry : Retry
  deriving DecidableEq, Repr

/-- A window record (R235). -/
structure Window where
  part : Nat
  hbm : Bool
  base : Nat
  size : Nat
  rights : BitVec 3
  peer : BitVec 16
  key : W64
  notifyCore : BitVec 20
  notifyFlag : Nat
  notifyInc : Nat
  closing : Option (Nat × Nat)
  deriving DecidableEq, Repr

/-- A notify tracker (R239). -/
structure Tracker where
  src : BitVec 16
  cid : BitVec 24
  npkt : Nat
  window : Nat
  count : Nat
  marked : Bool
  lastDt : Nat
  deriving DecidableEq, Repr

/-- A window request sent and not answered (R462). -/
structure OutReq where
  tag : BitVec 32
  copy : Nat
  kind : WinKind
  pkt : WinPkt
  sentDt : Nat
  sends : Nat
  deriving DecidableEq, Repr

/-- What has arrived for a cluster in a change stop and takes effect once CCLK restarts (R387): an increment, a message, the
requests of a copy, a granule of addends under its source port and request number, a window packet, or the last bundle of
an overlay of a core. -/
inductive Arrival where
  | signal (g : Signal)
  | mail (m : Mail)
  | copy (num : Nat)
  | add (r : AddReq) (src : Nat) (num : BitVec 32)
  | window (kind : WinKind) (p : WinPkt)
  | overlay (c : CoreId)
  deriving DecidableEq, Repr

/-- A mesh request sent and not answered (R353, R364, R368), named by its source port and its request number: `src` is
2 * mesh position + port (0 CL, 1 AX). `resv` counts the response entries that its copy engine has reserved (R365). -/
structure MeshReq where
  src : Nat
  num : BitVec 32
  part : Nat
  dst : SiteId
  sentDt : Nat
  resends : Nat
  retryUs : Nat
  retryWait : Bool
  resv : Nat
  deriving DecidableEq, Repr

/-- Where a packet head goes next (R355, R357, R358, R367). -/
inductive Hop where
  | go (port : Nat) (esc dn : Bool)
  | here
  | discard
  | answerPoison
  | answerDone
  deriving DecidableEq, Repr

/-- A record of an applied request at an endpoint (R369): the endpoint, the source port, the number, when, and for one that
adds the granule whose addends have been applied. -/
structure MeshKept where
  endpt : Nat
  src : Nat
  num : BitVec 32
  dt : Nat
  gran : Nat
  deriving DecidableEq, Repr

/-- A flit in a queue (R352, R353, R362): its tag, REQ_HI, how often it has failed its check, and its FLOW. -/
structure QFlit where
  tag : BitVec 64
  reqHi : BitVec 20
  fails : Nat
  flow : BitVec 7
  deriving DecidableEq, Repr

/-- An asynchronous queue of one direction and plane of a crossing or a cluster port (R347, R360, R361): its flits, the
oldest first, the write and read pointers (modulo 128, Gray-coded on the wires), whether its writer's port served UPDATE
latest of BULK and UPDATE (R351), and when it replayed flits (R362). -/
structure FlitQueue where
  flits : List QFlit
  wptr : BitVec 7
  rptr : BitVec 7
  lastUpd : Bool
  replays : List Nat
  deriving DecidableEq, Repr

/-- A queue after power-on. -/
def FlitQueue.zero : FlitQueue := ⟨[], 0, 0, true, []⟩
/-- What an unlisted queue is. -/
def zQ : Nat → FlitQueue := fun _ => FlitQueue.zero

/-- A packet that waits at an output port for credits, or for a crossing that carries nothing (R351, R357, R361, R366):
its router, the port, its tag and REQ_HI, how many of its flits have not been written, whether its head has, and whether
it asks for data. Ports 0 to 3 are mesh ports, 4 is the cluster port's queue for requests and 5 the one for responses. -/
structure MeshWait where
  pos : Nat
  port : Nat
  tag : BitVec 64
  reqHi : BitVec 20
  left : Nat
  begun : Bool
  read : Bool
  deriving DecidableEq, Repr

/-- Route tables (R355, R356): every entry is a function of the working graph over which the yardmaster computed them,
which stands here: the aisles that are down, the routers that are faulty and the crossings that are fenced. -/
structure RouteTables where
  down : List Nat
  faulty : List SiteId
  fenced : List (Nat × Nat × Nat)
  deriving DecidableEq, Repr

/-- Tables over a mesh without a hole. -/
def RouteTables.full : RouteTables := ⟨[], [], []⟩

/-- The aisle mesh (R345 to R372): the tables of every router, the crossings that join at the next table switch (R370),
the queues of crossings and of cluster ports, the packets that wait, the requests outstanding, the next request number
of each source port, the records of applied requests, and where the latest head goes. -/
structure Mesh where
  active : RouteTables
  shadow : RouteTables
  joining : List (Nat × Nat × Nat)
  queues : SMap FlitQueue
  ports : SMap FlitQueue
  waits : List MeshWait
  reqs : List MeshReq
  nextNum : SMap (BitVec 32)
  kept : List MeshKept
  wires : List WireFail
  hop : Option Hop
  deriving DecidableEq, Repr

/-- The mesh at power-on. -/
def Mesh.zero : Mesh :=
  { active := RouteTables.full, shadow := RouteTables.full, joining := [], queues := [], ports := [], waits := [],
    reqs := [], nextNum := [], kept := [], wires := [], hop := .none }

/-! ### Links and fabric -/

/-- What the module has sent to the host beside its answers to accesses, which stand in the dictionary (R473). -/
inductive HostMsg where
  | hwr (addr : Nat) (data : Nat) (bytes : Nat)
  | hrd (tag : BitVec 32) (addr : Nat) (bytes : Nat)
  | intr (vec : Nat)
  deriving DecidableEq, Repr

/-- A read of host memory (R306, R326, R473): its tag, the ring and index that it serves, whether it fetches the data of a
COPY and not the command itself, its bytes, and the data once the card has returned them. -/
structure HostRead where
  tag : BitVec 32
  ring : Nat
  idx : Nat
  copy : Bool
  bytes : Nat
  data : Option (List Byte)
  deriving DecidableEq, Repr

/-- The reads of host memory, in the order in which they were sent, and the next tag. -/
structure HostReads where
  tag : BitVec 32
  reqs : List HostRead
  deriving DecidableEq, Repr

/-- No read of host memory has been sent. -/
def HostReads.zero : HostReads := ⟨0, []⟩

/-- The header of a WDONE (R460, R464). -/
structure DonePkt where
  dst : BitVec 16
  src : BitVec 16
  tag : BitVec 32
  ageUs : Nat
  ovf : Bool
  deriving DecidableEq, Repr

/-- A packet that is passed on for other modules (R442, R460). -/
structure RoutedPkt where
  dst : BitVec 16
  typ : Nat
  hops : Nat
  ageUs : Nat
  body : PktBody
  deriving DecidableEq, Repr

/-- What the module sends on a link (R446, R450, R453, R454, R460, R465, R470, R473): packets, and what its IDLE and CTRL flits
say. A CTRL flit names the good lanes and the pair boundary of a switch. -/
inductive LinkMsg where
  | window (kind : WinKind) (p : WinPkt)
  | wdone (d : DonePkt)
  | ann (m : TimeMsg)
  | delayReq (m : TimeMsg)
  | delayResp (m : TimeMsg)
  | mgmt (typ : Nat) (m : MgmtMsg)
  | forward (p : RoutedPkt)
  | host (m : HostMsg)
  | ctrl (lanes : Nat) (pair : BitVec 16)
  | replayFrom (seq : Nat)
  | nak (ack : Nat)
  | credit (vc : Nat) (dl : Bool) (n : Nat)
  deriving DecidableEq, Repr

/-- The channels of the aisle mesh that transit traffic between link dies uses (R442). -/
inductive Transit where
  | mgmt
  | bulk
  deriving DecidableEq, Repr

/-- A packet that waits at a link (R449, R459): since when, its class (2 * channel + DL), its bytes, and the mesh channel by
which it came from another link die. -/
structure LinkWait where
  since : Nat
  cls : Nat
  bytes : Nat
  via : Option Transit
  msg : LinkMsg
  deriving DecidableEq, Repr

/-- What has left on a link, or been delivered locally (none): its DL, the mesh channel by which it came from another link die,
and the flits that carry it (R442, R446). -/
structure LinkTx where
  link : Option Nat
  dl : Bool
  via : Option Transit
  msg : LinkMsg
  flits : List (BitVec 2048)
  deriving DecidableEq, Repr

/-- A DATA flit in the replay buffer (R446, R450): how often it has been sent, its class and its payload. -/
structure TxFlit where
  seq : Nat
  sent : Nat
  cls : Nat
  sop : Bool
  eop : Bool
  data : List Byte
  deriving DecidableEq, Repr

/-- A link (R440 to R456). `replay` holds the unacknowledged DATA flits; `rxOpen` the payload of the packet that each channel
is receiving (R447); `laneErr` the corrected symbols of each lane, with their time (R444, R453); `swap` the pair boundary at
which both ends switch to the lanes now good (R454). -/
structure Link where
  retraining : Bool
  enabled : Bool
  rxNext : Nat
  nakSent : Bool
  nakIn : Bool
  txNext : Nat
  replay : List TxFlit
  ackDt : Nat
  credits : SMap Nat
  wait : List LinkWait
  badLanes : List (Nat × List Nat)
  rxOpen : List (Nat × Bool × List Byte)
  laneErr : List (Nat × Nat × Nat)
  swap : Option (BitVec 16)
  retest : Bool
  upSince : Nat
  lastAnn : Option (Nat × TimeMsg)
  delay : Int
  t1 : Int
  deriving DecidableEq, Repr

/-- A link at power-on: DOWN (R478). -/
def Link.zero : Link :=
  { retraining := false, enabled := true, rxNext := 0, nakSent := false, nakIn := false, txNext := 0,
    replay := [], ackDt := 0, credits := [], wait := [], badLanes := [], rxOpen := [], laneErr := [],
    swap := .none, retest := false, upSince := 0, lastAnn := .none, delay := 0, t1 := 0 }
/-- What an unlisted link is. -/
def zLink : Nat → Link := fun _ => Link.zero

/-- What the module has sent on a sideband port (R567 to R570). -/
inductive SideMsg where
  | frame (route : Nat) (bytes : List Byte)
  | udp (ip : BitVec 32) (port : BitVec 16) (bytes : List Byte)
  | ibi (port group : Nat) (seq : W32)
  | nack (port : Nat)
  | arpReply (mac : BitVec 48) (ip : BitVec 32)
  | echoReply (ip : BitVec 32) (payload : List Byte)
  deriving DecidableEq, Repr

/-- The fabric state of the module (R465 to R472). -/
structure Fabric where
  inFabric : Bool
  parent : Option Nat
  lastTimeDt : Option Nat
  mseq : BitVec 16
  mseqDt : Nat
  annSeq : BitVec 16
  isMaster : Bool
  tookOver : Bool
  claim : Option (BitVec 16 × Nat)
  seen : List (BitVec 16 × BitVec 16)
  seenCut : List (Nat × BitVec 16 × BitVec 16)
  heard : Option (BitVec 16 × BitVec 16 × Bool)
  silent : Bool
  lockSince : Option Nat
  lostLogged : Bool
  ids : List (BitVec 128 × BitVec 16)
  tver : W32
  parts : List (Nat × List (BitVec 128 × BitVec 16))
  partsVer : W32
  idReqTag : W32
  idAsked : Bool
  idRetry : Option Nat
  deriving DecidableEq, Repr

/-- The fabric state at power-on. -/
def Fabric.zero : Fabric :=
  { inFabric := false, parent := .none, lastTimeDt := .none, mseq := 0, mseqDt := 0, annSeq := 0,
    isMaster := false, tookOver := false, claim := .none, seen := [], seenCut := [], heard := .none, silent := false,
    lockSince := .none, lostLogged := false, ids := [], tver := 0, parts := [], partsVer := 0,
    idReqTag := 0, idAsked := false, idRetry := .none }

/-! ### Log, dictionary, security, firmware -/

/-- An event record (R521), by its fields. -/
structure EvRec where
  code : Nat
  un : UnitId
  part : Option Nat
  lost : Bool
  supp : Nat
  dt : Nat
  seq : W32
  jobId : W32
  step : W32
  lunit : W32
  payload : List Nat
  deriving DecidableEq, Repr

/-- Suppression of one code and unit (R524). -/
structure Supp where
  code : Nat
  un : UnitId
  second : Nat
  count : Nat
  supp : Nat
  deriving DecidableEq, Repr

/-- The answer of an object-dictionary access (R556, R562, R563, R566). -/
structure OdAns where
  status : Nat
  typ : Nat
  total : Nat
  data : List Byte
  deriving DecidableEq, Repr

/-- The registers of the object dictionary and its stores (R555 to R565, R574). -/
structure Dict where
  val : SMap Nat
  sel : SMap Nat
  octets : SMap (List Byte)
  authArg : SMap (List Byte)
  authProof : SMap (List Byte)
  owner : SMap (List Byte)
  tackA : SMap Nat
  tackB : SMap Nat
  lastId : Bool
  tackLastId : Bool
  ownA : SMap (List Byte)
  ownB : SMap (List Byte)
  ans : Option OdAns
  deriving DecidableEq, Repr

/-- The log of the module and of its partitions (R520 to R524). -/
structure LogSt where
  recs : List EvRec
  plogs : SMap (Option (W32 × List EvRec))
  seq : W32
  supp : List Supp
  exists_ : Bool
  lostNext : Bool
  plost : SMap Bool
  alertSeq : Option W32
  alertAt : SMap Nat
  deriving DecidableEq, Repr

/-- The steering of a core site's MXE array (R28, R29, R481): the rows and the columns of its 34 x 34 cells that the
fuses mark bad. -/
structure MxeSteer where
  site : SiteId
  core : Nat
  rows : List Nat
  cols : List Nat
  deriving DecidableEq, Repr

/-- A fuse map (R42, R348, R481): the grade, the enabled half-bays and stacks, the units it marks bad, its copy of the
MXE steering, and the crossing wires that it marks bad. -/
structure FuseMap where
  gradeS : Bool
  halfBays : List Nat
  fstacks : List Nat
  bad : List UnitId
  steer : List MxeSteer
  wires : List WireFail
  deriving DecidableEq, Repr

/-- The fuse map of a WX3216-F without a bad unit (log 6). -/
def FuseMap.full : FuseMap := ⟨false, List.range 32, List.range 16, [], [], []⟩

/-- The mirror of a fuse map in the studbook, with its digest (R483). -/
structure Mirror where
  map : FuseMap
  digest : Nat
  deriving DecidableEq, Repr

/-- A studbook record (R494). -/
structure StudRec where
  un : UnitId
  cls : Nat
  source : Nat
  fails : Nat
  clean : Nat
  stFirst : Nat
  stLast : Nat
  stClean1 : Nat
  wasTransient : Bool
  detail : Nat
  deriving DecidableEq, Repr

/-- A copy of the studbook in the tack room, with its sequence number: the records, the spare assignments of the crossings and
the mirror (R348, R483, R500). -/
structure StudCopy where
  seq : Nat
  recs : List StudRec
  wires : List WireFail
  mirror : Option Mirror
  deriving DecidableEq, Repr

/-- An empty copy. -/
def StudCopy.zero : StudCopy := ⟨0, [], [], none⟩

/-- A farrier or known-answer run on a unit (R528). -/
structure FarRun where
  isUpc : Bool
  un : Nat
  known : Bool
  startDt : Nat
  pkg : ImgHdr
  deriving DecidableEq, Repr

/-- An empty image or package header. -/
def ImgHdr.none : ImgHdr :=
  { magic := 0, ver := 0, secVer := 0, minPeer := 0, bodyLen := 0, rsvZero := true, digest := 0,
    signer := 0, tests := 0, runMs := 0, answer := 0, bodyDigest := 0, sig := 0 }

/-- The base package of the image (R526): tests for both kinds of unit, and the longest run that the manual
allows; the manual gives no other field (log 6). -/
def ImgHdr.basePkg : ImgHdr := { ImgHdr.none with tests := 3, runMs := 60000 }

/-- Firmware and farrier packages (R505 to R511, R526 to R530). -/
structure Firm where
  running : ImgHdr
  staged : Option ImgHdr
  tack : ImgHdr
  tackVerified : Bool
  tackSlot : Nat
  away : Option Nat
  newUnits : List Nat
  base : ImgHdr
  pkg : ImgHdr
  runs : List FarRun
  upcClean : SMap Bool
  overdueAt : SMap Nat
  deriving DecidableEq, Repr

/-- Security (R538 to R552). -/
structure Sec where
  ownerKeys : SMap (List Byte)
  revoked : SMap Bool
  pwDigest : Option (BitVec 256)
  challenge : Option (BitVec 256 × Nat)
  proofScope : Nat
  maxScope : Nat
  lastRefused : Option Nat
  accepted : Option (Nat × Nat × Bool)
  quoteQueue : List (Nat × List Byte)
  atkIssued : SMap Nat
  deriving DecidableEq, Repr

/-- A kept sideband request and its answer (R571). -/
structure KeptReq where
  route : Nat
  tag : Nat
  bytes : List Byte
  answer : List Byte
  dt : Nat
  deriving DecidableEq, Repr

/-- Sideband ports (R568 to R571). -/
structure Side where
  kept : List KeptReq
  last : SMap (Option (List Byte))
  dyn : SMap (Option (BitVec 7))
  deriving DecidableEq, Repr

/-- The start phase and the elections (R484 to R493). -/
structure Start where
  pwrgood : Bool
  resetN : Bool
  coldStarted : Bool
  addrStrap : BitVec 3
  slewStrap : BitVec 2
  supplies : List (Nat × Nat)
  pmbMiss : SMap Nat
  stopped : Bool
  beatAt : Nat
  acting : Bool
  fewAcks : Nat
  stA : Nat
  stB : Nat
  studSeq : Nat
  studPend : Bool
  studA : StudCopy
  studB : StudCopy
  find : Option StartFind
  warm : Option (FuseFind × Bool)
  resetPend : Option (FuseFind × Bool)
  deriving DecidableEq, Repr

/-- BEAT and the device-time master (R376 to R383, R394 to R404). -/
structure Clock where
  dt : Nat
  dtFrac : Nat
  sub : Nat
  locked : Bool
  goodA : Bool
  goodB : Bool
  holdover : Bool
  gap : Bool
  selB : Bool
  spread : Nat
  spreadNext : Nat
  spreadPhase : Nat
  fabricErr : Int
  loopDt : Nat
  deriving DecidableEq, Repr

/-- Per-stack and per-pseudo-channel memory health (R229 to R234, R434), and the latest readings of the sensors of update
chiplets, by number, and of link dies, 8 + number (R429, R434). -/
structure MemHealth where
  seen : SMap (List (Nat × Nat))
  lanes : SMap (List Nat)
  spares : SMap Nat
  halved : SMap Bool
  stale : List (Nat × Nat)
  parity : SMap Nat
  dieTemp : SMap Nat
  deriving DecidableEq, Repr

/-- An update-table entry (R258): its step counter; absent entries read as 0. -/
structure UpdEntry where
  part : Nat
  stack : Nat
  uid : Nat
  ctr : W32
  deriving DecidableEq, Repr

/-- Why a step stops with a fault. No command of this block does: a core fault is a change of
state (R202), so no meaning raises this. Safe. -/
inductive Fault where
  /-- Raised by nothing; the closed type needs a constructor. Safe. -/
  | impossible
  deriving DecidableEq, Repr

/-- Why a command is refused. -/
inductive Refusal where
  /-- Raised by an arm of exec whose command has no meaning yet, by its mnemonic. Safe. -/
  | notModelled (mnemonic : String)
  deriving DecidableEq, Repr

/-- The state of the module. -/
structure State where
  pending : List Instr
  clk : Clock
  st : Nat
  fresh : Nat
  start : Start
  dict : Dict
  log : LogSt
  cores : SMap Core
  clusters : SMap Cluster
  cmem : SMap Byte
  cmemPoison : SMap Bool
  cmemOvf : SMap Bool
  hbm : SMap Byte
  hbmPoison : SMap Bool
  hbmOvf : SMap Bool
  hbmData : Option (List Byte × Bool)
  health : MemHealth
  bays : SMap Bay
  grooms : SMap Groom
  copies : List CopySt
  nextCopy : Nat
  adds : List AddReq
  signals : List Signal
  landing : List (SiteId × Arrival)
  mails : List Mail
  posts : SMap Nat
  hostWait : List (Nat × Nat × MbItem)
  hpCnt : SMap Nat
  windows : SMap (Option Window)
  trackers : List Tracker
  untracked : List (BitVec 16 × BitVec 24 × Nat)
  keptWin : List (BitVec 16 × BitVec 32 × Nat)
  nextCid : BitVec 24
  nextTag : BitVec 32
  outReqs : List OutReq
  mesh : Mesh
  mgmt : SMap (List MbItem)
  coreSteer : List MxeSteer
  upcSram : SMap (List Byte)
  parts : SMap Part
  rings : SMap Ring
  cmds : List RingCmd
  hints : List Hint
  upd : List UpdEntry
  stuck : List (Nat × Nat × Nat)
  upcWait : List (Nat × Nat)
  upcPassed : SMap Bool
  links : SMap Link
  hostPort : Nat
  routes : SMap Nat
  fabric : Fabric
  hostTx : List HostMsg
  hrd : HostReads
  hostDone : Nat
  linkTx : List LinkTx
  linkRx : List (Nat × Nat × Bool × List Byte)
  sideTx : List SideMsg
  fuse : FuseMap
  fused : FuseMap
  mirror : Option Mirror
  stud : List StudRec
  firm : Firm
  sec : Sec
  side : Side
  thermTrip : Bool
  deriving DecidableEq, Repr

/-- The module with its supplies up and before PWRGOOD rises: every entry at its default, every
memory and queue empty, every cluster site off (R205, R213, R417, R581; log 4, 6, 8). -/
def State.reset : State :=
  { pending := []
    clk := { dt := 0, dtFrac := 0, sub := 0, locked := false, goodA := false, goodB := false, gap := false,
             holdover := false, selB := false, spread := 4, spreadNext := 4, spreadPhase := 0,
             fabricErr := 0, loopDt := 0 }
    st := 0
    fresh := 0
    start := { pwrgood := false, resetN := true, coldStarted := false, addrStrap := 0,
               slewStrap := 0, supplies := [], pmbMiss := [], stopped := false, beatAt := 0, acting := false, fewAcks := 0,
               stA := 0, stB := 0, studSeq := 0, studPend := false, studA := StudCopy.zero, studB := StudCopy.zero,
               find := .none, warm := .none, resetPend := .none }
    dict := { val := [], sel := [], octets := [], authArg := [], authProof := [], owner := [],
              tackA := [], tackB := [], lastId := false, tackLastId := false, ownA := [], ownB := [], ans := .none }
    log := { recs := [], plogs := [], seq := 0, supp := [], exists_ := false,
             lostNext := false, plost := [], alertSeq := .none, alertAt := [] }
    cores := []
    clusters := []
    cmem := []
    cmemPoison := []
    cmemOvf := []
    hbm := []
    hbmPoison := []
    hbmOvf := []
    hbmData := .none
    health := { seen := [], lanes := [], spares := [], halved := [], stale := [], parity := [], dieTemp := [] }
    bays := []
    grooms := []
    copies := []
    nextCopy := 0
    adds := []
    signals := []
    mails := []
    landing := []
    posts := []
    hostWait := []
    hpCnt := []
    windows := []
    trackers := []
    untracked := []
    keptWin := []
    nextCid := 0
    nextTag := 0
    outReqs := []
    mesh := Mesh.zero
    mgmt := []
    coreSteer := []
    upcSram := []
    parts := []
    rings := []
    cmds := []
    hints := []
    upd := []
    stuck := []
    upcWait := []
    upcPassed := []
    links := []
    hostPort := 34
    routes := []
    fabric := Fabric.zero
    hostTx := []
    hrd := HostReads.zero
    hostDone := 0
    linkTx := []
    linkRx := []
    sideTx := []
    fuse := FuseMap.full
    fused := FuseMap.full
    mirror := .none
    stud := []
    firm := { running := ImgHdr.none, staged := .none, tack := ImgHdr.none, tackVerified := true,
              tackSlot := 0, away := .none, newUnits := [], base := ImgHdr.basePkg, pkg := ImgHdr.basePkg, runs := [],
              upcClean := [], overdueAt := [] }
    sec := { ownerKeys := [], revoked := [], pwDigest := .none, challenge := .none,
             proofScope := 0, maxScope := 0, lastRefused := .none, accepted := .none,
             quoteQueue := [], atkIssued := [] }
    side := { kept := [], last := [], dyn := [] }
    thermTrip := false }

end Sys2Proof.Machine
end

