-- ==== Sys2Proof/Machine/CpDesc.lean ====
section
/-! DEFINITION. The copy descriptor (R208, R215 to R217) and the overlay descriptor (R177, R179). -/

namespace Sys2Proof.Machine

open Sys2Proof

/-- A copy descriptor, by its fields (R215); `units` is LEN + 1, in 32-byte units. -/
structure CopyDesc where
  opc : Nat
  wp32 : Bool
  esel : Bool
  ssp : Nat
  dsp : Nat
  units : Nat
  cflag : Nat
  cinc : Nat
  tflag : Nat
  tinc : Nat
  tcore : Nat
  eSrc : BitVec 16
  eDst : BitVec 16
  guard : Nat
  src : Nat
  dst : Nat
  deriving DecidableEq, Repr

/-- The fields of a descriptor row (R215). -/
def copyDesc (d : Row) : CopyDesc :=
  { opc := fld d 4 2, wp32 := d.getLsbD 6, esel := d.getLsbD 7, ssp := fld d 8 3, dsp := fld d 11 3,
    units := fld d 16 20 + 1, cflag := fld d 36 6, cinc := fld d 42 10, tflag := fld d 52 6,
    tinc := fld d 58 10, tcore := fld d 68 20, eSrc := d.extractLsb' 88 16, eDst := d.extractLsb' 104 16,
    guard := fld d 120 4, src := fld d 128 64, dst := fld d 192 64 }

/-- The partition-relative cluster of an address of LSP, CMEM, ACT or LUT (R208). -/
def adCluster (a : Nat) : Nat := a / 2 ^ 32 % 65536
/-- The logical core of an address of LSP, ACT or LUT (R208). -/
def adCore (a : Nat) : Nat := a / 65536 % 16
/-- Whether an address names a row, byte offset or window offset inside its space (R208, R217):
`n` is the count of 32-byte units from it on. -/
def adOk (sp a n ncl hbmSize : Nat) (ref : Nat → Bool) : Bool :=
  if sp = 0 then
    a / 2 ^ 12 % 16 == 0 && a / 2 ^ 20 % 2 ^ 12 == 0 && decide (a < 2 ^ 48) && decide (adCluster a < ncl) &&
      decide (a % 4096 + n ≤ 4096)
  else if sp = 1 then
    a / 2 ^ 23 % 2 ^ 9 == 0 && decide (a < 2 ^ 48) && decide (adCluster a < ncl) && a % 32 == 0 &&
      decide (a % 2 ^ 23 + 32 * n ≤ 2 ^ 23)
  else if sp = 2 then a % 32 == 0 && decide (a + 32 * n ≤ hbmSize)
  else if sp = 3 then a % 32 == 0 && ref (a / 2 ^ 56)
  else if sp = 4 || sp = 5 then
    a / 2 ^ 20 % 2 ^ 12 == 0 && decide (a < 2 ^ 48) && decide (adCluster a < ncl) && a % 32 == 0 &&
      decide (a % 65536 + 32 * n ≤ if sp = 4 then 33024 else 4096)
  else false

/-- The spaces of an operation (R216). -/
def spacesOk (opc ssp dsp : Nat) : Bool :=
  if opc = 0 then decide (ssp ≤ 2) && decide (dsp ≤ 5)
  else if opc = 1 then decide (ssp ≤ 2) && decide (1 ≤ dsp) && decide (dsp ≤ 3)
  else if opc = 2 then ssp == 0 && decide (dsp ≤ 3)
  else (ssp == 1 || ssp == 2) && dsp == 0

/-- The unit index of an address in its space, for alignment and overlap: rows of LSP, else bytes / 32. -/
def adUnit (sp a : Nat) : Nat := if sp = 0 then a % 4096 else if sp = 1 then a % 2 ^ 23 / 32
  else if sp = 2 then a / 32 else a % 2 ^ 56 / 32

/-- Whether two addresses of one space lie in one memory. -/
def adSame (sp a b : Nat) : Bool :=
  if sp = 0 then a / 65536 == b / 65536 else if sp = 1 then adCluster a == adCluster b else true

/-- The descriptor check of R217. "TFLAG and TCORE are non-zero while TINC is zero" is taken to fail when either of them
is non-zero (DESIGN CHOICE, log 82). -/
def copyOk (d : Row) (ncl hbmSize : Nat) (ref : Nat → Bool) : Bool :=
  let x := copyDesc d
  let even (sp a : Nat) : Bool := adUnit sp a % 2 == 0
  fld d 0 4 == 5 && fld d 14 2 == 0 && fld d 124 4 == 0 && spacesOk x.opc x.ssp x.dsp &&
    (if x.opc = 2 then x.src == 0 else adOk x.ssp x.src x.units ncl hbmSize ref) &&
    adOk x.dsp x.dst (if x.opc = 3 then 1 else x.units) ncl hbmSize ref &&
    (x.opc != 1 || (even x.ssp x.src && even x.dsp x.dst && x.units % 2 == 0)) &&
    (x.opc != 2 || x.dsp == 0 || (even x.dsp x.dst && x.units % 2 == 0)) &&
    (x.opc != 3 || (even x.ssp x.src && x.units % 2 == 0)) &&
    !(x.opc == 0 && x.ssp == x.dsp && adSame x.ssp x.src x.dst &&
      decide (adUnit x.ssp x.src < adUnit x.dsp x.dst + x.units) &&
      decide (adUnit x.dsp x.dst < adUnit x.ssp x.src + x.units)) &&
    x.cinc != 0 &&
    (if x.tinc = 0 then x.tflag == 0 && x.tcore == 0
     else decide (x.tcore % 65536 < ncl) && x.dsp != 3) &&
    (x.opc == 1 || (!x.wp32 && !x.esel && x.eSrc == 0 && x.eDst == 0 && x.guard == 0)) &&
    decide (x.guard ≤ 12) && (!x.esel || (x.ssp == 0 && !x.wp32))

/-- An overlay descriptor's IMEM_START, bundle count, FLAG, INC and SRC (R177). -/
structure OvlDesc where
  start : Nat
  count : Nat
  flag : Nat
  inc : Nat
  src : Nat
  deriving DecidableEq, Repr

/-- The fields of an overlay descriptor row (R177). -/
def ovlDesc (d : Row) : OvlDesc :=
  ⟨fld d 4 11, fld d 15 11 + 1, fld d 26 6, fld d 32 10, fld d 48 64⟩

/-- The overlay check of R177 and R179. -/
def ovlOk (d : Row) (hbmSize : Nat) : Bool :=
  let x := ovlDesc d
  fld d 0 4 == 4 && x.inc != 0 && fld d 42 6 == 0 && fld d 112 144 == 0 && x.src % 32 == 0 &&
    decide (x.start + x.count ≤ 2048) && decide (x.src + 32 * x.count ≤ hbmSize)

end Sys2Proof.Machine
end

