-- ==== Sys2Proof/Machine/OdTable.lean ====
section
/-! DEFINITION. The entries of the object dictionary: index, sub-index, type, rights, default and
persistence of each, as the entry tables of the chapters state them (R207, R255, R297, R344, R374,
R407, R439, R478, R514, R537, R554, R575, R576). -/

namespace Sys2Proof.Machine

open Sys2Proof

/-- One row of an entry table: `n` indices from `index`, `m` sub-indices from `sub`; the type code of
R556; rights of classes HP, SB, HU and of the route's own class (0 none, 1 RO, 2 RW); the default;
persistence (0 VOLATILE, 1 STORED, 2 FUSED, R558). -/
structure OdRow where
  index : Nat
  n : Nat
  sub : Nat
  m : Nat
  typ : Nat
  hp : Nat
  sb : Nat
  hu : Nat
  own : Nat
  dflt : Nat
  pers : Nat
  deriving DecidableEq, Repr

/-- Entry tables, part 1. -/
def odTable1 : List OdRow :=
  [ ⟨0x1000, 1, 0x01, 1, 10, 1, 1, 1, 0, 0, 2⟩ /- VENDOR_NAME -/,
    ⟨0x1000, 1, 0x02, 1, 10, 1, 1, 1, 0, 0, 2⟩ /- PRODUCT_NAME -/,
    ⟨0x1000, 1, 0x03, 1, 10, 1, 1, 1, 0, 0, 2⟩ /- PART_NUMBER -/,
    ⟨0x1000, 1, 0x04, 1, 2, 1, 1, 1, 0, 0, 2⟩ /- GRADE -/,
    ⟨0x1000, 1, 0x05, 1, 11, 1, 1, 1, 0, 0, 2⟩ /- SERIAL -/,
    ⟨0x1000, 1, 0x06, 1, 4, 1, 1, 1, 0, 4294967295, 2⟩ /- HALF_BAYS_ENABLED -/,
    ⟨0x1000, 1, 0x07, 1, 3, 1, 1, 1, 0, 65535, 2⟩ /- STACKS_ENABLED -/,
    ⟨0x1000, 1, 0x08, 1, 10, 1, 1, 0, 0, 0, 2⟩ /- SILICON_STEP -/,
    ⟨0x1000, 1, 0x09, 1, 3, 1, 1, 1, 0, 256, 2⟩ /- OD_LAYOUT -/,
    ⟨0x1000, 1, 0x0A, 1, 11, 1, 1, 0, 0, 0, 0⟩ /- FUSE_MAP_DIGEST -/,
    ⟨0x1100, 1, 0x01, 1, 2, 1, 1, 1, 0, 1, 2⟩ /- LIFECYCLE -/,
    ⟨0x1100, 1, 0x02, 1, 2, 1, 1, 1, 0, 0, 2⟩ /- OWNER_EPOCH -/,
    ⟨0x1100, 1, 0x03, 1, 11, 1, 1, 0, 0, 0, 2⟩ /- OWNER_KEY -/,
    ⟨0x1100, 1, 0x04, 1, 11, 1, 1, 1, 0, 0, 0⟩ /- IDK_PUBLIC -/,
    ⟨0x1140, 1, 0x01, 1, 11, 1, 1, 0, 0, 0, 0⟩ /- AUTH_CHALLENGE -/,
    ⟨0x1140, 1, 0x02, 1, 2, 2, 2, 0, 0, 0, 0⟩ /- AUTH_OP -/,
    ⟨0x1140, 1, 0x03, 1, 11, 2, 2, 0, 0, 0, 0⟩ /- AUTH_ARG -/,
    ⟨0x1140, 1, 0x04, 1, 11, 2, 2, 0, 0, 0, 0⟩ /- AUTH_PROOF -/,
    ⟨0x1140, 1, 0x05, 1, 2, 2, 2, 0, 0, 0, 0⟩ /- AUTH_CTRL -/,
    ⟨0x1140, 1, 0x06, 1, 2, 1, 1, 0, 0, 0, 0⟩ /- AUTH_STATUS -/,
    ⟨0x1140, 1, 0x07, 1, 2, 1, 1, 0, 0, 0, 0⟩ /- AUTH_FAIL_COUNT -/,
    ⟨0x1140, 1, 0x08, 1, 2, 1, 1, 0, 0, 0, 0⟩ /- DEBUG_SCOPE -/,
    ⟨0x1140, 1, 0x09, 1, 11, 1, 1, 0, 0, 0, 2⟩ /- PW_SALT -/,
    ⟨0x1140, 1, 0x0A, 1, 11, 2, 0, 0, 0, 0, 2⟩ /- PW_DIGEST -/,
    ⟨0x1140, 1, 0x0B, 1, 2, 2, 0, 0, 0, 0, 2⟩ /- PW_MAX_SCOPE -/,
    ⟨0x1142, 1, 0x01, 1, 11, 1, 1, 1, 0, 0, 1⟩ /- ID_CERT -/,
    ⟨0x1142, 1, 0x02, 1, 11, 1, 1, 1, 0, 0, 1⟩ /- ATK_CERT -/,
    ⟨0x1142, 1, 0x03, 1, 2, 1, 1, 0, 0, 0, 2⟩ /- VENDOR_KEYS_REVOKED -/,
    ⟨0x1148, 34, 0x01, 1, 11, 0, 0, 0, 2, 0, 0⟩ /- QUOTE_NONCE -/,
    ⟨0x1148, 34, 0x02, 1, 2, 0, 0, 0, 2, 0, 0⟩ /- QUOTE_CTRL -/,
    ⟨0x1148, 34, 0x03, 1, 2, 0, 0, 0, 1, 0, 0⟩ /- QUOTE_STATUS -/,
    ⟨0x1148, 34, 0x04, 1, 11, 0, 0, 0, 1, 0, 0⟩ /- QUOTE -/,
    ⟨0x1180, 1, 0x01, 1, 5, 1, 0, 0, 0, 0, 0⟩ /- OD_DENIED_COUNT -/,
    ⟨0x1180, 1, 0x02, 1, 92, 1, 0, 0, 0, 0, 0⟩ /- OD_DENIED_BY_ROUTE -/,
    ⟨0x1180, 1, 0x03, 1, 2, 1, 1, 0, 0, 0, 0⟩ /- STORED_SOURCE -/,
    ⟨0x1180, 1, 0x04, 1, 1, 2, 2, 0, 0, 1, 1⟩ /- SB_ETH_ENABLE -/,
    ⟨0x1180, 1, 0x05, 1, 4, 2, 2, 0, 0, 0, 1⟩ /- SB_IPV4_ADDR -/,
    ⟨0x1180, 1, 0x06, 1, 3, 2, 2, 0, 0, 30326, 1⟩ /- SB_UDP_PORT -/,
    ⟨0x1180, 1, 0x07, 1, 4, 2, 2, 0, 0, 0, 1⟩ /- SB_ETH_PEER -/,
    ⟨0x1180, 1, 0x08, 1, 11, 1, 1, 0, 0, 0, 2⟩ /- SB_ETH_MAC -/ ]

/-- Entry tables, part 2. -/
def odTable2 : List OdRow :=
  [ ⟨0x1180, 1, 0x09, 1, 3, 2, 2, 0, 0, 0, 1⟩ /- SB_ALERT_MASK -/,
    ⟨0x1180, 1, 0x0A, 1, 5, 1, 1, 0, 0, 0, 0⟩ /- SB_FRAME_ERROR_COUNT -/,
    ⟨0x2000, 1, 0x01, 1, 4, 2, 2, 0, 0, 15000, 1⟩ /- POWER_CAP_W -/,
    ⟨0x2000, 1, 0x02, 1, 4, 1, 1, 0, 0, 0, 0⟩ /- MODULE_POWER_W -/,
    ⟨0x2000, 1, 0x03, 1, 5, 1, 1, 0, 0, 0, 0⟩ /- MODULE_ENERGY_MJ -/,
    ⟨0x2000, 1, 0x04, 1, 5, 1, 1, 0, 0, 0, 0⟩ /- ENERGY_UNATTRIBUTED -/,
    ⟨0x2000, 1, 0x05, 1, 8, 1, 1, 0, 0, 1065353216, 0⟩ /- ENERGY_CAL_FACTOR -/,
    ⟨0x2000, 1, 0x06, 1, 1, 1, 1, 0, 0, 0, 0⟩ /- CAP_LIMITING -/,
    ⟨0x2000, 1, 0x07, 1, 3, 1, 1, 0, 0, 0, 0⟩ /- BAY_RAIL_LOST -/,
    ⟨0x2000, 1, 0x08, 1, 3, 1, 1, 0, 0, 0, 0⟩ /- AISLE_FEED_OPEN -/,
    ⟨0x2000, 1, 0x09, 1, 3, 2, 0, 0, 0, 0, 0⟩ /- BAY_REENABLE -/,
    ⟨0x2000, 1, 0x0A, 1, 4, 2, 0, 0, 0, 1000, 1⟩ /- PARK_IDLE_US -/,
    ⟨0x2000, 1, 0x0B, 1, 5, 1, 1, 0, 0, 0, 0⟩ /- INRUSH_DEFERRED_COUNT -/,
    ⟨0x2000, 1, 0x0C, 1, 5, 1, 1, 0, 0, 0, 0⟩ /- FAST_LOOP_ACTION_COUNT -/,
    ⟨0x2010, 16, 0x01, 1, 3, 1, 1, 0, 0, 700, 0⟩ /- BAY_RAIL_SETPOINT_MV -/,
    ⟨0x2010, 16, 0x02, 1, 3, 1, 1, 0, 0, 0, 0⟩ /- BAY_CURRENT_A -/,
    ⟨0x2010, 16, 0x03, 1, 3, 2, 2, 0, 0, 1250, 1⟩ /- BAY_CURRENT_LIMIT_A -/,
    ⟨0x2010, 16, 0x04, 1, 3, 1, 1, 0, 0, 1250, 0⟩ /- BAY_LIMIT_EFF -/,
    ⟨0x2010, 16, 0x05, 1, 4, 1, 1, 0, 0, 0, 0⟩ /- BAY_SHARE_W -/,
    ⟨0x2010, 16, 0x06, 1, 3, 2, 1, 0, 0, 65535, 0⟩ /- BAY_MIN_V -/,
    ⟨0x2010, 16, 0x07, 1, 9, 1, 1, 0, 0, 0, 0⟩ /- BAY_MIN_V_DT -/,
    ⟨0x2100, 16, 0x01, 36, 3, 2, 1, 0, 0, 65535, 0⟩ /- MIN_V -/,
    ⟨0x2120, 16, 0x01, 36, 9, 1, 1, 0, 0, 0, 0⟩ /- MIN_V_DT -/,
    ⟨0x2140, 16, 0x01, 36, 4, 1, 1, 0, 0, 0, 1⟩ /- LDO_SLICES_FAILED -/,
    ⟨0x2200, 32, 0x01, 1, 2, 2, 0, 0, 0, 0, 0⟩ /- PART_POINT_CEIL -/,
    ⟨0x2400, 1, 0x01, 1, 1, 1, 1, 0, 0, 0, 0⟩ /- THERM_TRIP_LATCHED -/,
    ⟨0x2400, 1, 0x02, 1, 6, 1, 1, 0, 0, 0, 0⟩ /- HOTTEST_C -/,
    ⟨0x2400, 1, 0x03, 1, 5, 1, 1, 0, 0, 0, 0⟩ /- THERM_STEPDOWN_COUNT -/,
    ⟨0x2400, 1, 0x04, 1, 5, 1, 1, 0, 0, 0, 0⟩ /- THERM_PAUSE_COUNT -/,
    ⟨0x2400, 1, 0x05, 1, 5, 1, 1, 0, 0, 0, 0⟩ /- THERM_OFF_COUNT -/,
    ⟨0x2400, 1, 0x10, 16, 6, 1, 1, 0, 0, 0, 0⟩ /- AISLE_TEMP_C -/,
    ⟨0x2410, 16, 0x01, 36, 6, 1, 1, 0, 0, 0, 0⟩ /- CLUSTER_TEMP_C -/,
    ⟨0x2800, 1, 0x01, 1, 2, 2, 2, 0, 0, 0, 1⟩ /- REFCLK_SELECT -/,
    ⟨0x2800, 1, 0x02, 1, 2, 1, 1, 0, 0, 0, 0⟩ /- REFCLK_STATUS -/,
    ⟨0x2800, 1, 0x03, 1, 2, 2, 1, 0, 0, 4, 1⟩ /- BEAT_SPREAD -/,
    ⟨0x2800, 1, 0x04, 1, 2, 1, 1, 0, 0, 16, 0⟩ /- LEAD_NODE -/,
    ⟨0x2800, 1, 0x05, 1, 4, 1, 1, 0, 0, 0, 0⟩ /- BEAT_NODES_DOWN -/,
    ⟨0x2800, 1, 0x06, 1, 9, 1, 1, 1, 0, 0, 0⟩ /- DT_NOW -/,
    ⟨0x2800, 1, 0x07, 1, 1, 1, 1, 1, 0, 0, 0⟩ /- FABRIC_LOCK -/,
    ⟨0x2800, 1, 0x08, 1, 7, 1, 1, 0, 0, 0, 0⟩ /- FABRIC_OFFSET -/ ]

/-- Entry tables, part 3. -/
def odTable3 : List OdRow :=
  [ ⟨0x2800, 1, 0x09, 1, 2, 2, 0, 0, 0, 0, 0⟩ /- DT_STEP_REQ -/,
    ⟨0x2800, 1, 0x0A, 1, 5, 1, 1, 0, 0, 0, 0⟩ /- TIME_WORD_ERROR_COUNT -/,
    ⟨0x2800, 1, 0x0B, 1, 5, 1, 1, 0, 0, 0, 0⟩ /- LAUNCH_SKEW_EXCEEDED_COUNT -/,
    ⟨0x2800, 1, 0x0C, 1, 5, 1, 1, 0, 0, 0, 0⟩ /- OP_CHANGE_COUNT -/,
    ⟨0x2800, 1, 0x0D, 1, 5, 1, 1, 0, 0, 0, 0⟩ /- STRETCH_S1_TOTAL -/,
    ⟨0x2800, 1, 0x0E, 1, 5, 1, 1, 0, 0, 0, 0⟩ /- STRETCH_S2_TOTAL -/,
    ⟨0x2800, 1, 0x0F, 1, 5, 1, 1, 0, 0, 0, 0⟩ /- STRETCH_S3_TOTAL -/,
    ⟨0x2900, 16, 0x01, 36, 2, 1, 1, 0, 0, 6, 0⟩ /- CLUSTER_POINT -/,
    ⟨0x2920, 16, 0x01, 36, 5, 1, 1, 0, 0, 0, 0⟩ /- STRETCH_CYC -/,
    ⟨0x3400, 1, 0x01, 1, 4, 2, 1, 0, 0, 1000000, 1⟩ /- FLAG_WAIT_LIMIT -/,
    ⟨0x3400, 1, 0x02, 1, 5, 1, 1, 0, 0, 0, 0⟩ /- LSP_BIT_FIX_COUNT -/,
    ⟨0x3400, 1, 0x03, 1, 5, 1, 1, 0, 0, 0, 0⟩ /- LSP_SYMBOL_FIX_COUNT -/,
    ⟨0x3400, 1, 0x04, 1, 5, 1, 1, 0, 0, 0, 0⟩ /- LSP_UNCORRECTABLE_COUNT -/,
    ⟨0x3400, 1, 0x05, 1, 5, 1, 1, 0, 0, 0, 0⟩ /- IMEM_SYMBOL_FIX_COUNT -/,
    ⟨0x3400, 1, 0x06, 1, 5, 1, 1, 0, 0, 0, 0⟩ /- HOLD_CYC_TOTAL -/,
    ⟨0x3400, 1, 0x07, 1, 5, 1, 1, 0, 0, 0, 0⟩ /- CORE_FAULT_COUNT -/,
    ⟨0x3400, 1, 0x08, 1, 5, 1, 1, 0, 0, 0, 0⟩ /- BANK_CONFLICT_COUNT -/,
    ⟨0x3400, 1, 0x09, 1, 5, 1, 1, 0, 0, 0, 0⟩ /- SCRUB_LATE_COUNT -/,
    ⟨0x3400, 1, 0x0A, 1, 5, 1, 1, 0, 0, 0, 0⟩ /- IMEM_BIT_FIX_COUNT -/,
    ⟨0x3500, 1, 0x01, 1, 5, 1, 1, 0, 0, 0, 0⟩ /- CMEM_SYMBOL_FIX_COUNT -/,
    ⟨0x3500, 1, 0x02, 1, 5, 1, 1, 0, 0, 0, 0⟩ /- CMEM_UNCORRECTABLE_COUNT -/,
    ⟨0x3500, 1, 0x03, 1, 5, 1, 1, 0, 0, 0, 0⟩ /- COPY_POISON_CARRIED_COUNT -/,
    ⟨0x3500, 1, 0x04, 1, 5, 1, 1, 0, 0, 0, 0⟩ /- AADDX_OVERFLOW_COUNT -/,
    ⟨0x3600, 1, 0x01, 1, 4, 1, 1, 0, 0, 0, 0⟩ /- MESH_ROUTE_EPOCH -/,
    ⟨0x3600, 1, 0x02, 1, 3, 1, 1, 0, 0, 0, 0⟩ /- AISLES_DOWN -/,
    ⟨0x3600, 1, 0x03, 1, 5, 1, 1, 0, 0, 0, 0⟩ /- CROSSING_REPLAY_COUNT -/,
    ⟨0x3600, 1, 0x04, 1, 5, 1, 1, 0, 0, 0, 0⟩ /- MESH_RETRY_COUNT -/,
    ⟨0x3600, 1, 0x05, 1, 5, 1, 1, 0, 0, 0, 0⟩ /- MESH_RESEND_COUNT -/,
    ⟨0x3600, 1, 0x06, 1, 5, 1, 1, 0, 0, 0, 0⟩ /- MESH_DUPLICATE_COUNT -/,
    ⟨0x3600, 1, 0x07, 1, 5, 1, 0, 0, 0, 0, 0⟩ /- MESH_RESET_DROP_COUNT -/,
    ⟨0x3600, 1, 0x08, 1, 5, 1, 1, 0, 0, 0, 0⟩ /- MESH_DARK_DROP_COUNT -/,
    ⟨0x3600, 1, 0x09, 1, 5, 1, 1, 0, 0, 0, 0⟩ /- MESH_UNREACH_DROP_COUNT -/,
    ⟨0x3600, 1, 0x0A, 1, 5, 1, 1, 0, 0, 0, 0⟩ /- MESH_AGED_DROP_COUNT -/,
    ⟨0x3600, 1, 0x0B, 1, 5, 1, 1, 0, 0, 0, 0⟩ /- MESH_MALFORMED_COUNT -/,
    ⟨0x3600, 1, 0x0C, 1, 5, 1, 1, 0, 0, 0, 0⟩ /- MESH_ESCAPE_COUNT -/,
    ⟨0x3610, 16, 0x01, 1, 4, 1, 1, 0, 0, 0, 0⟩ /- CROSSINGS_FENCED -/,
    ⟨0x3610, 16, 0x02, 1, 3, 1, 1, 0, 0, 0, 1⟩ /- SPARE_WIRES_USED -/,
    ⟨0x3610, 16, 0x03, 1, 2, 1, 1, 0, 0, 0, 1⟩ /- SPARE_GROUPS_USED -/,
    ⟨0x3610, 16, 0x04, 1, 5, 1, 1, 0, 0, 0, 1⟩ /- ROUTERS_FAULTY -/,
    ⟨0x3800, 1, 0x01, 1, 2, 1, 1, 1, 0, 1, 0⟩ /- START_STATE -/ ]

/-- Entry tables, part 4. -/
def odTable4 : List OdRow :=
  [ ⟨0x3800, 1, 0x02, 1, 1, 1, 1, 0, 0, 0, 0⟩ /- LAST_START_WARM -/,
    ⟨0x3800, 1, 0x03, 1, 2, 2, 2, 0, 0, 0, 0⟩ /- MODULE_RESET -/,
    ⟨0x3800, 1, 0x04, 1, 2, 1, 1, 0, 0, 16, 0⟩ /- YARDMASTER -/,
    ⟨0x3800, 1, 0x05, 1, 4, 1, 1, 0, 0, 0, 0⟩ /- YARDMASTER_TERM -/,
    ⟨0x3800, 1, 0x06, 1, 2, 1, 1, 0, 0, 0, 0⟩ /- FUSE_MAP_SOURCE -/,
    ⟨0x3800, 1, 0x07, 1, 2, 2, 2, 0, 0, 0, 0⟩ /- DEGRADED_ACK -/,
    ⟨0x3800, 1, 0x08, 1, 5, 1, 1, 0, 0, 0, 1⟩ /- SERVICE_TIME_S -/,
    ⟨0x3800, 1, 0x09, 1, 3, 1, 1, 0, 0, 0, 1⟩ /- STUDBOOK_COUNT -/,
    ⟨0x3800, 1, 0x0A, 1, 3, 2, 2, 0, 0, 0, 0⟩ /- STUDBOOK_SEL -/,
    ⟨0x3800, 1, 0x0B, 1, 11, 1, 1, 0, 0, 0, 1⟩ /- STUDBOOK_RECORD -/,
    ⟨0x3800, 1, 0x0C, 1, 3, 1, 1, 1, 0, 0, 0⟩ /- CLUSTERS_OFFERED -/,
    ⟨0x3800, 1, 0x0D, 1, 4, 1, 1, 0, 0, 0, 0⟩ /- EARLY_EVENTS_LOST -/,
    ⟨0x3810, 16, 0x01, 36, 2, 1, 1, 0, 0, 255, 0⟩ /- SITE_LOGICAL -/,
    ⟨0x3830, 16, 0x01, 36, 4, 1, 1, 0, 0, 0, 0⟩ /- CORE_SITES_OUT -/,
    ⟨0x4000, 1, 0x01, 1, 4, 1, 1, 0, 0, 9600, 0⟩ /- HBM_PIN_RATE_MBPS -/,
    ⟨0x4000, 1, 0x02, 1, 3, 1, 1, 1, 0, 65535, 2⟩ /- HBM_STACKS_ENABLED -/,
    ⟨0x4000, 1, 0x03, 1, 3, 1, 1, 0, 0, 0, 0⟩ /- HBM_STACKS_LOST -/,
    ⟨0x4000, 1, 0x04, 1, 5, 1, 1, 0, 0, 0, 0⟩ /- HBM_CORRECTED_COUNT -/,
    ⟨0x4000, 1, 0x05, 1, 5, 1, 1, 0, 0, 0, 0⟩ /- HBM_ONDIE_CORRECTED_COUNT -/,
    ⟨0x4000, 1, 0x06, 1, 5, 1, 1, 0, 0, 0, 0⟩ /- HBM_UNCORRECTABLE_COUNT -/,
    ⟨0x4000, 1, 0x07, 1, 5, 1, 1, 0, 0, 0, 0⟩ /- HBM_FENCED_DROP_COUNT -/,
    ⟨0x4000, 1, 0x08, 1, 4, 2, 1, 0, 0, 24, 1⟩ /- HBM_SCRUB_PERIOD -/,
    ⟨0x4000, 1, 0x09, 1, 4, 2, 1, 0, 0, 16, 1⟩ /- PC_FENCE_THRESHOLD -/,
    ⟨0x4010, 16, 0x01, 1, 4, 1, 1, 0, 0, 4294967295, 0⟩ /- PC_IN_SERVICE -/,
    ⟨0x4010, 16, 0x02, 1, 4, 1, 1, 0, 0, 0, 1⟩ /- PC_FENCED -/,
    ⟨0x4010, 16, 0x03, 1, 3, 1, 1, 0, 0, 0, 1⟩ /- LANES_REPAIRED -/,
    ⟨0x4010, 16, 0x04, 1, 6, 1, 1, 0, 0, 0, 0⟩ /- STACK_TEMPERATURE -/,
    ⟨0x4010, 16, 0x05, 1, 1, 1, 1, 0, 0, 0, 0⟩ /- REFRESH_DOUBLED -/,
    ⟨0x4100, 1, 0x01, 1, 5, 1, 0, 0, 0, 0, 0⟩ /- WINDOW_DROP_CLOSED -/,
    ⟨0x4100, 1, 0x02, 1, 5, 1, 0, 0, 0, 0, 0⟩ /- WINDOW_DROP_AUTH -/,
    ⟨0x4100, 1, 0x03, 1, 5, 1, 0, 0, 0, 0, 0⟩ /- WINDOW_DROP_RIGHTS -/,
    ⟨0x4100, 1, 0x04, 1, 5, 1, 0, 0, 0, 0, 0⟩ /- WINDOW_DROP_RANGE -/,
    ⟨0x4100, 1, 0x05, 1, 5, 1, 0, 0, 0, 0, 0⟩ /- WINDOW_DROP_RESET -/,
    ⟨0x4100, 1, 0x06, 1, 3, 1, 1, 0, 0, 0, 0⟩ /- WINDOWS_OPEN -/,
    ⟨0x4100, 1, 0x07, 1, 5, 1, 1, 0, 0, 0, 0⟩ /- NOTIFY_TRACKER_FULL_COUNT -/,
    ⟨0x4800, 1, 0x01, 1, 2, 1, 1, 0, 0, 255, 2⟩ /- UPC_ENABLED -/,
    ⟨0x4800, 1, 0x02, 1, 2, 1, 1, 0, 0, 0, 0⟩ /- UPC_DRAINED -/,
    ⟨0x4800, 1, 0x03, 1, 2, 2, 0, 0, 0, 0, 0⟩ /- UPC_DRAIN_REQ -/,
    ⟨0x4800, 1, 0x04, 1, 4, 2, 1, 0, 0, 100, 1⟩ /- PRECOND_STUCK_STEPS -/,
    ⟨0x4800, 1, 0x05, 1, 5, 1, 1, 0, 0, 0, 0⟩ /- COMMIT_COUNT -/ ]

/-- Entry tables, part 5. -/
def odTable5 : List OdRow :=
  [ ⟨0x4800, 1, 0x06, 1, 5, 1, 1, 0, 0, 0, 0⟩ /- STEP_MISMATCH_COUNT -/,
    ⟨0x4800, 1, 0x07, 1, 5, 1, 1, 0, 0, 0, 0⟩ /- COMMIT_RESUMED_COUNT -/,
    ⟨0x4800, 1, 0x08, 1, 5, 1, 1, 0, 0, 0, 0⟩ /- UPDATE_POISON_ELEMENTS -/,
    ⟨0x4800, 1, 0x09, 1, 5, 1, 1, 0, 0, 0, 0⟩ /- PRECOND_ROOT_FAIL_COUNT -/,
    ⟨0x4810, 8, 0x01, 1, 2, 1, 1, 0, 0, 0, 0⟩ /- UPC_STATE -/,
    ⟨0x4810, 8, 0x02, 1, 2, 1, 1, 0, 0, 255, 0⟩ /- STAND_IN -/,
    ⟨0x4810, 8, 0x03, 1, 5, 1, 1, 0, 0, 0, 0⟩ /- UPC_SRAM_CORRECTED_COUNT -/,
    ⟨0x4820, 16, 0x01, 1, 1, 1, 1, 0, 0, 0, 0⟩ /- MUU_ACTIVE -/,
    ⟨0x4820, 16, 0x02, 1, 3, 1, 1, 0, 0, 0, 0⟩ /- UPDATE_TABLE_USED -/,
    ⟨0x5000, 1, 0x01, 1, 3, 1, 1, 1, 0, 0, 0⟩ /- DEVICE_ID -/,
    ⟨0x5000, 1, 0x02, 1, 1, 1, 1, 0, 0, 0, 0⟩ /- DEVICE_ID_VALID -/,
    ⟨0x5000, 1, 0x03, 1, 3, 1, 1, 0, 0, 0, 1⟩ /- LAST_ID -/,
    ⟨0x5000, 1, 0x04, 1, 2, 2, 1, 0, 0, 0, 1⟩ /- FABRIC_ROLE -/,
    ⟨0x5000, 1, 0x05, 1, 3, 1, 1, 0, 0, 0, 0⟩ /- FABRIC_MASTER_ID -/,
    ⟨0x5000, 1, 0x06, 1, 3, 1, 1, 0, 0, 0, 0⟩ /- FABRIC_TERM -/,
    ⟨0x5000, 1, 0x07, 1, 2, 1, 1, 0, 0, 255, 0⟩ /- TIME_DEPTH -/,
    ⟨0x5000, 1, 0x08, 1, 3, 2, 0, 0, 0, 0, 0⟩ /- ROUTE_SEL -/,
    ⟨0x5000, 1, 0x09, 1, 4, 2, 0, 0, 0, 16777215, 0⟩ /- ROUTE_ENTRY -/,
    ⟨0x5000, 1, 0x0A, 1, 1, 2, 0, 0, 0, 0, 1⟩ /- HOST_INTR_EN -/,
    ⟨0x5000, 1, 0x0B, 1, 5, 1, 1, 0, 0, 0, 0⟩ /- LINK_RESEND_COUNT -/,
    ⟨0x5000, 1, 0x0C, 1, 5, 1, 1, 0, 0, 0, 0⟩ /- LINK_DUPLICATE_COUNT -/,
    ⟨0x5000, 1, 0x0D, 1, 5, 1, 1, 0, 0, 0, 0⟩ /- LINK_DROP_AGE_COUNT -/,
    ⟨0x5000, 1, 0x0E, 1, 5, 1, 1, 0, 0, 0, 0⟩ /- LINK_DROP_HOPS_COUNT -/,
    ⟨0x5000, 1, 0x0F, 1, 5, 1, 1, 0, 0, 0, 0⟩ /- LINK_DROP_WAIT_COUNT -/,
    ⟨0x5000, 1, 0x10, 1, 5, 1, 1, 0, 0, 0, 0⟩ /- LINK_DROP_MALFORMED_COUNT -/,
    ⟨0x5000, 1, 0x11, 1, 5, 1, 1, 0, 0, 0, 0⟩ /- LINK_ISOLATED_DROP_COUNT -/,
    ⟨0x5000, 1, 0x12, 1, 5, 1, 0, 0, 0, 0, 0⟩ /- HOST_CLASS_DROP_COUNT -/,
    ⟨0x5010, 36, 0x01, 1, 2, 1, 1, 0, 0, 0, 0⟩ /- PORT_STATE -/,
    ⟨0x5010, 36, 0x02, 1, 2, 1, 1, 0, 0, 0, 0⟩ /- PORT_WIDTH -/,
    ⟨0x5010, 36, 0x03, 1, 2, 1, 1, 0, 0, 0, 0⟩ /- LANES_GOOD -/,
    ⟨0x5010, 36, 0x04, 1, 3, 1, 1, 0, 0, 0, 0⟩ /- PEER_ID -/,
    ⟨0x5010, 36, 0x05, 1, 2, 2, 0, 0, 0, 0, 0⟩ /- PORT_CTRL -/,
    ⟨0x5010, 36, 0x06, 1, 5, 1, 1, 0, 0, 0, 0⟩ /- FEC_CORRECTED_COUNT -/,
    ⟨0x5010, 36, 0x07, 1, 5, 1, 1, 0, 0, 0, 0⟩ /- FEC_UNCORRECTABLE_COUNT -/,
    ⟨0x5010, 36, 0x08, 1, 5, 1, 1, 0, 0, 0, 0⟩ /- REPLAY_COUNT -/,
    ⟨0x5800, 1, 0x01, 1, 2, 1, 1, 0, 0, 0, 0⟩ /- PARTITIONS_COMPOSED -/,
    ⟨0x5800, 1, 0x02, 1, 5, 1, 1, 0, 0, 0, 0⟩ /- DOORBELL_IGNORED_COUNT -/,
    ⟨0x5800, 1, 0x03, 1, 5, 1, 1, 0, 0, 0, 0⟩ /- MB_DROP_COUNT -/,
    ⟨0x5800, 1, 0x04, 1, 5, 1, 1, 0, 0, 0, 0⟩ /- STEP_LOST_COUNT -/,
    ⟨0x5800, 1, 0x05, 1, 5, 1, 1, 0, 0, 0, 0⟩ /- PARTITION_RESET_COUNT -/ ]

/-- Entry tables, part 6. -/
def odTable6 : List OdRow :=
  [ ⟨0x5800, 1, 0x06, 1, 5, 2, 0, 0, 0, 0, 0⟩ /- MB_HOST_HP_BASE -/,
    ⟨0x5810, 32, 0x01, 1, 4, 2, 1, 0, 0, 0, 0⟩ /- PART_HALF_BAYS -/,
    ⟨0x5810, 32, 0x02, 1, 3, 2, 1, 0, 0, 0, 0⟩ /- PART_STACK_SET -/,
    ⟨0x5810, 32, 0x03, 1, 4, 2, 1, 0, 0, 0, 0⟩ /- PART_SPAN_MIB -/,
    ⟨0x5810, 32, 0x04, 1, 2, 2, 0, 0, 0, 0, 0⟩ /- PART_CTRL -/,
    ⟨0x5810, 32, 0x05, 1, 2, 1, 0, 0, 0, 0, 0⟩ /- PART_CTRL_STATUS -/,
    ⟨0x5810, 32, 0x06, 1, 3, 1, 1, 1, 0, 0, 0⟩ /- PART_CLUSTERS -/,
    ⟨0x5810, 32, 0x07, 1, 5, 1, 0, 1, 0, 0, 0⟩ /- PART_HBM_SIZE -/,
    ⟨0x5810, 32, 0x08, 1, 2, 1, 1, 1, 0, 0, 0⟩ /- JOB_STATE -/,
    ⟨0x5810, 32, 0x09, 1, 4, 1, 1, 1, 0, 0, 0⟩ /- JOB_ID -/,
    ⟨0x5810, 32, 0x0A, 1, 4, 1, 0, 1, 0, 0, 0⟩ /- JOB_STEP -/,
    ⟨0x5810, 32, 0x0B, 1, 3, 1, 1, 1, 0, 0, 0⟩ /- PART_UNMAPPED -/,
    ⟨0x5810, 32, 0x0C, 1, 5, 2, 0, 0, 0, 0, 0⟩ /- MB_HOST_BASE -/,
    ⟨0x5900, 1, 0x01, 1, 3, 2, 0, 0, 0, 0, 0⟩ /- RING_SEL -/,
    ⟨0x5900, 1, 0x02, 1, 2, 2, 1, 0, 0, 255, 0⟩ /- RING_PART -/,
    ⟨0x5900, 1, 0x03, 1, 2, 2, 0, 0, 0, 0, 0⟩ /- RING_PRIO -/,
    ⟨0x5900, 1, 0x04, 1, 2, 2, 0, 0, 0, 1, 0⟩ /- RING_CLASS -/,
    ⟨0x5900, 1, 0x05, 1, 2, 2, 0, 0, 0, 6, 0⟩ /- RING_LOG2_ENTRIES -/,
    ⟨0x5900, 1, 0x06, 1, 5, 2, 0, 0, 0, 0, 0⟩ /- RING_BASE -/,
    ⟨0x5900, 1, 0x07, 1, 5, 2, 0, 0, 0, 0, 0⟩ /- CPL_BASE -/,
    ⟨0x5900, 1, 0x08, 1, 2, 2, 0, 0, 0, 0, 0⟩ /- RING_CTRL -/,
    ⟨0x5900, 1, 0x09, 1, 2, 1, 1, 0, 0, 0, 0⟩ /- RING_STATUS -/,
    ⟨0x5900, 1, 0x0A, 1, 4, 1, 0, 0, 0, 0, 0⟩ /- RING_CONSUMER -/,
    ⟨0x5900, 1, 0x0B, 1, 4, 1, 0, 0, 0, 0, 0⟩ /- RING_STOP_INDEX -/,
    ⟨0x6000, 1, 0x01, 1, 4, 1, 1, 0, 0, 0, 0⟩ /- LOG_NEXT_SEQ -/,
    ⟨0x6000, 1, 0x02, 1, 4, 1, 1, 0, 0, 0, 0⟩ /- LOG_OLDEST -/,
    ⟨0x6000, 1, 0x03, 1, 4, 1, 1, 0, 0, 0, 0⟩ /- LOG_COUNT -/,
    ⟨0x6000, 1, 0x04, 1, 4, 2, 2, 0, 0, 0, 0⟩ /- LOG_SEL -/,
    ⟨0x6000, 1, 0x05, 1, 11, 1, 1, 0, 0, 0, 0⟩ /- LOG_READ -/,
    ⟨0x6010, 32, 0x01, 1, 4, 1, 1, 1, 0, 0, 0⟩ /- PLOG_NEXT_SEQ -/,
    ⟨0x6010, 32, 0x02, 1, 4, 1, 1, 1, 0, 0, 0⟩ /- PLOG_OLDEST -/,
    ⟨0x6010, 32, 0x03, 1, 4, 1, 1, 1, 0, 0, 0⟩ /- PLOG_COUNT -/,
    ⟨0x6010, 32, 0x04, 1, 4, 2, 2, 2, 0, 0, 0⟩ /- PLOG_SEL -/,
    ⟨0x6010, 32, 0x05, 1, 11, 1, 1, 1, 0, 0, 0⟩ /- PLOG_READ -/,
    ⟨0x7000, 1, 0x01, 1, 4, 1, 1, 1, 0, 0, 1⟩ /- FW_VERSION -/,
    ⟨0x7000, 1, 0x02, 1, 4, 2, 1, 0, 0, 0, 1⟩ /- FW_VERSION_FLOOR -/,
    ⟨0x7000, 1, 0x03, 1, 5, 2, 0, 0, 0, 0, 0⟩ /- FW_STAGE_HOST_ADDR -/,
    ⟨0x7000, 1, 0x04, 1, 4, 2, 0, 0, 0, 0, 0⟩ /- FW_STAGE_LEN -/,
    ⟨0x7000, 1, 0x05, 1, 2, 2, 0, 0, 0, 0, 0⟩ /- FW_UPDATE_CTRL -/,
    ⟨0x7000, 1, 0x06, 1, 2, 1, 1, 0, 0, 0, 0⟩ /- FW_UPDATE_STATUS -/ ]

/-- Entry tables, part 7. -/
def odTable7 : List OdRow :=
  [ ⟨0x7000, 1, 0x07, 1, 4, 1, 1, 0, 0, 0, 0⟩ /- FW_UNITS_PENDING -/,
    ⟨0x7000, 1, 0x08, 1, 5, 1, 1, 0, 0, 0, 0⟩ /- WX0804_LOAD_COUNT -/,
    ⟨0x7100, 1, 0x01, 1, 4, 1, 1, 0, 0, 0, 0⟩ /- FARRIER_PKG_VERSION -/,
    ⟨0x7100, 1, 0x02, 1, 4, 2, 1, 0, 0, 0, 1⟩ /- FARRIER_VERSION_FLOOR -/,
    ⟨0x7100, 1, 0x03, 1, 5, 2, 0, 0, 0, 0, 0⟩ /- FARRIER_STAGE_HOST_ADDR -/,
    ⟨0x7100, 1, 0x04, 1, 4, 2, 0, 0, 0, 0, 0⟩ /- FARRIER_STAGE_LEN -/,
    ⟨0x7100, 1, 0x05, 1, 2, 2, 0, 0, 0, 0, 0⟩ /- FARRIER_CTRL -/,
    ⟨0x7100, 1, 0x06, 1, 2, 1, 1, 0, 0, 0, 0⟩ /- FARRIER_STATUS -/,
    ⟨0x7100, 1, 0x07, 1, 5, 1, 1, 0, 0, 0, 0⟩ /- FARRIER_RUN_COUNT -/,
    ⟨0x7100, 1, 0x08, 1, 5, 1, 1, 0, 0, 0, 0⟩ /- FARRIER_SUSPECT_COUNT -/,
    ⟨0x7100, 1, 0x09, 1, 3, 1, 1, 0, 0, 0, 0⟩ /- FARRIER_OVERDUE_SITES -/,
    ⟨0x7100, 1, 0x0A, 1, 3, 2, 1, 0, 0, 16, 1⟩ /- SPARE_FLOOR -/,
    ⟨0x7100, 1, 0x0B, 1, 3, 1, 1, 0, 0, 0, 0⟩ /- SPARES_USABLE -/,
    ⟨0x7100, 1, 0x0C, 1, 2, 2, 1, 0, 0, 6, 1⟩ /- UPC_FLOOR -/,
    ⟨0x7100, 1, 0x0D, 1, 1, 1, 1, 0, 0, 0, 1⟩ /- REPLACE_FLAG -/,
    ⟨0x7110, 16, 0x01, 36, 4, 1, 1, 0, 0, 0, 0⟩ /- LAST_VISIT_ST -/ ]

/-- Every entry of R573 outside the owner range. -/
def odTable : List OdRow := odTable1 ++ odTable2 ++ odTable3 ++ odTable4 ++ odTable5 ++ odTable6 ++ odTable7

/-- The row that holds an entry. -/
def odRow (index sub : Nat) : Option OdRow :=
  odTable.find? fun r =>
    decide (r.index ≤ index) && decide (index < r.index + r.n) && decide (r.sub ≤ sub) &&
      decide (sub < r.sub + r.m)

/-- The key of an entry: 256 times its index plus its sub-index. -/
def odKey (index sub : Nat) : Nat := 256 * index + sub

/-- What an entry that nothing has written reads as: its default (R15, R558). -/
def odDefault (k : Nat) : Nat :=
  match odRow (k / 256) (k % 256) with
  | some r => r.dflt
  | none => 0

/-- VENDOR_NAME. -/
def odVendorName : Nat := 0x100001
/-- PRODUCT_NAME. -/
def odProductName : Nat := 0x100002
/-- PART_NUMBER. -/
def odPartNumber : Nat := 0x100003
/-- GRADE. -/
def odGrade : Nat := 0x100004
/-- SERIAL. -/
def odSerial : Nat := 0x100005
/-- HALF_BAYS_ENABLED. -/
def odHalfBaysEnabled : Nat := 0x100006
/-- STACKS_ENABLED. -/
def odStacksEnabled : Nat := 0x100007
/-- SILICON_STEP. -/
def odSiliconStep : Nat := 0x100008
/-- OD_LAYOUT. -/
def odOdLayout : Nat := 0x100009
/-- FUSE_MAP_DIGEST. -/
def odFuseMapDigest : Nat := 0x10000A
/-- LIFECYCLE. -/
def odLifecycle : Nat := 0x110001
/-- OWNER_EPOCH. -/
def odOwnerEpoch : Nat := 0x110002
/-- OWNER_KEY. -/
def odOwnerKey : Nat := 0x110003
/-- IDK_PUBLIC. -/
def odIdkPublic : Nat := 0x110004
/-- AUTH_CHALLENGE. -/
def odAuthChallenge : Nat := 0x114001
/-- AUTH_OP. -/
def odAuthOp : Nat := 0x114002
/-- AUTH_ARG. -/
def odAuthArg : Nat := 0x114003
/-- AUTH_PROOF. -/
def odAuthProof : Nat := 0x114004
/-- AUTH_CTRL. -/
def odAuthCtrl : Nat := 0x114005
/-- AUTH_STATUS. -/
def odAuthStatus : Nat := 0x114006
/-- AUTH_FAIL_COUNT. -/
def odAuthFailCount : Nat := 0x114007
/-- DEBUG_SCOPE. -/
def odDebugScope : Nat := 0x114008
/-- PW_SALT. -/
def odPwSalt : Nat := 0x114009
/-- PW_DIGEST. -/
def odPwDigest : Nat := 0x11400A
/-- PW_MAX_SCOPE. -/
def odPwMaxScope : Nat := 0x11400B
/-- ID_CERT. -/
def odIdCert : Nat := 0x114201
/-- ATK_CERT. -/
def odAtkCert : Nat := 0x114202
/-- VENDOR_KEYS_REVOKED. -/
def odVendorKeysRevoked : Nat := 0x114203
/-- QUOTE_NONCE (first of its range). -/
def odQuoteNonce : Nat := 0x114801
/-- QUOTE_CTRL (first of its range). -/
def odQuoteCtrl : Nat := 0x114802
/-- QUOTE_STATUS (first of its range). -/
def odQuoteStatus : Nat := 0x114803
/-- QUOTE (first of its range). -/
def odQuote : Nat := 0x114804
/-- OD_DENIED_COUNT. -/
def odOdDeniedCount : Nat := 0x118001
/-- OD_DENIED_BY_ROUTE. -/
def odOdDeniedByRoute : Nat := 0x118002
/-- STORED_SOURCE. -/
def odStoredSource : Nat := 0x118003
/-- SB_ETH_ENABLE. -/
def odSbEthEnable : Nat := 0x118004
/-- SB_IPV4_ADDR. -/
def odSbIpv4Addr : Nat := 0x118005
/-- SB_UDP_PORT. -/
def odSbUdpPort : Nat := 0x118006
/-- SB_ETH_PEER. -/
def odSbEthPeer : Nat := 0x118007
/-- SB_ETH_MAC. -/
def odSbEthMac : Nat := 0x118008
/-- SB_ALERT_MASK. -/
def odSbAlertMask : Nat := 0x118009
/-- SB_FRAME_ERROR_COUNT. -/
def odSbFrameErrorCount : Nat := 0x11800A
/-- POWER_CAP_W. -/
def odPowerCapW : Nat := 0x200001
/-- MODULE_POWER_W. -/
def odModulePowerW : Nat := 0x200002
/-- MODULE_ENERGY_MJ. -/
def odModuleEnergyMj : Nat := 0x200003
/-- ENERGY_UNATTRIBUTED. -/
def odEnergyUnattributed : Nat := 0x200004
/-- ENERGY_CAL_FACTOR. -/
def odEnergyCalFactor : Nat := 0x200005
/-- CAP_LIMITING. -/
def odCapLimiting : Nat := 0x200006
/-- BAY_RAIL_LOST. -/
def odBayRailLost : Nat := 0x200007
/-- AISLE_FEED_OPEN. -/
def odAisleFeedOpen : Nat := 0x200008
/-- BAY_REENABLE. -/
def odBayReenable : Nat := 0x200009
/-- PARK_IDLE_US. -/
def odParkIdleUs : Nat := 0x20000A
/-- INRUSH_DEFERRED_COUNT. -/
def odInrushDeferredCount : Nat := 0x20000B
/-- FAST_LOOP_ACTION_COUNT. -/
def odFastLoopActionCount : Nat := 0x20000C
/-- BAY_RAIL_SETPOINT_MV (first of its range). -/
def odBayRailSetpointMv : Nat := 0x201001
/-- BAY_CURRENT_A (first of its range). -/
def odBayCurrentA : Nat := 0x201002
/-- BAY_CURRENT_LIMIT_A (first of its range). -/
def odBayCurrentLimitA : Nat := 0x201003
/-- BAY_LIMIT_EFF (first of its range). -/
def odBayLimitEff : Nat := 0x201004
/-- BAY_SHARE_W (first of its range). -/
def odBayShareW : Nat := 0x201005
/-- BAY_MIN_V (first of its range). -/
def odBayMinV : Nat := 0x201006
/-- BAY_MIN_V_DT (first of its range). -/
def odBayMinVDt : Nat := 0x201007
/-- MIN_V (first of its range). -/
def odMinV : Nat := 0x210001
/-- MIN_V_DT (first of its range). -/
def odMinVDt : Nat := 0x212001
/-- LDO_SLICES_FAILED (first of its range). -/
def odLdoSlicesFailed : Nat := 0x214001
/-- PART_POINT_CEIL (first of its range). -/
def odPartPointCeil : Nat := 0x220001
/-- THERM_TRIP_LATCHED. -/
def odThermTripLatched : Nat := 0x240001
/-- HOTTEST_C. -/
def odHottestC : Nat := 0x240002
/-- THERM_STEPDOWN_COUNT. -/
def odThermStepdownCount : Nat := 0x240003
/-- THERM_PAUSE_COUNT. -/
def odThermPauseCount : Nat := 0x240004
/-- THERM_OFF_COUNT. -/
def odThermOffCount : Nat := 0x240005
/-- AISLE_TEMP_C (first of its range). -/
def odAisleTempC : Nat := 0x240010
/-- CLUSTER_TEMP_C (first of its range). -/
def odClusterTempC : Nat := 0x241001
/-- REFCLK_SELECT. -/
def odRefclkSelect : Nat := 0x280001
/-- REFCLK_STATUS. -/
def odRefclkStatus : Nat := 0x280002
/-- BEAT_SPREAD. -/
def odBeatSpread : Nat := 0x280003
/-- LEAD_NODE. -/
def odLeadNode : Nat := 0x280004
/-- BEAT_NODES_DOWN. -/
def odBeatNodesDown : Nat := 0x280005
/-- DT_NOW. -/
def odDtNow : Nat := 0x280006
/-- FABRIC_LOCK. -/
def odFabricLock : Nat := 0x280007
/-- FABRIC_OFFSET. -/
def odFabricOffset : Nat := 0x280008
/-- DT_STEP_REQ. -/
def odDtStepReq : Nat := 0x280009
/-- TIME_WORD_ERROR_COUNT. -/
def odTimeWordErrorCount : Nat := 0x28000A
/-- LAUNCH_SKEW_EXCEEDED_COUNT. -/
def odLaunchSkewExceededCount : Nat := 0x28000B
/-- OP_CHANGE_COUNT. -/
def odOpChangeCount : Nat := 0x28000C
/-- STRETCH_S1_TOTAL. -/
def odStretchS1Total : Nat := 0x28000D
/-- STRETCH_S2_TOTAL. -/
def odStretchS2Total : Nat := 0x28000E
/-- STRETCH_S3_TOTAL. -/
def odStretchS3Total : Nat := 0x28000F
/-- CLUSTER_POINT (first of its range). -/
def odClusterPoint : Nat := 0x290001
/-- STRETCH_CYC (first of its range). -/
def odStretchCyc : Nat := 0x292001
/-- FLAG_WAIT_LIMIT. -/
def odFlagWaitLimit : Nat := 0x340001
/-- LSP_BIT_FIX_COUNT. -/
def odLspBitFixCount : Nat := 0x340002
/-- LSP_SYMBOL_FIX_COUNT. -/
def odLspSymbolFixCount : Nat := 0x340003
/-- LSP_UNCORRECTABLE_COUNT. -/
def odLspUncorrectableCount : Nat := 0x340004
/-- IMEM_SYMBOL_FIX_COUNT. -/
def odImemSymbolFixCount : Nat := 0x340005
/-- HOLD_CYC_TOTAL. -/
def odHoldCycTotal : Nat := 0x340006
/-- CORE_FAULT_COUNT. -/
def odCoreFaultCount : Nat := 0x340007
/-- BANK_CONFLICT_COUNT. -/
def odBankConflictCount : Nat := 0x340008
/-- SCRUB_LATE_COUNT. -/
def odScrubLateCount : Nat := 0x340009
/-- IMEM_BIT_FIX_COUNT. -/
def odImemBitFixCount : Nat := 0x34000A
/-- CMEM_SYMBOL_FIX_COUNT. -/
def odCmemSymbolFixCount : Nat := 0x350001
/-- CMEM_UNCORRECTABLE_COUNT. -/
def odCmemUncorrectableCount : Nat := 0x350002
/-- COPY_POISON_CARRIED_COUNT. -/
def odCopyPoisonCarriedCount : Nat := 0x350003
/-- AADDX_OVERFLOW_COUNT. -/
def odAaddxOverflowCount : Nat := 0x350004
/-- MESH_ROUTE_EPOCH. -/
def odMeshRouteEpoch : Nat := 0x360001
/-- AISLES_DOWN. -/
def odAislesDown : Nat := 0x360002
/-- CROSSING_REPLAY_COUNT. -/
def odCrossingReplayCount : Nat := 0x360003
/-- MESH_RETRY_COUNT. -/
def odMeshRetryCount : Nat := 0x360004
/-- MESH_RESEND_COUNT. -/
def odMeshResendCount : Nat := 0x360005
/-- MESH_DUPLICATE_COUNT. -/
def odMeshDuplicateCount : Nat := 0x360006
/-- MESH_RESET_DROP_COUNT. -/
def odMeshResetDropCount : Nat := 0x360007
/-- MESH_DARK_DROP_COUNT. -/
def odMeshDarkDropCount : Nat := 0x360008
/-- MESH_UNREACH_DROP_COUNT. -/
def odMeshUnreachDropCount : Nat := 0x360009
/-- MESH_AGED_DROP_COUNT. -/
def odMeshAgedDropCount : Nat := 0x36000A
/-- MESH_MALFORMED_COUNT. -/
def odMeshMalformedCount : Nat := 0x36000B
/-- MESH_ESCAPE_COUNT. -/
def odMeshEscapeCount : Nat := 0x36000C
/-- CROSSINGS_FENCED (first of its range). -/
def odCrossingsFenced : Nat := 0x361001
/-- SPARE_WIRES_USED (first of its range). -/
def odSpareWiresUsed : Nat := 0x361002
/-- SPARE_GROUPS_USED (first of its range). -/
def odSpareGroupsUsed : Nat := 0x361003
/-- ROUTERS_FAULTY (first of its range). -/
def odRoutersFaulty : Nat := 0x361004
/-- START_STATE. -/
def odStartState : Nat := 0x380001
/-- LAST_START_WARM. -/
def odLastStartWarm : Nat := 0x380002
/-- MODULE_RESET. -/
def odModuleReset : Nat := 0x380003
/-- YARDMASTER. -/
def odYardmaster : Nat := 0x380004
/-- YARDMASTER_TERM. -/
def odYardmasterTerm : Nat := 0x380005
/-- FUSE_MAP_SOURCE. -/
def odFuseMapSource : Nat := 0x380006
/-- DEGRADED_ACK. -/
def odDegradedAck : Nat := 0x380007
/-- SERVICE_TIME_S. -/
def odServiceTimeS : Nat := 0x380008
/-- STUDBOOK_COUNT. -/
def odStudbookCount : Nat := 0x380009
/-- STUDBOOK_SEL. -/
def odStudbookSel : Nat := 0x38000A
/-- STUDBOOK_RECORD. -/
def odStudbookRecord : Nat := 0x38000B
/-- CLUSTERS_OFFERED. -/
def odClustersOffered : Nat := 0x38000C
/-- EARLY_EVENTS_LOST. -/
def odEarlyEventsLost : Nat := 0x38000D
/-- SITE_LOGICAL (first of its range). -/
def odSiteLogical : Nat := 0x381001
/-- CORE_SITES_OUT (first of its range). -/
def odCoreSitesOut : Nat := 0x383001
/-- HBM_PIN_RATE_MBPS. -/
def odHbmPinRateMbps : Nat := 0x400001
/-- HBM_STACKS_ENABLED. -/
def odHbmStacksEnabled : Nat := 0x400002
/-- HBM_STACKS_LOST. -/
def odHbmStacksLost : Nat := 0x400003
/-- HBM_CORRECTED_COUNT. -/
def odHbmCorrectedCount : Nat := 0x400004
/-- HBM_ONDIE_CORRECTED_COUNT. -/
def odHbmOndieCorrectedCount : Nat := 0x400005
/-- HBM_UNCORRECTABLE_COUNT. -/
def odHbmUncorrectableCount : Nat := 0x400006
/-- HBM_FENCED_DROP_COUNT. -/
def odHbmFencedDropCount : Nat := 0x400007
/-- HBM_SCRUB_PERIOD. -/
def odHbmScrubPeriod : Nat := 0x400008
/-- PC_FENCE_THRESHOLD. -/
def odPcFenceThreshold : Nat := 0x400009
/-- PC_IN_SERVICE (first of its range). -/
def odPcInService : Nat := 0x401001
/-- PC_FENCED (first of its range). -/
def odPcFenced : Nat := 0x401002
/-- LANES_REPAIRED (first of its range). -/
def odLanesRepaired : Nat := 0x401003
/-- STACK_TEMPERATURE (first of its range). -/
def odStackTemperature : Nat := 0x401004
/-- REFRESH_DOUBLED (first of its range). -/
def odRefreshDoubled : Nat := 0x401005
/-- WINDOW_DROP_CLOSED. -/
def odWindowDropClosed : Nat := 0x410001
/-- WINDOW_DROP_AUTH. -/
def odWindowDropAuth : Nat := 0x410002
/-- WINDOW_DROP_RIGHTS. -/
def odWindowDropRights : Nat := 0x410003
/-- WINDOW_DROP_RANGE. -/
def odWindowDropRange : Nat := 0x410004
/-- WINDOW_DROP_RESET. -/
def odWindowDropReset : Nat := 0x410005
/-- WINDOWS_OPEN. -/
def odWindowsOpen : Nat := 0x410006
/-- NOTIFY_TRACKER_FULL_COUNT. -/
def odNotifyTrackerFullCount : Nat := 0x410007
/-- UPC_ENABLED. -/
def odUpcEnabled : Nat := 0x480001
/-- UPC_DRAINED. -/
def odUpcDrained : Nat := 0x480002
/-- UPC_DRAIN_REQ. -/
def odUpcDrainReq : Nat := 0x480003
/-- PRECOND_STUCK_STEPS. -/
def odPrecondStuckSteps : Nat := 0x480004
/-- COMMIT_COUNT. -/
def odCommitCount : Nat := 0x480005
/-- STEP_MISMATCH_COUNT. -/
def odStepMismatchCount : Nat := 0x480006
/-- COMMIT_RESUMED_COUNT. -/
def odCommitResumedCount : Nat := 0x480007
/-- UPDATE_POISON_ELEMENTS. -/
def odUpdatePoisonElements : Nat := 0x480008
/-- PRECOND_ROOT_FAIL_COUNT. -/
def odPrecondRootFailCount : Nat := 0x480009
/-- UPC_STATE (first of its range). -/
def odUpcState : Nat := 0x481001
/-- STAND_IN (first of its range). -/
def odStandIn : Nat := 0x481002
/-- UPC_SRAM_CORRECTED_COUNT (first of its range). -/
def odUpcSramCorrectedCount : Nat := 0x481003
/-- MUU_ACTIVE (first of its range). -/
def odMuuActive : Nat := 0x482001
/-- UPDATE_TABLE_USED (first of its range). -/
def odUpdateTableUsed : Nat := 0x482002
/-- DEVICE_ID. -/
def odDeviceId : Nat := 0x500001
/-- DEVICE_ID_VALID. -/
def odDeviceIdValid : Nat := 0x500002
/-- LAST_ID. -/
def odLastId : Nat := 0x500003
/-- FABRIC_ROLE. -/
def odFabricRole : Nat := 0x500004
/-- FABRIC_MASTER_ID. -/
def odFabricMasterId : Nat := 0x500005
/-- FABRIC_TERM. -/
def odFabricTerm : Nat := 0x500006
/-- TIME_DEPTH. -/
def odTimeDepth : Nat := 0x500007
/-- ROUTE_SEL. -/
def odRouteSel : Nat := 0x500008
/-- ROUTE_ENTRY. -/
def odRouteEntry : Nat := 0x500009
/-- HOST_INTR_EN. -/
def odHostIntrEn : Nat := 0x50000A
/-- LINK_RESEND_COUNT. -/
def odLinkResendCount : Nat := 0x50000B
/-- LINK_DUPLICATE_COUNT. -/
def odLinkDuplicateCount : Nat := 0x50000C
/-- LINK_DROP_AGE_COUNT. -/
def odLinkDropAgeCount : Nat := 0x50000D
/-- LINK_DROP_HOPS_COUNT. -/
def odLinkDropHopsCount : Nat := 0x50000E
/-- LINK_DROP_WAIT_COUNT. -/
def odLinkDropWaitCount : Nat := 0x50000F
/-- LINK_DROP_MALFORMED_COUNT. -/
def odLinkDropMalformedCount : Nat := 0x500010
/-- LINK_ISOLATED_DROP_COUNT. -/
def odLinkIsolatedDropCount : Nat := 0x500011
/-- HOST_CLASS_DROP_COUNT. -/
def odHostClassDropCount : Nat := 0x500012
/-- PORT_STATE (first of its range). -/
def odPortState : Nat := 0x501001
/-- PORT_WIDTH (first of its range). -/
def odPortWidth : Nat := 0x501002
/-- LANES_GOOD (first of its range). -/
def odLanesGood : Nat := 0x501003
/-- PEER_ID (first of its range). -/
def odPeerId : Nat := 0x501004
/-- PORT_CTRL (first of its range). -/
def odPortCtrl : Nat := 0x501005
/-- FEC_CORRECTED_COUNT (first of its range). -/
def odFecCorrectedCount : Nat := 0x501006
/-- FEC_UNCORRECTABLE_COUNT (first of its range). -/
def odFecUncorrectableCount : Nat := 0x501007
/-- REPLAY_COUNT (first of its range). -/
def odReplayCount : Nat := 0x501008
/-- PARTITIONS_COMPOSED. -/
def odPartitionsComposed : Nat := 0x580001
/-- DOORBELL_IGNORED_COUNT. -/
def odDoorbellIgnoredCount : Nat := 0x580002
/-- MB_DROP_COUNT. -/
def odMbDropCount : Nat := 0x580003
/-- STEP_LOST_COUNT. -/
def odStepLostCount : Nat := 0x580004
/-- PARTITION_RESET_COUNT. -/
def odPartitionResetCount : Nat := 0x580005
/-- MB_HOST_HP_BASE. -/
def odMbHostHpBase : Nat := 0x580006
/-- PART_HALF_BAYS (first of its range). -/
def odPartHalfBays : Nat := 0x581001
/-- PART_STACK_SET (first of its range). -/
def odPartStackSet : Nat := 0x581002
/-- PART_SPAN_MIB (first of its range). -/
def odPartSpanMib : Nat := 0x581003
/-- PART_CTRL (first of its range). -/
def odPartCtrl : Nat := 0x581004
/-- PART_CTRL_STATUS (first of its range). -/
def odPartCtrlStatus : Nat := 0x581005
/-- PART_CLUSTERS (first of its range). -/
def odPartClusters : Nat := 0x581006
/-- PART_HBM_SIZE (first of its range). -/
def odPartHbmSize : Nat := 0x581007
/-- JOB_STATE (first of its range). -/
def odJobState : Nat := 0x581008
/-- JOB_ID (first of its range). -/
def odJobId : Nat := 0x581009
/-- JOB_STEP (first of its range). -/
def odJobStep : Nat := 0x58100A
/-- PART_UNMAPPED (first of its range). -/
def odPartUnmapped : Nat := 0x58100B
/-- MB_HOST_BASE (first of its range). -/
def odMbHostBase : Nat := 0x58100C
/-- RING_SEL. -/
def odRingSel : Nat := 0x590001
/-- RING_PART. -/
def odRingPart : Nat := 0x590002
/-- RING_PRIO. -/
def odRingPrio : Nat := 0x590003
/-- RING_CLASS. -/
def odRingClass : Nat := 0x590004
/-- RING_LOG2_ENTRIES. -/
def odRingLog2Entries : Nat := 0x590005
/-- RING_BASE. -/
def odRingBase : Nat := 0x590006
/-- CPL_BASE. -/
def odCplBase : Nat := 0x590007
/-- RING_CTRL. -/
def odRingCtrl : Nat := 0x590008
/-- RING_STATUS. -/
def odRingStatus : Nat := 0x590009
/-- RING_CONSUMER. -/
def odRingConsumer : Nat := 0x59000A
/-- RING_STOP_INDEX. -/
def odRingStopIndex : Nat := 0x59000B
/-- LOG_NEXT_SEQ. -/
def odLogNextSeq : Nat := 0x600001
/-- LOG_OLDEST. -/
def odLogOldest : Nat := 0x600002
/-- LOG_COUNT. -/
def odLogCount : Nat := 0x600003
/-- LOG_SEL. -/
def odLogSel : Nat := 0x600004
/-- LOG_READ. -/
def odLogRead : Nat := 0x600005
/-- PLOG_NEXT_SEQ (first of its range). -/
def odPlogNextSeq : Nat := 0x601001
/-- PLOG_OLDEST (first of its range). -/
def odPlogOldest : Nat := 0x601002
/-- PLOG_COUNT (first of its range). -/
def odPlogCount : Nat := 0x601003
/-- PLOG_SEL (first of its range). -/
def odPlogSel : Nat := 0x601004
/-- PLOG_READ (first of its range). -/
def odPlogRead : Nat := 0x601005
/-- FW_VERSION. -/
def odFwVersion : Nat := 0x700001
/-- FW_VERSION_FLOOR. -/
def odFwVersionFloor : Nat := 0x700002
/-- FW_STAGE_HOST_ADDR. -/
def odFwStageHostAddr : Nat := 0x700003
/-- FW_STAGE_LEN. -/
def odFwStageLen : Nat := 0x700004
/-- FW_UPDATE_CTRL. -/
def odFwUpdateCtrl : Nat := 0x700005
/-- FW_UPDATE_STATUS. -/
def odFwUpdateStatus : Nat := 0x700006
/-- FW_UNITS_PENDING. -/
def odFwUnitsPending : Nat := 0x700007
/-- WX0804_LOAD_COUNT. -/
def odWx0804LoadCount : Nat := 0x700008
/-- FARRIER_PKG_VERSION. -/
def odFarrierPkgVersion : Nat := 0x710001
/-- FARRIER_VERSION_FLOOR. -/
def odFarrierVersionFloor : Nat := 0x710002
/-- FARRIER_STAGE_HOST_ADDR. -/
def odFarrierStageHostAddr : Nat := 0x710003
/-- FARRIER_STAGE_LEN. -/
def odFarrierStageLen : Nat := 0x710004
/-- FARRIER_CTRL. -/
def odFarrierCtrl : Nat := 0x710005
/-- FARRIER_STATUS. -/
def odFarrierStatus : Nat := 0x710006
/-- FARRIER_RUN_COUNT. -/
def odFarrierRunCount : Nat := 0x710007
/-- FARRIER_SUSPECT_COUNT. -/
def odFarrierSuspectCount : Nat := 0x710008
/-- FARRIER_OVERDUE_SITES. -/
def odFarrierOverdueSites : Nat := 0x710009
/-- SPARE_FLOOR. -/
def odSpareFloor : Nat := 0x71000A
/-- SPARES_USABLE. -/
def odSparesUsable : Nat := 0x71000B
/-- UPC_FLOOR. -/
def odUpcFloor : Nat := 0x71000C
/-- REPLACE_FLAG. -/
def odReplaceFlag : Nat := 0x71000D
/-- LAST_VISIT_ST (first of its range). -/
def odLastVisitSt : Nat := 0x711001

end Sys2Proof.Machine
end

