-- ==== Sys2Proof/Machine/Ops.lean ====
section
/-! DEFINITION. The shared operations of the block: access to the units, the object-dictionary
registers, the event log (R520 to R524), completion records (R313, R474), the studbook
(R494 to R501), core faults (R202 to R204), lost steps (R321) and fences (R44, R497). -/

namespace Sys2Proof.Machine

open Sys2Proof

/-! ### Units -/

/-- A core. -/
def State.core (s : State) (c : CoreId) : Core := mget zCore s.cores c
/-- Store a core. -/
def State.setCore (s : State) (c : CoreId) (x : Core) : State :=
  { s with cores := mset zCore s.cores c x }
/-- The present state of a core. -/
def State.cur (s : State) (c : CoreId) : CoreSt := (s.core c).cur
/-- Change the present state of a core. -/
def State.modCur (s : State) (c : CoreId) (f : CoreSt → CoreSt) : State :=
  let x := s.core c
  s.setCore c { x with cur := f x.cur }
/-- Change a core at its present and at the start of its cycle alike: an effect from outside the
core that no fault of the cycle takes back (R160). -/
def State.modBoth (s : State) (c : CoreId) (f : CoreSt → CoreSt) : State :=
  let x := s.core c
  s.setCore c ⟨f x.cur, f x.beg⟩

/-- A cluster site. -/
def State.cl (s : State) (site : SiteId) : Cluster := mget zCl s.clusters site
/-- Store a cluster site. -/
def State.setCl (s : State) (site : SiteId) (x : Cluster) : State :=
  { s with clusters := mset zCl s.clusters site x }
/-- Change a cluster site. -/
def State.modCl (s : State) (site : SiteId) (f : Cluster → Cluster) : State :=
  s.setCl site (f (s.cl site))
/-- A bay. -/
def State.bay (s : State) (b : Nat) : Bay := mget zBay s.bays b
/-- Change a bay. -/
def State.modBay (s : State) (b : Nat) (f : Bay → Bay) : State :=
  { s with bays := mset zBay s.bays b (f (s.bay b)) }
/-- A groom. -/
def State.groom (s : State) (g : Nat) : Groom := mget zGroom s.grooms g
/-- Change a groom. -/
def State.modGroom (s : State) (g : Nat) (f : Groom → Groom) : State :=
  { s with grooms := mset zGroom s.grooms g (f (s.groom g)) }
/-- A partition. -/
def State.part (s : State) (p : Nat) : Part := mget zPart s.parts p
/-- Change a partition. -/
def State.modPart (s : State) (p : Nat) (f : Part → Part) : State :=
  { s with parts := mset zPart s.parts p (f (s.part p)) }
/-- Change the job of a partition. -/
def State.modJob (s : State) (p : Nat) (f : Job → Job) : State :=
  s.modPart p fun x => { x with job := f x.job }
/-- A ring. -/
def State.ring (s : State) (r : Nat) : Ring := mget zRing s.rings r
/-- Change a ring. -/
def State.modRing (s : State) (r : Nat) (f : Ring → Ring) : State :=
  { s with rings := mset zRing s.rings r (f (s.ring r)) }
/-- A link. -/
def State.link (s : State) (k : Nat) : Link := mget zLink s.links k
/-- Change a link. -/
def State.modLink (s : State) (k : Nat) (f : Link → Link) : State :=
  { s with links := mset zLink s.links k (f (s.link k)) }

/-! ### Object-dictionary registers -/

/-- The value of an entry held in the dictionary. -/
def State.od (s : State) (k : Nat) : Nat := mget odDefault s.dict.val k
/-- Set an entry. -/
def State.odSet (s : State) (k v : Nat) : State :=
  { s with dict := { s.dict with val := mset odDefault s.dict.val k v } }
/-- Add to a 64-bit counter (R15). -/
def State.odAdd (s : State) (k n : Nat) : State := s.odSet k ((s.od k + n) % 2 ^ 64)
/-- The key of an entry of a bay or another numbered unit. -/
def odAt (k n : Nat) : Nat := k + 256 * n
/-- The key of an entry of a cluster site (0x..+n:0x01+s). -/
def odSite (k : Nat) (site : SiteId) : Nat := k + 256 * (site / 36) + site % 36
/-- A numbered unit's bit in a register. -/
def State.odBit (s : State) (k i : Nat) : Bool := (s.od k).testBit i
/-- Set or clear a numbered unit's bit in a register. -/
def State.odPutBit (s : State) (k i : Nat) (v : Bool) : State :=
  let x := s.od k
  s.odSet k (if v then (if x.testBit i then x else x + 2 ^ i)
             else (if x.testBit i then x - 2 ^ i else x))

/-! ### Free values -/

/-- The free value of the present count (log 5). -/
def State.freeW (s : State) : W64 := Config.freeValue s.fresh
/-- Use up a free value. -/
def State.useFree (s : State) : State := { s with fresh := s.fresh + 1 }

/-! ### Names of units -/

/-- The module as a whole (R521). -/
def unModule : UnitId := ⟨0, 0xFF, 0xFF, 0xFF⟩
/-- A cluster site (R494). -/
def unSite (site : SiteId) : UnitId := ⟨2, site / 36, site % 36, 0xFF⟩
/-- A core site (R494). -/
def unCoreSite (site : SiteId) (k : Nat) : UnitId := ⟨1, site / 36, site % 36, k⟩
/-- A router. -/
def unRouter (site : SiteId) : UnitId := ⟨3, site / 36, site % 36, 0xFF⟩
/-- A crossing link: bay, side, link along the side. -/
def unCrossing (bay side link : Nat) : UnitId := ⟨4, bay, side, link⟩
/-- A bay as a whole: no kind of unit of R494 is a bay, so it is named as the cluster sites of the bay, the
site being all ones (log 29). -/
def unBay (bay : Nat) : UnitId := ⟨2, bay, 0xFF, 0xFF⟩
/-- An LDO slice. -/
def unSlice (site : SiteId) (k : Nat) : UnitId := ⟨5, site / 36, site % 36, k⟩
/-- A pseudo-channel, numbered 32 * stack + pseudo-channel. -/
def unPc (pc : Nat) : UnitId := ⟨6, pc / 32, pc % 32, 0xFF⟩
/-- A stack. -/
def unStack (st : Nat) : UnitId := ⟨7, st, 0xFF, 0xFF⟩
/-- An update chiplet. -/
def unUpc (u : Nat) : UnitId := ⟨8, u, 0xFF, 0xFF⟩
/-- The link die of a link (R440). -/
def linkDie (k : Nat) : Nat :=
  if k ≤ 6 then 0 else if k ≤ 14 then 1 else if k ≤ 21 then 2 else if k ≤ 29 then 3
  else [0, 1, 2, 3, 0, 2].getD (k - 30) 0
/-- A lane of a link. -/
def unLane (link lane : Nat) : UnitId := ⟨9, 16 + linkDie link, link, lane⟩
/-- A groom. -/
def unGroom (g : Nat) : UnitId := ⟨10, g, 0xFF, 0xFF⟩
/-- A BEAT node. -/
def unNode (n : Nat) : UnitId := ⟨11, n, 0xFF, 0xFF⟩

/-- The site of a core. -/
def coreSiteOf (c : CoreId) : SiteId := c / 16
/-- The logical core index of a core. -/
def coreIdx (c : CoreId) : Nat := c % 16
/-- The partition and partition index that own a core's cluster. -/
def State.ownerOf (s : State) (c : CoreId) : Option (Nat × Nat) := (s.cl (coreSiteOf c)).owner
/-- LUNIT of a core (R521): its logical cluster and core, or all ones. -/
def State.lunit (s : State) (c : CoreId) : Nat :=
  match s.ownerOf c with
  | some (_, i) => i % 65536 + 65536 * coreIdx c
  | none => 0xFFFFFFFF
/-- LUNIT of no logical unit. -/
def noLunit : Nat := 0xFFFFFFFF
/-- The physical unit of a core: the core site behind its logical index (R30, R206). -/
def State.unCore (s : State) (c : CoreId) : UnitId :=
  unCoreSite (coreSiteOf c) (((s.cl (coreSiteOf c)).coreMap.getD (coreIdx c) (coreIdx c)))

/-! ### The event log -/

/-- F has reached T (R182), modulo 2^32. -/
def reached (f t : W32) : Bool := decide ((f - t).toNat < 2 ^ 31)

/-- The codes whose records are limited to 16 in a second (R524). -/
def suppressible (code : Nat) : Bool :=
  (decide (0x4001 ≤ code) && decide (code ≤ 0x4008)) ||
    (decide (0x7001 ≤ code) && decide (code ≤ 0x7003))

/-- Keep the newest `n` records of a ring of records (R520). -/
def lastN (n : Nat) (l : List EvRec) : List EvRec := l.drop (l.length - n)

/-- Whether this occurrence is logged, the SUPP it carries, and the new counts (R524). -/
def suppStep (l : List Supp) (code : Nat) (un : UnitId) (sec : Nat) : Bool × Nat × List Supp :=
  if !suppressible code then (true, 0, l)
  else
    match l.find? fun x => x.code == code && x.un == un with
    | none => (true, 0, ⟨code, un, sec, 1, 0⟩ :: l)
    | some x =>
      let cnt := if x.second = sec then x.count else 0
      let rest := l.filter fun y => !(y.code == code && y.un == un)
      if cnt < 16 then (true, min 255 x.supp, ⟨code, un, sec, cnt + 1, 0⟩ :: rest)
      else (false, 0, ⟨code, un, sec, cnt, x.supp + 1⟩ :: rest)

/-- The two sites at whose routers a link die is attached (R36, R346). -/
def dieSites (d : Nat) : List SiteId :=
  [[0, 36], [36 * 3 + 8, 36 * 7 + 8], [36 * 15 + 35, 36 * 14 + 35], [36 * 12 + 27, 36 * 8 + 27]].getD d []
/-- The site at whose router a bay's groom is attached (R346). -/
def groomSite (b : Nat) : SiteId := 36 * b + 13
/-- Whether a router has stopped: its aisle is down, or it is faulty (R366, R372). -/
def State.routerStopped (s : State) (site : SiteId) : Bool :=
  (s.bay (site / 36)).aisleDown || (s.cl site).routerFaulty
/-- Whether a link die has lost its path to the mesh: both routers it is attached to have stopped (R54, R346). -/
def State.dieCutOff (s : State) (d : Nat) : Bool := (dieSites d).all s.routerStopped
/-- Whether a groom has lost its path to the mesh: the router of its bay that it is attached to has stopped, or both
routers of its link die (R346, R366, R367, R372). -/
def State.groomCut (s : State) (g : Nat) : Bool :=
  if g < 16 then s.routerStopped (groomSite g) else s.dieCutOff (g - 16)
/-- Whether a link is UP (R478). -/
def State.linkUp (s : State) (k : Nat) : Bool := s.od (odAt odPortState k) == 2
/-- Whether a host port is UP whose link die has its path to the mesh (R54, R476). -/
def State.hostUp (s : State) : Bool := [34, 35].any fun k => s.linkUp k && !s.dieCutOff (linkDie k)
/-- The module has power and is out of RESET_N. -/
def State.up (s : State) : Bool := s.start.pwrgood && s.start.resetN && !s.start.stopped
/-- A packet of a host that reaches a host port which does not serve it: an UP port is then cut off from the mesh, and
the packet is discarded and counted (R54, R442). -/
def State.hostLost (s : State) (route : Nat) : State :=
  if s.up && decide (route ≤ 32) && !s.hostUp && (s.linkUp 34 || s.linkUp 35) then s.odAdd odLinkIsolatedDropCount 1
  else s
/-- Send a message to the card: where the link die of the host port has no path to the mesh, the router discards it
(R54, R367). -/
def State.toCard (s : State) (m : HostMsg) : State :=
  if s.dieCutOff (linkDie s.hostPort) then s.odAdd odMeshUnreachDropCount 1
  else { s with hostTx := s.hostTx ++ [m] }

/-- An HWR completion record is 64 bytes (R313). -/
def State.hostWrite (s : State) (addr data bytes : Nat) : State :=
  s.toCard (.hwr addr data bytes)

/-- A sideband frame with its check sequence behind it, the byte of its low bits first (R567). -/
def withFcs (l : List Byte) : List Byte := l ++ leBytes 4 (crc32 l).toNat

/-- Alert one sideband port for a record, at most once per 1 ms (R570). -/
def State.alertPort (s : State) (port code : Nat) (seq : W32) : State :=
  let last := mget zN s.log.alertAt port
  if last = 0 || decide (last - 1 + 1000000 ≤ s.clk.dt) then
    let ipeer := s.od odSbEthPeer
    if port = 35 && (ipeer = 0 || s.od odSbEthEnable = 0 || s.od odSbIpv4Addr = 0) then s
    else
      let m : SideMsg :=
        if port = 35 then .udp (BitVec.ofNat 32 ipeer) (BitVec.ofNat 16 (s.od odSbUdpPort))
          (withFcs (leBytes 4 0x3 ++ leBytes 4 code ++ leBytes 4 seq.toNat ++ leBytes 4 0))
        else .ibi port (code / 4096) seq
      { s with sideTx := s.sideTx ++ [m]
               log := { s.log with alertAt := mset zN s.log.alertAt port (s.clk.dt + 1) } }
  else s

/-- Alert the sidebands and pull ALERT_N low for a record whose group is in SB_ALERT_MASK
(R570, R589). -/
def State.alert (s : State) (code : Nat) (seq : W32) : State :=
  if s.odBit odSbAlertMask (code / 4096) then
    let s := { s with log := { s.log with alertSeq := some seq } }
    ((s.alertPort 33 code seq).alertPort 34 code seq).alertPort 35 code seq
  else s

/-- Write a record to the module log and to the log of its partition (R491, R520 to R524); the flag
says whether a record was written. -/
def State.appendEv (s : State) (code : Nat) (un : UnitId) (part : Option Nat) (lunit : Nat)
    (payload : List Nat) : State × Bool :=
  let (go, supp, l) := suppStep s.log.supp code un (s.clk.dt / 1000000000)
  let s := { s with log := { s.log with supp := l } }
  if !go then (s, false)
  else if !s.log.exists_ && decide (1024 ≤ s.log.recs.length) then
    (({ s with log := { s.log with lostNext := true } } : State).odAdd odEarlyEventsLost 1, false)
  else
    let job := (part.map fun p => (s.part p).job).getD Job.zero
    let r : EvRec :=
      { code := code, un := un, part := part,
        lost := s.log.lostNext || (part.any fun p => mget zF s.log.plost p), supp := supp, dt := s.clk.dt / 10 * 10,
        seq := s.log.seq, jobId := job.jobId, step := job.step, lunit := BitVec.ofNat 32 lunit,
        payload := payload }
    let plogs :=
      match part with
      | none => s.log.plogs
      | some p =>
        match mget (fun _ => none) s.log.plogs p with
        | none => s.log.plogs
        | some (b, rs) => mset (fun _ => none) s.log.plogs p (some (b, lastN 65536 (rs ++ [r])))
    let s := { s with log := { s.log with recs := lastN 1048576 (s.log.recs ++ [r]),
                                          plogs := plogs, seq := s.log.seq + 1,
                                          lostNext := false,
                                          plost := match part with
                                            | some p => mset zF s.log.plost p false
                                            | none => s.log.plost } }
    (s.alert code r.seq, true)

/-! ### Completion records -/

/-- Completion statuses (R342). -/
def csOk : Nat := 0x00
/-- CS_ARG_INVALID. -/
def csArgInvalid : Nat := 0x01
/-- CS_STATE_ILLEGAL. -/
def csStateIllegal : Nat := 0x02
/-- CS_NO_RESOURCE. -/
def csNoResource : Nat := 0x03
/-- CS_POISON_CONSUMED. -/
def csPoisonConsumed : Nat := 0x04
/-- CS_STEP_MISMATCH. -/
def csStepMismatch : Nat := 0x05
/-- CS_STEP_LOST. -/
def csStepLost : Nat := 0x06
/-- CS_TIMEOUT. -/
def csTimeout : Nat := 0x07
/-- CS_CORE_FAULT. -/
def csCoreFault : Nat := 0x08
/-- CS_BANK_CONFLICT. -/
def csBankConflict : Nat := 0x09
/-- CS_OVERFLOW_UNRESOLVED. -/
def csOverflow : Nat := 0x0A
/-- CS_LINK_DOWN. -/
def csLinkDown : Nat := 0x0B
/-- CS_AUTH_FAILED. -/
def csAuthFailed : Nat := 0x0C

/-- The results of a completion record (R314). -/
structure Results where
  reason : Nat
  a : Nat
  b : Nat
  c : Nat
  deriving DecidableEq, Repr

/-- No results. -/
def noRes : Results := ⟨0, 0, 0, 0⟩

/-- The completion record of R313, as a number of 512 bits. -/
def cplWord (cmd : RingCmd) (size status : Nat) (res : Results) (jobId step : W32) (dt : Nat) : Nat :=
  cmd.idx + status * 2 ^ 32 + fld cmd.desc 0 8 * 2 ^ 40 + res.reason * 2 ^ 48 +
    (cmd.idx / size + 1) % 2 * 2 ^ 63 + fld cmd.desc 32 32 * 2 ^ 64 + jobId.toNat * 2 ^ 96 +
    step.toNat * 2 ^ 128 + dt % 2 ^ 64 * 2 ^ 160 + res.a % 2 ^ 64 * 2 ^ 224 +
    res.b % 2 ^ 64 * 2 ^ 288 + res.c % 2 ^ 128 * 2 ^ 352

/-- INTR after a completion record of a ring, at most one per ring per 1 µs (R474). -/
def State.intr (s : State) (r : Nat) : State :=
  if s.od odHostIntrEn = 0 then s
  else
    let x := s.ring r
    if x.intrAt = 0 || decide (x.intrAt - 1 + 1000 ≤ s.clk.dt) then
      (s.modRing r fun x => { x with intrAt := s.clk.dt + 1, intrDue := false }).toCard (.intr r)
    else s.modRing r fun x => { x with intrDue := true }

/-- Take a started command off the list and write its completion record (R313). -/
def State.writeCpl (s : State) (cmd : RingCmd) (status : Nat) (res : Results) : State :=
  let x := s.ring cmd.ring
  let size := 2 ^ x.log2
  let job := (s.part cmd.part).job
  let s := { s with cmds := s.cmds.filter fun y => !(y.ring == cmd.ring && y.idx == cmd.idx) }
  let s := s.hostWrite (x.cpl + 64 * (cmd.idx % size))
    (cplWord cmd size status res job.jobId job.step (s.clk.dt / 10 * 10)) 64
  s.intr cmd.ring

/-- Whether a waiting EVENT_WAIT takes an event (R329). -/
def waitMatches (s : State) (cmd : RingCmd) (code dt : Nat) (part : Option Nat) : Bool :=
  decide (fld cmd.desc 0 8 = 0x22) &&
    decide (((code ^^^ fld cmd.desc 64 16) &&& fld cmd.desc 80 16) = 0) &&
    decide (fld cmd.desc 96 64 ≤ dt) &&
    ((s.ring cmd.ring).cls == 0 || part == some cmd.part)

/-- Log an event: its record, and the completion of every EVENT_WAIT that it matches (R329). -/
def State.logEv (s : State) (code : Nat) (un : UnitId) (part : Option Nat) (lunit : Nat)
    (payload : List Nat) : State :=
  match s.appendEv code un part lunit payload with
  | (s, false) => s
  | (s, true) =>
    (s.cmds.filter fun cmd => waitMatches s cmd code (s.clk.dt / 10 * 10) part).foldl
      (fun s cmd => s.writeCpl cmd csOk ⟨0, s.clk.dt / 10 * 10, code, 0⟩) s

/-- A record also goes to the log of a further partition that it concerns, where its EVENT_WAITs take it (R254, R329,
R520). -/
def State.alsoLog (s : State) (r : EvRec) (p : Nat) : State :=
  let s : State := match mget (fun _ => none) s.log.plogs p with
    | none => s
    | some (b, rs) =>
      { s with log := { s.log with plogs := mset (fun _ => none) s.log.plogs p (some (b, lastN 65536 (rs ++ [r]))) } }
  (s.cmds.filter fun cmd => (s.ring cmd.ring).cls != 0 && waitMatches s cmd r.code r.dt (some p)).foldl
    (fun s cmd => s.writeCpl cmd csOk ⟨0, r.dt, r.code, 0⟩) s

/-- Log one record that concerns several partitions: its PART names the first, and it goes to the log of each (R254,
R520). -/
def State.logMany (s : State) (code : Nat) (un : UnitId) (ps : List Nat) (payload : List Nat) : State :=
  let t := s.logEv code un ps.head? noLunit payload
  match t.log.recs.getLast?, decide (t.log.seq = s.log.seq) with
  | some r, false => ps.tail.foldl (fun (u : State) p => u.alsoLog r p) t
  | _, _ => t

/-- Send a read of host memory (R473). -/
def State.hostRead (s : State) (ring idx : Nat) (copy : Bool) (addr bytes : Nat) : State :=
  let t := s.toCard (.hrd s.hrd.tag addr bytes)
  { t with hrd := ⟨s.hrd.tag + 1, s.hrd.reqs ++ [⟨s.hrd.tag, ring, idx, copy, bytes, none⟩]⟩ }
/-- Forget the commands that have been read ahead from a ring (R304, R312). -/
def State.dropFetch (s : State) (ring : Nat) : State :=
  { s with hrd := { s.hrd with reqs := s.hrd.reqs.filter fun q => q.copy || q.ring != ring } }

/-- Complete a started command: its record, and the stop of its ring under STOP_ON_ERR (R311). -/
def State.complete (s : State) (cmd : RingCmd) (status : Nat) (res : Results) : State :=
  let s := s.writeCpl cmd status res
  if status ≠ csOk && (cmd.desc.getLsbD 8) && !(s.ring cmd.ring).stopped then
    let s := (s.modRing cmd.ring fun x => { x with stopped := true, stopIdx := x.cons }).dropFetch cmd.ring
    s.logEv 0x9004 unModule (some cmd.part) noLunit [cmd.ring, (s.ring cmd.ring).stopIdx.toNat]
  else s

/-- The started command of a ring and index. -/
def State.cmd (s : State) (ring idx : Nat) : Option RingCmd :=
  s.cmds.find? fun y => y.ring == ring && y.idx == idx

/-- Energy in mJ, rounded to the nearest (R437). -/
def toMj (pj : Nat) : Nat := (pj + 500000000) / 1000000000

/-- The energy that RES_B reports: what has been charged, and what the next slow loop will charge for the time since the
last one, which is a free value (R437; log 9). -/
def State.resEnergy (s : State) (charged : Nat) : Nat := toMj (charged + s.freeW.toNat % 2 ^ 48)

/-- The job of a partition completes its JOB_ARM or JOB_START (R314, R320 to R323, R437): the energy is that of the step
from its launch on, none if it was not launched. -/
def State.endArm (s : State) (p status reason : Nat) : State :=
  match (s.part p).job.armCmd with
  | none => s
  | some (r, i) =>
    match s.cmd r i with
    | none => s.modJob p fun j => { j with armCmd := none }
    | some cmd =>
      let e := match (s.part p).job.stepEnergy with
        | some n => s.resEnergy n
        | none => 0
      let a := (s.part p).job.actualDt
      let s := s.useFree.modJob p fun j => { j with armCmd := none }
      s.complete cmd status ⟨reason, a, e, 0⟩

/-! ### The local scratchpad and the end of a core's issue -/

/-- Merge bytes of a row under a bit mask. -/
def mergeBits {w : Nat} (old new lanes : BitVec w) : BitVec w := (old &&& ~~~lanes) ||| (new &&& lanes)

/-- The cycle in which a write takes effect (R189, R190). -/
def LspWrite.due (w : LspWrite) : Nat := w.issued + (if w.full then 2 else 4)

/-- Set the poison bits of both rows of a row's granule (R195, R250). -/
def poisonPair (m : SMap Bool) (row : Nat) : SMap Bool :=
  mset zF (mset zF m (2 * (row / 2)) true) (2 * (row / 2) + 1) true

/-- A write takes effect (R190, R198); it cancels a write-back that waits for the row (R197). -/
def CoreSt.applyWrite (c : CoreSt) (w : LspWrite) : CoreSt :=
  if w.full then
    { c with lsp := mset zR c.lsp w.row w.data, lspPoison := mset zF c.lspPoison w.row false,
             wback := c.wback.filter fun r => !(r == w.row) }
  else
    { c with lsp := mset zR c.lsp w.row (mergeBits (mget zR c.lsp w.row) w.data w.lanes),
             lspPoison := if w.poison then poisonPair c.lspPoison w.row else c.lspPoison,
             wback := c.wback.filter fun r => !(r == w.row) }

/-- Whether a read issued in cycle `n` returns a write that has not taken effect yet: full-row writes
issued before it, and merges from the third cycle on (R190). -/
def LspWrite.seenBy (w : LspWrite) (n : Nat) : Bool :=
  if w.full then decide (w.issued < n) else decide (w.issued + 3 ≤ n)

/-- A row and its poison bit as a read issued in cycle `n` returns them (R190). -/
def CoreSt.viewRow (c : CoreSt) (n row : Nat) : Row × Bool :=
  (c.writes.filter fun w => w.row == row && w.seenBy n).foldl
    (fun rp w =>
      if w.full then (w.data, false)
      else (mergeBits rp.1 w.data w.lanes, rp.2 || w.poison))
    (mget zR c.lsp row, mget zF c.lspPoison row)

/-- A partial-row write with the bytes that it merges into: as a row it reads in its own array stage (R190). -/
def LspWrite.taken (w : LspWrite) (old : Row) : LspWrite :=
  { w with data := mergeBits old w.data w.lanes, lanes := BitVec.allOnes 256 }

/-- Partial-row writes in their array stage take their rows (R189, R190). -/
def CoreSt.takeRows (c : CoreSt) : CoreSt :=
  { c with writes := c.writes.map fun w =>
      if !w.full && w.issued + 2 == c.cyc.toNat then w.taken (mget zR c.lsp w.row) else w }

/-- The writes of a core that stops, each with the row that it merges into (R190, R202). -/
def CoreSt.lastWrites (c : CoreSt) : List LspWrite :=
  c.writes.map fun w =>
    if !w.full && w.lanes != BitVec.allOnes 256 then w.taken (c.viewRow w.issued w.row).1 else w

/-- The flag increments that have arrived in the present cycle are added to the flags, behind the core's own change
(R184). -/
def CoreSt.incFlags (c : CoreSt) : CoreSt :=
  { c with flags := c.fInc.foldl (fun m x => mset zW m x.1 (mget zW m x.1 + x.2)) c.flags, fInc := [] }

/-- Stop a core: the LSP writes it has issued take effect, its overlays go on, and everything else
in flight is abandoned (R202, R204, R321). -/
def CoreSt.halt (c : CoreSt) (ph : CorePhase) : CoreSt :=
  let c := (c.lastWrites.foldl CoreSt.applyWrite c).incFlags
  { c with phase := ph, freeze := .none, branch := none, loops := [], vpend := [],
           pload := [], run := none, reads := [], writes := [], banks := [], confl := [], cpPend := [],
           sigPend := [], postPend := [], ackPend := [], causes := [], late := [], tabs := [], acted := [], symHeld := false,
           mx := { c.mx with dpend := [], loads := [], swaps := [], passes := [], drains := [] } }

/-- A core without the LSP writes of its present cycle, which a fault of that cycle abandons (R202). -/
def CoreSt.before (c : CoreSt) : CoreSt :=
  { c with writes := c.writes.filter fun w => decide (w.issued < c.cyc.toNat) }

/-- The HBM_SIZE of a partition (R227). -/
def Part.hbmSize (p : Part) : Nat := p.chans.length * p.span
/-- The clusters of a partition (R298). -/
def Part.clusters (p : Part) : Nat := p.sites.length
/-- Whether a remote reference of a partition is entered (R236). -/
def Part.refIn (p : Part) (k : Nat) : Bool := (mget (fun _ => none) p.refs k).isSome

/-- Whether the descriptor of a CP operation passes its check and carries no poison (R179, R199). -/
def State.cpPasses (s : State) (c : CoreId) (x : CoreSt) (p : CpPend) : Bool :=
  let part := s.part (((s.ownerOf c).map (·.1)).getD 255)
  !(x.reads.any fun r => r.poison && r.issued == p.issued && r.slot == 5) && !p.poison &&
    (if p.ovl then ovlOk p.data part.hbmSize else copyOk p.data part.clusters part.hbmSize part.refIn)

/-- A CP operation that passes becomes a copy or an overlay outstanding (R179, R180). -/
def State.startCp (s : State) (c : CoreId) (x : CoreSt) (p : CpPend) : State :=
  if !s.cpPasses c x p then s
  else if p.ovl then
    let o := ovlDesc p.data
    s.modBoth c fun x => { x with ovls := x.ovls ++ [⟨o.start, o.count, o.flag, o.inc, o.src, p.issued + 6, false, false⟩] }
  else
    let y : CopySt :=
      { num := s.nextCopy, core := c, part := ((s.ownerOf c).map (·.1)).getD 255, eng := p.eng, bpc := p.bpc,
        desc := p.data, acted := false, adds := 0, pkts := [], ovf := false, retryUs := 0, retryAt := 0 }
    { s with nextCopy := s.nextCopy + 1, copies := s.copies ++ [y] }

/-- Stop a core; the copies and overlays that it has issued go on (R202, R204). -/
def State.haltCore (s : State) (c : CoreId) (x : CoreSt) (y : CoreSt) : State :=
  x.cpPend.foldl (fun s p => s.startCp c x p) (s.setCore c ⟨y, y⟩)

/-- Stop every issuing core of a partition but one (R204, R321; log 15). -/
def State.stopCores (s : State) (p : Nat) (but : Option CoreId) : State :=
  s.cores.foldl
    (fun s kv =>
      let x := kv.2.cur
      if (x.phase = .running || x.phase = .ended) && some kv.1 != but && (s.ownerOf kv.1).map (·.1) == some p then
        let y := if x.causes.isEmpty then x else kv.2.beg
        s.haltCore kv.1 y (y.halt .idle)
      else s) s

/-! ### Lost steps and core faults -/

/-- A cause of the step-loss table strikes a partition (R321). -/
def State.stepLost (s : State) (p reason : Nat) : State :=
  let j := (s.part p).job
  if j.st = .armed || j.st = .running then
    let s := (s.stopCores p none).modJob p fun j => { j with st := .halted, reason := reason }
    let s := (s.endArm p csStepLost reason).odAdd odStepLostCount 1
    s.logEv 0x9002 unModule (some p) noLunit [reason, j.step.toNat]
  else s

/-- A cause of a core fault: its code, the bundle address and the slot that raised it (R202). -/
structure Cause where
  code : Nat
  bpc : Nat
  slot : Nat
  deriving DecidableEq, Repr

/-- The rank of a cause: POISON, BANK_CONFLICT, then ascending code (R203). -/
def Cause.rank (c : Cause) : Nat :=
  if c.code = 0x0D then 0 else if c.code = 0x07 then 1 else c.code + 1

/-- The causes that are due in the present cycle: their checks fail in it whatever its bundle holds (R202). -/
def CoreSt.dueCauses (c : CoreSt) : List Cause := c.causes.map fun k => ⟨k.1, k.2.1, k.2.2⟩

/-- Whether a cause comes before another: by its rank (R203); of equals, the slot that stands first in a bundle comes first
(DESIGN CHOICE, log 51). -/
def Cause.before (d c : Cause) : Bool := decide (d.rank < c.rank) || (d.rank == c.rank && decide (d.slot < c.slot))

/-- The first-ranked of several causes (R203). -/
def firstCause : List Cause → Option Cause
  | [] => none
  | c :: cs =>
    match firstCause cs with
    | none => some c
    | some d => if d.before c then some d else some c

/-- The completion status of a cause (R201). -/
def causeStatus (code : Nat) : Nat :=
  if code = 0x07 then csBankConflict else if code = 0x0D then csPoisonConsumed
  else if code = 0x0E then csTimeout else csCoreFault

/-- The bitmap of causes (R202). -/
def causeBits (cs : List Cause) : Nat :=
  ((List.range 32).filter fun k => cs.any fun c => c.code == k).foldl (fun a k => a + 2 ^ k) 0

/-- A core fault in the present core cycle: nothing of the cycle stands (R202), the other cores of
the job stop (R204), and the job is FAULTED (R322). BANK_CONFLICT_COUNT grows by 1 for a fault that has BANK_CONFLICT
among its causes, whichever ranks first and however many conflicts the cycle has: a DESIGN CHOICE, since the manual does
not say what it counts (R207, log 88). -/
def State.coreFault (s : State) (c : CoreId) (causes : List Cause) : State :=
  match firstCause causes with
  | none => s
  | some f =>
    let x := s.core c
    let st := { x.beg.before.halt .faulted with fault := some (f.code, f.bpc, f.slot) }
    let s := s.haltCore c x.beg st
    let part := (s.ownerOf c).map (·.1)
    let s := s.odAdd odCoreFaultCount 1
    let s := if causes.any fun k => k.code == 0x07 then s.odAdd odBankConflictCount 1 else s
    let s := s.logEv 0x9001 (s.unCore c) part (s.lunit c)
      [f.code, f.bpc, f.slot, 0, fld x.beg.cyc 0 32, fld x.beg.cyc 32 32, causeBits causes]
    match part with
    | none => s
    | some p =>
      let s := s.stopCores p (some c)
      if (s.part p).job.st = .running then
        (s.modJob p fun j => { j with st := .faulted, reason := f.code }).endArm p
          (causeStatus f.code) f.code
      else s

/-- Checks fail in the present cycle of a core: their causes are kept, and the core faults when the cycle ends, so
that every cause of the cycle is ranked and shown in the bitmap (R202, R203; log 51). -/
def CoreSt.fail (c : CoreSt) (ks : List Cause) : CoreSt :=
  { c with causes := c.causes ++ ks.map fun k => (k.code, k.bpc, k.slot) }

/-- Whether the operations of a core advance: it has started, and no wait or fetch hold keeps it
frozen in this cycle (R160, R161). A hold that starts at the end of the cycle stops nothing of it. -/
def CoreSt.active (c : CoreSt) : Bool :=
  (c.phase == .running || c.phase == .ended) && c.started &&
    (match c.freeze with
     | .none => true
     | .hold _ => true
     | .replay _ => true
     | _ => false)

/-- Whether a slot of the fetched bundle may issue (R166): the core was running when the cycle began,
and neither a fault nor a stop has ended it since; END stops the next bundle only (R175). -/
def Core.ready (x : Core) : Bool := x.beg.phase == .running && x.cur.active

/-- Where a slot stands in a bundle: its lowest bit and its width (R165). The slots have their codes of R202: MX, VX,
SEQ, LS0, LS1, CP, FL. -/
def slotAt (slot : Nat) : Nat × Nat :=
  [(0, 32), (32, 48), (80, 48), (128, 40), (168, 40), (208, 24), (232, 24)].getD slot (0, 0)
/-- The word of a slot of the fetched bundle (R165). -/
def CoreSt.slotWord (c : CoreSt) (slot : Nat) : Nat := fld c.bundle (slotAt slot).1 (slotAt slot).2
/-- Whether the fetched bundle holds a word in a slot that has not issued in this cycle (R165, R166). -/
def CoreSt.slotDue (c : CoreSt) (slot w : Nat) : Bool := c.slotWord slot == w && !c.acted.contains slot
/-- A slot has issued in this cycle. -/
def CoreSt.actedBy (c : CoreSt) (slot : Nat) : CoreSt := { c with acted := slot :: c.acted }

/-- A slot operation with the word `w`: it issues once in a cycle, if the fetched bundle holds it in that slot and its
core may issue (R165, R166). `k` gives, from the state at the start of the cycle and the present one, the causes of a
fault or the new state. A broken encoding is a cause too (R19, R202). -/
def State.slotOp (s : State) (c : CoreId) (slot w : Nat) (enc : Bool)
    (k : CoreSt → CoreSt → List Nat × CoreSt) : State :=
  let x := s.core c
  if !(x.ready && x.cur.slotDue slot w) then s
  else
    let (cs, cur) := if enc then k x.beg x.cur else ([0x01], x.cur)
    s.setCore c { x with cur := (if cs.isEmpty then cur
      else x.cur.fail (cs.map fun code => ⟨code, x.cur.bpc, slot⟩)).actedBy slot }

/-- Add an increment from outside to a flag of a core: behind the core's own changes of an open cycle, seen from the next
one (R160, R181, R184). -/
def State.incFlag (s : State) (c : CoreId) (flag : Nat) (inc : W32) : State :=
  s.modBoth c fun x =>
    if (s.cur c).active then { x with fInc := x.fInc ++ [(flag, inc)] }
    else { x with flags := mset zW x.flags flag (mget zW x.flags flag + inc) }

/-- Whether CCLK of a site runs: it has stopped from the start of a downward change to its restart; during the
raise of an upward change the cluster runs on (R161, R386, R399). -/
def State.cclk (s : State) (site : SiteId) : Bool :=
  (s.cl site).power == .on &&
    (match (s.cl site).change with
     | some (_, false) => false
     | _ => true)

/-- Whether a site is in a change stop: what arrives for it waits until CCLK restarts (R387). -/
def State.stopped (s : State) (site : SiteId) : Bool :=
  (s.cl site).power == .on && !s.cclk site

/-- A request that a cluster port discards is counted by the port's state (R363); at a router that has stopped the port is
UNREACH (R366, R367, R372). -/
def State.portDrop (s : State) (site : SiteId) : State :=
  if s.routerStopped site then s.odAdd odMeshUnreachDropCount 1
  else if (s.cl site).port = .dark then s.odAdd odMeshDarkDropCount 1
  else if (s.cl site).port = .reset then s.odAdd odMeshResetDropCount 1 else s

/-- A request has come to a parked port: the first one wakes the cluster (R363). -/
def State.wakePort (s : State) (site : SiteId) : State :=
  if (s.cl site).port = .park then s.modCl site fun x => { x with waking := true } else s

/-- What arrives for a cluster in a change stop takes effect once CCLK restarts, in the order of arrival (R387). -/
def State.landLater (s : State) (site : SiteId) (a : Arrival) : State := { s with landing := s.landing ++ [(site, a)] }

/-- What has arrived for a cluster and has not taken effect goes back to what is on its way: the cluster is switched off or
reset before its CCLK restarts, and its port answers (R363, R387). -/
def State.unland (s : State) (site : SiteId) : State :=
  let mine := (s.landing.filter fun x => x.1 == site).map (·.2)
  { s with landing := s.landing.filter fun x => x.1 != site
           signals := (mine.filterMap fun a => match a with | .signal g => some g | _ => none) ++ s.signals
           mails := (mine.filterMap fun a => match a with | .mail m => some m | _ => none) ++ s.mails
           adds := (mine.filterMap fun a => match a with | .add r _ _ => some r | _ => none) ++ s.adds }

/-- The seed of the job of a core's partition (R126). -/
def State.seedOf (s : State) (c : CoreId) : Nat :=
  match s.ownerOf c with
  | some (p, _) => (s.part p).job.seed.toNat
  | none => 0

/-! ### The studbook -/

/-- The studbook record of a unit. -/
def State.studOf (s : State) (un : UnitId) : Option StudRec := s.stud.find? fun r => r.un == un

/-- The class codes of R495. -/
def clsFused : Nat := 0
/-- SUSPECT. -/
def clsSuspect : Nat := 1
/-- TRANSIENT. -/
def clsTransient : Nat := 2
/-- HARD. -/
def clsHard : Nat := 3
/-- EXTERNAL. -/
def clsExternal : Nat := 4
/-- RETURNED. -/
def clsReturned : Nat := 5

/-- The bad rows and columns of a core site's MXE array in a list of steerings (R29). -/
def steerOf (l : List MxeSteer) (site : SiteId) (core : Nat) : List Nat × List Nat :=
  match l.find? fun m => m.site == site && m.core == core with
  | some m => (m.rows.eraseDups, m.cols.eraseDups)
  | none => ([], [])
/-- The physical row or column behind a logical one of an MXE array: the good ones of 34 in ascending order, the first 32
of them (R28, R29, R58). That the lowest good ones are taken is a DESIGN CHOICE: R58 only says that the fuse map names the
32 in use (log 103). -/
def physLine (bad : List Nat) (i : Nat) : Option Nat := ((List.range 34).filter fun k => !bad.contains k)[i]?
/-- Whether a core site is bad by its steering: more bad rows or columns than the 2 spares, or steering fuses that differ
from the copy in the map in use (R29, R481). -/
def State.steerBad (s : State) (site : SiteId) (core : Nat) : Bool :=
  let x := steerOf s.coreSteer site core
  decide (2 < x.1.length) || decide (2 < x.2.length) || x != steerOf s.fuse.steer site core
/-- Whether the map in use, or the steering fuses of a core site, mark a unit bad: it stays bad for the life of the module
(R29, R481, R483). -/
def State.fuseBad (s : State) (un : UnitId) : Bool :=
  s.fuse.bad.any (· == un) || (un.ut == 1 && s.steerBad (36 * un.a + un.b) un.c)

/-- Whether a unit is out of service (R495). -/
def State.unitOut (s : State) (un : UnitId) : Bool :=
  s.fuseBad un ||
    (match s.studOf un with
     | some r => decide (r.cls ≤ 4)
     | none => false)

/-- The eight words of a studbook record (R494, R522). -/
def StudRec.words (r : StudRec) : List Nat :=
  [ r.un.ut + 16 * r.cls + 256 * r.source + 65536 * r.un.a + 2 ^ 24 * r.un.b,
    r.un.c + 256 * r.fails + 65536 * r.clean,
    r.stFirst % 2 ^ 32, r.stLast % 2 ^ 32, r.stClean1 % 2 ^ 32, r.detail % 2 ^ 32, 0, 0 ]

/-- The studbook has changed: it is written to its copies (R500). -/
def State.studTouch (s : State) : State :=
  { s with start := { s.start with studSeq := s.start.studSeq + 1, studPend := true } }

/-- Put a record into the working copy of the studbook (R494, R500); a change of class is logged
(R501). At most 16,384 records are held. -/
def State.studPut (s : State) (r : StudRec) : State :=
  let old := s.studOf r.un
  let l :=
    match old with
    | some _ => s.stud.map fun x => if x.un == r.un then r else x
    | none => if s.stud.length < 16384 then s.stud ++ [r] else s.stud
  let s := ({ s with stud := l } : State).studTouch
  let s := s.odSet odStudbookCount l.length
  if old.map (·.cls) == some r.cls then s
  else
    let s := s.logEv 0x5001 r.un none noLunit r.words
    if r.cls = clsReturned then s.logEv 0x5002 r.un none noLunit [] else s

/-- A new record of a unit that has none (R494). -/
def newStud (un : UnitId) (st : Nat) : StudRec :=
  { un := un, cls := 15, source := 0, fails := 0, clean := 0, stFirst := 0, stLast := st,
    stClean1 := 0, wasTransient := false, detail := 0 }

/-- A unit fails in service or is found suspect (R497). -/
def State.studFail (s : State) (un : UnitId) (source detail : Nat) : State :=
  let r := (s.studOf un).getD (newStud un s.st)
  if r.cls = clsFused && (s.studOf un).isSome || s.fuseBad un then s
  else
    let fails := min 255 (r.fails + 1)
    let hard := decide (3 ≤ fails) || r.cls == clsTransient || (r.cls == clsReturned && r.wasTransient)
      || r.cls == clsHard
    s.studPut { r with cls := if hard then clsHard else clsSuspect, source := source, fails := fails,
                       clean := 0, stLast := s.st, stClean1 := 0, detail := detail,
                       stFirst := if r.fails = 0 then s.st else r.stFirst }

/-- A unit fails its return tests, or is out for good: HARD (R499, R413). -/
def State.studHard (s : State) (un : UnitId) (source detail : Nat) : State :=
  let r := (s.studOf un).getD (newStud un s.st)
  if s.fuseBad un then s
  else s.studPut { r with cls := clsHard, source := source, fails := min 255 (r.fails + 1), clean := 0,
                          stLast := s.st, stClean1 := 0, detail := detail,
                          stFirst := if r.fails = 0 then s.st else r.stFirst }

/-- A unit is fenced by power or heat (R497). -/
def State.studExternal (s : State) (un : UnitId) : State :=
  let r := (s.studOf un).getD (newStud un s.st)
  if s.fuseBad un || r.cls == clsSuspect || r.cls == clsHard || r.cls == clsFused then s
  else s.studPut { r with cls := clsExternal, source := 5, stLast := s.st,
                          wasTransient := r.wasTransient || r.cls == clsTransient }

/-- A unit returns to service (R495, R499). -/
def State.studReturn (s : State) (un : UnitId) (source : Nat) : State :=
  match s.studOf un with
  | none => s
  | some r =>
    s.studPut { r with cls := clsReturned, source := source, stLast := s.st, clean := 0, stClean1 := 0,
                       wasTransient := r.wasTransient || r.cls == clsTransient }

/-! ### Sites, spares and capacity -/

/-- The bytes of a pseudo-channel: 1.5 GB, decimal (R9, R225). -/
def pcBytes : Nat := 1500000000

/-- The logical position of a site, 0xFE a spare, 0xFF unusable (R514). -/
def State.siteLogical (s : State) (site : SiteId) : Nat := s.od (odSite odSiteLogical site)
/-- Set the logical position of a site. -/
def State.setLogical (s : State) (site : SiteId) (q : Nat) : State :=
  s.odSet (odSite odSiteLogical site) q
/-- The sites of a bay in ascending order. -/
def baySites (b : Nat) : List SiteId := (List.range 36).map fun i => 36 * b + i
/-- The site that holds a logical position of a bay. -/
def State.siteAt (s : State) (b q : Nat) : Option SiteId :=
  (baySites b).find? fun x => s.siteLogical x == q
/-- Whether a half-bay (2 * bay + half) is offered (R40): each of its positions has a site, or is unmapped and not
withdrawn yet (R45). -/
def State.offered (s : State) (hb : Nat) : Bool :=
  s.fuse.halfBays.contains hb &&
    (List.range 16).all fun q => (s.siteAt (hb / 2) (16 * (hb % 2) + q)).isSome ||
      (s.bay (hb / 2)).unmapped.contains (16 * (hb % 2) + q)
/-- The offered half-bays in order (R41). -/
def State.offeredList (s : State) : List Nat := (List.range 32).filter s.offered
/-- The count of half-bays of the grade (R42, R504). -/
def State.gradeHalfBays (s : State) : Nat := if s.fuse.gradeS then 28 else 32
/-- The count of stacks of the grade (R42, R504). -/
def State.gradeStacks (s : State) : Nat := if s.fuse.gradeS then 14 else 16
/-- Stacks that are enabled and not lost (R42, R234). -/
def State.stacksUsable (s : State) : List Nat :=
  s.fuse.fstacks.filter fun k => !s.odBit odHbmStacksLost k
/-- Refresh the count of offered clusters (R514). -/
def State.countOffered (s : State) : State := s.odSet odClustersOffered (16 * s.offeredList.length)

/-- The spares of a bay: good sites without a position (R39). -/
def State.sparesOf (s : State) (b : Nat) : List SiteId :=
  (baySites b).filter fun x => s.siteLogical x == 0xFE

/-- A farrier run occupies the site. -/
def State.inRun (s : State) (site : SiteId) : Bool :=
  s.firm.runs.any fun r => !r.isUpc && r.un == site

/-- The cores of a site. -/
def siteCores (site : SiteId) : List CoreId := (List.range 16).map (16 * site + ·)

/-- The overlays of a run's program that a site still waits for lapse with the run (R507). -/
def State.stopRun (s : State) (site : SiteId) : State :=
  (siteCores site).foldl
    (fun (s : State) c =>
      if (s.cur c).ovls.any (·.sys) then
        s.modBoth c fun x => { x with ovls := x.ovls.filter fun o => !o.sys }
      else s) s

/-- The bay whose aisle holds a stack's controller (R34). -/
def stackBay (k : Nat) : Nat := [0, 1, 2, 3, 3, 7, 11, 15, 15, 14, 13, 12, 12, 8, 4, 0].getD k 0

/-- Whether a UPC has power: one of its two aisle feeds (R53). -/
def State.upcFed (s : State) (u : Nat) : Bool :=
  !(s.bay (stackBay (2 * u))).aisleDown || !(s.bay (stackBay (2 * u + 1))).aisleDown

/-- Raise the replacement flag when spares or update chiplets fall below their floor (R533). -/
def State.checkFloors (s : State) : State :=
  let spares := ((List.range 16).filter fun b => s.offered (2 * b) || s.offered (2 * b + 1)).foldl
    (fun n b => n + (s.sparesOf b).length) 0
  let upcs := ((List.range 8).filter fun u =>
    s.odBit odUpcEnabled u && s.od (odAt odUpcState u) == 0 && s.upcFed u).length
  let s := s.odSet odSparesUsable spares
  if (decide (spares < s.od odSpareFloor) || decide (upcs < s.od odUpcFloor)) &&
      decide (s.od odReplaceFlag = 0) then
    (s.odSet odReplaceFlag 1).logEv 0x5033 unModule none noLunit []
  else s

/-- The partitions whose stack set holds a stack (R227, R254). -/
def State.stackParts (s : State) (k : Nat) : List Nat :=
  (List.range 32).filter fun p => (s.part p).composed && (s.part p).stackSet.contains k
/-- The partitions that list a pseudo-channel (R227, R254). -/
def State.pcParts (s : State) (pc : Nat) : List Nat :=
  (List.range 32).filter fun p => (s.part p).composed && (s.part p).chans.contains pc

/-- The reason of a lost step (R314). -/
def rsHeat : Nat := 1
/-- BAY_POWER. -/
def rsBayPower : Nat := 2
/-- FENCED. -/
def rsFenced : Nat := 3
/-- HALT. -/
def rsHalt : Nat := 4
/-- STACK_LOST. -/
def rsStackLost : Nat := 5
/-- PARTITION_RESET. -/
def rsPartReset : Nat := 6
/-- ALREADY_LOST. -/
def rsAlreadyLost : Nat := 7

/-- Lose the step of the partition that owns a site, if any. -/
def State.loseOwner (s : State) (site : SiteId) (reason : Nat) : State :=
  match (s.cl site).owner with
  | some (p, _) => s.stepLost p reason
  | none => s

/-- A run on a site ends without a verdict (R529). -/
def State.abandonRun (s : State) (site : SiteId) : State :=
  ({ s with firm := { s.firm with runs := s.firm.runs.filter fun r => r.isUpc || !(r.un == site) } } : State).stopRun site

/-- The runs of update chiplets that have lost both their feeds end without a verdict (R529). -/
def State.abandonUpcs (s : State) : State :=
  { s with firm := { s.firm with runs := s.firm.runs.filter fun r => !r.isUpc || s.upcFed r.un } }

/-- The indices of a partition whose clusters are fenced in a bay, not counting those that are unmapped already, in order
of logical position (R44). -/
def State.fencedIn (s : State) (p b : Nat) : List Nat :=
  let l := (s.part p).sites.zipIdx.filterMap fun xi =>
    match xi.1 with
    | some x => if x / 36 = b && (s.cl x).fenced && !(s.part p).lost.contains xi.2 then some (s.siteLogical x, xi.2) else none
    | none => none
  (List.range 256).flatMap fun q => (l.filter fun y => y.1 == q).map (·.2)
/-- The fenced indices of a partition for which their bays have no spare (R45): the spares go to the lower positions
(log 77). -/
def State.shortOf (s : State) (p : Nat) : List Nat :=
  (List.range 16).flatMap fun b =>
    match s.fencedIn p b with
    | [] => []
    | l => l.drop (s.sparesOf b).length
/-- Those indices are unmapped from now on, whatever spare returns, until the partition is composed again (R45). -/
def State.markLost (s : State) (p : Nat) : State :=
  let l := s.shortOf p
  if l.isEmpty then s else s.modPart p fun x => { x with lost := x.lost ++ l }
/-- The positions of a bay whose fenced site no partition owns. -/
def State.fencedFree (s : State) (b : Nat) : List Nat :=
  ((baySites b).filter fun x => (s.cl x).fenced && (s.cl x).owner.isNone && decide (s.siteLogical x < 32)).map s.siteLogical
/-- Positions of a bay stay unmapped from now on (R45). -/
def State.unmapPos (s : State) (b : Nat) (l : List Nat) : State :=
  s.modBay b fun x => { x with unmapped := x.unmapped ++ l.filter fun q => !x.unmapped.contains q }
/-- A bay has lost or used up spares: with none left, the fenced indices in it are unmapped, those of every partition and
those that no partition holds (R45). -/
def State.markBay (s : State) (b : Nat) : State :=
  if (s.sparesOf b).isEmpty then
    ((List.range 32).foldl (fun (s : State) p => s.markLost p) s).unmapPos b (s.fencedFree b)
  else s

/-- Fence a site in service: its port is DARK, a spare is no spare any more, and a cluster with a logical
position keeps it until a spare move or a partition remap (R44, R45, R363, R532). -/
def State.fenceSite (s : State) (site : SiteId) : State :=
  let s := s.modCl site fun x => { x with fenced := true, port := .dark }
  let s := s.abandonRun site
  let s := if s.siteLogical site = 0xFE then s.setLogical site 0xFF else s
  s.countOffered.checkFloors.markBay (site / 36)

/-- A symbol correction in the LSP, IMEM or CMEM of a site counts toward its mark: more than 64 within
86,400 s of service time make it due (R516). -/
def State.siteFix (s : State) (site : SiteId) : State :=
  let l := ((s.cl site).fixes.filter fun t => decide (s.st < t + 86400)) ++ [s.st]
  let s' := s.modCl site fun x => { x with fixes := l.drop (l.length - 65) }
  if 64 < l.length ∧ (s.cl site).due = false then
    (s'.modCl site fun x => { x with due := true }).logEv 0x5034 (unSite site) none noLunit []
  else s'

/-- An address or count as the two words of a payload (R522). -/
def words2 (x : Nat) : List Nat := [x % 2 ^ 32, x / 2 ^ 32 % 2 ^ 32]
/-- No partition HBM address (R522). -/
def noAddr : List Nat := [0xFFFFFFFF, 0xFFFFFFFF]

end Sys2Proof.Machine
end

