-- ==== Sys2Proof/Machine/Counter.lean ====
section
/-! DEFINITION. The CCLK cycles of a cluster site and its counter of device time (R385, R389 to R391, R396, R397). -/

namespace Sys2Proof.Machine

open Sys2Proof

/-- The nominal CCLK period of an operating point, in 126ths of a ns (R385). -/
def pointPeriod (p : Nat) : Nat := [56, 63, 72, 84, 112, 168].getD p 56
/-- The stretch factor of a level, in eighths (R389). -/
def stretchFactor (l : Nat) : Nat := [8, 9, 10, 12].getD l 8
/-- The height of the spread triangle at a phase, 0 to 32,768 (R382, R395). -/
def triangle (phase : Nat) : Nat := if phase ≤ 32768 then phase else 65536 - phase
/-- The wall time of a CCLK cycle in 2^-24 ns: the period of the point, times the stretch factor, divided by 1 - f (R397).
f is BEAT_SPREAD times 0.125 % times the height of the triangle (R382). -/
def cycleLen (point stretch spread phase : Nat) : Nat :=
  2 ^ 24 * pointPeriod point * stretchFactor stretch * 26214400 / (1008 * (26214400 - spread * triangle phase))

/-- A site after `d` ns more, from the device time `dt` of the last time word on, of which its CCLK cycles take `len` each: a
COUNTED cluster adds the time of every whole cycle, the residual and its share of the slew to its counter, which never
decreases; one that has stopped counts on from the moment at which time reaches it (R397, R398). -/
def Cluster.run (x : Cluster) (len d : Nat) (residual : Int) (dt : Nat) : Cluster :=
  let t := x.cycRem + 2 ^ 24 * d
  let slew := x.slew * d / ((max 1 (1000 - x.ran) : Nat) : Int)
  let grow := ((t / len * len : Nat) : Int) + residual + slew
  let y := { x with ran := x.ran + d, cycRem := t % len, levelCyc := x.levelCyc + t / len }
  let now := 2 ^ 24 * (dt + x.ran + d)
  if x.counted && x.cntStop then
    (if x.cnt ≤ now then { y with cnt := max x.cnt (now - t % len), cntStop := false } else y)
  else if x.counted then { y with cnt := (x.cnt + grow.toNat) % 2 ^ 88, slew := x.slew - slew } else y

/-- Count `n` CCLK cycles at the level of stretch in force (R391). -/
def State.countStretch (s : State) (site : SiteId) (n : Nat) : State :=
  let l := (s.cl site).stretch
  if l = 0 then s
  else (s.odAdd (odSite odStretchCyc site) n).odAdd
    (if l = 1 then odStretchS1Total else if l = 2 then odStretchS2Total else odStretchS3Total) n

/-- The CCLK cycles of `d` ns of device time at a site: its counter and its counts of stretched cycles (R391, R397). What
the spread term leaves is a free value below 0.5 ns per µs (R397; log 5). -/
def State.runSite (s : State) (site : SiteId) (d : Nat) : State :=
  let x := s.cl site
  if !s.cclk site then s.setCl site { x with ran := x.ran + d, cycRem := 0 }
  else
    let b := 2 ^ 24 * d / 2001
    let residual : Int := (s.freeW.toNat % (2 * b + 1) : Nat) - (b : Int)
    let len := cycleLen x.point x.stretch s.clk.spread s.clk.spreadPhase
    (s.useFree.countStretch site ((x.cycRem + 2 ^ 24 * d) / len)).setCl site (x.run len d residual s.clk.dt)

/-- The ns from the present moment to the next time word (R395). -/
def State.leftNs (s : State) : Nat := 1000 - s.clk.dt % 1000 - s.clk.sub

/-- A site comes up to the present moment of the µs. -/
def State.runTo (s : State) (site : SiteId) : State := s.runSite site (s.clk.sub - (s.cl site).ran)

/-- What happens between two time words happens at a free moment of the present µs, not before what has happened in it
already, and the site runs to it (log 2, log 5). -/
def State.runFree (s : State) (site : SiteId) : State :=
  ({ s.useFree with clk := { s.clk with sub := s.clk.sub + s.freeW.toNat % max 1 s.leftNs } } : State).runTo site

/-- The ns that a site needs to complete 8 cycles at its level of stretch (R390). -/
def State.levelNs (s : State) (site : SiteId) : Nat :=
  let x := s.cl site
  ((8 - x.levelCyc) * cycleLen x.point x.stretch s.clk.spread s.clk.spreadPhase + 2 ^ 24 - 1) / 2 ^ 24

/-- A level of stretch lasts at least 8 cycles: the site runs to a free moment, and on until they are complete; false says
that the next time word comes before that (R390, R391, R405). -/
def State.runLevel (s : State) (site : SiteId) : State × Bool :=
  let s := s.runFree site
  let n := s.levelNs site
  if n < s.leftNs || n = 0 then
    (({ s with clk := { s.clk with sub := s.clk.sub + n } } : State).runTo site, true)
  else (s, false)

/-- The last cycles of a site whose CCLK stops count if they are stretched (R386, R391). -/
def State.lastCycles (s : State) (site : SiteId) : State :=
  if (s.cl site).stretch = 0 then s.runTo site else (s.runLevel site).1

/-- Device time at a cluster, as a core of it reads it: the integer part of its counter when it is COUNTED, else DIRECT,
a multiple of 10 ns (R396, R397, R399). -/
def State.clusterDt (s : State) (site : SiteId) : Nat :=
  let x := s.cl site
  if x.counted && !s.inRun site then x.cnt / 2 ^ 24 else (s.clk.dt + x.ran) / 10 * 10

end Sys2Proof.Machine
end

