-- ==== Sys2Proof/Machine/MeshOps.lean ====
section
/-! DEFINITION. The shared operations of the aisle mesh (R345 to R372): geometry, the working graph and the route
tables over it, tags and request numbers, the queues of crossings and cluster ports with their credits, the packets
that wait at an output port, spare wires, and the records of applied requests. -/

namespace Sys2Proof.Machine

open Sys2Proof

/-! ### Geometry (R38, R345 to R347) -/

/-- The mesh position 36 * y + x of a site (R38). -/
def sitePos (site : SiteId) : Nat :=
  let n := site / 36
  let k := site % 36
  36 * (4 * (n / 4) + k / 9) + 9 * (n % 4) + k % 9
/-- The site at a mesh position. -/
def posSite (r : Nat) : SiteId :=
  let x := r % 36
  let y := r / 36
  36 * (4 * (y / 4) + x / 9) + 9 * (y % 4) + x % 9

/-- The neighbour at a port: 0 N, 1 E, 2 S, 3 W (R345, R355). -/
def posMove (r port : Nat) : Option Nat :=
  let x := r % 36
  let y := r / 36
  if port = 0 then (if y = 0 then none else some (r - 36))
  else if port = 1 then (if x = 35 then none else some (r + 1))
  else if port = 2 then (if y = 15 then none else some (r + 36))
  else if port = 3 then (if x = 0 then none else some (r - 1))
  else none

/-- The bay at a side of a bay. -/
def baySide (bay side : Nat) : Option Nat :=
  if side = 0 then (if bay < 4 then none else some (bay - 4))
  else if side = 1 then (if bay % 4 = 3 then none else some (bay + 1))
  else if side = 2 then (if 12 ≤ bay then none else some (bay + 4))
  else if side = 3 then (if bay % 4 = 0 then none else some (bay - 1))
  else none

/-- The number of links of a side. -/
def sideLinks (side : Nat) : Nat := if side % 2 = 0 then 9 else 4
/-- Whether a crossing exists (R347). -/
def crossingOk (bay side link : Nat) : Bool :=
  decide (bay < 16) && (baySide bay side).isSome && decide (link < sideLinks side)
/-- The link of a crossing that a move out of a bay takes. -/
def posLink (r port : Nat) : Nat := if port % 2 = 0 then r % 36 % 9 else r / 36 % 4
/-- A crossing named from its lower-numbered bay. -/
def crossName (bay side link : Nat) : Nat × Nat × Nat :=
  if side = 0 then (bay - 4, 2, link) else if side = 3 then (bay - 1, 1, link) else (bay, side, link)
/-- Whether a crossing, named from its lower bay, is a bridge: between bay columns 1 and 2 or bay rows 1 and 2; every
other one is a seam (R33, R347). -/
def isBridge (bay side : Nat) : Bool := if side = 1 then bay % 4 == 1 else bay / 4 == 1
/-- The crossings of the module, each from its lower bay (R347). -/
def allCrossings : List (Nat × Nat × Nat) :=
  (List.range 16).flatMap fun b =>
    [1, 2].flatMap fun sd =>
      if (baySide b sd).isSome then (List.range (sideLinks sd)).map fun l => (b, sd, l) else []
/-- Whether a crossing, named from its lower bay, is one of a bay. -/
def ofBay (bay : Nat) (x : Nat × Nat × Nat) : Bool := x.1 == bay || baySide x.1 x.2.1 == some bay

/-- The site at whose router a stack's controller is attached (R346). -/
def stackSite (k : Nat) : SiteId := 36 * stackBay k + [4, 17, 31, 18].getD (k / 4) 4
/-- Whether a router has an AX port: that of a groom, a stack controller or a link-die attachment (R346). -/
def hasAx (site : SiteId) : Bool :=
  decide (site % 36 = 13) || (List.range 16).any (fun k => stackSite k == site) ||
    (List.range 4).any fun d => (dieSites d).contains site

/-! ### The working graph (R356, R359) -/

/-- The crossings that are fenced now, each named from its lower bay. -/
def State.fencedNow (s : State) : List (Nat × Nat × Nat) :=
  (List.range 16).flatMap fun b =>
    ((s.bay b).fenceE.map fun l => (b, 1, l)) ++ ((s.bay b).fenceS.map fun l => (b, 2, l))
/-- The aisles that are down now. -/
def State.downNow (s : State) : List Nat := (List.range 16).filter fun b => (s.bay b).aisleDown
/-- The routers that are faulty now. -/
def State.faultyNow (s : State) : List SiteId :=
  (s.clusters.filter fun kv => kv.2.routerFaulty).map (·.1)
/-- Tables over the graph as it stands (R356). -/
def State.tablesNow (s : State) : RouteTables := ⟨s.downNow, s.faultyNow, s.fencedNow⟩

/-- A router runs in the graph of the tables. -/
def RouteTables.works (t : RouteTables) (r : Nat) : Bool :=
  let site := posSite r
  !t.down.contains (site / 36) && !t.faulty.contains site

/-- The working neighbour at a port (R356). -/
def RouteTables.hopTo (t : RouteTables) (r port : Nat) : Option Nat :=
  match posMove r port with
  | none => none
  | some n =>
    let b := posSite r / 36
    let ok := t.works r && t.works n &&
      (posSite n / 36 == b || !t.fenced.contains (crossName b port (posLink r port)))
    if ok then some n else none

/-- Levels of a search outward: `next` gives the neighbours of a node. -/
def levels (next : Nat → List Nat) : Nat → List Nat → List Nat → List (List Nat)
  | 0, _, _ => []
  | fuel + 1, front, seen =>
    if front.isEmpty then []
    else
      let more := ((front.flatMap next).filter fun x => !seen.contains x && !front.contains x).eraseDups
      front :: levels next fuel more (front ++ seen)

/-- The level of a node. -/
def levelOf (ls : List (List Nat)) (x : Nat) : Option Nat := ls.findIdx? fun l => l.contains x

/-- The working neighbours of a router. -/
def RouteTables.nbrs (t : RouteTables) (r : Nat) : List Nat := [1, 3, 0, 2].filterMap (t.hopTo r)

/-- Hop distances to a destination in the working graph. -/
def RouteTables.distTo (t : RouteTables) (d : Nat) : List (List Nat) :=
  if t.works d then levels t.nbrs 577 [d] [] else []

/-- The first port of a list that lowers the distance. -/
def RouteTables.lowers (t : RouteTables) (ls : List (List Nat)) (r : Nat) (ports : List Nat) : Option Nat :=
  ports.find? fun k =>
    match t.hopTo r k, levelOf ls r with
    | some n, some l => levelOf ls n == some (l - 1) && decide (0 < l)
    | _, _ => false

/-- The primary port toward a destination; none is UNREACH (R356). -/
def RouteTables.primary (t : RouteTables) (r d : Nat) : Option Nat :=
  let xm := if r % 36 < d % 36 then [1] else if d % 36 < r % 36 then [3] else []
  let ym := if r / 36 < d / 36 then [2] else if d / 36 < r / 36 then [0] else []
  t.lowers (t.distTo d) r (xm ++ ym ++ [1, 3, 0, 2])

/-- The depth of every router from the root, the first working one in order of y and then x (R356). -/
def RouteTables.depths (t : RouteTables) : List (List Nat) :=
  match (List.range 576).find? t.works with
  | none => []
  | some root => t.distTo root

/-- Whether the link from `r` to `n` goes up (R356). -/
def isUp (ds : List (List Nat)) (r n : Nat) : Bool :=
  match levelOf ds r, levelOf ds n with
  | some a, some b => decide (b < a) || (b == a && decide (n < r))
  | _, _ => false

/-- The steps back of an escape route: nodes are 2 * router + DN, and a step from (r, 0) goes up to (n, 0)
or down to (n, 1), from (r, 1) down to (n, 1). -/
def RouteTables.escBack (t : RouteTables) (ds : List (List Nat)) (v : Nat) : List Nat :=
  (t.nbrs (v / 2)).flatMap fun r =>
    let up := isUp ds r (v / 2)
    if v % 2 = 0 then (if up then [2 * r] else [])
    else (if up then [] else [2 * r, 2 * r + 1])

/-- The first hop of the shortest escape route from a router under DN, and the DN after it (R356, R357). -/
def RouteTables.escape (t : RouteTables) (r d : Nat) (dn : Bool) : Option (Nat × Bool) :=
  let ds := t.depths
  let ls := levels (t.escBack ds) 1153 [2 * d, 2 * d + 1] []
  let v := 2 * r + (if dn then 1 else 0)
  ([1, 3, 0, 2].filterMap fun k =>
    match t.hopTo r k with
    | none => none
    | some n =>
      let up := isUp ds r n
      let w := 2 * n + (if dn || !up then 1 else 0)
      match levelOf ls v, levelOf ls w with
      | some a, some b => if b + 1 = a && !(dn && up) then some (k, dn || !up) else none
      | _, _ => none).head?

/-- The code of a port of an entry: 0 N, 1 E, 2 S, 3 W, 7 UNREACH (R355). -/
def portCode (o : Option Nat) : BitVec 3 := BitVec.ofNat 3 (o.getD 7)

/-- The 9-bit entry of a router's table for a destination (R355): the primary port in [2:0], the escape port under
DN = 0 in [5:3] and under DN = 1 in [8:6]; 4 where the router is the destination. -/
def RouteTables.entry (t : RouteTables) (r d : Nat) : BitVec 9 :=
  if r = d then 0b100100100
  else portCode ((t.escape r d true).map (·.1)) ++ portCode ((t.escape r d false).map (·.1)) ++ portCode (t.primary r d)

/-! ### Tags and request numbers (R352, R353) -/

/-- The destination of a tag. -/
def tagDst (t : BitVec 64) : Nat := 36 * fld t 6 4 + fld t 0 6
/-- The source router of a tag. -/
def tagSrc (t : BitVec 64) : Nat := 36 * fld t 19 4 + fld t 13 6
/-- The source port of a tag: 2 * position + 0 for CL or 1 for AX (R353). -/
def tagPort (t : BitVec 64) : Nat := 2 * tagSrc t + fld t 23 3
/-- The request number of a flit: REQ_HI over TAG (R353). -/
def tagNum (t : BitVec 64) (reqHi : BitVec 20) : BitVec 32 := reqHi ++ t.extractLsb' 47 12
/-- The channel on which a packet travels: ESCAPE, or the one it started on (R351, R352). -/
def tagChan (t : BitVec 64) : Nat := if t.getLsbD 28 then 3 else fld t 26 2
/-- The plane of a packet: 0 for requests, 1 for responses and RETRY answers (R351). -/
def tagPlane (t : BitVec 64) : Nat := if fld t 29 2 = 0 then 0 else 1
/-- The flits of a packet (R352). -/
def tagFlits (t : BitVec 64) : Nat := fld t 31 4 + 1
/-- Whether a tag holds a reserved code, or a position outside the mesh (R352). -/
def tagBad (t : BitVec 64) : Bool :=
  decide (2 ≤ fld t 10 3) || decide (2 ≤ fld t 23 3) || fld t 26 2 == 3 || fld t 29 2 == 3 ||
    decide (36 ≤ fld t 0 6) || decide (36 ≤ fld t 13 6)
/-- A tag that travels on with new ESC and DN bits (R352, R357). -/
def tagEsc (t : BitVec 64) (esc dn : Bool) : BitVec 64 :=
  (t &&& ~~~((1#64 <<< 28) ||| (1#64 <<< 46))) ||| ((if esc then 1#64 else 0#64) <<< 28) |||
    ((if dn then 1#64 else 0#64) <<< 46)

/-! ### Queues and credits (R351, R360, R361) -/

/-- The flits of a channel in a queue. -/
def FlitQueue.held (q : FlitQueue) (ch : Nat) : Nat := (q.flits.filter fun f => tagChan f.tag == ch).length
/-- The shared entries in use: those that each channel holds beyond its 8 reserved ones (R360). -/
def FlitQueue.shared (q : FlitQueue) : Nat := ((List.range 4).map fun c => q.held c - 8).sum
/-- Whether a channel has a credit: one of its 8 reserved entries or one of the 32 shared is free (R360, R361). -/
def FlitQueue.credit (q : FlitQueue) (ch : Nat) : Bool := decide (q.held ch < 8) || decide (q.shared < 32)
/-- Write a flit and advance the write pointer (R361). -/
def FlitQueue.push (q : FlitQueue) (f : QFlit) : FlitQueue := { q with flits := q.flits ++ [f], wptr := q.wptr + 1 }
/-- Free the oldest entry and advance the read pointer (R361). -/
def FlitQueue.pop (q : FlitQueue) : FlitQueue := { q with flits := q.flits.tail, rptr := q.rptr + 1 }
/-- Every flit is read, or lost: every entry is free. -/
def FlitQueue.flush (q : FlitQueue) : FlitQueue := { q with flits := [], rptr := q.wptr, replays := [] }
/-- FLOW of a flit that crosses the other way: the Gray code of the read pointer (R353). -/
def FlitQueue.flow (q : FlitQueue) : BitVec 7 := q.rptr ^^^ (q.rptr >>> 1)

/-- The key of the queue that a bay writes at a link of one of its sides, on a plane. -/
def crossKey (bay side link plane : Nat) : Nat := 16 * (2 * (16 * side + link) + plane) + bay
/-- The queue of a crossing that a bay writes. -/
def State.crossQ (s : State) (bay side link plane : Nat) : FlitQueue := mget zQ s.mesh.queues (crossKey bay side link plane)
/-- Change the queue of a crossing that a bay writes. -/
def State.modCrossQ (s : State) (bay side link plane : Nat) (f : FlitQueue → FlitQueue) : State :=
  { s with mesh := { s.mesh with queues := mset zQ s.mesh.queues (crossKey bay side link plane)
                                              (f (s.crossQ bay side link plane)) } }
/-- The key of a cluster port's queue of a plane: into the cluster, or out of it. Plane 2 stands for the 256 further entries
of the response queue into the cluster (R360). -/
def portKey (site plane : Nat) (out : Bool) : Nat := 8 * site + 2 * plane + (if out then 1 else 0)
/-- A queue of a cluster port. -/
def State.portQ (s : State) (site plane : Nat) (out : Bool) : FlitQueue := mget zQ s.mesh.ports (portKey site plane out)
/-- Change a queue of a cluster port. -/
def State.modPortQ (s : State) (site plane : Nat) (out : Bool) (f : FlitQueue → FlitQueue) : State :=
  { s with mesh := { s.mesh with ports := mset zQ s.mesh.ports (portKey site plane out) (f (s.portQ site plane out)) } }

/-! ### Packets that wait at an output port (R351, R357, R366) -/

/-- The channels in the order in which an output port serves them (R351). -/
def FlitQueue.order (q : FlitQueue) : List Nat := [3, 0] ++ (if q.lastUpd then [1, 2] else [2, 1])

/-- One flit of a waiting packet has been written. -/
def takeFlit (mine : MeshWait → Bool) : List MeshWait → List MeshWait
  | [] => []
  | w :: ws =>
    if mine w then (if w.left ≤ 1 then ws else { w with left := w.left - 1, begun := true } :: ws)
    else w :: takeFlit mine ws

/-- Serve an output port as long as a waiting packet's channel has a credit: the queue and the packets left (R351,
R361). `flow` is the FLOW of the flits (R353). -/
def serveQ (flow : BitVec 7) (mine : MeshWait → Bool) : Nat → FlitQueue → List MeshWait → FlitQueue × List MeshWait
  | 0, q, ws => (q, ws)
  | n + 1, q, ws =>
    let on (ch : Nat) (w : MeshWait) : Bool := mine w && tagChan w.tag == ch
    match q.order.find? fun ch => q.credit ch && ws.any (on ch) with
    | none => (q, ws)
    | some ch =>
      match ws.find? (on ch) with
      | none => (q, ws)
      | some w =>
        serveQ flow mine n
          { q.push ⟨w.tag, w.reqHi, 0, flow⟩ with lastUpd := if ch = 2 then true else if ch = 1 then false else q.lastUpd }
          (takeFlit (on ch) ws)

/-- Whether a crossing is fenced, which it stays until the table switch at which it joins (R349, R370). -/
def State.crossFenced (s : State) (bay side link : Nat) : Bool := s.fencedNow.contains (crossName bay side link)

/-- Whether the link at a router's port carries flits: the far router runs, and a crossing is not fenced and not severed
(R349, R366, R372). -/
def State.linkOpen (s : State) (r port : Nat) : Bool :=
  match posMove r port with
  | none => false
  | some n =>
    let b := posSite r / 36
    !s.routerStopped (posSite n) && (posSite n / 36 == b || !s.crossFenced b port (posLink r port))

/-- Whether a move leaves the bay: it takes a crossing (R347). -/
def leavesBay (r port : Nat) : Bool :=
  match posMove r port with
  | none => false
  | some n => posSite n / 36 != posSite r / 36

/-- Serve the packets of a plane that wait at a router's port to a crossing. -/
def State.serveCross (s : State) (r port plane : Nat) : State :=
  if !s.linkOpen r port || !leavesBay r port then s
  else
    let b := posSite r / 36
    let l := posLink r port
    let mine (w : MeshWait) : Bool := w.pos == r && w.port == port && tagPlane w.tag == plane
    let back := match baySide b port with
      | some o => (s.crossQ o ((port + 2) % 4) l plane).flow
      | none => 0
    let (q, ws) := serveQ back mine 64 (s.crossQ b port l plane) s.mesh.waits
    let s := s.modCrossQ b port l plane fun _ => q
    { s with mesh := { s.mesh with waits := ws } }

/-- Serve the packets of a plane that wait for a cluster port: requests at code 4, responses without reserved entries at
code 5 (R360, R363). -/
def State.servePlane (s : State) (site plane : Nat) : State :=
  let mine (w : MeshWait) : Bool := w.pos == sitePos site && w.port == 4 + plane
  let (q, ws) := serveQ (s.portQ site plane true).flow mine 64 (s.portQ site plane false) s.mesh.waits
  let s := s.modPortQ site plane false fun _ => q
  { s with mesh := { s.mesh with waits := ws } }

/-- Serve what waits for a cluster port: an open one takes requests and responses, a held one responses alone (R363). -/
def State.servePort (s : State) (site : SiteId) : State :=
  match (s.cl site).port with
  | .opened => (s.servePlane site 0).servePlane site 1
  | .hold => s.servePlane site 1
  | _ => s

/-- A packet takes a port of a router: inside the bay its flits go at once; to a crossing they wait for credits, and
while the link carries nothing the packet waits (R349, R361, R366). -/
def State.sendOut (s : State) (r port : Nat) (tag : BitVec 64) (reqHi : BitVec 20) (isRead : Bool) : State :=
  if leavesBay r port || !s.linkOpen r port then
    let w : MeshWait := ⟨r, port, tag, reqHi, tagFlits tag, false, isRead⟩
    ({ s with mesh := { s.mesh with waits := s.mesh.waits ++ [w] } } : State).serveCross r port (tagPlane tag)
  else s

/-- The flits in the queues of a crossing are lost, with the packets that had begun to enter them (R362, R366). -/
def State.flushCross (s : State) (x : Nat × Nat × Nat) : State :=
  match baySide x.1 x.2.1 with
  | none => s
  | some o =>
    let s := [0, 1].foldl
      (fun (s : State) k =>
        (s.modCrossQ x.1 x.2.1 x.2.2 k FlitQueue.flush).modCrossQ o ((x.2.1 + 2) % 4) x.2.2 k FlitQueue.flush) s
    { s with mesh := { s.mesh with waits := s.mesh.waits.filter fun w =>
        !(w.begun && leavesBay w.pos w.port &&
          crossName (posSite w.pos / 36) w.port (posLink w.pos w.port) == x) } }

/-- An aisle stops: its crossings are severed, what was inside it is lost, and a crossing of it that was about to join
joins no more (R366, R370). -/
def State.severAisle (s : State) (b : Nat) : State :=
  let s := (allCrossings.filter (ofBay b)).foldl (fun (s : State) x => s.flushCross x) s
  { s with mesh := { s.mesh with waits := s.mesh.waits.filter fun w => posSite w.pos / 36 != b
                                 joining := s.mesh.joining.filter fun x => !ofBay b x } }

/-! ### Response entries and applied requests (R365, R369) -/

/-- The free response entries of a cluster port: of 256, those that no outstanding request has reserved and no flit
fills (R360, R365). -/
def State.respFree (s : State) (site : SiteId) : Nat :=
  256 - (((s.mesh.reqs.filter fun q => q.src == 2 * sitePos site).map (·.resv)).sum +
    (s.portQ site 2 false).flits.length)

/-- A request that a source port has sent and that has no response yet (R353). -/
def State.reqOf (s : State) (src : Nat) (num : BitVec 32) : Option MeshReq :=
  s.mesh.reqs.find? fun q => q.src == src && q.num == num
/-- Change a request. -/
def State.modReq (s : State) (src : Nat) (num : BitVec 32) (f : MeshReq → MeshReq) : State :=
  { s with mesh := { s.mesh with reqs := s.mesh.reqs.map fun q => if q.src = src ∧ q.num = num then f q else q } }

/-- A request draws RETRY: it is counted, and its source waits 1 µs, then twice as long each time, up to 64 µs (R364). -/
def State.retryReq (s : State) (src : Nat) (num : BitVec 32) : State :=
  (s.odAdd odMeshRetryCount 1).modReq src num fun q =>
    { q with retryUs := if q.retryUs = 0 then 1 else min 64 (2 * q.retryUs), retryWait := true, sentDt := s.clk.dt }

/-- A cluster port has changed its state: requests that waited for room are answered with RETRY at a held or parked port,
and discarded and counted at one in reset or dark; responses that a port discards are lost, and so is what stood in the
queues of a cluster that is reset or switched off (R363). -/
def State.portTurn (s : State) (site : SiteId) : State :=
  let port := (s.cl site).port
  let keeps := port == .opened || port == .hold
  let ws := s.mesh.waits.filter fun w => w.pos == sitePos site && w.port == 4 && port != .opened
  let left := s.mesh.waits.filter fun w => !ws.contains w && (keeps || !(w.pos == sitePos site && w.port == 5))
  let s : State := { s with mesh := { s.mesh with waits := left } }
  let s := ws.foldl (fun (s : State) w =>
    if port = .hold ∨ port = .park then (s.retryReq (tagPort w.tag) (tagNum w.tag w.reqHi)).wakePort site
    else s.portDrop site) s
  let s := if keeps || port == .park then s
    else [0, 1, 2].foldl (fun (s : State) k =>
      (s.modPortQ site k false FlitQueue.flush).modPortQ site k true FlitQueue.flush) s
  s.servePort site

/-- The endpoint of a cluster port. -/
def endPort (site : SiteId) : Nat := site
/-- The endpoint of a stack's controller. -/
def endStack (k : Nat) : Nat := 576 + k

/-- The records of applied requests that are still kept: 4,000 µs (R369). -/
def State.keptNow (s : State) : List MeshKept := s.mesh.kept.filter fun x => decide (s.clk.dt ≤ x.dt + 4000000)
/-- The records that an endpoint keeps of one request (R369). -/
def State.keptOf (s : State) (endpt src : Nat) (num : BitVec 32) : List MeshKept :=
  s.keptNow.filter fun x => x.endpt == endpt && x.src == src && x.num == num
/-- Whether an endpoint has applied a request already (R369). -/
def State.isDup (s : State) (endpt src : Nat) (num : BitVec 32) : Bool := !(s.keptOf endpt src num).isEmpty
/-- An endpoint keeps a record of a request that it applies, or of one granule of its addends (R369). -/
def State.keepReq (s : State) (endpt src : Nat) (num : BitVec 32) (gran : Nat) : State :=
  { s with mesh := { s.mesh with kept := s.keptNow ++ [⟨endpt, src, num, s.clk.dt, gran⟩] } }

/-! ### Spare wires and groups (R348, R349) -/

/-- The failed wires of a group in one direction and plane of a crossing. -/
def groupFails (ws : List WireFail) (x : Nat × Nat × Nat) (out : Bool) (plane group : Nat) : List WireFail :=
  (ws.filter fun w => w.bay == x.1 && w.side == x.2.1 && w.link == x.2.2 && w.out == out && w.plane == plane &&
    w.group == group).eraseDups
/-- The groups of a crossing in one direction and plane: 34, and 2 spare ones on a bridge (R348). -/
def groupsOf (x : Nat × Nat × Nat) : Nat := if isBridge x.1 x.2.1 then 36 else 34
/-- The groups that 2 spare wires do not mend: those with 3 or more failed wires (R348, R349). -/
def badGroups (ws : List WireFail) (x : Nat × Nat × Nat) (out : Bool) (plane : Nat) : List Nat :=
  (List.range (groupsOf x)).filter fun g => decide (3 ≤ (groupFails ws x out plane g).length)
/-- The four wirings of a crossing: direction and plane. -/
def wirings : List (Bool × Nat) := [(true, 0), (true, 1), (false, 0), (false, 1)]
/-- Whether a crossing can be repaired: no bad group of a seam, at most two of a bridge in each direction and plane
(R349). -/
def wiresOk (ws : List WireFail) (x : Nat × Nat × Nat) : Bool :=
  wirings.all fun d => decide ((badGroups ws x d.1 d.2).length ≤ (if isBridge x.1 x.2.1 then 2 else 0))
/-- The spare wires that a crossing uses: one for each failed wire of an active group that its spares mend (R348). -/
def spareWires (ws : List WireFail) (x : Nat × Nat × Nat) : Nat :=
  (wirings.map fun d => ((List.range 34).map fun g =>
    let n := (groupFails ws x d.1 d.2 g).length
    if n ≤ 2 then n else 0).sum).sum
/-- The spare groups that a crossing uses: one for each bad active group of a bridge (R348). -/
def spareGroups (ws : List WireFail) (x : Nat × Nat × Nat) : Nat :=
  (wirings.map fun d => ((badGroups ws x d.1 d.2).filter (decide <| · < 34)).length).sum

/-- The spares that the crossings of a bay use stand in its entries (R374). -/
def State.countSpares (s : State) (b : Nat) : State :=
  let xs := (allCrossings.filter (ofBay b)).filter (wiresOk s.mesh.wires)
  (s.odSet (odAt odSpareWiresUsed b) ((xs.map (spareWires s.mesh.wires)).sum % 65536)).odSet (odAt odSpareGroupsUsed b)
    ((xs.map (spareGroups s.mesh.wires)).sum % 256)

/-- A wire test of a crossing sets its spare assignment (R348): the failed wires it finds beside those of the fuses. -/
def State.setWires (s : State) (x : Nat × Nat × Nat) (bad : List WireFail) : State :=
  let mine (w : WireFail) : Bool := (w.bay, w.side, w.link) == x
  let ws := ((s.fuse.wires ++ bad).filter mine).eraseDups
  let s : State := if s.mesh.wires.filter mine = ws then s
    else ({ s with mesh := { s.mesh with wires := (s.mesh.wires.filter fun w => !mine w) ++ ws } } : State).studTouch
  (s.countSpares x.1).countSpares ((baySide x.1 x.2.1).getD x.1)

/-! ### Grooms and the yardmaster (R484 to R489) -/

/-- The fixed order of the grooms (R484). -/
def groomRank : List Nat := [16, 18, 17, 19] ++ List.range 16

/-- The kinds of a further supply: a stack group, a link die, the aisle feeds, VAUX (R583). -/
def supStack : Nat := 0
/-- A supply of a link die. -/
def supLink : Nat := 1
/-- Both aisle converters. -/
def supAisle : Nat := 2
/-- VAUX. -/
def supAux : Nat := 3

/-- Whether a groom has power: from its aisle, or from its link die (R51, R428, R583). -/
def State.groomFed (s : State) (g : Nat) : Bool :=
  if g < 16 then !(s.bay g).aisleDown else !s.start.supplies.contains (supLink, g - 16)

/-- Whether a groom serves: it is in service, and the mesh reaches it. -/
def State.groomServes (s : State) (g : Nat) : Bool :=
  (s.groom g).inService && !(s.groom g).down && !(s.groom g).hard && !s.groomCut g

/-- Whether a yardmaster is in office: it has taken office and its groom serves (R485 to R487). -/
def State.yardActs (s : State) : Bool := s.start.acting && s.groomServes (s.od odYardmaster)

end Sys2Proof.Machine
end

