-- ==== Sys2Proof/Machine/Mailbox.lean ====
section
/-! DEFINITION. Mailboxes (R334 to R341) and signals (R185, R186): channels and their places, messages
and acknowledgements on their way, the host's post records and mailbox areas. -/

namespace Sys2Proof.Machine

open Sys2Proof

/-! ### Channels -/

/-- The key of class HU of a partition as a sender or receiver. -/
def mbHu (p : Nat) : Nat := 20000 + p
/-- The key of class HP. -/
def mbHp : Nat := 20100
/-- The key of a management receiver, by its code of R340. -/
def mbMgmt (r : Nat) : Nat := 20200 + r
/-- The key of the channel from a sender to a receiver (R334). -/
def mbKey (snd rcv : Nat) : Nat := snd * 100000 + rcv

/-- Unacknowledged messages of a channel (R334). -/
def State.mbHeld (s : State) (snd rcv : Nat) : Nat := mget zN s.posts (mbKey snd rcv)
/-- Take a place of a channel. -/
def State.mbTake (s : State) (snd rcv : Nat) : State :=
  { s with posts := mset zN s.posts (mbKey snd rcv) (s.mbHeld snd rcv + 1) }
/-- Free a place of a channel. -/
def State.mbFree (s : State) (snd rcv : Nat) : State :=
  { s with posts := mset zN s.posts (mbKey snd rcv) (s.mbHeld snd rcv - 1) }

/-- MB_SRC of a core (R335). -/
def State.mbSrc (s : State) (c : CoreId) : BitVec 16 :=
  BitVec.ofNat 16 (0x8000 + 16 * ((s.ownerOf c).map (·.2)).getD 0 + coreIdx c)
/-- MB_SRC of class HP (R335). -/
def srcHp : BitVec 16 := 0x0001
/-- MB_SRC of class HU. -/
def srcHu : BitVec 16 := 0x0010
/-- MB_SRC of groom g. -/
def srcGroom (g : Nat) : BitVec 16 := BitVec.ofNat 16 (0x0100 + g)
/-- MB_SRC of UPC u. -/
def srcUpc (u : Nat) : BitVec 16 := BitVec.ofNat 16 (0x0200 + u)
/-- MB_SRC of the yardmaster. -/
def srcYard : BitVec 16 := 0x0040

/-- The core of a partition that MB_SRC names (R335). -/
def Part.coreOfSrc (p : Part) (src : BitVec 16) : Option CoreId :=
  if src.getLsbD 15 then
    ((p.sites.getD (src.toNat % 32768 / 16) none)).map fun x => 16 * x + src.toNat % 16
  else none

/-- The inbound channel of a core that is bound to a sender (R334). -/
def State.mbChannel (s : State) (c : CoreId) (src : BitVec 16) : Option Nat :=
  if src == srcHu then some 0
  else if src == srcYard then some 1
  else
    match s.ownerOf c with
    | none => none
    | some (p, i) =>
      let e := (s.part p).job.manifest.getD (16 * i + coreIdx c) 0
      if src == 0 then none
      else if e.extractLsb' 256 16 == src then some 2
      else if e.extractLsb' 272 16 == src then some 3
      else none

/-- The inbound channel of a management receiver, by its code of R340, that is bound to a sender: of the yardmaster's 64,
a groom's 32 and a UPC's 16 (R334). `part` is the partition of a host of class HU. -/
def mgmtChan (r : Nat) (src : BitVec 16) (part : Nat) : Option Nat :=
  let v := src.toNat
  let g := v - 0x0100
  let isG := decide (0x0100 ≤ v) && decide (v < 0x0114)
  let isU := decide (0x0200 ≤ v) && decide (v < 0x0208)
  if r = 0 then
    if src = srcHp then some 0 else if src = srcHu then some (1 + part)
    else if isG then some (33 + g) else if isU then some (53 + (v - 0x0200)) else none
  else if r < 0x40 then
    let me := r - 0x10
    if src = srcYard then some 0
    else if isG && g != me then some (if g < me then 1 + g else g)
    else if isU then some (20 + (v - 0x0200)) else if src = srcHp then some 28 else none
  else
    let b0 := stackBay (2 * (r - 0x40))
    let b1 := stackBay (2 * (r - 0x40) + 1)
    if src = srcYard then some 0
    else if isG && g == min b0 b1 then some 1 else if isG && g == max b0 b1 then some 2
    else if src = srcHp then some 3 else none

/-- Whether the mesh no longer reaches a management receiver: the groom of the yardmaster, a groom, or a UPC by the
controllers of both its stacks (R257, R346, R367). -/
def State.mgmtCut (s : State) (r : Nat) : Bool :=
  if r = 0 then s.groomCut (s.od odYardmaster)
  else if r < 0x40 then s.groomCut (r - 0x10)
  else s.routerStopped (stackSite (2 * (r - 0x40))) && s.routerStopped (stackSite (2 * (r - 0x40) + 1))

/-- A message enters an inbound channel of a management receiver and stays there: no rule says what the firmware of the
yardmaster, a groom or a UPC does with a message, and no command is its acknowledgement (log 93). One for a receiver that the
mesh no longer reaches is discarded and counted (R367). -/
def State.mgmtPut (s : State) (r part : Nat) (i : MbItem) : State :=
  match mgmtChan r i.src part with
  | none => s
  | some ch => if s.mgmtCut r then s.odAdd odMeshUnreachDropCount 1 else
    { s with mgmt := mset (fun _ => []) s.mgmt (64 * r + ch) (mget (fun _ => []) s.mgmt (64 * r + ch) ++ [i]) }

/-! ### The host's mailbox areas -/

/-- The sender number of an MB_SRC in a host mailbox area: the yardmaster is 0; in a partition's area its cores follow,
and in that of class HP the grooms and the UPCs (R339, R340). -/
def hostSender (src : BitVec 16) : Nat :=
  let v := src.toNat
  if 0x8000 ≤ v then 1 + (v - 0x8000)
  else if 0x0200 ≤ v then 21 + (v - 0x0200) else if 0x0100 ≤ v then 1 + (v - 0x0100) else 0

/-- A message into the host mailbox area of a partition or of class HP, in its sender's slots (R339, R340). -/
def State.toHost (s : State) (area : Option Nat) (i : MbItem) : State :=
  let snd := hostSender i.src
  let word := i.pointer.toNat + i.tag.toNat * 2 ^ 64 + i.src.toNat * 2 ^ 96 + (if i.ack then 2 ^ 112 else 0)
  match area with
  | some p =>
    let n := mget zN (s.part p).hostCnt snd
    let s := s.modPart p fun x => { x with hostCnt := mset zN x.hostCnt snd (n + 1) }
    s.hostWrite (s.od (odAt odMbHostBase p) + 64 * snd + 16 * (n % 4)) word 16
  | none =>
    let n := mget zN s.hpCnt snd
    let s := { s with hpCnt := mset zN s.hpCnt snd (n + 1) }
    s.hostWrite (s.od odMbHostHpBase + 64 * snd + 16 * (n % 4)) word 16

/-- A return code of the module to a host post, in the slots of sender 0 (R340). -/
def State.codeToHost (s : State) (area : Option Nat) (code : W32) : State :=
  s.toHost area ⟨0, code, srcYard, true⟩

/-! ### Return codes -/

/-- A message was discarded by a partition reset (R338). -/
def rcReset : W32 := 0xFFFFFFFF
/-- The channel was full. -/
def rcFull : W32 := 0xFFFFFFFE
/-- The receiver does not exist, or has no channel bound to the sender. -/
def rcNone : W32 := 0xFFFFFFFD

/-- An acknowledgement on its way to a core, on its channel from `src`, if it has one (R337). -/
def State.ackToCore (s : State) (c : CoreId) (src : BitVec 16) (code : W32) : State :=
  match s.mbChannel c src with
  | none => s
  | some ch => { s with mails := s.mails ++ [⟨c, ch, ⟨0, code, src, true⟩, Retry.zero⟩] }

/-- The receiver key of a source value as seen from a core. -/
def State.keyOfSrc (s : State) (c : CoreId) (src : BitVec 16) : Option Nat :=
  match s.ownerOf c with
  | none => none
  | some (p, _) =>
    if src == srcHu then some (mbHu p) else if src == srcYard then some (mbMgmt 0)
    else (s.part p).coreOfSrc src

/-- A message of the host that waits for room goes out when there is room (R338). -/
def State.retryHost (s : State) : State :=
  s.hostWait.foldl
    (fun (s : State) w =>
      let (snd, rcv, i) := w
      if s.mbHeld snd rcv < 4 && !(s.hostWait.takeWhile (· != w)).any (fun v => v.1 == snd && v.2.1 == rcv) then
        let s := { s.mbTake snd rcv with hostWait := s.hostWait.erase w }
        if rcv < 20000 then { s with mails := s.mails ++ [⟨rcv, 0, i, Retry.zero⟩] }
        else s.mgmtPut (rcv - 20200) (snd - 20000) i
      else s) s

/-! ### Posts and acknowledgements that leave a core -/

/-- A core's post leaves the core (R174, R334 to R338). -/
def State.sendPost (s : State) (c : CoreId) (imm : Nat) (i : MbItem) : State :=
  match s.ownerOf c with
  | none => s
  | some (p, _) =>
    let src := s.mbSrc c
    let i := { i with src := src }
    let drop (s : State) (back : BitVec 16) (code : W32) : State :=
      (s.odAdd odMbDropCount 1).ackToCore c back code
    if imm / 2 ^ 14 = 1 then
      if 4 ≤ s.mbHeld c (mbHu p) then drop s srcHu rcFull
      else (s.mbTake c (mbHu p)).toHost (some p) i
    else
      match (s.part p).sites.getD (imm / 16 % 512) none with
      | none => s.odAdd odMbDropCount 1
      | some site =>
        let d := 16 * site + imm % 16
        match s.mbChannel d src with
        | none => drop s (s.mbSrc d) rcNone
        | some ch =>
          if 4 ≤ s.mbHeld c d then drop s (s.mbSrc d) rcFull
          else
            let s := s.mbTake c d
            { s with mails := s.mails ++ [⟨d, ch, i, Retry.zero⟩] }

/-- A core's acknowledgement of a message from `src` leaves the core (R174, R337). A sender without a
channel from the core gets none, and its place is free at once (log 21). -/
def State.sendAck (s : State) (c : CoreId) (src : BitVec 16) (code : W32) : State :=
  match s.ownerOf c with
  | none => s
  | some (p, _) =>
    if src == srcHu then
      ((s.mbFree (mbHu p) c).toHost (some p) ⟨0, code, s.mbSrc c, true⟩).retryHost
    else if src == srcYard then s.mbFree (mbMgmt 0) c
    else
      match (s.part p).coreOfSrc src with
      | none => s
      | some d =>
        match s.mbChannel d (s.mbSrc c) with
        | none => s.mbFree d c
        | some ch => { s with mails := s.mails ++ [⟨d, ch, ⟨0, code, s.mbSrc c, true⟩, Retry.zero⟩] }

/-- A message that a partition reset discards is acknowledged to its sender with 0xFFFFFFFF (R338, R340,
R341); a core's post that draws the code counts as dropped. -/
def State.discardMail (s : State) (m : Mail) : State :=
  if m.item.ack then s
  else
    match s.ownerOf m.dst with
    | none => s
    | some (p, _) =>
      if m.item.src == srcHu then ((s.mbFree (mbHu p) m.dst).codeToHost (some p) rcReset).retryHost
      else if m.item.src == srcYard then s.mbFree (mbMgmt 0) m.dst
      else
        match (s.part p).coreOfSrc m.item.src with
        | none => s
        | some d => ((s.mbFree d m.dst).odAdd odMbDropCount 1).ackToCore d (s.mbSrc m.dst) rcReset

/-- Discard every message held in or arriving for the channels of a partition's cores (R341), and the
posts of its host that wait for them. -/
def State.discardPart (s : State) (p : Nat) : State :=
  let mine (c : CoreId) : Bool := (s.ownerOf c).map (·.1) == some p
  let held : List Mail := s.cores.flatMap fun kv =>
    if mine kv.1 then
      (List.range 4).flatMap fun ch => (mget (fun _ => []) kv.2.cur.mb ch).map fun i => ⟨kv.1, ch, i, Retry.zero⟩
    else []
  let onWay := s.mails.filter fun m => mine m.dst
  let toCore (w : Nat × Nat × MbItem) : Bool := w.1 == mbHu p && decide (w.2.1 < 20000)
  let waits := s.hostWait.filter toCore
  let s := { s with mails := s.mails.filter fun m => !mine m.dst
                    hostWait := s.hostWait.filter fun w => !toCore w }
  let s := s.cores.foldl
    (fun (s : State) kv => if mine kv.1 then s.modBoth kv.1 fun c => { c with mb := [], mbLast := [] } else s) s
  let s := (held ++ onWay).foldl State.discardMail s
  let s := waits.foldl (fun (s : State) _ => s.codeToHost (some p) rcReset) s
  { s with mails := s.mails.filter fun m => !mine m.dst }

/-! ### Commands -/

/-- The cluster from which a core's message comes, if it comes from one. -/
def State.mailFrom (s : State) (m : Mail) : Option SiteId :=
  (s.ownerOf m.dst).bind fun o => ((s.part o.1).coreOfSrc m.item.src).map coreSiteOf

/-- A message or acknowledgement enters its channel: it adds 1 to F60 + channel, and an acknowledgement frees the place of
its message (R174, R334, R337). -/
def State.mailIn (s : State) (m : Mail) : State :=
  let s := (s.modBoth m.dst fun c =>
    { c with mb := mset (fun _ => []) c.mb m.chan (mget (fun _ => []) c.mb m.chan ++ [m.item]) }).incFlag
      m.dst (60 + m.chan) 1
  if m.item.ack && m.item.tag != rcFull && m.item.tag != rcNone then
    match s.keyOfSrc m.dst m.item.src with
    | none => s
    | some k => s.mbFree m.dst k
  else s

/-- MAILBOX_ARRIVAL: the oldest message or acknowledgement on its way to its channel arrives (R174, R334, R337, R341). A held
or parked port draws RETRY, and the parked one's cluster wakes; in a change stop it waits; a dark one discards, and in a
partition reset the message is discarded and acknowledged (R332, R341, R363, R364, R387). -/
def execMailboxArrival (i : Nat) (s : State) : Host.Outcome State Fault Refusal :=
  .next (
    match s.mails[i]? with
    | none => s
    | some m =>
      let site := coreSiteOf m.dst
      let port := (s.cl site).port
      let inReset := port = .reset || (((s.ownerOf m.dst).map fun o => (s.part o.1).resetAt.isSome).getD false)
      if ((s.mails.take i).any fun x => x.dst == m.dst && x.chan == m.chan) || decide (s.clk.dt < m.retry.due) then s
      else if inReset then ({ s with mails := s.mails.eraseIdx i } : State).discardMail m
      else if port = .hold ∨ port = .park then
        (if s.mailFrom m = some site then s.wakePort site
          else (({ s with mails := s.mails.set i { m with retry := m.retry.again s.clk.dt } } : State).odAdd
            odMeshRetryCount 1).wakePort site)
      else
        let s : State := { s with mails := s.mails.eraseIdx i }
        if port = .dark then s.portDrop site
        else if s.stopped site then s.landLater site (.mail m)
        else s.mailIn m)

/-- Whether the management receiver of R340 exists. -/
def mbMgmtOk (r : Nat) : Bool :=
  r == 0 || (decide (0x10 ≤ r) && decide (r ≤ 0x23)) || (decide (0x40 ≤ r) && decide (r ≤ 0x47))

/-- A post record of the host (R337, R339, R340, R474). Routes 1 to 32 are class HU of partitions 0 to 31,
route 0 is class HP (R559). -/
def State.hostRecord (s : State) (route : Nat) (w : BitVec 128) (ack : Bool) : State :=
  let t := fld w 96 16
  let kind := t / 2 ^ 14
  let hu := decide (1 ≤ route) && decide (route ≤ 32)
  let p := route - 1
  if w.getLsbD 112 != ack || 32 < route then s
  else if fld w 113 15 ≠ 0 || kind = 1 || kind = 3 || (kind = 2 && t / 2 ^ 13 % 2 = 1) ||
      (kind = 0 && (t / 256 % 64 ≠ 0 || !mbMgmtOk (t % 256))) then
    s.odAdd odHostClassDropCount 1
  else if kind = 2 then
    if !hu then (if ack then s else s.codeToHost none rcNone)
    else
      match (s.part p).sites.getD (t / 16 % 512) none with
      | none => s.odAdd odHostClassDropCount 1
      | some site =>
        let c := 16 * site + t % 16
        let i : MbItem := ⟨w.extractLsb' 0 64, w.extractLsb' 64 32, srcHu, false⟩
        if ack then
          if s.mbHeld c (mbHu p) = 0 then s
          else { s with mails := s.mails ++ [⟨c, 0, ⟨0, i.tag, srcHu, true⟩, Retry.zero⟩] }
        else ({ s with hostWait := s.hostWait ++ [(mbHu p, c, i)] } : State).retryHost
  else if ack then s
  else if hu && t % 256 ≠ 0 then s.codeToHost (some p) rcNone
  else
    let snd := if hu then mbHu p else mbHp
    let i : MbItem := ⟨w.extractLsb' 0 64, w.extractLsb' 64 32, if hu then srcHu else srcHp, false⟩
    ({ s with hostWait := s.hostWait ++ [(snd, mbMgmt (t % 256), i)] } : State).retryHost

/-- A post record that comes through a host port: while none serves the host it is lost (R54, R442, R476). -/
def State.hostPostOp (s : State) (route : Nat) (w : BitVec 128) (ack : Bool) : State :=
  if !s.up || !s.hostUp then s.hostLost route else s.hostRecord route w ack

/-- HOST_POST: a post record of the host (R339, R340). -/
def execHostPost (route : Nat) (w : BitVec 128) (s : State) : Host.Outcome State Fault Refusal :=
  .next (s.hostPostOp route w false)

/-- HOST_ACK: a post record with ACK = 1 (R337). -/
def execHostAck (route : Nat) (w : BitVec 128) (s : State) : Host.Outcome State Fault Refusal :=
  .next (s.hostPostOp route w true)

/-- SIGNAL_DELIVERY: a signal adds its increment to its flag, once (R186). Behind a dark port it is discarded and counted,
a held or parked one draws RETRY, and the parked one's cluster wakes; in a change stop it waits (R219, R363, R364, R387). -/
def execSignalDelivery (i : Nat) (s : State) : Host.Outcome State Fault Refusal :=
  .next (
    match s.signals[i]? with
    | none => s
    | some g =>
      let site := coreSiteOf g.dst
      let port := (s.cl site).port
      if s.clk.dt < g.retry.due then s
      else if port = .hold ∨ port = .park then
        (if coreSiteOf g.src = site then s.wakePort site
          else (({ s with signals := s.signals.set i { g with retry := g.retry.again s.clk.dt } } : State).odAdd
            odMeshRetryCount 1).wakePort site)
      else
        let s : State := { s with signals := s.signals.eraseIdx i }
        if port = .opened then
          (if s.stopped site then s.landLater site (.signal g) else s.incFlag g.dst g.flag (BitVec.ofNat 32 g.inc))
        else s.portDrop site)

end Sys2Proof.Machine
end

