-- ==== Sys2Proof/Machine/Lsp.lean ====
section
/-! DEFINITION. The local scratchpad's access pipeline: what a read returns (R190), the bank-conflict
rule (R191), reads and writes in flight (R189), and the row checks of R192 and R596. -/

namespace Sys2Proof.Machine

open Sys2Proof

/-- The present core cycle. -/
def CoreSt.now (c : CoreSt) : Nat := c.cyc.toNat

/-- The bank of a row (R188). -/
def bankOf (row : Nat) : Nat := row % 64

/-- Use a bank in cycle `n`; the flag says that it was in use in the same way already (R191). -/
def CoreSt.useBank (c : CoreSt) (n bank : Nat) (write : Bool) : CoreSt × Bool :=
  (if c.banks.contains ⟨n, bank, write⟩ then c else { c with banks := ⟨n, bank, write⟩ :: c.banks },
   c.banks.contains ⟨n, bank, write⟩)

/-- Issue one read of a row in the present cycle for a slot. -/
def CoreSt.readRow (c : CoreSt) (bpc slot rank row : Nat) (dst : LoadDst) : CoreSt × Row × Bool :=
  let n := c.now
  let (d, p) := c.viewRow n row
  let (c, bad) := c.useBank n (bankOf row) false
  ({ c with reads := c.reads ++ [⟨n, rank, bpc, slot, row, d, p, dst⟩] }, d, bad)

/-- Issue reads of several rows for an engine; their bits in order, the first row lowest. -/
def CoreSt.readRows (c : CoreSt) (bpc slot : Nat) : List Nat → CoreSt × List Row × Bool
  | [] => (c, [], false)
  | r :: rs =>
    let (c, d, bad) := c.readRow bpc slot 0 r .none
    let (c, ds, bad') := CoreSt.readRows c bpc slot rs
    (c, d :: ds, bad || bad')

/-- Insert a write by the cycle in which it takes effect. -/
def insertWrite (w : LspWrite) : List LspWrite → List LspWrite
  | [] => [w]
  | x :: xs => if w.due < x.due then w :: x :: xs else x :: insertWrite w xs

/-- Issue a full-row write in the present cycle (R189). -/
def CoreSt.writeRow (c : CoreSt) (row : Nat) (data : Row) : CoreSt × Bool :=
  let (c, bad) := c.useBank c.now (bankOf row) true
  ({ c with writes := insertWrite ⟨c.now, row, true, data, 0, false⟩ c.writes }, bad)

/-- Issue full-row writes of consecutive rows. -/
def CoreSt.writeRows (c : CoreSt) (row : Nat) : List Row → CoreSt × Bool
  | [] => (c, false)
  | d :: ds =>
    let (c, bad) := c.writeRow row d
    let (c, bad') := CoreSt.writeRows c (row + 1) ds
    (c, bad || bad')

/-- Use a bank for a write in a later cycle `n`; a conflict strikes in that cycle (R191). -/
def CoreSt.useLater (c : CoreSt) (bpc slot n bank : Nat) : CoreSt :=
  let (c, bad) := c.useBank n bank true
  if bad then { c with confl := c.confl ++ [(n, bpc, slot)] } else c

/-- Issue a partial-row write: a read of its bank now, and a write of it in the next two cycles
(R190, R191). An error its own read meets is found through the list of writes (R198). -/
def CoreSt.writePart (c : CoreSt) (bpc slot row : Nat) (data lanes : Row) : CoreSt × Bool :=
  let n := c.now
  let (c, bad) := c.useBank n (bankOf row) false
  let c := (c.useLater bpc slot (n + 1) (bankOf row)).useLater bpc slot (n + 2) (bankOf row)
  ({ c with writes := insertWrite ⟨n, row, false, data, lanes, false⟩ c.writes }, bad)

/-- `n` consecutive rows. -/
def rowsFrom (row n : Nat) : List Nat := (List.range n).map (row + ·)

/-- Several rows as one word, the first row lowest (R67). -/
def catRows (w : Nat) (rows : List Row) : BitVec w :=
  BitVec.ofNat w (rows.foldr (fun r a => r.toNat + 2 ^ 256 * a) 0)

/-- Split a number into `n` rows, the lowest first. -/
def splitRows : Nat → Nat → List Row
  | 0, _ => []
  | n + 1, x => BitVec.ofNat 256 x :: splitRows n (x / 2 ^ 256)

end Sys2Proof.Machine
end

