-- ==== Sys2Proof/Machine/Mxe.lean ====
section
/-! DEFINITION. The broadcast matrix array: operand formats (R64, R89 to R91, R95 to R99), pass and
fusion descriptors (R74, R75, R117, R118), products and accumulators (R101 to R107), overflow and
replay (R86, R109 to R112), and the output-fusion pipeline (R119 to R129). -/

namespace Sys2Proof.Machine

open Sys2Proof

/-! ### Operand formats -/

/-- Products per cell and cycle of a format's class (R64). -/
def mxKp (f : Nat) : Nat :=
  if f = 0x00 || f = 0x01 || f = 0x10 then 1 else if f = 0x06 || f = 0x0B || f = 0x0E then 4 else 2
/-- Whether a format code is one of R64. -/
def mxFmtOk (f : Nat) : Bool := decide (f ≤ 0x0E) || (decide (0x10 ≤ f) && decide (f ≤ 0x12))
/-- Container width in LSP (R64). -/
def mxWidth (f : Nat) : Nat :=
  if f = 0x10 then 32 else if f = 0x11 then 16 else 16 / mxKp f
/-- Rows of a step word (R67). -/
def mxStepRows (f : Nat) : Nat := if f = 0x10 || f = 0x11 then 4 else 2
/-- The number of words or slices that SA or SB may select (R64). -/
def mxSel (f nsl : Nat) : Nat :=
  if f = 0x10 then 3 else if f = 0x11 then 2 else if f = 0x12 then nsl else 1
/-- The integer formats of R65. -/
def mxInt (f : Nat) : Bool := f == 0x0C || f == 0x0D || f == 0x0E || f == 0x11
/-- The MX formats. -/
def mxMx (f : Nat) : Bool := decide (0x07 ≤ f) && decide (f ≤ 0x0B)
/-- The pairing group of a format: floating, integer, MX, I8SL (R65). -/
def mxGroup (f : Nat) : Nat := if mxInt f then 1 else if mxMx f then 2 else if f = 0x12 then 3 else 0
/-- Whether two formats may be paired (R65). -/
def mxPair (a b : Nat) : Bool := mxKp a == mxKp b && mxGroup a == mxGroup b

/-- The element format behind a floating or MX code (R95, R98). -/
def mxFmt (f : Nat) : Fmt :=
  if f = 0x00 || f = 0x10 then bf16 else if f = 0x01 then fp16
  else if f = 0x02 || f = 0x07 then e4m3 else if f = 0x03 || f = 0x08 then e5m2
  else if f = 0x04 || f = 0x09 then e3m2 else if f = 0x05 || f = 0x0A then e2m3 else e2m1

/-- Keep the leading 8 significant bits of a magnitude (truncation to BF16, R90). -/
def trunc8 (m : Nat) : Nat := if Nat.log2 m ≤ 7 then m else m / 2 ^ (Nat.log2 m - 7) * 2 ^ (Nat.log2 m - 7)

/-- A word of an FP32 value, as an exact value; a word below 2^-126 is zero (R90). -/
def fp32Word (sel raw : Nat) : FV :=
  match fp32.decode raw with
  | .fin n m e =>
    let m0 := trunc8 m
    let m1 := trunc8 (m - m0)
    let w := if sel = 0 then m0 else if sel = 1 then m1 else m - m0 - m1
    if w = 0 || decide ((Nat.log2 w : Int) + e < -126) then .fin n 0 0 else .fin n w e
  | v => if sel = 0 then v else .fin false 0 0

/-- The word or slice that a container gives to a cell or wire, in 16, 8 or 4 bits (R68, R90, R91). -/
def mxWord (f sel raw : Nat) : Nat :=
  if f = 0x10 then bf16.encode (fp32Word sel raw)
  else if f = 0x11 then (if sel = 0 then raw / 256 % 256 else raw % 256)
  else raw

/-- The exact value of a selected word or slice, with its own weight (R89, R95, R97). An I8SL slice
k weighs 2^(-7 - 8 k); its block's exponent is applied apart. -/
def mxElem (f sel w : Nat) : FV :=
  if f = 0x0C then FV.ofInt (sgn 8 w) 0 false
  else if f = 0x0D then FV.ofInt (w % 256 : Nat) 0 false
  else if f = 0x0E then FV.ofInt (sgn 4 w) 0 false
  else if f = 0x11 then
    (if sel = 0 then FV.ofInt (sgn 8 w) 8 false else FV.ofInt (w % 256 : Nat) 0 false)
  else if f = 0x12 then
    FV.ofInt (if sel = 0 then sgn 8 w else (w % 256 : Nat)) (-7 - 8 * (sel : Int)) false
  else if f = 0x04 || f = 0x05 || f = 0x09 || f = 0x0A then (mxFmt f).decode (w % 64)
  else (mxFmt f).decode w

/-- An entry clamped to a range (R100). -/
def clampI (lo hi x : Int) : Int := max lo (min hi x)

/-- The block scale of an element under its block-side entry: an MX scale (R98), an I8SL exponent
(R89, R99), or none. -/
def mxScale (f entry : Nat) (v : FV) : FV :=
  if mxMx f then
    if entry % 256 = 0xFF then .nan else v.mul (.fin false 1 ((entry % 256 : Nat) - 127))
  else if f = 0x12 then
    if entry = 0x8000 then .fin false 0 0 else v.mul (.fin false 1 (clampI (-1100) 1100 (sgn 16 entry)))
  else v

/-- ea or eb of R105 for a block-side entry: none for a block marked 0x8000 or an integer format. -/
def mxBound (f sel entry : Nat) : Option Int :=
  if mxInt f then none
  else if mxMx f then some (((entry % 256 : Nat) : Int) - 127 + (mxFmt f).maxExp)
  else if entry = 0x8000 then none
  else if f = 0x12 then some (clampI (-1100) 1100 (sgn 16 entry) - 8 * sel)
  else some (clampI (-160) 160 (sgn 16 entry) - (if f = 0x10 then 8 * (sel : Int) else 0))

/-- The larger of two optional bounds. -/
def maxOpt : Option Int → Option Int → Option Int
  | none, y => y
  | x, none => x
  | some a, some b => some (max a b)

/-- The largest of a list of optional bounds. -/
def maxOpts (l : List (Option Int)) : Option Int := l.foldl maxOpt none

/-- The sum of two bounds, when both are there. -/
def addOpt : Option Int → Option Int → Option Int
  | some a, some b => some (a + b)
  | _, _ => none

/-- `n` entries of 16 bits from bit `lo` on of a word. -/
def entries {w : Nat} (x : BitVec w) (lo n : Nat) : List Nat :=
  (List.range n).map fun i => fld x (lo + 16 * i) 16

/-! ### Pass descriptors -/

/-- KIND of a descriptor (R74). -/
def dKind (d : Row) : Nat := fld d 0 4
/-- MODE (R74): 0 OS, 1 WS, 2 IS. -/
def dMode (d : Row) : Nat := fld d 4 2
/-- FMT_A. -/
def dFmtA (d : Row) : Nat := fld d 6 5
/-- FMT_B. -/
def dFmtB (d : Row) : Nat := fld d 11 5
/-- ADDR_A. -/
def dAddrA (d : Row) : Nat := fld d 16 12
/-- ADDR_B. -/
def dAddrB (d : Row) : Nat := fld d 28 12
/-- BSV_A. -/
def dBsvA (d : Row) : Nat := fld d 40 12
/-- BSV_B. -/
def dBsvB (d : Row) : Nat := fld d 52 12
/-- LEN: steps minus one. -/
def dLen (d : Row) : Nat := fld d 64 12
/-- SLS_A. -/
def dSlsA (d : Row) : Nat := fld d 76 12
/-- SLS_B. -/
def dSlsB (d : Row) : Nat := fld d 88 12
/-- NSL. -/
def dNsl (d : Row) : Nat := fld d 100 4

/-- NSL and the slice distance of one operand suit its format (R74, R75). -/
def dSlices (f sls nsl : Nat) : Bool :=
  if f = 0x12 then decide (6 ≤ nsl) && decide (nsl ≤ 9) else sls == 0

/-- What an MX.LOAD checks of its descriptor (R75). -/
def dLoadOk (d : Row) (sa : Nat) : Bool :=
  dKind d == 1 && dMode d != 3 && mxFmtOk (dFmtA d) && dSlices (dFmtA d) (dSlsA d) (dNsl d) &&
    (dFmtA d == 0x12 || dNsl d == 0) && decide (sa < mxSel (dFmtA d) (dNsl d)) && fld d 104 152 == 0

/-- What an MX.STREAM checks of its descriptor (R75). -/
def dStreamOk (d : Row) (sa sb : Nat) : Bool :=
  dKind d == 1 && dMode d != 3 && mxFmtOk (dFmtA d) && mxFmtOk (dFmtB d) &&
    mxPair (dFmtA d) (dFmtB d) && (dMode d == 0 || decide (dLen d ≤ 31)) &&
    dSlices (dFmtA d) (dSlsA d) (dNsl d) && dSlices (dFmtB d) (dSlsB d) (dNsl d) &&
    (dFmtA d == 0x12 || dNsl d == 0) && decide (sa < mxSel (dFmtA d) (dNsl d)) &&
    decide (sb < mxSel (dFmtB d) (dNsl d)) && fld d 104 152 == 0

/-- The row offset of a selected slice (R74). -/
def sliceOff (f sls sel : Nat) : Nat := if f = 0x12 then sel * sls else 0

/-- The rows an operand's step `t` reads (R67). -/
def stepRows (f addr off t : Nat) : List Nat := rowsFrom (addr + off + t * mxStepRows f) (mxStepRows f)

/-- The block-side rows that the feed reads at step `t` of an OS operand (R69). -/
def osBsvRows (f bsv off t : Nat) : List Nat :=
  if t * mxKp f % 32 = 0 then rowsFrom (bsv + off + 2 * (t * mxKp f / 32)) 2 else []

/-- The block-side row that the feed reads at step `t` of streamed vectors (R69). -/
def wsBsvRows (f bsv off t : Nat) : List Nat :=
  if t * mxKp f % 16 = 0 then [bsv + off + t * mxKp f / 16] else []

/-- The load cycles T of a stationary format (R77). -/
def loadCycles (f : Nat) : Nat := if f = 0x10 || f = 0x11 then 32 else 16

/-- The highest row that a load touches, every slice at its offset (R596). -/
def loadTop (d : Row) : Nat :=
  let f := dFmtA d
  let off := if f = 0x12 then (dNsl d - 1) * dSlsA d else 0
  max (dAddrA d + off + 4 * loadCycles f) (dBsvA d + off + 2 * mxKp f) - 1

/-- The highest row that a pass touches (R596). -/
def streamTop (d : Row) (sa sb : Nat) : Nat :=
  let steps := dLen d + 1
  let fb := dFmtB d
  let offB := sliceOff fb (dSlsB d) sb
  let blocks (f : Nat) := (dLen d * mxKp f / 32) + 1
  if dMode d = 0 then
    let fa := dFmtA d
    let offA := sliceOff fa (dSlsA d) sa
    max (max (dAddrA d + offA + steps * mxStepRows fa) (dAddrB d + offB + steps * mxStepRows fb))
      (max (dBsvA d + offA + 2 * blocks fa) (dBsvB d + offB + 2 * blocks fb)) - 1
  else
    max (dAddrB d + offB + steps * mxStepRows fb)
      (dBsvB d + offB + (dLen d * mxKp fb / 16) + 1) - 1

/-! ### Accumulators -/

/-- A product on its way into an accumulator: its own exact value. -/
def accCombine : AccSt → AccSt → AccSt
  | .nan, _ => .nan
  | _, .nan => .nan
  | .finite, y => y
  | x, .finite => x
  | .posInf, .posInf => .posInf
  | .negInf, .negInf => .negInf
  | _, _ => .nan

/-- The aligned product of R103, clamped to a magnitude of 2^63. -/
def alignProd (neg : Bool) (m : Nat) (e eLsb : Int) : Int :=
  let x := shiftI (if neg then -(m : Int) else m) (e - eLsb)
  if x > 2 ^ 63 then 2 ^ 63 else if x < -(2 ^ 63) then -(2 ^ 63) else x

/-- Add one product into an accumulator; the flag is the product cause of R109. -/
def Acc.addProd (a : Acc) (eLsb : Int) (p : FV) : Acc × Bool :=
  match p with
  | .nan => ({ a with st := .nan }, false)
  | .inf n => ({ a with st := accCombine a.st (if n then .negInf else .posInf) }, false)
  | .fin n m e =>
    let x := alignProd n m e eLsb
    ({ a with val := a.val + BitVec.ofInt 88 x }, decide (2 ^ 51 ≤ x.natAbs))

/-- Add products in order. -/
def Acc.addProds (a : Acc) (eLsb : Int) (ps : List FV) : Acc × Bool :=
  ps.foldl (fun r p => let (a, s) := r.1.addProd eLsb p; (a, r.2 || s)) (a, false)

/-- The exponent of the least significant bit of a bank (R106). -/
def Bank.eLsb (b : Bank) : Int := if b.kind = some true then 0 else b.w - 49 + 8 * (b.k : Int)

/-- Add lists of products into accumulators of a bank, negated or not; the product cause sets the
sticky bit of a floating bank (R103, R109). -/
def Bank.addAll (b : Bank) (neg : Bool) (ps : List (Nat × List FV)) : Bank :=
  let e := b.eLsb
  let isInt := b.kind == some true
  ps.foldl
    (fun b ip =>
      let (a, s) := (mget zA b.accs ip.1).addProds e (if neg then ip.2.map FV.neg else ip.2)
      { b with accs := mset zA b.accs ip.1 a, sticky := b.sticky || (s && !isInt) })
    b

/-- An accumulator's value with its extension bits (R101). -/
def Acc.value (a : Acc) : Int := sgn 88 a.val.toNat

/-- The bound of the sum check and of saturation (R109, R111). -/
def sumBound : Int := 2 ^ 63 - 2

/-- The sum check of R109. -/
def Bank.sumOver (b : Bank) : Bool :=
  b.accs.any fun kv => kv.2.st = .finite && (decide (kv.2.value > sumBound) || decide (kv.2.value < -sumBound))

/-- A pass with a pass exponent meets the bank's window: it sets W if none has, and sets the sticky
bit under the window and late-window causes (R107, R109). The late-window cause asks for an accumulator that is not zero, as
R109 has it: products that earlier passes without a pass exponent have added at W = 49 and that leave every value zero raise
nothing, though then the drained bits depend on the order of the passes, against R113 (DESIGN CHOICE, log 52). -/
def Bank.meet (b : Bank) (req : Option Int) : Bank :=
  match req with
  | none => b
  | some r =>
    if b.kind = some true then b
    else if !b.wSet then
      let late := b.accs.any fun kv => kv.2.st = .finite && decide (kv.2.val ≠ 0)
      { b with w := r, wSet := true, sticky := b.sticky || late, late := b.late || late }
    else if r > b.w then { b with sticky := true } else b

/-- Clear a bank for a new tile (R101, R107). -/
def Bank.clear (b : Bank) : Bank :=
  { b with accs := [], w := 49, wSet := false, k := 0, sticky := false, late := false }

/-! ### The products of a step -/

/-- The exact element `n` of a step word, scaled by its block's entry (R67). -/
def stepElem {w : Nat} (f sel entry n : Nat) (x : BitVec w) : FV :=
  mxScale f entry (mxElem f sel (mxWord f sel (fld x (n * mxWidth f) (mxWidth f))))

/-- The exact element `u` of a plane cell, scaled (R68). -/
def cellElem (f sel entry u : Nat) (cell : BitVec 16) : FV :=
  mxScale f entry (mxElem f sel (fld cell (u * (16 / mxKp f)) (16 / mxKp f)))

/-- The plane's block-side entry of block β and stationary vector r (R69). -/
def Plane.entry (p : Plane) (β r : Nat) : Nat := fld (mget zR p.blocks (2 * β + r / 16)) (16 * (r % 16)) 16

/-- The products of an OS step, by accumulator (R61). -/
def osProducts (d : Row) (sa sb : Nat) (st : StepSt) : List (Nat × List FV) :=
  let fa := dFmtA d
  let fb := dFmtB d
  let kp := mxKp fa
  let av := (List.range 32).map fun i =>
    (List.range kp).map fun u => stepElem fa sa (fld st.ea (16 * i) 16) (i * kp + u) st.a
  let bv := (List.range 32).map fun j =>
    (List.range kp).map fun u => stepElem fb sb (fld st.eb (16 * j) 16) (j * kp + u) st.b
  (List.range 32).flatMap fun i =>
    (List.range 32).map fun j =>
      (32 * i + j, ((av.getD i []).zip (bv.getD j [])).map fun ab => ab.1.mul ab.2)

/-- The products of a WS or IS step on a plane, by accumulator (R61): each sum of a row or column. -/
def planeProducts (d : Row) (sa sb : Nat) (st : StepSt) (p : Plane) : List (Nat × List FV) :=
  let fa := dFmtA d
  let fb := dFmtB d
  let kp := mxKp fa
  let ws := dMode d == 1
  -- element x*kp + u of vector t: block (x*kp + u) / 32 of its kp blocks
  let v := (List.range 32).map fun x =>
    (List.range kp).map fun u =>
      stepElem fb sb (fld st.eb (16 * ((st.t * kp + (x * kp + u) / 32) % 16)) 16) (x * kp + u) st.b
  (List.range 32).map fun r =>
    (if ws then 32 * r + st.t else 32 * st.t + r,
      (List.range 32).flatMap fun x =>
        ((List.range kp).zip (v.getD x [])).map fun uv =>
          (cellElem fa sa (p.entry ((x * kp + uv.1) / 32) r) uv.1
            (mget (fun _ => 0) p.cells (if ws then 32 * r + x else 32 * x + r))).mul uv.2)

/-- The products of a step (R61, R102). -/
def stepProducts (d : Row) (sa sb : Nat) (st : StepSt) (p : Plane) : List (Nat × List FV) :=
  if dMode d = 0 then osProducts d sa sb st else planeProducts d sa sb st p

/-! ### Pass exponents -/

/-- The pass exponent over the blocks that OS rows of entries hold: `a` and `b` list, for each block,
the 32 entries of each operand (R105). -/
def osReq (d : Row) (sa sb : Nat) (a b : List (List Nat)) : Option Int :=
  maxOpts ((a.zip b).map fun ab =>
    addOpt (maxOpts (ab.1.map (mxBound (dFmtA d) sa))) (maxOpts (ab.2.map (mxBound (dFmtB d) sb))))

/-- The exponent of one streamed vector on a plane (R105): over its kp blocks. -/
def vecReq (d : Row) (sa sb : Nat) (p : Plane) (ev : List Nat) : Option Int :=
  maxOpts ((List.range (mxKp (dFmtA d))).map fun β =>
    addOpt (maxOpts ((List.range 32).map fun r => mxBound (dFmtA d) sa (p.entry β r)))
      (mxBound (dFmtB d) sb (ev.getD β 0)))

/-- The entries of block β of an OS operand, read through a view of LSP (R69). -/
def osEntries (rd : Nat → Row) (bsv off β : Nat) : List Nat :=
  entries (rd (bsv + off + 2 * β)) 0 16 ++ entries (rd (bsv + off + 2 * β + 1)) 0 16

/-- The entries of streamed vector t, read through a view of LSP (R69). -/
def vecEntries (rd : Nat → Row) (d : Row) (sb t : Nat) : List Nat :=
  let kp := mxKp (dFmtB d)
  let off := sliceOff (dFmtB d) (dSlsB d) sb
  (List.range kp).map fun k =>
    fld (rd (dBsvB d + off + (kp * t + k) / 16)) (16 * ((kp * t + k) % 16)) 16

/-- The pass exponent of a pass, its planes given by step (R105). -/
def passReq (rd : Nat → Row) (d : Row) (sa sb : Nat) (planeAt : Nat → Plane) : Option Int :=
  if dMode d = 0 then
    let nb := dLen d * mxKp (dFmtA d) / 32 + 1
    osReq d sa sb
      ((List.range nb).map (osEntries rd (dBsvA d) (sliceOff (dFmtA d) (dSlsA d) sa)))
      ((List.range nb).map (osEntries rd (dBsvB d) (sliceOff (dFmtB d) (dSlsB d) sb)))
  else
    maxOpts ((List.range (dLen d + 1)).map fun t => vecReq d sa sb (planeAt t) (vecEntries rd d sb t))

/-! ### Planes -/

/-- The block-side rows and cells that a load reads in its cycle k, added to its plane (R68, R69,
R77). `img` are its four image rows and `blk` its block-side rows of this cycle. -/
def MxLoadSt.take (l : MxLoadSt) (img blk : List Row) : MxLoadSt :=
  let f := l.plane.tag.fmt
  let k := l.next
  let per := if l.cycles = 32 then 32 else 64
  let w := 1024 / per
  let x := catRows 1024 img
  let cells := (List.range per).foldl
    (fun m i =>
      let raw := fld x (i * w) w
      let c :=
        if w = 16 then raw
        else if f = 0x10 then mxWord f l.plane.tag.sa raw
        else mxWord f l.plane.tag.sa (raw % 65536) + 256 * mxWord f l.plane.tag.sa (raw / 65536)
      mset (fun _ => 0) m (per * k + i) (BitVec.ofNat 16 c))
    l.plane.cells
  { l with next := k + 1
           plane := { l.plane with cells := cells, blocks := msetRange zR l.plane.blocks (2 * k) blk } }

/-- The rows a load reads in its cycle k: image rows and block-side rows (R69, R77). -/
def MxLoadSt.rows (l : MxLoadSt) : List Nat × List Nat :=
  (rowsFrom (l.addr + 4 * l.next) 4,
   if l.next < mxKp l.plane.tag.fmt then rowsFrom (l.bsv + 2 * l.next) 2 else [])

/-- A load from its start under a descriptor and word select (R74, R77). -/
def loadStart (d : Row) (sa n bpc : Nat) : MxLoadSt :=
  let off := sliceOff (dFmtA d) (dSlsA d) sa
  { issued := n, bpc := bpc, cycles := loadCycles (dFmtA d), addr := dAddrA d + off, bsv := dBsvA d + off, next := 0,
    plane := { cells := [], blocks := [], tag := ⟨dMode d, dFmtA d, sa, d⟩ } }

/-- A whole load through a view of LSP (R86). -/
def loadAll (rd : Nat → Row) : Nat → MxLoadSt → MxLoadSt
  | 0, l => l
  | k + 1, l => loadAll rd k (l.take (l.rows.1.map rd) (l.rows.2.map rd))

/-- The replay plane that a tag names, loaded through a view of LSP (R86). -/
def reloadPlane (rd : Nat → Row) (tag : PlaneTag) : Plane :=
  let l := loadStart tag.src tag.sa 0 0
  (loadAll rd l.cycles l).plane

/-! ### Replay -/

/-- The plane tag of step `t` of a logged pass. -/
def PassLog.tagAt (l : PassLog) (t : Nat) : PlaneTag :=
  l.planes.foldl (fun cur x => if x.1 ≤ t then x.2 else cur) PlaneTag.zero

/-- A step of a logged pass, read through a view of LSP (R86). -/
def replayStep (rd : Nat → Row) (l : PassLog) (t : Nat) : StepSt :=
  let d := l.desc
  let offA := sliceOff (dFmtA d) (dSlsA d) l.sa
  let offB := sliceOff (dFmtB d) (dSlsB d) l.sb
  let β := t * mxKp (dFmtA d) / 32
  { read := 0, t := t,
    a := if dMode d = 0 then catRows 1024 ((stepRows (dFmtA d) (dAddrA d) offA t).map rd) else 0,
    b := catRows 1024 ((stepRows (dFmtB d) (dAddrB d) offB t).map rd),
    ea := catRows 512 ((rowsFrom (dBsvA d + offA + 2 * β) 2).map rd),
    eb := if dMode d = 0 then catRows 512 ((rowsFrom (dBsvB d + offB + 2 * β) 2).map rd)
          else catRows 512 [rd (dBsvB d + offB + t * mxKp (dFmtB d) / 16)],
    plane := none }

/-- The rows that the replay of a logged pass reads: its operands, its block-side rows and the images of its planes
(R86). -/
def PassLog.rows (l : PassLog) : List Nat :=
  let d := l.desc
  let offA := sliceOff (dFmtA d) (dSlsA d) l.sa
  let offB := sliceOff (dFmtB d) (dSlsB d) l.sb
  let os := dMode d == 0
  ((List.range (dLen d + 1)).flatMap fun t =>
    (if os then stepRows (dFmtA d) (dAddrA d) offA t ++ osBsvRows (dFmtA d) (dBsvA d) offA t else []) ++
      stepRows (dFmtB d) (dAddrB d) offB t ++
      (if os then osBsvRows (dFmtB d) (dBsvB d) offB t else wsBsvRows (dFmtB d) (dBsvB d) offB t)) ++
  l.planes.flatMap fun x =>
    let m := loadStart x.2.src x.2.sa 0 0
    rowsFrom m.addr (4 * m.cycles) ++ rowsFrom m.bsv (2 * mxKp x.2.fmt)

/-- The replay plane after the passes of a log have been re-run: that of the last WS or IS pass (R86). -/
def replayPlane (rd : Nat → Row) (log : List PassLog) (old : Plane) : Plane :=
  match (log.filter fun l => dMode l.desc != 0).getLast? with
  | some l => reloadPlane rd (l.tagAt (dLen l.desc))
  | none => old

/-- The sign with which a logged pass adds to the bank of its log: NEG, or NEG2 in the other bank of a DUAL pass (R72). -/
def PassLog.sign (l : PassLog) : Bool := if l.other then l.neg2 else l.neg

/-- Re-run one logged pass into a bank with the sign its entry gives (R86, R112). -/
def replayPass (rd : Nat → Row) (b : Bank) (l : PassLog) : Bank :=
  let d := l.desc
  let planes := l.planes.map fun x => (x.2, reloadPlane rd x.2)
  let planeOf (t : Nat) : Plane := ((planes.find? fun x => x.1 == l.tagAt t).map (·.2)).getD Plane.zero
  let b := b.meet (passReq rd d l.sa l.sb planeOf)
  (List.range (dLen d + 1)).foldl
    (fun b t => b.addAll l.sign (stepProducts d l.sa l.sb (replayStep rd l t) (planeOf t))) b

/-- The cycles H of one replay (R87). A WS or IS pass replayed right after an OS pass, which has no plane, is charged its
load time: R87 does not say whether its plane counts as different (DESIGN CHOICE, log 84). -/
def replayCost (log : List PassLog) : Nat :=
  10 + (log.foldl
    (fun (acc : Nat × Option PlaneTag) l =>
      let steps := dLen l.desc + 1
      if dMode l.desc = 0 then (acc.1 + steps, some PlaneTag.zero)
      else
        let tag := l.tagAt 0
        let t := if acc.2 == some tag then 0 else loadCycles tag.fmt
        (acc.1 + steps + t, some tag))
    (0, none)).1

/-- The largest pass exponent among the logged passes (R107, R110). -/
def logReq (rd : Nat → Row) (log : List PassLog) : Option Int :=
  maxOpts (log.map fun l =>
    passReq rd l.desc l.sa l.sb fun t => reloadPlane rd (l.tagAt t))

/-- One replay: a correction or a raise (R86, R110). -/
def replayOnce (rd : Nat → Row) (b : Bank) : Bank :=
  let top := logReq rd b.log
  let corr := b.late || (match top with | some r => decide (r > b.w) | none => false)
  let w := top.getD 49
  let b' : Bank := { b with accs := [], w := if corr then w else b.w, wSet := true,
                            k := if corr then b.k else b.k + 1, sticky := false, late := false }
  let b' := b.log.foldl (replayPass rd) b'
  { b' with sticky := b'.sticky || b'.sumOver }

/-- Saturate every FINITE accumulator beyond the bound (R111); the sticky bit stands until a new tile opens (R109). -/
def Bank.saturate (b : Bank) : Bank :=
  { b with accs := b.accs.foldl
             (fun m kv =>
               let v := kv.2.value
               let v' := if v > sumBound then sumBound else if v < -sumBound then -sumBound else v
               if kv.2.st = .finite then mset zA m kv.1 { kv.2 with val := BitVec.ofInt 88 v' } else m)
             b.accs }

/-- Replay until no cause fires, at most one correction and three raises (R86, R110, R111): the
bank, the cycles held, and whether the limit was passed. -/
def replayLoop (rd : Nat → Row) : Nat → Bank → Nat → Bank × Nat × Bool
  | 0, b, h => (b, h, false)
  | n + 1, b, h =>
    if !b.sticky then (b, h, false)
    else if b.k = 3 then (b.saturate, h, true)
    else replayLoop rd n (replayOnce rd b) (h + replayCost b.log)

/-! ### Fusion descriptors -/

/-- OUT_FMT (R117). -/
def fOut (d : Row) : Nat := fld d 4 5
/-- RND. -/
def fRnd (d : Row) : Nat := fld d 9 2
/-- SAT. -/
def fSat (d : Row) : Bool := d.getLsbD 11
/-- SCALE_MODE. -/
def fScale (d : Row) : Nat := fld d 12 2
/-- BIAS_MODE. -/
def fBias (d : Row) : Nat := fld d 14 2
/-- ACT_EN. -/
def fAct (d : Row) : Bool := d.getLsbD 16
/-- ACT_TAB. -/
def fTab (d : Row) : Nat := fld d 17 3
/-- BSO. -/
def fBso (d : Row) : Bool := d.getLsbD 20
/-- ADDR_OUT. -/
def fAddrOut (d : Row) : Nat := fld d 21 12
/-- ADDR_SCALE. -/
def fAddrScale (d : Row) : Nat := fld d 33 12
/-- ADDR_BIAS. -/
def fAddrBias (d : Row) : Nat := fld d 45 12
/-- ADDR_BSO. -/
def fAddrBso (d : Row) : Nat := fld d 57 12
/-- E_OUT. -/
def fEOut (d : Row) : Int := sfld d 69 16

/-- q of R79. -/
def fQ (d : Row) : Nat := if fOut d = 0x14 then 2 else 1

/-- The checks of R118. -/
def fusionOk (d : Row) : Bool :=
  let o := fOut d
  let wp := o == 0x14 || o == 0x15
  dKind d == 2 && (decide (o ≤ 0x0E) || o == 0x13 || wp) && fRnd d != 3 && fBias d != 1 &&
    (!wp || (fScale d == 0 && fBias d == 0 && !fAct d && fRnd d == 0)) &&
    (o != 0x13 || fRnd d == 0) && (!fSat d || o == 0x02 || o == 0x03) &&
    (if mxMx o || o == 0x14 then fBso d else !((mxInt o || o == 0x15) && fBso d)) &&
    (fScale d == 1 || fld d 85 32 == 0) && (decide (2 ≤ fScale d) || fAddrScale d == 0) &&
    (decide (2 ≤ fBias d) || fAddrBias d == 0) && (fAct d || fTab d == 0) &&
    (fBso d || fAddrBso d == 0) && (o == 0x15 || fld d 69 16 == 0) &&
    (fRnd d == 2 || (fld d 117 32 == 0 && fld d 149 40 == 0 && fld d 189 24 == 0)) && fld d 213 43 == 0

/-- The container width of an output (R129). -/
def outWidth (o : Nat) : Nat :=
  if o = 0x14 then 64 else if o = 0x13 || o = 0x15 then 32 else mxWidth o
/-- LSP rows per accumulator row of an output (R129). -/
def outRows (o : Nat) : Nat := max 1 (outWidth o / 8)

/-- The highest row a drain touches (R596). -/
def drainTop (d : Row) : Nat :=
  let a := fAddrOut d + 32 * outRows (fOut d)
  let b := if 2 ≤ fScale d then fAddrScale d + 4 else 0
  let c := if 2 ≤ fBias d then fAddrBias d + 4 else 0
  let e := if fBso d then fAddrBso d + (if fOut d = 0x14 then 1 else 2) else 0
  max (max a b) (max c e) - 1

/-! ### Output fusion -/

/-- Convert an accumulator to FP32 (R120). -/
def accFp32 (a : Acc) (e : Int) : Nat :=
  match a.st with
  | .nan => fp32.nanCode
  | .posInf => fp32.encode (.inf false)
  | .negInf => fp32.encode (.inf true)
  | .finite => fp32.encode (FV.ofInt a.value e false)

/-- Read `n` bytes of the activation store as a little-endian number (R121). -/
def actBytes (act : SMap Byte) (addr n : Nat) : Nat := ofLe (mgetRange zB act addr n)

/-- floor of a finite value. -/
def FV.floorI : FV → Int
  | .fin n m e => shiftI (if n then -(m : Int) else m) e
  | _ => 0

/-- Any NaN encoding becomes the canonical NaN (R120, R122). -/
def f32canon (x : Nat) : Nat := if (fp32.decode x).isNan then fp32.nanCode else x

/-- The activation of R122 with table `tab`. -/
def activate (act : SMap Byte) (tab x : Nat) : Nat :=
  let base := 4128 * tab
  match fp32.decode x with
  | .nan => fp32.nanCode
  | .inf false => f32canon (actBytes act (base + 12) 4)
  | .inf true => f32canon (actBytes act (base + 8) 4)
  | .fin _ _ _ =>
    let d := f32add x (f32neg (actBytes act base 4))
    let ks := sgn 8 (actBytes act (base + 4) 1)
    let u := fp32.encode ((fp32.decode d).mul (.fin false 1 ks))
    let seg : Nat :=
      match fp32.decode u with
      | .nan => 0
      | .inf n => if n then 0 else 255
      | v => (max 0 (min 255 v.floorI)).toNat
    let t := f32add u (f32neg (fp32.encode (FV.ofInt seg 0 false)))
    let c (i : Nat) := actBytes act (base + 32 + 16 * seg + 4 * i) 4
    f32canon (f32fma (f32fma (f32fma (c 3) t (c 2)) t (c 1)) t (c 0))

/-- The rounding of element (r, j) (R117, R126). -/
def fusionRnd (d : Row) (seed r j : Nat) : Rnd :=
  if fRnd d = 0 then .even else if fRnd d = 1 then .zero
  else .stoch (rbits seed (fld d 117 32) (fld d 149 40 + r * fld d 189 24 + j))

/-- The range of an integer output (R97). -/
def intLo (o : Nat) : Int := if o = 0x0C then -128 else if o = 0x0D then 0 else -8
/-- Its upper bound. -/
def intHi (o : Nat) : Int := if o = 0x0C then 127 else if o = 0x0D then 255 else 7

/-- Convert to an integer output with the rows of R124. -/
def toIntOut (r : Rnd) (lo hi : Int) (v : FV) : Int :=
  match v with
  | .nan => 0
  | .inf n => if n then lo else hi
  | v => clampI lo hi (v.toInt r)

/-- The value of a WP64 output (R114, R116). -/
def wp64Out (a : Acc) : Nat :=
  match a.st with
  | .nan => 0x8000000000000000
  | .negInf => 0x8000000000000001
  | .posInf => 0x7FFFFFFFFFFFFFFF
  | .finite => wrapI 64 a.value

/-- The value of a WP32 output and whether it saturated (R115, R116). -/
def wp32Out (a : Acc) (eLsb eOut : Int) : Nat × Bool :=
  match a.st with
  | .nan => (0x80000000, false)
  | .negInf => (0x80000001, false)
  | .posInf => (0x7FFFFFFF, false)
  | .finite =>
    let v := shiftI a.value (eLsb - eOut)
    let b : Int := 2 ^ 31 - 2
    if v > b then (wrapI 32 b, true) else if v < -b then (wrapI 32 (-b), true) else (wrapI 32 v, false)

/-- What one accumulator row gives: its elements, its block-side entry, and whether a WP32 value
saturated (R120 to R129). -/
def drainRow (dr : DrainSt) (act : SMap Byte) (seed r : Nat) : List Nat × Nat × Bool :=
  let d := dr.desc
  let o := fOut d
  let accs := (List.range 32).map fun j => mget zA dr.accs (32 * r + j)
  if o = 0x14 then (accs.map wp64Out, 0, false)
  else if o = 0x15 then
    let l := accs.map fun a => wp32Out a dr.eLsb (fEOut d)
    (l.map (·.1), 0, l.any (·.2))
  else
    let xs := accs.zipIdx.map fun aj =>
      let v := accFp32 aj.1 dr.eLsb
      let v := if fScale d = 0 then v
        else if fScale d = 1 then f32mul v (fld d 85 32)
        else f32mul v (fld dr.scale (32 * (if fScale d = 2 then r else aj.2)) 32)
      let v := if fBias d = 0 then v
        else f32add v (fld dr.bias (32 * (if fBias d = 2 then r else aj.2)) 32)
      if fAct d then activate act (fTab d) v else v
    if o = 0x13 then
      let e := maxOpts (xs.map fun x => (fp32.decode x).expo)
      (xs, match e with | none => 0x8000 | some e => wrapI 16 e, false)
    else if mxInt o then
      (xs.zipIdx.map fun xj =>
        wrapI 8 (toIntOut (fusionRnd d seed r xj.2) (intLo o) (intHi o) (fp32.decode xj.1)), 0, false)
    else if mxMx o then
      let vs := xs.map fp32.decode
      let special := vs.any fun v => match v with | .fin _ _ _ => false | _ => true
      if special then (xs.map fun _ => 0, 0xFF, false)
      else
        let f := mxFmt o
        let x : Int :=
          match maxOpts (vs.map FV.expo) with
          | none => -127
          | some e => clampI (-127) 127 (e - f.maxExp)
        (vs.zipIdx.map fun vj =>
          f.convert (fusionRnd d seed r vj.2) true (vj.1.mul (.fin false 1 (-x))),
         (x + 127).toNat, false)
    else
      let f := mxFmt o
      let ys := xs.zipIdx.map fun xj => f.convert (fusionRnd d seed r xj.2) (fSat d) (fp32.decode xj.1)
      let e := maxOpts (ys.map fun y => (f.decode y).expo)
      (ys, match e with | none => 0x8000 | some e => wrapI 16 e, false)

/-- The output units of a drain: accumulator rows, two units a row for WP64 (R79). -/
def drainUnits (d : Row) : Nat := 32 * fQ d

/-- The rows and data that output unit `u` of a drain writes, its block-side writes among them, and
the drain after it (R79, R128, R129). -/
def drainUnit (dr : DrainSt) (act : SMap Byte) (seed : Nat) : List (Nat × Row) × DrainSt × Bool :=
  let d := dr.desc
  let q := fQ d
  let u := dr.next
  let r := u / q
  let (els, entry, ovf) := drainRow dr act seed r
  let n := outRows (fOut d)
  let all := splitRows n (packElems (outWidth (fOut d)) els)
  let first := u % q = 0
  let rows := if q = 2 then (if first then all.take 4 else all.drop 4) else all
  let base := fAddrOut d + r * n + (if first then 0 else 4)
  let be := if first && fBso d && q = 1 then dr.bsoEntries ||| (BitVec.ofNat 512 (entry * 2 ^ (16 * r)))
    else dr.bsoEntries
  let extra : List (Nat × Row) :=
    if !fBso d || !first then []
    else if q = 2 then (if r = 0 then [(fAddrBso d, BitVec.ofNat 256 (wrapI 16 dr.eLsb))] else [])
    else if r = 15 then [(fAddrBso d, be.extractLsb' 0 256)]
    else if r = 31 then [(fAddrBso d + 1, be.extractLsb' 256 256)] else []
  (rows.zipIdx.map (fun x => (base + x.2, x.1)) ++ extra, { dr with next := u + 1, bsoEntries := be }, ovf)

/-- The rows that a drain writes in its output unit `u` (R79, R128): the rows alone. -/
def drainUnitRows (d : Row) (u : Nat) : List Nat :=
  let q := fQ d
  let r := u / q
  let n := outRows (fOut d)
  let first := u % q == 0
  let base := fAddrOut d + r * n + (if first then 0 else 4)
  let extra :=
    if !fBso d || !first then []
    else if q = 2 then (if r = 0 then [fAddrBso d] else [])
    else if r = 15 then [fAddrBso d] else if r = 31 then [fAddrBso d + 1] else []
  rowsFrom base (if q = 2 then 4 else n) ++ extra

end Sys2Proof.Machine
end

