-- ==== Sys2Proof/Machine/Flags.lean ====
section
/-! DEFINITION. The flags: VSTAT (R144), parity of flags and scalar registers (R517), the 64 core
flags (R181, R182, R184), and reads and writes of scalar, vector and mask registers (R130, R167). -/

namespace Sys2Proof.Machine

open Sys2Proof

/-- VSTAT.SAT (R144). -/
def vSat : BitVec 3 := 1
/-- VSTAT.DIVZ. -/
def vDivz : BitVec 3 := 2
/-- VSTAT.INV. -/
def vInv : BitVec 3 := 4

/-- A scalar register; S0 reads as zero (R167). -/
def CoreSt.s (c : CoreSt) (r : Nat) : W32 := if r = 0 then 0 else mget zW c.sreg r
/-- Whether reading a scalar register consumes a parity error (R517). -/
def CoreSt.sBad (c : CoreSt) (r : Nat) : Bool := r != 0 && mget zF c.sPar r

/-- Write a scalar register in the issue cycle with the rank of its slot: a write of a later-ranked
slot in this cycle stands, and the write clears a parity mark (R167, R168, R517). -/
def CoreSt.setS (c : CoreSt) (r rank : Nat) (v : W32) : CoreSt :=
  if r = 0 || c.sranks.any (fun x => x.1 == r && decide (rank < x.2)) then c
  else { c with sreg := mset zW c.sreg r v, sPar := mset zF c.sPar r false,
                sranks := (r, rank) :: c.sranks }

/-- A load's write of a scalar register at the end of cycle c + 6: a write issued in this cycle stands
before it (R167, R168). -/
def CoreSt.loadS (c : CoreSt) (r : Nat) (v : W32) : CoreSt :=
  if r = 0 || c.sranks.any (fun x => x.1 == r) then c
  else { c with sreg := mset zW c.sreg r v, sPar := mset zF c.sPar r false }

/-- A flag. -/
def CoreSt.f (c : CoreSt) (i : Nat) : W32 := mget zW c.flags i
/-- Whether reading a flag consumes a parity error (R517). -/
def CoreSt.fBad (c : CoreSt) (i : Nat) : Bool := mget zF c.fPar i
/-- Add to a flag modulo 2^32; a poisoned flag stays poisoned (R181, R517). -/
def CoreSt.addF (c : CoreSt) (i : Nat) (v : W32) : CoreSt :=
  { c with flags := mset zW c.flags i (c.f i + v) }
/-- Set a flag to a value (R182); it clears a parity mark (R517). -/
def CoreSt.putF (c : CoreSt) (i : Nat) (v : W32) : CoreSt :=
  { c with flags := mset zW c.flags i v, fPar := mset zF c.fPar i false }

/-- A vector register (R130). -/
def CoreSt.v (c : CoreSt) (r : Nat) : VReg := mget zV c.vreg r
/-- A mask register; M0 reads as all ones (R130). -/
def CoreSt.m (c : CoreSt) (r : Nat) : W64 := if r = 0 then BitVec.allOnes 64 else mget zM c.mask r
/-- Merge into a vector register. -/
def CoreSt.mergeV (c : CoreSt) (r : Nat) (d lanes : VReg) : CoreSt :=
  { c with vreg := mset zV c.vreg r (mergeBits (c.v r) d lanes) }
/-- Merge into a mask register; writes to M0 are ignored (R130). -/
def CoreSt.mergeM (c : CoreSt) (r : Nat) (d lanes : W64) : CoreSt :=
  if r = 0 then c else { c with mask := mset zM c.mask r (mergeBits (mget zM c.mask r) d lanes) }

/-- Raise sticky flags in this cycle (R144). -/
def CoreSt.raise (c : CoreSt) (x : BitVec 3) : CoreSt :=
  { c with vstat := c.vstat ||| x, vraise := c.vraise ||| x }
/-- STAT with IMM[0] = 1: clear every flag that is not raised in this cycle (R144). -/
def CoreSt.clearStat (c : CoreSt) : CoreSt := { c with vstat := c.vraise }

end Sys2Proof.Machine
end

