-- ==== Sys2Proof/Machine/Operands.lean ====
section
/-! DEFINITION. The slots of a bundle (R165) and their encoding checks (R19, R70 to R72, R133, R134,
R136, R169, R170, R178, R182, R191, R192), for the fetched bundle and for each slot command. -/

namespace Sys2Proof.Machine

open Sys2Proof

/-! ### The VX slot -/

/-- How an operation uses IMM as operand B (R134). -/
inductive ImbKind where
  | none
  | signed
  | zero
  | float
  deriving DecidableEq, Repr

/-- What R136 and R134 say of a VX operation: its widths, latency, whether it may run in a lane
program, which registers it uses, whether MD may be set, and the use of IMM. -/
structure VxInfo where
  w32 : Bool
  w16 : Bool
  w8 : Bool
  lat : Nat
  run : Bool
  a : Bool
  b : Bool
  c : Bool
  d : Bool
  imb : ImbKind
  deriving DecidableEq, Repr

/-- The operations of R136 in compute form; reserved codes and the address forms have none. -/
def vxInfo (op : Nat) : Option VxInfo :=
  let arith (lat : Nat) (k : ImbKind) : VxInfo := ⟨true, true, true, lat, true, true, true, false, true, k⟩
  let flt (c : Bool) : VxInfo := ⟨true, true, false, 4, true, true, true, c, true, .float⟩
  if op = 0x00 then some ⟨true, true, true, 0, true, false, false, false, false, .none⟩
  else if op = 0x03 || op = 0x06 then some (arith 3 .signed)
  else if op = 0x07 || op = 0x08 then some (arith 12 .signed)
  else if op ≤ 0x0C then some (arith 2 .signed)
  else if op ≤ 0x13 then some (arith 2 .zero)
  else if op ≤ 0x17 then some (arith 2 .signed)
  else if op = 0x18 then some ⟨true, true, true, 2, true, true, true, true, true, .zero⟩
  else if op = 0x19 then some ⟨true, true, true, 2, true, false, true, false, true, .signed⟩
  else if op = 0x1A then some ⟨true, false, false, 2, true, false, false, false, true, .none⟩
  else if op = 0x1B then some ⟨true, false, false, 2, true, true, false, false, false, .none⟩
  else if op = 0x1C then some ⟨true, false, false, 2, true, false, false, false, true, .none⟩
  else if op < 0x20 then none
  else if op ≤ 0x28 then some (flt (op == 0x23))
  else if op ≤ 0x2C then some ⟨true, true, false, 12, true, true, false, false, true, .none⟩
  else if op = 0x30 || op = 0x31 then some ⟨true, false, false, 4, true, true, false, false, true, .none⟩
  else if 0x38 ≤ op && op ≤ 0x3A then some ⟨true, true, true, 8, false, true, false, false, true, .none⟩
  else if 0x3B ≤ op && op ≤ 0x3D then some ⟨true, false, false, 8, false, true, false, false, true, .none⟩
  else if op = 0x3E then some ⟨true, false, false, 2, false, false, false, false, true, .none⟩
  else none

/-- The lane width that an LW code names (R133); 0 for the reserved code. -/
def lwBits (c : Nat) : Nat := if c = 0 then 32 else if c = 1 then 16 else if c = 2 then 8 else 0

/-- Whether an operation allows a lane width. -/
def VxInfo.width (i : VxInfo) (lw : Nat) : Bool :=
  if lw = 32 then i.w32 else if lw = 16 then i.w16 else if lw = 8 then i.w8 else false

/-- The compares, which may write a mask at width 32 (R138). -/
def vxCompare (op : Nat) : Bool :=
  (decide (0x14 ≤ op) && decide (op ≤ 0x17)) || (decide (0x26 ≤ op) && decide (op ≤ 0x28))

/-- The IMM constraint of an operation with IMB = 0 (R134, R141, R142, R144). -/
def vxImmOk (op imm : Nat) : Bool :=
  if op = 0x1A then true
  else if op = 0x30 then
    decide (imm < 64) && decide (imm % 16 ≤ 0xB) &&
      (imm / 32 % 2 == 0 || imm % 16 == 2 || imm % 16 == 3)
  else if op = 0x31 then imm / 32 % 8 == 0 && decide (imm < 1024)
  else if op = 0x3E then decide (imm ≤ 1)
  else imm == 0

/-- Whether a compute-form operation at lane width `lw` obeys R133, R134, R136 and R138. -/
def vxEncOk (op lw : Nat) (f : VxSlot) : Bool :=
  match vxInfo op with
  | none => false
  | some i =>
    let imm := f.imm.toNat
    let immB := f.imb
    i.width lw && !f.rsv && (i.d || f.vd == 0) && (i.a || f.va == 0) &&
      ((i.b && !immB) || f.vb == 0) && (i.c || f.vc == 0) &&
      (f.md == 0 || op == 0x1B || op == 0x1C || (vxCompare op && lw == 32)) &&
      (if immB then
        (match i.imb with
         | .none => false
         | .float => true
         | _ => lw != 8 || decide (imm < 256))
       else vxImmOk op imm)

/-- Operand B from IMM at a lane width (R134). -/
def immOperand (k : ImbKind) (lw imm : Nat) : Nat :=
  match k with
  | .none => 0
  | .zero => imm
  | .signed => if lw = 8 then imm % 256 else wrapI lw (sgn 16 imm)
  | .float => if lw = 32 then imm * 65536 else imm

/-- The compute form from its 48 bits (R133). -/
def vxSlotOf (x : Nat) : VxSlot :=
  let w : BitVec 48 := BitVec.ofNat 48 x
  { lw := w.extractLsb' 40 2, msk := w.extractLsb' 37 3, vd := w.extractLsb' 33 4, va := w.extractLsb' 29 4,
    vb := w.extractLsb' 25 4, vc := w.extractLsb' 21 4, md := w.extractLsb' 18 3, imb := w.getLsbD 17,
    rsv := w.getLsbD 16, imm := w.extractLsb' 0 16 }

/-- The encoding check of a VX slot (R133, R134, R136). -/
def vxBundleOk (x : Nat) : Bool :=
  let op := x / 2 ^ 42
  if op = 0x2E then fld (BitVec.ofNat 48 x) 12 28 == 0
  else if op = 0x2F then fld (BitVec.ofNat 48 x) 12 30 == 0
  else
    let f := vxSlotOf x
    vxEncOk op (lwBits f.lw.toNat) f

/-! ### The MX slot -/

/-- The encoding check of an MX slot (R70 to R72). -/
def mxBundleOk (x : Nat) : Bool :=
  let w : BitVec 32 := BitVec.ofNat 32 x
  let op := fld w 28 4
  if op = 0 then x == 0
  else if op = 1 then fld w 12 12 == 0
  else if op = 2 then fld w 19 5 == 0 && fld w 0 15 == 0
  else if op = 3 then fld w 0 28 == 0
  else if op = 4 then fld w 0 11 == 0
  else if op = 5 then fld w 0 23 == 0
  else false

/-! ### The SEQ slot -/

/-- Whether a POST names a receiver by R336. -/
def postImmOk (imm : Nat) : Bool :=
  let k := imm / 2 ^ 14
  (k == 2 && imm / 2 ^ 13 % 2 == 0) || (k == 1 && imm % 2 ^ 14 == 0)

/-- Which fields a SEQ operation uses: SD, SA, SB, TGT, IMM (R170); none for a reserved code. -/
def seqUses (op : Nat) : Option (Bool × Bool × Bool × Bool × Bool) :=
  if op = 0x00 || op = 0x1F then some (false, false, false, false, false)
  else if op = 0x01 || op = 0x18 || op = 0x1A then some (true, false, false, false, true)
  else if op = 0x02 || op = 0x05 || (0x0A ≤ op && op ≤ 0x0C) then some (true, true, false, false, true)
  else if op = 0x03 || op = 0x04 || (0x06 ≤ op && op ≤ 0x09) || op = 0x0D || op = 0x0E then
    some (true, true, true, false, false)
  else if op = 0x10 then some (false, false, false, true, false)
  else if 0x11 ≤ op && op ≤ 0x14 then some (false, true, false, true, false)
  else if op = 0x15 then some (false, false, false, true, true)
  else if op = 0x19 then some (true, true, true, false, true)
  else if op = 0x1B then some (false, true, false, false, true)
  else none

/-- The encoding check of a SEQ operation (R169, R170, R173, R174, R336). -/
def seqEncOk (op : Nat) (f : SeqSlot) : Bool :=
  match seqUses op with
  | none => false
  | some (d, a, b, t, i) =>
    let imm := f.imm.toNat
    f.rsv == 0 && (d || f.sd == 0) && (a || f.sa == 0) && (b || f.sb == 0) && (t || f.tgt == 0) &&
      (i || f.imm == 0) &&
      (if 0x0A ≤ op && op ≤ 0x0C then decide (imm < 32)
       else if op = 0x18 then decide (imm ≤ 0xA)
       else if op = 0x1A then decide (imm < 4) && (f.sd == 4 || f.sd == 8 || f.sd == 12)
       else if op = 0x1B then decide (imm < 4)
       else if op = 0x19 then postImmOk imm
       else true)

/-- The SEQ slot from its 48 bits (R169). -/
def seqSlotOf (x : Nat) : SeqSlot :=
  let w : BitVec 48 := BitVec.ofNat 48 x
  { sd := w.extractLsb' 38 4, sa := w.extractLsb' 34 4, sb := w.extractLsb' 30 4, rsv := w.extractLsb' 27 3,
    tgt := w.extractLsb' 16 11, imm := w.extractLsb' 0 16 }

/-! ### The LS slots -/

/-- Rows moved by a CNT code (R191). -/
def cntRows (c : Nat) : Nat := 2 ^ c

/-- The encoding check of an LS operation (R191, R192). PART and the row count must not exceed 8. -/
def lsEncOk (op : Nat) (f : LsSlot) : Bool :=
  if op = 0 then f.reg == 0 && f.cnt == 0 && f.part == 0 && f.wsel == 0 && f.sa == 0 && f.rsv == 0 && f.addr == 0
  else if op = 1 || op = 2 then
    f.wsel == 0 && f.rsv == 0 && decide (f.part.toNat + cntRows f.cnt.toNat ≤ 8)
  else if op = 3 || op = 4 then f.cnt == 0 && f.part == 0 && f.rsv == 0
  else if op = 5 || op = 6 then
    f.cnt == 0 && f.part == 0 && f.rsv == 0 && !f.wsel.getLsbD 2 && !f.reg.getLsbD 3
  else false

/-- An LS slot from its 40 bits (R191). -/
def lsSlotOf (port1 : Bool) (x : Nat) : LsSlot :=
  let w : BitVec 40 := BitVec.ofNat 40 x
  { port1 := port1, reg := w.extractLsb' 32 4, cnt := w.extractLsb' 30 2, part := w.extractLsb' 27 3,
    wsel := w.extractLsb' 24 3, sa := w.extractLsb' 20 4, rsv := w.extractLsb' 12 8, addr := w.extractLsb' 0 12 }

/-! ### The CP and FL slots -/

/-- The encoding check of a CP operation (R178). -/
def cpEncOk (op : Nat) (f : CpSlot) : Bool :=
  if op = 0 then f.eng == 0 && f.rsv == 0 && f.addr == 0
  else if op = 1 then f.rsv == 0
  else if op = 2 then f.eng == 0 && f.rsv == 0
  else false

/-- The encoding check of an FL operation (R182). FL.SIG's zero increment is R185's own cause. -/
def flEncOk (op : Nat) (f : FlSlot) : Bool :=
  if op = 0 then f.flag == 0 && f.imm == 0
  else if op = 3 || op = 7 then decide (f.imm.toNat < 16)
  else decide (op ≤ 7)

/-! ### The word of a slot -/

/-- The MX slot, pass form (R70). -/
def mxSlotWord (op : Nat) (f : MxSlot) : Nat :=
  (BitVec.ofNat 4 op ++ f.desc ++ BitVec.ofBool f.bank ++ BitVec.ofBool f.clr ++ BitVec.ofBool f.neg ++
    BitVec.ofBool f.dual ++ BitVec.ofBool f.neg2 ++ f.sa ++ f.sb ++ f.rsv : BitVec 32).toNat
/-- The MX slot, address form (R70). -/
def mxAddrWord (op : Nat) (f : MxAddr) : Nat :=
  (BitVec.ofNat 4 op ++ f.desc ++ f.rsv ++ f.addr : BitVec 32).toNat
/-- The VX slot, compute form (R133). -/
def vxWord (op : Nat) (f : VxSlot) : Nat :=
  (BitVec.ofNat 6 op ++ f.lw ++ f.msk ++ f.vd ++ f.va ++ f.vb ++ f.vc ++ f.md ++ BitVec.ofBool f.imb ++
    BitVec.ofBool f.rsv ++ f.imm : BitVec 48).toNat
/-- The VX slot, address form (R133). -/
def vxAddrWord (op : Nat) (f : VxAddr) : Nat :=
  (BitVec.ofNat 6 op ++ f.p ++ f.rsv ++ f.addr : BitVec 48).toNat
/-- The SEQ slot (R169). -/
def seqWord (op : Nat) (f : SeqSlot) : Nat :=
  (BitVec.ofNat 6 op ++ f.sd ++ f.sa ++ f.sb ++ f.rsv ++ f.tgt ++ f.imm : BitVec 48).toNat
/-- An LS slot (R191). -/
def lsWord (op : Nat) (f : LsSlot) : Nat :=
  (BitVec.ofNat 4 op ++ f.reg ++ f.cnt ++ f.part ++ f.wsel ++ f.sa ++ f.rsv ++ f.addr : BitVec 40).toNat
/-- The CP slot (R178). -/
def cpWord (op : Nat) (f : CpSlot) : Nat := (BitVec.ofNat 4 op ++ f.eng ++ f.rsv ++ f.addr : BitVec 24).toNat
/-- The FL slot (R181). -/
def flWord (op : Nat) (f : FlSlot) : Nat := (BitVec.ofNat 4 op ++ f.flag ++ f.imm : BitVec 24).toNat

/-- The slots of a bundle that break their encoding, in slot order: each with its code of R202. -/
def badSlots (b : Row) : List Nat :=
  (if mxBundleOk (fld b 0 32) then [] else [0]) ++
  (if vxBundleOk (fld b 32 48) then [] else [1]) ++
  (if seqEncOk (fld b 122 6) (seqSlotOf (fld b 80 42)) then [] else [2]) ++
  (if lsEncOk (fld b 164 4) (lsSlotOf false (fld b 128 36)) then [] else [3]) ++
  (if lsEncOk (fld b 204 4) (lsSlotOf true (fld b 168 36)) then [] else [4]) ++
  (if cpEncOk (fld b 228 4) ⟨b.extractLsb' 226 2, b.extractLsb' 220 6, b.extractLsb' 208 12⟩ then [] else [5]) ++
  (if flEncOk (fld b 252 4) ⟨b.extractLsb' 246 6, b.extractLsb' 232 14⟩ then [] else [6])

end Sys2Proof.Machine
end

