-- ==== Sys2Proof/Machine/Mx.lean ====
section
/-! DEFINITION. The commands of the MX slot and of the array: issue and checks (R70 to R80), the
steps of passes, loads, swaps and drains (R76 to R79), and overflow replay (R86, R87). -/

namespace Sys2Proof.Machine

open Sys2Proof

/-! ### Continuing operations -/

/-- Read the next step of a pass in the present cycle (R67, R69, R76). -/
def CoreSt.passRead (c : CoreSt) (p : PassSt) : CoreSt × PassSt × Bool :=
  let d := p.desc
  let t := p.next
  let fa := dFmtA d
  let fb := dFmtB d
  let offA := sliceOff fa (dSlsA d) p.sa
  let offB := sliceOff fb (dSlsB d) p.sb
  let os := dMode d == 0
  let (c, a, e1) := c.readRows p.bpc 0 (if os then stepRows fa (dAddrA d) offA t else [])
  let (c, b, e2) := c.readRows p.bpc 0 (stepRows fb (dAddrB d) offB t)
  let (c, ea, e3) := c.readRows p.bpc 0 (if os then osBsvRows fa (dBsvA d) offA t else [])
  let (c, eb, e4) := c.readRows p.bpc 0
    (if os then osBsvRows fb (dBsvB d) offB t else wsBsvRows fb (dBsvB d) offB t)
  let eaW := if ea.isEmpty then p.ea else catRows 512 ea
  let ebW := if eb.isEmpty then p.eb else catRows 512 eb
  let st : StepSt := { read := c.now, t := t, a := catRows 1024 a, b := catRows 1024 b, ea := eaW, eb := ebW, plane := none }
  (c, { p with next := t + 1, ea := eaW, eb := ebW, steps := p.steps ++ [st] }, e1 || e2 || e3 || e4)

/-- Read the next rows of a plane load in the present cycle (R77). -/
def CoreSt.loadRead (c : CoreSt) (l : MxLoadSt) : CoreSt × MxLoadSt × Bool :=
  let (c, img, e1) := c.readRows l.bpc 0 l.rows.1
  let (c, blk, e2) := c.readRows l.bpc 0 l.rows.2
  (c, l.take img blk, e1 || e2)

/-- Read a drain's scale vector in its cycle d and its bias vector in the next (R119). -/
def CoreSt.drainRead (c : CoreSt) (dr : DrainSt) : CoreSt × DrainSt × Bool :=
  let d := dr.desc
  if c.now = dr.start && decide (2 ≤ fScale d) then
    let (c, r, e) := c.readRows dr.bpc 0 (rowsFrom (fAddrScale d) 4)
    (c, { dr with scale := catRows 1024 r }, e)
  else if c.now = dr.start + 1 && decide (2 ≤ fBias d) then
    let (c, r, e) := c.readRows dr.bpc 0 (rowsFrom (fAddrBias d) 4)
    (c, { dr with bias := catRows 1024 r }, e)
  else (c, dr, false)

/-- Use banks for writes of rows in the present cycle. -/
def CoreSt.useWrites (c : CoreSt) : List Nat → CoreSt × Bool
  | [] => (c, false)
  | r :: rs =>
    let (c, e) := c.useBank c.now (bankOf r) true
    let (c, e') := CoreSt.useWrites c rs
    (c, e || e')

/-- The bank uses and reads that passes, loads and drains make in a new core cycle, and the bank
conflicts they raise (R76, R77, R79, R82). -/
def CoreSt.mxCycle (c : CoreSt) : CoreSt × List Cause :=
  let (c, loads, k1) := c.mx.loads.foldl
    (fun (acc : CoreSt × List MxLoadSt × List Cause) l =>
      let (c, ls, ks) := acc
      if l.next < l.cycles then
        let (c, l', e) := c.loadRead l
        (c, ls ++ [l'], if e then ks ++ [⟨0x07, l.bpc, 0⟩] else ks)
      else (c, ls ++ [l], ks))
    (c, [], [])
  let (c, passes, k2) := c.mx.passes.foldl
    (fun (acc : CoreSt × List PassSt × List Cause) p =>
      let (c, ps, ks) := acc
      if p.next ≤ dLen p.desc then
        let (c, p', e) := c.passRead p
        (c, ps ++ [p'], if e then ks ++ [⟨0x07, p.bpc, 0⟩] else ks)
      else (c, ps ++ [p], ks))
    (c, [], [])
  let (c, drains, k3) := c.mx.drains.foldl
    (fun (acc : CoreSt × List DrainSt × List Cause) dr =>
      let (c, ds, ks) := acc
      let (c, dr', e) := c.drainRead dr
      let (c, e') := if c.now = dr.start + 12 + dr.next then c.useWrites (drainUnitRows dr.desc dr.next)
        else (c, false)
      (c, ds ++ [dr'], if e || e' then ks ++ [⟨0x07, dr.bpc, 0⟩] else ks))
    (c, [], [])
  ({ c with mx := { c.mx with loads := loads, passes := passes, drains := drains } }, k1 ++ k2 ++ k3)

/-! ### Events of the array -/

/-- The bank that a bit names. -/
def Mxe.bankOf (m : Mxe) (b : Bool) : Bank := if b then m.bank1 else m.bank0
/-- Store the bank that a bit names. -/
def Mxe.setBank (m : Mxe) (b : Bool) (x : Bank) : Mxe :=
  if b then { m with bank1 := x } else { m with bank0 := x }

/-- The first accumulate of a pass in a bank: clear it for a new tile, and meet its window (R101, R107). -/
def Bank.enter (b : Bank) (clr : Bool) (req : Option Int) : Bank := (if clr then b.clear else b).meet req

/-- The plane on which a step that has not multiplied will, as far as the swaps under way tell (R78). -/
def Mxe.planeFor (m : Mxe) (read : Nat) : Plane :=
  if (m.swaps.filter fun x => decide (x ≤ read)).length % 2 = 0 then m.active else m.shadow

/-- A step reaches the multiply stage in cycle read + 7: a WS or IS step takes the plane that is active then (R76,
R78). -/
def StepSt.multiply (m : Mxe) (now : Nat) (st : StepSt) : StepSt :=
  if st.plane.isNone && decide (st.read + 7 ≤ now) then { st with plane := some m.active } else st

/-- The steps that are due multiply. -/
def CoreSt.multiplyDue (c : CoreSt) : CoreSt :=
  let go (p : PassSt) : PassSt :=
    if dMode p.desc = 0 then p else { p with steps := p.steps.map (StepSt.multiply c.mx c.now) }
  { c with mx := { c.mx with passes := c.mx.passes.map go } }

/-- The pass exponent of a pass as far as it is known when step `st` is added (R105): each vector on the plane on which
it has multiplied, or else on the one on which it is to. `rd` reads the entries of vectors not read yet. -/
def CoreSt.reqNow (c : CoreSt) (p : PassSt) (st : StepSt) (rd : Nat → Row) : Option Int :=
  let d := p.desc
  if dMode d = 0 then (if st.t = 0 then passReq rd d p.sa p.sb fun _ => Plane.zero else p.req)
  else
    let kp := mxKp (dFmtB d)
    let known := p.done ++ st :: p.steps
    maxOpts ((List.range (dLen d + 1)).map fun t =>
      match known.find? fun x => x.t == t with
      | some x =>
        vecReq d p.sa p.sb (x.plane.getD (c.mx.planeFor x.read))
          ((List.range kp).map fun k => fld x.eb (16 * ((t * kp + k) % 16)) 16)
      | none => vecReq d p.sa p.sb (c.mx.planeFor (p.issued + t)) (vecEntries rd d p.sb t))

/-- Add one step of a pass into a bank. -/
def Bank.addStep (b : Bank) (p : PassSt) (neg : Bool) (st : StepSt) : Bank :=
  b.addAll neg (stepProducts p.desc p.sa p.sb st (st.plane.getD Plane.zero))

/-- Accumulate one step of a pass (R61, R76, R103). Its banks meet the pass exponent before its first addition (R107);
where a swap inside the pass shows that the pass exponent is another one, the additions made are those of that exponent
(R63, R105, R113). -/
def CoreSt.accumulate (c : CoreSt) (p : PassSt) (st : StepSt) : Mxe × PassSt :=
  let m := c.mx
  let st := { st with plane := some (st.plane.getD (m.planeFor st.read)) }
  let req := c.reqNow p st fun row => (c.viewRow c.now row).1
  let p := if st.t = 0 then { p with pre0 := m.bank0, pre1 := m.bank1, done := [] } else p
  let same := decide (st.t ≠ 0) && req == p.req
  let into (m : Mxe) (bk neg : Bool) : Mxe :=
    m.setBank bk (
      if same then (m.bankOf bk).addStep p neg st
      else
        let b := if bk then p.pre1 else p.pre0
        let b := { b with log := (m.bankOf bk).log, isOpen := (m.bankOf bk).isOpen, kind := (m.bankOf bk).kind }
        (p.done ++ [st]).foldl (fun b x => b.addStep p neg x) (b.enter p.clr req))
  let m := into m p.bank p.neg
  let m := if p.dual then into m (!p.bank) p.neg2 else m
  (m, { p with done := p.done ++ [st], req := req })

/-- The first step that is due: the passes before its pass, the pass without the step, the step, and the passes
after. -/
def dueStep (now : Nat) : List PassSt → Option (List PassSt × PassSt × StepSt × List PassSt)
  | [] => none
  | p :: ps =>
    match p.steps with
    | st :: rest =>
      if st.read + 10 ≤ now then some ([], { p with steps := rest }, st, ps)
      else (dueStep now ps).map fun r => (p :: r.1, r.2)
    | [] => (dueStep now ps).map fun r => (p :: r.1, r.2)

/-- Accumulate the first step that is due, if any. -/
def CoreSt.accumulateDue (c : CoreSt) : CoreSt :=
  match dueStep c.now c.mx.passes with
  | none => c
  | some (ahead, p, st, behind) =>
    let (m, p) := c.accumulate p st
    let keep := if p.next > dLen p.desc && p.steps.isEmpty then [] else [p]
    { c with mx := { m with passes := ahead ++ keep ++ behind } }

/-- Accumulate every step that is due: at most one a pass. -/
def CoreSt.accumulateAll (c : CoreSt) : CoreSt :=
  (List.range (c.mx.passes.length)).foldl (fun c _ => c.accumulateDue) c

/-- The first swap that is due takes effect (R78). -/
def CoreSt.swapDue (c : CoreSt) : CoreSt :=
  match c.mx.swaps.find? fun x => decide (x + 7 ≤ c.now) with
  | none => c
  | some x =>
    { c with mx := { c.mx with active := c.mx.shadow, shadow := c.mx.active, swaps := c.mx.swaps.erase x } }

/-- The cells that a load writes in the present cycle: two cell rows, or one of a 32-cycle load, from cycle c + 6 on
(R77). -/
def MxLoadSt.cellsNow (l : MxLoadSt) (now : Nat) : List Nat :=
  let per := if l.cycles = 32 then 32 else 64
  if l.issued + 6 ≤ now && decide (now - l.issued - 6 < l.cycles) then
    (List.range per).map (per * (now - l.issued - 6) + ·)
  else []

/-- The loads in flight write the cell rows of the present cycle into the shadow plane (R77). -/
def CoreSt.shadowRows (c : CoreSt) : CoreSt :=
  let z : Nat → BitVec 16 := fun _ => 0
  let cells := c.mx.loads.foldl
    (fun m l => (l.cellsNow c.now).foldl (fun m i => mset z m i (mget z l.plane.cells i)) m) c.mx.shadow.cells
  { c with mx := { c.mx with shadow := { c.mx.shadow with cells := cells } } }

/-- The first load that is due completes the shadow plane, its block entries and its tag with it (R77). -/
def CoreSt.shadowDue (c : CoreSt) : CoreSt :=
  match c.mx.loads.find? fun l => decide (l.issued + l.cycles + 5 ≤ c.now) with
  | none => c
  | some l => { c with mx := { c.mx with shadow := l.plane, loads := c.mx.loads.filter (· != l) } }

/-- Put a write into the pipeline whose bank use is known already. -/
def CoreSt.pushWrite (c : CoreSt) (rd : Nat × Row) : CoreSt :=
  { c with writes := insertWrite ⟨c.now, rd.1, true, rd.2, 0, false⟩ c.writes }

/-- The first drain whose output unit is due issues its writes (R79, R119). -/
def CoreSt.drainDue (c : CoreSt) (seed : Nat) : CoreSt :=
  match c.mx.drains.find? fun dr => decide (dr.start + 12 + dr.next ≤ c.now) with
  | none => c
  | some dr =>
    let (ws, dr', ovf) := drainUnit dr c.act seed
    let c := ws.foldl CoreSt.pushWrite c
    let ds := (c.mx.drains.map fun x => if x == dr then dr' else x).filter fun x =>
      decide (x.next < drainUnits x.desc)
    { c with mx := { c.mx with drains := ds }, ovf := c.ovf || ovf }

/-- Descriptors that have arrived fill their entries at the end of cycle c + 6 (R73). -/
def CoreSt.dloadDue (c : CoreSt) : CoreSt :=
  let due := c.mx.dpend.filter fun x => decide (x.1 + 6 ≤ c.now)
  { c with mx := { c.mx with desc := due.foldl (fun m x => mset zR m x.2.1 x.2.2) c.mx.desc,
                             dpend := c.mx.dpend.filter fun x => !decide (x.1 + 6 ≤ c.now) } }

/-- Everything of the array that is due by the end of the present cycle. -/
def CoreSt.mxSettle (c : CoreSt) (seed : Nat) : CoreSt :=
  let c := (c.swapDue.multiplyDue.accumulateAll).shadowRows.shadowDue.dloadDue
  (List.range c.mx.drains.length).foldl (fun c _ => c.drainDue seed) c

/-! ### Slot operations -/

/-- Whether all pass-form fields from `bank` on are zero (R72). -/
def mxPassZero (f : MxSlot) : Bool :=
  !f.bank && !f.clr && !f.neg && !f.dual && !f.neg2 && f.sb == 0 && f.rsv == 0

/-- MX.NOP: no effect (R71). -/
def execMxNop (c : CoreId) (f : MxSlot) (s : State) : Host.Outcome State Fault Refusal :=
  .next (s.slotOp c 0 (mxSlotWord 0 f) (mxPassZero f && f.desc == 0 && f.sa == 0) fun _ cur => ([], cur))

/-- MX.DLOAD: one row into a descriptor-table entry, for operations from cycle c + 7 on (R73). -/
def execMxDload (c : CoreId) (f : MxAddr) (s : State) : Host.Outcome State Fault Refusal :=
  .next (s.slotOp c 0 (mxAddrWord 1 f) (f.rsv == 0) fun _ cur =>
    let (cur, d, bad) := cur.readRow cur.bpc 0 0 f.addr.toNat .none
    if bad then ([0x07], cur)
    else ([], { cur with mx := { cur.mx with dpend := cur.mx.dpend ++ [(cur.now, f.desc.toNat, d)] } }))

/-- MX.LOAD: checks its descriptor and starts filling the shadow plane (R74, R75, R77, R80, R596). -/
def execMxLoad (c : CoreId) (f : MxSlot) (s : State) : Host.Outcome State Fault Refusal :=
  .next (s.slotOp c 0 (mxSlotWord 2 f) (mxPassZero f) fun beg cur =>
    let n := cur.now
    let d := mget zR beg.mx.desc f.desc.toNat
    let sa := f.sa.toNat
    let late :=
      (match beg.mx.lastLoad with | some (c0, t) => decide (n < c0 + t) | none => false) ||
      (match beg.mx.lastSwap with | some c0 => decide (n < c0 + 2) | none => false)
    let ok := dLoadOk d sa
    let causes := (if ok then [] else [0x02]) ++ (if late then [0x03] else []) ++
      (if ok && decide (4095 < loadTop d) then [0x06] else [])
    if !causes.isEmpty then (causes, cur)
    else
      let (cur, l, bad) := cur.loadRead (loadStart d sa n cur.bpc)
      if bad then ([0x07], cur)
      else ([], { cur with mx := { cur.mx with loads := cur.mx.loads ++ [l], lastLoad := some (n, l.cycles),
                                               shTag := l.plane.tag } }))

/-- Whether a plane is compatible with a pass (R63). -/
def compatible (t : PlaneTag) (d : Row) (sa : Nat) : Bool :=
  t.mode == dMode d && t.fmt == dFmtA d && t.sa == sa

/-- MX.SWAP: exchanges the planes at the multiply stage of cycle c + 7, if every WS or IS pass with
steps left is compatible with the plane it makes active (R63, R78, R80). -/
def execMxSwap (c : CoreId) (f : MxSlot) (s : State) : Host.Outcome State Fault Refusal :=
  .next (s.slotOp c 0 (mxSlotWord 3 f) (mxPassZero f && f.desc == 0 && f.sa == 0) fun beg cur =>
    let n := cur.now
    let tag := beg.mx.shTag
    let late := match beg.mx.lastLoad with | some (c0, t) => decide (n < c0 + t) | none => false
    -- a pass whose reads of this cycle are on the new plane too
    let going (p : PassSt) : Bool := dMode p.desc != 0 && decide (n ≤ p.issued + dLen p.desc)
    let bad := cur.mx.passes.any fun p => going p && !compatible tag p.desc p.sa
    let causes := (if bad then [0x02] else []) ++ (if late then [0x03] else [])
    let relog (l : PassLog) (p : PassSt) : PassLog :=
      if l.desc == p.desc && l.sa == p.sa && l.sb == p.sb then
        { l with planes := l.planes ++ [(n - p.issued, tag)] } else l
    let upd (b : Bank) (on : Bool) : Bank :=
      (cur.mx.passes.filter going).foldl
        (fun b p =>
          if p.bank == on || p.dual then
            { b with log := match b.log.reverse with
                            | [] => []
                            | l :: rest => (relog l p :: rest).reverse }
          else b) b
    if !causes.isEmpty then (causes, cur)
    else
      ([], { cur with mx := { cur.mx with swaps := cur.mx.swaps ++ [n], lastSwap := some n,
                                          actTag := beg.mx.shTag, shTag := beg.mx.actTag,
                                          bank0 := upd cur.mx.bank0 false,
                                          bank1 := upd cur.mx.bank1 true } }))

/-- The limits of R80 on a pass into bank `b` and the state its tile must have. -/
def streamLimits (m : Mxe) (n : Nat) (clr : Bool) (isInt : Bool) (b : Bool) : List Nat :=
  let bk := m.bankOf b
  let dr := if b then m.drainB else m.drainA
  (if !clr && bk.isOpen && bk.kind != some isInt then [0x02] else []) ++
  (if (match dr with | some (d0, q) => decide (n < d0 + 32 * q) | none => false) || (!clr && !bk.isOpen) ||
      (!clr && bk.isOpen && decide (64 ≤ bk.log.length)) then [0x03] else [])

/-- Open or extend the tile of a bank by a pass: its log and number kind (R85, R108). -/
def logPass (b : Bank) (clr isInt : Bool) (l : PassLog) : Bank :=
  { b with isOpen := true, kind := some isInt, log := if clr then [l] else b.log ++ [l] }

/-- MX.STREAM: checks its descriptor, its plane and its limits, logs the pass and reads its first
step (R63, R74 to R76, R80, R85, R108, R596). -/
def execMxStream (c : CoreId) (f : MxSlot) (s : State) : Host.Outcome State Fault Refusal :=
  .next (s.slotOp c 0 (mxSlotWord 4 f) (f.rsv == 0) fun beg cur =>
    let n := cur.now
    let m := cur.mx
    let d := mget zR beg.mx.desc f.desc.toNat
    let sa := f.sa.toNat
    let sb := f.sb.toNat
    let ok := dStreamOk d sa sb
    let plane := m.actTag
    let compat := !ok || dMode d == 0 || compatible plane d sa
    let isInt := mxInt (dFmtA d)
    let late := match m.lastStream with | some (c0, l) => decide (n < c0 + l + 1) | none => false
    let lims := streamLimits m n f.clr isInt f.bank ++
      (if f.dual then streamLimits m n f.clr isInt (!f.bank) else [])
    let causes := (if ok && compat then [] else [0x02]) ++
      (if late || (!f.dual && f.neg2) then [0x03] else []) ++ (if ok then lims else []) ++
      (if ok && decide (4095 < streamTop d sa sb) then [0x06] else [])
    if !causes.isEmpty then (causes, cur)
    else
      let p : PassSt := { issued := n, bpc := cur.bpc, desc := d, sa := sa, sb := sb, bank := f.bank,
                          clr := f.clr, neg := f.neg, dual := f.dual, neg2 := f.neg2, next := 0,
                          ea := 0, eb := 0, steps := [], done := [], req := none,
                          pre0 := m.bank0, pre1 := m.bank1 }
      let (cur, p, bad) := cur.passRead p
      if bad then ([0x07], cur)
      else
        let l (other : Bool) : PassLog :=
          ⟨d, f.desc.toNat, f.bank, f.clr, f.dual, f.neg2, sa, sb, f.neg, other, if dMode d = 0 then [] else [(0, plane)]⟩
        let put (m : Mxe) (b other : Bool) : Mxe :=
          let m := m.setBank b (logPass (m.bankOf b) f.clr isInt (l other))
          if b then { m with streamB := some (n, dLen d) } else { m with streamA := some (n, dLen d) }
        let m := put cur.mx f.bank false
        let m := if f.dual then put m (!f.bank) true else m
        ([], { cur with mx := { m with passes := m.passes ++ [p], lastStream := some (n, dLen d) } }))

/-- MX.DRAIN: checks its fusion descriptor, runs the sum check, replays the tile if its sticky bit is
set, closes it, and starts its row outputs (R79, R80, R86, R109, R111, R118, R119, R596). A poisoned row that the replay
reads is delivered while the core holds, so the fault is one of this cycle (R199; log 85). -/
def execMxDrain (c : CoreId) (f : MxSlot) (s : State) : Host.Outcome State Fault Refusal :=
  .next (s.slotOp c 0 (mxSlotWord 5 f)
    (!f.clr && !f.neg && !f.dual && !f.neg2 && f.sa == 0 && f.sb == 0 && f.rsv == 0) fun beg cur =>
    let n := cur.now
    let d := mget zR beg.mx.desc f.desc.toNat
    let ok := fusionOk d
    let str := if f.bank then cur.mx.streamB else cur.mx.streamA
    let late :=
      (match str with | some (c0, l) => decide (n < c0 + l + 10) | none => false) ||
      (match cur.mx.lastDrain with | some (c0, q) => decide (n < c0 + 32 * q) | none => false) ||
      !(cur.mx.bankOf f.bank).isOpen
    let causes := (if ok then [] else [0x02]) ++ (if late then [0x03] else []) ++
      (if ok && decide (4095 < drainTop d) then [0x06] else [])
    if !causes.isEmpty then (causes, cur)
    else
      -- the last addition of the tile takes place in this cycle at the latest (R76, R80)
      let cur := cur.accumulateAll
      let b := cur.mx.bankOf f.bank
      let b := { b with sticky := b.kind != some true && (b.sticky || b.sumOver) }
      let rd (row : Nat) : Row := (cur.viewRow n row).1
      let (b', h, sat) := replayLoop rd 6 b 0
      -- the replay consumes what it reads (R199)
      let poison := decide (h ≠ 0) && b.log.any fun l => l.rows.any fun row => (cur.viewRow n row).2
      let dr : DrainSt := { start := if h = 0 then n else n + 1, bpc := cur.bpc, desc := d, next := 0,
                            scale := 0, bias := 0, accs := b'.accs, eLsb := b'.eLsb, bsoEntries := 0 }
      let (cur, dr, bad) := cur.drainRead dr
      if bad || poison then ((if poison then [0x0D] else []) ++ (if bad then [0x07] else []), cur)
      else
        let m := cur.mx.setBank f.bank { b' with isOpen := false, log := [] }
        let m := if h = 0 then m else { m with replay := replayPlane rd b.log m.replay }
        let m := { m with drains := m.drains ++ [dr], lastDrain := some (n, fQ d) }
        let m := if f.bank then { m with drainB := some (n, fQ d) } else { m with drainA := some (n, fQ d) }
        ([], { cur with mx := m, ovf := cur.ovf || sat,
                        freeze := if h = 0 then cur.freeze else .replay h }))

/-- SHADOW_PLANE_COMPLETE: the last cell rows of a load are written (R77). -/
def execShadowPlaneComplete (c : CoreId) (s : State) : Host.Outcome State Fault Refusal :=
  .next (if (s.cur c).active then s.modCur c CoreSt.shadowDue else s)

/-- SWAP_TAKES_EFFECT: a swap takes effect seven cycles after it issued (R78). -/
def execSwapTakesEffect (c : CoreId) (s : State) : Host.Outcome State Fault Refusal :=
  .next (if (s.cur c).active then s.modCur c CoreSt.swapDue else s)

/-- PASS_STEP_ACCUMULATE: one step's products are added, ten cycles after its read (R76, R103). -/
def execPassStepAccumulate (c : CoreId) (s : State) : Host.Outcome State Fault Refusal :=
  .next (if (s.cur c).active then s.modCur c CoreSt.accumulateDue else s)

/-- REPLAY_HOLD_END: the held cycles of a replay run out (R86, R87); with CCLK stopped none passes (R387). A cycle that
ends with a fault holds nothing (R202). -/
def execReplayHoldEnd (c : CoreId) (s : State) : Host.Outcome State Fault Refusal :=
  .next (
    match (s.cur c).freeze with
    | .replay n =>
      if !(s.cur c).causes.isEmpty || !s.cclk (coreSiteOf c) then s
      else
        (s.modBoth c fun x => { x with freeze := .none, holdCyc := x.holdCyc + BitVec.ofNat 64 n }).odAdd
          odHoldCycTotal n
    | _ => s)

/-- DRAIN_ROW_OUTPUT: an accumulator row leaves the output-fusion pipeline and its LSP writes issue
(R119, R129). -/
def execDrainRowOutput (c : CoreId) (s : State) : Host.Outcome State Fault Refusal :=
  .next (if (s.cur c).active then s.modCur c fun x => x.drainDue (s.seedOf c) else s)

end Sys2Proof.Machine
end

