-- ==== Sys2Proof/Machine/Vx.lean ====
section
/-! DEFINITION. The vector engine: what each operation computes (R134 to R144), when its result
takes effect (R145, R146), and its direct commands. -/

namespace Sys2Proof.Machine

open Sys2Proof

/-! ### Element arithmetic -/

/-- An integer result in the signed range of a width, or the nearer bound with SAT (R137). -/
def satS (w : Nat) (x : Int) : Nat × BitVec 3 :=
  let hi : Int := 2 ^ (w - 1) - 1
  let lo : Int := -(2 ^ (w - 1))
  if x > hi then (wrapI w hi, vSat) else if x < lo then (wrapI w lo, vSat) else (wrapI w x, 0)

/-- An integer result in the unsigned range of a width, or the nearer bound with SAT (R137). -/
def satU (w : Nat) (x : Int) : Nat × BitVec 3 :=
  if x < 0 then (0, vSat) else if x > 2 ^ w - 1 then (2 ^ w - 1, vSat) else (x.toNat, 0)

/-- All ones or zero (R136). -/
def ones (w : Nat) (b : Bool) : Nat := if b then 2 ^ w - 1 else 0

/-- Integer division (R137). -/
def divS (w a b : Nat) : Nat × BitVec 3 :=
  let x := sgn w a
  let y := sgn w b
  if y = 0 then
    (if x > 0 then 2 ^ (w - 1) - 1 else if x < 0 then 2 ^ (w - 1) else 0, vDivz)
  else satS w (Int.tdiv x y)

/-- The floating format of a lane width (R136). -/
def vxFmt (w : Nat) : Fmt := if w = 32 then fp32 else bf16

/-- A floating result with INV when it is a NaN made from operands that are not (R139). -/
def fltRes (w : Nat) (r : FV) (ops : List FV) : Nat × BitVec 3 :=
  ((vxFmt w).encode r, if r.isNan && ops.all (fun v => !v.isNan) then vInv else 0)

/-- CVT (R141, R144). A conversion to FP8 with IMM[5] = 1 that saturates raises no SAT: VSTAT.SAT is for an integer result
or conversion, and the manual does not say that it takes in this one (DESIGN CHOICE, log 92). -/
def vxCvt (imm a : Nat) : Nat × BitVec 3 :=
  let kind := imm % 16
  let r : Rnd := if imm / 16 % 2 = 1 then .zero else .even
  let sat := imm / 32 % 2 == 1
  let narrow (f : Fmt) : Nat × BitVec 3 :=
    let v := fp32.decode a
    let y := f.convert r sat v
    (y, if (f.decode y).isNan && !v.isNan then vInv else 0)
  let toInt (lo hi : Int) : Nat × BitVec 3 :=
    match fp32.decode a with
    | .nan => (0, vInv)
    | .inf n => (wrapI 32 (if n then lo else hi), vSat)
    | v =>
      let x := v.toInt r
      if x > hi then (wrapI 32 hi, vSat) else if x < lo then (wrapI 32 lo, vSat) else (wrapI 32 x, 0)
  let widen (f : Fmt) (n : Nat) : Nat × BitVec 3 := (fp32.encode (f.decode (a % 2 ^ n)), 0)
  if kind = 0 then narrow bf16
  else if kind = 1 then narrow fp16
  else if kind = 2 then narrow e4m3
  else if kind = 3 then narrow e5m2
  else if kind = 4 then toInt (-(2 ^ 31)) (2 ^ 31 - 1)
  else if kind = 5 then (fp32.convert r false (FV.ofInt (sgn 32 a) 0 false), 0)
  else if kind = 6 then (a % 65536 * 65536, 0)
  else if kind = 7 then widen fp16 16
  else if kind = 8 then widen e4m3 8
  else if kind = 9 then widen e5m2 8
  else if kind = 0xA then (fp32.convert r false (FV.ofInt (a : Nat) 0 false), 0)
  else toInt 0 (2 ^ 32 - 1)

/-- What an operation gives one element of width `w` from its operands (R136 to R141): the result and
the sticky flags it raises. -/
def vxElem (op w : Nat) (a b c : Nat) : Nat × BitVec 3 :=
  let fa := (vxFmt w).decode a
  let fb := (vxFmt w).decode b
  let fc := (vxFmt w).decode c
  if op = 0x01 then satS w (sgn w a + sgn w b)
  else if op = 0x02 then satS w (sgn w a - sgn w b)
  else if op = 0x03 then satS w (sgn w a * sgn w b)
  else if op = 0x04 then satU w ((a : Int) + b)
  else if op = 0x05 then satU w ((a : Int) - b)
  else if op = 0x06 then satU w ((a : Int) * b)
  else if op = 0x07 then divS w a b
  else if op = 0x08 then (if b = 0 then (if a = 0 then 0 else 2 ^ w - 1, vDivz) else (a / b, 0))
  else if op = 0x09 then (if sgn w a ≤ sgn w b then a else b, 0)
  else if op = 0x0A then (if sgn w a ≤ sgn w b then b else a, 0)
  else if op = 0x0B then (min a b, 0)
  else if op = 0x0C then (max a b, 0)
  else if op = 0x0D then (a &&& b, 0)
  else if op = 0x0E then (a ||| b, 0)
  else if op = 0x0F then (a ^^^ b, 0)
  else if op = 0x10 then (a &&& (2 ^ w - 1 - b), 0)
  else if op = 0x11 then (if w ≤ b then 0 else a * 2 ^ b % 2 ^ w, 0)
  else if op = 0x12 then (if w ≤ b then 0 else a / 2 ^ b, 0)
  else if op = 0x13 then (wrapI w (shiftI (sgn w a) (-(min b w : Nat))), 0)
  else if op = 0x14 then (ones w (a == b), 0)
  else if op = 0x15 then (ones w (decide (sgn w a < sgn w b)), 0)
  else if op = 0x16 then (ones w (decide (sgn w a ≤ sgn w b)), 0)
  else if op = 0x17 then (ones w (decide (a < b)), 0)
  else if op = 0x18 then ((a &&& c) ||| (b &&& (2 ^ w - 1 - c)), 0)
  else if op = 0x19 then (b, 0)
  else if op = 0x20 then fltRes w (fa.add fb) [fa, fb]
  else if op = 0x21 then fltRes w (fa.add fb.neg) [fa, fb]
  else if op = 0x22 then fltRes w (fa.mul fb) [fa, fb]
  else if op = 0x23 then fltRes w ((fa.mul fb).add fc) [fa, fb, fc]
  else if op = 0x24 then fltRes w (fa.fmin fb) [fa, fb]
  else if op = 0x25 then fltRes w (fa.fmax fb) [fa, fb]
  else if op = 0x26 then (ones w (fa.eq fb), 0)
  else if op = 0x27 then (ones w (fa.lt fb), 0)
  else if op = 0x28 then (ones w (fa.lt fb || fa.eq fb), 0)
  else if op = 0x29 then fltRes w ((FV.fin false 1 0).div fa) [fa]
  else if op = 0x2A then fltRes w fa.rsqrt [fa]
  else if op = 0x2B then fltRes w fa.exp2 [fa]
  else fltRes w fa.log2 [fa]

/-- What a reduction gives from its contributing elements (R143). -/
def vxReduce (op w : Nat) (xs : List Nat) : Nat × BitVec 3 :=
  let is := xs.map (sgn w)
  let fs := xs.map fp32.decode
  if op = 0x38 then satS w is.sum
  else if op = 0x39 then (wrapI w (is.foldl max (-(2 ^ (w - 1)))), 0)
  else if op = 0x3A then (wrapI w (is.foldl min (2 ^ (w - 1) - 1)), 0)
  else if op = 0x3B then fltRes 32 (FV.sum fs) fs
  else if op = 0x3C then (fp32.encode (fs.foldl FV.fmax (.inf true)), 0)
  else (fp32.encode (fs.foldl FV.fmin (.inf false)), 0)

/-! ### Operations on registers -/

/-- What an operation writes: a vector register under bit lanes, a mask under its bits, and flags. -/
structure VxOut where
  vd : Option Nat
  data : VReg
  lanes : VReg
  md : Option Nat
  mbits : W64
  mlanes : W64
  flags : BitVec 3
  deriving DecidableEq, Repr

/-- The registers an operation reads (R130, R142, R144). -/
structure VxSrc where
  v : SMap VReg
  m : SMap W64
  lut : SMap W32
  vstat : BitVec 3
  deriving DecidableEq, Repr

/-- The source registers of a core state. -/
def CoreSt.vsrc (c : CoreSt) : VxSrc := ⟨c.vreg, c.mask, c.lut, c.vstat⟩

/-- A mask register of the sources; M0 reads as all ones (R130). -/
def VxSrc.mask (x : VxSrc) (r : Nat) : W64 := if r = 0 then BitVec.allOnes 64 else mget zM x.m r

/-- A 64-bit mask from a predicate on lanes. -/
def maskOf (p : Nat → Bool) : W64 :=
  BitVec.ofNat 64 ((List.range 64).foldl (fun a i => if p i then a + 2 ^ i else a) 0)

/-- What an operation at lane width `w` writes, for the first `valid` elements (R135 to R144, R154). In LUT the bits that
A >> s brings in from the left are zeros, whatever the sign of the lane: a DESIGN CHOICE, since R142 does not say whether the
lane is signed (log 102). -/
def vxCompute (op w : Nat) (f : VxSlot) (src : VxSrc) (valid : Nat) : VxOut :=
  let n := 2048 / w
  let per := 32 / w
  let info := (vxInfo op).getD ⟨false, false, false, 0, false, false, false, false, false, .none⟩
  let msk := src.mask f.msk.toNat
  let act (e : Nat) : Bool := msk.getLsbD (e / per) && decide (e < valid)
  let va := mget zV src.v f.va.toNat
  let vb := mget zV src.v f.vb.toNat
  let vc := mget zV src.v f.vc.toNat
  let imm := f.imm.toNat
  let opB (e : Nat) : Nat := if f.imb then immOperand info.imb w imm else fld vb (w * e) w
  let lanes : VReg := BitVec.ofNat 2048 (packElems w ((List.range n).map fun e => ones w (act e)))
  let lane32 := maskOf fun i => act i
  let vec (g : Nat → Nat × BitVec 3) : VxOut :=
    let rs := (List.range n).map fun e => if act e then g e else (0, 0)
    { vd := some f.vd.toNat, data := BitVec.ofNat 2048 (packElems w (rs.map (·.1))), lanes := lanes,
      md := if vxCompare op && f.md != 0 then some f.md.toNat else none,
      mbits := if vxCompare op && f.md != 0 then maskOf fun i => (rs.getD i (0, 0)).1 != 0 else 0,
      mlanes := if vxCompare op && f.md != 0 then lane32 else 0,
      flags := rs.foldl (fun a r => a ||| r.2) 0 }
  if op = 0x1A then vec fun _ => (imm * 65536, 0)
  else if op = 0x1B then
    { vd := none, data := 0, lanes := 0, md := some f.md.toNat,
      mbits := maskOf fun i => fld va (32 * i) 32 != 0, mlanes := lane32, flags := 0 }
  else if op = 0x1C then vec fun e => (ones 32 ((src.mask f.md.toNat).getLsbD e), 0)
  else if op = 0x30 then vec fun e => vxCvt imm (fld va (32 * e) 32)
  else if op = 0x31 then
    vec fun e => ((mget zW src.lut (256 * (imm / 256) + fld va (32 * e) 32 / 2 ^ (imm % 32) % 256)).toNat, 0)
  else if 0x38 ≤ op && op ≤ 0x3D then
    let xs := (List.range n).filterMap fun e => if act e then some (fld va (w * e) w) else none
    let (r, fl) := vxReduce op w xs
    { vd := some f.vd.toNat, data := BitVec.ofNat 2048 (packElems w (List.replicate n r)),
      lanes := BitVec.allOnes 2048, md := none, mbits := 0, mlanes := 0, flags := fl }
  else if op = 0x3E then vec fun _ => (src.vstat.toNat, 0)
  else vec fun e => vxElem op w (fld va (w * e) w) (opB e) (fld vc (w * e) w)

/-! ### Results in flight -/

/-- A result takes effect: registers under their lanes, and the sticky flags (R144 to R146). -/
def CoreSt.vxWrite (c : CoreSt) (p : VxPend) : CoreSt :=
  let c := match p.vd with | some r => c.mergeV r p.data p.lanes | none => c
  let c := match p.md with | some r => c.mergeM r p.mbits p.mlanes | none => c
  c.raise p.flags

/-- A load writes its register at the end of cycle c + 6 (R167, R192). -/
def CoreSt.loadWrite (c : CoreSt) (r : LspRead) : CoreSt :=
  match r.dst with
  | .vpart reg part =>
    c.mergeV reg (BitVec.ofNat 2048 (r.data.toNat * 2 ^ (256 * part)))
      (BitVec.ofNat 2048 ((2 ^ 256 - 1) * 2 ^ (256 * part)))
  | .scalar reg w => c.loadS reg (BitVec.ofNat 32 (fld r.data (32 * w) 32))
  | .mask reg q => c.mergeM reg (BitVec.ofNat 64 (fld r.data (64 * q) 64)) (BitVec.allOnes 64)
  | .none => c

/-- The order in which two register writes of one cycle take effect: the issue cycle, then the rank of
the slot (R146, R168). -/
def wkey (issued rank : Nat) : Nat := 8 * issued + rank

/-- The least key among the results and loads that are due at the end of the present cycle. -/
def CoreSt.nextKey (c : CoreSt) : Option Nat :=
  ((c.vpend.filter fun p => decide (p.due ≤ c.now)).map (fun p => wkey p.issued 3) ++
    (c.reads.filter fun r => decide (r.issued + 6 ≤ c.now)).map fun r => wkey r.issued r.rank).min?

/-- Take effect in order: one step deals with every write of the least key. -/
def CoreSt.regStep (c : CoreSt) : CoreSt :=
  match c.nextKey with
  | none => c
  | some k =>
    let vs := c.vpend.filter fun p => decide (p.due ≤ c.now) && wkey p.issued 3 == k
    let rs := c.reads.filter fun r => decide (r.issued + 6 ≤ c.now) && wkey r.issued r.rank == k
    let c := { c with vpend := c.vpend.filter fun p => !(decide (p.due ≤ c.now) && wkey p.issued 3 == k)
                      reads := c.reads.filter fun r =>
                        !(decide (r.issued + 6 ≤ c.now) && wkey r.issued r.rank == k) }
    rs.foldl CoreSt.loadWrite (vs.foldl CoreSt.vxWrite c)

/-- Every register write that is due by the end of the present cycle, in order. -/
def CoreSt.regSettle (c : CoreSt) : CoreSt :=
  (List.range (c.vpend.length + c.reads.length)).foldl (fun c _ => c.regStep) c

/-- Register writes in order up to the first of a kind that is due. -/
def CoreSt.regUntil (p : CoreSt → Bool) : Nat → CoreSt → CoreSt
  | 0, c => c
  | n + 1, c => if p c then c.regStep else CoreSt.regUntil p n c.regStep

/-- The next register write that is due is a direct VX result. -/
def CoreSt.vxNext (c : CoreSt) : Bool :=
  c.vpend.any fun p => decide (p.due ≤ c.now) && c.nextKey == some (wkey p.issued 3)

/-- The next register write that is due is a load. -/
def CoreSt.loadNext (c : CoreSt) : Bool :=
  c.reads.any fun r => decide (r.issued + 6 ≤ c.now) && r.dst != .none && c.nextKey == some (wkey r.issued r.rank)

/-! ### Issue -/

/-- Whether a run occupies the VXE in the present cycle, from the state at the start of the cycle: its last cycle is one
of them, whether RUN_COMPLETE has come in it or not (R155, R156). -/
def CoreSt.vxBusy (c : CoreSt) : Bool :=
  match c.run with
  | none => false
  | some r => !r.checked || decide (c.now < r.issued + r.trun)

/-- Issue a direct operation: it reads its registers now and its result is in flight (R145, R156). -/
def vxDirect (op : Nat) (c : CoreId) (f : VxSlot) (s : State) : Host.Outcome State Fault Refusal :=
  .next (s.slotOp c 1 (vxWord op f) (vxEncOk op (lwBits f.lw.toNat) f) fun beg cur =>
    if beg.vxBusy then ([0x04], cur)
    else
      let o := vxCompute op (lwBits f.lw.toNat) f beg.vsrc 2048
      let lat := ((vxInfo op).map VxInfo.lat).getD 1
      ([], { cur with vpend := cur.vpend ++
              [{ due := cur.now + lat - 1, issued := cur.now, bpc := cur.bpc, vd := o.vd, data := o.data,
                 lanes := o.lanes, md := o.md, mbits := o.mbits, mlanes := o.mlanes, flags := o.flags,
                 lutTab := if op = 0x31 then some (f.imm.toNat / 256 % 4) else none }] }))

/-- VX.NOP: no effect (R136). -/
def execVxNop (c : CoreId) (f : VxSlot) (s : State) : Host.Outcome State Fault Refusal :=
  .next (s.slotOp c 1 (vxWord 0x00 f) (vxEncOk 0x00 (lwBits f.lw.toNat) f) fun _ cur => ([], cur))

/-- ADD: signed A + B, saturated (R136, R137). -/
def execVxAdd (c : CoreId) (f : VxSlot) (s : State) : Host.Outcome State Fault Refusal :=
  vxDirect 0x01 c f s

/-- SUB: signed A - B, saturated (R136, R137). -/
def execVxSub (c : CoreId) (f : VxSlot) (s : State) : Host.Outcome State Fault Refusal :=
  vxDirect 0x02 c f s

/-- MUL: signed A × B, saturated (R136, R137). -/
def execVxMul (c : CoreId) (f : VxSlot) (s : State) : Host.Outcome State Fault Refusal :=
  vxDirect 0x03 c f s

/-- ADDU: unsigned A + B, saturated (R136, R137). -/
def execVxAddu (c : CoreId) (f : VxSlot) (s : State) : Host.Outcome State Fault Refusal :=
  vxDirect 0x04 c f s

/-- SUBU: unsigned A - B, saturated (R136, R137). -/
def execVxSubu (c : CoreId) (f : VxSlot) (s : State) : Host.Outcome State Fault Refusal :=
  vxDirect 0x05 c f s

/-- MULU: unsigned A × B, saturated (R136, R137). -/
def execVxMulu (c : CoreId) (f : VxSlot) (s : State) : Host.Outcome State Fault Refusal :=
  vxDirect 0x06 c f s

/-- DIV: signed A / B toward zero (R136, R137). -/
def execVxDiv (c : CoreId) (f : VxSlot) (s : State) : Host.Outcome State Fault Refusal :=
  vxDirect 0x07 c f s

/-- DIVU: unsigned A / B (R136, R137). -/
def execVxDivu (c : CoreId) (f : VxSlot) (s : State) : Host.Outcome State Fault Refusal :=
  vxDirect 0x08 c f s

/-- MIN: signed minimum (R136). -/
def execVxMin (c : CoreId) (f : VxSlot) (s : State) : Host.Outcome State Fault Refusal :=
  vxDirect 0x09 c f s

/-- MAX: signed maximum (R136). -/
def execVxMax (c : CoreId) (f : VxSlot) (s : State) : Host.Outcome State Fault Refusal :=
  vxDirect 0x0A c f s

/-- MINU: unsigned minimum (R136). -/
def execVxMinu (c : CoreId) (f : VxSlot) (s : State) : Host.Outcome State Fault Refusal :=
  vxDirect 0x0B c f s

/-- MAXU: unsigned maximum (R136). -/
def execVxMaxu (c : CoreId) (f : VxSlot) (s : State) : Host.Outcome State Fault Refusal :=
  vxDirect 0x0C c f s

/-- AND: A and B (R136). -/
def execVxAnd (c : CoreId) (f : VxSlot) (s : State) : Host.Outcome State Fault Refusal :=
  vxDirect 0x0D c f s

/-- OR: A or B (R136). -/
def execVxOr (c : CoreId) (f : VxSlot) (s : State) : Host.Outcome State Fault Refusal :=
  vxDirect 0x0E c f s

/-- XOR: A xor B (R136). -/
def execVxXor (c : CoreId) (f : VxSlot) (s : State) : Host.Outcome State Fault Refusal :=
  vxDirect 0x0F c f s

/-- ANDN: A and not B (R136). -/
def execVxAndn (c : CoreId) (f : VxSlot) (s : State) : Host.Outcome State Fault Refusal :=
  vxDirect 0x10 c f s

/-- SHL: A shifted left by B (R136, R137). -/
def execVxShl (c : CoreId) (f : VxSlot) (s : State) : Host.Outcome State Fault Refusal :=
  vxDirect 0x11 c f s

/-- SHR: A shifted right by B (R136, R137). -/
def execVxShr (c : CoreId) (f : VxSlot) (s : State) : Host.Outcome State Fault Refusal :=
  vxDirect 0x12 c f s

/-- SRA: A shifted right by B with its sign (R136, R137). -/
def execVxSra (c : CoreId) (f : VxSlot) (s : State) : Host.Outcome State Fault Refusal :=
  vxDirect 0x13 c f s

/-- CMPEQ: all ones if A = B, and into mask MD (R136, R138). -/
def execVxCmpeq (c : CoreId) (f : VxSlot) (s : State) : Host.Outcome State Fault Refusal :=
  vxDirect 0x14 c f s

/-- CMPLT: all ones if A < B signed, and into mask MD (R136, R138). -/
def execVxCmplt (c : CoreId) (f : VxSlot) (s : State) : Host.Outcome State Fault Refusal :=
  vxDirect 0x15 c f s

/-- CMPLE: all ones if A ≤ B signed, and into mask MD (R136, R138). -/
def execVxCmple (c : CoreId) (f : VxSlot) (s : State) : Host.Outcome State Fault Refusal :=
  vxDirect 0x16 c f s

/-- CMPLTU: all ones if A < B unsigned, and into mask MD (R136, R138). -/
def execVxCmpltu (c : CoreId) (f : VxSlot) (s : State) : Host.Outcome State Fault Refusal :=
  vxDirect 0x17 c f s

/-- SEL: (A and C) or (B and not C) (R136). -/
def execVxSel (c : CoreId) (f : VxSlot) (s : State) : Host.Outcome State Fault Refusal :=
  vxDirect 0x18 c f s

/-- MOV: B (R136). -/
def execVxMov (c : CoreId) (f : VxSlot) (s : State) : Host.Outcome State Fault Refusal :=
  vxDirect 0x19 c f s

/-- MOVHI: IMM × 2^16 (R136). -/
def execVxMovhi (c : CoreId) (f : VxSlot) (s : State) : Host.Outcome State Fault Refusal :=
  vxDirect 0x1A c f s

/-- MSET: mask MD from the lanes of A that are not zero (R136). -/
def execVxMset (c : CoreId) (f : VxSlot) (s : State) : Host.Outcome State Fault Refusal :=
  vxDirect 0x1B c f s

/-- MGET: all ones in the lanes whose MD bit is set (R136). -/
def execVxMget (c : CoreId) (f : VxSlot) (s : State) : Host.Outcome State Fault Refusal :=
  vxDirect 0x1C c f s

/-- FADD: A + B, rounded once (R136, R139). -/
def execVxFadd (c : CoreId) (f : VxSlot) (s : State) : Host.Outcome State Fault Refusal :=
  vxDirect 0x20 c f s

/-- FSUB: A - B, rounded once (R136, R139). -/
def execVxFsub (c : CoreId) (f : VxSlot) (s : State) : Host.Outcome State Fault Refusal :=
  vxDirect 0x21 c f s

/-- FMUL: A × B, rounded once (R136, R139). -/
def execVxFmul (c : CoreId) (f : VxSlot) (s : State) : Host.Outcome State Fault Refusal :=
  vxDirect 0x22 c f s

/-- FMA: A × B + C, rounded once (R136, R139). -/
def execVxFma (c : CoreId) (f : VxSlot) (s : State) : Host.Outcome State Fault Refusal :=
  vxDirect 0x23 c f s

/-- FMIN: floating minimum (R136, R139). -/
def execVxFmin (c : CoreId) (f : VxSlot) (s : State) : Host.Outcome State Fault Refusal :=
  vxDirect 0x24 c f s

/-- FMAX: floating maximum (R136, R139). -/
def execVxFmax (c : CoreId) (f : VxSlot) (s : State) : Host.Outcome State Fault Refusal :=
  vxDirect 0x25 c f s

/-- FCMPEQ: all ones if A = B (R136, R138, R139). -/
def execVxFcmpeq (c : CoreId) (f : VxSlot) (s : State) : Host.Outcome State Fault Refusal :=
  vxDirect 0x26 c f s

/-- FCMPLT: all ones if A < B (R136, R138, R139). -/
def execVxFcmplt (c : CoreId) (f : VxSlot) (s : State) : Host.Outcome State Fault Refusal :=
  vxDirect 0x27 c f s

/-- FCMPLE: all ones if A ≤ B (R136, R138, R139). -/
def execVxFcmple (c : CoreId) (f : VxSlot) (s : State) : Host.Outcome State Fault Refusal :=
  vxDirect 0x28 c f s

/-- FRCP: 1 / A (R140). -/
def execVxFrcp (c : CoreId) (f : VxSlot) (s : State) : Host.Outcome State Fault Refusal :=
  vxDirect 0x29 c f s

/-- FRSQ: 1 / √A (R140). -/
def execVxFrsq (c : CoreId) (f : VxSlot) (s : State) : Host.Outcome State Fault Refusal :=
  vxDirect 0x2A c f s

/-- FEXP2: 2^A (R140). -/
def execVxFexp2 (c : CoreId) (f : VxSlot) (s : State) : Host.Outcome State Fault Refusal :=
  vxDirect 0x2B c f s

/-- FLOG2: log2 A (R140). -/
def execVxFlog2 (c : CoreId) (f : VxSlot) (s : State) : Host.Outcome State Fault Refusal :=
  vxDirect 0x2C c f s

/-- CVT: the conversion that IMM selects (R141). -/
def execVxCvt (c : CoreId) (f : VxSlot) (s : State) : Host.Outcome State Fault Refusal :=
  vxDirect 0x30 c f s

/-- LUT: a lookup in table IMM[9:8] (R142). -/
def execVxLut (c : CoreId) (f : VxSlot) (s : State) : Host.Outcome State Fault Refusal :=
  vxDirect 0x31 c f s

/-- RSUM: signed sum across the register (R143). -/
def execVxRsum (c : CoreId) (f : VxSlot) (s : State) : Host.Outcome State Fault Refusal :=
  vxDirect 0x38 c f s

/-- RMAX: signed maximum across the register (R143). -/
def execVxRmax (c : CoreId) (f : VxSlot) (s : State) : Host.Outcome State Fault Refusal :=
  vxDirect 0x39 c f s

/-- RMIN: signed minimum across the register (R143). -/
def execVxRmin (c : CoreId) (f : VxSlot) (s : State) : Host.Outcome State Fault Refusal :=
  vxDirect 0x3A c f s

/-- FRSUM: exact FP32 sum, rounded once (R143). -/
def execVxFrsum (c : CoreId) (f : VxSlot) (s : State) : Host.Outcome State Fault Refusal :=
  vxDirect 0x3B c f s

/-- FRMAX: FP32 maximum across the register (R143). -/
def execVxFrmax (c : CoreId) (f : VxSlot) (s : State) : Host.Outcome State Fault Refusal :=
  vxDirect 0x3C c f s

/-- FRMIN: FP32 minimum across the register (R143). -/
def execVxFrmin (c : CoreId) (f : VxSlot) (s : State) : Host.Outcome State Fault Refusal :=
  vxDirect 0x3D c f s

/-- STAT: VSTAT into every lane; IMM[0] = 1 also clears it (R144). -/
def execVxStat (c : CoreId) (f : VxSlot) (s : State) : Host.Outcome State Fault Refusal :=
  .next (s.slotOp c 1 (vxWord 0x3E f) (vxEncOk 0x3E (lwBits f.lw.toNat) f) fun beg cur =>
    if beg.vxBusy then ([0x04], cur)
    else
      let o := vxCompute 0x3E 32 f beg.vsrc 2048
      let cur := if f.imm.getLsbD 0 then cur.clearStat else cur
      ([], { cur with vpend := cur.vpend ++
              [{ due := cur.now + 1, issued := cur.now, bpc := cur.bpc, vd := o.vd, data := o.data,
                 lanes := o.lanes, md := none, mbits := 0, mlanes := 0, flags := 0, lutTab := none }] }))

/-- VX_RESULT_WRITE: a direct operation's result takes effect at the end of cycle c + L - 1, after the
register writes of this cycle that stand before it (R145, R146, R168). -/
def execVxResultWrite (c : CoreId) (s : State) : Host.Outcome State Fault Refusal :=
  .next (
    let x := s.cur c
    if x.active && x.vpend.any fun p => decide (p.due ≤ x.now) then
      s.modCur c fun x => CoreSt.regUntil CoreSt.vxNext (x.vpend.length + x.reads.length) x
    else s)

end Sys2Proof.Machine
end

