-- ==== Sys2Proof/Machine/VxRun.lean ====
section
/-! DEFINITION. Lane programs: the program store (R148, R149), the run descriptor and its checks
(R150, R151, R157), iterations (R152 to R154) and their timing (R155, R156), and the causes of a core cycle
(R123, R142, R202). -/

namespace Sys2Proof.Machine

open Sys2Proof

/-! ### The run descriptor -/

/-- A stream of a run (R151). -/
structure Stream where
  fmt : Nat
  reg : Nat
  addr : Nat
  deriving DecidableEq, Repr

/-- Container width of a stream element code (R151). -/
def strWidth (f : Nat) : Nat := if f = 0 then 32 else if f ≤ 4 then 16 else 8

/-- Whether a code is legal at a lane width, as input or output (R151). -/
def strLegal (f lw : Nat) (out : Bool) : Bool :=
  if f = 1 then lw == 32 || lw == 16
  else if f = 5 then lw == 32 || lw == 16 || lw == 8
  else if f = 6 then !out && (lw == 32 || lw == 16)
  else if f = 0 then lw == 32
  else !out && decide (f ≤ 8) && lw == 32

/-- The stream of a field, if it is enabled (R151). -/
def strOf (d : Row) (lo : Nat) : Option Stream :=
  if d.getLsbD lo then some ⟨fld d (lo + 1) 4, fld d (lo + 5) 4, fld d (lo + 9) 12⟩ else none

/-- Whether a stream field is legal (R151, R157). -/
def strOk (d : Row) (lo lw : Nat) (out : Bool) : Bool :=
  if d.getLsbD lo then fld d (lo + 21) 3 == 0 && strLegal (fld d (lo + 1) 4) lw out
  else fld d lo 24 == 0

/-- Lane width of a run. -/
def runLw (d : Row) : Nat := lwBits (fld d 4 2)
/-- Program slot of a run. -/
def runProg (d : Row) : Nat := fld d 6 2
/-- Operations of a run's program. -/
def runNops (d : Row) : Nat := fld d 8 6 + 1
/-- Elements of a run's streams. -/
def runElems (d : Row) : Nat := fld d 14 17 + 1
/-- The enabled input streams in order. -/
def runIns (d : Row) : List Stream := [32, 56, 80].filterMap (strOf d)
/-- The enabled output streams in order. -/
def runOuts (d : Row) : List Stream := [104, 128].filterMap (strOf d)
/-- Rows that a stream moves per iteration (R152). -/
def Stream.rpi (x : Stream) (lw : Nat) : Nat := 8 * strWidth x.fmt / lw
/-- The last row of a stream (R157). -/
def Stream.last (x : Stream) (n : Nat) : Nat := x.addr + (n * strWidth x.fmt + 255) / 256 - 1
/-- Elements per iteration X (R152). -/
def runX (d : Row) : Nat := 2048 / runLw d
/-- NITER (R152). -/
def runIters (d : Row) : Nat := (runElems d + runX d - 1) / runX d
/-- TIN (R155). -/
def runTin (d : Row) : Nat := (((runIns d).map fun x => x.rpi (runLw d)).sum + 3) / 4
/-- TOUT (R155). -/
def runTout (d : Row) : Nat := (((runOuts d).map fun x => x.rpi (runLw d)).sum + 3) / 4
/-- The iteration interval I (R155). -/
def runI (d : Row) : Nat := max (runNops d) (max (runTin d) (runTout d))
/-- TRUN (R155). -/
def runLen (d : Row) : Nat :=
  23 + runTin d + (runIters d - 1) * runI d + runNops d + max (runTout d) 1

/-- Operation k of a program: its code and compute form (R149). -/
def progOp (p : BitVec 4096) (k : Nat) : Nat × VxSlot := (fld p (64 * k + 42) 6, vxSlotOf (fld p (64 * k) 48))

/-- Whether operation k of a program is legal in a run at a lane width (R149, R157). -/
def progOk (p : BitVec 4096) (lw k : Nat) : Bool :=
  let (op, f) := progOp p k
  fld p (64 * k + 48) 16 == 0 && f.lw == 0 && vxEncOk op lw f &&
    (match vxInfo op with | some i => i.run | none => false)

/-- Whether two row ranges meet. -/
def meets (a la b lb : Nat) : Bool := decide (a ≤ lb) && decide (b ≤ la)

/-- The checks of R157 on a descriptor and its program. -/
def runOk (d : Row) (p : BitVec 4096) : Bool :=
  let lw := runLw d
  let n := runElems d
  let ins := runIns d
  let outs := runOuts d
  fld d 0 4 == 3 && lw != 0 && !d.getLsbD 31 && fld d 152 104 == 0 &&
    ([32, 56, 80].all fun lo => strOk d lo lw false) && ([104, 128].all fun lo => strOk d lo lw true) &&
    decide ((ins.map (·.reg)).Nodup) &&
    ((ins ++ outs).all fun x => decide (x.last n ≤ 4095)) &&
    (match outs with
     | [a, b] => !meets a.addr (a.last n) b.addr (b.last n)
     | _ => true) &&
    (outs.all fun o => ins.all fun i =>
      !meets o.addr (o.last n) i.addr (i.last n) || (decide (o.addr ≤ i.addr) && decide (o.rpi lw ≤ i.rpi lw))) &&
    (List.range (runNops d)).all (progOk p lw)

/-- The rows of iteration m of a stream that hold elements below NELEM + 1 (R154, R155). -/
def Stream.iterRows (x : Stream) (d : Row) (m : Nat) : List Nat :=
  (rowsFrom (x.addr + m * x.rpi (runLw d)) (x.rpi (runLw d))).filter fun r => decide (r ≤ x.last (runElems d))

/-- The rows that cycle j of iteration m touches among streams (R155). -/
def groupRows (xs : List Stream) (d : Row) (m j : Nat) : List Nat :=
  ((xs.flatMap fun x => x.iterRows d m).drop (4 * j)).take 4

/-! ### One iteration -/

/-- Place a stream element into an element of the register (R151). -/
def placeElem (fmt lw raw : Nat) : Nat :=
  if fmt = 2 then wrapI lw (sgn 16 raw)
  else if fmt = 3 then raw * 65536
  else if fmt = 4 then fp32.encode (fp16.decode raw)
  else if fmt = 6 then wrapI lw (sgn 8 raw)
  else if fmt = 7 then fp32.encode (e4m3.decode raw)
  else if fmt = 8 then fp32.encode (e5m2.decode raw)
  else raw

/-- Load an input stream's elements of an iteration from its rows (R152, R154). -/
def inputElems (x : Stream) (lw valid : Nat) (rows : List Row) : VReg × VReg :=
  let w := strWidth x.fmt
  let n := 2048 / lw
  let word : BitVec 8192 := catRows 8192 rows
  (BitVec.ofNat 2048 (packElems lw ((List.range n).map fun e =>
      if e < valid then placeElem x.fmt lw (fld word (w * e) w) else 0)),
   BitVec.ofNat 2048 (packElems lw ((List.range n).map fun e => ones lw (decide (e < valid)))))

/-- The rows that an output stream writes in an iteration, with the bits that hold elements (R154). -/
def outputRows (x : Stream) (d : Row) (m valid : Nat) (v : VReg) : List (Nat × Row × Row) :=
  let lw := runLw d
  let w := strWidth x.fmt
  let els := (List.range (2048 / lw)).map fun e => if e < valid then fld v (lw * e) w else 0
  let msk := (List.range (2048 / lw)).map fun e => ones w (decide (e < valid))
  let n := x.rpi lw
  ((splitRows n (packElems w els)).zip (splitRows n (packElems w msk))).zipIdx.filterMap fun rk =>
    let row := x.addr + m * n + rk.2
    if row ≤ x.last (runElems d) then some (row, rk.1.1, rk.1.2) else none

/-- Run one operation of a program: its result is seen by the next (R153). -/
def CoreSt.runOp (c : CoreSt) (op lw : Nat) (f : VxSlot) (valid : Nat) : CoreSt :=
  if op = 0 then c
  else
    let o := vxCompute op lw f c.vsrc valid
    c.vxWrite { due := 0, issued := 0, bpc := 0, vd := o.vd, data := o.data, lanes := o.lanes, md := o.md,
                mbits := o.mbits, mlanes := o.mlanes, flags := o.flags, lutTab := none }

/-- The next iteration of a run: its input elements enter their registers, the operations run in order,
and its output rows wait for their write cycles (R152 to R155). -/
def CoreSt.runIterate (c : CoreSt) (r : RunSt) : CoreSt :=
  let d := r.desc
  let lw := runLw d
  let m := r.iter
  let valid := min (runX d) (runElems d - m * runX d)
  let p := mget (fun _ => (0 : BitVec 4096)) c.prog (runProg d)
  let (c, rest) := (runIns d).foldl
    (fun (acc : CoreSt × List Row) x =>
      let k := (x.iterRows d m).length
      let (v, l) := inputElems x lw valid (acc.2.take k)
      (acc.1.mergeV x.reg v l, acc.2.drop k))
    (c, r.inRows)
  let c := (List.range (runNops d)).foldl (fun c k => c.runOp (progOp p k).1 lw (progOp p k).2 valid) c
  let outs := (runOuts d).flatMap fun x => outputRows x d m valid (c.v x.reg)
  { c with run := some { r with iter := m + 1, inRows := rest, outRows := r.outRows ++ outs } }

/-! ### The cycles of a run -/

/-- Bring one row of a group into a run's input queue. -/
def CoreSt.runReads (c : CoreSt) (r : RunSt) (rows : List Nat) : CoreSt × RunSt × Bool :=
  let (c, ds, bad) := c.readRows r.bpc 1 rows
  (c, { r with inRows := r.inRows ++ ds }, bad)

/-- Issue the first `n` waiting output rows: full rows, or the bytes that hold elements (R154, R191). -/
def CoreSt.runWrites (bpc : Nat) : Nat → CoreSt → List (Nat × Row × Row) → CoreSt × List (Nat × Row × Row) × Bool
  | 0, c, l => (c, l, false)
  | _ + 1, c, [] => (c, [], false)
  | n + 1, c, (row, d, lanes) :: rest =>
    let (c, bad) := if lanes = BitVec.allOnes 256 then c.writeRow row d else c.writePart bpc 1 row d lanes
    let (c, rest, bad') := CoreSt.runWrites bpc n c rest
    (c, rest, bad || bad')

/-- The reads and writes of a run in a new core cycle (R155). -/
def CoreSt.runCycle (c : CoreSt) : CoreSt × List Cause :=
  match c.run with
  | none => (c, [])
  | some r =>
    if !r.checked then (c, [])
    else
      let d := r.desc
      let rel := c.now - r.issued
      let i := runI d
      let tin := runTin d
      let (c, r, e1) :=
        if 7 ≤ rel && decide ((rel - 7) / i < runIters d) && decide ((rel - 7) % i < tin) then
          c.runReads r (groupRows (runIns d) d ((rel - 7) / i) ((rel - 7) % i))
        else (c, r, false)
      let w0 := 23 + tin + runNops d
      let (c, r, e2) :=
        if w0 ≤ rel && decide ((rel - w0) / i < runIters d) && decide ((rel - w0) % i < runTout d) then
          let (c, rest, bad) := CoreSt.runWrites r.bpc
            (groupRows (runOuts d) d ((rel - w0) / i) ((rel - w0) % i)).length c r.outRows
          (c, { r with outRows := rest }, bad)
        else (c, r, false)
      ({ c with run := some r }, if e1 || e2 then [⟨0x07, r.bpc, 1⟩] else [])

/-- The reads of program loads in a new core cycle (R148). -/
def CoreSt.ploadRead (c : CoreSt) (issued slot addr bpc : Nat) : CoreSt × Bool :=
  let k := c.now - issued
  let (c, ds, bad) := c.readRows bpc 1 (rowsFrom (addr + 4 * k) 4)
  let old := mget (fun _ => (0 : BitVec 4096)) c.prog slot
  let lanes : BitVec 4096 := BitVec.ofNat 4096 ((2 ^ 1024 - 1) * 2 ^ (1024 * k))
  let new : BitVec 4096 := BitVec.ofNat 4096 ((catRows 1024 ds).toNat * 2 ^ (1024 * k))
  ({ c with prog := mset (fun _ => (0 : BitVec 4096)) c.prog slot (mergeBits old new lanes) }, bad)

/-- The reads of every program load in flight in a new core cycle. -/
def CoreSt.ploadCycle (c : CoreSt) : CoreSt × List Cause :=
  let c := { c with pload := c.pload.filter fun x => decide (c.now ≤ x.1 + 20) }
  c.pload.foldl
    (fun (acc : CoreSt × List Cause) x =>
      if acc.1.now ≤ x.1 + 3 then
        let (c, bad) := acc.1.ploadRead x.1 x.2.1 x.2.2.1 x.2.2.2
        (c, if bad then acc.2 ++ [⟨0x07, x.2.2.2, 1⟩] else acc.2)
      else acc)
    (c, [])

/-- The check of a run in its cycle c + 6: the cause, or the run with its length (R148, R155 to R157).
A descriptor that arrives poisoned is POISON's alone. -/
def CoreSt.runCheck (c : CoreSt) : CoreSt × List Cause :=
  match c.run with
  | none => (c, [])
  | some r =>
    if r.checked || decide (c.now < r.issued + 6) then (c, [])
    else if c.reads.any fun x => x.poison && x.issued == r.issued && x.slot == 1 then (c, [])
    else
      let d := r.desc
      let p := mget (fun _ => (0 : BitVec 4096)) c.prog (runProg d)
      let early := c.pload.any fun x => x.2.1 == runProg d && decide (r.issued < x.1 + 10)
      if runOk d p && !early then ({ c with run := some { r with checked := true, trun := runLen d } }, [])
      else (c, [⟨0x04, r.bpc, 1⟩])

/-- Whether the next iteration of a run is due: its last operation runs in this cycle (R155). -/
def CoreSt.iterDue (c : CoreSt) : Bool :=
  match c.run with
  | none => false
  | some r =>
    r.checked && decide (r.iter < runIters r.desc) &&
      decide (r.issued + 12 + runTin r.desc + r.iter * runI r.desc + runNops r.desc - 1 ≤ c.now)

/-- Run the iteration that is due. -/
def CoreSt.iterStep (c : CoreSt) : CoreSt :=
  if c.iterDue then (match c.run with | some r => c.runIterate r | none => c) else c

/-- End a run in its cycle c + TRUN - 1 (R155). -/
def CoreSt.runEnd (c : CoreSt) : CoreSt :=
  match c.run with
  | none => c
  | some r => if r.checked && decide (r.issued + r.trun ≤ c.now + 1) then { c with run := none } else c

/-! ### The causes of a cycle -/

/-- The faults of a write into activation table `t` while a drain uses it (R123). -/
def CoreSt.actInUse (c : CoreSt) (t : Nat) : List (Nat × Nat × Nat) :=
  (c.mx.drains.filter fun d => fAct d.desc && fTab d.desc == t).map fun d => (0x05, d.bpc, 0)

/-- Whether a program holds a LUT operation on table `t` among its first `n` operations. -/
def progUsesLut (p : BitVec 4096) (n t : Nat) : Bool :=
  (List.range n).any fun k => (progOp p k).1 == 0x31 && (progOp p k).2.imm.toNat / 256 % 4 == t

/-- The faults of a write into lookup table `t` while a LUT operation or a run uses it (R142). -/
def CoreSt.lutInUse (c : CoreSt) (t : Nat) : List (Nat × Nat × Nat) :=
  ((c.vpend.filter fun p => p.lutTab == some t).map fun p => (0x05, p.bpc, 1)) ++
    (match c.run with
     | none => []
     | some r =>
       if progUsesLut (mget (fun _ => (0 : BitVec 4096)) c.prog (runProg r.desc)) (runNops r.desc) t then
         [(0x05, r.bpc, 1)]
       else [])

/-- The faults of a write into a table: an activation table, or a lookup table (R123, R142). -/
def CoreSt.tabInUse (c : CoreSt) (act : Bool) (t : Nat) : List (Nat × Nat × Nat) :=
  if act then c.actInUse t else c.lutInUse t

/-- The faults of the tables that copies have written in the present cycle, or, with `held`, in the hold behind it: the
operation that uses one was in flight at the start of the cycle or has been issued in it (R123, R142). -/
def Core.tabCauses (x : Core) (held : Bool) : List (Nat × Nat × Nat) :=
  (x.cur.tabs.filter fun w => w.2.2 == held).flatMap fun w =>
    x.cur.tabInUse w.1 w.2.1 ++ (if held then [] else x.beg.tabInUse w.1 w.2.1)

/-- Whether the fetched bundle waits: its FL slot holds a wait, and no slot breaks its encoding (R166, R183). -/
def CoreSt.bundleWaits (x : CoreSt) : Bool :=
  decide (1 ≤ fld x.bundle 252 4) && decide (fld x.bundle 252 4 ≤ 3) && (badSlots x.bundle).isEmpty

/-- Whether every slot of the fetched bundle has issued in the present cycle: a NOP does nothing, a slot that breaks its
encoding is a cause of the cycle, and a wait has been satisfied before it (R165, R166, R183). -/
def CoreSt.slotsDone (x : CoreSt) : Bool :=
  (List.range 7).all fun k =>
    (x.slotWord k >>> ((slotAt k).2 - (if k = 1 || k = 2 then 6 else 4))) == 0 || x.acted.contains k ||
      (badSlots x.bundle).contains k || (k == 6 && x.bundleWaits)

/-- Whether the bundle of the present cycle has issued whole: only then does a fault of the cycle show every cause of it
(R202, R203). -/
def Core.bundleDone (x : Core) : Bool := x.beg.phase != .running || x.cur.slotsDone

/-- Every cause of the present cycle: those noted, and those of the tables that copies have written in it (R202). -/
def Core.cycleCauses (x : Core) : List Cause :=
  x.cur.dueCauses ++ (x.tabCauses false).map fun k => ⟨k.1, k.2.1, k.2.2⟩

/-! ### Commands -/

/-- VX.PLOAD: 16 rows into a program slot, 4 in each of four cycles (R148, R156, R596). -/
def execVxPload (c : CoreId) (f : VxAddr) (s : State) : Host.Outcome State Fault Refusal :=
  .next (s.slotOp c 1 (vxAddrWord 0x2E f) (f.rsv == 0) fun beg cur =>
    let a := f.addr.toNat
    let inUse := match beg.run with
      | some r => decide (r.issued + 6 ≤ cur.now) && beg.vxBusy && runProg r.desc == f.p.toNat
      | none => false
    let causes := (if inUse then [0x04] else []) ++ (if 4095 < a + 15 then [0x06] else [])
    if !causes.isEmpty then (causes, cur)
    else
      let cur := { cur with pload := cur.pload ++ [(cur.now, f.p.toNat, a, cur.bpc)] }
      let (cur, bad) := cur.ploadRead cur.now f.p.toNat a cur.bpc
      if bad then ([0x07], cur) else ([], cur))

/-- VX.RUN: reads its descriptor row and takes the VXE (R150, R155, R156). -/
def execVxRun (c : CoreId) (f : VxAddr) (s : State) : Host.Outcome State Fault Refusal :=
  .next (s.slotOp c 1 (vxAddrWord 0x2F f) (f.rsv == 0 && f.p == 0) fun beg cur =>
    if beg.vxBusy then ([0x04], cur)
    else
      let (cur, d, bad) := cur.readRow cur.bpc 1 0 f.addr.toNat .none
      if bad then ([0x07], cur)
      else ([], { cur with run := some { issued := cur.now, bpc := cur.bpc, desc := d, checked := false,
                                         trun := 0, iter := 0, inRows := [], outRows := [] } }))

/-- RUN_DESCRIPTOR_CHECK: the check of a run six cycles after its issue (R157); a fault takes place once the bundle of the
cycle has issued whole (R202, R203). -/
def execRunDescriptorCheck (c : CoreId) (s : State) : Host.Outcome State Fault Refusal :=
  .next (
    let x := s.core c
    if x.cur.active then
      match x.cur.runCheck with
      | (y, []) => s.modCur c fun _ => y
      | (_, ks) => if x.bundleDone then s.coreFault c (x.cycleCauses ++ ks) else s
    else s)

/-- RUN_ITERATION: one iteration of a run (R152 to R154). -/
def execRunIteration (c : CoreId) (s : State) : Host.Outcome State Fault Refusal :=
  .next (if (s.cur c).active then s.modCur c CoreSt.iterStep else s)

/-- RUN_COMPLETE: a run reaches the end of TRUN and the VXE is free again (R155). -/
def execRunComplete (c : CoreId) (s : State) : Host.Outcome State Fault Refusal :=
  .next (if (s.cur c).active then s.modCur c CoreSt.runEnd else s)

end Sys2Proof.Machine
end

