-- ==== Sys2Proof/Machine/Mem.lean ====
section
/-! DEFINITION. The memory tiers as copies, hosts and windows reach them: the partition HBM space
(R227), 32-byte units of each space (R208), granules and their marks (R209, R250, R251), fenced
pseudo-channels (R232), table stores (R121, R123, R142, R252) and the memory-side adder (R242 to R244). -/

namespace Sys2Proof.Machine

open Sys2Proof

/-! ### Places -/

/-- Whether a pseudo-channel is fenced or in a lost stack (R232, R234). -/
def State.pcOut (s : State) (pc : Nat) : Bool :=
  s.odBit (odAt odPcFenced (pc / 32)) (pc % 32) || s.odBit odHbmStacksLost (pc / 32)

/-- The byte key of an offset in a pseudo-channel. -/
def hbmKey (pc off : Nat) : Nat := 2 ^ 31 * pc + off

/-- The key of a byte of a partition's HBM space (R227). -/
def Part.hbmAt (p : Part) (a : Nat) : Nat :=
  let l := a / 256
  let m := p.chans.length
  hbmKey (p.chans.getD (l % m) 0) (p.base + 256 * (l / m) + a % 256)

/-- The site behind a partition-relative cluster index. -/
def Part.siteOf (p : Part) (i : Nat) : Option SiteId := (p.sites.getD i none)
/-- The core that an address of LSP, ACT or LUT names (R208). -/
def Part.coreAt (p : Part) (a : Nat) : Option CoreId := (p.siteOf (adCluster a)).map fun x => 16 * x + adCore a

/-- Whether an offset of a pseudo-channel lies in a partition's extent (R227). -/
def Part.holds (p : Part) (pc off : Nat) : Bool :=
  p.composed && p.chans.contains pc && decide (p.base ≤ off) && decide (off < p.base + p.span)

/-- Whether a byte's pseudo-channel is out for its reader: fenced, lost, or rejoined since the last remap of
the partition that holds the byte (R232 to R234). -/
def State.hbmGone (s : State) (key : Nat) : Bool :=
  let pc := key / 2 ^ 31
  s.pcOut pc || s.health.stale.any fun x => x.2 == pc && (s.part x.1).holds pc (key % 2 ^ 31)

/-- Whether a byte of HBM is out for a reader on the mesh: gone, or behind a controller whose router has
stopped (R367, R372). -/
def State.hbmOut (s : State) (key : Nat) : Bool :=
  s.hbmGone key || s.mesh.active.faulty.contains (stackSite (key / 2 ^ 36))

/-- The partition that holds a byte of HBM, and the byte's address in its space (R227). -/
def State.hbmOwner (s : State) (key : Nat) : Option (Nat × Nat) :=
  let pc := key / 2 ^ 31
  let off := key % 2 ^ 31
  ((List.range 32).find? fun p => (s.part p).holds pc off).map fun p =>
    let x := s.part p
    let r := off - x.base
    (p, 256 * (x.chans.length * (r / 256) + x.chans.idxOf pc) + r % 256)

/-- Whether the port of a site lets a request in at once: in a change stop it waits for CCLK (R363, R387). -/
def State.portTakes (s : State) (site : SiteId) : Bool := (s.cl site).port == .opened && !s.stopped site
/-- Whether the port of a site discards requests (R363). -/
def State.portDrops (s : State) (site : SiteId) : Bool :=
  (s.cl site).port == .dark || (s.cl site).port == .reset

/-- A cluster memory byte's key: site and offset. -/
def cmemKey (site off : Nat) : Nat := 2 ^ 23 * site + off

/-! ### Reading 32-byte units and marks -/

/-- 32 bytes of HBM at a key, and whether they are poisoned (R232). -/
def State.hbmUnit (s : State) (key : Nat) : Nat × Bool :=
  if s.hbmOut key then (0, true)
  else (ofLe (mgetRange zB s.hbm key 32), mget zF s.hbmPoison (key / 64))

/-- Unit `i` from an address of a space, and whether it is poisoned (R208, R232, R250). What lies behind a
port that discards requests reads as zeros with poison (R363, R367; log 20). -/
def State.unitRead (s : State) (p : Part) (sp a i : Nat) : Nat × Bool :=
  if sp = 2 then s.hbmUnit (p.hbmAt (a + 32 * i))
  else
    match p.siteOf (adCluster a) with
    | none => (0, true)
    | some site =>
      if s.portDrops site then (0, true)
      else if sp = 0 then
        let c := s.cur (16 * site + adCore a)
        let row := a % 4096 + i
        ((mget zR c.lsp row).toNat, mget zF c.lspPoison row)
      else
        let key := cmemKey site (a % 2 ^ 23 + 32 * i)
        (ofLe (mgetRange zB s.cmem key 32), mget zF s.cmemPoison (key / 64))

/-- The units of a range. -/
def State.unitsRead (s : State) (p : Part) (sp a n : Nat) : List (Nat × Bool) :=
  (List.range n).map (s.unitRead p sp a)

/-- The overflow and poison marks of granule `g` from an address of CMEM or HBM (R248). -/
def State.marksAt (s : State) (p : Part) (sp a g : Nat) : Bool × Bool :=
  if sp = 2 then
    let key := p.hbmAt (a + 64 * g)
    if s.hbmOut key then (false, true)
    else (mget zF s.hbmOvf (key / 64), mget zF s.hbmPoison (key / 64))
  else
    match p.siteOf (adCluster a) with
    | none => (false, true)
    | some site =>
      if s.portDrops site then (false, true)
      else
        let key := cmemKey site (a % 2 ^ 23 + 64 * g)
        (mget zF s.cmemOvf (key / 64), mget zF s.cmemPoison (key / 64))

/-! ### Marks of written granules -/

/-- The poison mark of a granule after a write (R251): a whole clean write clears it, poisoned bytes set
it, and a clean partial write leaves it. -/
def markPoison (m : SMap Bool) (g : Nat) (whole poison : Bool) : SMap Bool :=
  if poison then mset zF m g true else if whole then mset zF m g false else m
/-- The overflow mark of a granule after a write (R251). -/
def markOvf (m : SMap Bool) (g : Nat) (whole : Bool) : SMap Bool := if whole then mset zF m g false else m

/-- Write 32 bytes of HBM at a key (R232, R251). -/
def State.hbmPut (s : State) (key v : Nat) (whole poison : Bool) : State :=
  if s.hbmOut key then s
  else { s with hbm := msetRange zB s.hbm key (leBytes 32 v)
                hbmPoison := markPoison s.hbmPoison (key / 64) whole poison
                hbmOvf := markOvf s.hbmOvf (key / 64) whole }

/-- Write 32 bytes of CMEM at a key (R251). -/
def State.cmemPut (s : State) (key v : Nat) (whole poison : Bool) : State :=
  { s with cmem := msetRange zB s.cmem key (leBytes 32 v)
           cmemPoison := markPoison s.cmemPoison (key / 64) whole poison
           cmemOvf := markOvf s.cmemOvf (key / 64) whole }

/-- Write a row through the copy port (R197, R198, R250). -/
def CoreSt.copyRow (c : CoreSt) (row v : Nat) (poison : Bool) : CoreSt :=
  { c with lsp := mset zR c.lsp row (BitVec.ofNat 256 v)
           lspPoison := if poison then poisonPair c.lspPoison row else mset zF c.lspPoison row false
           wback := c.wback.filter fun r => !(r == row) }

/-! ### The table stores -/

/-- A copy writes a table of a core with work in flight. In an open cycle, or in a hold that follows it, the write is kept,
and whether the table is in use is found when the cycle ends, with all of its slots issued; before a cycle the core is
frozen, and what is found strikes in it (R123, R142; log 86). -/
def CoreSt.tabWrite (c : CoreSt) (act : Bool) (t : Nat) : CoreSt :=
  if !((c.phase == .running || c.phase == .ended) && c.started) then c
  else match c.freeze with
    | .none => { c with tabs := c.tabs ++ [(act, t, false)] }
    | .hold _ => { c with tabs := c.tabs ++ [(act, t, true)] }
    | .replay _ => { c with tabs := c.tabs ++ [(act, t, true)] }
    | _ => { c with late := c.late ++ c.tabInUse act t }

/-- Write unit `u` of the activation store (R121, R123). -/
def CoreSt.actPut (c : CoreSt) (u v : Nat) (poison : Bool) : CoreSt :=
  CoreSt.tabWrite
    { c with act := msetRange zB c.act (32 * u) (leBytes 32 v)
             actMark := if poison then mset zF c.actMark (u / 129) true else c.actMark } true (u / 129)

/-- Write unit `u` of the lookup store: eight entries (R142, R208). -/
def CoreSt.lutPut (c : CoreSt) (u v : Nat) (poison : Bool) : CoreSt :=
  CoreSt.tabWrite
    { c with lut := msetRange zW c.lut (8 * u) ((List.range 8).map fun k => BitVec.ofNat 32 (v / 2 ^ (32 * k)))
             lutMark := if poison then mset zF c.lutMark (u / 32) true else c.lutMark } false (u / 32)

/-- Clear the marks of the tables that a clean write covers whole (R252): `w` units a table. -/
def clearTables (m : SMap Bool) (w u n : Nat) (bad : Nat → Bool) : SMap Bool :=
  (List.range 8).foldl
    (fun m t => if decide (u ≤ w * t) && decide (w * t + w ≤ u + n) && !bad t then mset zF m t false else m) m

/-! ### Writing a range -/

/-- Whether granule-half partners of unit `i` lie in a range of `n` units from unit index `u`. -/
def wholeAt (u n i : Nat) : Bool :=
  if (u + i) % 2 = 0 then decide (i + 1 < n) else decide (1 ≤ i)

/-- Whether the granule of unit `i` receives poisoned bytes of a range from unit index `u` (R250). -/
def poisonAt (u i : Nat) (xs : List (Nat × Bool)) : Bool :=
  let one (k : Nat) : Bool := ((xs.getD k (0, false)).2)
  if (u + i) % 2 = 0 then one i || one (i + 1) else (decide (1 ≤ i) && one (i - 1)) || one i

/-- Whether a write of unit `i` from an address of a space is dropped at its place (R232, R363, R367). -/
def State.unitDrops (s : State) (p : Part) (sp a i : Nat) : Bool :=
  if sp = 2 then s.hbmOut (p.hbmAt (a + 32 * i))
  else match p.siteOf (adCluster a) with
    | none => true
    | some site => s.portDrops site

/-- Write one unit of a range of `n` units at an address of a space, with the range's poison. -/
def State.unitWrite (s : State) (p : Part) (sp a n i : Nat) (x : Nat × Bool) (xs : List (Nat × Bool)) : State :=
  let u := adUnit sp a
  let gp := poisonAt u i xs
  let wh := wholeAt u n i
  if sp = 2 then
    let key := p.hbmAt (a + 32 * i)
    if s.hbmOut key then
      (if i = 0 || (a + 32 * i) % 256 = 0 then s.odAdd odHbmFencedDropCount 1 else s)
    else s.hbmPut key x.1 wh gp
  else
    match p.siteOf (adCluster a) with
    | none => s
    | some site =>
      if s.portDrops site then (if i = 0 || (a + 32 * i) % 256 = 0 then s.portDrop site else s)
      else if sp = 1 then s.cmemPut (cmemKey site (a % 2 ^ 23 + 32 * i)) x.1 wh gp
      else
        let core := 16 * site + adCore a
        if sp = 0 then s.modBoth core fun c => c.copyRow (a % 4096 + i) x.1 gp
        else if sp = 4 then s.modBoth core fun c => c.actPut (a % 65536 / 32 + i) x.1 x.2
        else s.modBoth core fun c => c.lutPut (a % 65536 / 32 + i) x.1 x.2

/-- The granules of a range that a write marks poisoned: those that receive poison and are not dropped (R253). -/
def State.carried (s : State) (p : Part) (sp a : Nat) (xs : List (Nat × Bool)) : Nat :=
  let u := adUnit sp a
  ((List.range xs.length).filter fun i => poisonAt u i xs && ((u + i) % 2 == 0 || i == 0) && !s.unitDrops p sp a i).length

/-- Write a range of units at an address of a space (R219, R250 to R253). -/
def State.rangeWrite (s : State) (p : Part) (sp a : Nat) (xs : List (Nat × Bool)) : State :=
  let n := xs.length
  let k := if sp ≤ 2 then s.carried p sp a xs else 0
  let s := (xs.zipIdx).foldl (fun s xi => s.unitWrite p sp a n xi.2 xi.1 xs) s
  let s := s.odAdd odCopyPoisonCarriedCount k
  if sp = 4 || sp = 5 then
    match p.coreAt a with
    | none => s
    | some c =>
      let w := if sp = 4 then 129 else 32
      let u := a % 65536 / 32
      let bad (t : Nat) : Bool := (xs.zipIdx).any fun xi => xi.1.2 && (u + xi.2) / w == t
      s.modBoth c fun c =>
        if sp = 4 then { c with actMark := clearTables c.actMark w u n bad }
        else { c with lutMark := clearTables c.lutMark w u n bad }
  else s

/-! ### The memory-side adder -/

/-- The width of a wide partial. -/
def wpBits (wp32 : Bool) : Nat := if wp32 then 32 else 64

/-- Whether a wide-partial value is a special code (R116). -/
def wpSpecial (w : Nat) (v : Int) : Bool :=
  v == -(2 ^ (w - 1) : Nat) || v == -((2 ^ (w - 1) : Nat) - 1 : Int) || v == ((2 ^ (w - 1) : Nat) - 1 : Int)

/-- The combination of two special codes (R102, R116). -/
def wpCombine (w : Nat) (a b : Int) : Int := if a == b then a else -(2 ^ (w - 1) : Nat)

/-- A source value realigned to the destination exponent: an addend, or a special code (R241, R244). -/
def wpRealign (w : Nat) (v eSrc eDst : Int) : Int × Bool :=
  if wpSpecial w v then (v, true) else (shiftI v (eSrc - eDst), false)

/-- One add into a destination value: the value, and whether the overflow mark is set (R242, R244). -/
def wpAdd (w guard : Nat) (dst : Int) (x : Int × Bool) : Int × Bool :=
  let lim : Int := (2 ^ (w - 1) : Nat) - 2
  if x.2 then
    ((if wpSpecial w dst then wpCombine w dst x.1 else x.1), false)
  else
    let bound : Int := (2 ^ (w - 1 - guard) : Nat) - 2
    let sat (y : Int) : Int := if y < 0 then -lim else lim
    if (x.1.natAbs : Int) ≤ bound then
      if wpSpecial w dst then (dst, false)
      else
        let y := dst + x.1
        if (y.natAbs : Int) ≤ lim then (y, false) else (sat y, true)
    else ((if wpSpecial w dst then dst else sat x.1), true)

/-- Add a granule of addends into 64 bytes (R243): the new bytes, and the overflow mark. -/
def wpGranule (wp32 : Bool) (guard : Nat) (bytes : List Byte) (adds : List (Int × Bool)) : List Byte × Bool :=
  let w := wpBits wp32
  let vals := (List.range (512 / w)).map fun i => sgn w (ofLe ((bytes.drop (w / 8 * i)).take (w / 8)))
  let out := (vals.zip adds).map fun va => wpAdd w guard va.1 va.2
  (out.flatMap fun r => leBytes (w / 8) (wrapI w r.1), out.any (·.2))

/-- The addends of a granule of source bytes (R241). -/
def wpAddends (wp32 : Bool) (v : Nat) (eSrc eDst : Int) : List (Int × Bool) :=
  let w := wpBits wp32
  (List.range (512 / w)).map fun i => wpRealign w (sgn w (v / 2 ^ (w * i))) eSrc eDst

/-- Whether an add to a key is dropped (R232, R363). -/
def State.addDrops (s : State) (hbm : Bool) (key : Nat) : Bool :=
  if hbm then s.hbmOut key else s.portDrops (key / 2 ^ 23)

/-- Apply one granule of addends to CMEM or HBM at a key (R232, R243, R251, R363): the flag says that its
overflow mark was set by this add. -/
def State.addGranule (s : State) (hbm : Bool) (key : Nat) (wp32 : Bool) (guard : Nat)
    (adds : List (Int × Bool)) (poison : Bool) : State × Bool :=
  if hbm then
    if s.hbmOut key then (s.odAdd odHbmFencedDropCount 1, false)
    else
      let (b, o) := wpGranule wp32 guard (mgetRange zB s.hbm key 64) adds
      ({ s with hbm := msetRange zB s.hbm key b
                hbmPoison := if poison then mset zF s.hbmPoison (key / 64) true else s.hbmPoison
                hbmOvf := if o then mset zF s.hbmOvf (key / 64) true else s.hbmOvf }, o)
  else if s.portDrops (key / 2 ^ 23) then (s.portDrop (key / 2 ^ 23), false)
  else
    let (b, o) := wpGranule wp32 guard (mgetRange zB s.cmem key 64) adds
    ({ s with cmem := msetRange zB s.cmem key b
              cmemPoison := if poison then mset zF s.cmemPoison (key / 64) true else s.cmemPoison
              cmemOvf := if o then mset zF s.cmemOvf (key / 64) true else s.cmemOvf }, o)

end Sys2Proof.Machine
end

