-- ==== Sys2Proof/Machine/Seq.lean ====
section
/-! DEFINITION. The SEQ slot (R169 to R175): scalar arithmetic, branches and loops, the counters, the
mailbox operations and END. -/

namespace Sys2Proof.Machine

open Sys2Proof

/-- A SEQ operation: its encoding check, the parity of the registers it reads (R517), then `k`. -/
def seqOp (op : Nat) (c : CoreId) (f : SeqSlot) (s : State)
    (k : CoreSt → CoreSt → List Nat × CoreSt) : State :=
  s.slotOp c 2 (seqWord op f) (seqEncOk op f) fun beg cur =>
    if beg.sBad f.sa.toNat || beg.sBad f.sb.toNat || (op == 0x19 && beg.sBad f.sd.toNat) then ([0x0D], cur)
    else k beg cur

/-- A SEQ operation that writes SD at the end of its issue cycle (R167, R170); `g` computes from SA
and SB as they stand at the start of the cycle (R166). -/
def seqArith (op : Nat) (c : CoreId) (f : SeqSlot) (s : State) (g : W32 → W32 → W32) :
    Host.Outcome State Fault Refusal :=
  .next (seqOp op c f s fun beg cur =>
    ([], cur.setS f.sd.toNat 1 (g (beg.s f.sa.toNat) (beg.s f.sb.toNat))))

/-- IMM sign-extended to 32 bits. -/
def seqSx (f : SeqSlot) : W32 := f.imm.signExtend 32

/-- SEQ.NOP: no effect (R170). -/
def execSeqNop (c : CoreId) (f : SeqSlot) (s : State) : Host.Outcome State Fault Refusal :=
  .next (seqOp 0x00 c f s fun _ cur => ([], cur))

/-- MOVI: SD = sx(IMM) (R170). -/
def execMovi (c : CoreId) (f : SeqSlot) (s : State) : Host.Outcome State Fault Refusal :=
  seqArith 0x01 c f s fun _ _ => seqSx f

/-- ORHI: SD = SA or IMM × 2^16 (R170). -/
def execOrhi (c : CoreId) (f : SeqSlot) (s : State) : Host.Outcome State Fault Refusal :=
  seqArith 0x02 c f s fun a _ => a ||| (f.imm.zeroExtend 32 <<< 16)

/-- ADD: SD = SA + SB (R170). -/
def execSeqAdd (c : CoreId) (f : SeqSlot) (s : State) : Host.Outcome State Fault Refusal :=
  seqArith 0x03 c f s fun a b => a + b

/-- SUB: SD = SA - SB (R170). -/
def execSeqSub (c : CoreId) (f : SeqSlot) (s : State) : Host.Outcome State Fault Refusal :=
  seqArith 0x04 c f s fun a b => a - b

/-- ADDI: SD = SA + sx(IMM) (R170). -/
def execAddi (c : CoreId) (f : SeqSlot) (s : State) : Host.Outcome State Fault Refusal :=
  seqArith 0x05 c f s fun a _ => a + seqSx f

/-- MUL: the low 32 bits of SA × SB (R170). -/
def execSeqMul (c : CoreId) (f : SeqSlot) (s : State) : Host.Outcome State Fault Refusal :=
  seqArith 0x06 c f s fun a b => a * b

/-- AND (R170). -/
def execSeqAnd (c : CoreId) (f : SeqSlot) (s : State) : Host.Outcome State Fault Refusal :=
  seqArith 0x07 c f s fun a b => a &&& b

/-- OR (R170). -/
def execSeqOr (c : CoreId) (f : SeqSlot) (s : State) : Host.Outcome State Fault Refusal :=
  seqArith 0x08 c f s fun a b => a ||| b

/-- XOR (R170). -/
def execSeqXor (c : CoreId) (f : SeqSlot) (s : State) : Host.Outcome State Fault Refusal :=
  seqArith 0x09 c f s fun a b => a ^^^ b

/-- SHLI: SA shifted left by IMM[4:0] (R170). -/
def execShli (c : CoreId) (f : SeqSlot) (s : State) : Host.Outcome State Fault Refusal :=
  seqArith 0x0A c f s fun a _ => a <<< (f.imm.toNat % 32)

/-- SHRI: SA shifted right by IMM[4:0] (R170). -/
def execShri (c : CoreId) (f : SeqSlot) (s : State) : Host.Outcome State Fault Refusal :=
  seqArith 0x0B c f s fun a _ => a >>> (f.imm.toNat % 32)

/-- SRAI: SA shifted right by IMM[4:0] with its sign (R170). -/
def execSrai (c : CoreId) (f : SeqSlot) (s : State) : Host.Outcome State Fault Refusal :=
  seqArith 0x0C c f s fun a _ => a.sshiftRight (f.imm.toNat % 32)

/-- SLT: 1 if SA < SB signed (R170). -/
def execSlt (c : CoreId) (f : SeqSlot) (s : State) : Host.Outcome State Fault Refusal :=
  seqArith 0x0D c f s fun a b => if a.slt b then 1 else 0

/-- SLTU: 1 if SA < SB unsigned (R170). -/
def execSltu (c : CoreId) (f : SeqSlot) (s : State) : Host.Outcome State Fault Refusal :=
  seqArith 0x0E c f s fun a b => if a.ult b then 1 else 0

/-! ### Branches and loops -/

/-- Whether an address lies in a loop's body (R172). -/
def LoopSt.has (l : LoopSt) (a : Nat) : Bool := decide (l.first ≤ a) && decide (a ≤ l.last)

/-- A branch from the bundle at issue: in a delay bundle, and taken from one of the last two bundles of
an open loop's body, it faults; taken, it closes the loops that do not hold its target, and its target
issues after two delay bundles (R171, R172). -/
def branchOp (op : Nat) (c : CoreId) (f : SeqSlot) (s : State) (taken : W32 → Bool) :
    Host.Outcome State Fault Refusal :=
  .next (seqOp op c f s fun beg cur =>
    let a := cur.bpc
    if beg.branch.isSome then ([0x08], cur)
    else if !taken (beg.s f.sa.toNat) then ([], cur)
    else if beg.loops.any fun l => l.has a && decide (l.last ≤ a + 1) then ([0x08], cur)
    else ([], { cur with branch := some (2, f.tgt.toNat), loops := cur.loops.filter fun l => l.has f.tgt.toNat }))

/-- Open a loop of `n` iterations (R172). -/
def loopOp (op : Nat) (c : CoreId) (f : SeqSlot) (s : State) (n : W32 → Nat) :
    Host.Outcome State Fault Refusal :=
  .next (seqOp op c f s fun beg cur =>
    let a := cur.bpc
    let k := n (beg.s f.sa.toNat)
    if beg.branch.isSome || decide (f.tgt.toNat < a + 1) || decide (4 ≤ beg.loops.length) || k == 0 then
      ([0x08], cur)
    else ([], { cur with loops := ⟨a + 1, f.tgt.toNat, k - 1⟩ :: cur.loops }))

/-- JUMP: a taken branch to TGT (R170, R171). -/
def execJump (c : CoreId) (f : SeqSlot) (s : State) : Host.Outcome State Fault Refusal :=
  branchOp 0x10 c f s fun _ => true

/-- BEQZ: taken if SA = 0 (R170, R171). -/
def execBeqz (c : CoreId) (f : SeqSlot) (s : State) : Host.Outcome State Fault Refusal :=
  branchOp 0x11 c f s fun a => a == 0

/-- BNEZ: taken if SA ≠ 0 (R170, R171). -/
def execBnez (c : CoreId) (f : SeqSlot) (s : State) : Host.Outcome State Fault Refusal :=
  branchOp 0x12 c f s fun a => a != 0

/-- BLTZ: taken if SA < 0 signed (R170, R171). -/
def execBltz (c : CoreId) (f : SeqSlot) (s : State) : Host.Outcome State Fault Refusal :=
  branchOp 0x13 c f s fun a => a.msb

/-- LOOP: a loop of SA iterations (R172). -/
def execLoop (c : CoreId) (f : SeqSlot) (s : State) : Host.Outcome State Fault Refusal :=
  loopOp 0x14 c f s fun a => a.toNat

/-- LOOPI: a loop of IMM + 1 iterations (R172). -/
def execLoopi (c : CoreId) (f : SeqSlot) (s : State) : Host.Outcome State Fault Refusal :=
  loopOp 0x15 c f s fun _ => f.imm.toNat + 1

/-- The bundle that issues after the one at `bpc`, and the loops then: each open loop that ends here is tested, the
innermost first (R172). 2,048 says that sequential issue has passed the last bundle. -/
def loopEnd (bpc : Nat) : List LoopSt → Nat × List LoopSt
  | [] => (bpc + 1, [])
  | l :: ls =>
    if l.last = bpc then
      (if l.left = 0 then loopEnd bpc ls else (l.first, { l with left := l.left - 1 } :: ls))
    else
      let (a, ls') := loopEnd bpc ls
      (a, l :: ls')

/-- The loops after a delay bundle of a taken branch: one that ends here with iterations left is not tested and keeps
its count; one that has none left is finished (R172). -/
def loopDelay (bpc : Nat) : List LoopSt → List LoopSt
  | [] => []
  | l :: ls =>
    if l.last = bpc then (if l.left = 0 then loopDelay bpc ls else l :: ls) else l :: loopDelay bpc ls

/-- The next bundle address of a core, with its branch and loops (R171, R172). -/
def CoreSt.advancePc (c : CoreSt) : CoreSt :=
  match c.branch with
  | some (0, t) => { c with pc := t, branch := none, loops := loopDelay c.bpc c.loops }
  | some (k + 1, t) =>
    -- with two delay bundles to come, this is the bundle of the branch itself
    { c with pc := c.bpc + 1, branch := some (k, t),
             loops := if k = 0 then loopDelay c.bpc c.loops else c.loops }
  | none =>
    let (a, ls) := loopEnd c.bpc c.loops
    { c with pc := a, loops := ls }

/-! ### Counters and mailboxes -/

/-- Whether a slot operation with the word `w` issues now (R165, R166). -/
def State.slotIssues (s : State) (c : CoreId) (slot w : Nat) : Bool :=
  (s.core c).ready && (s.cur c).slotDue slot w

/-- RDC: SD = counter IMM; a low half latches its high half (R173). A read of device time is taken at a free moment of the
present µs, not before any earlier read in it (R396, R400; log 5). -/
def execRdc (c : CoreId) (f : SeqSlot) (s : State) : Host.Outcome State Fault Refusal :=
  let k := f.imm.toNat
  let s := if k = 6 && s.slotIssues c 2 (seqWord 0x18 f) then s.runFree (coreSiteOf c) else s
  let dt := BitVec.ofNat 64 (s.clusterDt (coreSiteOf c))
  let own := s.ownerOf c
  let lo (x : W64) : W32 := x.extractLsb' 0 32
  let hi (x : W64) : W32 := x.extractLsb' 32 32
  .next (seqOp 0x18 c f s fun beg cur =>
    let v : W32 :=
      if k = 0 then lo beg.cyc else if k = 1 then beg.latCyc
      else if k = 2 then lo beg.holdCyc else if k = 3 then beg.latHold
      else if k = 4 then lo beg.waitCyc else if k = 5 then beg.latWait
      else if k = 6 then lo dt else if k = 7 then beg.latDt
      else if k = 8 then BitVec.ofNat 32 (coreIdx c)
      else if k = 9 then BitVec.ofNat 32 ((own.map (·.2)).getD 0)
      else BitVec.ofNat 32 ((own.map fun o => (s.part o.1).sites.length).getD 0)
    let cur := cur.setS f.sd.toNat 1 v
    ([], { cur with latCyc := if k = 0 then hi beg.cyc else cur.latCyc
                    latHold := if k = 2 then hi beg.holdCyc else cur.latHold
                    latWait := if k = 4 then hi beg.waitCyc else cur.latWait
                    latDt := if k = 6 then hi dt else cur.latDt }))

/-- POST: pointer SB × 2^32 + SA, tag SD, to the receiver IMM; it leaves the core in cycle c + 4, after
the LSP writes issued up to it (R174, R186, R336). -/
def execPost (c : CoreId) (f : SeqSlot) (s : State) : Host.Outcome State Fault Refusal :=
  .next (seqOp 0x19 c f s fun beg cur =>
    let p : BitVec 64 := beg.s f.sb.toNat ++ beg.s f.sa.toNat
    ([], { cur with postPend := cur.postPend ++
            [(cur.cyc.toNat, f.imm.toNat, ⟨p, beg.s f.sd.toNat, 0, false⟩)] }))

/-- MRD: the oldest message of channel IMM into SD to SD + 3; four zeros from an empty channel
(R174, R337). -/
def execMrd (c : CoreId) (f : SeqSlot) (s : State) : Host.Outcome State Fault Refusal :=
  .next (seqOp 0x1A c f s fun _ cur =>
    let ch := f.imm.toNat
    let q := mget (fun _ => []) cur.mb ch
    let (p, t, x, last) : BitVec 64 × W32 × W32 × MbLast :=
      match q with
      | [] => (0, 0, 0, .empty)
      | i :: _ => (i.pointer, i.tag, BitVec.ofNat 32 (i.src.toNat + (if i.ack then 65536 else 0)),
                   if i.ack then .ack else .msg i.src)
    let d := f.sd.toNat
    let cur := (((cur.setS d 1 (p.extractLsb' 0 32)).setS (d + 1) 1 (p.extractLsb' 32 32)).setS (d + 2) 1 t).setS
      (d + 3) 1 x
    ([], { cur with mb := mset (fun _ => []) cur.mb ch q.tail,
                    mbLast := mset (fun _ => MbLast.none) cur.mbLast ch last }))

/-- MACK: acknowledges the message last read from channel IMM with return code SA; with nothing to
acknowledge it has no effect (R174). -/
def execMack (c : CoreId) (f : SeqSlot) (s : State) : Host.Outcome State Fault Refusal :=
  .next (seqOp 0x1B c f s fun beg cur =>
    let ch := f.imm.toNat
    match mget (fun _ => MbLast.none) cur.mbLast ch with
    | .msg src =>
      ([], { cur with mbLast := mset (fun _ => MbLast.none) cur.mbLast ch .none,
                      ackPend := cur.ackPend ++ [(cur.cyc.toNat, src, beg.s f.sa.toNat)] })
    | _ => ([], cur))

/-- END: no later bundle issues; what is in flight completes (R175). In a delay bundle it faults (R171). -/
def execSeqEnd (c : CoreId) (f : SeqSlot) (s : State) : Host.Outcome State Fault Refusal :=
  .next (seqOp 0x1F c f s fun beg cur =>
    if beg.branch.isSome then ([0x08], cur) else ([], { cur with phase := .ended }))

end Sys2Proof.Machine
end

