-- ==== Sys2Proof/Machine/CoreMem.lean ====
section
/-! DEFINITION. The core cycle: what is due at its end, the fetch of the next bundle (R159 to R162, R171,
R172, R176, R180), the stages of scratchpad accesses (R189 to R200) and overlays (R177, R180). -/

namespace Sys2Proof.Machine

open Sys2Proof

/-- An event of a core about one of its rows or bundles, each of 32 bytes: its byte offset within the unit (R195, R206, R522;
log 22). -/
def State.coreEv (s : State) (c : CoreId) (code row : Nat) : State :=
  s.logEv code (s.unCore c) ((s.ownerOf c).map (·.1)) (s.lunit c) (noAddr ++ words2 (32 * row))
/-- A symbol correction of a core: its event, and the count of its site (R206, R516). -/
def State.coreFix (s : State) (c : CoreId) (code row : Nat) : State :=
  (s.coreEv c code row).siteFix (coreSiteOf c)

/-! ### Causes due in a cycle -/

/-- The poison that reads deliver in the present cycle (R199). -/
def CoreSt.readPoison (c : CoreSt) : List Cause :=
  (c.reads.filter fun r => r.poison && decide (r.issued + 6 ≤ c.now)).map fun r => ⟨0x0D, r.bpc, r.slot⟩

/-- The poison that marked tables deliver in the present cycle: a direct LUT in its cycle c + 3, a run's LUT
in the cycle that performs it, a drain in its cycle d + 8 (R252). A LUT with every lane masked reads its table too: a
DESIGN CHOICE, since the manual says nothing of masks there (R135, log 91). -/
def CoreSt.tablePoison (c : CoreSt) : List Cause :=
  ((c.vpend.filter fun p => decide (p.issued + 3 ≤ c.now) &&
      (match p.lutTab with | some t => mget zF c.lutMark t | none => false)).map fun p => ⟨0x0D, p.bpc, 1⟩) ++
  (match c.run with
   | none => []
   | some r =>
     let first := r.issued + 12 + runTin r.desc
     let rel := c.now - first
     let op := progOp (mget (fun _ => (0 : BitVec 4096)) c.prog (runProg r.desc)) (rel % runI r.desc)
     if r.checked && decide (first ≤ c.now) && decide (rel / runI r.desc < runIters r.desc) &&
         decide (rel % runI r.desc < runNops r.desc) && op.1 == 0x31 &&
         mget zF c.lutMark (op.2.imm.toNat / 256 % 4) then [⟨0x0D, r.bpc, 1⟩]
     else []) ++
  ((c.mx.drains.filter fun d => fAct d.desc && decide (d.start + 8 = c.now) && mget zF c.actMark (fTab d.desc)).map
    fun d => ⟨0x0D, d.bpc, 0⟩)

/-- The CP operations whose check fails in the present cycle; poison is the reads' own cause (R179). -/
def State.cpFails (s : State) (c : CoreId) (x : CoreSt) : List Cause :=
  (x.cpPend.filter fun p => decide (p.issued + 6 ≤ x.now) && !s.cpPasses c x p &&
      !(x.reads.any fun r => r.poison && r.issued == p.issued && r.slot == 5)).map fun p => ⟨0x0B, p.bpc, 5⟩

/-- Every cause that is due in the present cycle apart from those of its own bundle (R202, R203). -/
def State.causesDue (s : State) (c : CoreId) (x : CoreSt) : List Cause :=
  x.readPoison ++ x.tablePoison ++ x.runCheck.2 ++ s.cpFails c x

/-! ### The end of a cycle -/

/-- Writes whose cycle has come take effect (R189, R190). -/
def CoreSt.commitWrites (c : CoreSt) : CoreSt :=
  let c' := (c.writes.filter fun w => decide (w.due ≤ c.now)).foldl CoreSt.applyWrite c
  { c' with writes := c.writes.filter fun w => !decide (w.due ≤ c.now) }

/-- What the engines of a core do by the end of the present cycle. -/
def CoreSt.settle (c : CoreSt) (seed : Nat) : CoreSt :=
  ((((c.runCheck.1.mxSettle seed).iterStep).runEnd).regSettle).commitWrites.incFlags

/-- What leaves a core at the end of the present cycle: copies and overlays whose check has passed,
signals and posts four cycles after their issue, acknowledgements (R174, R179, R186, R337). -/
def State.leave (s : State) (c : CoreId) : State :=
  let x := s.cur c
  let n := x.now
  let cps := x.cpPend.filter fun p => decide (p.issued + 6 ≤ n)
  let sigs := x.sigPend.filter fun g => decide (g.1 + 4 ≤ n)
  let posts := x.postPend.filter fun p => decide (p.1 + 4 ≤ n)
  let part := s.part (((s.ownerOf c).map (·.1)).getD 255)
  let s := s.modCur c fun y =>
    { y with cpPend := y.cpPend.filter fun p => !decide (p.issued + 6 ≤ n)
             sigPend := y.sigPend.filter fun g => !decide (g.1 + 4 ≤ n)
             postPend := y.postPend.filter fun p => !decide (p.1 + 4 ≤ n)
             ackPend := [] }
  let s := cps.foldl (fun s p => s.startCp c x p) s
  let s := { s with signals := s.signals ++ sigs.filterMap fun g =>
    (part.siteOf (g.2.1 % 65536)).map fun site => ⟨c, 16 * site + g.2.1 / 65536 % 16, g.2.2.1, g.2.2.2, Retry.zero⟩ }
  let s := posts.foldl (fun s p => s.sendPost c p.2.1 p.2.2) s
  x.ackPend.foldl (fun s a => s.sendAck c a.2.1 a.2.2) s

/-! ### The fetch and the start of a cycle -/

/-- The cycle that follows: CYC counts it (R164). -/
def CoreSt.tick (c : CoreSt) : CoreSt :=
  { c with cyc := c.cyc + 1, sranks := [], vraise := 0, imemWback := [],
           acted := [], tabs := [], symHeld := false, banks := c.banks.filter fun b => decide (c.now + 1 ≤ b.cyc) }

/-- The engines issue the accesses of operations in flight; the causes are their bank conflicts and those of
partial-row writes that come in this cycle (R160, R191). -/
def CoreSt.engines (c : CoreSt) : CoreSt × List Cause :=
  let k0 : List Cause := (c.confl.filter fun x => x.1 == c.now).map fun x => ⟨0x07, x.2.1, x.2.2⟩
  let c := { c with confl := c.confl.filter fun x => decide (c.now < x.1) }
  let (c, k1) := c.mxCycle
  let (c, k2) := c.runCycle
  let (c, k3) := c.ploadCycle
  (c, k0 ++ k1 ++ k2 ++ k3)

/-- Whether a bundle is busy: an overlay that is outstanding fills its range (R180). -/
def CoreSt.imemBusy (c : CoreSt) (n a : Nat) : Bool :=
  c.ovls.any fun o => decide (o.start ≤ a) && decide (a < o.start + o.count) && decide (o.busyFrom ≤ n)

/-- Why the fetched bundle cannot issue: it lies past the last one, is busy, or is poisoned (R171, R176, R180). The
fetch takes place in the cycle before. -/
def CoreSt.fetchCauses (x : CoreSt) (found : Finding) : List Cause :=
  let a := x.bpc
  (if 2048 ≤ a then [⟨0x08, a, 0xFF⟩] else []) ++
  (if x.imemBusy (x.now - 1) a then [⟨0x09, a, 0xFF⟩] else []) ++
  (if found = .uncorrectable || mget zF x.imemPoison a then [⟨0x0D, a, 0xFF⟩] else [])

/-- The slots of the fetched bundle that break their encoding (R19, R202). -/
def CoreSt.encCauses (x : CoreSt) : List Cause := (badSlots x.bundle).map fun k => ⟨0x01, x.bpc, k⟩

/-- The cycle of the fetched bundle comes: the engines act, and the causes that are due in it are found; `own` are
those of the bundle, and causes that struck the frozen core come in it too (R123, R159, R160, R202). -/
def State.beginCycle (s : State) (c : CoreId) (own : List Cause) : State :=
  let (y, confl) := (s.cur c).takeRows.engines
  let z := ({ y with freeze := .none, causes := y.causes ++ y.late, late := [] } : CoreSt).fail
    (s.causesDue c y ++ confl ++ own)
  s.setCore c ⟨z, z⟩

/-- The fetched bundle issues, waits, or breaks its encoding, which no wait delays (R183). -/
def State.issueBundle (s : State) (c : CoreId) : State :=
  if (s.cur c).bundleWaits then s.modBoth c fun y => { y with freeze := .gate }
  else s.beginCycle c (s.cur c).encCauses

/-- Fetch the bundle at `pc` for the cycle that follows (R171, R176, R180, R183). One that cannot issue faults the
core in that cycle; a symbol error holds the core before it, `held` saying that a hold for a symbol error that an LSP
read found in the cycle of the fetch stands for it too (R196). -/
def State.fetchBundle (s : State) (c : CoreId) (found : Finding) (held : Bool) : State :=
  let a := (s.cur c).pc
  let s := s.modBoth c fun y => { y with bpc := a, bundle := mget zR y.imem a }
  let s := match found with
    | .bit => (s.odAdd odImemBitFixCount 1).modBoth c fun y => { y with imemWback := a :: y.imemWback }
    | .symbol => (s.odAdd odImemSymbolFixCount 1).coreFix c 0x4003 a
    | _ => s
  let ks := (s.cur c).fetchCauses found
  if !ks.isEmpty then
    let s := s.beginCycle c ks
    s.coreFault c (s.cur c).dueCauses
  else if found = .symbol && !held then s.modBoth c fun y => { y with freeze := .fetchHold 3 }
  else s.issueBundle c

/-- Go on to the next core cycle (R159 to R162, R166). -/
def State.nextCycle (s : State) (c : CoreId) (found : Finding) : State :=
  let held := (s.cur c).symHeld
  let s := s.modBoth c CoreSt.tick
  if (s.cur c).phase = .running then s.fetchBundle c found held else s.beginCycle c []

/-- The scalar registers and flags in which the reads of a cycle that begins find a parity error: they are poisoned, and a read
of them delivers poison (R517; log 60). -/
def CoreSt.parity (x : CoreSt) (find : FetchFind) : CoreSt :=
  if x.phase = .running then
    { x with sPar := find.scalars.foldl (fun m r => mset zF m r true) x.sPar
             fPar := find.flags.foldl (fun m i => mset zF m i true) x.fPar }
  else x
/-- The parity errors of a core's cycle. -/
def State.parity (s : State) (c : CoreId) (find : FetchFind) : State :=
  if find.scalars.isEmpty && find.flags.isEmpty then s else s.modBoth c fun y => y.parity find

/-- IMEM_FETCH: the present core cycle ends with all that is due in it, and the next one begins with the
bundle that follows (R159 to R162, R176). The first fetch after a launch begins cycle 0 (R164, R319). A cycle
in which a check has failed ends with the fault (R202). It takes place only when the core may advance: its CCLK
runs, nothing holds it, and every slot of the bundle has issued (R166; log 17). -/
def execImemFetch (c : CoreId) (find : FetchFind) (s : State) : Host.Outcome State Fault Refusal :=
  .next (
    let x := s.core c
    let on := (x.cur.phase == .running || x.cur.phase == .ended) && s.cclk (coreSiteOf c)
    if !on then s
    else if x.cur.active && !x.bundleDone then s
    else if x.cur.active && !x.cycleCauses.isEmpty then s.coreFault c x.cycleCauses
    else if x.cur.freeze != .none then s
    else if !x.cur.started then
      ((s.modBoth c fun y => { y with started := true }).fetchBundle c find.found false).parity c find
    else
      let y := ({ x.cur with late := x.cur.late ++ x.tabCauses true } : CoreSt).settle (s.seedOf c)
      let y := if x.beg.phase = .running then y.advancePc else y
      (((s.setCore c ⟨y, y⟩).leave c).nextCycle c find.found).parity c find)

/-! ### Checks, holds and deliveries -/

/-- Whether a read or a partial write of a row is at its syndrome stage (R189, R195, R198). -/
def CoreSt.atCheck (c : CoreSt) (row : Nat) : Bool :=
  (c.reads.any fun r => r.row == row && r.issued + 3 == c.now) ||
    (c.writes.any fun w => !w.full && w.row == row && w.issued + 3 == c.now)

/-- A row is found uncorrectable by the core itself (R195): the poison bits of its granule are set, and the
reads that meet it deliver poison. -/
def CoreSt.rowBad (c : CoreSt) (row : Nat) : CoreSt :=
  { c with lspPoison := poisonPair c.lspPoison row
           reads := c.reads.map fun r =>
             if (r.row == row && r.issued + 3 == c.now) ||
                (r.row / 2 == row / 2 && decide (c.now < r.issued + 2) &&
                  !(c.writes.any fun w => w.full && w.row == r.row && decide (w.issued < r.issued)))
             then { r with poison := true } else r }

/-- What a symbol error that an LSP read finds makes of a freeze: one hold of 3 cycles for all of a cycle, be it over
already (R196). -/
def Freeze.symbol (f : Freeze) (held : Bool) : Freeze :=
  match f, held with
  | .replay n, _ => .replay n
  | f, true => f
  | _, false => .hold 3

/-- LSP_READ_CHECK: what a read of a row finds at its syndrome stage (R195, R196). A symbol error found in the issue cycle
of a drain that starts a replay adds no hold to that of the replay: a DESIGN CHOICE, since the manual does not say whether
the two add (log 89). -/
def execLspReadCheck (c : CoreId) (row : BitVec 12) (found : Finding) (s : State) :
    Host.Outcome State Fault Refusal :=
  .next (
    let x := s.cur c
    let r := row.toNat
    if !(x.active && x.atCheck r) then s
    else
      match found with
      | .ok => s
      | .bit => (s.odAdd odLspBitFixCount 1).modBoth c fun y => { y with wback := r :: y.wback }
      | .symbol =>
        ((s.odAdd odLspSymbolFixCount 1).modCur c fun y =>
          { y with freeze := y.freeze.symbol y.symHeld, wback := r :: y.wback }).coreFix
          c 0x4001 r
      | .uncorrectable =>
        ((s.odAdd odLspUncorrectableCount 1).modBoth c fun y => y.rowBad r).coreEv c 0x4002 r)

/-- CORE_HOLD_END: the cycles of a correction hold run out; HOLD_CYC counts them (R161, R164, R195). After a hold
for IMEM the fetched bundle comes to its issue (R176). With CCLK stopped no held cycle passes (R387). A cycle that ends
with a fault holds nothing (R202). -/
def execCoreHoldEnd (c : CoreId) (s : State) : Host.Outcome State Fault Refusal :=
  .next (
    let fin (n : Nat) (held : Bool) : State :=
      (s.modBoth c fun x =>
        { x with freeze := .none, holdCyc := x.holdCyc + BitVec.ofNat 64 n, symHeld := held }).odAdd odHoldCycTotal n
    if !(s.cur c).causes.isEmpty || !s.cclk (coreSiteOf c) then s
    else
      match (s.cur c).freeze with
      | .hold n => fin n true
      | .fetchHold n => (fin n false).issueBundle c
      | _ => s)

/-- LSP_WRITEBACK: a corrected row is back in its bank, unless a newer write has cancelled it (R195, R197). -/
def execLspWriteback (c : CoreId) (row : BitVec 12) (s : State) : Host.Outcome State Fault Refusal :=
  .next (s.modBoth c fun x => { x with wback := x.wback.erase row.toNat })

/-- POISON_DELIVERY: a consumer receives poisoned data in this cycle and the core faults, once the bundle of the cycle has
issued whole (R199, R202, R203). -/
def execPoisonDelivery (c : CoreId) (s : State) : Host.Outcome State Fault Refusal :=
  .next (
    let x := s.core c
    let ks := x.cycleCauses
    if x.cur.active && x.bundleDone && ks.any fun k => k.code == 0x0D then s.coreFault c ks else s)

/-- LSP_PATROL_SCRUB: the scrubber reads a row through the copy port and corrects it without a hold; a busy
bank delays it and does nothing else (R200). Its corrections count in LSP_BIT_FIX_COUNT and LSP_SYMBOL_FIX_COUNT as those
of reads do: a DESIGN CHOICE, since the manual states those counts for reads only (R195, log 90). A read in flight before
its array stage does not see the poison that the scrubber sets, as it sees no copy that lands then: a DESIGN CHOICE (log
71). -/
def execLspPatrolScrub (c : CoreId) (row : BitVec 12) (found : Finding) (late : Bool) (s : State) :
    Host.Outcome State Fault Refusal :=
  .next (
    let r := row.toNat
    let s := if late then s.odAdd odScrubLateCount 1 else s
    match found with
    | .ok => s
    | .bit => s.odAdd odLspBitFixCount 1
    | .symbol => (s.odAdd odLspSymbolFixCount 1).coreFix c 0x4001 r
    | .uncorrectable =>
      ((s.odAdd odLspUncorrectableCount 1).modBoth c fun y =>
        { y with lspPoison := poisonPair y.lspPoison r }).coreEv c 0x4002 r)

/-- LSP_LOAD_DELIVERY: writes whose stage has come take effect, and the next load that is due writes its
register, after the register writes that stand before it (R168, R189, R192). -/
def execLspLoadDelivery (c : CoreId) (s : State) : Host.Outcome State Fault Refusal :=
  .next (
    let x := s.cur c
    if !(x.active && x.causes.isEmpty) then s
    else
      s.modCur c fun x =>
        let x := x.commitWrites
        if x.reads.any fun r => decide (r.issued + 6 ≤ x.now) && r.dst != .none then
          CoreSt.regUntil CoreSt.loadNext (x.vpend.length + x.reads.length) x
        else x)

/-! ### Overlays -/

/-- A bundle through the fill port (R176, R177): it cancels a write-back that waits for it. -/
def CoreSt.fillBundle (c : CoreSt) (a v : Nat) (poison : Bool) : CoreSt :=
  { c with imem := mset zR c.imem a (BitVec.ofNat 256 v), imemPoison := mset zF c.imemPoison a poison,
           imemWback := c.imemWback.filter fun r => !(r == a) }

/-- The key of bundle `i` of a program in the system region, the top 8 MiB of each pseudo-channel (R226, R507; log
100). -/
def sysKey (x i : Nat) : Nat := hbmKey (x % 512) (pcBytes - 2 ^ 23 + (32 * (x / 512) + 32 * i) % 2 ^ 23)

/-- The overlay by which a core fetches the program of a run (R507). -/
def runOvl (kind k : Nat) : OvlSt :=
  let x := Config.runtimeAt kind k
  ⟨0, 1 + x % 2048, 0, 0, x / 2048, 0, true, true⟩

/-- The groom of a site starts the overlays that fetch a run's program into its cores (R507). -/
def State.fetchRun (s : State) (site : SiteId) (kind : Nat) : State :=
  (siteCores site).foldl
    (fun (s : State) c => s.modBoth c fun x => { x with ovls := x.ovls ++ [runOvl kind (c % 16)] }) s

/-- The bundles of an overlay, from the partition's HBM or from the core runtime in the system region (R177, R507). -/
def State.ovlRead (s : State) (c : CoreId) (o : OvlSt) : List (Nat × Bool) :=
  let p := s.part (((s.ownerOf c).map (·.1)).getD 255)
  (List.range o.count).map fun i => if o.sys then s.hbmUnit (sysKey o.src i) else s.unitRead p 2 (o.src + 32 * i) 0

/-- The bundles that an overlay brings: those of a loader body are what the groom of the bay has read once for the step
(R508). -/
def State.ovlData (s : State) (c : CoreId) (o : OvlSt) : List (Nat × Bool) :=
  let j := (s.part (((s.ownerOf c).map (·.1)).getD 255)).job
  match (if o.boot && !o.sys && j.loader.isSome then j.bodies.find? fun x => x.1 == coreSiteOf c / 36 else none) with
  | some x => x.2
  | none => s.ovlRead c o

/-- The groom of a bay keeps the loader body that it has read (R508). -/
def State.keepBody (s : State) (c : CoreId) (o : OvlSt) (l : List (Nat × Bool)) : State :=
  let b := coreSiteOf c / 36
  if !o.boot || o.sys then s
  else s.modJob (((s.ownerOf c).map (·.1)).getD 255) fun j =>
    if j.loader.isNone || j.bodies.any (fun x => x.1 == b) then j else { j with bodies := j.bodies ++ [(b, l)] }

/-- Fill the bundles of an overlay through the fill port (R176, R177). -/
def State.overlayFill (s : State) (c : CoreId) (o : OvlSt) (l : List (Nat × Bool)) : State :=
  l.zipIdx.foldl
    (fun s vi => s.modBoth c fun x => x.fillBundle (o.start + vi.2) vi.1.1 vi.1.2) s

/-- The oldest overlay of a core completes: its last bundle is written and its flag gets INC (R177, R180). Of two overlays
that are outstanding the older one completes first: a DESIGN CHOICE, since the manual gives no order (log 87). -/
def State.overlayIn (s : State) (c : CoreId) : State :=
  match (s.cur c).ovls with
  | [] => s
  | o :: rest =>
    let l := s.ovlData c o
    let s := ((s.keepBody c o l).overlayFill c o l).modBoth c fun x => { x with ovls := rest }
    if o.sys then s
    else if o.boot then s.modJob (((s.ownerOf c).map (·.1)).getD 255) fun j => { j with bootDt := s.clk.dt }
    else s.incFlag c o.flag (BitVec.ofNat 32 o.inc)

/-- OVERLAY_COMPLETE: what an overlay brings reaches its core, in a change stop once CCLK restarts (R177, R363, R387). -/
def execOverlayComplete (c : CoreId) (s : State) : Host.Outcome State Fault Refusal :=
  let site := coreSiteOf c
  .next (if (s.cl site).port ≠ .opened || (s.cur c).ovls.isEmpty then s
    else if s.stopped site then
      (if (s.landing.filter (· == (site, .overlay c))).length < (s.cur c).ovls.length then s.landLater site (.overlay c)
        else s)
    else s.overlayIn c)

end Sys2Proof.Machine
end

