-- ==== Sys2Proof/Machine/OdAcc.lean ====
section
/-! DEFINITION. The checks of an object-dictionary access (R555 to R565, R572): its route and class,
the scope that is open, the start phase, and its answer. The families that own an entry give the
effect of a write to it. -/

namespace Sys2Proof.Machine

open Sys2Proof

/-! ### Statuses and types -/

/-- OD_OK (R563). -/
def odOk : Nat := 0
/-- OD_NO_ENTRY. -/
def odNoEntry : Nat := 1
/-- OD_RANGE. -/
def odRange : Nat := 2
/-- OD_LENGTH. -/
def odLength : Nat := 3
/-- OD_UNAVAILABLE. -/
def odUnavailable : Nat := 4
/-- OD_MALFORMED. -/
def odMalformed : Nat := 5
/-- OD_FULL. -/
def odFull : Nat := 6

/-- The size in bytes of a scalar type (R556). -/
def odSize (typ : Nat) : Nat :=
  if typ = 1 || typ = 2 then 1 else if typ = 3 then 2 else if typ = 4 || typ = 6 || typ = 8 then 4
  else if typ = 5 || typ = 7 || typ = 9 then 8 else 0
/-- Whether a type is scalar. -/
def odScalar (typ : Nat) : Bool := decide (1 ≤ typ) && decide (typ ≤ 9)

/-! ### Classes, scopes, phases -/

/-- The scope open without proof in a lifecycle state (R548): 0 none, 1 TEST, 2 OBSERVE, 3 FULL. -/
def freeScope (lifecycle : Nat) : Nat :=
  if lifecycle ≤ 1 then 3 else if lifecycle = 2 then 2 else if lifecycle = 4 then 1 else 0

/-- The scope that is open (R548). -/
def State.openScope (s : State) : Nat := max (freeScope (s.od odLifecycle)) s.sec.proofScope

/-- Whether a route is served at all (R476, R569, R572): a yardmaster is in office, or the module stays in NO_QUORUM (R485,
R487), and in RECOVERY only the host links and the sideband ports are served (R512). -/
def State.routeOpen (s : State) (route : Nat) : Bool :=
  s.up && decide (route ≤ 36) && (s.yardActs || s.od odStartState == 0x0D) &&
    !(route == 36 && s.od odStartState == 0x0C) &&
    (if route ≤ 32 then s.hostUp
     else if route = 35 then
       decide (3 ≤ s.od odStartState) && s.od odSbEthEnable == 1 && decide (s.od odSbIpv4Addr ≠ 0)
     else true)

/-- Whether an entry is served in the present start phase (R512, R572). -/
def State.odServed (s : State) (index sub : Nat) : Bool :=
  let st := s.od odStartState
  let k := odKey index sub
  if st = 0x0C then
    index == 0x1000 || k == odStartState || k == odFwStageHostAddr || k == odFwStageLen ||
      k == odFwUpdateCtrl || k == odFwUpdateStatus
  else if st ≤ 4 || st = 0x0D then k == odStartState || k == odVendorName || k == odProductName
  else true

/-- The partition that an index names (R560). -/
def odPartOf (index : Nat) : Option Nat :=
  if 0x2200 ≤ index ∧ index < 0x2220 then some (index - 0x2200)
  else if 0x5810 ≤ index ∧ index < 0x5830 then some (index - 0x5810)
  else if 0x6010 ≤ index ∧ index < 0x6030 then some (index - 0x6010)
  else if 0x114A ≤ index ∧ index < 0x116A then some (index - 0x114A)
  else none

/-- The rights of a route's own class to an entry: 0 none, 1 read, 2 read and write (R559, R560, R554). The test
port runs a proof as the other routes do (R549). -/
def odClassRight (r : OdRow) (route index : Nat) : Nat :=
  if r.own ≠ 0 then
    (if (route = 0 && index == 0x1148) || (33 ≤ route && route ≤ 35 && index == 0x1149) ||
        (1 ≤ route && route ≤ 32 && index == 0x1149 + route) then r.own else 0)
  else if route = 0 then r.hp
  else if route ≤ 32 then
    (match odPartOf index with
     | some p => if p + 1 = route then r.hu else 0
     | none => r.hu)
  else if route ≤ 35 then r.sb
  else if index == 0x1140 && decide (r.sub ≤ 6) then r.sb
  else 0

/-- The rights that the open scope adds (R561). -/
def odScopeRight (r : OdRow) (scope index key : Nat) : Nat :=
  if key = odAuthProof || key = odPwDigest then 0
  else if scope = 3 then
    (if r.pers ≠ 2 && (r.hp == 2 || r.sb == 2 || r.hu == 2 || r.own == 2) then 2 else 1)
  else if scope = 2 then 1
  else if scope = 1 && decide (0x3800 ≤ index) && decide (index < 0x4000) then 1
  else 0

/-- The rights of an access to an entry (R559 to R561). -/
def State.odRight (s : State) (r : OdRow) (route : Nat) (dbg : Bool) (index sub : Nat) : Nat :=
  let cls := odClassRight r route index
  let add := if route = 36 || (dbg && (route = 0 || decide (33 ≤ route))) then
    odScopeRight r s.openScope index (odKey index sub) else 0
  max cls add

/-! ### Answers -/

/-- Answer an access. -/
def State.odAnswer (s : State) (a : OdAns) : State := { s with dict := { s.dict with ans := some a } }
/-- Answer with a status alone. -/
def State.odFail (s : State) (status : Nat) : State := s.odAnswer ⟨status, 0, 0, []⟩
/-- The octets of an entry that is not scalar. -/
def State.octets (s : State) (k : Nat) : List Byte := mget (fun _ => []) s.dict.octets k
/-- Set the octets of an entry. -/
def State.octetsSet (s : State) (k : Nat) (b : List Byte) : State :=
  { s with dict := { s.dict with octets := mset (fun _ => []) s.dict.octets k b } }

/-- The count of the accesses without rights of a route. -/
def State.deniedBy (s : State) (route : Nat) : Nat :=
  ofLe ((((s.octets odOdDeniedByRoute).drop (8 * route))).take 8)

/-- Count an access without rights (R562). -/
def State.odDeny (s : State) (route : Nat) : State :=
  let b := s.octets odOdDeniedByRoute
  let b := b ++ List.replicate (296 - b.length) 0
  let n := (s.deniedBy route + 1) % 2 ^ 64
  (s.odAdd odOdDeniedCount 1).octetsSet odOdDeniedByRoute
    (b.take (8 * route) ++ leBytes 8 n ++ b.drop (8 * route + 8))

/-- Whether some entry of an index grants a route any right (R555). -/
def State.odAnyRight (s : State) (route : Nat) (dbg : Bool) (index : Nat) : Bool :=
  odTable.any fun r =>
    decide (r.index ≤ index) && decide (index < r.index + r.n) && decide (0 < s.odRight r route dbg index r.sub)

/-- The highest sub-index of an index (R555). -/
def odTopSub (index : Nat) : Nat :=
  odTable.foldl
    (fun m r => if r.index ≤ index && index < r.index + r.n then max m (r.sub + r.m - 1) else m) 0

/-- Answer with a status and no data; TYPE and TOTAL report the entry as every response does (R556, R557). -/
def State.odFailRow (s : State) (status typ total : Nat) : State := s.odAnswer ⟨status, typ, total, []⟩

/-- Answer an access without rights over `n` bytes (R562). -/
def State.odNoRights (s : State) (route n : Nat) (write : Bool) : State :=
  (s.odDeny route).odAnswer ⟨odOk, 0, n, if write then [] else List.replicate n 0⟩

/-- Orders 1 to 4 of R563 for an access: a status that ends it, none for an access without rights, or the row
with the rights held, 1 read and 2 read and write. A class that may only read holds a right to the entry, so
its write is no access without rights: order 6 refuses it. -/
def State.odGuard (s : State) (route : Nat) (dbg bad : Bool) (index sub : Nat) : Except Nat (Option (OdRow × Nat)) :=
  if bad then .error odMalformed
  else if !s.odServed index sub then .error odUnavailable
  else
    match odRow index sub with
    | none => if 1 ≤ route ∧ route ≤ 32 then .ok none else .error odNoEntry
    | some r =>
      let has := s.odRight r route dbg index sub
      if has = 0 then .ok none else .ok (some (r, has))

/-- A write to a scalar entry by its owning rule: `k` gives the state and the status (R563). One of a host that no port
serves is lost (R54, R442, R476). -/
def State.odScalarWrite (s : State) (route : Nat) (dbg bad : Bool) (index sub offset len : Nat)
    (k : State → State × Nat) : State :=
  if !s.routeOpen route then s.hostLost route
  else
    match s.odGuard route dbg bad index sub with
    | .error e => s.odFail e
    | .ok none => s.odNoRights route len true
    | .ok (some (r, has)) =>
      let n := odSize r.typ
      if offset ≠ 0 || len ≠ n then s.odFailRow odLength r.typ n
      else if has < 2 then s.odFailRow odRange r.typ n
      else
        let (s', st) := k s
        if st = odOk then s'.odFailRow odOk r.typ n else s.odFailRow st r.typ n

/-- A write to the scalar entry of a key over a route, in the entry's own form (R565). -/
def State.keyWrite (s : State) (route key : Nat) (k : State → State × Nat) : State :=
  s.odScalarWrite route false false (key / 256) (key % 256) 0
    (odSize (((odRow (key / 256) (key % 256)).map (·.typ)).getD 0)) k

end Sys2Proof.Machine
end

