-- ==== Sys2Proof/Machine/Upd.lean ====
section
/-! DEFINITION. Update descriptors, shards and the element-wise rules of a commit (R259 to R273): the
fields and checks of a descriptor, its elements in HBM with their marks, and the fixed FP32 steps. -/

namespace Sys2Proof.Machine

open Sys2Proof

/-! ### Engines (R34, R260, R293, R294) -/

/-- Whether a UPC is IN_SERVICE and runs (R293). -/
def State.upcServes (s : State) (u : Nat) : Bool :=
  s.odBit odUpcEnabled u && s.od (odAt odUpcState u) == 0 && s.upcFed u

/-- Whether a farrier or known-answer run occupies a UPC (R528). -/
def State.upcInRun (s : State) (u : Nat) : Bool := s.firm.runs.any fun r => r.isUpc && r.un == u

/-- The stand-in of a UPC: the next one clockwise that is in service (R294). -/
def State.standIn (s : State) (u : Nat) : Option Nat :=
  ((List.range 7).map fun i => (u + 1 + i) % 8).find? s.upcServes

/-- Whether a rule may run on an MUU (R256, R260). -/
def muuRule (rule : Nat) : Bool := rule == 0 || rule == 1 || rule == 2 || rule == 6

/-- Whether a shard on a stack has an engine (R260, R294). -/
def State.engineFor (s : State) (stack rule : Nat) : Bool :=
  s.upcServes (stack / 2) || muuRule rule || (s.standIn (stack / 2)).isSome

/-- The UPC that computes a shard, if one does (R260, R294). -/
def State.upcFor (s : State) (stack rule : Nat) : Option Nat :=
  if s.upcServes (stack / 2) then some (stack / 2) else if muuRule rule then none else s.standIn (stack / 2)

/-- The stacks that an engine of a shard on a stack reaches through its direct ports: those of its UPC, or the stack of
an MUU (R257, R260, R261). -/
def State.directStacks (s : State) (stack rule : Nat) : List Nat :=
  match s.upcFor stack rule with
  | some u => [2 * u, 2 * u + 1]
  | none => [stack]

/-- The machine as an engine with direct ports to some stacks sees it: those controllers never stand behind a router
that has stopped, and with every one of their routers stopped it reaches no other stack (R257, R261, R372). -/
def State.seenBy (s : State) (own : List Nat) : State :=
  let out (k : Nat) : Bool := s.mesh.active.faulty.contains (stackSite k)
  let far := (List.range 16).filter fun k => !own.contains k && (own.all out || out k)
  { s with mesh := { s.mesh with active := { s.mesh.active with faulty := far.map stackSite } } }

/-! ### The descriptor (R264) -/

/-- RULE. -/
def uRule (d : BitVec 1024) : Nat := fld d 4 3
/-- CHK. -/
def uChk (d : BitVec 1024) : Bool := d.getLsbD 7
/-- UID. -/
def uUid (d : BitVec 1024) : Nat := fld d 8 12
/-- WFMT: BF16 parameters. -/
def uWBf (d : BitVec 1024) : Bool := fld d 20 2 == 1
/-- GFMT. -/
def uGfmt (d : BitVec 1024) : Nat := fld d 22 2
/-- SFMT: BF16 state. -/
def uSBf (d : BitVec 1024) : Bool := d.getLsbD 24
/-- RND. -/
def uRnd (d : BitVec 1024) : Nat := fld d 25 2
/-- MASK_EN. -/
def uMaskEn (d : BitVec 1024) : Bool := d.getLsbD 27
/-- MGRAN. -/
def uMgran (d : BitVec 1024) : Bool := d.getLsbD 28
/-- WCOPY_EN. -/
def uCopyEn (d : BitVec 1024) : Bool := d.getLsbD 29
/-- EXPECT_STEP. -/
def uExpect (d : BitVec 1024) : Nat := fld d 32 32
/-- The count of elements. -/
def uN (d : BitVec 1024) : Nat := fld d 64 40 + 1
/-- GEXP. -/
def uGexp (d : BitVec 1024) : Int := sfld d 104 16
/-- TID. -/
def uTid (d : BitVec 1024) : Nat := fld d 128 32
/-- W_ADDR. -/
def uW (d : BitVec 1024) : Nat := fld d 192 64
/-- G_ADDR. -/
def uG (d : BitVec 1024) : Nat := fld d 256 64
/-- S1_ADDR. -/
def uS1 (d : BitVec 1024) : Nat := fld d 320 64
/-- S2_ADDR. -/
def uS2 (d : BitVec 1024) : Nat := fld d 384 64
/-- MASK_ADDR. -/
def uMask (d : BitVec 1024) : Nat := fld d 448 64
/-- WCOPY_ADDR. -/
def uCopy (d : BitVec 1024) : Nat := fld d 512 64
/-- LR. -/
def uLr (d : BitVec 1024) : Nat := fld d 576 32
/-- B1. -/
def uB1 (d : BitVec 1024) : Nat := fld d 608 32
/-- A1. -/
def uA1 (d : BitVec 1024) : Nat := fld d 640 32
/-- B2. -/
def uB2 (d : BitVec 1024) : Nat := fld d 672 32
/-- A2. -/
def uA2 (d : BitVec 1024) : Nat := fld d 704 32
/-- C1. -/
def uC1 (d : BitVec 1024) : Nat := fld d 736 32
/-- C2. -/
def uC2 (d : BitVec 1024) : Nat := fld d 768 32
/-- EPS. -/
def uEps (d : BitVec 1024) : Nat := fld d 800 32
/-- WD. -/
def uWd (d : BitVec 1024) : Nat := fld d 832 32
/-- GSCALE. -/
def uGscale (d : BitVec 1024) : Nat := fld d 864 32
/-- FACTORED: rows. -/
def uRows (d : BitVec 1024) : Nat := fld d 896 24 + 1
/-- FACTORED: columns. -/
def uCols (d : BitVec 1024) : Nat := fld d 920 24 + 1
/-- FACTORED: EPS1. -/
def uEps1 (d : BitVec 1024) : Nat := fld d 944 32
/-- TRUST: TR_MAX. -/
def uTrMax (d : BitVec 1024) : Nat := fld d 896 32
/-- PRECOND: ST_ADDR. -/
def uSt (d : BitVec 1024) : Nat := fld d 896 64
/-- PRECOND: block rows. -/
def uRb (d : BitVec 1024) : Nat := fld d 960 12 + 1
/-- PRECOND: block columns. -/
def uCb (d : BitVec 1024) : Nat := fld d 972 12 + 1
/-- PRECOND: block size b. -/
def uB (d : BitVec 1024) : Nat := 64 * 2 ^ fld d 984 2
/-- PRECOND: log2 of the root order. -/
def uLogP (d : BitVec 1024) : Nat := fld d 986 2 + 1
/-- PRECOND: ROOT. -/
def uRoot (d : BitVec 1024) : Bool := d.getLsbD 988
/-- PRECOND: PEPS. -/
def uPeps (d : BitVec 1024) : Nat := fld d 992 32

/-- The size of a parameter's container. -/
def uWw (d : BitVec 1024) : Nat := if uWBf d then 2 else 4
/-- The size of a gradient's container. -/
def uGw (d : BitVec 1024) : Nat := if uGfmt d = 1 then 2 else if uGfmt d = 2 then 8 else 4
/-- The size of a state container. -/
def uSw (d : BitVec 1024) : Nat := if uSBf d then 2 else 4

/-- The bits that a rule does not use, beside the reserved ones (R264, R265): first bit and count. -/
def uUnused (rule : Nat) : List (Nat × Nat) :=
  if rule = 0 then [(384, 64), (640, 192), (896, 128)]
  else if rule = 1 then [(896, 128)]
  else if rule = 2 then [(384, 64), (736, 96), (896, 128)]
  else if rule = 3 then [(24, 1), (608, 64), (736, 32), (976, 48)]
  else if rule = 4 then [(928, 96)]
  else if rule = 5 then [(24, 1), (384, 64), (736, 96), (989, 3)]
  else [(7, 1), (22, 8), (104, 16), (256, 768)]

/-- The byte ranges of a descriptor: start and length (R264, R285). -/
def uRanges (d : BitVec 1024) : List (Nat × Nat) :=
  let n := uN d
  if uRule d = 6 then [(uW d, n * uWw d)]
  else
    [(uW d, n * uWw d), (uG d, n * uGw d)] ++
      (if uRule d = 3 then [(uS1 d, 4 * uRows d), (uS2 d, 4 * uCols d)] else [(uS1 d, n * uSw d)]) ++
      (if uRule d = 1 ∨ uRule d = 4 then [(uS2 d, n * uSw d)] else []) ++
      (if uRule d = 5 then [(uSt d, uRb d * uCb d * (16 * uB d * uB d + 256))] else []) ++
      (if uMaskEn d then [(uMask d, ((if uMgran d then (n + 31) / 32 else n) + 7) / 8)] else []) ++
      (if uCopyEn d then [(uCopy d, 2 * n)] else [])

/-- Whether a descriptor is legal in a space of `size` bytes (R264 to R266). -/
def uOk (size : Nat) (d : BitVec 1024) : Bool :=
  let rule := uRule d
  fld d 0 4 == 6 && decide (rule ≤ 6) &&
    ([(30, 2), (120, 8), (160, 32)] ++ uUnused rule).all (fun f => fld d f.1 f.2 == 0) &&
    decide (fld d 20 2 ≤ 1) && decide (uRnd d ≤ 2) &&
    (!(rule == 1 || rule == 4) || uChk d) &&
    (!uCopyEn d || !uWBf d) && (uRnd d == 0 || uWBf d) &&
    (rule != 3 || uRows d * uCols d == uN d) &&
    (rule != 5 || (decide (fld d 984 2 ≤ 2) && decide (fld d 986 2 ≤ 2) &&
      uRb d * uB d * (uCb d * uB d) == uN d)) &&
    [uW d, uG d, uS1 d, uS2 d, uMask d, uCopy d].all (fun a => a % 64 == 0) &&
    (rule != 5 || uSt d % 64 == 0) &&
    (uRanges d).all (fun r => decide (r.1 + r.2 ≤ size))

/-- Whether a list of numbers has no repeat. -/
def noRepeat : List Nat → Bool
  | [] => true
  | x :: xs => !xs.contains x && noRepeat xs

/-- Whether an update list is legal (R266). -/
def uListOk (size : Nat) (ds : List (BitVec 1024)) : Bool :=
  ds.all (uOk size) && noRepeat (ds.map uUid)

/-! ### Shards (R259) -/

/-- The stack of a byte of a partition's HBM space. -/
def Part.stackOf (p : Part) (a : Nat) : Nat := p.chans.getD (a / 256 % p.chans.length) 0 / 32

/-- The stack of an element's parameter container (R259). -/
def Part.elemStack (p : Part) (d : BitVec 1024) (n : Nat) : Nat := p.stackOf (uW d + n * uWw d)

/-- The next elements of a shard from element `n` on, at most `need`, looking at `fuel` lines. -/
def shardFrom (p : Part) (d : BitVec 1024) (stack : Nat) : Nat → Nat → Nat → List Nat
  | 0, _, _ => []
  | fuel + 1, n, need =>
    if uN d ≤ n || need = 0 then []
    else
      let a := uW d + n * uWw d
      let e := min (uN d) (n + (256 - a % 256) / uWw d)
      if p.stackOf a = stack then
        let k := min need (e - n)
        ((List.range k).map (n + ·)) ++ shardFrom p d stack fuel e (need - k)
      else shardFrom p d stack fuel e need

/-- The next update group of a shard: at most 256 elements from `n` on (R279). -/
def nextGroup (p : Part) (d : BitVec 1024) (stack n : Nat) : List Nat :=
  shardFrom p d stack (6 * p.chans.length + 8) n 256

/-- The stacks of a partition's channel list, lowest first. -/
def Part.stacks (p : Part) : List Nat := (List.range 16).filter fun k => p.chans.any fun c => c / 32 == k

/-- The stacks that take part in a descriptor (R259). -/
def takesPart (p : Part) (d : BitVec 1024) : List Nat :=
  p.stacks.filter fun k => !(shardFrom p d k (p.chans.length + 2) 0 1).isEmpty

/-! ### Elements in HBM -/

/-- The machine as the engine of an element sees it: that of the shard on the stack of its parameter (R259, R261). -/
def State.seenFor (s : State) (p : Part) (d : BitVec 1024) (n : Nat) : State :=
  s.seenBy (s.directStacks (p.elemStack d n) (uRule d))

/-- A container of `w` bytes at an address of the space, and whether it is poisoned, for the engine that sees `s`
(R232, R261, R282, R367). -/
def State.hbmElem (s : State) (p : Part) (a w : Nat) : Nat × Bool :=
  let key := p.hbmAt a
  if s.hbmOut key then (0, true)
  else (ofLe (mgetRange zB s.hbm key w), mget zF s.hbmPoison (key / 64))

/-- Whether the overflow mark of a byte's granule is set (R282). -/
def State.hbmOvfAt (s : State) (p : Part) (a : Nat) : Bool :=
  let key := p.hbmAt a
  !s.hbmOut key && mget zF s.hbmOvf (key / 64)

/-- The mask bit of an element and the poison of its granule (R264, R272). -/
def State.frozen (s : State) (p : Part) (d : BitVec 1024) (n : Nat) : Bool × Bool :=
  if !uMaskEn d then (false, false)
  else
    let k := if uMgran d then n / 32 else n
    let (b, x) := s.hbmElem p (uMask d + k / 8) 1
    (b.testBit (k % 8), x)

/-- A BF16 container widened to FP32. -/
def bfWide (x : Nat) : Nat := x * 65536
/-- An FP32 value rounded to nearest even into BF16 (R273). -/
def bfNear (x : Nat) : Nat := bf16.convert .even false (fp32.decode x)

/-- A parameter as FP32, and its poison. -/
def State.elW (s : State) (p : Part) (d : BitVec 1024) (n : Nat) : Nat × Bool :=
  let (x, q) := s.hbmElem p (uW d + n * uWw d) (uWw d)
  (if uWBf d then bfWide x else x, q)
/-- A state value as FP32, and its poison. -/
def State.elS (s : State) (p : Part) (d : BitVec 1024) (base n : Nat) : Nat × Bool :=
  let (x, q) := s.hbmElem p (base + n * uSw d) (uSw d)
  (if uSBf d then bfWide x else x, q)

/-- A wide-partial gradient as FP32 (R268, R120). -/
def wpF32 (w v : Nat) (e : Int) : Nat :=
  let x := sgn w v
  if x = -((2 ^ (w - 1) : Nat) : Int) then fp32.nanCode
  else if x = (2 ^ (w - 1) : Nat) - 1 then fp32.encode (.inf false)
  else if x = -((2 ^ (w - 1) : Nat) - 1 : Int) then fp32.encode (.inf true)
  else fp32.encode (FV.ofInt x e false)

/-- The gradient g of an element, and its poison: a granule with an overflow mark counts as poisoned
(R268, R282). -/
def State.elG (s : State) (p : Part) (d : BitVec 1024) (n : Nat) : Nat × Bool :=
  let a := uG d + n * uGw d
  let (x, q) := s.hbmElem p a (uGw d)
  let v := if uGfmt d = 0 then x else if uGfmt d = 1 then bfWide x
    else if uGfmt d = 2 then wpF32 64 x (uGexp d) else wpF32 32 x (uGexp d)
  (f32mul v (uGscale d), q || s.hbmOvfAt p a)

/-! ### Writes of a group -/

/-- One value that a group writes: address in the space, bytes, value, poison. -/
structure UpdOut where
  a : Nat
  w : Nat
  v : Nat
  poison : Bool
  deriving DecidableEq, Repr

/-- Write one value of a group (R251, R282): `whole` says that the group covers its granule, and `vw` is the machine as
its engine sees it. -/
def State.updPut (s vw : State) (p : Part) (o : UpdOut) (whole bad : Bool) : State :=
  let key := p.hbmAt o.a
  if vw.hbmOut key then s
  else { s with hbm := msetRange zB s.hbm key (leBytes o.w o.v)
                hbmPoison := markPoison s.hbmPoison (key / 64) whole bad
                hbmOvf := markOvf s.hbmOvf (key / 64) whole }

/-- Write a group, all of it (R279); what an engine cannot reach is counted as dropped (R232, R367). -/
def State.updWrite (s vw : State) (p : Part) (outs : List UpdOut) : State :=
  let s' := outs.foldl
    (fun s o =>
      let g := outs.filter fun x => x.a / 64 == o.a / 64
      s.updPut vw p o ((g.map (·.w)).sum == 64) (g.any (·.poison))) s
  let lost := ((outs.filter fun o => vw.hbmOut (p.hbmAt o.a)).map fun o => o.a / 256).eraseDups
  s'.odAdd odHbmFencedDropCount lost.length

/-! ### The rules (R269 to R273) -/

/-- A new parameter as stored (R273): FP32 as it is, BF16 under RND. -/
def uStoreW (d : BitVec 1024) (seed n w1 : Nat) : Nat :=
  if uWBf d then
    let r : Rnd := if uRnd d = 0 then .even else if uRnd d = 1 then .zero
      else .stoch (rbits seed (uTid d + 2 ^ 32 * uExpect d) n)
    bf16.convert r false (fp32.decode w1)
  else w1

/-- A new state value as stored (R273). -/
def uStoreS (d : BitVec 1024) (x : Nat) : Nat := if uSBf d then bfNear x else x

/-- Minus an FP32 value. -/
def fNeg (x : Nat) : Nat := f32neg x

/-- w1 = fma(-lr, fma(wd, w, u), w). -/
def wStep (d : BitVec 1024) (w u : Nat) : Nat := f32fma (fNeg (uLr d)) (f32fma (uWd d) w u) w

/-- sign(c): +1, -1 or 0 with the sign of c; a NaN stays a NaN. -/
def signF32 (c : Nat) : Nat :=
  match fp32.decode c with
  | .nan => fp32.nanCode
  | .inf n => fp32.signBit n + 0x3F800000
  | .fin n m _ => fp32.signBit n + (if m = 0 then 0 else 0x3F800000)

/-- MOMENT2's m1, v1 and u of an element (R269). -/
def moment2 (d : BitVec 1024) (g m v : Nat) : Nat × Nat × Nat :=
  let m1 := f32fma (uB1 d) m (f32mul (uA1 d) g)
  let v1 := f32fma (uB2 d) v (f32mul (uA2 d) (f32mul g g))
  let den := f32add (f32sqrt (f32mul v1 (uC2 d))) (uEps d)
  (m1, v1, f32div (f32mul m1 (uC1 d)) den)

/-- A stored sum of a descriptor: value and poison (R270, R271, R279). -/
def sumOf (sums : List (Nat × Nat × W32 × Bool)) (desc key : Nat) : Nat × Bool :=
  match sums.find? fun x => x.1 == desc && x.2.1 == key with
  | some x => (x.2.2.1.toNat, x.2.2.2)
  | none => (0, false)

/-- The exact sum of FP32 values, rounded once (R268). -/
def exactSum (xs : List Nat) : Nat := fp32.encode (FV.sum (xs.map fp32.decode))
/-- The exact norm of FP32 values (R268). -/
def exactNorm (xs : List Nat) : Nat :=
  fp32.encode (FV.sqrt (FV.sum (xs.map fun x => (fp32.decode x).mul (fp32.decode x))))

/-- TRUST's ratio t (R271). -/
def trustRatio (nw nu trMax : Nat) : Nat :=
  let t := if (fp32.decode nw).isZero || (fp32.decode nu).isZero then 0x3F800000 else f32div nw nu
  fp32.encode ((fp32.decode t).fmin (fp32.decode trMax))

/-- The terms of an exact sum over elements: those that are not frozen, and whether any is poisoned
(R272, R282). -/
def State.terms (s : State) (p : Part) (d : BitVec 1024) (ns : List Nat) (f : Nat → Nat × Bool) :
    List Nat × Bool :=
  ns.foldr
    (fun n acc =>
      let (fr, q) := (s.seenFor p d n).frozen p d n
      let (x, b) := f n
      if fr then (acc.1, acc.2 || q) else (x :: acc.1, acc.2 || q || b)) ([], false)

/-- The u of an element of TRUST, MOMENT2's with its decay, and its poison (R271). -/
def State.trustU (s : State) (p : Part) (d : BitVec 1024) (n : Nat) : Nat × Bool :=
  let (w, pw) := s.elW p d n
  let (g, pg) := s.elG p d n
  let (m, pm) := s.elS p d (uS1 d) n
  let (v, pv) := s.elS p d (uS2 d) n
  (f32fma (uWd d) w (moment2 d g m v).2.2, pw || pg || pm || pv)

/-- FACTORED's q of an element (R270). -/
def State.factQ (s : State) (p : Part) (d : BitVec 1024) (n : Nat) : Nat × Bool :=
  let (g, pg) := s.elG p d n
  (f32add (f32mul g g) (uEps1 d), pg)

/-- The exact sums and norms that a descriptor's first phase uses (R270, R271). -/
def State.startSums (s : State) (p : Part) (k : Nat) (d : BitVec 1024) : List (Nat × Nat × W32 × Bool) :=
  let w32 (x : Nat) : W32 := BitVec.ofNat 32 x
  if uRule d = 4 then
    let ns := List.range (uN d)
    let a := s.terms p d ns fun n => (s.seenFor p d n).elW p d n
    let b := s.terms p d ns fun n => (s.seenFor p d n).trustU p d n
    [(k, 0, w32 (exactNorm a.1), a.2), (k, 1, w32 (exactNorm b.1), b.2)]
  else if uRule d = 3 then
    ((List.range (uRows d)).map fun i =>
      let a := s.terms p d ((List.range (uCols d)).map (i * uCols d + ·)) fun n => (s.seenFor p d n).factQ p d n
      (k, 4 + 2 * i, w32 (exactSum a.1), a.2)) ++
    ((List.range (uCols d)).map fun j =>
      let a := s.terms p d ((List.range (uRows d)).map (· * uCols d + j)) fun n => (s.seenFor p d n).factQ p d n
      (k, 5 + 2 * j, w32 (exactSum a.1), a.2))
  else []

/-- FACTORED's sr, once pass 1 is in place (R270). -/
def State.factSr (s : State) (p : Part) (k : Nat) (d : BitVec 1024) : Nat × Nat × W32 × Bool :=
  let xs := (List.range (uRows d)).map fun i =>
    (s.seenFor p d (i * uCols d)).hbmElem p (uS1 d + 4 * i) 4
  (k, 0, BitVec.ofNat 32 (exactSum (xs.map (·.1))), xs.any (·.2))

/-- An exact count as FP32. -/
def f32ofNat (n : Nat) : Nat := fp32.encode (FV.ofInt n 0 false)

/-- What FACTORED's first pass writes for an element: the row value of its row when it stands in the
first column, and the column value of its column when it stands in the first row (R270). -/
def State.factPass1 (s : State) (p : Part) (sums : List (Nat × Nat × W32 × Bool)) (k : Nat)
    (d : BitVec 1024) (n : Nat) : List UpdOut :=
  let i := n / uCols d
  let j := n % uCols d
  let one (base x key cnt : Nat) : UpdOut :=
    let (r, pr) := s.hbmElem p (base + 4 * x) 4
    let (t, pt) := sumOf sums k key
    ⟨base + 4 * x, 4, f32fma (uB2 d) r (f32mul (uA2 d) (f32div t (f32ofNat cnt))), pr || pt⟩
  (if j = 0 then [one (uS1 d) i (4 + 2 * i) (uCols d)] else []) ++
    (if i = 0 then [one (uS2 d) j (5 + 2 * j) (uRows d)] else [])

/-- The parameter of an element, its copy and its new state values as outputs (R273). -/
def uOuts (d : BitVec 1024) (seed n w1 : Nat) (pw : Bool) (st : List (Nat × Nat × Bool)) : List UpdOut :=
  let w : UpdOut := ⟨uW d + n * uWw d, uWw d, uStoreW d seed n w1, pw⟩
  let c : List UpdOut := if uCopyEn d then [⟨uCopy d + 2 * n, 2, bfNear w1, pw⟩] else []
  let x : List UpdOut := st.map fun y => ⟨y.1 + n * uSw d, uSw d, uStoreS d y.2.1, y.2.2⟩
  [w] ++ c ++ x

/-- The outputs of an element that keeps its bits under a mask that is poisoned (R272, R282). -/
def State.keptOuts (s : State) (p : Part) (d : BitVec 1024) (n : Nat) : List UpdOut :=
  let one (a w : Nat) : UpdOut := ⟨a, w, (s.hbmElem p a w).1, true⟩
  [one (uW d + n * uWw d) (uWw d)] ++
    (if uCopyEn d then [one (uCopy d + 2 * n) 2] else []) ++
    (if uRule d = 3 then [] else [one (uS1 d + n * uSw d) (uSw d)]) ++
    (if uRule d = 1 ∨ uRule d = 4 then [one (uS2 d + n * uSw d) (uSw d)] else [])

/-- What an element-wise phase writes for an element (R269 to R273, R282). `u5` is PRECOND's u. -/
def State.elemOuts (s : State) (p : Part) (seed : Nat) (sums : List (Nat × Nat × W32 × Bool)) (k : Nat)
    (d : BitVec 1024) (n : Nat) (u5 : Nat → Nat × Bool) : List UpdOut :=
  let (fr, pk) := s.frozen p d n
  if fr then (if pk then s.keptOuts p d n else [])
  else
    let (w, pw) := s.elW p d n
    let (g, pg) := s.elG p d n
    let rule := uRule d
    if rule = 0 then
      let (m, pm) := s.elS p d (uS1 d) n
      let m1 := f32fma (uB1 d) m g
      let pm1 := pm || pg || pk
      uOuts d seed n (wStep d w m1) (pw || pm1) [(uS1 d, m1, pm1)]
    else if rule = 2 then
      let (m, pm) := s.elS p d (uS1 d) n
      let c := f32fma (uB1 d) m (f32mul (uA1 d) g)
      let m1 := f32fma (uB2 d) m (f32mul (uA2 d) g)
      let pm1 := pm || pg || pk
      uOuts d seed n (wStep d w (signF32 c)) (pw || pm1) [(uS1 d, m1, pm1)]
    else if rule = 1 then
      let (m, pm) := s.elS p d (uS1 d) n
      let (v, pv) := s.elS p d (uS2 d) n
      let (m1, v1, u) := moment2 d g m v
      uOuts d seed n (wStep d w u) (pw || pg || pm || pv || pk)
        [(uS1 d, m1, pm || pg || pk), (uS2 d, v1, pv || pg || pk)]
    else if rule = 4 then
      let (m, pm) := s.elS p d (uS1 d) n
      let (v, pv) := s.elS p d (uS2 d) n
      let (m1, v1, u0) := moment2 d g m v
      let u := f32fma (uWd d) w u0
      let (nw, pn) := sumOf sums k 0
      let (nu, pu) := sumOf sums k 1
      let t := trustRatio nw nu (uTrMax d)
      let w1 := f32fma (fNeg (f32mul (uLr d) t)) u w
      uOuts d seed n w1 (pw || pg || pm || pv || pk || pn || pu)
        [(uS1 d, m1, pm || pg || pk), (uS2 d, v1, pv || pg || pk)]
    else if rule = 3 then
      let (r, pr) := s.hbmElem p (uS1 d + 4 * (n / uCols d)) 4
      let (c, pc) := s.hbmElem p (uS2 d + 4 * (n % uCols d)) 4
      let (sr, ps) := sumOf sums k 0
      let vh := f32mul (f32div (f32mul r c) sr) (uC2 d)
      let u := f32div g (f32add (f32sqrt vh) (uEps d))
      uOuts d seed n (wStep d w u) (pw || pg || pk || pr || pc || ps) []
    else
      let (m, pm) := s.elS p d (uS1 d) n
      let (u, pu) := u5 n
      let m1 := f32fma (uB1 d) m (f32mul (uA1 d) u)
      let pm1 := pm || pu || pk
      uOuts d seed n (wStep d w m1) (pw || pm1) [(uS1 d, m1, pm1)]

end Sys2Proof.Machine
end

