-- ==== Sys2Proof/Machine/Precond.lean ====
section
/-! DEFINITION. PRECOND (R285 to R288): FP64 matrices of encodings, the inverse p-th root, block records,
and what each of its phases writes. -/

namespace Sys2Proof.Machine

open Sys2Proof

/-! ### FP64 steps -/

/-- FP64 addition of encodings. -/
def f64add (a b : Nat) : Nat := fp64.encode ((fp64.decode a).add (fp64.decode b))
/-- FP64 multiplication of encodings. -/
def f64mul (a b : Nat) : Nat := fp64.encode ((fp64.decode a).mul (fp64.decode b))
/-- FP64 subtraction of encodings. -/
def f64sub (a b : Nat) : Nat := fp64.encode ((fp64.decode a).add (fp64.decode b).neg)
/-- FP64 division of encodings. -/
def f64div (a b : Nat) : Nat := fp64.encode ((fp64.decode a).div (fp64.decode b))
/-- FP64 square root of an encoding. -/
def f64sqrt (a : Nat) : Nat := fp64.encode (fp64.decode a).sqrt
/-- An FP32 encoding as FP64, exactly. -/
def f64of32 (a : Nat) : Nat := fp64.encode (fp32.decode a)
/-- An FP64 encoding rounded to FP32. -/
def f32of64 (a : Nat) : Nat := fp32.encode (fp64.decode a)
/-- A natural number times a power of two as FP64. -/
def f64num (m : Nat) (e : Int) : Nat := fp64.encode (FV.ofInt m e false)

/-- A dot product in ascending index order (R286, R287). Each product is rounded, and then each sum: a DESIGN CHOICE, since
R287 does not say whether a term is fused (log 104). -/
def f64dot (xs ys : List Nat) : Nat := (xs.zip ys).foldl (fun a q => f64add a (f64mul q.1 q.2)) 0

/-! ### Matrices, as lists of rows -/

/-- Entry (i, j). -/
def mAt (m : List (List Nat)) (i j : Nat) : Nat := ((m.getD i []).getD j 0)
/-- A b by b matrix from its entries. -/
def mMake (b : Nat) (f : Nat → Nat → Nat) : List (List Nat) :=
  (List.range b).map fun i => (List.range b).map (f i)
/-- The transpose. -/
def mTr (b : Nat) (m : List (List Nat)) : List (List Nat) := mMake b fun i j => mAt m j i
/-- The product. -/
def mMul (b : Nat) (x y : List (List Nat)) : List (List Nat) :=
  let yt := mTr b y
  x.map fun r => yt.map (f64dot r)
/-- The identity times a value. -/
def mDiag (b v : Nat) : List (List Nat) := mMake b fun i j => f64mul v (if i = j then f64num 1 0 else 0)
/-- Entry-wise operation. -/
def mZip (f : Nat → Nat → Nat) (x y : List (List Nat)) : List (List Nat) :=
  (x.zip y).map fun r => (r.1.zip r.2).map fun q => f q.1 q.2
/-- Scale by a value. -/
def mScale (v : Nat) (x : List (List Nat)) : List (List Nat) := x.map fun r => r.map fun q => f64mul q v

/-! ### The inverse root (R287) -/

/-- The entries of a Cholesky row left of its pivot: `rows` are the rows before it, with the pivot's
root last. An entry and a pivot subtract their finished dot product once: a DESIGN CHOICE, since R287 does not say whether
the terms are subtracted one by one (log 104). -/
def cholRow (a : List Nat) : List (List Nat) → Nat → List Nat → List Nat
  | [], _, acc => acc
  | r :: rows, j, acc =>
    let x := f64div (f64sub (a.getD j 0) (f64dot (acc.take j) (r.take j))) (r.getD j 0)
    cholRow a rows (j + 1) (acc ++ [x])

/-- Whether every pivot of the factorisation, in row order, reaches tau. -/
def cholOk (tau : Nat) : List (List Nat) → Nat → List (List Nat) → Bool
  | [], _, _ => true
  | a :: more, i, rows =>
    let l := cholRow a rows 0 []
    let piv := f64sub (a.getD i 0) (f64dot l l)
    if (fp64.decode piv).lt (fp64.decode tau) then false
    else cholOk tau more (i + 1) (rows ++ [l ++ [f64sqrt piv]])

/-- Square roots, `k` of them. -/
def sqrts : Nat → Nat → Nat
  | 0, z => z
  | k + 1, z => sqrts k (f64sqrt z)

/-- Squarings, `k` of them. -/
def mSquares (b : Nat) : Nat → List (List Nat) → List (List Nat)
  | 0, m => m
  | k + 1, m => mSquares b k (mMul b m m)

/-- Whether every entry lies within 2^-30 of the identity's. -/
def mNearOne (b : Nat) (m : List (List Nat)) : Bool :=
  (mZip f64sub m (mDiag b (f64num 1 0))).all fun r => r.all fun q =>
    match fp64.decode q with
    | .fin _ k e => !(FV.fin false 1 (-30)).lt (.fin false k e)
    | _ => false

/-- The coupled iteration of R287, at most `k` more times. -/
def rootIter (b logp : Nat) : Nat → List (List Nat) → List (List Nat) → Option (List (List Nat))
  | 0, _, _ => none
  | k + 1, x, mm =>
    let p := 2 ^ logp
    let t := mScale (f64div (f64num 1 0) (f64num p 0)) (mZip f64sub (mDiag b (f64num (p + 1) 0)) mm)
    let x := mMul b x t
    let mm := mMul b (mSquares b logp t) mm
    if mNearOne b mm then some x else rootIter b logp k x mm

/-- One attempt with damping e. -/
def rootTry (b logp e : Nat) (m : List (List Nat)) : Option (List (List Nat)) :=
  let a := mZip f64add m (mDiag b e)
  let c := (List.range b).foldl (fun t i => f64add t (mAt a i i)) 0
  if !cholOk (f64mul (f64num 1 (-40)) c) a 0 [] then none
  else
    let r := f64div (f64num 1 0) c
    rootIter b logp 64 (mDiag b (sqrts logp r)) (mScale r a)

/-- inv_root: up to `k` attempts from damping e on. -/
def invRoot (b logp : Nat) : Nat → Nat → List (List Nat) → Option (List (List Nat))
  | 0, _, _ => none
  | k + 1, e, m =>
    match rootTry b logp e m with
    | some x => some (x.map fun r => r.map f32of64)
    | none => invRoot b logp k (f64mul e (f64num 10 0)) m

/-! ### Block records (R285) -/

/-- The address of a block's record. -/
def blkAt (d : BitVec 1024) (blk : Nat) : Nat := uSt d + blk * (16 * uB d * uB d + 256)
/-- The address of row `i` of item `k` of a record: L, R, PL, PR. -/
def blkRow (d : BitVec 1024) (blk k i : Nat) : Nat := blkAt d blk + 256 + 4 * uB d * uB d * k + 4 * uB d * i
/-- The element at (i, j) of a block (R286). -/
def blkElem (d : BitVec 1024) (blk i j : Nat) : Nat :=
  let cols := uCb d * uB d
  (blk / uCb d * uB d + i) * cols + blk % uCb d * uB d + j

/-- Item `k` of a record as FP32 rows, and whether any of it is poisoned. -/
def State.blkItem (s : State) (p : Part) (d : BitVec 1024) (blk k : Nat) : List (List Nat) × Bool :=
  let b := uB d
  let rows := (List.range b).map fun i => (List.range b).map fun j => s.hbmElem p (blkRow d blk k i + 4 * j) 4
  (rows.map fun r => r.map (·.1), rows.any fun r => r.any (·.2))

/-- The gradient of a block, zero where it is frozen, with the poison of each entry (R272). -/
def State.blkGrad (s : State) (p : Part) (d : BitVec 1024) (blk : Nat) : List (List (Nat × Bool)) :=
  (List.range (uB d)).map fun i => (List.range (uB d)).map fun j =>
    let n := blkElem d blk i j
    let (fr, q) := s.frozen p d n
    let (g, pg) := s.elG p d n
    if fr then (0, q) else (g, q || pg)

/-- The blocks of a shard: those whose first element it holds (log 25). -/
def blkOwned (p : Part) (d : BitVec 1024) (stack : Nat) : List Nat :=
  (List.range (uRb d * uCb d)).filter fun blk => p.elemStack d (blkElem d blk 0 0) == stack

/-- Phase 1: row `i` of the new L (`k` = 0) or R (`k` = 1) of a block (R286). -/
def State.statRow (s : State) (p : Part) (d : BitVec 1024) (blk k i : Nat) : List UpdOut :=
  let b := uB d
  let g0 := s.blkGrad p d blk
  let g := if k = 0 then g0 else (List.range b).map fun x => (List.range b).map fun y => (g0.getD y []).getD x (0, false)
  let row (x : Nat) : List (Nat × Bool) := g.getD x []
  (List.range b).map fun j =>
    let a := blkRow d blk k i + 4 * j
    let (l, pl) := s.hbmElem p a 4
    let dot := f32of64 (f64dot ((row i).map fun q => f64of32 q.1) ((row j).map fun q => f64of32 q.1))
    ⟨a, 4, f32fma (uB2 d) l (f32mul (uA2 d) dot), pl || (row i).any (·.2) || (row j).any (·.2)⟩

/-- The new root of item `k` (0 left, 1 right) of a block, and its poison (R286, R287). -/
def State.blkRoot (s : State) (p : Part) (d : BitVec 1024) (blk k : Nat) : Option (List (List Nat)) × Bool :=
  let (m, q) := s.blkItem p d blk k
  (invRoot (uB d) (uLogP d) 4 (f64of32 (uPeps d)) (m.map fun r => r.map f64of32), q)

/-- Phase 2: row `i` of the new PL or PR; a root that fails writes nothing (R286). -/
def State.rootRow (s : State) (p : Part) (d : BitVec 1024) (blk k i : Nat) : List UpdOut :=
  match s.blkRoot p d blk k with
  | (none, _) => []
  | (some m, q) => (m.getD i []).zipIdx.map fun x => ⟨blkRow d blk (2 + k) i + 4 * x.2, 4, x.1, q⟩

/-- STALE and LAST_ROOT_STEP of a block after phase 2: the outputs, whether a root of it failed, and the
STALE values before and after (R288). A block of whose two roots only one succeeds stays stale: its STALE grows and
LAST_ROOT_STEP is not written (DESIGN CHOICE, log 106: R288 states each rule for "a root of that block"). -/
def State.staleOut (s : State) (p : Part) (d : BitVec 1024) (blk : Nat) : List UpdOut × Nat × Nat × Nat :=
  let a := blkAt d blk
  let (st, q) := s.hbmElem p a 4
  if uRoot d then
    let l := s.blkRoot p d blk 0
    let r := s.blkRoot p d blk 1
    let fails := (if l.1.isNone then 1 else 0) + (if r.1.isNone then 1 else 0)
    let bad := q || l.2 || r.2
    if fails = 0 then ([⟨a, 4, 0, l.2 || r.2⟩, ⟨a + 4, 4, uExpect d, l.2 || r.2⟩], 0, st, 0)
    else
      let st' := (st + 1) % 2 ^ 32
      ([⟨a, 4, st', bad⟩], fails, st, st')
  else if st = 0 then ([], 0, 0, 0)
  else
    let st' := (st + 1) % 2 ^ 32
    ([⟨a, 4, st', q⟩], 0, st, st')

/-- Phase 3: u of an element of a block, and its poison (R286). -/
def State.precU (s : State) (p : Part) (d : BitVec 1024) (n : Nat) : Nat × Bool :=
  let b := uB d
  let cols := uCb d * b
  let blk := n / cols / b * uCb d + n % cols / b
  let i := n / cols % b
  let j := n % cols % b
  let g := s.blkGrad p d blk
  let pl := (List.range b).map fun x => s.hbmElem p (blkRow d blk 2 i + 4 * x) 4
  let pr := (List.range b).map fun x => s.hbmElem p (blkRow d blk 3 x + 4 * j) 4
  let plv := pl.map fun q => f64of32 q.1
  let y := (List.range b).map fun c =>
    f32of64 (f64dot plv (g.map fun r => f64of32 (r.getD c (0, false)).1))
  (f32of64 (f64dot (y.map f64of32) (pr.map fun q => f64of32 q.1)),
    pl.any (·.2) || pr.any (·.2) || g.any fun r => r.any (·.2))

end Sys2Proof.Machine
end

