-- ==== Sys2Proof/Machine/Commit.lean ====
section
/-! DEFINITION. The commit of a step (R256 to R284), the update engines and their drains (R293 to R295)
and the weight digest (R290 to R292): the commands of the update family. -/

namespace Sys2Proof.Machine

open Sys2Proof

/-! ### The states of the UPCs (R293, R294) -/

/-- Refresh UPC_DRAINED, STAND_IN and MUU_ACTIVE from the UPC states (R297). -/
def State.upcRefresh (s : State) : State :=
  (List.range 8).foldl
    (fun s u =>
      let out := s.od (odAt odUpcState u) == 1
      let s := s.odPutBit odUpcDrained u out
      let s := s.odSet (odAt odStandIn u) (if out then (s.standIn u).getD 255 else 255)
      let m := if out then 1 else 0
      (s.odSet (odAt odMuuActive (2 * u)) m).odSet (odAt odMuuActive (2 * u + 1)) m) s

/-! ### The update table (R258) -/

/-- The step counter of a shard; one that does not exist reads 0. -/
def State.updCtr (s : State) (p stack uid : Nat) : Nat :=
  match s.upd.find? fun e => e.part == p && e.stack == stack && e.uid == uid with
  | some e => e.ctr.toNat
  | none => 0

/-- Refresh UPDATE_TABLE_USED of every stack. -/
def State.updCount (s : State) : State :=
  (List.range 16).foldl
    (fun s k => s.odSet (odAt odUpdateTableUsed k) ((s.upd.filter fun e => e.stack == k).length)) s

/-- Set the step counter of a shard, making its entry if it has none. -/
def State.updSet (s : State) (p stack uid ctr : Nat) : State :=
  let hit (e : UpdEntry) : Bool := e.part == p && e.stack == stack && e.uid == uid
  let e : UpdEntry := ⟨p, stack, uid, BitVec.ofNat 32 ctr⟩
  if s.upd.any hit then { s with upd := s.upd.map fun x => if hit x then e else x }
  else ({ s with upd := s.upd ++ [e] } : State).updCount

/-- Clear the update tables of a partition (R258). -/
def State.updClear (s : State) (p : Nat) : State :=
  ({ s with upd := s.upd.filter fun e => e.part != p
            stuck := s.stuck.filter fun e => e.1 != p } : State).updCount

/-! ### Ending a commit -/

/-- The list of update descriptors that a command names (R264, R308). -/
def State.updList (s : State) (p : Part) (a n : Nat) : List (BitVec 1024) :=
  (List.range n).map fun i => BitVec.ofNat 1024 (ofLe ((List.range 4).flatMap fun k =>
    leBytes 32 (s.unitRead p 2 (a + 128 * i) k).1))

/-- The job after a commit that ends in a status (R324). -/
def State.jobAfterCommit (s : State) (p status : Nat) (resync : Bool) : State :=
  s.modJob p fun j =>
    if j.st != .stepPending then j
    else if status = csOk then { j with st := if resync then .stepPending else .loaded }
    else if status = csStepLost then { j with st := .halted, reason := rsStackLost }
    else j

/-- Whether a commit or digest is running on a UPC (R293). -/
def State.upcBusy (s : State) (u : Nat) : Bool :=
  (List.range 32).any fun p =>
    (match (s.part p).commit with
     | none => false
     | some c => c.shards.any fun h => !h.finished && s.upcFor h.stack (uRule (c.descs.getD h.desc 0)) == some u) ||
    ((s.part p).digests.any (·.started) && s.upcServes u && (s.part p).stacks.any fun k => k / 2 == u)

/-- What the SRAM of a UPC holds: the working data of its commit or digest (R49, R257). -/
def State.sramPut (s : State) (u : Nat) (bytes : List Byte) : State :=
  { s with upcSram := mset (fun _ => []) s.upcSram u bytes }
/-- Nothing in an SRAM outlives its commit or digest (R257). -/
def State.sramClear (s : State) : State :=
  { s with upcSram := s.upcSram.filter fun kv => s.upcBusy kv.1 }

/-- End the commit of a partition with a status: its record unless a reset has emptied the ring (R284,
R313), and the job's next state. -/
def State.endCommit (s : State) (p status : Nat) (res : Results) : State :=
  match (s.part p).commit with
  | none => s
  | some c =>
    let s := (s.modPart p fun x => { x with commit := none }).sramClear.jobAfterCommit p status
      (c.descs.all fun d => uRule d == 6)
    if c.afterReset then s
    else
      match s.cmd c.ring c.idx with
      | some cmd => s.complete cmd status res
      | none => s

/-- Change the commit of a partition. -/
def State.modCommit (s : State) (p : Nat) (f : Commit → Commit) : State :=
  s.modPart p fun x => { x with commit := x.commit.map f }

/-- Pass 1 of a FACTORED descriptor has ended in every shard and its sr has not been taken: take it
(R270, R279). -/
def State.commitSr (s : State) (p : Nat) : State :=
  match (s.part p).commit with
  | none => s
  | some c =>
    let due := (c.descs.zipIdx).filter fun dk =>
      uRule dk.1 == 3 && c.phase == .apply && !(c.sums.any fun x => x.1 == dk.2 && x.2.1 == 0) &&
        (c.shards.filter fun h => h.desc == dk.2).all fun h => decide (1 ≤ h.phase) || h.finished
    s.modCommit p fun c => { c with sums := c.sums ++ due.map fun dk => s.factSr (s.part p) dk.2 dk.1 }

/-- A stack is lost while commits run (R281). -/
def State.commitStackLost (s : State) (k : Nat) : State :=
  (List.range 32).foldl
    (fun s p =>
      match (s.part p).commit with
      | none => s
      | some c =>
        if !(c.descs.any fun d => (takesPart (s.part p) d).contains k) then s
        else if c.phase = .gate then s.endCommit p csStepLost ⟨rsStackLost, 0, 0, 0⟩
        else
          (s.modCommit p fun c =>
            { c with torn := if c.torn.contains k then c.torn else c.torn ++ [k]
                     shards := c.shards.filter fun h => h.stack != k }).commitSr p) s

/-! ### STEP_COMMIT and the gate (R274 to R276) -/

/-- The shards of a list: every descriptor with every stack that takes part (R259). -/
def listShards (p : Part) (ds : List (BitVec 1024)) : List ShardSt :=
  ds.zipIdx.flatMap fun dk => (takesPart p dk.1).map fun k => ⟨dk.2, k, 0, 0, false⟩

/-- Whether every shard finds room in the update tables (R258) and an engine (R260). -/
def State.commitRoom (s : State) (p : Nat) (ds : List (BitVec 1024)) : Bool :=
  let sh := listShards (s.part p) ds
  let rule (h : ShardSt) : Nat := uRule (ds.getD h.desc 0)
  let uid (h : ShardSt) : Nat := uUid (ds.getD h.desc 0)
  sh.all (fun h => s.engineFor h.stack (rule h)) &&
    (List.range 16).all fun k =>
      let new := (sh.filter fun h => h.stack == k &&
        !(s.upd.any fun e => e.part == p && e.stack == k && e.uid == uid h)).length
      let mine := (s.upd.filter fun e => e.stack == k && e.part == p).length
      let all := (s.upd.filter fun e => e.stack == k).length
      new = 0 || (decide (mine + new ≤ 4096) && decide (all + new ≤ 16384))

/-- Whether a run occupies a UPC that a commit's shards need: the run keeps it to itself, and the commit waits for its end (R528;
log 116). -/
def State.commitRuns (s : State) (p : Nat) (ds : List (BitVec 1024)) : Bool :=
  (listShards (s.part p) ds).any fun h => (s.upcFor h.stack (uRule (ds.getD h.desc 0))).any s.upcInRun

/-- STEP_COMMIT: the check, step-state and resources phases (R266, R274, R283, R316). It waits for a commit of its
partition that still applies (R284, R310), and for the end of a run on a UPC that it needs (R528). -/
def execStepCommit (ring idx : Nat) (s : State) : Host.Outcome State Fault Refusal :=
  match s.cmd ring idx with
  | none => .next s
  | some cmd =>
    if fld cmd.desc 0 8 ≠ 0x04 || cmd.acted || (s.part cmd.part).commit.isSome then .next s
    else
      let p := cmd.part
      let x := s.part p
      let ds := s.updList x (fld cmd.desc 96 64) (fld cmd.desc 160 12 + 1)
      let resync := ds.all fun d => uRule d == 6
      let other := !resync && decide (fld cmd.desc 64 32 ≠ x.job.step.toNat)
      if (x.job.st = .loaded && !resync) || (x.job.st = .stepPending && other) ||
          !(x.job.st = .loaded || x.job.st = .stepPending || x.job.st = .halted) then
        .next (s.complete cmd csStateIllegal noRes)
      else if !uListOk x.hbmSize ds then .next (s.complete cmd csArgInvalid noRes)
      else if x.job.st = .halted then .next (s.complete cmd csStepLost ⟨rsAlreadyLost, 0, 0, 0⟩)
      else if !s.commitRoom p ds then .next (s.complete cmd csNoResource noRes)
      else if s.commitRuns p ds then .next s
      else
        let c : Commit :=
          { ring := ring, idx := idx, phase := .gate, descs := ds, shards := listShards x ds, sums := [],
            torn := [], resumed := false, wrote := false, poisoned := [], stale := [], afterReset := false,
            startDt := s.clk.dt }
        let s := s.modPart p fun x => { x with commit := some c }
        .next { s with cmds := s.cmds.map fun y =>
                  if y.ring = ring ∧ y.idx = idx then { y with acted := true } else y }

/-- The stacks on which a descriptor disagrees with the stored counters (R275); one that was lost in the commit takes no
part any more (R281). -/
def State.disagree (s : State) (p : Nat) (d : BitVec 1024) : List Nat :=
  if uChk d then (takesPart (s.part p) d).filter fun k =>
    s.updCtr p k (uUid d) != uExpect d && !((s.part p).commit.any fun c => c.torn.contains k)
  else []

/-- A map of stacks, one bit each. -/
def stackMap (ks : List Nat) : Nat := (ks.map fun k => 2 ^ k).sum

/-- GATE_CHECK (R275, R276): all engines or none. -/
def execGateCheck (part : Nat) (s : State) : Host.Outcome State Fault Refusal :=
  match (s.part part).commit with
  | none => .next s
  | some c =>
    if c.phase ≠ .gate then .next s
    else if c.shards.any fun h => s.odBit odHbmStacksLost h.stack then
      .next (s.endCommit part csStepLost ⟨rsStackLost, 0, 0, 0⟩)
    else
      match c.descs.filter fun d => !(s.disagree part d).isEmpty with
      | d :: more =>
        let ks := s.disagree part d
        let m := stackMap ks
        let s := s.logEv 0x6003 unModule (some part) noLunit
          [uUid d, uExpect d, m, s.updCtr part (ks.headD 0) (uUid d), more.length + 1]
        let s := s.odAdd odStepMismatchCount 1
        .next (s.endCommit part csStepMismatch ⟨0, m + uUid d * 65536, 0, 0⟩)
      | [] =>
        let sums := c.descs.zipIdx.flatMap fun dk => s.startSums (s.part part) dk.2 dk.1
        let s := c.shards.foldl
          (fun s h =>
            let uid := uUid (c.descs.getD h.desc 0)
            s.updSet part h.stack uid (s.updCtr part h.stack uid)) s
        .next (s.modCommit part fun c => { c with phase := .apply, sums := sums })

/-! ### The apply phase (R277, R279) -/

/-- The writing phases of a rule (R269 to R271, R286). -/
def uPhases (rule : Nat) : Nat := if rule = 3 then 2 else if rule = 5 then 3 else 1

/-- Whether a shard may go on: its descriptor's earlier phases have ended in every shard, and it has an
engine and its stack (R260, R279). -/
def State.shardReady (s : State) (c : Commit) (h : ShardSt) : Bool :=
  !h.finished && s.engineFor h.stack (uRule (c.descs.getD h.desc 0)) && !s.odBit odHbmStacksLost h.stack &&
    (c.shards.filter fun x => x.desc == h.desc).all fun x => decide (h.phase ≤ x.phase) || x.finished

/-- A group of a shard: what it writes, the marker after it, and whether its phase has ended. -/
structure Group where
  outs : List UpdOut
  bad : Nat
  next : Nat
  ended : Bool
  blk : Option Nat
  deriving DecidableEq, Repr

/-- How many elements of a group have a poisoned output (R282). -/
def badElems (xs : List (List UpdOut)) : Nat := (xs.filter fun l => l.any (·.poison)).length

/-- The next group of a shard in a phase that runs over its elements. -/
def elemGroup (p : Part) (d : BitVec 1024) (h : ShardSt) (f : Nat → List UpdOut) : Group :=
  let ns := nextGroup p d h.stack h.next
  let outs := ns.map f
  let nx := (ns.getLastD h.next) + 1
  ⟨outs.flatten, badElems outs, nx, (nextGroup p d h.stack nx).isEmpty, none⟩

/-- The next group of a PRECOND shard: a row of a statistics or root matrix, or a block's STALE. -/
def State.blkGroup (s : State) (p : Part) (d : BitVec 1024) (h : ShardSt) : Group :=
  let own := blkOwned p d h.stack
  let b := uB d
  let per := if h.phase = 0 then 2 * b else if uRoot d then 2 * b + 1 else 1
  if own.length * per ≤ h.next then ⟨[], 0, h.next, true, none⟩
  else
    let blk := own.getD (h.next / per) 0
    let r := h.next % per
    let stale := h.phase = 1 && r + 1 = per
    let outs := if h.phase = 0 then s.statRow p d blk (r / b) (r % b)
      else if stale then (s.staleOut p d blk).1 else s.rootRow p d blk (r / b) (r % b)
    ⟨outs, (outs.filter (·.poison)).length, h.next + 1, decide (own.length * per ≤ h.next + 1),
      if stale then some blk else none⟩

/-- The group that a shard writes next. -/
def State.nextOuts (s : State) (p seed : Nat) (c : Commit) (h : ShardSt) : Group :=
  let d := c.descs.getD h.desc 0
  let x := s.part p
  if uRule d = 6 then ⟨[], 0, 0, true, none⟩
  else if uRule d = 3 && h.phase = 0 then elemGroup x d h (s.factPass1 x c.sums h.desc d)
  else if uRule d = 5 && decide (h.phase < 2) then s.blkGroup x d h
  else elemGroup x d h fun n => s.elemOuts x seed c.sums h.desc d n (s.precU x d)

/-- The events and counts of a block's STALE (R288), from the state before the group as its engine sees it. A root that
succeeds, or a stale run that begins, makes the block ready for the event again. The mark that the event has been logged
goes with the update table at a REMAP, a JOB_RELEASE or a warm reset, so that a block whose record the host restores with a
high STALE is logged again: a DESIGN CHOICE, since the manual does not say that it outlives them (log 106). -/
def State.staleEvents (s vw : State) (p : Nat) (d : BitVec 1024) (k blk : Nat) : State :=
  let (_, fails, _, new) := vw.staleOut (s.part p) d blk
  let key := (p, uUid d, blk)
  let s := s.odAdd odPrecondRootFailCount fails
  let s := if fails = 0 then s else s.modCommit p fun c => { c with stale := c.stale ++ [(k, blk)] }
  if new ≤ 1 then { s with stuck := s.stuck.filter fun e => e != key }
  else if s.od odPrecondStuckSteps < new && !s.stuck.contains key then
    ({ s with stuck := s.stuck ++ [key] } : State).logEv 0x6005 unModule (some p) noLunit [uUid d, blk]
  else s

/-- Apply the next group of a shard together with its marker (R277, R279). -/
def State.applyGroup (s : State) (p : Nat) (c : Commit) (h : ShardSt) : State :=
  let d := c.descs.getD h.desc 0
  let vw := s.seenBy (s.directStacks h.stack (uRule d))
  let g := vw.nextOuts p (s.part p).job.seed.toNat c h
  let last := g.ended && decide (uPhases (uRule d) ≤ h.phase + 1)
  let h' : ShardSt :=
    if last then { h with finished := true, next := g.next }
    else if g.ended then { h with phase := h.phase + 1, next := 0 }
    else { h with next := g.next }
  let s1 := match g.blk with
    | some blk => s.staleEvents vw p d h.desc blk
    | none => s
  let s1 := match s.upcFor h.stack (uRule d) with
    | some u => s1.sramPut u (g.outs.flatMap fun (o : UpdOut) => leBytes o.w o.v)
    | none => s1
  let s2 := (s1.updWrite vw (s.part p) g.outs).modCommit p fun c =>
    { c with wrote := true
             shards := c.shards.map fun x => if x = h then h' else x
             poisoned := if g.bad = 0 then c.poisoned
               else mset zN c.poisoned h.desc (mget zN c.poisoned h.desc + g.bad) }
  let s3 := if last then
      s2.updSet p h.stack (uUid d) (if uRule d = 6 then uExpect d else (uExpect d + 1) % 2 ^ 32)
    else s2
  s3.commitSr p

/-- What the SRAM of a UPC finds when it works on a group: a corrected error counts, and an uncorrectable one makes the
UPC discard the group, which it computes again from HBM (R257). -/
def State.sramFind (s : State) (u : Nat) (found : Finding) : State × Bool :=
  match found with
  | .ok => (s, false)
  | .uncorrectable => (s.sramPut u [], true)
  | _ => (s.odAdd (odAt odUpcSramCorrectedCount u) 1, false)

/-- UPDATE_GROUP_APPLY (R257, R279): the engine of a stack writes the next group of its shards. A stand-in that a run occupies
works on them when the run has ended (R294, R528). -/
def execUpdateGroupApply (part : Nat) (g : GroupFind) (s : State) : Host.Outcome State Fault Refusal :=
  match (s.part part).commit with
  | none => .next s
  | some c =>
    if c.phase ≠ .apply then .next s
    else
      match c.shards.find? fun h => h.stack == g.stack && s.shardReady c h with
      | none => .next s
      | some h =>
        match s.upcFor h.stack (uRule (c.descs.getD h.desc 0)) with
        | none => .next (s.applyGroup part c h)
        | some u =>
          if s.upcInRun u then .next s
          else
            let (s, redo) := s.sramFind u g.sram
            .next (if redo then s else s.applyGroup part c h)

/-- A list in pieces of at most 7, as many UIDs as a payload holds beside its unit (R280, R281, R522): an empty list is
one empty piece. -/
def uidPieces : Nat → List Nat → List (List Nat)
  | 0, l => [l.take 7]
  | n + 1, l => if l.length ≤ 7 then [l] else l.take 7 :: uidPieces n (l.drop 7)

/-- The events of a commit that has applied (R281, R282, R288); more UIDs than one record holds go on in further records
(log 50). -/
def State.commitEvents (s : State) (p : Nat) (c : Commit) : State :=
  let s := c.descs.zipIdx.foldl
    (fun s dk =>
      let bad := mget zN c.poisoned dk.2
      let s := if bad = 0 then s
        else (s.odAdd odUpdatePoisonElements bad).logEv 0x6006 unModule (some p) noLunit [uUid dk.1, bad]
      match (c.stale.filter fun x => x.1 == dk.2).map (·.2) with
      | [] => s
      | b :: bs => s.logEv 0x6004 unModule (some p) noLunit [uUid dk.1, bs.length + 1, bs.foldl min b]) s
  c.torn.foldl
    (fun s k =>
      let uids := (c.descs.filter fun d => (takesPart (s.part p) d).contains k).map uUid
      (uidPieces uids.length uids).foldl
        (fun (s : State) l => s.logEv 0x6008 (unStack k) (some p) noLunit (k :: l)) s) s

/-- Whether every shard of a commit has completed. -/
def Commit.done (c : Commit) : Bool := c.phase == .apply && c.shards.all (·.finished)

/-- COMMIT_COMPLETE (R277, R281, R324). -/
def execCommitComplete (part : Nat) (s : State) : Host.Outcome State Fault Refusal :=
  match (s.part part).commit with
  | none => .next s
  | some c =>
    if !c.done || c.afterReset then .next s
    else
      let s := (s.commitEvents part c).odAdd odCommitCount 1
      if c.torn.isEmpty then .next (s.endCommit part csOk noRes)
      else .next (s.endCommit part csStepLost ⟨rsStackLost, 0, 0, 0⟩)

/-- COMMIT_AFTER_RESET (R284): the status goes to the logs alone. -/
def execCommitAfterReset (part : Nat) (s : State) : Host.Outcome State Fault Refusal :=
  match (s.part part).commit with
  | none => .next s
  | some c =>
    if !c.done || !c.afterReset || (s.part part).resetAt.isSome then .next s
    else
      let s := (s.commitEvents part c).odAdd odCommitCount 1
      let status := if c.torn.isEmpty then csOk else csStepLost
      .next ((s.logEv 0x6009 unModule (some part) noLunit [status]).endCommit part status noRes)

/-! ### Drains and returns (R293 to R295) -/

/-- Whether a commit or digest of any partition is running on a UPC's stacks (R295). -/
def State.stacksBusy (s : State) (u : Nat) : Bool :=
  (List.range 32).any fun p =>
    (match (s.part p).commit with
     | none => false
     | some c => c.shards.any fun h => !h.finished && h.stack / 2 == u) ||
    ((s.part p).digests.any (·.started) && (s.part p).stacks.any fun k => k / 2 == u)

/-- A UPC is drained for a cause: 0 FARRIER, 1 FAULT, 2 REQUEST (R293, R294, R297). -/
def State.drainUpc (s : State) (u cause : Nat) : State :=
  let s := (s.odSet (odAt odUpcState u) 1).odPutBit odUpcDrainReq u false
  let s := ({ s with upcWait := s.upcWait.filter fun x => x.1 != u
                     upcPassed := mset zF s.upcPassed u false } : State).upcRefresh
  (s.logEv 0x6001 (unUpc u) none noLunit [Config.drainCause cause]).checkFloors

/-- Ask for a drain of a UPC that is in service (R293). -/
def State.askDrain (s : State) (u cause : Nat) : State :=
  if !(s.odBit odUpcEnabled u && s.od (odAt odUpcState u) == 0) || s.upcWait.any (fun x => x.1 == u) then s
  else { s with upcWait := s.upcWait ++ [(u, cause)] }

/-- The effect of a write to UPC_DRAIN_REQ (R297). A 1 for a UPC that is drained or disabled asks for nothing, and a 0 takes
no request back: a DESIGN CHOICE, since the manual says neither (log 108). -/
def State.drainReqWrite (s : State) (mask : Nat) : State × Nat :=
  ((List.range 8).foldl
    (fun s u =>
      if mask.testBit u && s.odBit odUpcEnabled u && s.od (odAt odUpcState u) == 0 then
        (s.odPutBit odUpcDrainReq u true).askDrain u 2
      else s) s, odOk)

/-- UPC_DRAIN_REQ: the write over a route (R297). -/
def execUpcDrainReq (route : Nat) (mask : BitVec 8) (s : State) : Host.Outcome State Fault Refusal :=
  .next (s.keyWrite route odUpcDrainReq fun s => s.drainReqWrite mask.toNat)

/-- UPC_DRAIN: a drain that was asked for takes effect on an idle UPC (R293). -/
def execUpcDrain (u : Nat) (s : State) : Host.Outcome State Fault Refusal :=
  match s.upcWait.find? fun x => x.1 == u with
  | none => .next s
  | some x => if s.upcBusy u then .next s else .next (s.drainUpc u x.2)

/-- The UIDs of the shards of a commit that are named by descriptor and stack and have not completed. -/
def Commit.uidsOf (c : Commit) (l : List (Nat × Nat)) : List Nat :=
  ((c.shards.filter fun h => !h.finished && l.contains (h.desc, h.stack)).map fun h =>
    uUid (c.descs.getD h.desc 0)).eraseDups

/-- The commits that a UPC was computing go on from their markers, or repeat the gate where no write had begun (R280). A
gate that is repeated resumes no shard from a marker: it is neither logged nor counted (DESIGN CHOICE, log 107). -/
def State.resumeCommits (s : State) (u : Nat) (hit : List (Nat × List (Nat × Nat))) : State :=
  hit.foldl
    (fun s x =>
      match (s.part x.1).commit with
      | none => s
      | some c =>
        let uids := c.uidsOf x.2
        if c.phase ≠ .apply || uids.isEmpty then s
        else if !c.wrote then s.modCommit x.1 fun c => { c with phase := .gate, sums := [] }
        else
          (uidPieces uids.length uids).foldl
            (fun (s : State) l => s.logEv 0x6007 (unUpc u) (some x.1) noLunit (u :: l))
            ((s.modCommit x.1 fun c => { c with resumed := true }).odAdd odCommitResumedCount 1)) s

/-- The commits that a UPC computes, with its shards by descriptor and stack. -/
def State.upcWork (s : State) (u : Nat) : List (Nat × List (Nat × Nat)) :=
  (List.range 32).filterMap fun p =>
    match (s.part p).commit with
    | none => none
    | some c =>
      let mine := c.shards.filter fun h =>
        !h.finished && s.upcFor h.stack (uRule (c.descs.getD h.desc 0)) == some u
      if mine.isEmpty then none
      else some (p, mine.map fun h => (h.desc, h.stack))

/-- A UPC fails a self-check or stops responding: it is drained at once, and its commits go on elsewhere (R280, R293). -/
def State.upcStops (s : State) (u : Nat) (work : List (Nat × List (Nat × Nat))) : State :=
  ({ (s.drainUpc u 1) with upcSram := mset (fun _ => []) (s.drainUpc u 1).upcSram u [] } : State).resumeCommits u work

/-- UPC_FAULT: a UPC fails a self-check or stops responding, and is drained at once (R280, R293, R497). -/
def execUpcFault (u : Nat) (s : State) : Host.Outcome State Fault Refusal :=
  if !(s.odBit odUpcEnabled u && s.od (odAt odUpcState u) == 0) || 8 ≤ u then .next s
  else .next ((s.upcStops u (s.upcWork u)).studFail (unUpc u) 4 0)

/-- UPC_RETURN: a drained UPC that has passed its runs returns when its stacks are idle (R295). -/
def execUpcReturn (u : Nat) (s : State) : Host.Outcome State Fault Refusal :=
  if s.od (odAt odUpcState u) ≠ 1 || !s.odBit odUpcEnabled u || !mget zF s.upcPassed u || s.stacksBusy u ||
      s.unitOut (unUpc u) then .next s
  else
    let s := (s.odSet (odAt odUpcState u) 0).upcRefresh
    let s : State := { s with upcPassed := mset zF s.upcPassed u false }
    .next (s.logEv 0x6002 (unUpc u) none noLunit [])

/-! ### The weight digest (R290 to R292) -/

/-- The prime 2^61 - 1. -/
def p61 : Nat := 2 ^ 61 - 1

/-- point(k, tid) of R290. -/
def digPoint (seed k tid : Nat) : Nat :=
  let c := if k = 0 then 0x165667B1 else 0x27D4EB2F
  let z := mix (mix (seed ^^^ c) ^^^ tid) % p61
  if z < 2 then z + 2 else z

/-- The terms of a tensor from its first element on: `pw` is the point's power for it (R290). -/
def digTerms (pt : Nat) : List Nat → Nat → Nat → Nat
  | [], _, acc => acc
  | x :: xs, pw, acc => digTerms pt xs (pw * pt % p61) ((acc + x * pw) % p61)

/-- A digest entry is legal (R291). -/
def digOk (size : Nat) (e : Row) : Bool :=
  let n := fld e 8 40 + 1
  fld e 0 4 == 8 && decide (fld e 4 2 ≤ 2) && fld e 6 2 == 0 && fld e 48 16 == 0 && fld e 96 32 == 0 &&
    fld e 192 64 == 0 && fld e 128 64 % 64 == 0 && decide (fld e 128 64 + n * 2 ^ fld e 4 2 ≤ size)

/-- The digest of a list of entries, and whether a poisoned granule was read (R290, R292): every engine reads the bytes of
its own stacks (R261). -/
def State.digValue (s : State) (p : Part) (es : List Row) : BitVec 128 × Bool :=
  let seed := p.job.seed.toNat
  let tens := es.map fun e =>
    let w := 2 ^ fld e 4 2
    (fld e 64 32, (List.range (fld e 8 40 + 1)).map fun n =>
      (s.seenBy (List.range 16)).hbmElem p (fld e 128 64 + w * n) w)
  let half (k : Nat) : Nat := tens.foldl
    (fun acc t => let pt := digPoint seed k t.1; digTerms pt (t.2.map (·.1)) pt acc) 0
  if tens.any fun t => t.2.any (·.2) then (0, true)
  else (BitVec.ofNat 128 (half 0 + 2 ^ 61 * half 1), false)

/-- The UPCs of a partition's stacks hold the digest that they work on (R257). -/
def State.digSram (s : State) (p : Nat) (v : BitVec 128) : State :=
  ((List.range 8).filter fun u => s.upcServes u && (s.part p).stacks.any fun k => k / 2 == u).foldl
    (fun (s : State) u => s.sramPut u (leBytes 16 v.toNat)) s

/-- Whether a run occupies a UPC that works on the digests of a partition: they wait for its end (R528; log 116). -/
def State.digRuns (s : State) (p : Nat) : Bool :=
  (List.range 8).any fun u => s.upcServes u && s.upcInRun u && (s.part p).stacks.any fun k => k / 2 == u

/-- DIGEST_REQ: the entries are checked; the digest starts unless a commit of its partition runs, or a run occupies a UPC of it
(R291, R292, R316, R528). A poisoned granule of the list is one that the digest reads (R292). -/
def execDigestReq (ring idx : Nat) (s : State) : Host.Outcome State Fault Refusal :=
  match s.cmd ring idx with
  | none => .next s
  | some cmd =>
    if fld cmd.desc 0 8 ≠ 0x30 || cmd.acted then .next s
    else
      let x := s.part cmd.part
      let us := (List.range (fld cmd.desc 64 16 + 1)).map fun i => s.unitRead x 2 (fld cmd.desc 128 64) i
      let es := us.map fun u => BitVec.ofNat 256 u.1
      if us.any (·.2) then .next (s.complete cmd csPoisonConsumed noRes)
      else if !es.all (digOk x.hbmSize) then .next (s.complete cmd csArgInvalid noRes)
      else
        let v := s.digValue x es
        let go := x.commit.isNone && !s.digRuns cmd.part
        let g : Digest := ⟨ring, idx, go, es, if go then v.1 else 0, go && v.2⟩
        let s := s.modPart cmd.part fun x => { x with digests := x.digests ++ [g] }
        let s := if go then s.digSram cmd.part v.1 else s
        .next { s with cmds := s.cmds.map fun y =>
                  if y.ring = ring ∧ y.idx = idx then { y with acted := true } else y }

/-- Start the first waiting digest of a list. -/
def startDigest (f : List Row → BitVec 128 × Bool) : List Digest → List Digest
  | [] => []
  | g :: gs =>
    if g.started then g :: startDigest f gs
    else { g with started := true, value := (f g.entries).1, poison := (f g.entries).2 } :: gs

/-- DIGEST_START: a digest that waited for a commit, or for the end of a run on a UPC, starts once none runs (R292, R528). -/
def execDigestStart (part : Nat) (s : State) : Host.Outcome State Fault Refusal :=
  let x := s.part part
  if x.commit.isSome || s.digRuns part then .next s
  else
    match x.digests.find? fun g => !g.started with
    | none => .next s
    | some g =>
      .next ((s.modPart part fun y => { y with digests := startDigest (s.digValue x) y.digests }).digSram part
        (s.digValue x g.entries).1)

/-- What the SRAM checks of the UPCs that work on a digest find: corrected errors are counted, and what an uncorrectable
one discards is computed again from HBM, with the same bits (R257). -/
def State.digFinds (s : State) (p : Nat) (l : List (Nat × Finding)) : State :=
  (l.filter fun x => s.upcServes x.1 && (s.part p).stacks.any fun k => k / 2 == x.1).foldl
    (fun (s : State) x => (s.sramFind x.1 x.2).1) s

/-- DIGEST_COMPLETE: the first digest that runs completes (R257, R291, R292, R314). -/
def execDigestComplete (d : DigestEnd) (s : State) : Host.Outcome State Fault Refusal :=
  let part := d.part
  match (s.part part).digests.find? (·.started) with
  | none => .next s
  | some g =>
    let s := s.digFinds part d.sram
    let s := (s.modPart part fun x => { x with digests := x.digests.filter fun y => y != g }).sramClear
    match s.cmd g.ring g.idx with
    | none => .next s
    | some cmd =>
      if g.poison then .next (s.complete cmd csPoisonConsumed noRes)
      else .next (s.complete cmd csOk ⟨0, 0, 0, g.value.toNat⟩)

end Sys2Proof.Machine
end

