-- ==== Sys2Proof/Machine/Packet.lean ====
section
/-! DEFINITION. Packets and flits of the links as bytes (R446 to R450, R460, R461, R465, R470, R473): the headers that the module
sends, the flits that carry them, and the check of a header. -/

namespace Sys2Proof.Machine

open Sys2Proof

/-- Fields one behind the other, the first lowest: the width and the value of each (R11). -/
def packBits : List (Nat × Nat) → Nat
  | [] => 0
  | (w, v) :: r => v % 2 ^ w + 2 ^ w * packBits r

/-! ### Headers (R460, R465, R470, R473) -/

/-- The fields that window traffic and management messages share (R460, R470). -/
def pktHead (typ : Nat) (dst src : BitVec 16) (tag : BitVec 32) (hops age : Nat) : List (Nat × Nat) :=
  [(8, typ), (16, dst.toNat), (16, src.toNat), (32, tag.toNat), (6, hops), (13, age)]

/-- The TYPE of a window request (R460). -/
def winCode : WinKind → Nat
  | .wmove => 1
  | .waaddx => 2
  | .wzero => 3

/-- A window packet (R460). -/
def winHeader (kind : WinKind) (p : WinPkt) : Nat :=
  packBits (pktHead (winCode kind) p.dst p.src p.tag p.hops p.ageUs ++
    [(5, 0), (12, p.handle), (1, p.pfmt.toNat), (4, p.guard), (6, p.ngr), (1, 0), (16, p.eSrc.toNat), (16, p.eDst.toNat),
     (56, p.offset), (64, p.key.toNat), (64, p.pmap.toNat), (24, p.cid.toNat), (13, p.npkt)])

/-- A time message (R465). -/
def timeHeader (typ : Nat) (m : TimeMsg) : Nat :=
  packBits [(8, typ), (16, m.masterId.toNat), (16, m.src.toNat), (1, m.idv.toNat), (1, m.lock.toNat), (8, m.tdepth), (14, 0),
    (16, m.term.toNat), (16, m.mseq.toNat), (64, wrapI 64 (m.ft / 2 ^ 16)), (16, wrapI 16 m.ft),
    (64, wrapI 64 (m.tRx / 2 ^ 16)), (16, wrapI 16 m.tRx)]

/-- A management message (R470). -/
def mgmtHeader (typ : Nat) (m : MgmtMsg) : Nat :=
  packBits (pktHead typ m.dst m.src m.tag m.hops m.ageUs ++
    [(1, m.idv.toNat), (1, m.nbr.toNat), (1, m.flood.toNat), (2, 0), (16, m.term.toNat), (16, 0), (128, m.serial.toNat),
     (16, m.ident.toNat), (1, m.idf.toNat), (3, m.status), (6, m.rlink), (16, m.relay.toNat), (32, m.tver.toNat),
     (16, m.tpart), (16, m.tnpart), (8, m.entries.length - 1)])

/-- A packet that is passed on keeps every bit of its header but HOPS (R442, R460). -/
def RoutedPkt.header (p : RoutedPkt) : Nat :=
  packBits (pktHead (p.typ % 32 + 32 * p.body.low.toNat) p.dst p.body.src p.body.tag p.hops p.ageUs ++
    [(5, p.body.mid.toNat), (288, p.body.high.toNat)])

/-- A host message (R473): TYPE, LEN, TAG, HOST_ADDR and BODY. -/
def hostMsgHeader (typ len : Nat) (tag : BitVec 32) (addr body : Nat) : Nat :=
  packBits [(16, typ), (16, len), (32, tag.toNat), (64, addr), (128, body)]

/-- The bytes of a host message, and its channel (R473). -/
def HostMsg.bytes : HostMsg → List Byte
  | .hwr addr data n => leBytes 48 (hostMsgHeader 0x12 (n - 1) 0 addr 0) ++ leBytes n data
  | .hrd tag addr n => leBytes 48 (hostMsgHeader 0x10 (n - 1) tag addr 0)
  | .intr vec => leBytes 48 (hostMsgHeader 0x17 0 0 0 vec)
/-- How long a host message is. -/
def HostMsg.size : HostMsg → Nat
  | .hwr _ _ n => 48 + n
  | _ => 48
/-- The channel of a host message: DMA for host memory traffic, CMD for interrupts (R448, R473). -/
def HostMsg.vc : HostMsg → Nat
  | .intr _ => 1
  | _ => 2

/-- The bytes of what leaves on a link, header first; an IDLE or CTRL flit carries no packet. -/
def LinkMsg.bytes : LinkMsg → List Byte
  | .window .wzero p => leBytes 48 (winHeader .wzero p)
  | .window kind p => leBytes 48 (winHeader kind p) ++ p.data
  | .wdone d => leBytes 48 (packBits (pktHead 4 d.dst d.src d.tag 0 d.ageUs ++ [(5, 0), (12, 0), (1, d.ovf.toNat)]))
  | .ann m => leBytes 48 (timeHeader 0x0C m)
  | .delayReq m => leBytes 48 (timeHeader 0x0D m)
  | .delayResp m => leBytes 48 (timeHeader 0x0E m)
  | .mgmt typ m => leBytes 48 (mgmtHeader typ m) ++ m.entries.flatMap fun e => leBytes 16 e.1.toNat ++ leBytes 2 e.2.toNat
  | .forward p => leBytes 48 p.header ++ p.body.data
  | .host m => m.bytes
  | .ctrl lanes pair => leBytes 1 lanes ++ leBytes 2 pair.toNat
  | .replayFrom _ | .nak _ | .credit _ _ _ => []

/-- Whether a header has a TYPE of its kind of link and every RSV field at zero (R460, R461, R465, R470, R473). -/
def headerOk (h : BitVec 384) : Bool :=
  let typ := fld h 0 5
  if typ = 0 then false
  else if typ ≤ 4 then fld h 5 3 == 0 && fld h 91 5 == 0 && fld h 119 1 == 0 && fld h 373 11 == 0
  else if 8 ≤ typ && typ ≤ 11 then fld h 5 3 == 0 && fld h 94 2 == 0 && fld h 112 16 == 0 && fld h 370 14 == 0
  else if 12 ≤ typ && typ ≤ 14 then fld h 5 3 == 0 && fld h 50 14 == 0 && fld h 256 128 == 0
  else if 16 ≤ typ && typ ≤ 23 then fld h 11 5 == 0 && fld h 256 128 == 0
  else false

/-! ### Flits (R446, R447) -/

/-- A flit with nothing in it. -/
def zeroFlit : Flit := ⟨true, 0, 0, false, false, false, 0, 0, false, 0, false, 0, 0, 0, []⟩

/-- The 2,048 bits of a flit that is sent: unused bytes are zero, and the CRC-32 stands over bytes 0 to 251 (R446). -/
def flitWord (f : Flit) : BitVec 2048 :=
  let l := leBytes 8 (packBits [(2, f.fk), (2, f.vc), (1, f.dl.toNat), (1, f.sop.toNat), (1, f.eop.toNat), (12, f.seq),
    (12, f.ack), (1, f.nak.toNat), (2, f.cvc), (1, f.cdl.toNat), (10, f.ccnt), (8, f.data.length - 1)]) ++
    (f.data ++ List.replicate (244 - f.data.length) 0)
  BitVec.ofNat 2048 (ofLe (l ++ leBytes 4 (crc32 l).toNat))

/-- The DATA flit of a packet, with the acknowledgement of the moment (R446). -/
def TxFlit.word (ack : Nat) (f : TxFlit) : BitVec 2048 :=
  flitWord { zeroFlit with fk := 1, vc := f.cls / 2, dl := f.cls % 2 == 1, sop := f.sop, eop := f.eop, seq := f.seq,
                           ack := ack, data := f.data }

/-- The flits of a packet: 244 payload bytes each (R446). -/
def flitsOf (bytes : Nat) : Nat := (bytes + 243) / 244

/-- The DATA flits that carry a packet, from SOP to EOP (R446, R447). -/
def dataFlits (seq cls bytes : Nat) (m : LinkMsg) : List TxFlit :=
  (List.range (flitsOf bytes)).map fun i =>
    ⟨(seq + i) % 4096, 1, cls, i == 0, i + 1 == flitsOf bytes, (m.bytes.drop (244 * i)).take 244⟩

/-- The SEQ of the last DATA flit received in order (R446). -/
def Link.ack (x : Link) : Nat := (x.rxNext + 4095) % 4096

/-- The flit that says what a link has to say without a packet: NAK and returned credits go with an IDLE flit, lane maps and
switches with a CTRL flit (R446, R447, R449, R450, R453, R454). -/
def Link.sayFlit (x : Link) : LinkMsg → Flit
  | .nak ack => { zeroFlit with ack := ack, nak := true }
  | .credit vc dl n => { zeroFlit with ack := x.ack, cvc := vc, cdl := dl, ccnt := n }
  | .ctrl lanes pair => { zeroFlit with fk := 2, ack := x.ack, data := (LinkMsg.ctrl lanes pair).bytes }
  | _ => { zeroFlit with ack := x.ack }

/-- What a channel of a link has received once a flit is accepted: the packet that it completes, and the payload that it
holds of packets not complete yet. A packet runs from SOP to EOP, and VLEN says how many bytes of a flit count; a flit that
belongs to no packet carries none (R446, R447). -/
def Link.receive (x : Link) (f : Flit) : Link × Option (List Byte) :=
  let mine (p : Nat × Bool × List Byte) : Bool := p.1 == f.vc
  let old := x.rxOpen.find? mine
  let l := (if f.sop then [] else (old.map (·.2.2)).getD []) ++ f.data.take (f.vlen + 1)
  let rest := x.rxOpen.filter fun p => !mine p
  if !f.sop && old.isNone then (x, none)
  else if f.eop then ({ x with rxOpen := rest }, some l)
  else ({ x with rxOpen := rest ++ [(f.vc, f.dl, l)] }, none)

end Sys2Proof.Machine
end

