-- ==== Sys2Proof/Machine/LinkOps.lean ====
section
/-! DEFINITION. Sending on the links (R448 to R450, R457 to R459): credits, the replay buffer, the choice of a
link by the route table, and packets that wait. -/

namespace Sys2Proof.Machine

open Sys2Proof

/-- Device time in µs as AGE_US carries it (R460). -/
def State.ageNow (s : State) : Nat := s.clk.dt / 1000 % 8192

/-- The bytes of a window packet: its header, and the granules that WMOVE and WAADDX carry (R460). -/
def winBytes (kind : WinKind) (p : WinPkt) : Nat :=
  match kind with
  | .wzero => 48
  | _ => 48 + 64 * (p.ngr + 1)

/-- The credits of a class at the end of a training: its receive buffer (R448). Classes are 2 * channel + DL. -/
def bufferOf (cls : Nat) : Nat :=
  if cls = 6 then 8 else if cls = 0 then 32 else if cls = 2 || cls = 3 then 64 else if cls = 4 || cls = 5 then 1024 else 0

/-- Whether a packet of a class may leave: its credits, and room in the replay buffer of 1,024 flits (R449, R450). -/
def Link.space (k : Link) (cls flits : Nat) : Bool :=
  decide (flits ≤ mget zN k.credits cls) && decide (k.replay.length + flits ≤ 1024)

/-- The link after it has sent a packet's flits (R449, R450). -/
def Link.sent (k : Link) (cls bytes : Nat) (m : LinkMsg) (dt : Nat) : Link :=
  { k with credits := mset zN k.credits cls (mget zN k.credits cls - flitsOf bytes)
           txNext := (k.txNext + flitsOf bytes) % 4096
           ackDt := if k.replay.isEmpty then dt else k.ackDt
           replay := k.replay ++ dataFlits k.txNext cls bytes m }

/-- Record what leaves on a link. -/
def State.linkOut (s : State) (x : LinkTx) : State := { s with linkTx := s.linkTx ++ [x] }

/-- An IDLE or CTRL flit leaves on a link; no replay sends it again (R447). -/
def State.say (s : State) (k : Nat) (m : LinkMsg) : State :=
  s.linkOut ⟨some k, false, none, m, [flitWord ((s.link k).sayFlit m)]⟩

/-- A packet leaves on a link: its flits from SOP to EOP (R446, R447, R449). -/
def State.sendNow (s : State) (k cls bytes : Nat) (via : Option Transit) (m : LinkMsg) : State :=
  let x := s.link k
  (s.modLink k fun x => x.sent cls bytes m s.clk.dt).linkOut
    ⟨some k, cls % 2 == 1, via, m, (dataFlits x.txNext cls bytes m).map (TxFlit.word x.ack)⟩

/-- Send a packet on a link, or let it wait there for its credits (R447, R449, R459). -/
def State.sendOn (s : State) (k vc : Nat) (dl : Bool) (bytes : Nat) (via : Option Transit) (m : LinkMsg) : State :=
  let cls := 2 * vc + (if dl then 1 else 0)
  let x := s.link k
  if s.linkUp k && !(x.wait.any fun w => w.cls == cls) && x.space cls (flitsOf bytes) then s.sendNow k cls bytes via m
  else s.modLink k fun x => { x with wait := x.wait ++ [⟨s.clk.dt, cls, bytes, via, m⟩] }

/-- A waiting packet leaves if no packet of its class still waits before it: the state and the packets that
stay. -/
def State.flushOne (sw : State × List LinkWait) (k : Nat) (w : LinkWait) : State × List LinkWait :=
  if !(sw.2.any fun v => v.cls == w.cls) && (sw.1.link k).space w.cls (flitsOf w.bytes) then
    (sw.1.sendNow k w.cls w.bytes w.via w.msg, sw.2)
  else (sw.1, sw.2 ++ [w])

/-- Packets that waited leave once credits allow, the channels in the order TIME, MGMT, CMD, DMA (R448, R449). -/
def State.flushLink (s : State) (k : Nat) : State :=
  if !s.linkUp k then s
  else
    let ws := (s.link k).wait
    let order := [6, 0, 2, 3, 4, 5].flatMap fun c => ws.filter fun w => w.cls == c
    let (s, left) := order.foldl (fun sw w => State.flushOne sw k w) (s, [])
    s.modLink k fun x => { x with wait := left }

/-- The host port takes the messages that have come to it since it last did, each on its channel, as any link does (R448 to
R450, R473, R476): at a time word, and when the port's own flits arrive (log 115). -/
def State.pumpHost (s : State) : State :=
  let ms := s.hostTx.drop s.hostDone
  let s : State := { s with hostDone := s.hostTx.length }
  ms.foldl (fun (s : State) m => s.sendOn s.hostPort m.vc false m.size none (.host m)) s

/-- The route entry of a device ID (R458). -/
def State.routeEntry (s : State) (dst : Nat) : Nat := mget (fun _ => 0xFFFFFF) s.routes dst
/-- The slots and links of a route entry (R458). -/
def State.routeSlots (s : State) (dst : Nat) : List (Nat × Nat) :=
  ((List.range 4).map fun k => (k, s.routeEntry dst / 2 ^ (6 * k) % 64)).filter fun k => decide (k.2 ≤ 33)
/-- Whether the fabric has a path to a device ID (R458). -/
def State.hasPath (s : State) (dst : Nat) : Bool := (s.routeSlots dst).any fun k => s.linkUp k.2

/-- The bytes queued at a link: of flits that are not acknowledged yet, and of packets that wait. -/
def State.queuedAt (s : State) (k : Nat) : Nat :=
  ((s.link k).replay.map fun f => f.data.length).sum + ((s.link k).wait.map (·.bytes)).sum

/-- The first slot with the fewest bytes queued. -/
def State.leastQueued (s : State) : List (Nat × Nat) → Option (Nat × Nat)
  | [] => none
  | x :: xs =>
    match s.leastQueued xs with
    | none => some x
    | some y => if s.queuedAt y.2 < s.queuedAt x.2 then some y else some x

/-- Whether a packet takes DL = 1 on a slot: it has it already, or the slot sets it for CMD and DMA (R458). -/
def State.slotDl (s : State) (dst vc : Nat) (dl : Bool) (slot : Nat) : Bool :=
  dl || ((vc == 1 || vc == 2) && (s.routeEntry dst).testBit (24 + slot))

/-- The slot on which a packet leaves: UP, with credits, and the fewest bytes queued; ties go to the lowest
slot. Where no UP link has credits it waits at the least queued of them, and where none is UP at the first link
of the entry (R458, R459; log 30). -/
def State.pickSlot (s : State) (dst vc : Nat) (dl : Bool) (bytes : Nat) : Option (Nat × Nat) :=
  let up := (s.routeSlots dst).filter fun k => s.linkUp k.2
  let free := up.filter fun k =>
    let cls := 2 * vc + (if s.slotDl dst vc dl k.1 then 1 else 0)
    (s.link k.2).space cls (flitsOf bytes) && !((s.link k.2).wait.any fun w => w.cls == cls)
  ((s.leastQueued free).orElse fun _ => s.leastQueued up).orElse fun _ => (s.routeSlots dst).head?

/-- The mesh channel between two link dies: MGMT and TIME traffic uses MGMT, CMD and DMA use BULK (R442). -/
def transitOf (vc : Nat) : Transit := if vc = 0 || vc = 3 then .mgmt else .bulk

/-- Send on a link by the path from a link die, or from within the module, to the link's die: where that die is cut off,
the router before it discards the packet (R54, R367, R442). -/
def State.sendFrom (s : State) (die : Option Nat) (k vc : Nat) (dl : Bool) (bytes : Nat) (m : LinkMsg) : State :=
  if die ≠ some (linkDie k) && s.dieCutOff (linkDie k) then s.odAdd odMeshUnreachDropCount 1
  else s.sendOn k vc dl bytes (if die.any (· != linkDie k) then some (transitOf vc) else none) m

/-- A packet that comes for this module over a link, or from the module itself (none): one that reaches a die which is
cut off from the mesh is discarded and counted (R442). -/
def State.fromLink (s : State) (link : Option Nat) (f : State → State) : State :=
  match link with
  | none => f s
  | some k =>
    if 34 ≤ k || !s.linkUp k then s
    else if s.dieCutOff (linkDie k) then s.odAdd odLinkIsolatedDropCount 1
    else f s

/-- Send a packet by the route table from a link die, or from within the module; one for the module's own device ID is
delivered locally, and CMD and DMA packets take DL = 1 where the slot says so (R458). A module without a device ID sends
no routed packet (R457). -/
def State.routeOut (s : State) (die : Option Nat) (dst vc : Nat) (dl : Bool) (bytes : Nat) (m : LinkMsg) : State :=
  if s.od odDeviceIdValid = 0 then s
  else if s.od odDeviceId = dst then s.linkOut ⟨none, dl, none, m, []⟩
  else
    match s.pickSlot dst vc dl bytes with
    | none => s
    | some (slot, k) =>
      s.sendFrom die k vc (s.slotDl dst vc dl slot) bytes m

/-- Pass a packet on that has come over a link: its HOPS must stay below 32 (R461), and at a die that is cut off from the mesh
it leaves only on another link of that die; elsewhere it is discarded and counted (R442). -/
def State.relay (s : State) (link dst vc : Nat) (dl : Bool) (bytes hops : Nat) (m : LinkMsg) : State :=
  let die := linkDie link
  let near := (s.pickSlot dst vc dl bytes).any fun k => linkDie k.2 == die
  if 32 ≤ hops then s.odAdd odLinkDropHopsCount 1
  else if s.dieCutOff die && (!near || s.od odDeviceId == dst) then s.odAdd odLinkIsolatedDropCount 1
  else s.routeOut (some die) dst vc dl bytes m

/-- Send a packet that begins here, with DL = 0. -/
def State.sendRouted (s : State) (dst vc bytes : Nat) (m : LinkMsg) : State :=
  s.routeOut none dst vc false bytes m

end Sys2Proof.Machine
end

