-- ==== Sys2Proof/Machine/Copy.lean ====
section
/-! DEFINITION. Copies (R215 to R223): MOVE, ZERO, MARKS and AADDX, their completion, and the packets that a
copy into WINDOW space sends (R460, R464). -/

namespace Sys2Proof.Machine

open Sys2Proof

/-- The copy of a number. -/
def State.copyOf (s : State) (n : Nat) : Option CopySt := s.copies.find? fun x => x.num == n
/-- Change the copy of a number. -/
def State.modCopy (s : State) (n : Nat) (f : CopySt → CopySt) : State :=
  { s with copies := s.copies.map fun x => if x.num == n then f x else x }

/-- The sites of the addresses of a copy (R208). -/
def copyEnds (p : Part) (x : CopySt) : List SiteId :=
  let d := copyDesc x.desc
  let at_ (sp a : Nat) : List SiteId := if sp = 2 || sp = 3 then [] else (p.siteOf (adCluster a)).toList
  (if d.opc = 2 then [] else at_ d.ssp d.src) ++ at_ d.dsp d.dst
/-- The sites whose ports the requests of a copy reach: those of its addresses beside its own (R208, R218). -/
def copySites (p : Part) (x : CopySt) : List SiteId := (copyEnds p x).filter (· != coreSiteOf x.core)

/-- The response entries that a copy reserves for the first packet of what it reads over the mesh: 256 bytes each, at
most 16 (R352, R365). -/
def copyReads (p : Part) (x : CopySt) : Nat :=
  let d := copyDesc x.desc
  let far := d.ssp = 2 || (p.siteOf (adCluster d.src)) != some (coreSiteOf x.core)
  if d.opc = 2 || !far then 0 else min 16 ((d.units + 7) / 8)

/-- Whether the engine of a copy may issue its requests now: copies of one core on one engine start in issue order
(R220), the engine's cluster runs or has been switched off, the delay after a RETRY is over (R364), and response entries
for what it reads can be reserved (R365). A copy whose cluster has been
switched off since it was issued goes on: the manual does not say what becomes of it (DESIGN CHOICE, log 80). -/
def State.copyReady (s : State) (x : CopySt) : Bool :=
  let own := (s.cl (coreSiteOf x.core)).port
  !x.acted &&
    !((s.copies.takeWhile fun y => y.num != x.num).any fun y => y.core == x.core && y.eng == x.eng && !y.acted) &&
    own != .hold && own != .park && decide (x.retryAt ≤ s.clk.dt) &&
    decide (copyReads (s.part x.part) x ≤ s.respFree (coreSiteOf x.core))

/-- The ports that answer a copy's requests with RETRY (R363). -/
def State.copyRetries (s : State) (x : CopySt) : List SiteId :=
  (copySites (s.part x.part) x).filter fun site => (s.cl site).port == .hold || (s.cl site).port == .park

/-- The clusters of a copy's addresses that are in a change stop (R387). -/
def State.copyStops (s : State) (x : CopySt) : List SiteId := (copyEnds (s.part x.part) x).filter s.stopped

/-- Whether a copy may move its bytes now: its engine may issue, no port draws RETRY, and no cluster is in a change stop. -/
def State.copyMay (s : State) (x : CopySt) : Bool :=
  s.copyReady x && (s.copyRetries x).isEmpty && (s.copyStops x).isEmpty

/-- A copy's request draws RETRY: counted; the copy waits 1 µs, then twice as long each time, up to 64 µs; the first
request at a parked port wakes its cluster (R363, R364). -/
def State.copyRetry (s : State) (x : CopySt) : State :=
  let r := Retry.again ⟨x.retryUs, x.retryAt⟩ s.clk.dt
  let s := (s.odAdd odMeshRetryCount 1).modCopy x.num fun y => { y with retryUs := r.us, retryAt := r.due }
  (s.copyRetries x).foldl State.wakePort s

/-- A copy's requests have arrived for a cluster in a change stop (R387). -/
def State.copyLand (s : State) (n : Nat) (site : SiteId) : State :=
  if s.landing.contains (site, .copy n) then s else s.landLater site (.copy n)

/-- Run an unstarted copy of an operation code. -/
def State.copyDo (s : State) (n opc : Nat) (k : State → Part → CopySt → CopyDesc → State) : State :=
  match s.copyOf n with
  | none => s
  | some x =>
    let d := copyDesc x.desc
    if d.opc ≠ opc || !s.copyReady x then s
    else if !(s.copyRetries x).isEmpty then s.copyRetry x
    else match s.copyStops x with
      | site :: _ => s.copyLand n site
      | [] => (k s (s.part x.part) x d).modCopy n fun y => { y with acted := true }

/-! ### Packets into WINDOW space -/

/-- Cut units into packets of at most 64 granules: offset and units of each (R464). -/
def cutUnits : Nat → Nat → List (Nat × Bool) → List (Nat × List (Nat × Bool))
  | 0, _, _ => []
  | k + 1, off, xs => if xs.isEmpty then [] else (off, xs.take 128) :: cutUnits k (off + 4096) (xs.drop 128)

/-- The poison of the granules of a packet (R253, R460). -/
def pktPmap (xs : List (Nat × Bool)) : BitVec 64 :=
  BitVec.ofNat 64 ((List.range 64).foldl
    (fun a g => if (xs.getD (2 * g) (0, false)).2 || (xs.getD (2 * g + 1) (0, false)).2 then a + 2 ^ g else a) 0)

/-- Send one packet of a window copy and keep it until it is done (R462, R464). -/
def State.sendPkt (s : State) (n : Nat) (kind : WinKind) (p : WinPkt) : State :=
  let p := { p with tag := s.nextTag, ageUs := s.ageNow, hops := 0 }
  let s := s.sendRouted p.dst.toNat 2 (winBytes kind p) (.window kind p)
  let s : State := { s with nextTag := s.nextTag + 1
                            outReqs := s.outReqs ++ [⟨p.tag, n, kind, p, s.clk.dt, 0⟩] }
  s.modCopy n fun y => { y with pkts := y.pkts ++ [p.tag] }

/-- Send a copy into WINDOW space: its packets with one CID and their count (R238, R239, R464). Where the offset or the
length of a MOVE is a multiple of 32 and not of 64, the packets carry part granules and PMAP counts granules from the
packet's start: R460 knows whole granules only (DESIGN CHOICE, log 81). -/
def State.sendWindow (s : State) (p : Part) (x : CopySt) (d : CopyDesc) (kind : WinKind)
    (xs : List (Nat × Bool)) (eSrc : BitVec 16) : State :=
  match mget (fun _ => none) p.refs (d.dst / 2 ^ 56) with
  | none => s
  | some r =>
    let cuts := cutUnits xs.length (d.dst % 2 ^ 56) xs
    let cid := s.nextCid
    let s := { s with nextCid := s.nextCid + 1 }
    cuts.foldl
      (fun s c =>
        let pkt : WinPkt :=
          { dst := r.peer, src := BitVec.ofNat 16 (s.od odDeviceId), tag := 0, hops := 0, ageUs := 0,
            handle := r.handle, pfmt := d.wp32, guard := d.guard, ngr := (c.2.length + 1) / 2 - 1,
            eSrc := eSrc, eDst := d.eDst, offset := c.1, key := r.key, pmap := pktPmap c.2, cid := cid,
            npkt := cuts.length - 1,
            data := if kind = .wzero then [] else c.2.flatMap fun u => leBytes 32 u.1 }
        s.sendPkt x.num kind pkt) s

/-! ### Operations -/

/-- A MOVE: the source bytes at the destination, with their poison (R216, R250). -/
def State.copyMove (s : State) (n : Nat) : State :=
  s.copyDo n 0 fun s p x d =>
    let xs := s.unitsRead p d.ssp d.src d.units
    if d.dsp = 3 then s.sendWindow p x d .wmove xs 0 else s.rangeWrite p d.dsp d.dst xs

/-- COPY_MOVE (R216, R250). -/
def execCopyMove (n : Nat) (s : State) : Host.Outcome State Fault Refusal := .next (s.copyMove n)

/-- A ZERO: zeros at the destination, both marks of every granule cleared (R216, R251). -/
def State.copyZero (s : State) (n : Nat) : State :=
  s.copyDo n 2 fun s p x d =>
    let xs := List.replicate d.units (0, false)
    if d.dsp = 3 then s.sendWindow p x d .wzero xs 0 else s.rangeWrite p d.dsp d.dst xs

/-- COPY_ZERO (R216, R251). -/
def execCopyZero (n : Nat) (s : State) : Host.Outcome State Fault Refusal := .next (s.copyZero n)

/-- The row of MARKS over `n` granules (R248): counts and the address of the lowest marked granule. -/
def State.marksRow (s : State) (p : Part) (sp a n : Nat) : Nat :=
  let ms := (List.range n).map fun g => s.marksAt p sp a g
  let low := match ms.findIdx? fun m => m.1 || m.2 with
    | none => 2 ^ 64 - 1
    | some g => a + 64 * g
  (ms.filter (·.1)).length + (ms.filter (·.2)).length * 2 ^ 32 + low * 2 ^ 64

/-- A MARKS: counts the marks of a range into one LSP row (R248). -/
def State.copyMarks (s : State) (n : Nat) : State :=
  s.copyDo n 3 fun s p _ d =>
    s.rangeWrite p 0 d.dst [(s.marksRow p d.ssp d.src (d.units / 2), false)]

/-- COPY_MARKS (R248). -/
def execCopyMarks (n : Nat) (s : State) : Host.Outcome State Fault Refusal := .next (s.copyMarks n)

/-- The source exponent of an AADDX, and whether its row is poisoned (R241; log 23). -/
def State.addExp (s : State) (p : Part) (d : CopyDesc) : BitVec 16 × Bool :=
  if d.esel then
    let r := s.unitRead p 0 (d.src - d.src % 4096 + d.eSrc.toNat % 4096) 0
    (BitVec.ofNat 16 r.1, r.2)
  else (d.eSrc, false)

/-- The key of granule `g` of an AADDX destination in CMEM or HBM. -/
def addKey (p : Part) (d : CopyDesc) (g : Nat) : Nat :=
  if d.dsp = 2 then p.hbmAt (d.dst + 64 * g)
  else cmemKey ((p.siteOf (adCluster d.dst)).getD 576) (d.dst % 2 ^ 23 + 64 * g)

/-- An AADDX: the realigned addends of every granule on their way to the memory-side adders, or packets
to a window's owner (R241, R243, R464). -/
def State.copyAaddx (s : State) (n : Nat) : State :=
  s.copyDo n 1 fun s p x d =>
    let (e, ebad) := s.addExp p d
    let xs := (s.unitsRead p d.ssp d.src d.units).map fun u => (u.1, u.2 || ebad)
    if d.dsp = 3 then s.sendWindow p x d .waaddx xs e
    else
      let gs := List.range (d.units / 2)
      let reqs : List AddReq := gs.map fun g =>
        let u0 := xs.getD (2 * g) (0, false)
        let u1 := xs.getD (2 * g + 1) (0, false)
        ⟨n, d.dsp == 2, addKey p d g, d.wp32, d.guard,
          wpAddends d.wp32 (u0.1 + u1.1 * 2 ^ 256) e.toInt d.eDst.toInt, u0.2 || u1.2⟩
      ({ s with adds := s.adds ++ reqs } : State).modCopy n fun y => { y with adds := reqs.length }

/-- COPY_AADDX (R241, R243, R464). -/
def execCopyAaddx (n : Nat) (s : State) : Host.Outcome State Fault Refusal := .next (s.copyAaddx n)

/-- A copy whose requests had arrived in a change stop goes on (R387). -/
def State.copyGo (s : State) (n : Nat) : State :=
  match s.copyOf n with
  | none => s
  | some x =>
    match (copyDesc x.desc).opc with
    | 0 => s.copyMove n
    | 1 => s.copyAaddx n
    | 2 => s.copyZero n
    | _ => s.copyMarks n

/-- The payload of an event about one granule of HBM or CMEM (R522). -/
def State.granuleWords (s : State) (hbm : Bool) (key : Nat) : List Nat :=
  if hbm then
    (match s.hbmOwner key with
     | some (_, a) => words2 a
     | none => noAddr) ++ words2 (key % 2 ^ 31)
  else noAddr ++ words2 (64 * (key % 2 ^ 23 / 1024))

/-- The first overflow mark that a copy sets is logged once for it (R247). -/
def State.copyOverflow (s : State) (n : Nat) (words : List Nat) : State :=
  match s.copyOf n with
  | none => s
  | some x =>
    if x.ovf then s
    else
      ((s.modCopy n fun y => { y with ovf := true }).odAdd odAaddxOverflowCount 1).logEv 0x400C
        (unSite (coreSiteOf x.core)) (some x.part) (s.lunit x.core) words

/-- The endpoint that adds at a key: a stack's controller or a cluster port (R243, R369). -/
def addEnd (hbm : Bool) (key : Nat) : Nat := if hbm then endStack (key / 2 ^ 36) else endPort (key / 2 ^ 23)

/-- An adder reads a granule, adds every addend and writes it, and keeps a record of it (R243, R244, R247, R369). -/
def State.addNow (s : State) (r : AddReq) (src : Nat) (num : BitVec 32) : State :=
  let n := if r.poison && !s.addDrops r.hbm r.key then 1 else 0
  let s := (s.keepReq (addEnd r.hbm r.key) src num r.key).odAdd odCopyPoisonCarriedCount n
  let (s, o) := s.addGranule r.hbm r.key r.wp32 r.guard r.addends r.poison
  let s := s.modCopy r.copy fun y => { y with adds := y.adds - 1 }
  if o then s.copyOverflow r.copy (s.granuleWords r.hbm r.key) else s

/-- A request of a source port that has been applied is answered again: it counts once, at the granule that was applied
first (R369). -/
def State.dupGranule (s : State) (kept : List MeshKept) (gran : Nat) : State :=
  if kept.head?.any fun x => x.gran == gran then s.odAdd odMeshDuplicateCount 1 else s

/-- A granule of addends at the port of a cluster: a held or parked one draws RETRY, and in a change stop it waits (R363,
R364, R387). The adder of a paused cluster's own copies stands still with it. -/
def State.addAtPort (s : State) (i : Nat) (r : AddReq) (src : Nat) (num : BitVec 32) : State :=
  let site := r.key / 2 ^ 23
  let port := (s.cl site).port
  if port = .hold ∨ port = .park then
    (if (s.copyOf r.copy).any fun x => coreSiteOf x.core == site then s else (s.retryReq src num).wakePort site)
  else
    let s : State := { s with adds := s.adds.eraseIdx i }
    if s.stopped site then s.landLater site (.add r src num) else s.addNow r src num

/-- AADDX_GRANULE_ADD: the addends of a granule reach its adder under the number `num` of the source port `src`, or, where
no granule of that place is on its way, the request comes a second time (R243, R244, R247, R363, R364, R369). -/
def execAaddxGranuleAdd (k : AddRef) (s : State) : Host.Outcome State Fault Refusal :=
  .next (
    match s.adds[k.i]? with
    | none => if s.keptNow.any (fun x => x.src == k.src && x.num == k.num) then s.odAdd odMeshDuplicateCount 1 else s
    | some r =>
      let kept := s.keptOf (addEnd r.hbm r.key) k.src k.num
      if (s.reqOf k.src k.num).any (·.retryWait) then s
      else if kept.any fun x => x.gran == r.key then s.dupGranule kept r.key
      else if r.hbm then ({ s with adds := s.adds.eraseIdx k.i } : State).addNow r k.src k.num
      else s.addAtPort k.i r k.src k.num)

/-- An increment for a flag of a core: at once through an open port, once CCLK restarts in a change stop, later through a
port whose requests are sent again, never through a dark one (R181, R219, R363, R387). -/
def State.flagTo (s : State) (src dst : CoreId) (flag inc : Nat) : State :=
  let site := coreSiteOf dst
  let g : Signal := ⟨src, dst, flag, inc, Retry.zero⟩
  match (s.cl site).port with
  | .opened => if s.stopped site then s.landLater site (.signal g) else s.incFlag dst flag (BitVec.ofNat 32 inc)
  | .hold => { s with signals := s.signals ++ [g] }
  | .park => { s with signals := s.signals ++ [g] }
  | _ => s.portDrop site

/-- COPY_COMPLETE: every write and add of a copy has taken effect; CFLAG and TFLAG grow (R219). While the cluster of the
copy is paused its flags stop, and so does this (R430). -/
def execCopyComplete (n : Nat) (s : State) : Host.Outcome State Fault Refusal :=
  .next (
    match s.copyOf n with
    | none => s
    | some x =>
      if !(x.acted && x.adds = 0 && x.pkts.isEmpty) || (s.cl (coreSiteOf x.core)).power == .paused then s
      else
        let d := copyDesc x.desc
        let s := { s with copies := s.copies.filter fun y => !(y.num == n) }
        let s := s.flagTo x.core x.core d.cflag d.cinc
        if d.tinc = 0 then s
        else
          match (s.part x.part).siteOf (d.tcore % 65536) with
          | none => s
          | some site => s.flagTo x.core (16 * site + d.tcore / 65536) d.tflag d.tinc)

end Sys2Proof.Machine
end

