-- ==== Sys2Proof/Machine/Window.lean ====
section
/-! DEFINITION. Windows and remote traffic (R235 to R240, R253, R460 to R464): the owner's checks, notify
trackers, answers, and the sender's resends. -/

namespace Sys2Proof.Machine

open Sys2Proof

/-- The window of a handle. -/
def State.window (s : State) (h : Nat) : Option Window := mget (fun _ => none) s.windows h
/-- Store the window of a handle. -/
def State.setWindow (s : State) (h : Nat) (w : Option Window) : State :=
  { s with windows := mset (fun _ => none) s.windows h w }

/-- The bytes that a packet of a kind covers. -/
def pktBytes (kind : WinKind) (p : WinPkt) : Nat :=
  if kind = .wzero then 64 * (p.ngr + 1) else p.data.length

/-- The right that a kind of request needs (R235). -/
def kindRight (kind : WinKind) : Nat := match kind with
  | .wmove => 0
  | .waaddx => 1
  | .wzero => 2

/-- The counter of the first check that a packet fails, if any (R237). -/
def State.winCheck (s : State) (kind : WinKind) (p : WinPkt) : Option Nat :=
  match s.window p.handle with
  | none => some odWindowDropClosed
  | some w =>
    if w.closing.isSome then some odWindowDropClosed
    else if w.peer != p.src || w.key != p.key then some odWindowDropAuth
    else if !w.rights.getLsbD (kindRight kind) then some odWindowDropRights
    else if w.size < p.offset + pktBytes kind p then some odWindowDropRange
    else if (s.part w.part).resetAt.isSome then some odWindowDropReset
    else none

/-- The units of a packet with their poison (R253, R460). -/
def pktUnits (kind : WinKind) (p : WinPkt) : List (Nat × Bool) :=
  (List.range (pktBytes kind p / 32)).map fun i =>
    if kind = .wzero then (0, false)
    else (ofLe ((p.data.drop (32 * i)).take 32), p.pmap.getLsbD (i / 2))

/-- Apply the adds of a packet, granule by granule (R241, R243): the flag says that they set an overflow
mark. -/
def State.winAdd (s : State) (part : Part) (w : Window) (p : WinPkt) : State × Bool :=
  (List.range (p.data.length / 64)).foldl
    (fun (acc : State × Bool) g =>
      let v := ofLe ((p.data.drop (64 * g)).take 64)
      let a := w.base + p.offset + 64 * g
      let key := if w.hbm then part.hbmAt a
        else cmemKey ((part.siteOf (adCluster w.base)).getD 576) (a % 2 ^ 23)
      let k := if p.pmap.getLsbD g && !acc.1.addDrops w.hbm key then 1 else 0
      let (s, o) := (acc.1.odAdd odCopyPoisonCarriedCount k).addGranule w.hbm key p.pfmt p.guard
        (wpAddends p.pfmt v p.eSrc.toInt p.eDst.toInt) (p.pmap.getLsbD g)
      (s, acc.2 || o)) (s, false)

/-- Apply a packet that passed its checks (R237, R250, R251): the flag is OVF. -/
def State.winApply (s : State) (kind : WinKind) (w : Window) (p : WinPkt) : State × Bool :=
  let part := s.part w.part
  match kind with
  | .waaddx => s.winAdd part w p
  | _ => (s.rangeWrite part (if w.hbm then 2 else 1) (w.base + p.offset) (pktUnits kind p), false)

/-- 100 ms in nanoseconds (R239, R463). -/
def ms100 : Nat := 100000000

/-- Count a packet in its tracker, opening one for the first packet of a copy (R239). -/
def State.track (s : State) (p : WinPkt) (dropped : Bool) : State :=
  let same (t : Tracker) : Bool := t.src == p.src && t.cid == p.cid
  let upd (t : Tracker) : Tracker :=
    { t with count := t.count + 1, marked := t.marked || dropped, lastDt := s.clk.dt }
  if s.trackers.any same then
    { s with trackers := s.trackers.map fun t => if same t then upd t else t }
  else
    let un := s.untracked.filter fun x => decide (s.clk.dt < x.2.2 + ms100)
    if un.any fun x => x.1 == p.src && x.2.1 == p.cid then
      { s with untracked := un.map fun x => if x.1 == p.src && x.2.1 == p.cid then (x.1, x.2.1, s.clk.dt) else x }
    else if 4096 ≤ s.trackers.length then
      ({ s with untracked := un ++ [(p.src, p.cid, s.clk.dt)] } : State).odAdd odNotifyTrackerFullCount 1
    else { s with trackers := s.trackers ++ [upd ⟨p.src, p.cid, p.npkt, p.handle, 0, false, s.clk.dt⟩] }

/-- The tracker of a copy whose packets have all been applied notifies and closes (R238, R239). -/
def State.notify (s : State) (p : WinPkt) : State :=
  match s.trackers.find? fun t => t.src == p.src && t.cid == p.cid with
  | none => s
  | some t =>
    if t.count = t.npkt + 1 && !t.marked then
      let s := { s with trackers := s.trackers.filter (· != t) }
      match s.window t.window with
      | none => s
      | some w =>
        if w.notifyInc = 0 then s
        else
          match (s.part w.part).siteOf (w.notifyCore.toNat % 65536) with
          | none => s
          | some site =>
            let c := 16 * site + w.notifyCore.toNat / 65536
            s.flagTo c c w.notifyFlag w.notifyInc
    else s

/-- Answer a request with WDONE (R464). -/
def State.sendDone (s : State) (p : WinPkt) (ovf : Bool) : State :=
  s.sendRouted p.src.toNat 1 48 (.wdone ⟨p.src, BitVec.ofNat 16 (s.od odDeviceId), p.tag, s.ageNow, ovf⟩)

/-- The cluster whose CMEM a window shows, if it is no window to HBM (R235). -/
def State.winSite (s : State) (w : Window) : Option SiteId :=
  if w.hbm then none else (s.part w.part).siteOf (adCluster w.base)

/-- A packet that has passed its checks takes effect, is counted in its tracker and is answered (R237 to R239, R464). -/
def State.winTake (s : State) (kind : WinKind) (w : Window) (p : WinPkt) : State :=
  let kept := s.keptWin.filter fun x => decide (s.clk.dt < x.2.2 + ms100)
  let (s, o) := s.winApply kind w p
  let s := { s with keptWin := kept ++ [(p.src, p.tag, s.clk.dt)] }
  ((s.track p false).notify p).sendDone p o

/-- A packet that has passed its checks comes to the port of its cluster: a held or parked port draws RETRY and takes it when
it opens, and in a change stop it waits for CCLK (R363, R364, R387). -/
def State.winAtPort (s : State) (kind : WinKind) (w : Window) (p : WinPkt) (site : SiteId) : State :=
  let port := (s.cl site).port
  if port = .hold ∨ port = .park then ((s.odAdd odMeshRetryCount 1).wakePort site).landLater site (.window kind p)
  else if s.stopped site then s.landLater site (.window kind p)
  else s.winTake kind w p

/-- A window request reaches its owner: a duplicate is only answered; else it is checked, applied or
dropped, tracked and answered (R237 to R239, R463, R464). A packet that fails check 1 opens no tracker, and counts in
one that is open (R239). A duplicate does not renew the 100 ms of its tracker: a DESIGN CHOICE, since R239 does not say
whether it counts as the latest packet of its copy (log 61). -/
def State.winArrive (s : State) (kind : WinKind) (p : WinPkt) : State :=
  let kept := s.keptWin.filter fun x => decide (s.clk.dt < x.2.2 + ms100)
  if kept.any fun x => x.1 == p.src && x.2.1 == p.tag then
    (s.odAdd odLinkDuplicateCount 1).sendDone p false
  else
    match s.winCheck kind p, s.window p.handle with
    | none, some w =>
      match s.winSite w with
      | some site => s.winAtPort kind w p site
      | none => s.winTake kind w p
    | some ctr, _ =>
      let open_ := s.trackers.any fun t => t.src == p.src && t.cid == p.cid
      let s := s.odAdd ctr 1
      (if ctr = odWindowDropClosed && !open_ then s else s.track p true).sendDone p false
    | none, none => s

/-- WINDOW_WRITE_ARRIVAL: an owner checks an arriving window write (R237). -/
def execWindowWriteArrival (kind : WinKind) (p : WinPkt) (s : State) : Host.Outcome State Fault Refusal :=
  .next (s.winArrive kind p)

/-- Whether a routed packet is discarded on arrival, and its counter (R461). -/
def State.pktDiscard (s : State) (hops age : Nat) : Option Nat :=
  if 32 ≤ hops then some odLinkDropHopsCount
  else if 5000 < (s.ageNow + 8192 - age % 8192) % 8192 then some odLinkDropAgeCount
  else none

/-- A window request for this module arrives on a link, or from the module itself (R442, R458, R461, R464). -/
def State.winPacket (s : State) (link : Option Nat) (kind : WinKind) (p : WinPkt) : State :=
  s.fromLink link fun s =>
    match s.pktDiscard p.hops p.ageUs with
    | some ctr => s.odAdd ctr 1
    | none => s.winArrive kind p

/-- WMOVE (R464). -/
def execWmove (x : WinIn) (s : State) : Host.Outcome State Fault Refusal :=
  .next (s.winPacket x.link .wmove x.pkt)
/-- WAADDX (R464). -/
def execWaaddx (x : WinIn) (s : State) : Host.Outcome State Fault Refusal :=
  .next (s.winPacket x.link .waaddx x.pkt)
/-- WZERO (R464). -/
def execWzero (x : WinIn) (s : State) : Host.Outcome State Fault Refusal :=
  .next (s.winPacket x.link .wzero x.pkt)

/-- NOTIFY_TRACKER_CLOSE: a tracker closes 100 ms after the latest packet of its copy (R239). -/
def execNotifyTrackerClose (i : Nat) (s : State) : Host.Outcome State Fault Refusal :=
  .next (
    match s.trackers[i]? with
    | none => s
    | some t => if t.lastDt + ms100 ≤ s.clk.dt then { s with trackers := s.trackers.eraseIdx i } else s)

/-- A packet of a copy is done (R464). -/
def State.pktDone (s : State) (r : OutReq) : State :=
  ({ s with outReqs := s.outReqs.filter fun x => !(x.tag == r.tag) } : State).modCopy r.copy fun y =>
    { y with pkts := y.pkts.filter fun t => !(t == r.tag) }

/-- The address of the first granule that a packet marked: WDONE says that one was and not which, so it is a free value
among the packet's granules (R247, R464; log 5). R522 gives no layout for a granule of another module: the address is the
byte offset in the window, behind two words of ones where a partition HBM address would stand (DESIGN CHOICE, log 105). -/
def State.ovfAddr (s : State) (r : OutReq) : Nat := r.pkt.offset + 64 * (s.freeW.toNat % (r.pkt.ngr + 1))

/-- WDONE: a packet is done; OVF logs the copy's overflow once (R247, R464). -/
def execWdone (d : DoneIn) (ovf : Bool) (s : State) : Host.Outcome State Fault Refusal :=
  .next (s.fromLink d.link fun s =>
    match s.outReqs.find? fun x => x.tag == d.tag with
    | none => s
    | some r =>
      let s := if ovf then s.useFree.copyOverflow r.copy (noAddr ++ words2 (s.ovfAddr r)) else s
      s.pktDone r)

/-- LINK_REQUEST_RESEND: a request without WDONE for 10 ms goes out again, or is abandoned after its third
resend (R462). -/
def execLinkRequestResend (tag : BitVec 32) (s : State) : Host.Outcome State Fault Refusal :=
  .next (
    match s.outReqs.find? fun x => x.tag == tag with
    | none => s
    | some r =>
      if s.clk.dt < r.sentDt + 10000000 then s
      else if r.sends < 3 then
        let p := { r.pkt with ageUs := s.ageNow }
        let s := (s.odAdd odLinkResendCount 1).sendRouted p.dst.toNat 2 (winBytes r.kind p) (.window r.kind p)
        { s with outReqs := s.outReqs.map fun x =>
                   if x.tag == tag then { x with pkt := p, sentDt := s.clk.dt, sends := x.sends + 1 } else x }
      else
        let part := (s.copyOf r.copy).map (·.part)
        let job := (part.map fun p => (s.part p).job.jobId.toNat).getD 0
        (s.pktDone r).logEv 0x7006 unModule part noLunit [job, r.pkt.dst.toNat])

end Sys2Proof.Machine
end

