-- ==== Sys2Proof/Machine/Part.lean ====
section
/-! DEFINITION. Partitions (R298 to R303, R332, R333): composing, remapping, resetting and dissolving, the
sites behind their indices (R39 to R46, R299, R302), and the ends of their controls. -/

namespace Sys2Proof.Machine

open Sys2Proof

/-! ### Sites going off and into their reset state -/

/-- The cores and CMEM of a site in the state of R205 and R213: what they held is lost or cleared (R417). -/
def State.clearSite (s : State) (site : SiteId) : State :=
  let g := cmemKey site 0 / 64
  { s with cores := mclearRange s.cores (16 * site) 16
           cmem := mclearRange s.cmem (cmemKey site 0) (2 ^ 23)
           cmemPoison := mclearRange s.cmemPoison g (2 ^ 17)
           cmemOvf := mclearRange s.cmemOvf g (2 ^ 17) }

/-- A site whose header switches open (R417): its changes, requests and pauses end with its power. -/
def Cluster.off (x : Cluster) : Cluster :=
  { x with power := .off, port := .dark, waking := false, change := none, kept := none, fastReq := 0,
           heatReq := 0, persistReq := none, inrushReq := none, stretch := 0,
           counted := false, slew := 0, cntStop := false, cycRem := 0, levelCyc := 0, pauseAt := none,
           episode := false, lent := false }

/-- The fused voltage of a site at a point, in mV: within 0.55 to 0.88 V (R415). -/
def pointMv (site : SiteId) (p : Nat) : Nat := 550 + Config.pointMv site p % 331

/-- Whether a partition holds a cluster of a bay. -/
def State.inBay (s : State) (p b : Nat) : Bool :=
  s.clusters.any fun kv => kv.1 / 36 == b && kv.2.owner.map (·.1) == some p

/-- The sites of a bay whose CCLK runs or changes point. -/
def State.onSites (s : State) (b : Nat) : List (SiteId × Cluster) :=
  s.clusters.filter fun kv => kv.1 / 36 == b && kv.2.power == .on

/-- Whether a hint of class 1 or above gives a bay extra headroom: from 20 µs before its window to its end
(R409, R425). -/
def State.hintRail (s : State) (b : Nat) : Bool :=
  s.hints.any fun h => decide (1 ≤ h.cls) && s.inBay h.part b &&
    (match h.start with
     | some t => decide (t ≤ s.clk.dt + 20000) && decide (s.clk.dt < t + 1000 * h.durUs)
     | none => false)

/-- The setpoint that R409 asks of a bay rail, in mV. -/
def State.railMv (s : State) (b : Nat) : Nat :=
  let vs := (s.onSites b).map fun kv =>
    max (pointMv kv.1 kv.2.point) (match kv.2.change with
      | some (t, _) => pointMv kv.1 t
      | none => 0)
  match vs with
  | [] => 700
  | _ =>
    let top := vs.foldl max 0 + 40 + (if s.hintRail b then 20 else 0)
    min 950 ((max 700 top + 4) / 5 * 5)

/-- Set a bay rail: it rises at once, and follows a falling setpoint once no cluster of the bay is still
lowering its voltage; it holds while the bay's groom is down (R409, R411, R489). -/
def State.railRefresh (s : State) (b : Nat) : State :=
  let v := s.railMv b
  let falling := (s.onSites b).any fun kv => match kv.2.change with
    | some (_, false) => true
    | _ => false
  if (s.groom b).down || (decide (v < s.od (odAt odBayRailSetpointMv b)) && falling) then s
  else s.odSet (odAt odBayRailSetpointMv b) v

/-- The bays' rails after a change of the hints in force. -/
def State.railsAll (s : State) : State := (List.range 16).foldl (fun (s : State) b => s.railRefresh b) s

/-- Switch a site off (R417): nothing waits for its power any more, and its port is DARK (R363). -/
def State.switchOff (s : State) (site : SiteId) : State :=
  let s := ((((s.unland site).lastCycles site).clearSite site).modCl site Cluster.off).portTurn site
  let s := s.modBay (site / 36) fun b =>
    { b with want := b.want.filter fun x => x != site, assist := b.assist.filter fun x => x != site
             seq := match b.seq with
               | some q => if q.site = site then none else some q
               | none => none }
  s.railRefresh (site / 36)

/-- The step of a site's partition is lost, and the site is fenced and switched off (R321, R363, R417). -/
def State.fenceOff (s : State) (site : SiteId) (reason : Nat) : State :=
  ((s.loseOwner site reason).fenceSite site).switchOff site

/-- Ask the sequencer of a site's bay to power it on, from off (R418). -/
def State.wantPower (s : State) (site : SiteId) : State :=
  let s := if (s.cl site).power = .off then s else s.switchOff site
  (s.modCl site fun x => { x with power := .powering }).modBay (site / 36) fun b =>
    { b with want := b.want ++ [site] }

/-! ### Positions and indices -/

/-- Whether a bay has a spare (R45). -/
def State.hasSpare (s : State) (b : Nat) : Bool := !(s.sparesOf b).isEmpty

/-- The indices of a partition that are unmapped (R45, R303): those that stay so, those for which a bay has no spare, and
those without a site. -/
def State.unmapped (s : State) (p : Nat) : Nat :=
  (s.part p).lost.length + (s.shortOf p).length + ((s.part p).sites.filter (·.isNone)).length

/-- Whether position `q` of a bay counts as unmapped at a remap (R45): its index stays unmapped, whatever spare has
returned since. -/
def State.posUnmapped (s : State) (b q : Nat) : Bool :=
  (s.bay b).unmapped.contains q ||
  match s.siteAt b q with
  | none => true
  | some x =>
    match (s.cl x).owner with
    | some (p, i) => (s.part p).lost.contains i || (s.shortOf p).contains i
    | none => false

/-- Withdraw the half-bays that hold an unmapped index (R45): the fenced site of the index loses its
position, and the half-bay is offered no more. Its other sites keep their positions, and none of them becomes a spare:
the manual says nothing of them (DESIGN CHOICE, log 78). -/
def State.withdraw (s : State) : State :=
  let n := s.offeredList.length
  let s' := (List.range 32).foldl
    (fun (s : State) hb =>
      (List.range 16).foldl
        (fun (s : State) i =>
          let q := 16 * (hb % 2) + i
          match s.siteAt (hb / 2) q with
          | none => s
          | some x => if s.posUnmapped (hb / 2) q then s.setLogical x 0xFF else s) s) s
  let s' := (List.range 16).foldl (fun (s : State) b => s.modBay b fun x => { x with unmapped := [] }) s'
  let s' := s'.countOffered.checkFloors
  if s'.offeredList.length < n && decide (s'.offeredList.length < s'.gradeHalfBays) then
    s'.logEv 0x5007 unModule none noLunit []
  else s'

/-- Partition `p` holds half-bay `hb`. -/
def State.holdsHalf (s : State) (p hb : Nat) : Bool := (s.part p).composed && (s.part p).halfBays.contains hb

/-- Give a cluster site to a partition under an index. -/
def State.ownSite (s : State) (site : SiteId) (p i : Nat) : State :=
  (s.abandonRun site).modCl site fun x => { x with owner := some (p, i), lent := false, idleSince := s.clk.dt }

/-- Take a cluster site from its partition: it is switched off (R417). -/
def State.releaseSite (s : State) (site : SiteId) : State :=
  (s.abandonRun site).switchOff site |>.modCl site fun x => { x with owner := none, lent := false }

/-- The mailbox traffic of a site's cores is gone: what waits in or for their channels, and the places it takes (R319,
R417). -/
def State.dropMail (s : State) (site : SiteId) : State :=
  let of (k : Nat) : Bool := decide (k < 20000) && k / 16 == site
  { s with mails := s.mails.filter fun m => coreSiteOf m.dst != site
           posts := s.posts.filter fun kv => !(of (kv.1 / 100000) || of (kv.1 % 100000)) }

/-- The site of a list that stands at the index where another stands in an older list. -/
def movedTo (old new : List (Option SiteId)) (site : SiteId) : Option SiteId :=
  (old.findIdx? (· == some site)).bind fun i => new.getD i none

/-- The host posts of a partition that wait for room go to the core that now stands behind the index they name; where none
does, the receiver does not exist (R302, R338, R340; log 109). -/
def State.moveWaits (s : State) (p : Nat) (old new : List (Option SiteId)) : State :=
  let mine (w : Nat × Nat × MbItem) : Bool := w.1 == mbHu p && decide (w.2.1 < 20000)
  let waits := s.hostWait
  let kept := waits.filterMap fun w =>
    if mine w then (movedTo old new (w.2.1 / 16)).map fun x => (w.1, 16 * x + w.2.1 % 16, w.2.2) else some w
  let lost := waits.filter fun w => mine w && (movedTo old new (w.2.1 / 16)).isNone
  lost.foldl (fun (s : State) _ => s.codeToHost (some p) rcNone) { s with hostWait := kept }

/-- Move a partition's index from its fenced site to a spare, which is powered on (R302, R417); a run that occupies the
spare is abandoned (R44, R529). -/
def State.spareMove (s : State) (p i : Nat) (old new : SiteId) : State :=
  let q := s.siteLogical old
  let l := (s.part p).sites
  let s := ((s.releaseSite old).setLogical old 0xFF).setLogical new q
  let s := (s.ownSite new p i).modPart p fun x => { x with sites := x.sites.set i (some new) }
  let s := (s.dropMail old).moveWaits p l (l.set i (some new))
  (s.wantPower new).checkFloors

/-- The spares that `n` moves of a bay take, in ascending order: those that no run occupies first, then those whose run
is abandoned, the lowest of each (R44). -/
def State.movesTo (s : State) (b n : Nat) : List SiteId :=
  let free := (s.sparesOf b).filter fun x => !s.inRun x
  let busy := (s.sparesOf b).filter s.inRun
  let take := (free ++ busy).take n
  (baySites b).filter take.contains

/-- The spare moves of a partition in a bay: the lower logical position takes the lower-numbered spare (R44, R302). -/
def State.bayMoves (s : State) (p b : Nat) : State :=
  let l := s.fencedIn p b
  let s' := (l.zip (s.movesTo b l.length)).foldl
    (fun (s : State) m =>
      match (s.part p).sites.getD m.1 none with
      | some old => s.spareMove p m.1 old m.2
      | none => s) s
  if l.isEmpty then s' else s'.markBay b

/-- The spare moves of a partition (R44, R302). -/
def State.spareMoves (s : State) (p : Nat) : State :=
  (List.range 16).foldl (fun (s : State) b => s.bayMoves p b) s

/-! ### Controls (R300, R301) -/

/-- READY (R490). -/
def State.ready (s : State) : Bool := s.od odStartState == 0x0A

/-- End a control with a status (R300). -/
def State.endCtrl (s : State) (p status : Nat) : State :=
  (s.modPart p fun x => { x with ctrl := none }).odSet (odAt odPartCtrlStatus p) status

/-! ### The units of a live update (R509) -/

/-- The grooms in the order of a switch: lowest rank first, the yardmaster last (R509). The one that is away stays in its
place. -/
def State.switchOrder (s : State) : List Nat :=
  (groomRank.reverse.filter fun g => g != s.od odYardmaster && (s.groomServes g || s.firm.away == some g)) ++
    [s.od odYardmaster]

/-- The units that a live update has not moved yet: grooms 0 to 19, UPCs from 20 on, partitions from 28 on
(R509). -/
def State.unitsPending (s : State) : List Nat :=
  if s.od odFwUpdateStatus ≠ 5 then []
  else
    let all := s.switchOrder ++ (((List.range 8).filter fun u => s.od (odAt odUpcState u) != 2).map (20 + ·)) ++
      (((List.range 32).filter fun p => (s.part p).composed).map (28 + ·))
    all.filter fun u => !s.firm.newUnits.contains u

/-- When no unit is left to move, the live update is DONE (R509). -/
def State.updateDone (s : State) : State :=
  if s.od odFwUpdateStatus = 5 && s.unitsPending.isEmpty then
    (s.odSet odFwUpdateStatus 6).logEv 0x8011 unModule none noLunit []
  else s

/-- A unit that has not moved yet moves to the new image (R509). -/
def State.moveUnit (s : State) (u : Nat) : State :=
  if s.unitsPending.contains u then
    ({ s with firm := { s.firm with newUnits := s.firm.newUnits ++ [u] } } : State).updateDone
  else s

/-- A job that lets its partition be remapped or dissolved (R300). -/
def Job.idle (j : Job) : Bool := j.st == .empty || j.st == .released

/-- The effect of a write to PART_CTRL (R300, R492): a control in progress makes it an ignored write; a
code that is not legal ends at once. From the write of RESET on, fetching from the rings has stopped, and window writes
and mailbox posts are dropped (R332 step 1). -/
def State.partCtrlWrite (s : State) (p code : Nat) : State × Nat :=
  let x := s.part p
  if x.ctrl.isSome then (s, odRange)
  else if !s.ready then (s.endCtrl p csStateIllegal, odOk)
  else if code = 0 ∨ 4 < code then (s.endCtrl p csArgInvalid, odOk)
  else if (code = 1 && x.composed) || (code ≠ 1 && !x.composed) || ((code = 2 || code = 4) && !x.job.idle) then
    (s.endCtrl p csStateIllegal, odOk)
  else (s.modPart p fun x => { x with ctrl := some (code, 0), resetAt := if code = 3 then some s.clk.dt else x.resetAt }, odOk)

/-- Close every window of a partition, clear its remote references and update tables (R300). -/
def State.clearRecords (s : State) (p : Nat) : State :=
  let ends := s.windows.filterMap fun kv =>
    match kv.2 with
    | some w => if w.part = p then w.closing else none
    | none => none
  let keep := s.windows.filter fun kv =>
    match kv.2 with
    | some w => w.part != p
    | none => true
  let s := ({ s with windows := keep } : State).odSet odWindowsOpen keep.length
  let s := ends.foldl
    (fun (s : State) ri =>
      match s.cmd ri.1 ri.2 with
      | some cmd => s.complete cmd csOk noRes
      | none => s) s
  (s.modPart p fun x => { x with refs := [] }).updClear p

/-- Zero an extent and clear its marks (R227). -/
def State.zeroExtent (s : State) (chans : List Nat) (base span : Nat) : State :=
  chans.foldl
    (fun (s : State) pc =>
      let k := hbmKey pc base
      { s with hbm := mclearRange s.hbm k span
               hbmPoison := mclearRange s.hbmPoison (k / 64) (span / 64)
               hbmOvf := mclearRange s.hbmOvf (k / 64) (span / 64) }) s

/-- The lowest base at which an extent fits below the system region beside the extents of other partitions
(R226, R227, R301; log 28). -/
def State.findBase (s : State) (p : Nat) (chans : List Nat) (span : Nat) : Option Nat :=
  let others := ((List.range 32).filter fun o => o != p && (s.part o).composed &&
    (s.part o).chans.any chans.contains).map fun o => ((s.part o).base, (s.part o).base + (s.part o).span)
  let ok (b : Nat) : Bool :=
    decide (b + span ≤ pcBytes - 2 ^ 23) && others.all fun r => decide (b + span ≤ r.1) || decide (r.2 ≤ b)
  ((0 :: others.map (·.2)).filter ok).min?

/-- The numbers of the set bits of a register. -/
def bitsOf (n x : Nat) : List Nat := (List.range n).filter x.testBit

/-- What COMPOSE and REMAP take from the entries: half-bays, stacks, span (R300, R301); a status other than
CS_OK has no effect. -/
def State.composeStatus (s : State) (p : Nat) : Nat :=
  let hb := bitsOf 32 (s.od (odAt odPartHalfBays p))
  let ss := bitsOf 16 (s.od (odAt odPartStackSet p))
  let mib := s.od (odAt odPartSpanMib p)
  let chans := ss.flatMap fun k => ((List.range 32).map (32 * k + ·)).filter fun pc => !s.pcOut pc
  if hb.isEmpty || ss.isEmpty || hb.any (fun h => !s.offered h) ||
      hb.any (fun h => (List.range 32).any fun o => o != p && s.holdsHalf o h) ||
      ss.any (fun k => !s.stacksUsable.contains k) || mib = 0 || mib % 2 = 1 then csArgInvalid
  else if chans.isEmpty || (s.findBase p chans (mib * 2 ^ 20)).isNone then csNoResource
  else csOk

/-- The sites of a list of half-bays in index order (R299). -/
def State.sitesOf (s : State) (hb : List Nat) : List (Option SiteId) :=
  hb.flatMap fun h => (List.range 16).map fun i => s.siteAt (h / 2) (16 * (h % 2) + i)

/-- Set the map of a partition from its entries (R227, R299, R300): its extent zeroed, its clusters its own
and powered on, its job EMPTY, its old records gone. -/
def State.composeMap (s : State) (p : Nat) : State :=
  let hb := bitsOf 32 (s.od (odAt odPartHalfBays p))
  let ss := bitsOf 16 (s.od (odAt odPartStackSet p))
  let span := s.od (odAt odPartSpanMib p) * 2 ^ 20
  let chans := ss.flatMap fun k => ((List.range 32).map (32 * k + ·)).filter fun pc => !s.pcOut pc
  let base := (s.findBase p chans span).getD 0
  let was := (s.part p).sites
  let old := was.filterMap id
  let sites := s.sitesOf hb
  let new := sites.filterMap id
  let s := old.foldl (fun (s : State) x => if new.contains x then s else (s.releaseSite x).dropMail x) s
  let s := s.moveWaits p was sites
  let s := (s.clearRecords p).zeroExtent chans base span
  let s := s.modPart p fun x =>
    { x with composed := true, halfBays := hb, stackSet := ss, chans := chans, base := base, span := span,
             sites := sites, lost := [], job := Job.zero }
  let s := sites.zipIdx.foldl
    (fun (s : State) xi =>
      match xi.1 with
      | none => s
      | some site =>
        let mine := (s.cl site).owner.map (·.1) == some p && decide ((s.cl site).power ≠ .off)
        let s := s.ownSite site p xi.2
        if mine || (s.cl site).fenced then s else s.wantPower site) s
  let s := { s with health := { s.health with stale := s.health.stale.filter fun x => x.1 != p } }
  let s := (s.odSet (odAt odPartClusters p) sites.length).odSet (odAt odPartHbmSize p) (chans.length * span)
  s.odSet odPartitionsComposed (((List.range 32).filter fun o => (s.part o).composed).length)

/-- The effect of COMPOSE or REMAP (R45, R300, R301): half-bays with an unmapped index are withdrawn first, of every
partition's, since any control that sets a map is "the next partition remap" of R45 (DESIGN CHOICE, log 79); a control
that fails has no effect. -/
def State.setMap (s : State) (p code : Nat) : State :=
  let t := s.withdraw
  let st := t.composeStatus p
  if st ≠ csOk then s.endCtrl p st
  else (t.composeMap p).modPart p fun x => { x with ctrl := some (code, 1) }

/-- COMPOSE of a partition whose control asks for it (R300, R301). -/
def execCompose (part : Nat) (s : State) : Host.Outcome State Fault Refusal :=
  if (s.part part).ctrl ≠ some (1, 0) then .next s else .next (s.setMap part 1)

/-- REMAP of a partition whose control asks for it (R45, R300, R301). -/
def execRemap (part : Nat) (s : State) : Host.Outcome State Fault Refusal :=
  if (s.part part).ctrl ≠ some (2, 0) then .next s else .next (s.setMap part 2)

/-- Forget the reads of host memory of a partition's rings. -/
def State.dropReads (s : State) (p : Nat) : State :=
  { s with hrd := { s.hrd with reqs := s.hrd.reqs.filter fun q => (s.ring q.ring).part != p } }

/-- The unmapped indices of a partition that is dissolved leave their positions unmapped (R45). -/
def State.unmapLost (s : State) (p : Nat) : State :=
  ((s.part p).lost ++ s.shortOf p).foldl
    (fun (s : State) i =>
      match (s.part p).sites.getD i none with
      | some x => s.unmapPos (x / 36) [s.siteLogical x]
      | none => s) s

/-- DISSOLVE (R45, R300, R304, R417). -/
def execDissolve (part : Nat) (s : State) : Host.Outcome State Fault Refusal :=
  if (s.part part).ctrl ≠ some (4, 0) then .next s
  else
    let s := (s.unmapLost part).moveWaits part (s.part part).sites []
    let s := (s.part part).sites.foldl
      (fun (s : State) x => match x with
        | some site => (s.releaseSite site).dropMail site
        | none => s) s
    let s := s.clearRecords part
    let s := (s.rings.filter fun kv => kv.2.part == part).foldl
      (fun (s : State) kv => s.modRing kv.1 fun r => { r with enabled := false, stopped := false }) s
    let s := s.dropReads part
    let s := s.modPart part fun x =>
      { Part.zero with ctrl := some (4, 1), hostCnt := x.hostCnt, digests := x.digests, commit := x.commit,
                       grant := x.grant }
    let s := { s with health := { s.health with stale := s.health.stale.filter fun x => x.1 != part }
                      hints := s.hints.filter fun h => h.part != part }
    let s := (s.odSet (odAt odPartClusters part) 0).odSet (odAt odPartHbmSize part) 0
    .next ((s.odSet odPartitionsComposed (((List.range 32).filter fun o => (s.part o).composed).length)).railsAll).updateDone

/-- PART_CTRL_END: a control that took effect ends, up to 200 ms after its write (R300, R301, R343, R520). -/
def execPartCtrlEnd (part : Nat) (s : State) : Host.Outcome State Fault Refusal :=
  match (s.part part).ctrl with
  | some (1, 1) =>
    let s := { s with log := { s.log with
      plogs := mset (fun _ => none) s.log.plogs part (some (s.log.seq, [])) } }
    .next ((s.logEv 0x9006 unModule (some part) noLunit []).endCtrl part csOk)
  | some (2, 1) => .next ((s.logEv 0x9006 unModule (some part) noLunit []).endCtrl part csOk)
  | some (4, 1) =>
    let s := s.logEv 0x9006 unModule (some part) noLunit []
    let s := { s with log := { s.log with plogs := mset (fun _ => none) s.log.plogs part none } }
    .next (s.endCtrl part csOk)
  | _ => .next s

/-! ### Partition reset (R332, R333) -/

/-- The channel places of a partition's cores, as senders and receivers, become free (R341). -/
def State.clearPosts (s : State) (p : Nat) : State :=
  let mine (k : Nat) : Bool := decide (k < 20000) && (s.cl (k / 16)).owner.map (·.1) == some p
  { s with posts := s.posts.filter fun kv => !(mine (kv.1 / 100000) || mine (kv.1 % 100000)) }

/-- Abandon the copies of a partition with their packets and requests (R223). -/
def State.dropCopies (s : State) (p : Nat) : State :=
  let gone := (s.copies.filter fun c => c.part == p).map (·.num)
  let mine (c : CoreId) : Bool := (s.ownerOf c).map (·.1) == some p
  { s with copies := s.copies.filter fun c => c.part != p
           adds := s.adds.filter fun a => !gone.contains a.copy
           outReqs := s.outReqs.filter fun r => !gone.contains r.copy
           mesh := { s.mesh with reqs := s.mesh.reqs.filter fun r => r.part != p }
           signals := s.signals.filter fun g => !mine g.dst && !mine g.src
           landing := s.landing.filter fun x => match x.2 with
             | .signal g => !mine g.dst && !mine g.src
             | .copy n => !gone.contains n
             | .add r _ _ => !gone.contains r.copy
             | _ => true }

/-- The commit of a partition under a reset: before its apply phase it ends, in it it goes on (R284). -/
def State.resetCommit (s : State) (p : Nat) : State :=
  match (s.part p).commit with
  | none => s
  | some c =>
    if c.phase = .gate then s.modPart p fun x => { x with commit := none }
    else s.modCommit p fun c => { c with afterReset := true }

/-- End the grant of a partition without a record: its runs are abandoned (R531). -/
def State.dropGrant (s : State) (p : Nat) : State :=
  (s.part p).sites.foldl
    (fun (s : State) x => match x with
      | some site => if (s.cl site).lent then
          (s.abandonRun site).modCl site fun x => { x with lent := false } else s
      | none => s) (s.modPart p fun x => { x with grant := none })

/-- Whether a site has power in some form. -/
def Cluster.powered (x : Cluster) : Bool := x.power == .on || x.power == .parked || x.power == .paused

/-- PARTITION_RESET (R332 steps 1 to 4, R333). -/
def execPartitionReset (part : Nat) (s : State) : Host.Outcome State Fault Refusal :=
  if (s.part part).ctrl ≠ some (3, 0) then .next s
  else
    let s := s.modPart part fun x => { x with ctrl := some (3, 1) }
    let s := ((s.part part).sites.filterMap id).foldl State.unland s
    let s := s.discardPart part
    let s := ({ s with cmds := s.cmds.filter fun c => c.part != part } : State).dropReads part
    let s := (s.stepLost part rsPartReset).resetCommit part
    let s := ((s.modPart part fun x => { x with digests := [] }).sramClear).dropGrant part
    let s := s.dropCopies part
    let s := (s.part part).sites.foldl
      (fun (s : State) x => match x with
        | some site =>
          if (s.cl site).powered then
            ((((s.lastCycles site).clearSite site).modCl site fun x =>
              { x with port := .reset, power := if x.power = .parked then .on else x.power, waking := false,
                       counted := false, slew := 0, cntStop := false }).portTurn site).railRefresh (site / 36)
          else s
        | none => s) s
    .next (s.clearPosts part)

/-- PARTITION_RESET_COMPLETE (R332 step 5): its clusters' ports leave RESET, its rings skip to their PROD. -/
def execPartitionResetComplete (part : Nat) (s : State) : Host.Outcome State Fault Refusal :=
  if (s.part part).ctrl ≠ some (3, 1) then .next s
  else
    let s := (s.part part).sites.foldl
      (fun (s : State) x => match x with
        | some site =>
          if (s.cl site).port = .reset then
            (s.modCl site fun x => { x with port := if x.power = .paused then .hold else .opened
                                            idleSince := s.clk.dt }).portTurn site
          else s
        | none => s) s
    let s := (s.rings.filter fun kv => kv.2.part == part).foldl
      (fun (s : State) kv => s.modRing kv.1 fun r => { r with cons := r.prod }) s
    let s := (s.modPart part fun x => { x with resetAt := none }).odAdd odPartitionResetCount 1
    .next ((s.logEv 0x9005 unModule (some part) noLunit []).endCtrl part csOk)

end Sys2Proof.Machine
end

