-- ==== Sys2Proof/Machine/Clock.lean ====
section
/-! DEFINITION. Clocks and device time (R375 to R407): references, the BEAT mesh, operating points, clock
stretch, time words and the DT master. -/

namespace Sys2Proof.Machine

open Sys2Proof

/-! ### References (R376 to R378) -/

/-- The reference that REFCLK_SELECT takes: true for REFCLK_B, none when no permitted one is good (R377). -/
def refPick (sel : Nat) (selB goodA goodB : Bool) : Option Bool :=
  if sel = 1 then (if goodA then some false else none)
  else if sel = 2 then (if goodB then some true else none)
  else if selB && goodB then some true
  else if goodA then some false
  else if goodB then some true
  else none

/-- TREF locks for the first time after power-on, and device time starts (R377, R394). -/
def State.lockRef (s : State) : State :=
  match refPick (s.od odRefclkSelect) s.clk.selB s.clk.goodA s.clk.goodB with
  | none => s
  | some b => { s with clk := { s.clk with locked := true, selB := b } }

/-- Follow the references: a switch, a holdover or a relock (R377, R378). While no yardmaster is in office, no node leads
the mesh, which runs in holdover without an event (R380); the new yardmaster's node relocks it (log 97), or logs the loss
where no permitted reference is good then. -/
def State.refUpdate (s : State) : State :=
  if !s.clk.locked then (if s.start.coldStarted then s.lockRef else s)
  else if !s.yardActs then { s with clk := { s.clk with holdover := true, gap := s.clk.gap || !s.clk.holdover } }
  else
    match refPick (s.od odRefclkSelect) s.clk.selB s.clk.goodA s.clk.goodB with
    | none =>
      if s.clk.holdover && !s.clk.gap then s
      else ({ s with clk := { s.clk with holdover := true, gap := false } } : State).logEv 0x3001 unModule none noLunit []
    | some b =>
      let was := s.clk.holdover
      let s := if b = s.clk.selB then s
        else ({ s with clk := { s.clk with selB := b } } : State).logEv 0x3002 unModule none noLunit []
      if was then
        ({ s with clk := { s.clk with holdover := false, gap := false } } : State).logEv 0x3003 unModule none noLunit []
      else s

/-- REFERENCE_LOST: no edge for 100 ns, or more than 500 ppm off (R376). -/
def execReferenceLost (isB : Bool) (s : State) : Host.Outcome State Fault Refusal :=
  .next (({ s with clk := { s.clk with goodA := s.clk.goodA && isB, goodB := s.clk.goodB && !isB } } : State).refUpdate)

/-- REFERENCE_GOOD: 10 ms without a loss (R376, R378). -/
def execReferenceGood (isB : Bool) (s : State) : Host.Outcome State Fault Refusal :=
  .next (({ s with clk := { s.clk with goodA := s.clk.goodA || !isB, goodB := s.clk.goodB || isB } } : State).refUpdate)

/-- The effect of a write to REFCLK_SELECT (R377, R407). -/
def State.refSelWrite (s : State) (v : Nat) : State × Nat :=
  if 2 < v then (s, odRange)
  else ((s.odSet odRefclkSelect v).refUpdate, odOk)

/-- REFCLK_SELECT_WRITE (R377). -/
def execRefclkSelectWrite (route : Nat) (v : BitVec 8) (s : State) : Host.Outcome State Fault Refusal :=
  .next (s.keyWrite route odRefclkSelect fun s => s.refSelWrite v.toNat)

/-- The effect of a write to BEAT_SPREAD: from the next time word on; above 4 it is ignored (R382, R407). -/
def State.spreadWrite (s : State) (v : Nat) : State × Nat :=
  if 4 < v then (s, odRange)
  else
    (({ s with clk := { s.clk with spreadNext := v } } : State).odSet odBeatSpread v, odOk)

/-- BEAT_SPREAD_WRITE (R382). -/
def execBeatSpreadWrite (route : Nat) (v : BitVec 8) (s : State) : Host.Outcome State Fault Refusal :=
  .next (s.keyWrite route odBeatSpread fun s => s.spreadWrite v.toNat)

/-! ### The BEAT mesh (R379, R383) -/

/-- The two bays that a link die attaches to (R36). -/
def dieBays (d : Nat) : List Nat := [[0, 1], [3, 7], [15, 14], [12, 8]].getD d []

/-- The nodes coupled to a BEAT node (R379). -/
def nodeNext (n : Nat) : List Nat :=
  if 16 ≤ n then dieBays (n - 16)
  else
    (List.range 16).filter (fun m =>
      (n / 4 == m / 4 && (n + 1 == m || m + 1 == n)) || (n % 4 == m % 4 && (n + 4 == m || m + 4 == n))) ++
    ((List.range 4).filter fun d => (dieBays d).contains n).map (16 + ·)

/-- Whether a working node runs free, all its neighbours being out (R383). -/
def State.freeNode (s : State) : Bool :=
  (List.range 20).any fun n =>
    !s.odBit odBeatNodesDown n && (nodeNext n).all fun m => s.odBit odBeatNodesDown m

/-- A node drops out of the mesh (R383): while a node runs free, FABRIC_LOCK is withdrawn. -/
def State.nodeLost (s : State) (n : Nat) : State :=
  if 20 ≤ n || s.odBit odBeatNodesDown n then s
  else
    let s := (s.odPutBit odBeatNodesDown n true).logEv 0x3004 (unNode n) none noLunit []
    if s.freeNode then s.odSet odFabricLock 0 else s

/-- BEAT_NODE_LOST: a node fails its lock check, a failure in service that the studbook records (R383, R497). -/
def execBeatNodeLost (node : Nat) (s : State) : Host.Outcome State Fault Refusal :=
  .next (if 20 ≤ node || s.odBit odBeatNodesDown node then s else (s.nodeLost node).studFail (unNode node) 4 0)

/-- CLUSTER_CLOCK_FAULT: an oscillator fails to lock, or loses lock (R385, R497). -/
def execClusterClockFault (site : SiteId) (s : State) : Host.Outcome State Fault Refusal :=
  if 576 ≤ site || (s.cl site).fenced || (s.cl site).power = .off then .next s
  else
    let s := s.logEv 0x300A (unSite site) ((s.cl site).owner.map (·.1)) noLunit []
    .next ((s.studFail (unSite site) 4 0).fenceOff site rsFenced)

/-! ### Operating points (R385 to R388, R415, R416) -/

/-- The count of failed slices of a site, those that the map in use marks bad among them (R414, R483, R495). -/
def State.slicesOut (s : State) (site : SiteId) : Nat :=
  ((List.range 24).filter fun k => s.odBit (odSite odLdoSlicesFailed site) k || s.unitOut (unSlice site k)).length

/-- The slowest point that the sources request (R415). -/
def State.desired (s : State) (site : SiteId) : Nat :=
  let x := s.cl site
  let ceil := match x.owner with
    | some (p, _) => s.od (odAt odPartPointCeil p)
    | none => 0
  let slices := if 3 ≤ s.slicesOut site then 2 else 0
  let groom := if (s.groom (site / 36)).down then 3 else 0
  let persist := match x.persistReq with
    | some (p, _) => p
    | none => 0
  min 5 ([ceil, x.fastReq, x.heatReq, slices, x.inrushReq.getD 0, persist, groom].foldl max 0)

/-- A source asks anew: during a change the request is kept; a slower one ends an upward change that has not
reached its stop (R388, R416). -/
def State.askPoint (s : State) (site : SiteId) : State :=
  let d := s.desired site
  match (s.cl site).change with
  | none => s
  | some (t, up) =>
    if up && decide (t < d) then (s.modCl site fun x => { x with change := none, kept := none }).railRefresh (site / 36)
    else if d = t then s.modCl site fun x => { x with kept := none }
    else s.modCl site fun x => { x with kept := some d }

/-- Whether a launch of the cluster's partition holds a change back (R388). -/
def State.launchHold (s : State) (site : SiteId) : Bool :=
  match (s.cl site).owner with
  | none => false
  | some (p, _) =>
    let j := (s.part p).job
    j.st == .armed && decide (j.launchDt ≤ s.clk.dt + 2000)

/-- Whether a hint of class 2 of another partition holds upward changes of a partition's cluster back (R425). -/
def State.hintHolds (s : State) (site : SiteId) : Bool :=
  s.hints.any fun h => h.active && decide (2 ≤ h.cls) && s.inBay h.part (site / 36) &&
    (s.cl site).owner.any fun o => o.1 != h.part

/-- Begin a change to the requested point, if one is due and may begin (R386, R388). -/
def State.startChange (s : State) (site : SiteId) : State :=
  let x := s.cl site
  let d := s.desired site
  if x.power ≠ .on || x.change.isSome || d = x.point || s.launchHold site ||
      (decide (d < x.point) && s.hintHolds site) then s
  else
    let s := if d < x.point then s else s.lastCycles site
    (s.modCl site fun x => { x with change := some (d, decide (d < x.point)) }).railRefresh (site / 36)

/-- OP_POINT_CHANGE: downward, CCLK stops; upward, the voltage rises first while the cluster runs (R386). -/
def execOpPointChange (site : SiteId) (s : State) : Host.Outcome State Fault Refusal :=
  .next (s.startChange site)

/-- A change stop ends: CCLK restarts at the new point, unstretched, and device time is DIRECT until the next
time word (R386, R399). -/
def Cluster.atPoint (x : Cluster) (t : Nat) : Cluster :=
  { x with point := t, change := none, kept := none, stretch := 0, counted := false, slew := 0, cntStop := false,
           cycRem := 0, levelCyc := 0 }

/-- What has arrived for a cluster takes effect (R387). -/
def State.land (s : State) (a : Arrival) : State :=
  match a with
  | .signal g => s.incFlag g.dst g.flag (BitVec.ofNat 32 g.inc)
  | .mail m => s.mailIn m
  | .copy n => s.copyGo n
  | .add r src num => s.addNow r src num
  | .window k p => s.winArrive k p
  | .overlay c => s.overlayIn c

/-- CCLK of a cluster has restarted: what has arrived for it takes effect in the order of arrival (R387). -/
def State.landAll (s : State) (site : SiteId) : State :=
  let mine := (s.landing.filter fun x => x.1 == site).map (·.2)
  mine.foldl State.land { s with landing := s.landing.filter fun x => x.1 != site }

/-- OP_POINT_CHANGE_COMPLETE: the change ends, what has arrived in its stop takes effect, and a kept request runs next
(R386 to R388). The bay rail must have reached the setpoint that a raise needs (R411). -/
def execOpPointChangeComplete (site : SiteId) (s : State) : Host.Outcome State Fault Refusal :=
  match (s.cl site).change with
  | none => .next s
  | some (t, up) =>
    let kept := (s.cl site).kept.isSome
    if up && decide (s.od (odAt odBayRailSetpointMv (site / 36)) < s.railMv (site / 36)) then .next s
    else
      let s := ((s.lastCycles site).modCl site fun x => x.atPoint t).odAdd odOpChangeCount 1
      let s := (s.railRefresh (site / 36)).landAll site
      .next (if kept then s.startChange site else s)

/-! ### Clock stretch (R389 to R393) -/

/-- STRETCH_RAISE: a monitor asks for a level above the one in force, from a free moment of the present µs on (R389 to
R391). -/
def execStretchRaise (site : SiteId) (level : Nat) (s : State) : Host.Outcome State Fault Refusal :=
  .next (if s.cclk site && decide (level ≤ 3) && decide ((s.cl site).stretch < level) then
    (s.runFree site).modCl site fun x => { x with stretch := level, levelCyc := 0 } else s)

/-- STRETCH_FALL: eight cycles at the level in force without a request for it have passed (R390, R391). Where the next time
word comes first, they have not. -/
def execStretchFall (site : SiteId) (s : State) : Host.Outcome State Fault Refusal :=
  .next (if s.cclk site && decide (0 < (s.cl site).stretch) then
    let (t, done) := s.runLevel site
    if done then t.modCl site fun x => { x with stretch := x.stretch - 1, levelCyc := 0 } else s
    else s)

/-- STRETCH_PERSISTENT: S3 for more than 4,096 cycles asks for one point less for 100 ms; at P5 it is logged
only (R392, R415). -/
def execStretchPersistent (site : SiteId) (s : State) : Host.Outcome State Fault Refusal :=
  if !s.cclk site || (s.cl site).stretch ≠ 3 then .next s
  else
    let s := s.logEv 0x3006 (unSite site) ((s.cl site).owner.map (·.1)) noLunit []
    if 5 ≤ (s.cl site).point then .next s
    else .next ((s.modCl site fun x => { x with persistReq := some (x.point + 1, s.clk.dt + 100000000) }).askPoint site)

/-- PERSISTENT_STRETCH_LAPSE: that request lapses after 100 ms (R415). -/
def execPersistentStretchLapse (site : SiteId) (s : State) : Host.Outcome State Fault Refusal :=
  match (s.cl site).persistReq with
  | none => .next s
  | some (_, t) =>
    if s.clk.dt < t then .next s
    else .next ((s.modCl site fun x => { x with persistReq := none }).askPoint site)

/-! ### Time words (R394 to R401) -/

/-- The CRC-8 of the bits below `n` of a word, the highest first, from `c` on: polynomial 0x07 (R395). The manual gives
neither a start value nor an order: zero, and from the highest bit down (DESIGN CHOICE, log 96). -/
def crc8 (w : Nat) : Nat → BitVec 8 → BitVec 8
  | 0, c => c
  | n + 1, c => crc8 w n ((c <<< 1) ^^^ (if c.msb != w.testBit n then 7 else 0))

/-- A time word (R395). -/
def timeWord (dt phase spread : Nat) (holdover lock : Bool) : BitVec 96 :=
  let low := dt % 2 ^ 64 + 2 ^ 64 * (phase % 65536) + 2 ^ 80 * (spread % 8) + 2 ^ 83 * (if holdover then 1 else 0) +
    2 ^ 84 * (if lock then 1 else 0)
  BitVec.ofNat 96 (low + 2 ^ 88 * (crc8 low 88 0).toNat)

/-- Whether a time word passes its CHECK (R395). -/
def wordGood (w : BitVec 96) : Bool := crc8 (w.toNat % 2 ^ 88) 88 0 == w.extractLsb' 88 8

/-- 20 ns on a cluster's counter, in 2^-24 ns (R398). -/
def cntBound : Int := 20 * 2 ^ 24

/-- A COUNTED cluster takes the error of its counter against a time word: the corrected cluster, and the error
in ns that a step or a stop logs (R398). At the edge the counter includes the part of the cycle under way: without it two
counters at P5 and S3 could differ by more than the 4 ns of R400 (DEDUCED, log 111). -/
def Cluster.correct (x : Cluster) (dt : Nat) : Cluster × Option Int :=
  let e : Int := ((2 ^ 24 * dt : Nat) : Int) - (x.cnt + x.cycRem : Nat)
  if x.cntStop then (x, none)
  else if e > cntBound then ({ x with cnt := 2 ^ 24 * dt - x.cycRem, slew := 0 }, some (e / 2 ^ 24))
  else if e < -cntBound then ({ x with cntStop := true, slew := 0 }, some (e / 2 ^ 24))
  else ({ x with slew := e }, none)

/-- The lowest voltage of a running cluster, or of a bay rail, over 1 µs is a free reading (R435; log 5). -/
def State.readMinV (s : State) (key keyDt : Nat) : State :=
  let v := s.freeW.toNat % 65536
  let s := s.useFree
  if v < s.od key then (s.odSet key v).odSet keyDt (s.clk.dt / 10 * 10) else s

/-- Each groom that serves records the lowest reading of its bay rail (R435). -/
def State.bayMinV (s : State) (b : Nat) : State :=
  if s.up && s.groomServes b then s.readMinV (odAt odBayMinV b) (odAt odBayMinVDt b) else s

/-- The leakage of a cluster in 1 µs, in pJ: at its point while it runs, at the retention voltage while it is parked or
paused (R417, R430, R436; log 9). -/
def Cluster.leakage (x : Cluster) (site : SiteId) : Nat :=
  match x.power with
  | .on => Config.leakage site x.point
  | .parked => Config.leakage site 6
  | .paused => Config.leakage site 6
  | _ => 0

/-- The cycles of a site up to the next time word, and its leakage (R397, R436). -/
def State.toWord (s : State) (ns : Nat) (site : SiteId) : State :=
  (s.runSite site (ns - (s.cl site).ran)).modCl site fun x => { x with ran := 0, leak := x.leak + x.leakage site }

/-- A time word at a cluster; `word` is its DT, none if it fails its CHECK (R395 to R399): the cluster is COUNTED from the
first good word after CCLK starts, and DIRECT in a farrier run. The minimum-voltage records of the µs come first. -/
def State.wordAt (s : State) (word : Option Nat) (site : SiteId) : State :=
  let x := s.cl site
  if !s.cclk site then s.modCl site fun x => { x with counted := false, slew := 0, cntStop := false }
  else
    let s := s.readMinV (odSite odMinV site) (odSite odMinVDt site)
    if s.inRun site then s.modCl site fun x => { x with counted := false, slew := 0, cntStop := false }
    else
      match word with
      | none => s
      | some dt =>
        if !x.counted then
          s.modCl site fun x => { x with counted := true, cnt := 2 ^ 24 * dt - x.cycRem, slew := 0, cntStop := false }
        else
          let (y, e) := x.correct dt
          let s := s.setCl site y
          match e with
          | none => s
          | some e => s.logEv 0x3007 (unSite site) (x.owner.map (·.1)) noLunit [wrapI 32 e]

/-- A cluster whose CCLK runs has read what its port's queues held, and requests that waited for a full one enter
(R360, R361; log 98). -/
def State.drainPort (s : State) (site : SiteId) : State :=
  if s.cclk site then
    (((s.modPortQ site 0 false FlitQueue.flush).modPortQ site 1 false FlitQueue.flush).modPortQ site 2 false
      FlitQueue.flush).servePort site
  else s

/-- Whether a cluster of a partition has something to run (R417). -/
def State.busySite (s : State) (site : SiteId) : Bool :=
  s.inRun site || s.copies.any (fun c => coreSiteOf c.core == site) ||
    (siteCores site).any (fun c => !(s.cur c).ovls.isEmpty || !(s.cur c).cpPend.isEmpty) ||
    (match (s.cl site).owner with
     | some (p, _) => (s.part p).job.st == .armed || (s.part p).job.st == .running
     | none => false)

/-- Idle time is counted from the last time word at which a cluster had something to run (R417). -/
def State.markIdle (s : State) (site : SiteId) : State :=
  if s.busySite site then s.modCl site fun x => { x with idleSince := s.clk.dt } else s

/-- The DT master in 2^-16 ns (R394, R465). -/
def State.dtFine (s : State) : Int := ((2 ^ 16 * s.clk.dt + s.clk.dtFrac : Nat) : Int)

/-- 10 ns, 12.5 ns and 10 µs in 2^-16 ns (R403, R404). -/
def lockOn : Int := 10 * 2 ^ 16
/-- 12.5 ns. -/
def lockOff : Int := 25 * 2 ^ 15
/-- 10 µs. -/
def offsetLost : Int := 10000 * 2 ^ 16

/-- Take an offset of the DT master to fabric time: FABRIC_OFFSET, FABRIC_LOCK and their events (R383, R402 to
R404, R466). -/
def State.takeOffset (s : State) (o : Int) : State :=
  let s := ({ s with clk := { s.clk with fabricErr := o } } : State).odSet odFabricOffset (wrapI 64 (o / 2 ^ 16))
  let a := if o < 0 then -o else o
  let may := decide (s.od odTimeDepth ≤ 10) && !s.freeNode
  let lost := decide (offsetLost < a) && s.ready
  let s := if lost && !s.fabric.lostLogged then
      ({ s with fabric := { s.fabric with lostLogged := true } } : State).logEv 0x3008 unModule none noLunit []
    else s
  if decide (lockOff < a) || !may then
    ({ s with fabric := { s.fabric with lockSince := none } } : State).odSet odFabricLock 0
  else if a ≤ lockOn && s.od odFabricLock = 0 then
    ((({ s with fabric := { s.fabric with lockSince := some s.clk.dt, lostLogged := false } } : State).odSet
      odFabricLock 1).logEv 0x3009 unModule none noLunit [])
  else s

/-- The slew of the DT master over 1 µs, in 2^-16 ns: toward fabric time, and by at most 100 ppm. The rate is left open: it
is a free value (R394, R402; log 5). A module that receives no time messages runs on TREF alone. -/
def State.masterSlew (s : State) : Int :=
  let n : Int := (s.freeW.toNat % (min 6553 s.clk.fabricErr.natAbs + 1) : Nat)
  if s.fabric.lastTimeDt.isNone then 0 else if 0 < s.clk.fabricErr then -n else n

/-- The DT master slews (R394, R402): it reads the multiple of 1,000 ns at the time word, and the slew is how much more or
less of fabric time has gone by until then. -/
def State.slewMaster (s : State) : State :=
  if s.fabric.lastTimeDt.isNone then s else s.useFree.takeOffset (s.clk.fabricErr + s.masterSlew)

/-- TIME_WORD: at the next DT that is a multiple of 1,000 ns the lead node sends a time word, which `flips` alters on its
way; every node applies it unless its CHECK fails (R382, R394 to R399). INTRs that waited for their 1 µs are sent (R474),
and service time counts its seconds (R480). -/
def execTimeWord (flips : BitVec 96) (s : State) : Host.Outcome State Fault Refusal :=
  if !s.clk.locked then .next s
  else
    let next := (s.clk.dt / 1000 + 1) * 1000
    let ns := next - s.clk.dt
    let secs := next / 1000000000 - s.clk.dt / 1000000000
    let s := s.clusters.foldl (fun (s : State) kv => s.toWord ns kv.1) s
    let sent := timeWord next (next * 2064384 / 1000000) s.clk.spreadNext s.clk.holdover (s.od odFabricLock == 1)
    let word := sent ^^^ flips
    let good := wordGood word
    let s : State :=
      { s with clk := { s.clk with dt := next % 2 ^ 64
                                   dtFrac := 0
                                   sub := 0
                                   spread := if good then fld word 80 3 else s.clk.spread
                                   spreadPhase := if good then fld word 64 16
                                     else (s.clk.spreadPhase + ns * 2064384 / 1000000) % 65536 }
               st := s.st + secs }
    let s := s.slewMaster
    let s := if secs = 0 then s else s.odSet odServiceTimeS s.st
    let s := if good then s else s.odAdd odTimeWordErrorCount 1
    let s := s.clusters.foldl
      (fun (s : State) kv => ((s.wordAt (if good then some (fld word 0 64) else none) kv.1).markIdle kv.1).drainPort kv.1) s
    let s := (List.range 16).foldl (fun (s : State) b => s.bayMinV b) s
    let s := if s.hints.isEmpty then s else s.railsAll
    .next (s.rings.foldl (fun (s : State) kv => if kv.2.intrDue then s.intr kv.1 else s) s).pumpHost

/-! ### The DT master and fabric time (R402 to R404) -/

/-- Step the DT master to fabric time: the offset becomes 0, and FABRIC_LOCK follows it (R403, R404). -/
def State.toFabricTime (s : State) : State :=
  let t := (s.dtFine - s.clk.fabricErr).toNat
  ({ s with clk := { s.clk with dt := t / 2 ^ 16 % 2 ^ 64, dtFrac := t % 2 ^ 16 } } : State).takeOffset 0

/-- The effect of a write to DT_STEP_REQ (R404). -/
def State.dtStepWrite (s : State) (v : Nat) : State × Nat :=
  if 1 < v then (s, odRange) else (s.odSet odDtStepReq v, odOk)

/-- DT_STEP_REQ (R404). -/
def execDtStepReq (route : Nat) (v : BitVec 8) (s : State) : Host.Outcome State Fault Refusal :=
  .next (s.keyWrite route odDtStepReq fun s => s.dtStepWrite v.toNat)

/-- DT_MASTER_STEP: a step that DT_STEP_REQ asked for, at the first moment without a job ARMED or RUNNING
(R404, R406). -/
def execDtMasterStep (s : State) : Host.Outcome State Fault Refusal :=
  let busy := (List.range 32).any fun p => (s.part p).job.st == .armed || (s.part p).job.st == .running
  if s.od odDtStepReq ≠ 1 || busy || s.fabric.lastTimeDt.isNone then .next s
  else
    let e := -s.clk.fabricErr / 2 ^ 16
    let s := (s.toFabricTime).odSet odDtStepReq 0
    .next (s.logEv 0x3007 (unNode (s.od odLeadNode)) none noLunit [wrapI 32 e])

/-- FABRIC_TIME_SILENCE: no time message for 50 ms: the module runs on TREF alone, without a time path (R402, R465). -/
def execFabricTimeSilence (s : State) : Host.Outcome State Fault Refusal :=
  match s.fabric.lastTimeDt with
  | none => .next s
  | some t =>
    if s.clk.dt < t + 50000000 then .next s
    else
      .next ((({ s with fabric := { s.fabric with lastTimeDt := none, parent := none, lockSince := none } } : State).odSet
        odFabricLock 0).odSet odTimeDepth 0xFF)

end Sys2Proof.Machine
end

