-- ==== Sys2Proof/Machine/CpFl.lean ====
section
/-! DEFINITION. The CP slot (R178 to R180) and the FL slot (R181 to R187). -/

namespace Sys2Proof.Machine

open Sys2Proof

/-! ### The CP slot -/

/-- A CP operation: it reads its descriptor row now and is checked in cycle c + 6 (R179); `full` says
that its limit of R180 is reached. -/
def cpOp (op : Nat) (c : CoreId) (f : CpSlot) (s : State) (full : CoreSt → Bool) :
    Host.Outcome State Fault Refusal :=
  .next (s.slotOp c 5 (cpWord op f) (cpEncOk op f) fun _ cur =>
    if full cur then ([0x0A], cur)
    else
      let n := cur.now
      let (_, p) := cur.viewRow n f.addr.toNat
      let (cur, d, bad) := cur.readRow cur.bpc 5 0 f.addr.toNat .none
      if bad then ([0x07], cur)
      else ([], { cur with cpPend := cur.cpPend ++ [⟨n, cur.bpc, f.eng.toNat, op == 2, d, p⟩] }))

/-- CP.NOP: no effect (R178). -/
def execCpNop (c : CoreId) (f : CpSlot) (s : State) : Host.Outcome State Fault Refusal :=
  .next (s.slotOp c 5 (cpWord 0 f) (cpEncOk 0 f) fun _ cur => ([], cur))

/-- CP.ISSUE: a copy on engine ENG; a ninth one outstanding on it faults (R178, R180). -/
def execCpIssue (c : CoreId) (f : CpSlot) (s : State) : Host.Outcome State Fault Refusal :=
  cpOp 1 c f s fun cur =>
    decide (8 ≤ (s.copies.filter fun x => x.core == c && x.eng == f.eng.toNat).length +
      (cur.cpPend.filter fun x => !x.ovl && x.eng == f.eng.toNat).length)

/-- CP.OVL: an overlay; a third one outstanding faults (R177, R180). -/
def execCpOvl (c : CoreId) (f : CpSlot) (s : State) : Host.Outcome State Fault Refusal :=
  cpOp 2 c f s fun cur =>
    decide (2 ≤ (cur.ovls.filter fun x => !x.boot).length + (cur.cpPend.filter fun x => x.ovl).length)

/-! ### The FL slot -/

/-- FLAG_WAIT_LIMIT in nanoseconds (R187, R207). -/
def State.waitLimitNs (s : State) : Nat := 1000 * s.od odFlagWaitLimit

/-- A wait, tested while its bundle stands before its cycle. A failed test is one waiting cycle, in which the core
is frozen; once the test succeeds the cycle of the bundle comes, and WAITD subtracts in it. A poisoned operand of
the test faults the core (R160, R161, R166, R182, R183, R517). In a cycle that has come the slot does nothing
more, and with CCLK stopped no waiting cycle passes (R387). -/
def waitOp (op : Nat) (c : CoreId) (f : FlSlot) (s : State) (target : CoreSt → W32) (sub : W32) : State :=
  let x := s.core c
  let i := f.flag.toNat
  let test (w : Freeze) : State :=
    let reg := op == 3 && x.beg.sBad (f.imm.toNat % 16)
    let cs : List Cause :=
      if !flEncOk op f then [⟨0x01, x.cur.bpc, 6⟩]
      else if x.beg.fBad i || reg then [⟨0x0D, x.cur.bpc, 6⟩] else []
    if !cs.isEmpty then s.beginCycle c cs
    else if reached (x.beg.f i) (target x.beg) then (s.beginCycle c []).modCur c fun y => y.addF i (-sub)
    else
      let y := { x.beg with freeze := w, waitCyc := x.beg.waitCyc + 1 }
      s.setCore c ⟨y, y⟩
  if !(x.cur.phase == .running && x.cur.started && s.cclk (coreSiteOf c) && x.cur.slotWord 6 == flWord op f) then s
  else
    match x.cur.freeze with
    | .gate => test (.wait s.clk.dt s.waitLimitNs)
    | .wait a b => test (.wait a b)
    | _ => s.slotOp c 6 (flWord op f) (flEncOk op f) fun _ cur => ([], cur)

/-- FL.NOP: no effect (R182). -/
def execFlNop (c : CoreId) (f : FlSlot) (s : State) : Host.Outcome State Fault Refusal :=
  .next (s.slotOp c 6 (flWord 0 f) (flEncOk 0 f) fun _ cur => ([], cur))

/-- FL.WAIT: the bundle issues once FLAG has reached IMM (R182, R183). -/
def execFlWait (c : CoreId) (f : FlSlot) (s : State) : Host.Outcome State Fault Refusal :=
  .next (waitOp 1 c f s (fun _ => f.imm.zeroExtend 32) 0)

/-- FL.WAITD: as FL.WAIT; at issue IMM is subtracted from FLAG (R182). -/
def execFlWaitd (c : CoreId) (f : FlSlot) (s : State) : Host.Outcome State Fault Refusal :=
  .next (waitOp 2 c f s (fun _ => f.imm.zeroExtend 32) (f.imm.zeroExtend 32))

/-- FL.WAITS: as FL.WAIT with target S[IMM[3:0]] (R182). -/
def execFlWaits (c : CoreId) (f : FlSlot) (s : State) : Host.Outcome State Fault Refusal :=
  .next (waitOp 3 c f s (fun beg => beg.s (f.imm.toNat % 16)) 0)

/-- FL.ADD: FLAG = FLAG + IMM (R182, R184). -/
def execFlAdd (c : CoreId) (f : FlSlot) (s : State) : Host.Outcome State Fault Refusal :=
  .next (s.slotOp c 6 (flWord 4 f) (flEncOk 4 f) fun _ cur => ([], cur.addF f.flag.toNat (f.imm.zeroExtend 32)))

/-- FL.SET: FLAG = IMM (R182, R184, R517). -/
def execFlSet (c : CoreId) (f : FlSlot) (s : State) : Host.Outcome State Fault Refusal :=
  .next (s.slotOp c 6 (flWord 5 f) (flEncOk 5 f) fun _ cur => ([], cur.putF f.flag.toNat (f.imm.zeroExtend 32)))

/-- FL.SIG: IMM[13:4] to flag FLAG of the core that S[IMM[3:0]] names; it leaves the core in cycle
c + 4, after the LSP writes issued up to it (R185, R186). -/
def execFlSig (c : CoreId) (f : FlSlot) (s : State) : Host.Outcome State Fault Refusal :=
  let n := ((s.ownerOf c).map fun o => (s.part o.1).clusters).getD 0
  .next (s.slotOp c 6 (flWord 6 f) (flEncOk 6 f) fun beg cur =>
    let r := f.imm.toNat % 16
    let t := (beg.s r).toNat
    let inc := f.imm.toNat / 16
    if beg.sBad r then ([0x0D], cur)
    else if n ≤ t % 65536 || 2 ^ 20 ≤ t || inc = 0 then ([0x0C], cur)
    else ([], { cur with sigPend := cur.sigPend ++ [(cur.now, t, f.flag.toNat, inc)] }))

/-- FL.READ: S[IMM[3:0]] = FLAG (R182). -/
def execFlRead (c : CoreId) (f : FlSlot) (s : State) : Host.Outcome State Fault Refusal :=
  .next (s.slotOp c 6 (flWord 7 f) (flEncOk 7 f) fun beg cur =>
    if beg.fBad f.flag.toNat then ([0x0D], cur)
    else ([], cur.setS (f.imm.toNat % 16) 2 (beg.f f.flag.toNat)))

/-- WAIT_LIMIT: a wait of longer than FLAG_WAIT_LIMIT, as it stood when the wait began, faults the core;
a limit of zero disables the check (R187, R207). -/
def execWaitLimit (c : CoreId) (s : State) : Host.Outcome State Fault Refusal :=
  .next (
    match (s.cur c).freeze with
    | .wait since limit =>
      if limit ≠ 0 ∧ since + limit < s.clk.dt ∧ s.cclk (coreSiteOf c) then
        s.coreFault c [⟨0x0E, (s.cur c).bpc, 6⟩]
      else s
    | _ => s)

end Sys2Proof.Machine
end

