-- ==== Sys2Proof/Machine/Mesh.lean ====
section
/-! DEFINITION. The aisle mesh (R345 to R374): packet heads at a router and the escape channel, flits at a crossing,
fences and rejoins, table switches, faulty routers, and requests at cluster ports with their resends. -/

namespace Sys2Proof.Machine

open Sys2Proof

/-! ### Packet heads (R352, R353, R355, R357, R363, R365 to R368) -/

/-- Whether a packet's age exceeds 1,000 µs (R368). -/
def State.tagAged (s : State) (t : BitVec 64) : Bool :=
  decide (1000 < (s.clk.dt / 1000 % 2048 + 2048 - fld t 35 11) % 2048)
/-- Whether an AX port at a mesh position is an HBM controller's (R346). -/
def isController (r : Nat) : Bool := (List.range 16).any fun k => stackSite k == posSite r

/-- Record where a head goes. -/
def State.setHop (s : State) (h : Hop) : State := { s with mesh := { s.mesh with hop := some h } }

/-- A request has its response, or is abandoned. -/
def State.dropReq (s : State) (src : Nat) (num : BitVec 32) : State :=
  { s with mesh := { s.mesh with reqs := s.mesh.reqs.filter fun q => !(q.src == src && q.num == num) } }

/-- Whether a head is one that its own router can see. A request at the router of its source is sent again, or is the
port's next in number; a cluster's copy engine sends one that returns data only with the entries for it reserved (R353,
R365). -/
def State.headOk (s : State) (r : Nat) (t : BitVec 64) (reqHi : BitVec 20) (readFlits : Nat) : Bool :=
  let src := tagPort t
  let num := tagNum t reqHi
  fld t 29 2 != 0 || tagSrc t != r || (s.reqOf src num).isSome ||
    (num == mget (fun _ => 0) s.mesh.nextNum src &&
      (src % 2 == 1 || decide (readFlits ≤ s.respFree (posSite r))))

/-- A flit passes a queue out of a cluster (R360). -/
def FlitQueue.pass (q : FlitQueue) (f : QFlit) : Nat → FlitQueue
  | 0 => q
  | n + 1 => FlitQueue.pass ((q.push f).pop) f n

/-- A packet that its source sends: from a cluster its flits pass the queue of its plane (R360). A request is outstanding
from its first router on (R353, R364, R368): the port counts its number and reserves the response entries (R365). -/
def State.noteHead (s : State) (r : Nat) (t : BitVec 64) (reqHi : BitVec 20) (readFlits : Nat) : State :=
  let src := tagPort t
  let num := tagNum t reqHi
  if tagSrc t ≠ r then s
  else
    let k := tagPlane t
    let s := if src % 2 = 0 then s.modPortQ (posSite r) k true fun q =>
        q.pass ⟨t, reqHi, 0, (s.portQ (posSite r) k false).flow⟩ (tagFlits t) else s
    if fld t 29 2 ≠ 0 || (s.reqOf src num).isSome then s
    else
      let q : MeshReq :=
        ⟨src, num, fld t 59 5, posSite (tagDst t), s.clk.dt, 0, 0, false, if src % 2 = 0 then readFlits else 0⟩
      { s with mesh := { s.mesh with reqs := s.mesh.reqs ++ [q]
                                     nextNum := mset (fun _ => 0) s.mesh.nextNum src (num + 1) } }

/-- A packet waits at a cluster port for its queue (R360, R363): code 4 for requests, 5 for responses. -/
def State.waitPort (s : State) (site code : Nat) (tag : BitVec 64) (reqHi : BitVec 20) : State :=
  let w : MeshWait := ⟨sitePos site, code, tag, reqHi, tagFlits tag, false, false⟩
  ({ s with mesh := { s.mesh with waits := s.mesh.waits ++ [w] } } : State).servePort site

/-- A packet has reached the router of its destination. A response ends its request: into a cluster it takes the entries
reserved for its data, or one without data the queue that all packets share, unless the port is parked, in reset or dark,
which discard it (R360, R363, R365). Requests and RETRY answers go to their port (CLUSTER_PORT_REQUEST, R364). -/
def State.arrive (s : State) (r : Nat) (t : BitVec 64) (reqHi : BitVec 20) : State :=
  let site := posSite r
  let src := 2 * r + fld t 10 3
  let port := (s.cl site).port
  if fld t 29 2 ≠ 1 then s.setHop .here
  else if fld t 10 3 = 1 then (s.dropReq src (tagNum t reqHi)).setHop .here
  else if port = .opened || port = .hold then
    let fs := List.replicate (tagFlits t) (⟨t, reqHi, 0, (s.portQ site 1 true).flow⟩ : QFlit)
    let resv := match s.reqOf src (tagNum t reqHi) with
      | some q => q.resv
      | none => 0
    let s := s.dropReq src (tagNum t reqHi)
    (if 0 < resv then s.modPortQ site 2 false fun q => fs.foldl FlitQueue.push q
      else s.waitPort site 5 t reqHi).setHop .here
  else s.setHop .discard

/-- The answer or discard of a packet at a router whose entry reads UNREACH (R367). -/
def State.unreach (s : State) (t : BitVec 64) (isRead : Bool) : State :=
  if fld t 29 2 = 0 && fld t 10 3 = 1 && isController (tagDst t) then
    (if isRead then s.setHop .answerPoison else (s.odAdd odHbmFencedDropCount 1).setHop .answerDone)
  else (s.odAdd odMeshUnreachDropCount 1).setHop .discard

/-- The next hop of a packet at a router, from the entry of the active table: local, UNREACH, or a port, at which the packet
waits while the port cannot take it (R355, R357, R358, R366, R367). DN becomes 1 at the first down link. -/
def State.route (s : State) (r : Nat) (t : BitVec 64) (reqHi : BitVec 20) (isRead : Bool) : State :=
  let a := s.mesh.active
  let d := tagDst t
  let esc := t.getLsbD 28
  let dn := t.getLsbD 46
  let e := a.entry r d
  let code := if !esc then fld e 0 3 else if dn then fld e 6 3 else fld e 3 3
  if code = 4 then s.arrive r t reqHi
  else if code = 7 then s.unreach t isRead
  else
    let dn' := if esc then ((a.escape r d dn).map (·.2)).getD dn else dn
    (s.sendOut r code (tagEsc t esc dn') reqHi isRead).setHop (.go code esc dn')

/-- ROUTER_HEAD_ARRIVAL: a packet head reaches a router that runs (R352, R353, R355, R358, R365, R367, R368).
`readFlits` is the length of the data that a request asks to be returned, zero if it asks for none. -/
def execRouterHeadArrival (site : SiteId) (h : Head) (readFlits : Nat) (s : State) :
    Host.Outcome State Fault Refusal :=
  let r := sitePos site
  if 576 ≤ site || s.routerStopped site then .next s
  else if tagBad h.tag then .next ((s.odAdd odMeshMalformedCount 1).setHop .discard)
  else if s.tagAged h.tag then .next ((s.odAdd odMeshAgedDropCount 1).setHop .discard)
  else if !s.headOk r h.tag h.reqHi readFlits then .next s
  else .next ((s.noteHead r h.tag h.reqHi readFlits).route r h.tag h.reqHi (decide (0 < readFlits)))

/-- The packet that waits at a router with a tag and REQ_HI, its head not written yet. -/
def waitsAt (r : Nat) (tag : BitVec 64) (reqHi : BitVec 20) (w : MeshWait) : Bool :=
  w.pos == r && w.tag == tag && w.reqHi == reqHi && !w.begun

/-- ESCAPE_MOVE: a head that has waited 32 ACLK cycles at a router that runs moves onto ESCAPE, unless its next hop is a
crossing that carries nothing until the next table switch (R357, R366, R372). A head whose next hop leaves the bay, or is
the full queue of the cluster port of its destination, waits only if it stands among the packets that wait; inside a bay its
wait is timing (log 94). -/
def execEscapeMove (site : SiteId) (h : Head) (s : State) : Host.Outcome State Fault Refusal :=
  let r := sitePos site
  let d := tagDst h.tag
  if 576 ≤ site || s.routerStopped site || tagBad h.tag || h.tag.getLsbD 28 then .next s
  else if d = r then
    .next (if s.mesh.waits.any (waitsAt r h.tag h.reqHi) then
      let ws := s.mesh.waits.map fun w => if waitsAt r h.tag h.reqHi w then { w with tag := tagEsc w.tag true false } else w
      let s : State := { s with mesh := { s.mesh with waits := ws } }
      ((s.odAdd odMeshEscapeCount 1).servePort site).setHop .here
    else s)
  else
    match s.mesh.active.primary r d, s.mesh.active.escape r d false with
    | some k, some (e, dn) =>
      if !s.linkOpen r k || (leavesBay r k && !s.mesh.waits.any (waitsAt r h.tag h.reqHi)) then .next s
      else
        let ws := s.mesh.waits
        let s : State := { s with mesh := { s.mesh with waits := ws.filter fun w => !waitsAt r h.tag h.reqHi w } }
        let isRead := ws.any fun w => waitsAt r h.tag h.reqHi w && w.read
        .next (((s.odAdd odMeshEscapeCount 1).sendOut r e (tagEsc h.tag true dn) h.reqHi isRead).setHop (.go e true dn))
    | _, _ => .next s

/-! ### Crossings (R349, R353, R361, R362, R370) -/

/-- The bit of a side's link in CROSSINGS_FENCED (R374). -/
def crossBit (side link : Nat) : Nat :=
  if side = 0 then link else if side = 2 then 9 + link else if side = 1 then 18 + link else 22 + link

/-- Set or clear a fence of a crossing in one bay. -/
def State.fenceSide (s : State) (bay side link : Nat) (v : Bool) : State :=
  let put (l : List Nat) : List Nat := if v then (if l.contains link then l else l ++ [link]) else l.filter (· != link)
  (s.modBay bay fun b =>
    if side = 0 then { b with fenceN := put b.fenceN } else if side = 1 then { b with fenceE := put b.fenceE }
    else if side = 2 then { b with fenceS := put b.fenceS } else { b with fenceW := put b.fenceW }).odPutBit
    (odAt odCrossingsFenced bay) (crossBit side link) v

/-- Set or clear a fence of a crossing in both its bays. -/
def State.fenceCross (s : State) (bay side link : Nat) (v : Bool) : State :=
  match baySide bay side with
  | none => s
  | some o => (s.fenceSide bay side link v).fenceSide o ((side + 2) % 4) link v

/-- A crossing is fenced in service: the flits in its queues are lost (R362, R373, R497). -/
def State.crossFail (s : State) (bay side link : Nat) : State :=
  let (b, sd, l) := crossName bay side link
  let s := (s.fenceCross b sd l true).flushCross (b, sd, l)
  let s : State := { s with mesh := { s.mesh with joining := s.mesh.joining.filter (· != (b, sd, l)) } }
  let s := s.logEv 0x5020 (unCrossing b sd l) none noLunit [b, (baySide b sd).getD 255, l]
  s.studFail (unCrossing b sd l) 4 0

/-- The CRC-32 of a flit, over its payload, its tag and bits [63:32] of its control word, in the form of R567 and the
lowest byte first: R353 gives the polynomial alone (log 95). -/
def flitCheck (payload : BitVec 2048) (tag ctl : BitVec 64) : BitVec 32 :=
  crc32 (leBytes 256 payload.toNat ++ leBytes 8 tag.toNat ++ leBytes 4 (fld ctl 32 32))

/-- The four queues of a crossing: who writes each, at which side, and its plane. -/
def crossQueues (x : Nat × Nat × Nat) : List (Nat × Nat × Nat × Nat) :=
  [0, 1].flatMap fun k => [(x.1, x.2.1, x.2.2, k), ((baySide x.1 x.2.1).getD x.1, (x.2.1 + 2) % 4, x.2.2, k)]
/-- The replays of a crossing in the last 1 ms, over both directions and planes (R362). -/
def State.recentReplays (s : State) (x : Nat × Nat × Nat) : Nat :=
  ((crossQueues x).map fun q => ((s.crossQ q.1 q.2.1 q.2.2.1 q.2.2.2).replays.filter fun t =>
    decide (s.clk.dt < t + 1000000)).length).sum

/-- The position of the router that writes a queue of a crossing: that of bay `o` at its side and link (R347). -/
def crossPos (o side link : Nat) : Nat :=
  sitePos (36 * o + (if side = 0 then link else if side = 2 then 27 + link else if side = 1 then 9 * link + 8 else 9 * link))

/-- Whether a flit that passes its check is the one at the head of a queue: its tag, its control word with FLOW, and reserved
bits of zero (R353; log 95). -/
def QFlit.same (g : QFlit) (f : CrossFlit) : Bool :=
  g.tag == f.tag && g.reqHi == f.ctl.extractLsb' 32 20 && g.flow == f.ctl.extractLsb' 52 7 && f.ctl.extractLsb' 59 5 == 0

/-- CROSSING_FLIT_RECEIVE: a bay whose router runs reads, at a link of one of its sides, the oldest flit of a plane's queue
there. A flit that passes its check frees its entry, and the credit lets the writer go on; one that fails is replayed, and
more than 16 replays of the crossing in 1 ms, or four failures of one flit, fence it (R353, R361, R362, R372). -/
def execCrossingFlitReceive (bay side link : Nat) (f : CrossFlit) (s : State) : Host.Outcome State Fault Refusal :=
  let o := (baySide bay side).getD bay
  let far := (side + 2) % 4
  let q := s.crossQ o far link f.plane
  if !crossingOk bay side link || 2 ≤ f.plane || s.crossFenced bay side link ||
      s.routerStopped (posSite (crossPos bay side link)) then .next s
  else
    match q.flits with
    | [] => .next s
    | g :: _ =>
      if flitCheck f.payload f.tag f.ctl = f.ctl.extractLsb' 0 32 then
        .next (if g.same f then
          (s.modCrossQ o far link f.plane FlitQueue.pop).serveCross (crossPos o far link) far f.plane else s)
      else
        let recent := (q.replays.filter fun t => decide (s.clk.dt < t + 1000000)) ++ [s.clk.dt]
        let s := (s.odAdd odCrossingReplayCount 1).modCrossQ o far link f.plane fun q =>
          { q with flits := { g with fails := g.fails + 1 } :: q.flits.tail, replays := recent }
        .next (if 4 ≤ g.fails + 1 ∨ 16 < s.recentReplays (crossName bay side link) then s.crossFail bay side link else s)

/-- Whether the grooms of both bays of a crossing can test it: their aisles run and they serve (R370). -/
def State.crossTested (s : State) (x : Nat × Nat × Nat) : Bool :=
  let o := (baySide x.1 x.2.1).getD x.1
  !(s.bay x.1).aisleDown && !(s.bay o).aisleDown && s.groomServes x.1 && s.groomServes o

/-- Whether a unit is out for good. -/
def State.unitHard (s : State) (un : UnitId) : Bool :=
  s.fuseBad un ||
    (match s.studOf un with
     | some r => r.cls == clsHard || r.cls == clsFused
     | none => false)

/-- A fenced crossing is tested: every group may have no more failed wires than its spares; it joins at the next table
switch, and stays fenced until then (R348, R349, R370). -/
def State.tryJoin (s : State) (x : Nat × Nat × Nat) (bad : List WireFail) : State :=
  if !s.crossTested x || s.unitHard (unCrossing x.1 x.2.1 x.2.2) || s.mesh.joining.contains x then s
  else
    let s := s.setWires x bad
    if wiresOk s.mesh.wires x then { s with mesh := { s.mesh with joining := s.mesh.joining ++ [x] } } else s

/-- CROSSING_REJOIN: the wire test of a fenced crossing, which finds the failed wires `bad` (R370). -/
def execCrossingRejoin (bay side link : Nat) (bad : List WireFail) (s : State) : Host.Outcome State Fault Refusal :=
  if !crossingOk bay side link || !s.crossFenced bay side link then .next s
  else .next (s.tryJoin (crossName bay side link) bad)

/-! ### Table switches, aisles and routers (R358, R371, R372) -/

/-- What changed between the active tables and the present graph: 0 an aisle, 1 a router, 2 a crossing
fenced, 3 a crossing that rejoins (R359). -/
def State.graphChange (s : State) : Option Nat :=
  let a := s.mesh.active
  if s.downNow ≠ a.down then some 0
  else if s.faultyNow ≠ a.faulty then some 1
  else if s.fencedNow.any fun x => !a.fenced.contains x then some 2
  else if !s.mesh.joining.isEmpty || a.fenced.any fun x => !s.fencedNow.contains x then some 3
  else none

/-- The crossings that have passed their test join (R370). -/
def State.joinAll (s : State) : State :=
  let l := s.mesh.joining
  let s := l.foldl
    (fun (s : State) x => (s.fenceCross x.1 x.2.1 x.2.2 false).studReturn (unCrossing x.1 x.2.1 x.2.2) 6) s
  { s with mesh := { s.mesh with joining := [] } }

/-- A packet that waits for a crossing that carries nothing looks up its next hop again in the new tables (R358, R366). -/
def State.rerouteWaits (s : State) : State :=
  let ws := s.mesh.waits.filter fun w => w.port < 4 && !w.begun && !s.linkOpen w.pos w.port
  let s : State := { s with mesh := { s.mesh with waits := s.mesh.waits.filter fun w => !ws.contains w } }
  ws.foldl (fun (s : State) w => s.route w.pos w.tag w.reqHi w.read) s

/-- ROUTE_TABLE_SWITCH: the yardmaster in office loads tables over the present graph into the shadow position and switches
every router to them; crossings that join with it are logged, and packets that waited for a severed crossing go on (R356,
R358, R366, R370). -/
def execRouteTableSwitch (s : State) : Host.Outcome State Fault Refusal :=
  match s.yardActs, s.graphChange with
  | true, some k =>
    let joined := s.mesh.joining
    let s := s.joinAll
    let epoch := (s.od odMeshRouteEpoch + 1) % 2 ^ 32
    let s : State := { s with mesh := { s.mesh with shadow := s.mesh.active, active := s.tablesNow } }
    let s := (s.odSet odMeshRouteEpoch epoch).logEv 0x5023 unModule none noLunit [epoch, Config.rerouteChange k]
    let s := joined.foldl
      (fun (s : State) x => s.logEv 0x5021 (unCrossing x.1 x.2.1 x.2.2) none noLunit []) s
    .next s.rerouteWaits
  | _, _ => .next s

/-- A unit that an outside cause had fenced serves again with its aisle (R371, R383, R499). -/
def State.backFrom (s : State) (un : UnitId) : State :=
  if (s.studOf un).any fun r => r.cls == clsExternal then s.studReturn un 1 else s

/-- The stacks of an aisle that runs again are lost no more; their pseudo-channels stay fenced until each passes its scrub
test (R233, R371). One whose own supply is lost stays lost, and one that has failed for itself (R495). -/
def State.stacksBack (s : State) (bay : Nat) : State :=
  ((List.range 16).filter fun k => stackBay k == bay && !s.start.supplies.contains (supStack, k / 2)).foldl
    (fun (s : State) k =>
      let s := s.backFrom (unStack k)
      if s.unitOut (unStack k) then s else s.odPutBit odHbmStacksLost k false) s

/-- A crossing is fenced because the groom of one of its bays cannot test it; CROSSING_REJOIN tests it later. The manual asks
for the test before the crossing carries anything (R370, R371; DEDUCED, log 110). -/
def State.holdCross (s : State) (x : Nat × Nat × Nat) : State :=
  ((s.fenceCross x.1 x.2.1 x.2.2 true).flushCross x).logEv 0x5020 (unCrossing x.1 x.2.1 x.2.2) none noLunit
    [x.1, (baySide x.1 x.2.1).getD 255, x.2.2]

/-- The crossings of an aisle that runs again are tested: a fenced one that passes joins at the next table switch, and one
that fails, or that the groom across it cannot test, is fenced (R349, R370, R371). One to an aisle that is still down stays
severed until that runs. -/
def State.testAisle (s : State) (bay : Nat) (bad : List WireFail) : State :=
  (allCrossings.filter (ofBay bay)).foldl
    (fun (s : State) x =>
      let o := (baySide x.1 x.2.1).getD x.1
      if s.crossFenced x.1 x.2.1 x.2.2 then s.tryJoin x bad
      else if (s.bay x.1).aisleDown || (s.bay o).aisleDown then s
      else if !s.crossTested x then s.holdCross x
      else
        let s := s.setWires x bad
        if wiresOk s.mesh.wires x then s else s.crossFail x.1 x.2.1 x.2.2) s

/-- AISLE_REJOIN: an aisle whose feed the board has restored boots its groom, passes its tests and tests its crossings; its
routers join at the next table switch (R371, R383). -/
def execAisleRejoin (bay : Nat) (find : RejoinFind) (s : State) : Host.Outcome State Fault Refusal :=
  if 16 ≤ bay || !(s.bay bay).aisleDown || !find.passed then .next s
  else
    let s := (s.modBay bay fun b => { b with aisleDown := false }).modGroom bay fun g =>
      { g with inService := !g.hard, down := false }
    let s := (s.odPutBit odAislesDown bay false).odPutBit odAisleFeedOpen bay false
    let s := ((s.testAisle bay find.bad).stacksBack bay).backFrom (unNode bay)
    .next (if s.unitOut (unNode bay) then s else s.odPutBit odBeatNodesDown bay false).upcRefresh

/-- ROUTER_FAULT: a router found faulty stops with what is inside it, and the cluster at its site is fenced (R372). -/
def execRouterFault (site : SiteId) (s : State) : Host.Outcome State Fault Refusal :=
  if 576 ≤ site || s.routerStopped site then .next s
  else
    let s := s.modCl site fun x => { x with routerFaulty := true }
    let s : State := { s with mesh := { s.mesh with waits := s.mesh.waits.filter fun w => w.pos != sitePos site } }
    let s := s.odPutBit (odAt odRoutersFaulty (site / 36)) (site % 36) true
    let s := (s.logEv 0x5022 (unRouter site) none noLunit []).studFail (unRouter site) 4 0
    .next (s.fenceOff site rsFenced)

/-! ### Cluster ports and resends (R360, R363, R364, R368, R369) -/

/-- CLUSTER_PORT_REQUEST: a request for a cluster port enters, draws RETRY or is discarded (R363). One that writes, zeroes
or adds, as `changes` says, is kept for 4,000 µs; one that matches a kept record is answered again and not applied
(R369). -/
def execClusterPortRequest (site : SiteId) (r : PortReq) (s : State) : Host.Outcome State Fault Refusal :=
  let src := tagPort r.tag
  let num := tagNum r.tag r.reqHi
  if 576 ≤ site || tagBad r.tag || fld r.tag 29 2 ≠ 0 || fld r.tag 10 3 ≠ 0 || tagDst r.tag ≠ sitePos site ||
      s.routerStopped site then .next s
  else
    match (s.cl site).port with
    | .opened =>
      .next (if r.changes && s.isDup (endPort site) src num then s.odAdd odMeshDuplicateCount 1
        else
          let s := if r.changes then s.keepReq (endPort site) src num 0 else s
          s.waitPort site 4 r.tag r.reqHi)
    | .hold => .next (s.retryReq src num)
    | .park => .next ((s.retryReq src num).wakePort site)
    | .reset => .next (s.portDrop site)
    | .dark => .next (s.portDrop site)

/-- RETRY_RESEND: after the delay of its RETRY the source sends the request again (R364). -/
def execRetryResend (r : ReqName) (s : State) : Host.Outcome State Fault Refusal :=
  .next (s.modReq r.src r.num fun q =>
    if q.retryWait = true ∧ q.sentDt + 1000 * q.retryUs ≤ s.clk.dt then
      { q with retryWait := false, sentDt := s.clk.dt } else q)

/-- MESH_REQUEST_TIMEOUT: a request without a response for 1,000 µs is sent again, at most three times, then
abandoned; its job loses the step (R368, R373). -/
def execMeshRequestTimeout (r : ReqName) (s : State) : Host.Outcome State Fault Refusal :=
  match s.reqOf r.src r.num with
  | none => .next s
  | some q =>
    if q.retryWait || s.clk.dt < q.sentDt + 1000000 then .next s
    else if q.resends < 3 then
      .next ((s.modReq r.src r.num fun x => { x with resends := x.resends + 1, sentDt := s.clk.dt }).odAdd odMeshResendCount 1)
    else
      let s := (s.dropReq r.src r.num).logEv 0x9007 unModule (some q.part) noLunit
        [(s.part q.part).job.jobId.toNat, sitePos q.dst % 36 + 64 * (sitePos q.dst / 36)]
      .next (s.stepLost q.part rsBayPower)

end Sys2Proof.Machine
end

