-- ==== Sys2Proof/Machine/Ring.lean ====
section
/-! DEFINITION. Command rings (R304 to R314, R329, R474, R476): enabling, doorbells, the fetch and start of a
command, its checks, and the commands that need no job: FENCE and EVENT_WAIT. -/

namespace Sys2Proof.Machine

open Sys2Proof

/-! ### RING_CTRL (R304, R312, R344) -/

/-- ENABLE: only when the ring's partition is composed. -/
def State.ringEnableOp (s : State) (r : Nat) : State × Nat :=
  if 4096 ≤ r || !(s.part (s.ring r).part).composed then (s, odRange)
  else (s.modRing r fun x => { x with enabled := true }, odOk)
/-- DISABLE. -/
def State.ringDisableOp (s : State) (r : Nat) : State × Nat :=
  if 4096 ≤ r then (s, odRange)
  else ((s.modRing r fun x => { x with enabled := false, stopped := false }).dropFetch r, odOk)
/-- RESTART: a stopped ring fetches again from RING_STOP_INDEX. -/
def State.ringRestartOp (s : State) (r : Nat) : State × Nat :=
  if !(s.ring r).stopped || !(s.ring r).enabled then (s, odRange)
  else (s.modRing r fun x => { x with stopped := false, cons := x.stopIdx }, odOk)

/-- RING_ENABLE (R304). -/
def execRingEnable (ring : Nat) (s : State) : Host.Outcome State Fault Refusal :=
  .next (s.ringEnableOp ring).1
/-- RING_DISABLE (R304). -/
def execRingDisable (ring : Nat) (s : State) : Host.Outcome State Fault Refusal :=
  .next (s.ringDisableOp ring).1
/-- RING_RESTART (R312). -/
def execRingRestart (ring : Nat) (s : State) : Host.Outcome State Fault Refusal :=
  .next (s.ringRestartOp ring).1

/-! ### Doorbells (R305, R306, R474) -/

/-- DOORBELL: a host doorbell of route 0 (HP) or 1 + p (HU of partition p). -/
def execDoorbell (route : Nat) (w : BitVec 64) (s : State) : Host.Outcome State Fault Refusal :=
  let r := fld w 0 12
  let prod := w.extractLsb' 32 32
  let x := s.ring r
  if 32 < route || !s.up || !s.hostUp then .next (s.hostLost route)
  else if 1 ≤ route && (x.part ≠ route - 1 || x.cls = 0) then .next (s.odAdd odHostClassDropCount 1)
  else if !x.enabled || (s.part x.part).resetAt.isSome || fld w 12 20 ≠ 0 || !reached prod x.prod ||
      decide (2 ^ x.log2 < (prod - x.cons).toNat) then .next (s.odAdd odDoorbellIgnoredCount 1)
  else .next (s.modRing r fun x => { x with prod := prod })

/-! ### Commands (R307, R308) -/

/-- Job-state commands (R307). -/
def opJobState (o : Nat) : Bool := o == 1 || o == 2 || o == 3 || o == 4 || o == 6 || o == 0x31
/-- Opcodes that are not reserved (R307). -/
def opKnown (o : Nat) : Bool :=
  opJobState o || o == 5 || o == 0x10 || o == 0x11 || o == 0x12 || o == 0x20 || o == 0x21 || o == 0x22 || o == 0x30

/-- The operand bits that must be zero, as ranges of first bit and count (R308). -/
def opRsv (o : Nat) (form : Bool) : List (Nat × Nat) :=
  if o = 1 then [(224, 288)]
  else if o = 2 then [(160, 352)]
  else if o = 3 then [(96, 416)]
  else if o = 4 then [(172, 340)]
  else if o = 0x10 then [(97, 31), (256, 256)]
  else if o = 0x11 then
    [(79, 1), (328, 184)] ++ (if form then [(65, 6), (160, 120), (292, 36)] else [(71, 8), (280, 12)])
  else if o = 0x12 then [(85, 427)] ++ (if form then [(65, 12)] else [(77, 8)])
  else if o = 0x20 then [(66, 30), (160, 352)]
  else if o = 0x22 then [(192, 320)]
  else if o = 0x30 then [(80, 48), (192, 320)]
  else if o = 0x31 then [(106, 406)]
  else [(64, 448)]

/-- A WINDOW_OPEN of form 0 has fields in range (R235, R208). -/
def winOpenOk (p : Part) (d : BitVec 512) : Bool :=
  let sp := fld d 65 3
  let base := fld d 160 64
  let size := fld d 224 56
  base % 64 == 0 && size % 64 == 0 && decide (64 ≤ size) &&
    (if sp = 2 then decide (base + size ≤ p.hbmSize)
     else sp == 1 && base / 2 ^ 23 % 2 ^ 9 == 0 && base / 2 ^ 48 == 0 && decide (base / 2 ^ 32 < p.clusters) &&
       decide (base % 2 ^ 23 + size ≤ 2 ^ 23)) &&
    (fld d 318 10 == 0 || decide (fld d 292 16 < p.clusters))

/-- Whether the fields of a command are in range and its addresses aligned (R308, R18, R326). -/
def opFieldsOk (p : Part) (d : BitVec 512) : Bool :=
  let o := fld d 0 8
  if o = 1 then fld d 160 64 % 64 == 0
  else if o = 4 then
    fld d 96 64 % 128 == 0 && decide (fld d 96 64 + 128 * (fld d 160 12 + 1) ≤ p.hbmSize)
  else if o = 0x10 then
    fld d 128 64 % 64 == 0 && fld d 192 64 % 64 == 0 &&
      decide (fld d 192 64 + 64 * (fld d 64 32 + 1) ≤ p.hbmSize)
  else if o = 0x11 then d.getLsbD 64 || winOpenOk p d
  else if o = 0x20 then decide (1 ≤ fld d 128 32)
  else if o = 0x30 then
    fld d 128 64 % 64 == 0 && decide (fld d 128 64 + 32 * (fld d 64 16 + 1) ≤ p.hbmSize)
  else if o = 0x31 then decide (1000 ≤ fld d 64 32) && decide (fld d 64 32 ≤ 3600000000)
  else true

/-- Whether a command is legal in a job state (R316); STEP_COMMIT's list decides further. -/
def opLegal (o : Nat) (j : JobState) : Bool :=
  let rest := j == .loaded || j == .stepPending || j == .halted || j == .faulted
  if o = 1 then j == .empty || j == .released
  else if o = 2 || o = 3 || o = 6 then rest
  else if o = 4 then j == .loaded || j == .stepPending || j == .halted
  else if o = 5 then j == .armed || j == .running
  else if o = 0x31 then !(j == .armed || j == .running)
  else if o = 0x30 then !(j == .empty || j == .released)
  else true

/-- The status with which a command's start ends it, CS_OK if it runs (R18, R307, R308, R311, R316, R330). -/
def State.startStatus (s : State) (ring : Nat) (d : BitVec 512) : Nat :=
  let x := s.ring ring
  let p := s.part x.part
  let o := fld d 0 8
  if !opKnown o || fld d 9 23 ≠ 0 || !((opRsv o (d.getLsbD 64)).all fun f => fld d f.1 f.2 == 0) ||
      !opFieldsOk p d then csArgInvalid
  else if o = 0x31 && x.cls = 1 then csAuthFailed
  else if !opLegal o p.job.st then csStateIllegal
  else csOk

/-- Whether ordering lets a command of a ring start, priorities apart (R309, R310); a STEP_COMMIT also waits for a commit
that a reset has outlived (R284). -/
def State.orderOk (s : State) (ring o : Nat) : Bool :=
  let p := (s.ring ring).part
  (o != 4 || (s.part p).commit.isNone) &&
  !(s.cmds.any fun c => c.ring == ring && fld c.desc 0 8 == 0x21) &&
    (!opJobState o || !(s.cmds.any fun c => (c.ring == ring || c.part == p) && opJobState (fld c.desc 0 8))) &&
    (o != 0x21 || !(s.cmds.any fun c => c.ring == ring)) &&
    (o != 5 || !(s.cmds.any fun c => c.part == p && fld c.desc 0 8 == 5))

/-- Whether a ring fetches (R306, R312, R332, R476): a yardmaster is in office (R487, R488). -/
def State.mayFetch (s : State) (ring : Nat) : Bool :=
  let x := s.ring ring
  s.up && s.hostUp && s.yardActs && x.enabled && !x.stopped && (s.part x.part).resetAt.isNone && reached x.prod (x.cons + 1)

/-- The read of the command at a ring's consumer index, if one has been sent (R306). -/
def State.fetchOf (s : State) (ring : Nat) : Option HostRead :=
  s.hrd.reqs.find? fun q => !q.copy && q.ring == ring && q.idx == (s.ring ring).cons.toNat
/-- The command that has been read from a ring and has not started, once the card has returned it (R306). -/
def State.fetched (s : State) (ring : Nat) : Option (BitVec 512) :=
  ((s.fetchOf ring).bind (·.data)).map fun l => BitVec.ofNat 512 (ofLe l)

/-- Whether the job-state command of another ring of the partition is ready and goes first: the ring of higher priority,
then the lower ring number (R310). -/
def State.rankedBelow (s : State) (ring : Nat) : Bool :=
  let x := s.ring ring
  s.rings.any fun kv =>
    kv.2.part == x.part && kv.1 != ring && (decide (x.prio < kv.2.prio) || (x.prio == kv.2.prio && decide (kv.1 < ring))) &&
      s.mayFetch kv.1 &&
      (match s.fetched kv.1 with
       | some d => opJobState (fld d 0 8) && s.orderOk kv.1 (fld d 0 8)
       | none => false)

/-- Whether a halt of another ring of the partition became ready earlier (R310): its command came from the card before, and
nothing of its ring has held it since. -/
def State.haltBelow (s : State) (ring : Nat) : Bool :=
  let ready (q : HostRead) : Bool :=
    !q.copy && (s.ring q.ring).part == (s.ring ring).part && s.mayFetch q.ring && q.idx == (s.ring q.ring).cons.toNat &&
      (match q.data with
       | some l => decide (fld (BitVec.ofNat 512 (ofLe l)) 0 8 = 5) && s.orderOk q.ring 5
       | none => false)
  match (s.hrd.reqs.filter ready).head? with
  | some q => q.ring != ring
  | none => false

/-- Whether ordering lets a command of a ring start (R309, R310). -/
def State.mayStart (s : State) (ring o : Nat) : Bool :=
  s.orderOk ring o && !(opJobState o && s.rankedBelow ring) && !(o == 5 && s.haltBelow ring)

/-- The hint that a HINT_LOAD records when it starts: its window stands against the step that is armed or running then, or
against the next one (R328). -/
def State.hintOf (s : State) (p : Nat) (d : BitVec 512) : Option Hint :=
  let j := (s.part p).job
  if fld d 0 8 ≠ 0x20 then none
  else
    let start := if j.st = .armed then some (j.launchDt + 1000 * fld d 96 32)
      else if j.st = .running then some (j.actualDt + 1000 * fld d 96 32) else none
    some ⟨p, fld d 64 2, fld d 96 32, fld d 128 32, start, if j.st = .armed then some j.launchDt else none, false⟩

/-- A fetched command starts: one that its start ends completes at once, the others stand started (R309 to R313, R316). -/
def State.startCmd (s : State) (ring : Nat) (desc : BitVec 512) : State :=
  let x := s.ring ring
  let cmd : RingCmd :=
    { ring := ring, idx := x.cons.toNat, part := x.part, desc := desc, startDt := s.clk.dt, acted := false,
      hint := s.hintOf x.part desc }
  let st := s.startStatus ring desc
  let s := (s.dropFetch ring).modRing ring fun x => { x with cons := x.cons + 1 }
  if st ≠ csOk then s.complete cmd st noRes else { s with cmds := s.cmds ++ [cmd] }

/-- COMMAND_FETCH: the next command of a ring is read from its slot in host memory; or, with `start`, the one that the card
has returned starts as soon as ordering allows (R304, R306, R309, R310, R473). -/
def execCommandFetch (ring : Nat) (start : Bool) (s : State) : Host.Outcome State Fault Refusal :=
  let x := s.ring ring
  .next (
    if !s.mayFetch ring then s
    else if !start then
      if (s.fetchOf ring).isNone then
        s.hostRead ring x.cons.toNat false (x.base + 64 * (x.cons.toNat % 2 ^ x.log2)) 64
      else s
    else
      match s.fetched ring with
      | none => s
      | some desc => if s.mayStart ring (fld desc 0 8) then s.startCmd ring desc else s)

/-- A started command of an opcode that has not acted yet. -/
def State.cmdOf (s : State) (ring idx o : Nat) : Option RingCmd :=
  match s.cmd ring idx with
  | some c => if fld c.desc 0 8 = o && !c.acted then some c else none
  | none => none

/-- Mark a started command as having acted. -/
def State.actCmd (s : State) (c : RingCmd) : State :=
  { s with cmds := s.cmds.map fun y => if y.ring = c.ring ∧ y.idx = c.idx then { y with acted := true } else y }

/-! ### FENCE and EVENT_WAIT (R309, R329) -/

/-- The command that has come from the card for a ring is ready from now on: it stands behind those that came before
(R310). -/
def State.readyNow (s : State) (ring : Nat) : State :=
  let mine (q : HostRead) : Bool := !q.copy && q.ring == ring && q.data.isSome
  { s with hrd := { s.hrd with reqs := s.hrd.reqs.filter (fun q => !mine q) ++ s.hrd.reqs.filter mine } }

/-- FENCE: every earlier command of its ring has completed; it completes at once. -/
def execFence (ring idx : Nat) (s : State) : Host.Outcome State Fault Refusal :=
  match s.cmdOf ring idx 0x21 with
  | none => .next s
  | some c => .next ((s.complete c csOk noRes).readyNow ring)

/-- The log that an EVENT_WAIT watches (R329). -/
def State.watched (s : State) (c : RingCmd) : List EvRec :=
  if (s.ring c.ring).cls = 0 then s.log.recs
  else
    match mget (fun _ => none) s.log.plogs c.part with
    | none => []
    | some (_, rs) => rs

/-- EVENT_WAIT: an event that already stands in the log counts; else the command waits (R329). -/
def execEventWait (ring idx : Nat) (s : State) : Host.Outcome State Fault Refusal :=
  match s.cmdOf ring idx 0x22 with
  | none => .next s
  | some c =>
    match (s.watched c).find? fun e =>
        waitMatches s c e.code e.dt (if (s.ring c.ring).cls = 0 then e.part else some c.part) with
    | some e => .next (s.complete c csOk ⟨0, e.dt, e.code, 0⟩)
    | none => .next (s.actCmd c)

/-- EVENT_WAIT_TIMEOUT: TIMEOUT_US has passed (R329). -/
def execEventWaitTimeout (ring idx : Nat) (s : State) : Host.Outcome State Fault Refusal :=
  match s.cmd ring idx with
  | none => .next s
  | some c =>
    let t := fld c.desc 160 32
    if fld c.desc 0 8 ≠ 0x22 || t = 0 || s.clk.dt < c.startDt + 1000 * t then .next s
    else .next (s.complete c csTimeout noRes)

end Sys2Proof.Machine
end

