-- ==== Sys2Proof/Machine/Job.lean ====
section
/-! DEFINITION. Jobs and steps (R315 to R325, R508), the data commands of a ring (R326 to R328), windows and
remote references (R235, R236, R240, R327) and farrier grants (R330, R531). -/

namespace Sys2Proof.Machine

open Sys2Proof

/-! ### JOB_LOAD (R315, R508) -/

/-- A boot overlay of a manifest entry (R177, R315): an overlay descriptor with FLAG and INC zero. -/
def bootOk (d : Row) (hbmSize : Nat) : Bool :=
  let x := ovlDesc d
  fld d 0 4 == 4 && x.flag == 0 && x.inc == 0 && fld d 42 6 == 0 && fld d 112 144 == 0 && x.src % 32 == 0 &&
    decide (x.start + x.count ≤ 2048) && decide (x.src + 32 * x.count ≤ hbmSize)

/-- A mailbox binding names no core, or a core of the partition (R315, R335). -/
def bindOk (clusters b : Nat) : Bool := b == 0 || (decide (0x8000 ≤ b) && decide ((b - 0x8000) / 16 < clusters))

/-- A manifest entry is not broken (R315). -/
def entryOk (p : Part) (e : BitVec 512) : Bool :=
  bootOk (e.extractLsb' 0 256) p.hbmSize && bindOk p.clusters (fld e 256 16) && bindOk p.clusters (fld e 272 16) &&
    fld e 288 224 == 0

/-- The 64-byte entry `i` of a manifest, and whether its granule is poisoned. -/
def State.manifestEntry (s : State) (p : Part) (a i : Nat) : BitVec 512 × Bool :=
  let lo := s.unitRead p 2 (a + 64 * i) 0
  let hi := s.unitRead p 2 (a + 64 * i) 1
  (BitVec.ofNat 512 (lo.1 + 2 ^ 256 * hi.1), lo.2 || hi.2)

/-- A WX0804 loader header is not broken (R508). -/
def loaderOk (p : Part) (h : Row) : Bool :=
  let start := fld h 32 11
  let n := fld h 43 11 + 1
  fld h 54 10 == 0 && fld h 128 128 == 0 && fld h 64 64 % 32 == 0 && decide (start + n ≤ 2048) &&
    decide (fld h 64 64 + 32 * n ≤ p.hbmSize)

/-- Load a job (R315, R316); in a live update the cores of the partition move to the new image (R509). -/
def State.loadJob (s : State) (c : RingCmd) (manifest : List (BitVec 512)) (loader : Option Row) : State :=
  let s := s.modJob c.part fun _ =>
    { Job.zero with st := .loaded, jobId := c.desc.extractLsb' 64 32, seed := c.desc.extractLsb' 96 64,
                    manifest := manifest, loader := loader, loadDt := s.clk.dt }
  (s.moveUnit (28 + c.part)).complete c csOk noRes

/-- JOB_LOAD: the manifest, or a WX0804 loader image, is read, checked and kept (R315, R508). -/
def execJobLoad (ring idx : Nat) (s : State) : Host.Outcome State Fault Refusal :=
  match s.cmdOf ring idx 0x01 with
  | none => .next s
  | some c =>
    let p := s.part c.part
    let a := fld c.desc 160 64
    if p.hbmSize < a + 64 then .next (s.complete c csArgInvalid noRes)
    else
      let h := BitVec.ofNat 256 (s.unitRead p 2 a 0).1
      if fld h 0 32 = 0x0804A55B then
        if (s.unitRead p 2 a 0).2 || !loaderOk p h then .next (s.complete c csArgInvalid noRes)
        else .next ((s.odAdd odWx0804LoadCount 1).loadJob c [] (some h))
      else if p.hbmSize < a + 1024 * p.clusters then .next (s.complete c csArgInvalid noRes)
      else
        let es := (List.range (16 * p.clusters)).map (s.manifestEntry p a)
        if es.any (fun e => e.2 || !entryOk p e.1) then .next (s.complete c csArgInvalid noRes)
        else .next (s.loadJob c (es.map (·.1)) none)

/-! ### Arming and launching (R317 to R319) -/

/-- The boot overlay of a core: of its manifest entry, or the loader body (R315, R508). -/
def Job.bootOf (j : Job) (i k : Nat) : OvlDesc :=
  match j.loader with
  | some h => ⟨fld h 32 11, fld h 43 11 + 1, 0, 0, fld h 64 64⟩
  | none => ovlDesc ((j.manifest.getD (16 * i + k) 0).extractLsb' 0 256)

/-- Every core of a site fetches its boot overlay (R318). -/
def State.bootSite (s : State) (p i : Nat) (site : SiteId) : State :=
  (List.range 16).foldl
    (fun (s : State) k =>
      let o := (s.part p).job.bootOf i k
      s.modBoth (16 * site + k) fun x =>
        { x with ovls := x.ovls ++ [⟨o.start, o.count, 0, 0, o.src, 0, true, false⟩] }) s

/-- Clear the LSP, CMEM and table stores of a site, and their marks (R318, R330). -/
def State.wipeSite (s : State) (site : SiteId) : State :=
  let g := cmemKey site 0 / 64
  let s := { s with cmem := mclearRange s.cmem (cmemKey site 0) (2 ^ 23)
                    cmemPoison := mclearRange s.cmemPoison g (2 ^ 17)
                    cmemOvf := mclearRange s.cmemOvf g (2 ^ 17) }
  (siteCores site).foldl
    (fun (s : State) c => s.modBoth c fun x =>
      { x with lsp := [], lspPoison := [], act := [], actMark := [], lut := [], lutMark := [], wback := [] }) s

/-- Whether a partition's cores have no copy and no overlay outstanding (R318, R320). -/
def State.drained (s : State) (p : Nat) : Bool :=
  !(s.copies.any fun c => c.part == p) &&
    s.cores.all fun kv => (s.ownerOf kv.1).map (·.1) != some p || (kv.2.cur.ovls.isEmpty && kv.2.cur.cpPend.isEmpty)

/-- What R318 sets going before a launch, once earlier copies and overlays are done: spare moves, the
clearing of a start from HALTED or FAULTED, waking, and boot overlays. -/
def State.prepStep (s : State) (p : Nat) : State :=
  let s := s.spareMoves p
  let wipe := (s.part p).job.wipe
  let s := (s.part p).sites.zipIdx.foldl
    (fun (s : State) xi => match xi.1 with
      | none => s
      | some site =>
        let s := if wipe then s.wipeSite site else s
        let s := if (s.cl site).power = .parked then s.modCl site fun x => { x with waking := true } else s
        if (s.cl site).powered then s.bootSite p xi.2 site else s) s
  s.modJob p fun j => { j with prep := true, bootDt := s.clk.dt, bodies := [] }

/-- Change every hint: those recorded, and those of HINT_LOADs that have started (R328). -/
def State.mapHints (s : State) (f : Hint → Hint) : State :=
  { s with hints := s.hints.map f, cmds := s.cmds.map fun c => { c with hint := c.hint.map f } }

/-- The parked clusters of a partition wake at the start of JOB_ARM or JOB_START (R417). -/
def State.wakePart (s : State) (p : Nat) : State :=
  (s.part p).sites.foldl
    (fun (s : State) x => match x with
      | some site => if (s.cl site).power = .parked then s.modCl site fun x => { x with waking := true } else s
      | none => s) s

/-- JOB_ARM and JOB_START at their start: the step is armed for a launch DT, and prepared once earlier
copies are done (R303, R317, R318). The lead of 20,000 ns counts from the command's start. -/
def State.armStep (s : State) (c : RingCmd) (launch : Nat) : State :=
  let p := c.part
  if launch < c.startDt + 20000 then s.complete c csArgInvalid noRes
  else if s.unmapped p ≠ 0 then (s.markLost p).complete c csNoResource noRes
  else
    let s := (s.mapHints fun h => if h.part = p then { h with asked := none } else h).wakePart p
    let s := (s.actCmd c).modJob p fun j =>
      { j with st := .armed, step := c.desc.extractLsb' 64 32, launchDt := launch, actualDt := 0,
               armCmd := some (c.ring, c.idx), prep := false, wipe := j.st == .halted || j.st == .faulted,
               bootDt := s.clk.dt, reason := 0, stepEnergy := none }
    if s.drained p then s.prepStep p else s

/-- A step that was armed before earlier copies were done is prepared once they are (R318). -/
def State.latePrep (s : State) (ring idx : Nat) : State :=
  match s.cmd ring idx with
  | none => s
  | some c =>
    let j := (s.part c.part).job
    if j.st = .armed && !j.prep && j.armCmd == some (ring, idx) && s.drained c.part then s.prepStep c.part else s

/-- JOB_ARM (R317, R318). -/
def execJobArm (ring idx : Nat) (s : State) : Host.Outcome State Fault Refusal :=
  match s.cmdOf ring idx 0x02 with
  | some c => .next (s.armStep c (fld c.desc 96 64))
  | none => .next (s.latePrep ring idx)

/-- JOB_START: as JOB_ARM with a launch 20,000 ns after its start, rounded up to a whole µs (R317). -/
def execJobStart (ring idx : Nat) (s : State) : Host.Outcome State Fault Refusal :=
  match s.cmdOf ring idx 0x03 with
  | some c => .next (s.armStep c ((c.startDt + 20000 + 999) / 1000 * 1000))
  | none => .next (s.latePrep ring idx)

/-- The launch DT of an armed step: as asked, or the first whole µs at which every boot overlay is in place
(R318). -/
def Job.launchAt (j : Job) : Nat := if j.bootDt ≤ j.launchDt then j.launchDt else (j.bootDt + 999) / 1000 * 1000

/-- A core at launch (R319, R84, R158): S1 holds STEP; memories and table stores stay. -/
def CoreSt.launch (x : CoreSt) (pc : Nat) (step : W32) : CoreSt :=
  { CoreSt.zero with
      phase := .running, pc := pc, sreg := mset zW [] 1 step, prog := [], lut := x.lut, lutMark := x.lutMark,
      act := x.act, actMark := x.actMark, lsp := x.lsp, lspPoison := x.lspPoison, wback := x.wback,
      imem := x.imem, imemPoison := x.imemPoison, imemWback := x.imemWback }

/-- Whether every cluster of a partition has power and every boot overlay is in place (R318, R421). -/
def State.bootDone (s : State) (p : Nat) : Bool :=
  ((s.part p).sites.all fun x => match x with
    | none => false
    | some site => (s.cl site).power == .on || (s.cl site).power == .paused) && s.drained p

/-- A hint of a partition once its step launches: its window stands against the actual launch DT (R328); one that was
placed against an earlier step does not move. -/
def hintAtLaunch (p asked actual : Nat) (h : Hint) : Hint :=
  if h.part ≠ p then h
  else
    match h.start with
    | none => { h with start := some (actual + 1000 * h.offsetUs) }
    | some t => if h.asked = some asked then { h with start := some (t + (actual - asked)), asked := none } else h

/-- The launch of a step at its launch DT (R319, R328, R341, R401). -/
def State.launchStep (s : State) (p : Nat) : State :=
  let j := (s.part p).job
  let at_ := j.launchAt
  let s : State := { s with mails := s.mails.filter fun m => (s.ownerOf m.dst).map (·.1) != some p
                            signals := s.signals.filter fun g => (s.ownerOf g.dst).map (·.1) != some p
                            landing := s.landing.filter fun x => (s.cl x.1).owner.map (·.1) != some p }
  let s := s.clearPosts p
  let s := (s.part p).sites.zipIdx.foldl
    (fun (s : State) xi => match xi.1 with
      | none => s
      | some site =>
        let s := if (s.cl site).power = .paused then s.odAdd odLaunchSkewExceededCount 1 else s
        (List.range 16).foldl
          (fun (s : State) k => s.modBoth (16 * site + k) fun x => x.launch (j.bootOf xi.2 k).start j.step) s) s
  let s := s.modJob p fun j => { j with st := .running, actualDt := at_, stepDt := s.clk.dt, stepEnergy := some 0 }
  let s := (s.mapHints (hintAtLaunch p j.launchDt at_)).retryHost
  if at_ = j.launchDt then s else s.logEv 0x9003 unModule (some p) noLunit []

/-- Every cluster of a partition comes up to a moment of the present µs, `ns` after the last time word. -/
def State.partTo (s : State) (p ns : Nat) : State :=
  (s.part p).sites.foldl
    (fun (s : State) x => match x with
      | some site => s.runTo site
      | none => s) { s with clk := { s.clk with sub := ns } }

/-- Whether the counter of every cluster of a partition whose CCLK runs has reached a device time (R401). -/
def State.countersAt (s : State) (p dt : Nat) : Bool :=
  (s.part p).sites.all fun x => match x with
    | some site => !s.cclk site || decide (dt ≤ s.clusterDt site)
    | none => true

/-- LAUNCH: every core of the partition begins to issue once the counter of its cluster has reached the launch DT (R318,
R319, R401). The command stands for a moment at which they all have: within the present µs, and 4 ns after the DT master,
which is the bound of R400. -/
def execLaunch (part : Nat) (s : State) : Host.Outcome State Fault Refusal :=
  let j := (s.part part).job
  let ns := max s.clk.sub (j.launchAt + 4 - s.clk.dt)
  let s' := s.partTo part ns
  if j.st ≠ .armed || !j.prep || !s.bootDone part || 1000 - s.clk.dt % 1000 ≤ ns || !s'.countersAt part j.launchAt then
    .next s
  else .next (s'.launchStep part)

/-! ### The end of a step (R320, R323, R325) -/

/-- Whether a core has ended and nothing of it is in flight (R175). -/
def CoreSt.quiet (x : CoreSt) : Bool :=
  x.phase == .ended && x.reads.isEmpty && x.writes.isEmpty && x.vpend.isEmpty && x.pload.isEmpty && x.run.isNone &&
    x.cpPend.isEmpty && x.ovls.isEmpty && x.sigPend.isEmpty && x.postPend.isEmpty && x.ackPend.isEmpty &&
    x.mx.passes.isEmpty && x.mx.drains.isEmpty && x.mx.loads.isEmpty && x.mx.dpend.isEmpty

/-- The cores of a partition. -/
def State.partCores (s : State) (p : Nat) : List CoreId :=
  (s.part p).sites.flatMap fun x => match x with
    | some site => siteCores site
    | none => []

/-- STEP_END: every core has ended and every copy and overlay is done (R320). -/
def execStepEnd (part : Nat) (s : State) : Host.Outcome State Fault Refusal :=
  let j := (s.part part).job
  let cs := s.partCores part
  if j.st ≠ .running || !cs.all (fun c => (s.cur c).quiet) || s.copies.any (fun c => c.part == part) then .next s
  else
    let ovf := cs.any fun c => (s.cur c).ovf
    let s := s.modJob part fun j => { j with st := .stepPending }
    .next (s.endArm part (if ovf then csOverflow else csOk) 0)

/-- JOB_HALT: the armed or running step stops and counts as lost, reason HALT (R323). -/
def execJobHalt (ring idx : Nat) (s : State) : Host.Outcome State Fault Refusal :=
  match s.cmdOf ring idx 0x05 with
  | none => .next s
  | some c => .next ((s.stepLost c.part rsHalt).complete c csOk noRes)

/-- JOB_RELEASE: once no digest of the partition is in progress (R325). The energy is that of the job since JOB_LOAD (R437). -/
def execJobRelease (ring idx : Nat) (s : State) : Host.Outcome State Fault Refusal :=
  match s.cmdOf ring idx 0x06 with
  | none => .next s
  | some c =>
    if !(s.part c.part).digests.isEmpty || s.cmds.any (fun x => x.part == c.part && fld x.desc 0 8 == 0x30) then .next s
    else
      let e := s.resEnergy (s.part c.part).job.energy
      let s := (s.useFree.updClear c.part).modJob c.part fun _ => { Job.zero with st := .released }
      .next (s.complete c csOk ⟨0, 0, e, 0⟩)

/-! ### COPY (R326) -/

/-- The reads of host memory that fetch the data of a COPY. -/
def State.copyData (s : State) (ring idx : Nat) : List HostRead :=
  s.hrd.reqs.filter fun q => q.copy && q.ring == ring && q.idx == idx
/-- Read the data of a COPY, at most 4,096 bytes a read (R473). -/
def State.askCopy (s : State) (ring idx addr n : Nat) : State :=
  (List.range ((n + 4095) / 4096)).foldl
    (fun (s : State) i => s.hostRead ring idx true (addr + 4096 * i) (min 4096 (n - 4096 * i))) s

/-- HOST_COPY_TO_HBM: the data are read from host memory; or, with `write`, once the card has returned all of them, they
are written as whole granules, their marks cleared (R326, R473). -/
def execHostCopyToHbm (ring idx : Nat) (write : Bool) (s : State) : Host.Outcome State Fault Refusal :=
  match s.cmdOf ring idx 0x10 with
  | none => .next s
  | some c =>
    let n := 64 * (fld c.desc 64 32 + 1)
    let qs := s.copyData ring idx
    if c.desc.getLsbD 96 then .next s
    else if !write then .next (if s.hostUp && qs.isEmpty then s.askCopy ring idx (fld c.desc 128 64) n else s)
    else if qs.isEmpty || qs.any fun q => q.data.isNone then .next s
    else
      let data := qs.flatMap fun q => q.data.getD []
      let xs := (List.range (n / 32)).map fun i => (ofLe ((data.drop (32 * i)).take 32), false)
      let s : State := { s with hrd := { s.hrd with reqs := s.hrd.reqs.filter fun q =>
        !(q.copy && q.ring == ring && q.idx == idx) } }
      .next ((s.rangeWrite (s.part c.part) 2 (fld c.desc 192 64) xs).complete c csOk noRes)

/-- HOST_COPY_FROM_HBM: a poisoned granule is delivered as zeros and counted. -/
def execHostCopyFromHbm (ring idx : Nat) (s : State) : Host.Outcome State Fault Refusal :=
  match s.cmdOf ring idx 0x10 with
  | none => .next s
  | some c =>
    if !c.desc.getLsbD 96 then .next s
    else
      let p := s.part c.part
      let a := fld c.desc 192 64
      let gs := (List.range (fld c.desc 64 32 + 1)).map fun g =>
        let lo := s.unitRead p 2 (a + 64 * g) 0
        let hi := s.unitRead p 2 (a + 64 * g) 1
        (g, lo.2 || hi.2, lo.1 + 2 ^ 256 * hi.1)
      let s := gs.foldl
        (fun (s : State) g =>
          s.hostWrite (fld c.desc 128 64 + 64 * g.1) (if g.2.1 then 0 else g.2.2) 64) s
      .next (s.complete c csOk ⟨0, (gs.filter (·.2.1)).length, 0, 0⟩)

/-! ### Windows and remote references (R235, R236, R240, R327) -/

/-- Open windows. -/
def State.openWindows (s : State) : Nat := s.windows.length

/-- The lowest handle that is free. -/
def State.freeHandle (s : State) : Option Nat := (List.range 4096).find? fun h => (s.window h).isNone

/-- WINDOW_OPEN, form 0 (R235, R327). -/
def execWindowOpen (ring idx : Nat) (s : State) : Host.Outcome State Fault Refusal :=
  match s.cmdOf ring idx 0x11 with
  | none => .next s
  | some c =>
    if c.desc.getLsbD 64 then .next s
    else
      match s.freeHandle with
      | none => .next (s.complete c csNoResource noRes)
      | some h =>
        let d := c.desc
        let w : Window :=
          { part := c.part, hbm := fld d 65 3 == 2, base := fld d 160 64, size := fld d 224 56,
            rights := d.extractLsb' 68 3, peer := d.extractLsb' 80 16, key := d.extractLsb' 96 64,
            notifyCore := d.extractLsb' 292 20, notifyFlag := fld d 312 6, notifyInc := fld d 318 10,
            closing := none }
        let s := s.setWindow h (some w)
        .next ((s.odSet odWindowsOpen s.openWindows).complete c csOk ⟨0, h, 0, 0⟩)

/-- REMOTE_REFERENCE_ENTER: WINDOW_OPEN, form 1 (R236, R327). -/
def execRemoteReferenceEnter (ring idx : Nat) (s : State) : Host.Outcome State Fault Refusal :=
  match s.cmdOf ring idx 0x11 with
  | none => .next s
  | some c =>
    let d := c.desc
    if !d.getLsbD 64 then .next s
    else if !s.hasPath (fld d 80 16) then .next (s.complete c csLinkDown noRes)
    else
      let r : RemoteRef := ⟨d.extractLsb' 80 16, fld d 280 12, d.extractLsb' 96 64⟩
      let s := s.modPart c.part fun x => { x with refs := mset (fun _ => none) x.refs (fld d 71 8) (some r) }
      .next (s.complete c csOk noRes)

/-- WINDOW_CLOSE, form 0: from its acceptance on, writes that arrive are dropped (R240, R327). -/
def execWindowClose (ring idx : Nat) (s : State) : Host.Outcome State Fault Refusal :=
  match s.cmdOf ring idx 0x12 with
  | none => .next s
  | some c =>
    let h := fld c.desc 65 12
    if c.desc.getLsbD 64 then .next s
    else
      match s.window h with
      | none => .next (s.complete c csArgInvalid noRes)
      | some w =>
        if w.part ≠ c.part || w.closing.isSome then .next (s.complete c csArgInvalid noRes)
        else .next ((s.setWindow h (some { w with closing := some (ring, idx) })).actCmd c)

/-- WINDOW_CLOSE_COMPLETE: every write that the window accepted has taken effect (R240). -/
def execWindowCloseComplete (handle : Nat) (s : State) : Host.Outcome State Fault Refusal :=
  match (s.window handle).bind (·.closing) with
  | none => .next s
  | some (r, i) =>
    let s := s.setWindow handle none
    let s := s.odSet odWindowsOpen s.openWindows
    match s.cmd r i with
    | some c => .next (s.complete c csOk noRes)
    | none => .next s

/-- REMOTE_REFERENCE_CLEAR: WINDOW_CLOSE, form 1 (R308). -/
def execRemoteReferenceClear (ring idx : Nat) (s : State) : Host.Outcome State Fault Refusal :=
  match s.cmdOf ring idx 0x12 with
  | none => .next s
  | some c =>
    if !c.desc.getLsbD 64 then .next s
    else
      let s := s.modPart c.part fun x => { x with refs := mset (fun _ => none) x.refs (fld c.desc 77 8) none }
      .next (s.complete c csOk noRes)

/-! ### HINT_LOAD and FARRIER_GRANT (R328, R330, R531) -/

/-- HINT_LOAD: the hint that the command's start has placed is recorded (R328). -/
def execHintLoad (ring idx : Nat) (s : State) : Host.Outcome State Fault Refusal :=
  match s.cmdOf ring idx 0x20 with
  | none => .next s
  | some c =>
    .next (({ s with hints := s.hints ++ c.hint.toList } : State).complete c csOk noRes)

/-- When a site was last visited (R530). -/
def State.lastVisit (s : State) (site : SiteId) : Nat := s.od (odSite odLastVisitSt site)

/-- Put a site into a list ordered by its last visit, the oldest first. -/
def State.insertVisit (s : State) (x : SiteId) : List SiteId → List SiteId
  | [] => [x]
  | y :: ys => if s.lastVisit x < s.lastVisit y then x :: y :: ys else y :: s.insertVisit x ys

/-- The clusters of a partition that a grant may still lend, the most overdue first (R531). -/
def State.grantOrder (s : State) (p : Nat) (visited : List SiteId) : List SiteId :=
  (((s.part p).sites.filterMap id).filter fun x => !(s.cl x).fenced && !(s.cl x).lent && !visited.contains x).foldr
    s.insertVisit []

/-- Lend clusters of a partition up to the grant's limit (R330, R531). -/
def State.lend (s : State) (p : Nat) : State :=
  match (s.part p).grant with
  | none => s
  | some g =>
    let lent := ((s.part p).sites.filterMap id).filter fun x => (s.cl x).lent
    let cap := if g.maxCl = 0 then (s.part p).clusters else g.maxCl
    ((s.grantOrder p g.visited).take (cap - lent.length)).foldl
      (fun (s : State) x => s.modCl x fun y => { y with lent := true }) s

/-- FARRIER_GRANT (R330, R531). -/
def execFarrierGrant (ring idx : Nat) (s : State) : Host.Outcome State Fault Refusal :=
  match s.cmdOf ring idx 0x31 with
  | none => .next s
  | some c =>
    let g : Grant := ⟨ring, idx, s.clk.dt + 1000 * fld c.desc 64 32, fld c.desc 96 10, []⟩
    .next (((s.actCmd c).modPart c.part fun x => { x with grant := some g }).lend c.part)

/-- FARRIER_GRANT_END: DURATION_US has passed or every cluster has been visited; the lent clusters come back
zeroed (R330, R531). -/
def execFarrierGrantEnd (part : Nat) (s : State) : Host.Outcome State Fault Refusal :=
  match (s.part part).grant with
  | none => .next s
  | some g =>
    let all := ((s.part part).sites.filterMap id).all fun x => (s.cl x).fenced || g.visited.contains x
    if s.clk.dt < g.endDt && !all then .next s
    else
      let lent := ((s.part part).sites.filterMap id).filter fun x => (s.cl x).lent
      let s := lent.foldl
        (fun (s : State) x => ((s.abandonRun x).wipeSite x).modCl x fun y => { y with lent := false }) s
      let s := s.modPart part fun x => { x with grant := none }
      match s.cmd g.ring g.idx with
      | some c => .next (s.complete c csOk noRes)
      | none => .next s

end Sys2Proof.Machine
end

