-- ==== Sys2Proof/Machine/Power.lean ====
section
/-! DEFINITION. Power and heat (R408 to R439): regulator slices, parking, the power-on sequencer, the fast and
slow loops, load hints, lost rails and feeds, and the thermal thresholds. -/

namespace Sys2Proof.Machine

open Sys2Proof

/-! ### Supplies and slices (R412 to R414) -/

/-- A device on a PMBus segment (R584). -/
def pmbKey (seg addr : Nat) : Nat := 256 * seg + addr
/-- The devices beside the two aisle converters that the slow loop reads: the bays' converter groups, the supplies of
stack groups and link dies, and VAUX (R423, R584). -/
def pmbDevices : List (Nat × Nat) :=
  (List.range 16).map (fun n => (0, 0x40 + n)) ++ (List.range 8).map (fun u => (1, 0x58 + u)) ++
    (List.range 4).map (fun k => (1, 0x60 + k)) ++ [(1, 0x64)]
/-- A read of a device: how many in a row it has failed to answer (R584). -/
def State.pmbRead (s : State) (key : Nat) (answered : Bool) : State :=
  let n := if answered then 0 else min 3 (mget zN s.start.pmbMiss key + 1)
  { s with start := { s.start with pmbMiss := mset zN s.start.pmbMiss key n } }
/-- Whether a read that a device fails to answer makes it count as reporting itself off: it is the third in a row
(R584). -/
def State.pmbOff (s : State) (key : Nat) : Bool := mget zN s.start.pmbMiss key == 2

/-- A poll of one aisle converter, which answers whether it has a fault, or does not answer (R412, R584). -/
def State.pollConverter (s : State) (k : Nat) (status : Option Bool) : State :=
  let key := pmbKey 1 (0x50 + k)
  let fault := (status.getD false) || (status.isNone && s.pmbOff key)
  let s := s.pmbRead key status.isSome
  if fault then s.logEv 0x1006 unModule none noLunit [] else s

/-- AISLE_CONVERTER_POLL: a converter fault, or a converter that counts as off, is logged and changes nothing else (R412,
R584). -/
def execAisleConverterPoll (status0 status1 : Option Bool) (s : State) : Host.Outcome State Fault Refusal :=
  .next (if s.up then (s.pollConverter 0 status0).pollConverter 1 status1 else s)

/-- LDO_SLICE_FAILED: the slice is switched off for the life of the module; from six failed slices on the
cluster is fenced, and one that its return tests have powered is switched off again (R413, R414, R497). -/
def execLdoSliceFailed (site : SiteId) (slice : Nat) (s : State) : Host.Outcome State Fault Refusal :=
  let k := odSite odLdoSlicesFailed site
  if 576 ≤ site || 24 ≤ slice || s.odBit k slice || s.fuseBad (unSlice site slice) then .next s
  else
    let s := s.odPutBit k slice true
    let n := s.slicesOut site
    let s := s.logEv 0x1003 (unSlice site slice) ((s.cl site).owner.map (·.1)) noLunit [site % 36, slice, n]
    let s := s.studHard (unSlice site slice) 4 0
    if 6 ≤ n then
      .next (if !(s.cl site).fenced then (s.studFail (unSite site) 4 0).fenceOff site rsFenced
        else if (s.cl site).power = .off then s else (s.abandonRun site).switchOff site)
    else .next (s.askPoint site)

/-! ### Parking and waking (R417, R341, R363) -/

/-- CLUSTER_PARK: a cluster of a partition that has had nothing to run for PARK_IDLE_US (R417). -/
def execClusterPark (site : SiteId) (s : State) : Host.Outcome State Fault Refusal :=
  let x := s.cl site
  if x.power ≠ .on || x.owner.isNone || x.port ≠ .opened || x.change.isSome || s.busySite site ||
      decide (s.clk.dt < x.idleSince + 1000 * s.od odParkIdleUs) then .next s
  else
    .next ((((s.lastCycles site).modCl site fun x =>
      { x with power := .parked, port := .park, waking := false, counted := false }).portTurn site).railRefresh (site / 36))

/-- A site that a run occupies and that now has power fetches the run's program (R507, R528). -/
def State.startRun (s : State) (site : SiteId) : State :=
  match s.firm.runs.find? fun r => !r.isUpc && r.un == site with
  | some r => s.fetchRun site (if r.known then 1 else 0)
  | none => s

/-- A cluster port that has opened takes what has waited for it (R360, R363, R387). -/
def State.openPort (s : State) (site : SiteId) : State :=
  let s := s.portTurn site
  if (s.cl site).port = .opened ∧ ¬ s.stopped site then s.landAll site else s

/-- CLUSTER_WAKE: a parked cluster that a request, a signal, a message or a step start has woken (R341, R363,
R417). -/
def execClusterWake (site : SiteId) (s : State) : Host.Outcome State Fault Refusal :=
  let x := s.cl site
  if x.power ≠ .parked || !x.waking then .next s
  else
    .next (((((s.runTo site).modCl site fun x =>
      { x with power := .on, port := if x.port = .park then .opened else x.port, waking := false, counted := false,
               idleSince := s.clk.dt }).railRefresh (site / 36)).openPort site).startRun site)

/-! ### Powering a cluster on (R418 to R421) -/

/-- Whether the groom of a bay may power clusters on (R426, R428, R432, R489). -/
def State.bayUp (s : State) (b : Nat) : Bool :=
  let x := s.bay b
  s.up && !x.railLost && !x.aisleDown && !x.thermOff && !(s.groom b).down && !(s.groom b).hard && !s.thermTrip

/-- Whether a hint window in force defers power-ons of a bay (R420, R425). -/
def State.hintDefers (s : State) (b : Nat) : Bool := s.hints.any fun h => h.active && s.inBay h.part b

/-- A check of the sequencer, or a stage of its slow mode (R419, R420). After 200 µs of failed checks it checks no more, and
waits for its slow mode. -/
def PowerSeq.next (q : PowerSeq) (dt : Nat) (hint ok : Bool) : PowerSeq :=
  if 8 ≤ q.stage then q
  else if q.slow then { q with stage := q.stage + 1 }
  else if q.stage = 0 && hint && !q.hintDone then
    { q with deferSince := some (q.deferSince.getD dt) }
  else if q.deferSince.isSome || decide (200000 ≤ q.failNs) then q
  else if ok then { q with stage := q.stage + 1 }
  else { q with failNs := q.failNs + 250 }

/-- POWER_ON_STAGE: the sequencer takes the next cluster, checks, and switches a stage (R418 to R420). -/
def execPowerOnStage (bay : Nat) (meanCurrent : Nat) (s : State) : Host.Outcome State Fault Refusal :=
  if 16 ≤ bay || !s.bayUp bay then .next s
  else
    let x := s.bay bay
    match x.seq.orElse fun _ => x.want.head?.map fun k => ⟨k, 0, 0, false, none, false⟩ with
    | none => .next s
    | some q =>
      let ok := decide (meanCurrent + 24 ≤ s.od (odAt odBayCurrentLimitA bay))
      let q := q.next s.clk.dt (s.hintDefers bay) ok
      .next (s.modBay bay fun x => { x with seq := some q, want := x.want.filter fun k => k != q.site })

/-- Insert a site into a list in falling order of current; of two equal ones the lower site stands first. -/
def byCurrent (amps : SiteId → Nat) (k : SiteId) : List SiteId → List SiteId
  | [] => [k]
  | y :: ys => if amps y < amps k then k :: y :: ys else y :: byCurrent amps k ys

/-- The current of a site in a list of readings. -/
def currentOf (l : List (SiteId × Nat)) (k : SiteId) : Nat := ((l.find? fun x => x.1 == k).map (·.2)).getD 0

/-- The clusters of a bay that have power and are faster than P5, the one with the highest current first (R419, R422). Of
two with equal currents the one of the lower site comes first: the manual does not say (DESIGN CHOICE, log 112). -/
def State.topSites (s : State) (bay : Nat) (l : List (SiteId × Nat)) : List SiteId :=
  ((baySites bay).filter fun k => (s.cl k).power == .on && decide ((s.cl k).point < 5)).foldl
    (fun a k => byCurrent (currentOf l) k a) []

/-- INRUSH_SLOW_MODE: after 200 µs of failed checks the checks end, and the four clusters of the bay with the highest
`currents` over the last 10 µs assist (R419); the time waited is in ns. -/
def execInrushSlowMode (bay : Nat) (currents : List (SiteId × Nat)) (s : State) : Host.Outcome State Fault Refusal :=
  match (s.bay bay).seq with
  | none => .next s
  | some q =>
    if q.slow || q.failNs < 200000 || 8 ≤ q.stage then .next s
    else
      let four := (s.topSites bay currents).take 4
      let s := four.foldl
        (fun (s : State) k => (s.modCl k fun x => { x with inrushReq := some (x.point + 1) }).askPoint k) s
      let s := s.modBay bay fun x =>
        { x with seq := some { q with slow := true }, assist := four, assistUntil := s.clk.dt + 32000 }
      .next ((s.odAdd odInrushDeferredCount 1).logEv 0x1004 (unSite q.site) ((s.cl q.site).owner.map (·.1)) noLunit
        ([q.site % 36, 0] ++ words2 q.failNs ++ four.map (· % 36)))

/-- INRUSH_ASSIST_END: the assist lasts 32 µs (R419). -/
def execInrushAssistEnd (bay : Nat) (s : State) : Host.Outcome State Fault Refusal :=
  let x := s.bay bay
  if x.assist.isEmpty || decide (s.clk.dt < x.assistUntil) then .next s
  else
    let s := x.assist.foldl
      (fun (s : State) k => (s.modCl k fun x => { x with inrushReq := none }).askPoint k) s
    .next (s.modBay bay fun x => { x with assist := [] })

/-- HINT_DEFERRAL_END: the hint's window has ended, or 10 ms have passed; the 200 µs count from here (R420). -/
def execHintDeferralEnd (bay : Nat) (s : State) : Host.Outcome State Fault Refusal :=
  match (s.bay bay).seq with
  | none => .next s
  | some q =>
    match q.deferSince with
    | none => .next s
    | some t =>
      if s.hintDefers bay && decide (s.clk.dt < t + 10000000) then .next s
      else .next (s.modBay bay fun x => { x with seq := some { q with deferSince := none, hintDone := true, failNs := 0 } })

/-- The core map of a site: the first 16 good core sites in ascending order (R30). -/
def State.coreMapOf (s : State) (site : SiteId) : List Nat :=
  ((List.range 17).filter fun k => !s.unitOut (unCoreSite site k)).take 16

/-- The core sites of a cluster that are out of service, as a bit map. -/
def State.coreBadOf (s : State) (site : SiteId) : Nat :=
  ((List.range 17).filter fun k => s.unitOut (unCoreSite site k)).foldl (fun a k => a + 2 ^ k) 0

/-- A domain that has reached its setpoint and locked: its memories are initialised, its core map is built and
its port opens (R30, R205, R213, R363, R421). That of a fenced site stays DARK, and its map as it was until it passes its
return tests (R31). -/
def State.powerUp (s : State) (site : SiteId) : State :=
  let m := s.coreMapOf site
  let bad := s.coreBadOf site
  let p := s.desired site
  let s := ((s.runTo site).clearSite site).modCl site fun x =>
    { x.atPoint p with power := .on, port := if x.fenced then .dark else .opened, waking := false,
                       coreMap := if x.fenced then x.coreMap else m,
                       coreBad := if x.fenced then x.coreBad else bad, idleSince := s.clk.dt }
  (s.railRefresh (site / 36)).openPort site

/-- POWER_ON_COMPLETE: after stage 7 (R421); a spare of an armed step then fetches its boot overlays. -/
def execPowerOnComplete (site : SiteId) (s : State) : Host.Outcome State Fault Refusal :=
  match (s.bay (site / 36)).seq with
  | none => .next s
  | some q =>
    if q.site ≠ site || q.stage < 8 then .next s
    else
      let s := ((s.modBay (site / 36) fun x => { x with seq := none }).powerUp site).startRun site
      match (s.cl site).owner with
      | none => .next s
      | some (p, i) =>
        let j := (s.part p).job
        .next (if j.st = .armed && j.prep then s.bootSite p i site else s)

/-! ### Capping (R422 to R425) -/

/-- The mean of the bay current over the last 1 ms: of the latest 1 µs mean sampled in each µs, rounded down (R422, R439;
log 113). -/
def State.bayMean (s : State) (bay mean1us : Nat) : State :=
  let l := ((s.bay bay).means.filter fun x => decide (s.clk.dt < x.1 + 1000000) && x.1 != s.clk.dt) ++ [(s.clk.dt, mean1us)]
  (s.modBay bay fun x => { x with means := l }).odSet (odAt odBayCurrentA bay) ((l.map (·.2)).sum / l.length % 65536)

/-- FAST_LOOP_SAMPLE: the bay current against BAY_LIMIT_EFF, in A, and the energy of the last 10 ms against the
share, in mJ; `ask` says how many clusters the loop's estimate needs, and their currents: it asks those with the highest
current that are faster than P5, one in a change stop among them, which keeps the request (R388, R422). BAY_CURRENT_A is the
mean over the last 1 ms (R439). -/
def execFastLoopSample (bay mean1us energy10ms : Nat) (ask : FastAsk) (s : State) :
    Host.Outcome State Fault Refusal :=
  if 16 ≤ bay || !s.up || (s.groom bay).down then .next s
  else
    let lim := s.od (odAt odBayLimitEff bay)
    let en := 10 * s.od (odAt odBayShareW bay)
    let s := s.bayMean bay mean1us
    let x := s.bay bay
    let dt := s.clk.dt
    if lim < mean1us || en < energy10ms then
      let s := s.modBay bay fun x => { x with fastRelAt := 0 }
      let due := match x.fastActAt with
        | none => true
        | some t => decide (t + 2000 ≤ dt)
      if !due then .next s
      else
        let s := ((s.topSites bay ask.currents).take ask.count).foldl
          (fun (s : State) k =>
            (s.modCl k fun x => { x with fastReq := min 5 (max x.fastReq x.point + 1) }).askPoint k) s
        let s := (s.odAdd odFastLoopActionCount 1).modBay bay fun x => { x with fastActAt := some dt }
        let first := match x.fastEvtAt with
          | none => true
          | some t => decide (t + 1000000000 ≤ dt)
        if first then
          .next ((s.modBay bay fun x => { x with fastEvtAt := some dt }).logEv 0x1005 (unBay bay) none noLunit [])
        else .next s
    else if 10 * mean1us < 9 * lim && 10 * energy10ms < 9 * en then
      if x.fastRelAt = 0 then .next (s.modBay bay fun x => { x with fastRelAt := dt + 1 })
      else if dt < x.fastRelAt - 1 + 100000 then .next s
      else
        let s := s.modBay bay fun x => { x with fastRelAt := dt + 1 }
        .next ((baySites bay).foldl
          (fun (s : State) k => if (s.cl k).fastReq = 0 then s
            else (s.modCl k fun x => { x with fastReq := x.fastReq - 1 }).askPoint k) s)
    else .next (s.modBay bay fun x => { x with fastRelAt := 0 })

/-- Whether a hint of class 3 keeps the slow loop from lowering a bay's share: for the first 100 ms of its
window (R425). -/
def State.shareHeld (s : State) (b : Nat) : Bool :=
  s.hints.any fun h => h.active && decide (3 ≤ h.cls) && s.inBay h.part b &&
    (match h.start with
     | some t => decide (s.clk.dt < t + 100000000)
     | none => false)

/-- The quotient of two numbers to the nearest integer, a tie to the even one. -/
def divNearest (n d : Nat) : Nat :=
  let q := n / d
  if d < 2 * (n % d) || (2 * (n % d) == d && q % 2 == 1) then q + 1 else q

/-- ENERGY_CAL_FACTOR as an F32: the quotient clamped to 0.5 to 2.0 inclusive, and rounded to the nearest (R436; the rounding
is a DESIGN CHOICE, log 9). -/
def calFactor (n d : Nat) : Nat :=
  if 2 * n ≤ d then 0x3F000000
  else if 2 * d ≤ n then 0x40000000
  else if n < d then 0x3F000000 + (divNearest (2 ^ 24 * n) d - 2 ^ 23)
  else 0x3F800000 + (divNearest (2 ^ 23 * n) d - 2 ^ 23)

/-- ENERGY_CAL_FACTOR times 2^24. -/
def calScale (w : Nat) : Nat := (2 ^ 23 + w % 2 ^ 23) * 2 ^ (w / 2 ^ 23 - 126)

/-- The dynamic energy of activity, in pJ and not scaled: each count times its coefficient (R436). -/
def activityEnergy (a : Activity) : Nat :=
  (a.mxe.zipIdx.map fun x => x.1 * Config.energyCoef (16 + x.2)).sum + a.lsp * Config.energyCoef 0 +
    a.cmem * Config.energyCoef 1 + a.flits * Config.energyCoef 2 + a.hbm * Config.energyCoef 3 + a.upd * Config.energyCoef 4

/-- The static energy of a partition's powered clusters since the last slow loop, in pJ (R436, R437). -/
def State.partLeak (s : State) (p : Nat) : Nat :=
  ((s.clusters.filter fun kv => kv.2.owner.map (·.1) == some p).map fun kv => kv.2.leak).sum

/-- The part of an interval's charge that falls after a moment: all of it if the moment lies before the interval, else a free
value up to it (R437; log 9). -/
def State.chargeSince (s : State) (dt ch : Nat) : Nat :=
  if s.clk.loopDt < dt then s.freeW.toNat % (ch + 1) else ch

/-- Charge a partition's job for the last 10 ms: its dynamic energy under the factor in force, and the static energy of its
clusters (R437). The result is the state and the energy charged. -/
def State.charge (s : State) (p dyn : Nat) : State × Nat :=
  let j := (s.part p).job
  if j.st = .empty ∨ j.st = .released then (s, 0)
  else
    let ch := s.chargeSince j.loadDt (dyn * calScale (s.od odEnergyCalFactor) / 2 ^ 24 + s.partLeak p)
    let st := if j.st = .running then min ch (s.chargeSince j.stepDt ch) else 0
    (s.useFree.modJob p fun j => { j with energy := j.energy + ch, stepEnergy := j.stepEnergy.map (· + st) }, ch)

/-- The share of a bay: POWER_CAP less the other rails, in proportion to the demands, and at least the idle
power of its powered clusters (R423). -/
def slowShare (cap other : Nat) (shares : List (Nat × Nat)) (b : Nat) : Nat :=
  let total := (shares.map (·.1)).foldl (· + ·) 0
  let x := shares.getD b (0, 0)
  max x.2 (if total = 0 then (cap - other) / 16 else (cap - other) * x.1 / total)

/-- HINT_WINDOW_START: the hinted window begins, if it has not ended (R328, R425). -/
def execHintWindowStart (i : Nat) (s : State) : Host.Outcome State Fault Refusal :=
  match s.hints[i]? with
  | none => .next s
  | some h =>
    match h.start with
    | none => .next s
    | some t =>
      if h.active || s.clk.dt < t || t + 1000 * h.durUs ≤ s.clk.dt then .next s
      else .next ({ s with hints := s.hints.set i { h with active := true } } : State).railsAll

/-- HINT_WINDOW_END: the window has ended, and its actions lapse (R425). -/
def execHintWindowEnd (i : Nat) (s : State) : Host.Outcome State Fault Refusal :=
  match s.hints[i]? with
  | none => .next s
  | some h =>
    match h.start with
    | none => .next s
    | some t =>
      if s.clk.dt < t + 1000 * h.durUs then .next s
      else .next ({ s with hints := s.hints.eraseIdx i } : State).railsAll

/-! ### Lost rails and feeds (R426 to R428, R234) -/

/-- Every partition with a cluster in a bay loses its step (R321). -/
def State.loseBay (s : State) (b reason : Nat) : State :=
  (List.range 32).foldl (fun (s : State) p => if s.inBay p b then s.stepLost p reason else s) s

/-- The 36 sites of a bay are switched off and fenced by an outside cause (R426, R432, R497). -/
def State.fenceBay (s : State) (b : Nat) : State :=
  let s := (baySites b).foldl
    (fun (s : State) k => ((s.fenceSite k).switchOff k).studExternal (unSite k)) s
  s.modBay b fun x => { x with want := [], seq := none, assist := [] }

/-- A bay rail is lost (R426): steps are lost with BAY_POWER, the domains are off, the sites fenced. -/
def State.railLoss (s : State) (bay : Nat) : State :=
  if 16 ≤ bay || (s.bay bay).railLost then s
  else
    let s := (s.modBay bay fun x => { x with railLost := true }).odPutBit odBayRailLost bay true
    ((s.loseBay bay rsBayPower).fenceBay bay).logEv 0x1001 (unBay bay) none noLunit []

/-- BAY_RAIL_LOST: every sense point reads below 0.45 V for 1 µs, or the converter group reports itself off (R426). -/
def execBayRailLost (bay : Nat) (s : State) : Host.Outcome State Fault Refusal :=
  .next (s.railLoss bay)

/-- The effect of a write to BAY_REENABLE: the bays named whose rail was lost may be powered again (R427); `steady` are the
rails that the board has re-enabled and that have stayed within 15 mV of their setpoints for 100 ms. -/
def State.reenable (s : State) (mask steady : Nat) : State × Nat :=
  ((bitsOf 16 mask).foldl
    (fun (s : State) b =>
      if (s.bay b).railLost && steady.testBit b then
        ((s.modBay b fun x => { x with railLost := false }).odPutBit odBayRailLost b false).logEv 0x1007 (unBay b) none
          noLunit []
      else s) s, odOk)

/-- The effect of a write to BAY_REENABLE by OD_WRITE, which says nothing of the rails: which are steady is a free value
(log 5). -/
def State.freeReenable (s : State) (mask : Nat) : State × Nat := s.useFree.reenable mask (s.freeW.toNat % 65536)

/-- BAY_REENABLE (R427). -/
def execBayReenable (route : Nat) (r : RailMask) (s : State) : Host.Outcome State Fault Refusal :=
  .next (s.keyWrite route odBayReenable fun s => s.reenable r.mask.toNat r.steady.toNat)

/-- The reads of the slow loop over PMBus; `silent` names the devices that do not answer. A converter group that counts as
reporting itself off has lost its bay rail (R426, R584); the manual draws nothing from the report of another device. -/
def State.readDevices (s : State) (silent : List (Nat × Nat)) : State :=
  pmbDevices.foldl
    (fun (s : State) d =>
      let key := pmbKey d.1 d.2
      let ok := !silent.contains d
      let off := !ok && s.pmbOff key
      let s := s.pmbRead key ok
      if off && d.1 == 0 then s.railLoss (d.2 - 0x40) else s) s

/-- The energy of the last 10 ms (R436, R437): `acts` are the activity counts of the partitions, `rest` those of all else. The
jobs are charged under the factor in force, what is measured and not charged is unattributed, and the factor of the next 10 ms
is the measured energy less the static part over the dynamic part. Without any activity that quotient is not defined, and
the factor is a free value in its range (log 9). -/
def State.energyLoop (s : State) (modulePower : Nat) (acts : List (Nat × Activity)) (rest : Activity) : State :=
  let dynOf (p : Nat) : Nat := ((acts.filter fun a => a.1 == p).map fun a => activityEnergy a.2).sum
  let dyn := (acts.map fun a => activityEnergy a.2).sum + activityEnergy rest
  let leak := (s.clusters.map fun kv => kv.2.leak).sum
  let e := 10 * modulePower
  let (s, charged) := (List.range 32).foldl
    (fun (a : State × Nat) p =>
      let (t, ch) := a.1.charge p (dynOf p)
      (t, a.2 + ch)) (s, 0)
  let factor := if dyn = 0 then 0x3F000000 + s.freeW.toNat % (2 ^ 24 + 1) else calFactor (1000000000 * e - leak) dyn
  let s := (s.useFree.odAdd odModuleEnergyMj e).odAdd odEnergyUnattributed (toMj (1000000000 * e - charged))
  let s : State := { s with clk := { s.clk with loopDt := s.clk.dt }
                            clusters := s.clusters.foldl (fun m kv => mset zCl m kv.1 { kv.2 with leak := 0 }) [] }
  s.odSet odEnergyCalFactor factor

/-- SLOW_LOOP: the devices are read; `shares` are each bay's demand and idle power, `limits` the peak shares in A (R423,
R584), `acts` and `rest` the activity of the last 10 ms (R436, R437). CAP_LIMITING reads 1 while a bay gets less than it asks
for. Peak shares that break the bound of 18 kW are no slow loop's. -/
def execSlowLoop (poll : PmbPoll) (shares : List (Nat × Nat)) (limits : List Nat) (modulePower : Nat)
    (acts : List (Nat × Activity)) (rest : Activity) (s : State) : Host.Outcome State Fault Refusal :=
  let peak := (List.range 16).foldl
    (fun a b => a + limits.getD b 0 * s.od (odAt odBayRailSetpointMv b)) (1000 * poll.otherPower)
  if !s.up || !s.yardActs || decide (18000 * 1000 < peak) then .next s
  else
    let s := s.readDevices poll.silent
    let cap := s.od odPowerCapW
    let s := (List.range 16).foldl
      (fun (s : State) b =>
        let w := slowShare cap poll.otherPower shares b
        let w := if s.shareHeld b then max w (s.od (odAt odBayShareW b)) else w
        (s.odSet (odAt odBayShareW b) w).odSet (odAt odBayLimitEff b)
          (min (s.od (odAt odBayCurrentLimitA b)) (limits.getD b 0))) s
    let limiting := (List.range 16).any fun b => decide (s.od (odAt odBayShareW b) < (shares.getD b (0, 0)).1)
    let s := (s.odSet odModulePowerW modulePower).odSet odCapLimiting (if limiting then 1 else 0)
    .next (s.energyLoop modulePower acts rest)

/-- A stack is lost: its pseudo-channels are fenced at once, a commit loses its shards, and every partition
whose stack set holds it loses its step (R234, R254, R281, R321, R428). Power is the cause, so its record in the studbook
is that of a unit fenced by power (R497). -/
def State.loseStack (s : State) (k : Nat) : State :=
  if 16 ≤ k || !s.fuse.fstacks.contains k || s.odBit odHbmStacksLost k then s
  else
    let s := ((s.odPutBit odHbmStacksLost k true).odSet (odAt odPcInService k) 0).odSet (odAt odPcFenced k) (2 ^ 32 - 1)
    let s := (s.logMany 0x400B (unStack k) (s.stackParts k) []).studExternal (unStack k)
    let s := s.commitStackLost k
    let s := (s.stackParts k).foldl (fun (s : State) p => s.stepLost p rsStackLost) s
    if decide (s.stacksUsable.length + 1 = s.gradeStacks) && s.ready then s.logEv 0x5007 unModule none noLunit [] else s

/-- The UPCs that serve, each with its work in commits. -/
def State.upcsWork (s : State) : List (Nat × List (Nat × List (Nat × Nat))) :=
  ((List.range 8).filter s.upcServes).map fun u => (u, s.upcWork u)

/-- A BEAT node and a groom stop with their supply: neighbours stop coupling to the node, and without the yardmaster's
groom the mesh runs in holdover (R380, R383, R487, R497). -/
def State.nodeUnfed (s : State) (n : Nat) : State :=
  (((s.modGroom n fun g => { g with inService := false, down := true }).nodeLost n).studExternal (unNode n)).refUpdate

/-- AISLE_FEED_LOST (R428): the aisle and its clusters stop, the crossings are severed, the bay's stacks are lost. BAY_POWER
comes before STACK_LOST where one partition meets both. A UPC that has lost both its feeds stops responding (R53, R293). -/
def execAisleFeedLost (bay : Nat) (s : State) : Host.Outcome State Fault Refusal :=
  if 16 ≤ bay || (s.bay bay).aisleDown then .next s
  else
    let work := s.upcsWork
    let s := (s.modBay bay fun x => { x with aisleDown := true }).severAisle bay
    let s := (s.odPutBit odAislesDown bay true).odPutBit odAisleFeedOpen bay true
    let s := (s.loseBay bay rsBayPower).fenceBay bay
    let s := (s.logEv 0x1002 (unBay bay) none noLunit []).nodeUnfed bay
    let s := ((List.range 16).filter fun k => stackBay k == bay).foldl (fun (s : State) k => s.loseStack k) s
    let s := (work.filter fun u => !s.upcFed u.1).foldl
      (fun (s : State) u => (s.upcStops u.1 u.2).studExternal (unUpc u.1)) s
    .next (s.abandonUpcs.upcRefresh).checkFloors

/-! ### Heat (R429 to R434) -/

/-- Degrees as an I32 register holds them. -/
def tempWord (c : Int) : Nat := wrapI 32 c

/-- Every cluster domain stops with the module, and every run ends without a verdict (R433, R529, R582, R588). -/
def State.allOff (s : State) : State :=
  let s := s.clusters.foldl (fun (s : State) kv => if kv.2.power = .off then s else (s.abandonRun kv.1).switchOff kv.1) s
  { s with firm := { s.firm with runs := [] } }

/-- THERM_TRIP_N asserts: every domain off, every step lost; it stays until power is removed (R433, R515). The
reason of the steps is HEAT (log 16). -/
def State.trip (s : State) : State :=
  if s.thermTrip then s
  else
    let s := (({ s with thermTrip := true } : State).odSet odThermTripLatched 1).logEv 0x2005 unModule none noLunit []
    let s := (List.range 32).foldl (fun (s : State) p => s.stepLost p rsHeat) s
    s.allOff

/-- A bay is switched off for heat (R432): its sites return as those that heat has switched off (R431). -/
def State.bayHeat (s : State) (b : Nat) : State :=
  if (s.bay b).thermOff then s
  else
    let s := (s.modBay b fun x => { x with thermOff := true, cool := [] }).logEv 0x2004 (unBay b) none noLunit []
    let s := (s.loseBay b rsHeat).fenceBay b
    (baySites b).foldl (fun (s : State) k => s.modCl k fun x => { x with hotOff := true }) s

/-- The signed value of a register of `n` bits. -/
def signedOf (n x : Nat) : Int := if x < 2 ^ (n - 1) then x else (x : Int) - (2 ^ n : Nat)

/-- The temperature of a site as last read. -/
def State.siteTemp (s : State) (site : SiteId) : Int := signedOf 32 (s.od (odSite odClusterTempC site))

/-- Pause a cluster (R430): the pause of one in a change stop takes effect before CCLK restarts, with what has arrived for it
still to be taken in (R387); a raise is dropped. -/
def State.pauseSite (s : State) (site : SiteId) : State :=
  let ran := (s.cl site).point
  let s := match (s.cl site).change with
    | some (t, false) => (s.modCl site fun x => x.atPoint t).odAdd odOpChangeCount 1
    | some (_, true) => s.modCl site fun x => { x with change := none, kept := none }
    | none => s
  let s := (s.lastCycles site).modCl site fun x =>
    { x with power := .paused, port := if x.port = .opened then .hold else x.port, pauseAt := some s.clk.dt,
             pausePoint := ran, heatAt := 0, liftAt := 0, counted := false, slew := 0, cntStop := false }
  ((s.odAdd odThermPauseCount 1).portTurn site).railRefresh (site / 36)

/-- Resume a paused cluster one point slower; the slower point is a heat request (R430). -/
def State.resumeSite (s : State) (site : SiteId) (since : Nat) : State :=
  let s := (s.runTo site).modCl site fun x =>
    { x with power := .on, port := if x.port = .hold then .opened else x.port, point := min 5 (x.pausePoint + 1),
             heatReq := max x.heatReq (min 5 (x.pausePoint + 1)), pauseAt := none }
  ((s.logEv 0x2002 (unSite site) ((s.cl site).owner.map (·.1)) noLunit (words2 (s.clk.dt - since))).railRefresh
    (site / 36)).openPort site

/-- One heat step-down, which begins an episode when no heat request is in force (R429). -/
def State.heatDown (s : State) (site : SiteId) : State :=
  let x := s.cl site
  let s := if x.heatReq = 0 then
      (s.odAdd odThermStepdownCount 1).logEv 0x2001 (unSite site) (x.owner.map (·.1)) noLunit []
    else s
  (s.modCl site fun x =>
    { x with heatReq := min 5 (max x.heatReq x.point + 1), heatAt := s.clk.dt + 1, liftAt := 0,
             episode := true }).askPoint site

/-- A cluster acts on its highest reading (R429, R430). At or above 105 °C the pause alone is taken. -/
def State.heatSite (s : State) (site : SiteId) (c : Int) : State :=
  let s := s.modCl site fun x =>
    { x with coolAt := if c < 85 then some (x.coolAt.getD s.clk.dt) else none }
  let s := match (s.cl site).power, (s.cl site).pauseAt with
    | .paused, some t => if c ≤ 100 then s.resumeSite site t else s
    | _, _ => s
  let x := s.cl site
  if x.power ≠ .on then s
  else if 105 ≤ c then s.pauseSite site
  else if 100 ≤ c then
    (if x.heatAt = 0 || decide (x.heatAt - 1 + 1000000 ≤ s.clk.dt) then s.heatDown site else s)
  else
    s.modCl site fun x =>
      { x with heatAt := 0, liftAt := if 95 < c || x.heatReq = 0 then 0
                                      else if x.liftAt = 0 then s.clk.dt + 1 else x.liftAt }

/-- A reading of a sensor of a bay that heat has switched off, 0 to 35 by site and 36 for the aisle: the bay may power its
sites on again once every sensor reads below 85 °C (R432). -/
def State.bayCool (s : State) (b sensor : Nat) (c : Int) : State :=
  if !(s.bay b).thermOff then s
  else
    s.modBay b fun x =>
      let l := x.cool.filter fun k => k != sensor
      let l := if c < 85 then l ++ [sensor] else l
      { x with cool := l, thermOff := !(List.range 37).all l.contains }

/-- A reading in an aisle or a cluster site below the threshold of THERM_TRIP_N (R429, R431, R432). -/
def State.bayTemp (s : State) (b sensor : Nat) (c : Int) : State :=
  let s := s.bayCool b sensor c
  if 110 ≤ c then
    (if sensor < 36 then s.modCl (36 * b + sensor) fun x => { x with coolAt := none } else s).bayHeat b
  else if sensor < 36 then s.heatSite (36 * b + sensor) c else s

/-- THERMAL_SAMPLE: the highest reading of the sensors of a cluster site, of an aisle, of an update chiplet or of a link die;
the latter two take part in THERM_TRIP_N alone (R429 to R434). -/
def execThermalSample (kind : Sensor) (unit : Nat) (celsius : Int) (s : State) : Host.Outcome State Fault Refusal :=
  if !s.start.pwrgood then .next s
  else
    let hot (s t : State) : State := if 120 ≤ celsius then s.trip else t
    let die (k : Nat) : State :=
      { s with health := { s.health with dieTemp := mset zN s.health.dieTemp k (tempWord celsius) } }
    .next (
      match kind with
      | .cluster =>
        if 576 ≤ unit then s
        else
          let s := s.odSet (odSite odClusterTempC unit) (tempWord celsius)
          hot s (s.bayTemp (unit / 36) (unit % 36) celsius)
      | .aisle =>
        if 16 ≤ unit then s
        else
          let s := s.odSet (odAisleTempC + unit) (tempWord celsius)
          hot s (s.bayTemp unit 36 celsius)
      | .upc => if 8 ≤ unit then s else hot (die unit) (die unit)
      | .linkDie => if 4 ≤ unit then s else hot (die (8 + unit)) (die (8 + unit)))

/-- THERMAL_STEP_UP: 10 ms at or below 95 °C lift the heat request one point (R429). -/
def execThermalStepUp (site : SiteId) (s : State) : Host.Outcome State Fault Refusal :=
  let x := s.cl site
  if x.power ≠ .on || x.heatReq = 0 || x.liftAt = 0 || decide (s.clk.dt < x.liftAt - 1 + 10000000) ||
      decide (95 < s.siteTemp site) then .next s
  else
    .next ((s.modCl site fun x =>
      { x with heatReq := x.heatReq - 1, liftAt := s.clk.dt + 1, episode := decide (1 < x.heatReq) }).askPoint site)

/-- THERMAL_SWITCH_OFF: a pause of more than 50 ms (R431). -/
def execThermalSwitchOff (site : SiteId) (s : State) : Host.Outcome State Fault Refusal :=
  match (s.cl site).power, (s.cl site).pauseAt with
  | .paused, some t =>
    if s.clk.dt ≤ t + 50000000 then .next s
    else
      let s := (s.odAdd odThermOffCount 1).logEv 0x2003 (unSite site) ((s.cl site).owner.map (·.1)) noLunit []
      .next (((s.fenceOff site rsHeat).studExternal (unSite site)).modCl site fun x => { x with hotOff := true })
  | _, _ => .next s

/-- HBM_TEMPERATURE_READ: the stack temperature sets the refresh interval and the access rate, and trips the
module from 105 °C on (R230, R429, R433, R434). -/
def execHbmTemperatureRead (stack : Nat) (celsius : Int) (s : State) : Host.Outcome State Fault Refusal :=
  .next (
    if 16 ≤ stack || !s.start.pwrgood then s
    else
      let s := s.odSet (odAt odStackTemperature stack) (tempWord celsius)
      let s := if 85 ≤ celsius then s.odSet (odAt odRefreshDoubled stack) 1
        else if celsius < 80 then s.odSet (odAt odRefreshDoubled stack) 0 else s
      let was := mget zF s.health.halved stack
      let put (s : State) (v : Bool) : State :=
        { s with health := { s.health with halved := mset zF s.health.halved stack v } }
      let s := if 95 ≤ celsius then
          (if was then s else (put s true).logEv 0x2006 (unStack stack) none noLunit [])
        else if celsius < 90 then put s false else s
      if 105 ≤ celsius then s.trip else s)

/-! ### Minimum-voltage records (R435) -/

/-- The device-time entry beside a minimum-voltage entry, and whether the key is one. -/
def minVDtKey (k : Nat) : Option Nat :=
  let index := k / 256
  let sub := k % 256
  if 0x2010 ≤ index && decide (index < 0x2020) && sub == 6 then some (k + 1)
  else if 0x2100 ≤ index && decide (index < 0x2110) && decide (1 ≤ sub) && decide (sub ≤ 36) then some (k + 0x2000)
  else none

/-- The effect of a write of any value to a MIN_V entry (R435). -/
def State.minVWrite (s : State) (k kDt : Nat) : State × Nat := ((s.odSet k 0xFFFF).odSet kDt 0, odOk)

/-- MIN_V_RESET (R435). -/
def execMinVReset (route index sub : Nat) (s : State) : Host.Outcome State Fault Refusal :=
  match minVDtKey (odKey index sub) with
  | none => .next s
  | some kDt => .next (s.keyWrite route (odKey index sub) fun s => s.minVWrite (odKey index sub) kDt)

end Sys2Proof.Machine
end

