-- ==== Sys2Proof/Machine/Startup.lean ====
section
/-! DEFINITION. Start-up (R479 to R504): the election of a yardmaster, the sources that a start reads, its tests,
the logical positions, and the cold start, which runs all its phases in one step (log 33). -/

namespace Sys2Proof.Machine

open Sys2Proof

/-! ### The yardmaster (R484 to R488) -/

/-- The deputy: the highest-ranked groom in service below the yardmaster (R484). -/
def State.deputy (s : State) : Option Nat :=
  ((groomRank.dropWhile fun g => g != s.od odYardmaster).drop 1).find? s.groomServes

/-- A groom takes office as yardmaster, and its node leads the mesh (R380, R485, R487, R513). -/
def State.takeOffice (s : State) (g : Nat) : State :=
  let s := (s.odSet odYardmaster g).odSet odLeadNode g
  let s : State := { s with start := { s.start with acting := true, fewAcks := 0, beatAt := s.clk.dt } }
  (s.logEv 0x5009 (unGroom g) none noLunit [g, s.od odYardmasterTerm]).refUpdate

/-- The highest-ranked groom in service takes office, if it is not in office already (R485, R493); the lead role moves where
it is another groom (R380). -/
def State.reElect (s : State) : State :=
  match groomRank.find? s.groomServes with
  | none => s
  | some y =>
    if y ≠ s.od odYardmaster then (s.takeOffice y).logEv 0x3005 (unNode y) none noLunit []
    else if s.start.acting then s else s.takeOffice y

/-- Mark the grooms that have announced themselves as in service, the others as down (R485). -/
def State.announce (s : State) (l : List Nat) : State :=
  (List.range 20).foldl
    (fun (s : State) g => s.modGroom g fun x => { x with inService := l.contains g, down := !l.contains g }) s

/-! ### The fuse map (R42, R481 to R483) -/

/-- A register with the bits of a list of numbers set. -/
def bitMask (l : List Nat) : Nat := (l.eraseDups.map fun k => 2 ^ k).sum

/-- A map in ascending order; one of a WX3216-S enables at most 28 half-bays and 14 stacks (R42). -/
def FuseMap.limit (m : FuseMap) : FuseMap :=
  let hb := (List.range 32).filter m.halfBays.contains
  let st := (List.range 16).filter m.fstacks.contains
  if m.gradeS then { m with halfBays := hb.take 28, fstacks := st.take 14 } else { m with halfBays := hb, fstacks := st }

/-- The map in use, and the identity entries that report it (R42, R255, R293, R575). -/
def State.useMap (s : State) (m : FuseMap) : State :=
  let m := m.limit
  let s := ({ s with fuse := m } : State).odSet odGrade (if m.gradeS then 1 else 0)
  let s := (s.odSet odHalfBaysEnabled (bitMask m.halfBays)).odSet odStacksEnabled (bitMask m.fstacks)
  (s.odSet odHbmStacksEnabled (bitMask m.fstacks)).odSet odUpcEnabled (bitMask (m.fstacks.map (· / 2)))

/-- The mirror that a map makes, with its digest over the bytes of the map (R483). -/
def mirrorOf (m : FuseMap) (bytes : List Byte) : Mirror := ⟨m, Config.shake256 64 bytes⟩

/-- The choice of the fuse map: the map and its source, or none; a mirror that is missing or damaged gives none (R482,
R483). -/
def State.pickMap (s : State) (f : FuseFind) : Option (FuseMap × Nat) :=
  if f.aGood && f.bGood && f.equal then some (s.fused, 0)
  else if f.aGood && !f.bGood then some (s.fused, 1)
  else if !f.aGood && f.bGood then some (s.fused, 2)
  else if f.mirrorGood then s.mirror.map fun m => (m.map, 3)
  else none

/-- The mirror is taken at the first start at which a copy is good; it stands as long as a studbook copy that holds it is
valid (R483). -/
def State.takeMirror (s : State) (f : FuseFind) : State :=
  let good := (f.aGood || f.bGood) && (f.equal || !(f.aGood && f.bGood))
  if s.mirror.isNone && good then
    ({ s with mirror := some (mirrorOf s.fused (Config.fuseMapBytes 0)) } : State).studTouch else s

/-- The fuse map of a start, with its event; false says that there is none (R482). -/
def State.chooseMap (s : State) (f : FuseFind) : State × Bool :=
  match s.pickMap f with
  | none => (s, false)
  | some (m, src) =>
    let s := ((s.useMap m).odSet odFuseMapSource src).takeMirror f
    (if src = 3 then s.logEv 0x5004 unModule none noLunit []
     else if src = 0 then s else s.logEv 0x5003 unModule none noLunit [], true)

/-! ### The tack room (R479, R480, R500, R558) -/

/-- Whether an entry is STORED. -/
def storedKey (k : Nat) : Bool := ((odRow (k / 256) (k % 256)).map (·.pers)) == some 1

/-- The STORED entries and the owner entries come from the valid copy, A where both are: one command writes both,
so two valid copies are equal (R558, R574). Service time is the larger of its valid copies (R480); where none is valid it is a
free value (log 5). -/
def State.loadStored (s : State) (f : StartFind) : State :=
  let (m, o, src) := if f.storedAValid then (s.dict.tackA, s.dict.ownA, 0)
    else if f.storedBValid then (s.dict.tackB, s.dict.ownB, 1) else ([], [], 2)
  let val := m.foldl (fun v kv => mset odDefault v kv.1 kv.2) (s.dict.val.filter fun kv => !storedKey kv.1)
  let s : State := { s with dict := { s.dict with val := val, owner := o, lastId := s.dict.tackLastId && src != 2 } }
  let (s, t) := if f.stAValid && f.stBValid then (s, max s.start.stA s.start.stB)
    else if f.stAValid then (s, s.start.stA) else if f.stBValid then (s, s.start.stB)
    else (s.useFree, s.freeW.toNat % 2 ^ 32)
  let s : State := { s with st := t
                            clk := { s.clk with spread := s.od odBeatSpread, spreadNext := s.od odBeatSpread } }
  ((s.odSet odStoredSource src).odSet odServiceTimeS t).refUpdate

/-- The valid copy of the studbook with the higher sequence number (R500). -/
def State.studCopy (s : State) (f : StartFind) : Option StudCopy :=
  if f.studBValid && (!f.studAValid || decide (s.start.studA.seq < s.start.studB.seq)) then some s.start.studB
  else if f.studAValid then some s.start.studA else none

/-- The studbook is the valid copy with the higher sequence number, which the other is rewritten from; where both are damaged
it starts empty (R500). -/
def State.loadStud (s : State) (f : StartFind) : State :=
  let c := (s.studCopy f).getD StudCopy.zero
  let s' : State :=
    { s with stud := c.recs, mirror := c.mirror, mesh := { s.mesh with wires := c.wires },
             start := { s.start with studSeq := c.seq, studA := c, studB := c, studPend := false } }
  let s' := s'.odSet odStudbookCount c.recs.length
  if (s.studCopy f).isNone then s'.logEv 0x5008 unModule none noLunit [] else s'

/-! ### Start tests (R370, R372, R413, R490, R496, R502, R503) -/

/-- Whether a name is that of a unit of the module (R494). -/
def unitOk (un : UnitId) : Bool :=
  if un.ut = 1 then decide (un.a < 16) && decide (un.b < 36) && decide (un.c < 17)
  else if un.ut = 2 || un.ut = 3 then decide (un.a < 16) && decide (un.b < 36)
  else if un.ut = 4 then allCrossings.contains (un.a, un.b, un.c)
  else if un.ut = 5 then decide (un.a < 16) && decide (un.b < 36) && decide (un.c < 24)
  else if un.ut = 6 then decide (un.a < 16) && decide (un.b < 32)
  else if un.ut = 7 then decide (un.a < 16)
  else if un.ut = 8 then decide (un.a < 8)
  else (un.ut == 10 || un.ut == 11) && decide (un.a < 20)

/-- A unit fails a start test: TRANSIENT if it passes both retests, else HARD; one that has been TRANSIENT
before is HARD at once (R495 to R497). A unit that is FUSED or HARD is not tested again, but for DEGRADED_BOOT, which
tests `all` units and records the failure; its class stays (R483, R495, R503). `test` is the code of the failing test
(R494). -/
def State.startFail (s : State) (all : Bool) (un : UnitId) (source : Nat) (retestsPass : Bool) (test : Nat) : State :=
  let r := (s.studOf un).getD (newStud un s.st)
  let r' := { r with source := source, fails := min 255 (r.fails + 1), clean := 0, stLast := s.st, stClean1 := 0,
                     detail := test,
                     stFirst := if r.fails = 0 then s.st else r.stFirst }
  if s.unitHard un then (if all then s.studPut r' else s)
  else
    let again := r.cls == clsTransient || r.wasTransient
    s.studPut { r' with cls := if retestsPass && !again then clsTransient else clsHard }

/-- Every unit that the map in use marks bad stands in the studbook as FUSED; one that is HARD keeps its class
(R494 to R496). -/
def State.studFused (s : State) : State :=
  s.fuse.bad.foldl
    (fun (s : State) un =>
      let r := (s.studOf un).getD (newStud un s.st)
      if r.cls = clsFused || r.cls = clsHard then s else s.studPut { r with cls := clsFused, source := 0, stLast := s.st }) s

/-- The failures of one kind of unit: of its start test, or of its known-answer run. -/
def failsOf (f : StartFind) (ut : Nat) (known : Bool) : List TestFail :=
  f.fails.filter fun t => t.un.ut == ut && t.known == known && unitOk t.un
/-- What a start test of a unit finds, if it fails it. -/
def failOf (f : StartFind) (un : UnitId) : Option TestFail := f.fails.find? fun t => t.un == un && !t.known

/-- The start tests of a kind of unit: those of them that can be tested and fail (R490, R496). -/
def State.testKind (s : State) (f : StartFind) (all : Bool) (ut : Nat) (can : UnitId → Bool) : State :=
  ((failsOf f ut false).filter fun t => can t.un).foldl
    (fun (s : State) t => s.startFail all t.un 1 t.retestsPass t.test) s
/-- The units of a kind that no known-answer run tests: one that is SUSPECT or EXTERNAL and passes its start test is
RETURNED (R496). -/
def State.returnKind (s : State) (ut source : Nat) (can : UnitId → Bool) : State :=
  (s.stud.filter fun r => r.un.ut == ut && (r.cls == clsSuspect || r.cls == clsExternal) && can r.un).foldl
    (fun (s : State) r => s.studReturn r.un source) s

/-- The grooms: a groom that fails its self-test, or that the studbook holds out of service, does not serve; where it was
in office, the next one takes office (R485, R489, R490, R495). -/
def State.testGrooms (s : State) (f : StartFind) (all : Bool) : State :=
  let s := (s.testKind f all 10 fun _ => true).returnKind 10 1 fun un => s.groomServes un.a
  ((List.range 20).foldl
    (fun (s : State) g => if s.unitOut (unGroom g) then
      s.modGroom g fun x => { x with hard := s.unitHard (unGroom g), inService := false, down := true } else s) s).reElect

/-- The BEAT nodes start: one that fails does not join the mesh (R383, R490, R495). -/
def State.testNodes (s : State) (f : StartFind) (all : Bool) : State :=
  let fed (un : UnitId) : Bool := s.groomFed un.a
  let s := (s.testKind f all 11 fed).returnKind 11 1 fed
  (List.range 20).foldl (fun (s : State) n => if s.unitOut (unNode n) then s.nodeLost n else s) s

/-- Router tests: a router that fails makes its site bad; one found faulty in service that passes serves again
(R372, R496). -/
def State.testRouters (s : State) (f : StartFind) (all : Bool) : State :=
  let runs (un : UnitId) : Bool := !(s.bay un.a).aisleDown
  let s := (s.testKind f all 3 runs).returnKind 3 1 runs
  (List.range 576).foldl
    (fun (s : State) x =>
      let out := s.unitOut (unRouter x)
      let s := s.odPutBit (odAt odRoutersFaulty (x / 36)) (x % 36) out
      if out then s.modCl x fun c => { c with routerFaulty := true } else s) s

/-- The wire test of a crossing sets its spares; one that they do not repair, or that fails, is fenced, and a SUSPECT one
that passes rejoins (R348, R349, R370, R496). -/
def State.testCrossing (s : State) (f : StartFind) (all : Bool) (x : Nat × Nat × Nat) : State :=
  let un := unCrossing x.1 x.2.1 x.2.2
  let o := (baySide x.1 x.2.1).getD x.1
  let s := if (s.unitHard un && !all) || (s.bay x.1).aisleDown || (s.bay o).aisleDown then s
    else
      let s := s.setWires x f.badWires
      if !wiresOk s.mesh.wires x || (failOf f un).isSome then
        (s.logEv 0x5020 un none noLunit [x.1, o, x.2.2]).startFail all un 6 ((failOf f un).any (·.retestsPass))
          (((failOf f un).map (·.test)).getD 0)
      else if (s.studOf un).any fun r => r.cls == clsSuspect || r.cls == clsExternal then s.studReturn un 6
      else s
  if s.unitOut un then s.fenceCross x.1 x.2.1 x.2.2 true else s

/-- The wire tests of the crossings (R348, R490). -/
def State.testCrossings (s : State) (f : StartFind) (all : Bool) : State :=
  allCrossings.foldl (fun (s : State) x => s.testCrossing f all x) s

/-- The state of each UPC: DISABLED, DRAINED while the studbook holds it out of service or it has been drained since power-on,
or IN_SERVICE (R293, R295, R495). -/
def State.upcService (s : State) : State :=
  ((List.range 8).foldl
    (fun (s : State) u =>
      s.odSet (odAt odUpcState u) (if !s.odBit odUpcEnabled u then 2
        else if s.unitOut (unUpc u) || s.od (odAt odUpcState u) == 1 then 1 else 0)) s).upcRefresh

/-- Failures of UPCs, each drained for FAULT with its event (R293). -/
def State.failUpcs (s : State) (all : Bool) (source : Nat) (l : List TestFail) : State :=
  (l.filter fun t => s.odBit odUpcEnabled t.un.a && s.upcFed t.un.a).foldl
    (fun (s : State) t =>
      let out := s.unitOut t.un
      let s := s.startFail all t.un source t.retestsPass t.test
      if out then s else s.drainUpc t.un.a 1) s

/-- UPC self-tests (R293, R490, R496). -/
def State.testUpcs (s : State) (f : StartFind) (all : Bool) : State :=
  s.upcService.failUpcs all 1 (failsOf f 8 false)

/-- The tables of the routers are computed over the graph as it stands (R356, R490). -/
def State.setGraph (s : State) : State :=
  let t := s.tablesNow
  { s with mesh := { s.mesh with active := t, shadow := t } }

/-- The configured master gives itself device ID 0 (R468); one that returns to a fabric joins as a member (R472). -/
def State.masterId (s : State) (f : StartFind) : State :=
  if s.od odFabricRole ≠ 2 || f.fabric.isSome then s
  else
    let s : State := { s with fabric := { s.fabric with inFabric := true, isMaster := true, mseqDt := s.clk.dt,
                                                        ids := [(Config.serial, 0)], tver := 1 } }
    ((s.odSet odDeviceId 0).odSet odDeviceIdValid 1).odSet odTimeDepth 0

/-- A module that joins a fabric sets its DT master once to fabric time, before READY (R404, R406). -/
def State.joinTime (s : State) (f : StartFind) : State :=
  match f.fabric with
  | none => s
  | some o =>
    (({ s with clk := { s.clk with fabricErr := o } } : State).toFabricTime).logEv 0x3007 (unNode (s.od odLeadNode)) none noLunit
      [wrapI 32 (-o / 2 ^ 16)]

/-- The pseudo-channels in service: of the enabled stacks, those that are not fenced (R255). -/
def State.pcService (s : State) : State :=
  (List.range 16).foldl
    (fun (s : State) k => s.odSet (odAt odPcInService k)
      (if !s.fuse.fstacks.contains k then 0 else 2 ^ 32 - 1 - s.od (odAt odPcFenced k) % 2 ^ 32)) s

/-- The stack tests: a stack without power is lost, and so is one that fails as a whole; one that returns is a stack whose
pseudo-channels wait for their scrub test (R233, R234, R490, R495, R496). -/
def State.testStacks (s : State) (f : StartFind) (all : Bool) : State :=
  let fed (un : UnitId) : Bool := !(s.bay (stackBay un.a)).aisleDown && !s.start.supplies.contains (supStack, un.a / 2)
  let s := (s.testKind f all 7 fun un => s.fuse.fstacks.contains un.a && fed un).returnKind 7 1 fed
  (s.fuse.fstacks).foldl
    (fun (s : State) k =>
      let s := if fed (unStack k) then s else s.studExternal (unStack k)
      let s := if ((failOf f (unStack k)).isSome && fed (unStack k)) then s.logEv 0x400B (unStack k) none noLunit [] else s
      if s.unitOut (unStack k) then (s.odPutBit odHbmStacksLost k true).odSet (odAt odPcFenced k) (2 ^ 32 - 1) else s) s

/-- Pseudo-channel tests: one that fails is fenced; one that is fenced, or out of service by its class, stays so until a
scrub test passes (R232, R233, R483, R495, R496). DEGRADED_BOOT tests those too, but for those of a stack that is lost
(R503). -/
def State.testPcs (s : State) (f : StartFind) (all : Bool) : State :=
  let can (un : UnitId) : Bool := s.fuse.fstacks.contains un.a &&
    (if all then !s.odBit odHbmStacksLost un.a else !s.pcOut (32 * un.a + un.b))
  let s := ((failsOf f 6 false).filter fun t => can t.un).foldl
    (fun (s : State) t => (s.logEv 0x4009 t.un none noLunit []).startFail all t.un 1 t.retestsPass t.test) s
  let out := (s.stud.filter fun r => r.un.ut == 6 && unitOk r.un && s.unitOut r.un).map (·.un) ++
    s.fuse.bad.filter fun un => un.ut == 6 && unitOk un
  (out.foldl (fun (s : State) un => s.odPutBit (odAt odPcFenced un.a) un.b true) s).pcService

/-- Slice self-tests: a failed slice is out for good, and six of them make the cluster bad (R413, R414). -/
def State.testSlices (s : State) (f : StartFind) (all : Bool) : State :=
  (failsOf f 5 false).foldl
    (fun (s : State) t =>
      let x := 36 * t.un.a + t.un.b
      let k := odSite odLdoSlicesFailed x
      if !s.bayUp t.un.a || s.odBit k t.un.c then s
      else
        let s := (s.odPutBit k t.un.c true).startFail all t.un 1 t.retestsPass t.test
        let s := s.logEv 0x1003 t.un none noLunit [t.un.b, t.un.c, s.slicesOut x]
        if 6 ≤ s.slicesOut x then s.startFail all (unSite x) 1 false t.test else s) s

/-- The tests of core sites and sites: those that could be powered on (R496). -/
def State.testSites (s : State) (f : StartFind) (all : Bool) : State :=
  (s.testKind f all 1 fun un => s.bayUp un.a).testKind f all 2 fun un => s.bayUp un.a

/-! ### Logical positions (R30, R39, R40, R46) -/

/-- A good cluster site (R30, R372, R414, R495). -/
def State.siteGood (s : State) (site : SiteId) : Bool :=
  s.bayUp (site / 36) && !s.unitOut (unSite site) && !s.unitOut (unRouter site) && !(s.cl site).routerFaulty &&
    decide (16 ≤ (s.coreMapOf site).length) && decide (s.slicesOut site < 6)

/-- The positions that a bay with `n` good sites assigns, in order (R39, R40). -/
def FuseMap.places (m : FuseMap) (b n : Nat) : List Nat :=
  match m.halfBays.contains (2 * b), m.halfBays.contains (2 * b + 1) with
  | true, true => if n < 32 then List.range 16 else List.range 32
  | true, false => List.range 16
  | false, true => (List.range 16).map (16 + ·)
  | false, false => []

/-- Assign the logical positions of a bay: good sites in ascending order, the rest of them spares (R39). -/
def State.placeBay (s : State) (b : Nat) : State :=
  let good := (baySites b).filter s.siteGood
  let s := s.modBay b fun x => { x with unmapped := [] }
  let at_ := s.fuse.places b good.length
  let s := ((baySites b).filter fun x => !good.contains x).foldl
    (fun (s : State) x => (s.setLogical x 0xFF).modCl x fun c =>
      { c with fenced := s.unitOut (unSite x) || s.unitOut (unRouter x) }) s
  good.zipIdx.foldl
    (fun (s : State) xi => (s.setLogical xi.1 (at_.getD xi.2 0xFE)).modCl xi.1 fun c => { c with fenced := false }) s

/-- The logical positions of the module, and the half-bays that it offers (R39, R40). -/
def State.place (s : State) : State :=
  (((List.range 16).foldl (fun (s : State) b => s.placeBay b) s).countOffered).checkFloors

/-- The known-answer runs of a start, after the logical positions: the digest of each is held against the answer of the image,
and a mismatch is a failed start test of the core site or of the UPC. A cluster that is left with fewer than 16 good core
sites is fenced; it keeps its position as R44 says (R490, R496, R502). -/
def State.testAnswers (s : State) (f : StartFind) : State :=
  let bad (ut : Nat) : List TestFail := (failsOf f ut true).filter fun t => t.answer != s.firm.running.answer
  let s := ((bad 1).filter fun t => s.bayUp t.un.a).foldl
    (fun (s : State) t => s.startFail false t.un 2 t.retestsPass t.test) s
  let s := s.failUpcs false 2 (bad 8)
  ((bad 1).map fun t => 36 * t.un.a + t.un.b).eraseDups.foldl
    (fun (s : State) x => if s.siteLogical x = 0xFF || s.siteGood x || (s.cl x).fenced then s else s.fenceSite x) s

/-- SUSPECT and EXTERNAL units that have passed the tests and the known-answer run of a start are RETURNED; a
cluster site among them rejoins as a spare (R46, R496). -/
def State.returnUnits (s : State) : State :=
  let back := s.stud.filter fun r =>
    (r.cls == clsSuspect || r.cls == clsExternal) &&
      (((r.un.ut == 1 || r.un.ut == 2) && s.bayUp r.un.a) || (r.un.ut == 8 && s.upcFed r.un.a))
  let s := back.foldl (fun (s : State) r => s.studReturn r.un 2) s
  let s := (back.filter fun r => r.un.ut == 2).foldl
    (fun (s : State) r =>
      let x := 36 * r.un.a + r.un.b
      if s.siteGood x && s.siteLogical x = 0xFF then
        (s.setLogical x 0xFE).modCl x fun c => { c with fenced := false } else s) s
  let s := (back.filter fun r => r.un.ut == 8).foldl
    (fun (s : State) r => if s.od (odAt odUpcState r.un.a) ≠ 1 then s
      else (s.odSet (odAt odUpcState r.un.a) 0).logEv 0x6002 r.un none noLunit []) s
  (s.upcRefresh).checkFloors

/-- A known-answer run is a visit of each usable site (R530). -/
def State.visitAll (s : State) : State :=
  (List.range 576).foldl
    (fun (s : State) x => if s.siteLogical x = 0xFF then s else s.odSet (odSite odLastVisitSt x) (s.st % 2 ^ 32)) s

/-- READY, with what falls below the grade (R490, R504). -/
def State.goReady (s : State) (warm : Bool) : State :=
  let s := (s.odSet odLastStartWarm (if warm then 1 else 0)).odSet odStartState 0x0A
  if decide (s.offeredList.length < s.gradeHalfBays) || decide (s.stacksUsable.length < s.gradeStacks) then
    s.logEv 0x5007 unModule none noLunit []
  else s

/-! ### The cold start (R490, R491) -/

/-- What stands when a cold start begins: the tack room, the fuses, the straps, the supplies and references, and
what has been sent; device time is 0 (R394, R500, R558, R581). After RESET_N the aisles and the heat are as they
were. -/
def State.coldState (s : State) (keepBays : Bool) : State :=
  let r := State.reset
  let bays := if keepBays then s.bays.foldl (fun m kv =>
      mset zBay m kv.1 { Bay.zero with aisleDown := kv.2.aisleDown, thermOff := kv.2.thermOff }) [] else []
  let s' : State :=
    { r with
      pending := s.pending
      fresh := s.fresh
      clk := { r.clk with goodA := s.clk.goodA, goodB := s.clk.goodB }
      start := { s.start with coldStarted := true, stopped := false, beatAt := 0, acting := false, fewAcks := 0,
                              studPend := false, studSeq := 0, find := none, warm := none, resetPend := none }
      grooms := s.grooms.foldl (fun m kv => mset zGroom m kv.1 { Groom.zero with fails := kv.2.fails }) []
      dict := { r.dict with
        val := s.dict.val.filter fun kv => ((odRow (kv.1 / 256) (kv.1 % 256)).map (·.pers)) == some 2
        tackA := s.dict.tackA, tackB := s.dict.tackB, tackLastId := s.dict.tackLastId, ownA := s.dict.ownA, ownB := s.dict.ownB }
      bays := bays
      health := { r.health with spares := s.health.spares }
      hostTx := s.hostTx
      hostDone := s.hostTx.length
      linkTx := s.linkTx
      linkRx := s.linkRx
      sideTx := s.sideTx
      fused := s.fused
      coreSteer := s.coreSteer
      firm := { r.firm with running := s.firm.tack, tack := s.firm.tack, tackVerified := s.firm.tackVerified,
                            tackSlot := s.firm.tackSlot,
                            base := s.firm.base, pkg := s.firm.base }
      sec := { r.sec with ownerKeys := s.sec.ownerKeys, revoked := s.sec.revoked, pwDigest := s.sec.pwDigest,
                          atkIssued := s.sec.atkIssued }
      thermTrip := s.thermTrip }
  let s' := if s'.thermTrip then s'.odSet odThermTripLatched 1 else s'
  let s' := (List.range 16).foldl
    (fun (s : State) b => if (s.bay b).aisleDown then
      ((s.odPutBit odAislesDown b true).odPutBit odAisleFeedOpen b true).odPutBit odBeatNodesDown b true else s) s'
  (List.range 4).foldl
    (fun (s : State) k => if s.groomFed (16 + k) then s else s.odPutBit odBeatNodesDown (16 + k) true) s'

/-- Every start test before the known-answer runs (phases 0x01 and 0x05 to 0x07): the log and the system region exist
once the HBM is trained (R490, R491). -/
def State.startTests (s : State) (f : StartFind) (all : Bool) : State :=
  let s := (s.testGrooms f all).testNodes f all
  let s := (((s.testRouters f all).reElect).testCrossings f all).setGraph
  let s := (((s.testUpcs f all).masterId f).joinTime f)
  let s := (s.testStacks f all).testPcs f all
  let s : State := { s with log := { s.log with exists_ := true } }
  let s := (List.range 16).foldl
    (fun (s : State) b => if s.bayUp b then s.modBay b fun x => { x with conv := true } else s) s
  (s.testSlices f all).testSites f all

/-- The phases from the logical positions to READY (R490). -/
def State.toReady (s : State) (f : StartFind) : State := ((((s.place).testAnswers f).returnUnits).visitAll).goReady false

/-- The phases after FIRMWARE with a map in use, to READY. -/
def State.startUp (s : State) (f : StartFind) : State := (s.studFused.startTests f false).toReady f

/-- The map under which a module without a fuse map tests every unit (R503): none is marked bad, and the steering of the
core sites is what their own fuses say. -/
def State.bareMap (s : State) : FuseMap := { FuseMap.full with steer := s.coreSteer }

/-- DEGRADED_BOOT: without a map every unit is tested, and the module waits for DEGRADED_ACK (R503). -/
def State.degradedBoot (s : State) (f : StartFind) : State :=
  let s := s.logEv 0x5005 unModule none noLunit []
  ((s.useMap s.bareMap).startTests f true).odSet odStartState 0x0B

/-- Whether the image in the tack room can be verified under the floor and the keys as they stand (R506, R544): what the bytes
say is a finding. -/
def State.tackOk (s : State) : Bool :=
  s.firm.tackVerified && decide (s.od odFwVersionFloor ≤ s.firm.tack.secVer.toNat) && !mget zF s.sec.revoked s.firm.tackSlot

/-- The phases from the election on (R485, R490): `announced` are the grooms that have announced themselves. -/
def State.elect (s : State) (f : StartFind) (announced : List Nat) : State :=
  let l := groomRank.filter fun g => announced.contains g && s.groomFed g
  let s : State := { (s.announce l) with start := { s.start with find := some f } }
  match l.head?, decide (11 ≤ l.length) with
  | some y, true =>
    let s := s.takeOffice y
    let s := (s.loadStored f).loadStud f
    let (s, hasMap) := s.chooseMap f.fuse
    if !f.imageVerified || !s.tackOk then
      (s.logEv 0x8012 unModule none noLunit []).odSet odStartState 0x0C
    else
      let s := s.odSet odFwVersion s.firm.running.ver.toNat
      if hasMap then s.startUp f else s.degradedBoot f
  | _, _ => s.odSet odStartState 0x0D

/-- A cold start (R490); by the end of the boot ROM a reference may have been good for 10 ms (R376). -/
def State.coldStart (s : State) (f : StartFind) (keepBays : Bool) : State :=
  let s := s.coldState keepBays
  let s : State := { s with clk := { s.clk with goodA := s.clk.goodA || f.refA, goodB := s.clk.goodB || f.refB } }
  (s.refUpdate).elect f f.romGrooms

/-- POWER_GOOD_RISE: the straps are sampled at the edge, and a cold start begins when RESET_N is high (R581,
R590); power has been removed before, so nothing is latched. -/
def execPowerGoodRise (straps : BitVec 5) (find : StartFind) (s : State) : Host.Outcome State Fault Refusal :=
  if s.start.pwrgood then .next s
  else
    let s : State := { s with thermTrip := false
                              start := { s.start with pwrgood := true, addrStrap := straps.extractLsb' 0 3,
                                                      slewStrap := straps.extractLsb' 3 2, supplies := [] } }
    .next (if s.start.resetN then s.coldStart find false else s)

/-- HEARTBEAT: the yardmaster counts the heartbeats that fewer than ten grooms acknowledge (R486, R487). -/
def execHeartbeat (acks : Nat) (s : State) : Host.Outcome State Fault Refusal :=
  if !s.up || !s.start.acting || !s.groomServes (s.od odYardmaster) then .next s
  else
    .next { s with start := { s.start with beatAt := s.clk.dt
                                           fewAcks := if acks < 10 then s.start.fewAcks + 1 else 0 } }

/-- The requests of a bay's clusters are taken anew. -/
def State.askBay (s : State) (b : Nat) : State :=
  ((s.onSites b).map (·.1)).foldl (fun (s : State) k => s.askPoint k) s

/-- YARDMASTER_TAKEOVER: ten heartbeats missed, which ten other grooms confirm (R380, R487). -/
def execYardmasterTakeover (confirmed : Nat) (s : State) : Host.Outcome State Fault Refusal :=
  match s.deputy with
  | none => .next s
  | some d =>
    if !s.up || confirmed < 10 || s.clk.dt < s.start.beatAt + 10000000 then .next s
    else
      let old := s.od odYardmaster
      let s := (s.modGroom old fun g => { g with inService := false, down := true }).refUpdate
      let s := if old < 16 then s.askBay old else s
      let s := (s.odSet odYardmasterTerm ((s.od odYardmasterTerm + 1) % 2 ^ 32)).takeOffice d
      .next (s.logEv 0x3005 (unNode d) none noLunit [])

/-- YARDMASTER_ABDICATE: fewer than ten acknowledgements for 10 ms; the mesh runs in holdover without an event
until a new yardmaster takes office (R380, R487). -/
def execYardmasterAbdicate (s : State) : Host.Outcome State Fault Refusal :=
  if !s.start.acting || s.start.fewAcks < 10 then .next s
  else
    .next ({ s with start := { s.start with acting := false } } : State).refUpdate

/-- GROOM_RESTART: a groom that has stopped responding is restarted; two failed restarts within 24 h make it
HARD, and its bay's clusters are switched off and fenced (R489). Nothing restarts one without a path to the mesh, nor one
that is away for the switch of a live update (R346, R509). -/
def execGroomRestart (groom : Nat) (ok : Bool) (s : State) : Host.Outcome State Fault Refusal :=
  if !s.up || 20 ≤ groom || (s.start.acting && groom == s.od odYardmaster) || (s.groom groom).hard ||
      !s.groomFed groom || s.groomCut groom || s.firm.away == some groom then .next s
  else if ok then
    let s := s.modGroom groom fun g => { g with inService := true, down := false }
    let s := s.logEv 0x500A (unGroom groom) none noLunit []
    .next (if groom < 16 then (s.askBay groom).railRefresh groom else s)
  else
    let fails := ((s.groom groom).fails.filter fun t => decide (s.st < t + 86400)) ++ [s.st]
    let s := s.modGroom groom fun g => { g with inService := false, down := true, fails := fails }
    if fails.length < 2 then .next (if groom < 16 then s.askBay groom else s)
    else
      let s := (s.modGroom groom fun g => { g with hard := true }).studHard (unGroom groom) 4 0
      .next (if groom < 16 then (s.loseBay groom rsFenced).fenceBay groom else s)

/-! ### Warm reset (R493, R511) -/

/-- What a warm reset does to a live update (R511): every groom restarts, the one that was away for its switch too. -/
def State.warmFirm (s : State) : State :=
  let st := s.od odFwUpdateStatus
  let s := match s.firm.away with
    | some g => if s.groomFed g then s.modGroom g fun x => { x with inService := true, down := false } else s
    | none => s
  let s : State := { s with firm := { s.firm with staged := none, newUnits := [], away := none, runs := [] } }
  if st = 5 then
    let s : State := { s with firm := { s.firm with running := s.firm.tack } }
    ((s.odSet odFwVersion s.firm.running.ver.toNat).odSet odFwUpdateStatus 6).logEv 0x8011 unModule none noLunit []
  else if st = 6 then s else s.odSet odFwUpdateStatus 0

/-- The clusters in the state of R205 and R213, switched off; partitions, jobs, rings, windows and remote
references are gone, and the route table and the values of the routes are at their defaults (R15, R458, R493, R548,
R564). -/
def State.warmState (s : State) : State :=
  let s := s.allOff
  let s : State :=
    { s with
      cores := [], cmem := [], cmemPoison := [], cmemOvf := []
      clusters := s.clusters.foldl (fun m kv =>
        mset zCl m kv.1 { kv.2.off with owner := none }) []
      bays := s.bays.foldl (fun m kv =>
        mset zBay m kv.1 { kv.2 with seq := none, want := [], assist := [] }) []
      parts := [], rings := [], cmds := [], hints := [], windows := [], copies := [], adds := [], signals := []
      mails := [], posts := [], hostWait := [], hpCnt := [], trackers := [], untracked := [], keptWin := []
      outReqs := [], upd := [], stuck := []
      mesh := { s.mesh with reqs := [], kept := [], waits := [], queues := [], ports := [], hop := none }
      mgmt := [], upcSram := [], hrd := { s.hrd with reqs := [] }, routes := []
      health := { s.health with stale := [] }
      log := { s.log with plogs := [] }
      sec := { s.sec with proofScope := 0 }
      dict := { s.dict with sel := [], authArg := [], authProof := [] } }
  let s := (List.range 32).foldl
    (fun (s : State) p => (s.odSet (odAt odPartClusters p) 0).odSet (odAt odPartHbmSize p) 0) s
  let s := (List.range 16).foldl (fun (s : State) k => s.odSet (odAt odUpdateTableUsed k) 0) s
  (s.odSet odPartitionsComposed 0).odSet odWindowsOpen 0

/-- A warm reset from the election on: the fuse-map choice is redone, the image is verified again from its system-region copy,
and positions and core maps are assigned again from the studbook (R493). Without a map the module enters DEGRADED_BOOT (R482),
and without a verified image RECOVERY, as a cold start does (R512; log 99). -/
def State.warmStart (s : State) (fuse : FuseFind) (imageGood : Bool) : State :=
  let (s, hasMap) := s.chooseMap fuse
  let s := s.upcService
  if !imageGood || !s.tackOk then (s.logEv 0x8012 unModule none noLunit []).odSet odStartState 0x0C
  else if hasMap then ((s.studFused).place).goReady true
  else
    let s : State := { s with start := { s.start with find := s.start.find.map fun f => { f with fails := [] } } }
    ((s.logEv 0x5005 unModule none noLunit []).useMap s.bareMap).odSet odStartState 0x0B

/-- The election of a warm reset, over the grooms that announce themselves (R485, R493): with fewer than 11 the module stays in
NO_QUORUM. -/
def State.warmElect (s : State) (l : List Nat) (fuse : FuseFind) (imageGood : Bool) : State :=
  if l.length < 11 then
    ({ s with start := { s.start with acting := false, warm := some (fuse, imageGood) } } : State).odSet odStartState 0x0D
  else (({ s with start := { s.start with warm := none } } : State).reElect).warmStart fuse imageGood

/-- A warm reset: its state, what becomes of a live update, and the election among the grooms in service (R493, R511). -/
def State.warmReset (s : State) (fuse : FuseFind) (imageGood : Bool) : State :=
  let s := (s.warmState).warmFirm
  s.warmElect (groomRank.filter s.groomServes) fuse imageGood

/-- ELECTION_RETRY: in NO_QUORUM the election of the start, or of the warm reset, is repeated (R485, R493). -/
def execElectionRetry (announced : List Nat) (s : State) : Host.Outcome State Fault Refusal :=
  if !s.up || s.od odStartState ≠ 0x0D then .next s
  else match s.start.warm, s.start.find with
    | some w, _ =>
      let l := groomRank.filter fun g => announced.contains g && s.groomFed g && !(s.groom g).hard && !s.groomCut g
      .next ((s.announce l).warmElect l w.1 w.2)
    | none, some f => .next (s.elect f announced)
    | none, none => .next s

/-- The effect of a write to MODULE_RESET (R492, R493): only 0x01, and only in READY; elsewhere it is ignored. While an image is
written into the tack room it takes effect when that has ended (R511). -/
def State.resetWrite (s : State) (v : Nat) (fuse : FuseFind) (imageGood : Bool) : State × Nat :=
  if v ≠ 1 || !s.ready then (s, odRange)
  else if s.od odFwUpdateStatus = 4 then ({ s with start := { s.start with resetPend := some (fuse, imageGood) } }, odOk)
  else (s.warmReset fuse imageGood, odOk)

/-- What the checks of a warm reset find that a write of MODULE_RESET by OD_WRITE starts: a free value (log 5). -/
def State.freeFuse (s : State) : FuseFind :=
  ⟨s.freeW.getLsbD 0, s.freeW.getLsbD 1, s.freeW.getLsbD 2, s.freeW.getLsbD 3⟩

/-- The effect of a write to MODULE_RESET by OD_WRITE, which brings no findings of its own. -/
def State.freeReset (s : State) (v : Nat) : State × Nat :=
  if v = 1 && s.ready then s.useFree.resetWrite v s.freeFuse (s.freeW.getLsbD 4) else (s, odRange)

/-- MODULE_RESET: `fuse` and `imageGood` are what the checks of the fuse map and of the image find (R482, R493). -/
def execModuleReset (route : Nat) (w : ResetIn) (s : State) : Host.Outcome State Fault Refusal :=
  .next (s.keyWrite route odModuleReset fun s => s.resetWrite w.v.toNat w.fuse w.imageGood)

/-! ### Tack-room writes (R480, R500, R558) -/

/-- The yardmaster writes service time to both copies. -/
def State.storeSt (s : State) : State := { s with start := { s.start with stA := s.st, stB := s.st } }

/-- SERVICE_TIME_WRITE (R480). -/
def execServiceTimeWrite (s : State) : Host.Outcome State Fault Refusal :=
  .next (if s.up && s.start.coldStarted && s.start.acting then s.storeSt else s)

/-- STUDBOOK_COPY_WRITE: the working copy is written to copy A and then to copy B, with service time (R480,
R500). -/
def execStudbookCopyWrite (s : State) : Host.Outcome State Fault Refusal :=
  if !s.up || !s.start.acting || !s.start.studPend then .next s
  else
    let c : StudCopy := ⟨s.start.studSeq, s.stud, s.mesh.wires, s.mirror⟩
    .next ({ s with start := { s.start with studPend := false, studA := c, studB := c } } : State).storeSt

/-- STORED_ENTRY_COPY_WRITE: an entry whose value differs from its copies, an owner entry among them, is written
to copies A and B (R558, R574). -/
def execStoredEntryCopyWrite (index sub : Nat) (s : State) : Host.Outcome State Fault Refusal :=
  let k := odKey index sub
  let d := s.dict
  if !s.up || !s.start.acting then .next s
  else if 0xC000 ≤ index then
    let b := mget (fun _ => []) d.owner k
    .next { s with dict := { d with ownA := mset (fun _ => []) d.ownA k b, ownB := mset (fun _ => []) d.ownB k b } }
  else if storedKey k then
    let v := s.od k
    .next { s with dict := { d with tackA := mset odDefault d.tackA k v, tackB := mset odDefault d.tackB k v
                                    tackLastId := if k = odLastId then d.lastId else d.tackLastId } }
  else .next s

/-! ### DEGRADED_ACK (R503) -/

/-- The half-bays that the tests allow to be offered, in ascending order of bay and half (R40, R503). -/
def State.allowedHalves (s : State) : List Nat :=
  (List.range 16).flatMap fun b =>
    let n := ((baySites b).filter s.siteGood).length
    if 32 ≤ n then [2 * b, 2 * b + 1] else if 16 ≤ n then [2 * b] else []

/-- The tested map of a grade: every unit that the tests leave out for good, the steering and the wires as the tests found
them (R503). -/
def State.testedMap (s : State) (gradeS : Bool) : FuseMap :=
  let bad := (s.stud.filter fun r => r.cls == clsHard || r.cls == clsFused).map (·.un)
  let good := (List.range 16).filter fun k => !s.odBit odHbmStacksLost k && !s.unitOut (unStack k)
  if gradeS then ⟨true, s.allowedHalves.take 28, good.take 14, bad, s.coreSteer, s.mesh.wires⟩
  else ⟨false, List.range 32, List.range 16, bad, s.coreSteer, s.mesh.wires⟩

/-- The effect of a write to DEGRADED_ACK: in DEGRADED_BOOT, 0x01 and 0x02 adopt a grade, and the start goes on. -/
def State.ackWrite (s : State) (v : Nat) : State × Nat :=
  match s.start.find with
  | none => (s, odRange)
  | some f =>
    if s.od odStartState ≠ 0x0B || (v ≠ 1 && v ≠ 2) then (s, odRange)
    else
      let m := s.testedMap (v == 2)
      let s := (({ s with mirror := some (mirrorOf m (Config.fuseMapBytes 1)) } : State).studTouch).useMap m
      let s := ((s.odSet odFuseMapSource 4).odSet odDegradedAck v).studFused
      let s := s.logEv 0x5006 unModule none noLunit [v - 1]
      (((s.upcService).pcService).toReady f, odOk)

/-- DEGRADED_ACK_F (R503). -/
def execDegradedAckF (route : Nat) (s : State) : Host.Outcome State Fault Refusal :=
  .next (s.keyWrite route odDegradedAck fun s => s.ackWrite 1)
/-- DEGRADED_ACK_S (R503). -/
def execDegradedAckS (route : Nat) (s : State) : Host.Outcome State Fault Refusal :=
  .next (s.keyWrite route odDegradedAck fun s => s.ackWrite 2)

end Sys2Proof.Machine
end

