-- ==== Sys2Proof/Machine/Firmware.lean ====
section
/-! DEFINITION. The firmware image and its live update (R505 to R512), farrier packages and farrier runs (R526 to
R532), and the return series of units (R498, R499). -/

namespace Sys2Proof.Machine

open Sys2Proof

/-! ### Headers and signers (R505, R506, R526, R544) -/

/-- The 2,048 bits of an image header (R505). -/
def imgBits (h : ImgHdr) : Nat :=
  h.magic.toNat + h.ver.toNat * 2 ^ 32 + h.secVer.toNat * 2 ^ 64 + h.minPeer.toNat * 2 ^ 96 +
    h.bodyLen.toNat * 2 ^ 128 + h.digest.toNat * 2 ^ 256 + h.signer.toNat * 2 ^ 768

/-- The 2,048 bits of a farrier package header (R526). -/
def pkgBits (h : ImgHdr) : Nat :=
  h.magic.toNat + h.ver.toNat * 2 ^ 32 + h.secVer.toNat * 2 ^ 64 + h.bodyLen.toNat * 2 ^ 96 +
    h.tests.toNat * 2 ^ 128 + h.runMs % 2 ^ 16 * 2 ^ 160 + h.digest.toNat * 2 ^ 256 + h.signer.toNat * 2 ^ 768 +
    h.answer.toNat * 2 ^ 1280

/-- The slot of an unrevoked vendor key that SIGNER names and under which the signature verifies (R544). -/
def State.signerSlot (s : State) (h : ImgHdr) (bits : Nat) : Option Nat :=
  (List.range 4).find? fun k =>
    !mget zF s.sec.revoked k && h.signer.toNat == Config.shake256 64 (leBytes 64 (Config.vendorKey k)) &&
      Config.imageSigned bits h.sig (Config.vendorKey k)

/-- An image is verified (R505, R506). -/
def State.imageOk (s : State) (h : ImgHdr) : Bool :=
  h.magic == 0x5746494D && h.rsvZero && h.bodyDigest == h.digest && h.bodyLen.toNat % 4096 == 0 &&
    decide (h.bodyLen.toNat ≤ 2 ^ 26) && decide (s.od odFwVersionFloor ≤ h.secVer.toNat) &&
    (s.signerSlot h (imgBits h)).isSome

/-- A farrier package is verified (R526, R527). -/
def State.pkgOk (s : State) (h : ImgHdr) : Bool :=
  h.magic == 0x57464152 && h.rsvZero && h.bodyDigest == h.digest && h.bodyLen.toNat % 4096 == 0 &&
    decide (h.bodyLen.toNat ≤ 2 ^ 24) && decide (1 ≤ h.runMs) && decide (h.runMs ≤ 60000) &&
    decide (s.od odFarrierVersionFloor ≤ h.secVer.toNat) && (s.signerSlot h (pkgBits h)).isSome

/-- The header that host memory holds at an address, where the length given is read: open values (R509, R527; log 5). -/
def hostHeader (a len : Nat) : ImgHdr :=
  let f := Config.hostImage a len
  { magic := BitVec.ofNat 32 (f 0), ver := BitVec.ofNat 32 (f 1), secVer := BitVec.ofNat 32 (f 2),
    minPeer := BitVec.ofNat 32 (f 3), bodyLen := BitVec.ofNat 32 (f 4), rsvZero := f 5 % 2 == 1,
    digest := BitVec.ofNat 512 (f 6), signer := BitVec.ofNat 512 (f 7), tests := BitVec.ofNat 2 (f 8),
    runMs := f 9, answer := BitVec.ofNat 256 (f 10), bodyDigest := BitVec.ofNat 512 (f 11), sig := f 12 }

/-! ### Live update (R509 to R512) -/

/-- RECOVERY (R512). -/
def State.inRecovery (s : State) : Bool := s.od odStartState == 0x0C

/-- STAGE: obeyed when no update stands staged or runs (R509). -/
def State.fwStageOp (s : State) (h : ImgHdr) : State × Nat :=
  let st := s.od odFwUpdateStatus
  if st = 1 || st = 2 || st = 4 || st = 5 then (s, odRange)
  else (({ s with firm := { s.firm with staged := some h } } : State).odSet odFwUpdateStatus 1, odOk)

/-- The image is written into the tack room: until it has been read back and verified there, the tack room holds no verified
image (R509, R510). -/
def State.tackWriting (s : State) (h : ImgHdr) : State :=
  { s with firm := { s.firm with tack := h, tackVerified := false, staged := none, newUnits := [] } }

/-- The image in the tack room is verified (R509, R544): the floor rises to SEC_VER, and every slot below the signer's
is revoked. -/
def State.writeTack (s : State) (h : ImgHdr) : State :=
  let k := (s.signerSlot h (imgBits h)).getD 0
  let rev := (List.range k).foldl (fun m i => mset zF m i true) s.sec.revoked
  let s : State := { s with firm := { s.firm with tack := h, tackVerified := true, tackSlot := k, staged := none, newUnits := [] }
                            sec := { s.sec with revoked := rev } }
  let mask := ((List.range 4).filter fun i => mget zF rev i).map (2 ^ ·)
  (s.odSet odFwVersionFloor (max (s.od odFwVersionFloor) h.secVer.toNat)).odSet odVendorKeysRevoked mask.sum

/-- APPLY in RECOVERY: the image is written into the tack room and verified there; a cold start follows, or the
module stays in RECOVERY (R512). -/
def State.recoverApply (s : State) (h : ImgHdr) : State :=
  if s.imageOk h then
    let s := s.writeTack h
    match s.start.find with
    | some f => s.coldStart { f with imageVerified := true } true
    | none => s
  else
    let s := s.tackWriting h
    (s.odSet odFwUpdateStatus 3).logEv 0x8010 unModule none noLunit []

/-- APPLY: only in STAGED; MIN_PEER is checked against the running version, and the writing of the tack room begins
(R509). -/
def State.fwApplyOp (s : State) : State × Nat :=
  match s.firm.staged with
  | none => (s, odRange)
  | some h =>
    if s.od odFwUpdateStatus ≠ 2 then (s, odRange)
    else if s.inRecovery then (s.recoverApply h, odOk)
    else if s.firm.running.ver < h.minPeer then (s.odSet odFwUpdateStatus 7, odOk)
    else ((s.tackWriting h).odSet odFwUpdateStatus 4, odOk)

/-- ABORT: obeyed in STAGING and STAGED (R509). -/
def State.fwAbortOp (s : State) : State × Nat :=
  let st := s.od odFwUpdateStatus
  if st = 1 || st = 2 then
    (({ s with firm := { s.firm with staged := none } } : State).odSet odFwUpdateStatus 0, odOk)
  else (s, odRange)

/-- The effect of a write to FW_UPDATE_CTRL (R509). -/
def State.fwCtrl (s : State) (v : Nat) : State × Nat :=
  if v = 1 then s.fwStageOp (hostHeader (s.od odFwStageHostAddr) (s.od odFwStageLen))
  else if v = 2 then s.fwApplyOp
  else if v = 3 then s.fwAbortOp
  else (s, odRange)

/-- FW_STAGE: the image that is read from host memory is the operand (R509). -/
def execFwStage (route : Nat) (h : ImgHdr) (s : State) : Host.Outcome State Fault Refusal :=
  .next (s.keyWrite route odFwUpdateCtrl fun s => s.fwStageOp h)

/-- WRITING ends: the image in the tack room has been read back and verified, and the grooms begin to switch (R509). A write of
MODULE_RESET that waited for it takes effect (R511). -/
def State.tackWritten (s : State) : State :=
  let s := (s.writeTack s.firm.tack).odSet odFwUpdateStatus 5
  match s.start.resetPend with
  | none => s
  | some w => ({ s with start := { s.start with resetPend := none } } : State).warmReset w.1 w.2

/-- FW_STAGE_VERIFIED: STAGED, or VERIFY_FAILED; in RECOVERY the image is verified in the tack room (R509,
R512). In WRITING it is the verification of the image that has been read back from the tack room (log 114). -/
def execFwStageVerified (s : State) : Host.Outcome State Fault Refusal :=
  match s.firm.staged with
  | none => .next (if s.od odFwUpdateStatus = 4 then s.tackWritten else s)
  | some h =>
    if s.od odFwUpdateStatus ≠ 1 then .next s
    else if s.inRecovery || s.imageOk h then .next (s.odSet odFwUpdateStatus 2)
    else
      let s : State := { s with firm := { s.firm with staged := none } }
      .next ((s.odSet odFwUpdateStatus 3).logEv 0x8010 unModule none noLunit [])

/-- FW_APPLY (R509). -/
def execFwApply (route : Nat) (s : State) : Host.Outcome State Fault Refusal :=
  .next (s.keyWrite route odFwUpdateCtrl fun s => s.fwApplyOp)
/-- FW_ABORT (R509). -/
def execFwAbort (route : Nat) (s : State) : Host.Outcome State Fault Refusal :=
  .next (s.keyWrite route odFwUpdateCtrl fun s => s.fwAbortOp)

/-- Whether a unit may move now (R509). -/
def State.maySwitch (s : State) (u : Nat) : Bool :=
  s.unitsPending.contains u &&
    (if u < 20 then (s.unitsPending.filter (· < 20)).head? == some u
     else if u < 28 then !s.upcBusy (u - 20)
     else (s.part (u - 28)).job.idle)

/-- A groom other than the yardmaster goes away for its switch, and its bay is under the rules of a groom that is down
(R489, R509). -/
def State.groomAway (s : State) (g : Nat) : State :=
  let s := ({ s with firm := { s.firm with away := some g } } : State).modGroom g fun x => { x with down := true }
  if g < 16 then s.askBay g else s

/-- The groom that was away comes back on the new image; one whose supply or router has failed meanwhile does not
(R489, R509). -/
def State.groomBack (s : State) (g : Nat) : State :=
  let s : State := { s with firm := { s.firm with away := none } }
  if !s.groomFed g || (s.groom g).hard || s.groomCut g then s.updateDone
  else
    let s := (s.modGroom g fun x => { x with down := false }).moveUnit g
    if g < 16 then (s.askBay g).railRefresh g else s

/-- FW_UNIT_SWITCH: a unit moves to the new image; with the last one the update is DONE (R509). A groom other than the
yardmaster is away from the first of two such commands to the second (log 114). -/
def execFwUnitSwitch (unit : Nat) (s : State) : Host.Outcome State Fault Refusal :=
  if s.firm.away = some unit then .next (s.groomBack unit)
  else if s.firm.away.isSome && decide (unit < 20) || !s.maySwitch unit then .next s.updateDone
  else if unit = s.od odYardmaster then
    let s : State := { s with firm := { s.firm with running := s.firm.tack } }
    .next ((s.odSet odFwVersion s.firm.tack.ver.toNat).moveUnit unit)
  else if unit < 20 then .next (s.groomAway unit)
  else .next (s.moveUnit unit)

/-! ### Farrier packages (R526, R527) -/

/-- A package comes into use, staged (status 2) or the base package again; runs in progress keep theirs (R525, R527). -/
def State.usePkg (s : State) (h : ImgHdr) (status : Nat) : State :=
  let changed := status == 2 || h != s.firm.pkg
  let s : State := { s with firm := { s.firm with pkg := h } }
  let s := (s.odSet odFarrierPkgVersion h.ver.toNat).odSet odFarrierStatus status
  if changed then s.logEv 0x5032 unModule none noLunit [h.ver.toNat] else s

/-- STAGE (R527). -/
def State.farStageOp (s : State) (h : ImgHdr) : State × Nat :=
  (if s.pkgOk h then s.usePkg h 2 else s.odSet odFarrierStatus 3, odOk)

/-- The effect of a write to FARRIER_CTRL (R527). -/
def State.farCtrl (s : State) (v : Nat) : State × Nat :=
  if v = 1 then s.farStageOp (hostHeader (s.od odFarrierStageHostAddr) (s.od odFarrierStageLen))
  else if v = 2 then (s.usePkg s.firm.base 0, odOk)
  else (s, odRange)

/-- FARRIER_STAGE (R527). -/
def execFarrierStage (route : Nat) (h : ImgHdr) (s : State) : Host.Outcome State Fault Refusal :=
  .next (s.keyWrite route odFarrierCtrl fun s => s.farStageOp h)
/-- FARRIER_REVERT (R527). -/
def execFarrierRevert (route : Nat) (s : State) : Host.Outcome State Fault Refusal :=
  .next (s.keyWrite route odFarrierCtrl fun s => s.farCtrl 2)

/-! ### Which unit is next (R528, R530, R532) -/

/-- A usable site (R530): it holds a position or is a spare. -/
def State.siteUsable (s : State) (x : SiteId) : Bool := s.siteLogical x != 0xFF && !(s.cl x).fenced

/-- The studbook records of a cluster site and of its core sites. -/
def State.siteRecs (s : State) (x : SiteId) : List StudRec :=
  s.stud.filter fun r => (r.un.ut == 1 || r.un.ut == 2) && r.un.a == x / 36 && r.un.b == x % 36

/-- A record whose unit waits for return tests: SUSPECT or EXTERNAL (R499). -/
def StudRec.suspect (r : StudRec) : Bool := r.cls == clsSuspect || r.cls == clsExternal

/-- A site that is out of service and may take return tests: the outside cause has cleared (R431, R497 to
R499). -/
def State.siteReturning (s : State) (x : SiteId) : Bool :=
  !s.siteUsable x && !s.unitHard (unSite x) && !s.unitOut (unRouter x) &&
    (s.siteRecs x).any (fun r => r.suspect || r.cls == clsTransient) && decide (s.siteTemp x < 85) &&
    (!(s.cl x).hotOff ||
      match (s.cl x).coolAt with
      | some t => decide (t + 1000000000 ≤ s.clk.dt)
      | none => false)

/-- A site that holds no step of a job and that no run occupies (R528). -/
def State.siteIdle (s : State) (x : SiteId) : Bool :=
  decide (x < 576) && s.bayUp (x / 36) && !s.inRun x &&
    (match (s.cl x).owner with
     | some _ => (s.cl x).lent && !(s.cl x).fenced
     | none => s.siteUsable x || s.siteReturning x)

/-- Whether a usable site comes before another: due sites first, then the oldest visit (R530). -/
def State.visitBefore (s : State) (x y : SiteId) : Bool :=
  if (s.cl x).due ≠ (s.cl y).due then (s.cl x).due else decide (s.lastVisit x < s.lastVisit y)

/-- Whether the yardmaster may choose a site next (R530); return tests stand outside that order. -/
def State.siteNext (s : State) (x : SiteId) : Bool :=
  s.siteIdle x &&
    (!s.siteUsable x || !((List.range 576).any fun y => s.siteIdle y && s.siteUsable y && s.visitBefore y x))

/-- A UPC that a run may occupy (R499, R528). -/
def State.upcIdle (s : State) (u : Nat) : Bool :=
  decide (u < 8) && s.od (odAt odUpcState u) != 2 && s.upcFed u && !s.upcBusy u && !s.unitHard (unUpc u) &&
    !s.upcInRun u

/-- Whether the next run of a site is the known-answer run that follows a passed farrier run: every unit of the site that waits
for its return tests has passed one (R499). -/
def State.siteKnown (s : State) (x : SiteId) : Bool :=
  let rs := (s.siteRecs x).filter (·.suspect)
  !rs.isEmpty && rs.all fun r => decide (1 ≤ r.clean)

/-- FARRIER_RUN_START: on the next due or least recently visited idle unit; a site that is off is powered on, and its
cores fetch the run's program once it has power (R418, R507, R526, R528, R530). -/
def execFarrierRunStart (isUpc : Bool) (unit : Nat) (s : State) : Host.Outcome State Fault Refusal :=
  let tests := if isUpc then s.firm.pkg.tests.getLsbD 1 else s.firm.pkg.tests.getLsbD 0
  if !s.ready || !tests || !(if isUpc then s.upcIdle unit else s.siteNext unit) then .next s
  else
    let known := if isUpc then mget zF s.firm.upcClean unit else s.siteKnown unit
    let r : FarRun := ⟨isUpc, unit, known, s.clk.dt, s.firm.pkg⟩
    let s := if isUpc then s
      else if (s.cl unit).power = .off then s.wantPower unit
      else if (s.cl unit).power = .parked then s.modCl unit fun x => { x with waking := true }
      else s.fetchRun unit (if known then 1 else 0)
    let s : State := { s with firm := { s.firm with runs := s.firm.runs ++ [r] } }
    .next (if known then s else s.odAdd odFarrierRunCount 1)

/-! ### Verdicts (R498, R499, R529, R531, R532) -/

/-- A clean run in a return series (R494, R498). -/
def StudRec.pass (r : StudRec) (st : Nat) : StudRec :=
  { r with clean := min 255 (r.clean + 1), stLast := st, stClean1 := if r.clean = 0 then st else r.stClean1 }

/-- A TRANSIENT unit's series is complete (R498). -/
def StudRec.seriesDone (r : StudRec) (st : Nat) : Bool := decide (3 ≤ r.clean) && decide (r.stClean1 + 86400 ≤ st)

/-- A unit takes part in a passed run: a farrier run, or the known-answer run after one, which returns only a unit that has
passed a farrier run (R498, R499). -/
def State.passUnit (s : State) (r : StudRec) (known : Bool) : State :=
  if r.suspect then
    (if !known then s.studPut (r.pass s.st) else if 1 ≤ r.clean then s.studReturn r.un 2 else s)
  else if r.cls = clsTransient && !known then
    let r := r.pass s.st
    let s := s.studPut r
    if r.seriesDone s.st then s.studReturn r.un 3 else s
  else s

/-- The run of a unit is over. -/
def State.dropRun (s : State) (isUpc : Bool) (unit : Nat) : State :=
  let t : State := { s with firm := { s.firm with runs := s.firm.runs.filter fun r => !(r.isUpc == isUpc && r.un == unit) } }
  if isUpc then t else t.stopRun unit

/-- A cluster site after its run: a lent one is zeroed and comes back, and others are lent (R330, R531); another
is switched off (R417). -/
def State.afterRun (s : State) (x : SiteId) (visited : Bool) : State :=
  match (s.cl x).owner with
  | none => s.switchOff x
  | some (p, _) =>
    let s := (s.wipeSite x).modCl x fun c => { c with lent := false, idleSince := s.clk.dt }
    let s := s.modPart p fun y =>
      { y with grant := y.grant.map fun g => { g with visited := if visited then g.visited ++ [x] else g.visited } }
    s.lend p

/-- A site that has returned to service is a spare (R46, R499). Where it has kept a position that no partition holds, its
index moves as R44 moves one, to the lowest spare of the bay: it may be the site itself (DESIGN CHOICE, log 77); an index
that stays unmapped moves nowhere (R45). -/
def State.rejoinSite (s : State) (x : SiteId) : State :=
  let q := s.siteLogical x
  if !(q = 0xFF || (s.cl x).fenced) || (s.cl x).owner.isSome || !s.siteGood x then s
  else
    let s := (s.setLogical x 0xFE).modCl x fun c => { c with fenced := false, hotOff := false }
    let s := if 32 ≤ q || (s.bay (x / 36)).unmapped.contains q then s
      else match s.movesTo (x / 36) 1 with
        | y :: _ => (s.abandonRun y).setLogical y q
        | [] => s
    s.countOffered.checkFloors

/-- PASS on a cluster site: a visit, and a step of each return series (R498, R499, R530). -/
def State.passSite (s : State) (x : SiteId) (known : Bool) : State :=
  let s := (s.siteRecs x).foldl (fun (s : State) r => s.passUnit r known) s
  let s := s.rejoinSite x
  let s := if s.siteUsable x then s.odSet (odSite odLastVisitSt x) (s.st % 2 ^ 32) else s
  let s := if known then s else s.modCl x fun c => { c with due := false, fixes := [] }
  s.afterRun x true

/-- A failed run of a cluster site: units in a return series are HARD, the site is fenced (R497 to R499, R532). -/
def State.failSite (s : State) (x : SiteId) (known : Bool) (test : Nat) : State :=
  let src := if known then 2 else 3
  let s := ((s.siteRecs x).filter fun r => r.suspect || r.cls == clsTransient).foldl
    (fun (s : State) r => s.studHard r.un src test) s
  let s := if s.unitOut (unSite x) then s else s.studFail (unSite x) src test
  let owner := (s.cl x).owner
  let s := ((if (s.cl x).fenced then s else s.fenceSite x).abandonRun x).switchOff x
  match owner with
  | some (p, _) => s.lend p
  | none => s

/-- PASS on a UPC (R295, R499). -/
def State.passUpc (s : State) (u : Nat) (known : Bool) : State :=
  let s : State :=
    { s with firm := { s.firm with upcClean := mset zF s.firm.upcClean u (!known && s.od (odAt odUpcState u) == 1) }
             upcPassed := if known then mset zF s.upcPassed u true else s.upcPassed }
  match s.studOf (unUpc u) with
  | some r => s.passUnit r known
  | none => s

/-- A failed run of a UPC: it is drained for FARRIER, or HARD after return tests (R293, R499, R532). -/
def State.failUpc (s : State) (u : Nat) (known : Bool) (test : Nat) : State :=
  let src := if known then 2 else 3
  let back := match s.studOf (unUpc u) with
    | some r => r.suspect
    | none => false
  let s : State := { s with firm := { s.firm with upcClean := mset zF s.firm.upcClean u false } }
  let s := if back then s.studHard (unUpc u) src test else s.studFail (unUpc u) src test
  s.askDrain u 0

/-- The event and count of a SUSPECT farrier run; the cause is 0 the digest, 1 a fault, 2 the time (R525, R529). -/
def State.suspectEv (s : State) (isUpc : Bool) (unit test cause : Nat) : State :=
  let un := if isUpc then unUpc unit else unSite unit
  let p := if isUpc then none else (s.cl unit).owner.map (·.1)
  (s.odAdd odFarrierSuspectCount 1).logEv 0x5030 un p noLunit [test, Config.farrierCause cause]

/-- A run ends SUSPECT. -/
def State.endSuspect (s : State) (r : FarRun) (test cause : Nat) : State :=
  let s := s.dropRun r.isUpc r.un
  let s := if r.known then s else s.suspectEv r.isUpc r.un test cause
  if r.isUpc then s.failUpc r.un r.known test else s.failSite r.un r.known test

/-- The run that occupies a unit, which has power. -/
def State.runOf (s : State) (isUpc : Bool) (unit : Nat) : Option FarRun :=
  if isUpc || (s.cl unit).power == .on then s.firm.runs.find? fun r => r.isUpc == isUpc && r.un == unit else none

/-- FARRIER_RUN_END: PASS when the digest equals the answer, else SUSPECT (R499, R529). -/
def execFarrierRunEnd (isUpc : Bool) (unit : Nat) (digest : BitVec 256) (faulted : Bool) (test : Nat) (s : State) :
    Host.Outcome State Fault Refusal :=
  match s.runOf isUpc unit with
  | none => .next s
  | some r =>
    let answer := if r.known then s.firm.running.answer else r.pkg.answer
    if !faulted && digest == answer then
      let s := s.dropRun isUpc unit
      .next (if isUpc then s.passUpc unit r.known else s.passSite unit r.known)
    else .next (s.endSuspect r test (if faulted then 1 else 0))

/-- FARRIER_RUN_TIMEOUT: a farrier run exceeds RUN_MS (R529); which test it was in is a free value (log 5). -/
def execFarrierRunTimeout (isUpc : Bool) (unit : Nat) (s : State) : Host.Outcome State Fault Refusal :=
  match s.runOf isUpc unit with
  | none => .next s
  | some r =>
    if r.known || s.clk.dt ≤ r.startDt + 1000000 * r.pkg.runMs then .next s
    else
      let test := s.freeW.toNat % 2 ^ 32
      .next (s.useFree.endSuspect r test 2)

/-- FARRIER_OVERDUE: a usable site without a visit for 86,400 s, once in each such period (R525, R530). -/
def execFarrierOverdue (site : SiteId) (s : State) : Host.Outcome State Fault Refusal :=
  let t := mget zN s.firm.overdueAt site
  if 576 ≤ site || !s.ready || !s.siteUsable site || decide (s.st < s.lastVisit site + 86400) ||
      (decide (t ≠ 0) && decide (s.st < t - 1 + 86400)) then .next s
  else
    let s : State := { s with firm := { s.firm with overdueAt := mset zN s.firm.overdueAt site (s.st + 1) } }
    .next (s.logEv 0x5031 (unSite site) ((s.cl site).owner.map (·.1)) noLunit [])

end Sys2Proof.Machine
end

