-- ==== Sys2Proof/Machine/Hbm.lean ====
section
/-! DEFINITION. The HBM controllers and the checks of the memory tiers (R212, R229 to R234, R243, R369,
R434). -/

namespace Sys2Proof.Machine

open Sys2Proof

/-! ### Cluster memory -/

/-- What a check of a CMEM granule finds (R212, R254, R516). -/
def State.cmemFound (s : State) (site : SiteId) (g : Nat) (found : Finding) : State :=
  let key := cmemKey site (64 * g)
  let ev (s : State) (code : Nat) : State :=
    s.logEv code (unSite site) ((s.cl site).owner.map (·.1)) (((s.cl site).owner.map (·.2)).getD noLunit)
      (s.granuleWords false key)
  if 131072 ≤ g then s
  else
    match found with
    | .symbol => (ev (s.odAdd odCmemSymbolFixCount 1) 0x4004).siteFix site
    | .uncorrectable =>
      ev ({ s with cmemPoison := mset zF s.cmemPoison (key / 64) true } |>.odAdd odCmemUncorrectableCount 1) 0x4005
    | _ => s

/-- CMEM_ACCESS_CHECK: a read of a granule corrects it or poisons it (R212). -/
def execCmemAccessCheck (site : SiteId) (granule : Nat) (found : Finding) (s : State) :
    Host.Outcome State Fault Refusal :=
  .next (s.cmemFound site granule found)

/-- CMEM_PATROL_SCRUB: the scrubber reads a granule (R212). -/
def execCmemPatrolScrub (site : SiteId) (granule : Nat) (found : Finding) (s : State) :
    Host.Outcome State Fault Refusal :=
  .next (s.cmemFound site granule found)

/-! ### HBM -/

/-- Fence a pseudo-channel (R232, R497). -/
def State.fencePc (s : State) (pc source : Nat) : State :=
  if s.pcOut pc then s
  else
    let s := (s.odPutBit (odAt odPcFenced (pc / 32)) (pc % 32) true).odPutBit (odAt odPcInService (pc / 32)) (pc % 32)
      false
    (s.logMany 0x4009 (unPc pc) (s.pcParts pc) []).studFail (unPc pc) source 0

/-- Nanoseconds of 24 hours. -/
def dayNs : Nat := 86400000000000

/-- Write bytes at a key, granule by granule (R251). -/
def State.hbmBytes (s : State) (key : Nat) (data : List Byte) (poison : Bool) : State :=
  let n := data.length
  let gs := (List.range ((key + n + 63) / 64 - key / 64)).map (key / 64 + ·)
  let whole (g : Nat) : Bool := decide (key ≤ 64 * g) && decide (64 * g + 64 ≤ key + n)
  { s with hbm := msetRange zB s.hbm key data
           hbmPoison := gs.foldl (fun m g => markPoison m g (whole g) poison) s.hbmPoison
           hbmOvf := gs.foldl (fun m g => markOvf m g (whole g)) s.hbmOvf }

/-- What a granule of the system region holds, which the manual does not lay out (R226; log 5): 0 a part of the image,
1 of the studbook, 2 a record of the module log, 3 a record of a partition's log, else nothing. -/
def sysHolds (pc off : Nat) : Nat := Config.sysGranule (hbmKey pc off / 64) % 5

/-- The records of a log without the one at a place that the manual does not give (R518; log 5). -/
def dropRec (l : List EvRec) (k : Nat) : List EvRec := if l.isEmpty then l else l.eraseIdx (k % l.length)

/-- An uncorrectable granule of the system region is repaired (R518): an image granule is rewritten from the tack room, a
studbook granule from the valid tack-room copy; one of a log is zeroed, its record is lost, and the next record has
LOST set. -/
def State.sysRepair (s : State) (pc off : Nat) : State :=
  let g := hbmKey pc off / 64
  let v := match sysHolds pc off with
    | 0 => Config.sysBytes g 0
    | 1 => Config.sysBytes g (s.start.studSeq + 1)
    | _ => 0
  let s := s.hbmBytes (64 * g) (leBytes 64 v) false
  match sysHolds pc off with
  | 2 => { s with log := { s.log with recs := dropRec s.log.recs (Config.sysRecord g)
                                      lostNext := s.log.lostNext || !s.log.recs.isEmpty } }
  | 3 =>
    let p := Config.sysRecord g % 32
    match mget (fun _ => none) s.log.plogs p with
    | none => s
    | some (b, rs) =>
      { s with log := { s.log with plogs := mset (fun _ => none) s.log.plogs p (some (b, dropRec rs (Config.sysRecord (g + 1))))
                                   plost := mset zF s.log.plost p (mget zF s.log.plost p || !rs.isEmpty) } }
  | _ => s

/-- A granule is found uncorrectable: marked, counted, logged; too many distinct ones in 24 h fence the
pseudo-channel (R229, R232). One in the system region is repaired (R518). -/
def State.hbmBad (s : State) (pc off : Nat) : State :=
  let key := hbmKey pc off
  let g := key / 64
  let s := ({ s with hbmPoison := mset zF s.hbmPoison g true } : State).odAdd odHbmUncorrectableCount 1
  let s := s.logEv 0x4007 (unPc pc) ((s.hbmOwner key).map (·.1)) noLunit (s.granuleWords true key)
  let s := if pcBytes - 2 ^ 23 ≤ off then s.sysRepair pc off else s
  let l := ((mget (fun _ => []) s.health.seen pc).filter fun x => x.1 != g && decide (s.clk.dt < x.2 + dayNs)) ++
    [(g, s.clk.dt)]
  let s := { s with health := { s.health with seen := mset (fun _ => []) s.health.seen pc l } }
  if s.od odPcFenceThreshold < l.length then s.fencePc pc 4 else s

/-- A corrected error on a lane: more than 64 in 1 s repair it with a spare of its channel, or fence the
pseudo-channel when none is left (R231, R232). -/
def State.laneFix (s : State) (pc lane : Nat) : State :=
  let k := 1024 * pc + lane
  let l := ((mget (fun _ => []) s.health.lanes k).filter fun t => decide (s.clk.dt < t + 1000000000)) ++ [s.clk.dt]
  if l.length ≤ 64 then { s with health := { s.health with lanes := mset (fun _ => []) s.health.lanes k l } }
  else
    let used := mget zN s.health.spares (pc / 2)
    let s := { s with health := { s.health with lanes := mset (fun _ => []) s.health.lanes k [] } }
    if used < Config.hbmSpareLanes then
      let s := { s with health := { s.health with spares := mset zN s.health.spares (pc / 2) (used + 1) } }
      let at_ := odAt odLanesRepaired (pc / 32)
      (s.odSet at_ ((s.od at_ + 1) % 65536)).logMany 0x4008 (unPc pc) (s.pcParts pc) []
    else s.fencePc pc 4

/-- Command and address parity errors of a pseudo-channel are retried and counted (R224). -/
def State.hbmParity (s : State) (pc n : Nat) : State :=
  if n = 0 then s
  else { s with health := { s.health with parity := mset zN s.health.parity pc (mget zN s.health.parity pc + n) } }

/-- What the check of a granule that a controller reads finds (R229, R231). -/
def State.hbmFound (s : State) (pc off : Nat) (found : Finding) (lane : Option Nat) : State :=
  let fix (s : State) : State := match lane with
    | none => s
    | some l => s.laneFix pc l
  match found with
  | .ok => s
  | .bit => fix (s.odAdd odHbmOndieCorrectedCount 1)
  | .symbol =>
    let key := hbmKey pc off
    let s := s.odAdd odHbmCorrectedCount 1
    fix (s.logEv 0x4006 (unPc pc) ((s.hbmOwner key).map (·.1)) noLunit (s.granuleWords true key))
  | .uncorrectable => s.hbmBad pc off

/-- The first overflow mark that a request's add sets is reported to its source and logged by the module (R247). The
source is a port of the mesh, whose copy the request does not name: each request stands for a copy of its own (log 83). -/
def State.reqOverflow (s : State) (src : Nat) (words : List Nat) : State :=
  let site := posSite (src / 2)
  let own := (s.cl site).owner
  (s.odAdd odAaddxOverflowCount 1).logEv 0x400C (unSite site) (own.map (·.1)) ((own.map (·.2)).getD noLunit) words

/-- A controller applies a request that changes memory (R229, R232, R243). -/
def State.hbmChange (s : State) (src pc off : Nat) (op : HbmOp) (found : Finding) (lane : Option Nat) : State :=
  let key := hbmKey pc (64 * (off / 64))
  match op with
  | .read => s
  | .write data poison => (s.odAdd odCopyPoisonCarriedCount (if poison then 1 else 0)).hbmBytes (hbmKey pc off) data poison
  | .zero => s.hbmBytes key (List.replicate 64 0) false
  | .aaddx wp32 guard eSrc eDst values poison =>
    let s := (s.odAdd odCopyPoisonCarriedCount (if poison then 1 else 0)).hbmFound pc off found lane
    let (s, o) := s.addGranule true key wp32 guard (values.map fun v => wpRealign (wpBits wp32) v eSrc eDst) poison
    if o then s.reqOverflow src (s.granuleWords true key) else s

/-- HBM_REQUEST: a controller serves a request once (R229, R232, R243, R369). A read leaves its answer in
`hbmData`; a request that changes memory and matches a kept record is only answered. `src` is its source port
(2 * mesh position + port), `num` its number, and `parity` how many times the command and address parity failed before
the controller's access succeeded, which is retried and counted (R224). -/
def execHbmRequest (src : Nat) (num : BitVec 32) (pc off : Nat) (op : HbmOp) (ecc : EccFind)
    (parity : Nat) (s : State) : Host.Outcome State Fault Refusal :=
  .next (
    let key := hbmKey pc off
    let e := endStack (pc / 32)
    if pcBytes ≤ off || 512 ≤ pc then s
    else if op = .read then
      if s.hbmOut key then { s with hbmData := some (List.replicate 64 0, true) }
      else
        let s := (s.hbmParity pc parity).hbmFound pc off ecc.found ecc.lane
        { s with hbmData := some (mgetRange zB s.hbm (hbmKey pc (64 * (off / 64))) 64, mget zF s.hbmPoison (key / 64)) }
    else if s.isDup e src num then s.odAdd odMeshDuplicateCount 1
    else if s.hbmOut key then (s.odAdd odHbmFencedDropCount 1).keepReq e src num 0
    else ((s.hbmParity pc parity).hbmChange src pc off op ecc.found ecc.lane).keepReq e src num 0)

/-- HBM_PATROL_SCRUB: the scrub reads a granule of a pseudo-channel in service (R229). -/
def execHbmPatrolScrub (pc off : Nat) (ecc : EccFind) (s : State) : Host.Outcome State Fault Refusal :=
  .next (if pcBytes ≤ off || 512 ≤ pc || s.pcOut pc then s else s.hbmFound pc off ecc.found ecc.lane)

/-- PC_REJOIN: a fenced pseudo-channel has been scrubbed; one that passed returns, and serves a partition
again from its next remap on (R232, R233, R499). -/
def execPcRejoin (pc : Nat) (passed : Bool) (s : State) : Host.Outcome State Fault Refusal :=
  .next (
    if !(passed && s.odBit (odAt odPcFenced (pc / 32)) (pc % 32)) || s.odBit odHbmStacksLost (pc / 32) || 512 ≤ pc ||
        s.fuseBad (unPc pc) || (s.studOf (unPc pc)).any (fun r => r.cls == clsHard || r.cls == clsFused) then s
    else
      let s := (s.odPutBit (odAt odPcFenced (pc / 32)) (pc % 32) false).odPutBit (odAt odPcInService (pc / 32))
        (pc % 32) true
      let old := ((List.range 32).filter fun p => (s.part p).composed && (s.part p).chans.contains pc).map fun p => (p, pc)
      let s := { s with health := { s.health with stale := s.health.stale ++ old } }
      (s.studReturn (unPc pc) 6).logMany 0x400A (unPc pc) (s.pcParts pc) [])

end Sys2Proof.Machine
end

