-- ==== Sys2Proof/Machine/Link.lean ====
section
/-! DEFINITION. The Mivon link (R440 to R478): flits and retry, training, lanes, routed packets, time messages,
the fabric master, device IDs and the host ports. -/

namespace Sys2Proof.Machine

open Sys2Proof

/-! ### Widths and ports (R440, R451, R453, R456) -/

/-- The lanes of a link at full width (R440). -/
def linkLanes (k : Nat) : Nat := if 30 ≤ k && k ≤ 33 then 4 else 8

/-- The width that a set of good lanes allows; 0 when there are too few (R453). -/
def linkWidth (k good : Nat) : Nat :=
  let n := (bitsOf (linkLanes k) good).length
  if linkLanes k = 8 then (if 8 ≤ n then 8 else if 6 ≤ n then 6 else if 4 ≤ n then 4 else 0)
  else (if 4 ≤ n then 4 else if 3 ≤ n then 3 else if 2 ≤ n then 2 else 0)

/-- A link as a unit: all its lanes (R494). -/
def unLink (k : Nat) : UnitId := unLane k 0xFF

/-- The host port that the module sends on: A while it is UP, else B (R476). -/
def State.hostSide (s : State) : State :=
  if s.linkUp s.hostPort then s
  else if s.linkUp 34 then { s with hostPort := 34 }
  else if s.linkUp 35 then { s with hostPort := 35 }
  else s

/-- A link leaves UP: its replay buffer is discarded, and what it has not received whole and what it knew of its neighbour lapse
(R451). -/
def Link.down (x : Link) : Link :=
  { x with retraining := false, nakSent := false, nakIn := false, replay := [], credits := [], rxOpen := [], laneErr := [],
           swap := none, lastAnn := none }

/-- A link goes DOWN, or DISABLED (R451, R456). -/
def State.linkDown (s : State) (k st : Nat) : State :=
  let was := s.od (odAt odPortState k) == 2 || (s.link k).retraining
  let s := (s.modLink k Link.down).odSet (odAt odPortState k) st
  let s := s.odSet (odAt odPortWidth k) 0
  let s := if was then s.logEv 0x7004 (unLink k) none noLunit [] else s
  s.hostSide

/-- The credits of a link after a training (R448). -/
def fullCredits : SMap Nat := [0, 2, 3, 4, 5, 6].foldl (fun m c => mset zN m c (bufferOf c)) []

/-- A lane becomes bad: its studbook record, under R497 as any unit's (log 31). -/
def State.studLane (s : State) (k lane source : Nat) : State :=
  let un := unLane k lane
  let r := (s.studOf un).getD (newStud un s.st)
  if s.fuseBad un || r.cls == clsFused && (s.studOf un).isSome then s
  else
    let fails := min 255 (r.fails + 1)
    let hard := decide (3 ≤ fails) || r.cls == clsTransient || r.cls == clsHard || (r.cls == clsReturned && r.wasTransient)
    s.studPut { r with cls := if hard then clsHard else clsSuspect, source := source, fails := fails,
                       clean := 0, stLast := s.st, stClean1 := 0, stFirst := if r.fails = 0 then s.st else r.stFirst }

/-- A lane becomes bad, now (R453, R455). -/
def State.laneFell (s : State) (k lane source : Nat) : State :=
  (s.modLink k fun x =>
    let old := match x.badLanes.find? fun b => b.1 == lane with
      | some b => b.2
      | none => []
    { x with badLanes := (x.badLanes.filter fun b => b.1 != lane) ++
               [(lane, (old ++ [s.clk.dt]).drop (old.length - 3))] }).studLane k lane source

/-- Whether a lane is out of service at a training: by its class, but for a SUSPECT or EXTERNAL one that a RETRAIN
retests (R455, R456, R495). -/
def State.laneOut (s : State) (k lane : Nat) : Bool :=
  let un := unLane k lane
  s.unitOut un && !((s.link k).retest && !s.fuseBad un &&
    (s.studOf un).any fun r => r.cls == clsSuspect || r.cls == clsExternal)

/-- The lanes in service of those that a training finds good. -/
def State.lanesFit (s : State) (k good : Nat) : Nat :=
  ((List.range (linkLanes k)).filter fun i => good.testBit i && !s.laneOut k i).foldl (fun n i => n + 2 ^ i) 0

/-- A link completes a full training: a lane that fails it becomes bad, and one that a RETRAIN has retested returns
(R451, R453, R456). -/
def State.linkTrained (s : State) (k : Nat) (good : Nat) (peer : Nat) : State :=
  let fit := s.lanesFit k good
  let s := (List.range (linkLanes k)).foldl
    (fun (s : State) i =>
      if fit.testBit i then (if s.unitOut (unLane k i) then s.studReturn (unLane k i) 6 else s)
      else if good.testBit i || s.unitOut (unLane k i) then s
      else s.laneFell k i 6) s
  let s := s.modLink k fun x =>
    { x.down with rxNext := 0, txNext := 0, credits := fullCredits, upSince := s.clk.dt, retest := false }
  let s := (s.odSet (odAt odPortState k) 2).odSet (odAt odPortWidth k) (linkWidth k fit)
  let s := (s.odSet (odAt odLanesGood k) fit).odSet (odAt odPeerId k) peer
  (s.logEv 0x7005 (unLink k) none noLunit []).hostSide.flushLink k

/-- PORT_TRAINING_ATTEMPT: an enabled link that is DOWN or TRAINING (R451). -/
def execPortTrainingAttempt (link : Nat) (ok : Bool) (good : BitVec 8) (peer : BitVec 16) (s : State) :
    Host.Outcome State Fault Refusal :=
  let st := s.od (odAt odPortState link)
  if 36 ≤ link || !s.up || !(s.link link).enabled || (s.link link).retraining || (st ≠ 0 && st ≠ 1) then .next s
  else if ok && linkWidth link (s.lanesFit link good.toNat) ≠ 0 then .next (s.linkTrained link good.toNat peer.toNat)
  else .next (s.odSet (odAt odPortState link) 0)

/-- The unacknowledged flits leave again, with the acknowledgement of the moment (R446, R450). -/
def State.sayReplay (s : State) (k : Nat) : State :=
  let x := s.link k
  s.linkOut ⟨some k, false, none, .replayFrom ((x.replay.head?.map (·.seq)).getD 0), x.replay.map (TxFlit.word x.ack)⟩

/-- PORT_RETRAIN_COMPLETE: a retrain of the lane alignment keeps the replay buffer; one that fails takes the
link DOWN (R451). -/
def execPortRetrainComplete (link : Nat) (ok : Bool) (s : State) : Host.Outcome State Fault Refusal :=
  let x := s.link link
  if 36 ≤ link || !x.retraining then .next s
  else if ok then
    let s := s.modLink link fun x =>
      { x with retraining := false, nakIn := false, ackDt := s.clk.dt, replay := x.replay.map fun f => { f with sent := 1 } }
    let s := (s.odSet (odAt odPortState link) 2).hostSide
    .next (if x.replay.isEmpty then s else s.sayReplay link)
  else .next (s.linkDown link 0)

/-! ### Flits and retry (R444 to R450) -/

/-- The header of the 2,048 bits of a flit, and the check of its CRC-32 over bytes 0 to 251 (R446). The order of the CRC's
bits is that of the frame check sequence, the only CRC-32 with this polynomial that the manual fixes (log 95). -/
def flitOf (w : BitVec 2048) : Flit :=
  { crcGood := (leBytes 256 w.toNat).drop 252 == leBytes 4 (crc32 ((leBytes 256 w.toNat).take 252)).toNat
    fk := fld w 0 2, vc := fld w 2 2, dl := w.getLsbD 4, sop := w.getLsbD 5, eop := w.getLsbD 6, seq := fld w 7 12
    ack := fld w 19 12, nak := w.getLsbD 31, cvc := fld w 32 2, cdl := w.getLsbD 34, ccnt := fld w 35 10
    vlen := fld w 45 8, rsv := fld w 53 11, data := ((leBytes 256 w.toNat).drop 8).take 244 }

/-- Whether a flit is discarded for itself: its CRC, a reserved code or a non-zero reserved field (R446, R447). -/
def flitBad (f : Flit) : Bool :=
  !f.crcGood || f.fk == 3 || f.rsv != 0 || (f.fk != 1 && (f.vc != 0 || f.seq != 0)) ||
    (f.dl && (f.fk != 1 || f.vc == 0 || f.vc == 3))

/-- The receiver rejects a flit: NAK once, with the last flit it accepted (R450). -/
def State.rejectFlit (s : State) (k : Nat) : State :=
  let x := s.link k
  if x.nakSent then s
  else (s.modLink k fun x => { x with nakSent := true }).say k (.nak x.ack)

/-- The replay buffer once the peer has acknowledged up to `ack` (R450). -/
def ackReplay (r : List TxFlit) (ack : Nat) : List TxFlit :=
  if r.any fun f => f.seq == ack then (r.dropWhile fun f => f.seq != ack).drop 1 else r

/-- The header of a good flit: acknowledgement, NAK and returned credits (R446, R449, R450). -/
def Link.header (x : Link) (f : Flit) (dt : Nat) : Link :=
  let r := ackReplay x.replay f.ack
  let cls := 2 * f.cvc + (if f.cdl then 1 else 0)
  { x with replay := r, ackDt := if r.length < x.replay.length then dt else x.ackDt, nakIn := x.nakIn || f.nak,
           credits := mset zN x.credits cls (mget zN x.credits cls + f.ccnt) }

/-- A packet that a link has received whole, header first: one with a reserved TYPE or a non-zero RSV field is discarded and
counted (R461). The commands of the packets stand for those that are not (log 30). -/
def State.packetIn (s : State) (k : Nat) (f : Flit) (l : List Byte) : State :=
  if headerOk (BitVec.ofNat 384 (ofLe (l.take 48))) then { s with linkRx := s.linkRx ++ [(k, f.vc, f.dl, l)] }
  else s.odAdd odLinkDropMalformedCount 1

/-- A flit is accepted: its payload goes to its channel's packet (R446, R447). -/
def State.acceptFlit (s : State) (k : Nat) (f : Flit) : State :=
  let (x, l) := (s.link k).receive f
  let s := s.modLink k fun _ => { x with rxNext := (x.rxNext + 1) % 4096, nakSent := false }
  match l with
  | some l => s.packetIn k f l
  | none => s

/-- A received flit; the credit of one that is accepted goes back, since it leaves its receive buffer at once (R447, R449,
R450; log 30). -/
def State.takeFlit (s : State) (k : Nat) (f : Flit) : State :=
  if flitBad f then s.rejectFlit k
  else
    let s := s.modLink k fun x => x.header f s.clk.dt
    if f.fk ≠ 1 then s
    else if f.seq = (s.link k).rxNext then (s.acceptFlit k f).say k (.credit f.vc f.dl 1)
    else s.rejectFlit k

/-- The lanes that carry a link: of its good lanes the lowest-numbered, as many as its width; the others stand by (R453). -/
def activeLanes (k good : Nat) : List Nat := (bitsOf (linkLanes k) good).take (linkWidth k good)

/-- The corrected symbols of a pair count for the lanes that they came over: the symbols are dealt round-robin over the active
lanes (R444). Counts older than 100 ms lapse (R453). -/
def State.laneSymbols (s : State) (k : Nat) (symbols : List Nat) : State :=
  let act := activeLanes k (s.od (odAt odLanesGood k))
  let of (lane : Nat) : Nat := (symbols.filter fun i => act[i % act.length]? == some lane).length
  let new := ((act.map fun lane => (lane, s.clk.dt, of lane)).filter fun e => e.2.2 != 0)
  s.modLink k fun x => { x with laneErr := (x.laneErr.filter fun e => decide (s.clk.dt < e.2.1 + 100000000)) ++ new }

/-- Whether more than 11,200 symbols of a lane have been corrected within the last 100 ms (R453). -/
def State.laneOver (s : State) (k lane : Nat) : Bool :=
  decide (11200 < (((s.link k).laneErr.filter fun e => e.1 == lane && decide (s.clk.dt < e.2.1 + 100000000)).map (·.2.2)).sum)

/-- Both ends switch to the lanes now good at the pair boundary that a CTRL flit has named (R454, R455). -/
def State.laneSwap (s : State) (k : Nat) (pair : BitVec 16) : State :=
  match (s.link k).swap with
  | none => s
  | some at_ =>
    if 32768 ≤ (pair - at_).toNat then s
    else (s.modLink k fun x => { x with swap := none }).odSet (odAt odPortWidth k)
      (linkWidth k (s.od (odAt odLanesGood k)))

/-- FEC_PAIR_RECEIVE: corrections are counted, for the link and for each lane; an uncorrectable codeword discards every flit of
its pair (R444, R450). The pair count stands in the low 16 bits of the pair header, the pattern above it, and a pair without
the pattern is discarded like one that cannot be corrected (log 115). -/
def execFecPairReceive (link : Nat) (find : FecFind) (uncorrectable : Nat) (flits : List (BitVec 2048)) (s : State) :
    Host.Outcome State Fault Refusal :=
  if 36 ≤ link || !s.linkUp link then .next s
  else
    let s := s.odAdd (odAt odFecCorrectedCount link) find.corrected
    let s := (s.odAdd (odAt odFecUncorrectableCount link) uncorrectable).laneSymbols link find.symbols
    if uncorrectable ≠ 0 || fld find.header 16 24 ≠ 0x5A3C96 then .next (s.rejectFlit link)
    else
      let s := flits.foldl (fun (s : State) f => s.takeFlit link (flitOf f)) s
      let s := (s.laneSwap link (find.header.extractLsb' 0 16)).flushLink link
      .next (if 34 ≤ link then s.pumpHost else s)

/-- The unacknowledged flits go out again from ACK + 1 (R450). -/
def State.replay (s : State) (k : Nat) : State :=
  if (s.link k).replay.isEmpty then s.modLink k fun x => { x with nakIn := false }
  else
    let s := s.modLink k fun x =>
      { x with nakIn := false, ackDt := s.clk.dt, replay := x.replay.map fun f => { f with sent := f.sent + 1 } }
    (s.odAdd (odAt odReplayCount k) 1).sayReplay k

/-- LINK_NAK_REPLAY: on NAK, or after 5 µs without progress; a flit that was sent 8 times retrains the link
(R450, R451). -/
def execLinkNakReplay (link : Nat) (s : State) : Host.Outcome State Fault Refusal :=
  let x := s.link link
  if 36 ≤ link || !s.linkUp link || (!x.nakIn && (x.replay.isEmpty || decide (s.clk.dt < x.ackDt + 5000))) then .next s
  else if x.replay.any fun f => decide (8 ≤ f.sent) then
    let s := (s.modLink link fun x => { x with retraining := true, nakIn := false }).odSet (odAt odPortState link) 1
    .next ((s.logEv 0x7003 (unLink link) none noLunit []).hostSide)
  else .next (s.replay link)

/-! ### Lanes (R453 to R455) -/

/-- Whether a lane has become bad 4 times within 24 h; it counts until a RETRAIN (R455). -/
def State.laneBad4 (s : State) (k lane : Nat) : Bool :=
  match (s.link k).badLanes.find? fun b => b.1 == lane with
  | some (_, [a, _, _, d]) => decide (d < a + 86400000000000)
  | _ => false

/-- Traffic does not stop: a CTRL flit carries the map of the good lanes and names the pair boundary at which both ends switch.
How far ahead it lies is left open, 64 pairs or more: a free value (R453 to R455; log 5). -/
def State.nameSwap (s : State) (k : Nat) : State :=
  let pair : BitVec 16 := BitVec.ofNat 16 s.freeW.toNat
  ((s.useFree).modLink k fun x => { x with swap := some pair }).say k (.ctrl (s.od (odAt odLanesGood k)) pair)

/-- LANE_BAD: a lane loses its signal or its lock, or too many of its symbols are corrected. The link moves to the widest width
that its good lanes allow, or goes DOWN (R453, R454): after a loss of signal at once, with a replay; after a count of errors at
a pair boundary. -/
def execLaneBad (link lane : Nat) (signal : Bool) (s : State) : Host.Outcome State Fault Refusal :=
  if 36 ≤ link || linkLanes link ≤ lane || !s.linkUp link || !s.odBit (odAt odLanesGood link) lane ||
      !(signal || s.laneOver link lane) then .next s
  else
    let s := s.odPutBit (odAt odLanesGood link) lane false
    let s := s.laneFell link lane 4
    let w := linkWidth link (s.od (odAt odLanesGood link))
    let s := s.logEv 0x7001 (unLane link lane) none noLunit [link, lane, w]
    if w = 0 then .next ((s.odSet (odAt odPortWidth link) 0).linkDown link 0)
    else if signal then
      .next (((s.modLink link fun x => { x with swap := none }).odSet (odAt odPortWidth link) w).replay link)
    else .next (s.nameSwap link)

/-- LANE_RETEST: a bad lane passes with at most 112 symbol errors; a wider set is switched to at a pair boundary; one that has
become bad 4 times within 24 h waits for a RETRAIN (R455), and one whose class has no return by R455 stays out (R495). While
the link is DOWN the lane returns and serves from the next training on. -/
def execLaneRetest (link lane errors : Nat) (s : State) : Host.Outcome State Fault Refusal :=
  let un := unLane link lane
  if 36 ≤ link || linkLanes link ≤ lane || !s.up || !(s.link link).enabled || s.odBit (odAt odLanesGood link) lane ||
      s.laneBad4 link lane || decide (112 < errors) || s.fuseBad un ||
      (s.studOf un).any (fun r => r.cls != clsSuspect && r.cls != clsExternal && r.cls != clsReturned) then .next s
  else if !s.linkUp link then .next (if s.od (odAt odPortState link) = 0 then s.studReturn un 6 else s)
  else
    let old := s.od (odAt odPortWidth link)
    let s := (s.odPutBit (odAt odLanesGood link) lane true).studReturn un 6
    let w := linkWidth link (s.od (odAt odLanesGood link))
    if old < w then .next ((s.nameSwap link).logEv 0x7002 (unLane link lane) none noLunit [])
    else .next s

/-! ### PORT_CTRL (R456) -/

/-- The effect of a write to PORT_CTRL, which keeps the code (R456, R478). A link that is disabled takes no RETRAIN. -/
def State.portCtrl (s : State) (k v : Nat) : State × Nat :=
  let st := s.od (odAt odPortState k)
  if v = 1 then
    let s := (s.modLink k fun x => { x with enabled := true }).odSet (odAt odPortCtrl k) 1
    (if st = 2 then s else s.odSet (odAt odPortState k) 1, odOk)
  else if v = 2 then
    (((s.modLink k fun x => { x with enabled := false }).odSet (odAt odPortCtrl k) 2).linkDown k 3, odOk)
  else if v = 3 then
    if !(s.link k).enabled then (s, odRange)
    else
      let s := (s.modLink k fun x => { x with badLanes := [], retest := true }).odSet (odAt odPortCtrl k) 3
      ((s.linkDown k 1), odOk)
  else (s, odRange)

/-- PORT_ENABLE (R456). -/
def execPortEnable (route link : Nat) (s : State) : Host.Outcome State Fault Refusal :=
  .next (s.keyWrite route (odAt odPortCtrl link) fun s => s.portCtrl link 1)
/-- PORT_DISABLE (R456). -/
def execPortDisable (route link : Nat) (s : State) : Host.Outcome State Fault Refusal :=
  .next (s.keyWrite route (odAt odPortCtrl link) fun s => s.portCtrl link 2)
/-- PORT_RETRAIN (R456). -/
def execPortRetrain (route link : Nat) (s : State) : Host.Outcome State Fault Refusal :=
  .next (s.keyWrite route (odAt odPortCtrl link) fun s => s.portCtrl link 3)

/-! ### Routed packets (R442, R457 to R461) -/

/-- The channel of a routed packet's type: DMA for window requests, CMD for WDONE, MGMT for management (R448). -/
def typeVc (typ : Nat) : Nat := if typ ≤ 3 then 2 else if typ = 4 then 1 else 0

/-- Whether a management packet is for a direct neighbour or flooded, so that its DST_ID says nothing (R470). -/
def pktUnrouted (b : PktBody) (typ : Nat) : Bool := decide (8 ≤ typ) && fld b.mid 1 2 != 0

/-- ROUTED_PACKET_ARRIVAL: a packet with a reserved TYPE or a non-zero RSV field is discarded and counted, on a host link too
(R461). On a device link, one that is not for this module is passed on with its header and its data (R442, R458, R460), and one
that is too old or has crossed too many links is discarded and counted (R461). What a time message, a host message or a packet
for this module does stands under its own command. -/
def execRoutedPacketArrival (link : Nat) (dst : BitVec 16) (typ hops ageUs : Nat) (dl : Bool) (body : PktBody) (s : State) :
    Host.Outcome State Fault Refusal :=
  let here := s.od odDeviceIdValid = 1 && s.od odDeviceId = dst.toNat
  let p : RoutedPkt := ⟨dst, typ, hops + 1, ageUs, body⟩
  if 36 ≤ link || !s.linkUp link then .next s
  else if 32 ≤ typ || !headerOk (BitVec.ofNat 384 p.header) then .next (s.odAdd odLinkDropMalformedCount 1)
  else if 34 ≤ link || 12 ≤ typ || pktUnrouted body typ then .next s
  else
    match s.pktDiscard hops ageUs with
    | some ctr => .next (s.odAdd ctr 1)
    | none =>
      if here && !s.dieCutOff (linkDie link) then .next s
      else .next (s.relay link dst.toNat (typeVc typ) dl (48 + body.data.length) (if here then 0 else hops + 1) (.forward p))

/-- LINK_WAIT_DISCARD: a packet that has waited 1 ms at a device link (R459). The messages of the host ports are no routed
packets of the fabric, whose deadlocks this rule clears (log 115). -/
def execLinkWaitDiscard (link : Nat) (s : State) : Host.Outcome State Fault Refusal :=
  if 34 ≤ link then .next s
  else match (s.link link).wait.find? fun w => decide (w.since + 1000000 ≤ s.clk.dt) with
  | none => .next s
  | some w =>
    .next ((s.modLink link fun x => { x with wait := x.wait.erase w }).odAdd odLinkDropWaitCount 1)

/-! ### Time messages (R465 to R467) -/

/-- The device links that are UP. -/
def State.devLinks (s : State) : List Nat := (List.range 34).filter s.linkUp

/-- Whether time message `a` of link `ka` comes before `b` of link `kb` in the choice of the time parent: the
higher term, between masters of one term the lower ID (R471, R472), then TDEPTH, SRC_ID and link (R466). -/
def annBefore (a : TimeMsg) (ka : Nat) (b : TimeMsg) (kb : Nat) : Bool :=
  if a.term ≠ b.term then decide (b.term < a.term)
  else if a.masterId ≠ b.masterId then decide (a.masterId < b.masterId)
  else if a.tdepth ≠ b.tdepth then decide (a.tdepth < b.tdepth)
  else if a.src ≠ b.src then decide (a.src < b.src)
  else decide (ka < kb)

/-- The links whose last TIME_ANN is at most 1 ms old, with a time path (R466). -/
def State.annLinks (s : State) : List (Nat × TimeMsg) :=
  s.devLinks.filterMap fun k =>
    match (s.link k).lastAnn with
    | some (t, m) => if s.clk.dt ≤ t + 1000000 && m.tdepth ≠ 0xFF then some (k, m) else none
    | none => none

/-- The time parent (R466). -/
def bestAnn : List (Nat × TimeMsg) → Option (Nat × TimeMsg)
  | [] => none
  | x :: xs =>
    match bestAnn xs with
    | none => some x
    | some y => if annBefore y.2 y.1 x.2 x.1 then some y else some x

/-- Follow the fabric master of a time parent (R466, R471). -/
def State.followMaster (s : State) (m : TimeMsg) : State :=
  let new := s.od odFabricTerm ≠ m.term.toNat || s.od odFabricMasterId ≠ m.masterId.toNat
  let s := (s.odSet odFabricTerm m.term.toNat).odSet odFabricMasterId m.masterId.toNat
  let s := s.odSet odTimeDepth (min 0xFF (m.tdepth + 1))
  if new then s.logEv 0x7007 unModule none noLunit [m.term.toNat, m.masterId.toNat] else s

/-- Whether this module, as master, is outranked by the master of a time message (R471, R472). -/
def State.outranked (s : State) (m : TimeMsg) : Bool :=
  decide (s.od odFabricTerm < m.term.toNat) ||
    (s.od odFabricTerm == m.term.toNat && decide (m.masterId.toNat < s.od odDeviceId))

/-- A management message of this module. -/
def State.mgmtMsg (s : State) : MgmtMsg :=
  { dst := 0, src := BitVec.ofNat 16 (s.od odDeviceId), tag := 0, hops := 0, ageUs := s.ageNow,
    idv := s.od odDeviceIdValid == 1, nbr := false, flood := false,
    term := BitVec.ofNat 16 (s.od odFabricTerm), serial := 0, ident := 0, idf := false, status := 0, rlink := 0,
    relay := 0, tver := 0, tpart := 0, tnpart := 0, entries := [] }

/-- Ask a neighbour that holds a device ID for one (R469, R470): LAST_ID is valid once an ID has been assigned. After FULL or
DEFERRED the request is repeated every 1 s. -/
def State.askId (s : State) (k : Nat) : State :=
  let m : MgmtMsg :=
    { s.mgmtMsg with nbr := true, src := 0, tag := s.fabric.idReqTag, serial := Config.serial,
                     ident := BitVec.ofNat 16 (s.od odLastId), idf := s.dict.lastId }
  let s : State := { s with fabric := { s.fabric with idReqTag := s.fabric.idReqTag + 1, idAsked := true,
                                                      idRetry := s.fabric.idRetry.map fun _ => s.clk.dt } }
  s.sendFrom none k 0 false 48 (.mgmt 8 m)

/-- Whether MSEQ has advanced on a link since its latest TIME_ANN (R467). -/
def annAdvances (last : Option (Nat × TimeMsg)) (m : TimeMsg) : Bool :=
  match last with
  | none => true
  | some (_, p) => p.term != m.term || (m.mseq != p.mseq && decide ((m.mseq - p.mseq).toNat < 32768))

/-- TIME_ANN: the time parent, the fabric master, the offset and FABRIC_LOCK (R402 to R404, R466, R467); a
module without a device ID asks a neighbour that has one (R470). -/
def execTimeAnn (link : Nat) (m : TimeMsg) (s : State) : Host.Outcome State Fault Refusal :=
  if 34 ≤ link || !s.linkUp link then .next s
  else
    let adv := annAdvances (s.link link).lastAnn m
    let s := s.modLink link fun x => { x with lastAnn := some (s.clk.dt, m) }
    let s : State := if adv then
        { s with fabric := { s.fabric with mseqDt := s.clk.dt, silent := false, heard := none } } else s
    let s := if s.od odDeviceIdValid = 0 && m.idv && !s.fabric.idAsked then s.askId link else s
    let s : State := if s.fabric.isMaster && s.outranked m then
        { s with fabric := { s.fabric with isMaster := false, tookOver := false } } else s
    if s.fabric.isMaster then .next s
    else
      match bestAnn s.annLinks with
      | none => .next s
      | some (k, b) =>
        let first := !s.fabric.inFabric
        let s := ({ s with fabric := { s.fabric with inFabric := true, parent := some k, mseq := b.mseq,
                                                     lastTimeDt := some s.clk.dt } } : State).followMaster b
        if k ≠ link then .next s
        else
          let o := s.dtFine - m.ft - (s.link link).delay
          if first && !s.ready then
            let s := ({ s with clk := { s.clk with fabricErr := o } } : State).toFabricTime
            let s := s.logEv 0x3007 (unNode (s.od odLeadNode)) none noLunit [wrapI 32 (-o / 2 ^ 16)]
            .next (s.takeOffset 0)
          else .next (s.takeOffset o)

/-- A time message of this module. -/
def State.timeMsg (s : State) : TimeMsg :=
  { masterId := BitVec.ofNat 16 (s.od odFabricMasterId), src := BitVec.ofNat 16 (s.od odDeviceId),
    idv := s.od odDeviceIdValid == 1, lock := s.od odFabricLock == 1 || s.fabric.isMaster,
    tdepth := s.od odTimeDepth, term := BitVec.ofNat 16 (s.od odFabricTerm), mseq := s.fabric.mseq, ft := 0, tRx := 0 }

/-- TIME_ANN_SEND: every device link sends the sender's estimate of fabric time; the master counts its
announcements (R465, R467). -/
def execTimeAnnSend (link : Nat) (s : State) : Host.Outcome State Fault Refusal :=
  if 34 ≤ link || !s.linkUp link then .next s
  else
    let s : State := if s.fabric.isMaster then
        { s with fabric := { s.fabric with mseq := s.fabric.mseq + 1, annSeq := s.fabric.annSeq + 1,
                                           mseqDt := s.clk.dt } } else s
    let m : TimeMsg := { s.timeMsg with ft := s.dtFine - s.clk.fabricErr }
    .next (s.sendOn link 3 false 48 none (.ann m))

/-- DELAY_REQ: stamped at its arrival and answered with both stamps; MSEQ is the master's count as last received (R465,
R466). -/
def execDelayReq (link : Nat) (_m : TimeMsg) (s : State) : Host.Outcome State Fault Refusal :=
  if 34 ≤ link || !s.linkUp link then .next s
  else
    .next (s.sendOn link 3 false 48 none (.delayResp { s.timeMsg with ft := s.dtFine, tRx := s.dtFine }))

/-- DELAY_REQ_SEND: t1 is the departure of the request, which the link die writes into it (R465, R466; log 115). -/
def execDelayReqSend (link : Nat) (s : State) : Host.Outcome State Fault Refusal :=
  if 34 ≤ link || !s.linkUp link then .next s
  else
    let t := s.dtFine
    .next ((s.modLink link fun x => { x with t1 := t }).sendOn link 3 false 48 none (.delayReq { s.timeMsg with ft := t }))

/-- DELAY_RESP: the delay of the link is ((t4 − t1) − (t3 − t2)) / 2 (R466). -/
def execDelayResp (link : Nat) (m : TimeMsg) (s : State) : Host.Outcome State Fault Refusal :=
  if 34 ≤ link || !s.linkUp link then .next s
  else
    let t4 := s.dtFine
    .next (s.modLink link fun x => { x with delay := ((t4 - x.t1) - (m.ft - m.tRx)) / 2 })

/-! ### The fabric master (R467, R468, R471, R472) -/

/-- Send a claim on every UP device link but the one on which it came; a module without a device ID sends none (R457, R470,
R471), and one that has crossed 32 links is discarded (R461). -/
def State.flood (s : State) (src : Option Nat) (may : Nat → Bool) (m : MgmtMsg) : State :=
  if s.od odDeviceIdValid = 0 then s
  else if 32 ≤ m.hops then s.odAdd odLinkDropHopsCount 1
  else (s.devLinks.filter fun k => some k != src && may k).foldl
    (fun (s : State) k => s.sendFrom (src.map linkDie) k 0 false 48 (.mgmt 11 m)) s

/-- This module claims the office with the next term (R471). -/
def State.claim (s : State) : State :=
  let t : BitVec 16 := BitVec.ofNat 16 (s.od odFabricTerm + 1)
  let m : MgmtMsg :=
    { s.mgmtMsg with flood := true, term := t, ident := BitVec.ofNat 16 (s.od odDeviceId),
                     idf := s.od odFabricRole == 2 }
  let s : State := { s with fabric := { s.fabric with claim := some (t, s.clk.dt),
                                                      seen := s.fabric.seen ++ [(t, m.ident)] } }
  s.flood none (fun _ => true) m

/-- Whether a claim outranks another: its term, then the configured master, then the lower ID (R471). -/
def claimBeats (a b : BitVec 16 × BitVec 16 × Bool) : Bool :=
  decide (b.1 < a.1) || (a.1 == b.1 && ((a.2.2 && !b.2.2) || (a.2.2 == b.2.2 && decide (a.2.1 < b.2.1))))

/-- The claim that this module would make with a term (R471). -/
def State.ownClaim (s : State) (t : BitVec 16) : BitVec 16 × BitVec 16 × Bool :=
  (t, BitVec.ofNat 16 (s.od odDeviceId), s.od odFabricRole == 2)

/-- MASTER_SILENT: MSEQ has not advanced on any link for 50 ms; a master-eligible module claims (R467, R471). One that has heard
a claim which outranks its own has withdrawn. -/
def execMasterSilent (s : State) : Host.Outcome State Fault Refusal :=
  if !s.fabric.inFabric || s.fabric.isMaster || decide (s.clk.dt < s.fabric.mseqDt + 50000000) then .next s
  else
    let s : State := { s with fabric := { s.fabric with silent := true } }
    let beaten := s.fabric.heard.any fun h => claimBeats h (s.ownClaim (BitVec.ofNat 16 (s.od odFabricTerm + 1)))
    if 1 ≤ s.od odFabricRole && s.od odDeviceIdValid = 1 && s.fabric.claim.isNone && !beaten then .next s.claim
    else .next s

/-- A claim reaches this module: the strongest is remembered, and a claimant that it outranks withdraws (R471). -/
def State.hearClaim (s : State) (m : MgmtMsg) : State :=
  let c := (m.term, m.ident, m.idf)
  let out := s.fabric.claim.any fun o => claimBeats c (s.ownClaim o.1)
  { s with fabric := { s.fabric with seen := s.fabric.seen ++ [(m.term, m.ident)]
                                     heard := if s.fabric.heard.any fun h => claimBeats h c then s.fabric.heard else some c
                                     claim := if out then none else s.fabric.claim } }

/-- A claim at a link die that is cut off from the mesh goes on over the other links of that die, once; what would go further
is discarded and counted (R442, R471). -/
def State.cutClaim (s : State) (link : Nat) (m : MgmtMsg) : State :=
  let die := linkDie link
  let s' := if s.fabric.seenCut.contains (die, m.term, m.ident) then s
    else ({ s with fabric := { s.fabric with seenCut := s.fabric.seenCut ++ [(die, m.term, m.ident)] } } : State).flood
      (some link) (fun k => linkDie k == die) { m with hops := m.hops + 1 }
  s'.odAdd odLinkIsolatedDropCount 1

/-- MASTER_CLAIM: forwarded once, on every other UP device link; a claimant that is outranked withdraws (R461,
R470, R471). -/
def execMasterClaim (link : Nat) (m : MgmtMsg) (s : State) : Host.Outcome State Fault Refusal :=
  if 34 ≤ link || !s.linkUp link then .next s
  else
    match s.pktDiscard m.hops m.ageUs with
    | some ctr => .next (s.odAdd ctr 1)
    | none =>
      if s.dieCutOff (linkDie link) then .next (s.cutClaim link m)
      else if s.fabric.seen.contains (m.term, m.ident) then .next s
      else .next ((s.hearClaim m).flood (some link) (fun _ => true) { m with hops := m.hops + 1 })

/-- MASTER_TAKE_OFFICE: no outranking claim for 2 ms; its own DT is fabric time from now on (R471). -/
def execMasterTakeOffice (s : State) : Host.Outcome State Fault Refusal :=
  match s.fabric.claim with
  | none => .next s
  | some (t, since) =>
    if s.clk.dt < since + 2000000 then .next s
    else
      let id := s.od odDeviceId
      let s : State := { s with fabric := { s.fabric with isMaster := true, tookOver := s.od odFabricRole != 2,
                                                          claim := none, silent := false, parent := none,
                                                          mseqDt := s.clk.dt }
                                clk := { s.clk with fabricErr := 0 } }
      let s := ((s.odSet odFabricTerm t.toNat).odSet odFabricMasterId id).odSet odTimeDepth 0
      .next ((s.odSet odFabricOffset 0).logEv 0x7007 unModule none noLunit [t.toNat, id])

/-- CONFIGURED_MASTER_RECLAIM: a configured master that has followed for 1 s of FABRIC_LOCK claims (R472). -/
def execConfiguredMasterReclaim (s : State) : Host.Outcome State Fault Refusal :=
  match s.fabric.lockSince with
  | none => .next s
  | some t =>
    if s.od odFabricRole ≠ 2 || s.fabric.isMaster || s.fabric.claim.isSome || s.od odFabricLock = 0 ||
        decide (s.clk.dt < t + 1000000000) then .next s
    else .next s.claim

/-! ### Device IDs (R457, R469, R470) -/

/-- The ID table in parts of up to 224 entries (R470). -/
def tableParts (l : List (BitVec 128 × BitVec 16)) : List (List (BitVec 128 × BitVec 16)) :=
  (List.range ((max 1 l.length + 223) / 224)).map fun i => (l.drop (224 * i)).take 224

/-- Send the table to every other module that holds an ID: the eligible ones keep it (R469, R470; log 32). -/
def State.sendTable (s : State) : State :=
  let ps := tableParts s.fabric.ids
  (s.fabric.ids.filter fun e => e.2.toNat != s.od odDeviceId).foldl
    (fun (s : State) e =>
      ps.zipIdx.foldl
        (fun (s : State) pi =>
          let m : MgmtMsg :=
            { s.mgmtMsg with dst := e.2, tver := s.fabric.tver, tpart := pi.2, tnpart := ps.length - 1,
                             entries := pi.1 }
          s.sendRouted e.2.toNat 0 (48 + 18 * pi.1.length) (.mgmt 10 m)) s) s

/-- The lowest device ID that no serial holds. -/
def freeId (l : List (BitVec 128 × BitVec 16)) : Option Nat :=
  (List.range 65536).find? fun i => !(l.any fun e => e.2.toNat == i)

/-- The ID that the master grants a serial, with the status otherwise: 1 FULL, 2 DEFERRED (R469, R471). -/
def State.grantId (s : State) (m : MgmtMsg) : Except Nat (BitVec 16) :=
  match s.fabric.ids.find? fun e => e.1 == m.serial with
  | some e => .ok e.2
  | none =>
    if s.fabric.tookOver then .error 2
    else if m.idf && !(s.fabric.ids.any fun e => e.2 == m.ident) then .ok m.ident
    else match freeId s.fabric.ids with
      | some i => .ok (BitVec.ofNat 16 i)
      | none => .error 1

/-- Send an ID_ASSIGN back through the relaying neighbour, or onward to the requester from that neighbour
(R470); it counts the links that it crosses, and one that has crossed 32 is discarded (R461). -/
def State.assignOut (s : State) (die : Option Nat) (m : MgmtMsg) : State :=
  if 32 ≤ m.hops then s.odAdd odLinkDropHopsCount 1
  else if m.relay.toNat = s.od odDeviceId then s.sendFrom die m.rlink 0 false 48 (.mgmt 9 { m with nbr := true })
  else s.sendRouted m.relay.toNat 0 48 (.mgmt 9 m)

/-- The master answers an ID_REQ (R469, R470). -/
def State.answerId (s : State) (m : MgmtMsg) : State :=
  let r : MgmtMsg :=
    { s.mgmtMsg with dst := m.relay, tag := m.tag, serial := m.serial, rlink := m.rlink, relay := m.relay }
  match s.grantId m with
  | .error st => s.assignOut none { r with status := st }
  | .ok i =>
    let r := { r with ident := i }
    if s.fabric.ids.any fun e => e.1 == m.serial then s.assignOut none r
    else
      let s : State := { s with fabric := { s.fabric with ids := s.fabric.ids ++ [(m.serial, i)],
                                                          tver := s.fabric.tver + 1 } }
      (s.assignOut none r).sendTable

/-- ID_REQ: from a neighbour it is relayed to the master; at the master it is answered (R461, R470). A link die that is cut off
from the mesh passes it on over its own links only (R442). -/
def execIdReq (link : Nat) (m : MgmtMsg) (s : State) : Host.Outcome State Fault Refusal :=
  if 34 ≤ link || !s.linkUp link || s.od odDeviceIdValid = 0 then .next s
  else
    match s.pktDiscard m.hops m.ageUs with
    | some ctr => .next (s.odAdd ctr 1)
    | none =>
      let own := BitVec.ofNat 16 (s.od odDeviceId)
      let m : MgmtMsg := if m.nbr then
          { m with nbr := false, rlink := link, relay := own, dst := BitVec.ofNat 16 (s.od odFabricMasterId) }
        else m
      if m.dst = own then
        .next (if s.dieCutOff (linkDie link) then s.odAdd odLinkIsolatedDropCount 1
          else if s.fabric.isMaster then s.answerId m else s)
      else .next (s.relay link m.dst.toNat 0 false 48 (m.hops + 1) (.mgmt 8 { m with hops := m.hops + 1 }))

/-- The ID granted to this module's serial, or FULL or DEFERRED (R469, R470). -/
def State.takeId (s : State) (m : MgmtMsg) : State :=
  if m.serial ≠ Config.serial || s.od odDeviceIdValid = 1 then s
  else if m.status = 0 then
    let id := m.ident.toNat
    let s : State := { s with fabric := { s.fabric with idRetry := none }, dict := { s.dict with lastId := true } }
    (((s.odSet odDeviceId id).odSet odDeviceIdValid 1).odSet odLastId id).logEv 0x7008 unModule none noLunit []
  else if m.status ≤ 2 then { s with fabric := { s.fabric with idRetry := some s.clk.dt } }
  else s

/-- ID_ASSIGN: a requester takes the ID granted to its serial; the relaying neighbour sends it on (R469, R470), from a link die
that is cut off on a link of that die alone (R442). -/
def execIdAssign (link : Nat) (m : MgmtMsg) (s : State) : Host.Outcome State Fault Refusal :=
  if 34 ≤ link || !s.linkUp link then .next s
  else
    match s.pktDiscard m.hops m.ageUs with
    | some ctr => .next (s.odAdd ctr 1)
    | none =>
      let mine := !m.nbr && s.od odDeviceIdValid = 1 && m.relay.toNat = s.od odDeviceId
      if s.dieCutOff (linkDie link) && !(mine && linkDie m.rlink == linkDie link) then
        .next (s.odAdd odLinkIsolatedDropCount 1)
      else if m.nbr then .next (s.takeId m)
      else if mine then .next (s.assignOut (some (linkDie link)) { m with hops := m.hops + 1 })
      else .next s

/-- ID_REQ_REPEAT: 1 s after FULL or DEFERRED (R469, R470). -/
def execIdReqRepeat (s : State) : Host.Outcome State Fault Refusal :=
  match s.fabric.idRetry with
  | none => .next s
  | some t =>
    if s.clk.dt < t + 1000000000 || s.od odDeviceIdValid = 1 then .next s
    else
      match s.devLinks.find? fun k => match (s.link k).lastAnn with
          | some (_, m) => m.idv
          | none => false with
      | none => .next s
      | some k => .next (s.askId k)

/-- ID_TABLE: a master-eligible module replaces its copy once it holds every part of one version (R470). -/
def execIdTable (x : MgmtIn) (s : State) : Host.Outcome State Fault Refusal :=
  .next (s.fromLink x.link fun s =>
    match s.pktDiscard x.msg.hops x.msg.ageUs with
    | some ctr => s.odAdd ctr 1
    | none =>
      if s.od odFabricRole = 0 || s.fabric.isMaster || s.od odDeviceIdValid = 0 ||
          x.msg.dst.toNat ≠ s.od odDeviceId then s
      else
        let f := s.fabric
        let old := if f.partsVer = x.msg.tver then f.parts.filter fun p => p.1 != x.msg.tpart else []
        let parts := old ++ [(x.msg.tpart, x.msg.entries)]
        let get (i : Nat) : Option (List (BitVec 128 × BitVec 16)) := (parts.find? fun p => p.1 == i).map (·.2)
        let all := (List.range (x.msg.tnpart + 1)).map get
        if all.all (·.isSome) then
          { s with fabric := { f with ids := (all.filterMap id).flatten, tver := x.msg.tver, parts := [],
                                      partsVer := x.msg.tver } }
        else { s with fabric := { f with parts := parts, partsVer := x.msg.tver } })

/-- ID_TABLE_SEND: the master sends the whole table (R469). -/
def execIdTableSend (s : State) : Host.Outcome State Fault Refusal :=
  .next (if s.fabric.isMaster then s.sendTable else s)

/-! ### Host ports (R473, R476) -/

/-- HRD_DATA: the card returns the host memory data of the read with its tag (R473). -/
def execHrdData (tag : BitVec 32) (data : List Byte) (s : State) : Host.Outcome State Fault Refusal :=
  .next (if !s.hostUp then s.hostLost 0
    else
      let hit (q : HostRead) : Bool := q.tag == tag && q.data.isNone && q.bytes == data.length
      { s with hrd := { s.hrd with reqs := s.hrd.reqs.filter (fun q => !hit q) ++
          (s.hrd.reqs.filter hit).map fun q => { q with data := some data } } })

/-- HOST_PORT_RETURN: to host port A, once it has been UP for 1 s (R476). -/
def execHostPortReturn (s : State) : Host.Outcome State Fault Refusal :=
  .next (if s.hostPort ≠ 34 && s.linkUp 34 && decide ((s.link 34).upSince + 1000000000 ≤ s.clk.dt) then
    { s with hostPort := 34 } else s)

end Sys2Proof.Machine
end

