-- ==== Sys2Proof/Machine/Ls.lean ====
section
/-! DEFINITION. The LS0 and LS1 slots (R191, R192): loads and stores of vector, scalar and mask
registers. -/

namespace Sys2Proof.Machine

open Sys2Proof

/-- The slot code of an LS slot (R202). -/
def lsSlot (f : LsSlot) : Nat := if f.port1 then 4 else 3
/-- The rank of a load among writes of one cycle (R168). -/
def lsRank (f : LsSlot) : Nat := if f.port1 then 5 else 4

/-- An LS operation: its encoding, the parity of SA, the VXE's claim on its registers (R156), its rows
(R192), then `k` with its first row. -/
def lsOp (op : Nat) (vxReg : Bool) (c : CoreId) (f : LsSlot) (s : State)
    (k : Nat → CoreSt → CoreSt → CoreSt × Bool) : Host.Outcome State Fault Refusal :=
  .next (s.slotOp c (lsSlot f) (lsWord op f) (lsEncOk op f) fun beg cur =>
    let row := f.addr.toNat + (beg.s f.sa.toNat).toNat
    let causes := (if beg.sBad f.sa.toNat || (op == 4 && beg.sBad f.reg.toNat) then [0x0D] else []) ++
      (if vxReg && (beg.vxBusy || cur.slotWord 1 / 2 ^ 42 == 0x2F) then [0x04] else []) ++
      (if 4095 < row + (if op ≤ 2 then cntRows f.cnt.toNat - 1 else 0) then [0x06] else [])
    if !causes.isEmpty then (causes, cur)
    else
      let (cur, bad) := k row beg cur
      if bad then ([0x07], cur) else ([], cur))

/-- Issue the reads of a vector load, one part a row. -/
def ldvRows (f : LsSlot) (c : CoreSt) (row part : Nat) : Nat → CoreSt × Bool
  | 0 => (c, false)
  | n + 1 =>
    let (c, _, bad) := c.readRow c.bpc (lsSlot f) (lsRank f) row (.vpart f.reg.toNat part)
    let (c, bad') := ldvRows f c (row + 1) (part + 1) n
    (c, bad || bad')

/-- LS.NOP: no effect (R192). -/
def execLsNop (c : CoreId) (f : LsSlot) (s : State) : Host.Outcome State Fault Refusal :=
  .next (s.slotOp c (lsSlot f) (lsWord 0 f) (lsEncOk 0 f) fun _ cur => ([], cur))

/-- LS.LDV: rows into parts PART onward of vector register REG, at the end of cycle c + 6 (R192). -/
def execLsLdv (c : CoreId) (f : LsSlot) (s : State) : Host.Outcome State Fault Refusal :=
  lsOp 1 true c f s fun row _ cur => ldvRows f cur row f.part.toNat (cntRows f.cnt.toNat)

/-- LS.STV: parts PART onward of REG into rows, as full-row writes (R192). -/
def execLsStv (c : CoreId) (f : LsSlot) (s : State) : Host.Outcome State Fault Refusal :=
  lsOp 2 true c f s fun row beg cur =>
    let v := beg.v f.reg.toNat
    cur.writeRows row ((List.range (cntRows f.cnt.toNat)).map fun i =>
      v.extractLsb' (256 * (f.part.toNat + i)) 256)

/-- LS.LDW: word WSEL of the row into scalar register REG, at the end of cycle c + 6 (R167, R192). -/
def execLsLdw (c : CoreId) (f : LsSlot) (s : State) : Host.Outcome State Fault Refusal :=
  lsOp 3 false c f s fun row _ cur =>
    let (cur, _, bad) := cur.readRow cur.bpc (lsSlot f) (lsRank f) row (.scalar f.reg.toNat f.wsel.toNat)
    (cur, bad)

/-- LS.STW: scalar register REG into word WSEL of the row, as a partial-row write (R190, R192). -/
def execLsStw (c : CoreId) (f : LsSlot) (s : State) : Host.Outcome State Fault Refusal :=
  lsOp 4 false c f s fun row beg cur =>
    let sh := 32 * f.wsel.toNat
    cur.writePart cur.bpc (lsSlot f) row ((beg.s f.reg.toNat).zeroExtend 256 <<< sh) ((BitVec.allOnes 32).zeroExtend 256 <<< sh)

/-- LS.LDM: quarter WSEL of the row into mask REG; a load into M0 is ignored (R192). -/
def execLsLdm (c : CoreId) (f : LsSlot) (s : State) : Host.Outcome State Fault Refusal :=
  lsOp 5 true c f s fun row _ cur =>
    let (cur, _, bad) := cur.readRow cur.bpc (lsSlot f) (lsRank f) row (.mask f.reg.toNat f.wsel.toNat)
    (cur, bad)

/-- LS.STM: mask REG into quarter WSEL of the row, as a partial-row write (R190, R192). -/
def execLsStm (c : CoreId) (f : LsSlot) (s : State) : Host.Outcome State Fault Refusal :=
  lsOp 6 true c f s fun row beg cur =>
    let sh := 64 * f.wsel.toNat
    cur.writePart cur.bpc (lsSlot f) row ((beg.m f.reg.toNat).zeroExtend 256 <<< sh) ((BitVec.allOnes 64).zeroExtend 256 <<< sh)

end Sys2Proof.Machine
end

