-- ==== Sys2Proof/Machine/Security.lean ====
section
/-! DEFINITION. Identity and closed access (R538 to R554): certificates, quotes, proofs of the owner, scopes and
the lifecycle. Hashes and signatures are uninterpreted (log 10). -/

namespace Sys2Proof.Machine

open Sys2Proof

/-! ### Keys and certificates (R541 to R543, R575) -/

/-- Bytes cut or filled with zeros to a length. -/
def padTo (n : Nat) (l : List Byte) : List Byte := l.take n ++ List.replicate (n - l.length) 0

/-- The epoch field of the identity key. -/
def idkEpoch : Nat := 0xFFFFFFFF

/-- "WX3216 " with the name of a key (R541). -/
def keyLabel (name : List Byte) : List Byte := [0x57, 0x58, 0x33, 0x32, 0x31, 0x36, 0x20] ++ name
/-- The seed of a key pair, from the device secret in the vault of any link die (R540, R541). -/
def keySeed (name : List Byte) (epoch : Nat) : Nat :=
  Config.shake256 96 (leBytes 32 Config.uds.toNat ++ keyLabel name ++ leBytes 4 epoch)
/-- The seed of the identity key, IDK (R541). -/
def idkSeed : Nat := keySeed [0x49, 0x44, 0x4B] idkEpoch
/-- The seed of the attestation key of an owner epoch, ATK (R541). -/
def atkSeed (epoch : Nat) : Nat := keySeed [0x41, 0x54, 0x4B] epoch

/-- The body of a certificate (R543). -/
def certBody (kind pset epoch st key issuer : Nat) : List Byte :=
  leBytes 256 (0x57434552 + kind * 2 ^ 32 + pset * 2 ^ 40 + epoch * 2 ^ 96 + Config.serial.toNat * 2 ^ 128 +
    st % 2 ^ 64 * 2 ^ 256 + key % 2 ^ 512 * 2 ^ 512 + issuer % 2 ^ 512 * 2 ^ 1024)

/-- A certificate: its body, and the issuer's signature over it (R542, R543). -/
def certOf (sign : List Byte → List Byte) (body : List Byte) : List Byte := body ++ padTo 29792 (sign body)

/-- The identity certificate (R543). -/
def idCert : List Byte :=
  certOf Config.authoritySign (certBody 1 1 idkEpoch Config.idIssuedSt (Config.slhPublic 1 idkSeed)
    (Config.shake256 64 (leBytes 64 Config.authorityKey)))

/-- The attestation certificate of an owner epoch issued at a service time (R543). -/
def atkCert (epoch st : Nat) : List Byte :=
  certOf (Config.slhSign 1 idkSeed) (certBody 2 2 epoch st (Config.slhPublic 2 (atkSeed epoch))
    (Config.shake256 64 (leBytes 64 (Config.slhPublic 1 idkSeed))))

/-- The attestation certificate of the present epoch, empty before it is issued (R543). -/
def State.atkCertNow (s : State) : List Byte :=
  let e := s.od odOwnerEpoch
  match mget zN s.sec.atkIssued e with
  | 0 => []
  | t + 1 => atkCert e t

/-- The SHAKE256 of the fuse map in use (R575). -/
def State.fuseDigest (s : State) : Nat :=
  Config.shake256 64 (Config.fuseMapBytes (if s.fuse = s.fused.limit then 0 else 1))

/-- The owner key of the present epoch (R538). -/
def State.ownerKey (s : State) : List Byte := mget (fun _ => []) s.sec.ownerKeys (s.od odOwnerEpoch)

/-- ATTESTATION_CERTIFICATE_ISSUED: once READY in an owner epoch; not before VENDOR nor in RETIRED (R541, R543). -/
def execAttestationCertificateIssued (s : State) : Host.Outcome State Fault Refusal :=
  let e := s.od odOwnerEpoch
  let lc := s.od odLifecycle
  if !s.ready || lc = 0 || 4 ≤ lc || mget zN s.sec.atkIssued e ≠ 0 then .next s
  else .next { s with sec := { s.sec with atkIssued := mset zN s.sec.atkIssued e (s.st + 1) } }

/-! ### Quotes (R545, R546, R554) -/

/-- The quote entries of a route's class: 0 HP, 1 SB, 2 + p HU of partition p (R554). -/
def quoteSlot (route : Nat) : Nat := if route = 0 then 0 else if route ≤ 32 then route + 1 else 1

/-- The key of a quote entry of a slot. -/
def quoteKey (k slot : Nat) : Nat := k + 256 * slot

/-- The quote body (R545). -/
def State.quoteBody (s : State) (nonce : List Byte) : List Byte :=
  leBytes 512 (0x57515554 + 2 ^ 32 + s.od odLifecycle * 2 ^ 40 + s.openScope * 2 ^ 48 +
    max s.sec.maxScope s.openScope * 2 ^ 56 + s.od odOwnerEpoch * 2 ^ 64 + s.firm.running.ver.toNat * 2 ^ 96 +
    s.firm.running.secVer.toNat * 2 ^ 128 + s.firm.pkg.ver.toNat * 2 ^ 160 + s.od odDeviceId * 2 ^ 192 +
    s.od odDeviceIdValid * 2 ^ 208 + s.od odGrade * 2 ^ 216 + Config.serial.toNat * 2 ^ 256 +
    s.clk.dt % 2 ^ 64 * 2 ^ 384 + s.st % 2 ^ 64 * 2 ^ 448 + ofLe (padTo 32 nonce) * 2 ^ 512 +
    s.firm.running.digest.toNat * 2 ^ 768 + s.firm.pkg.digest.toNat * 2 ^ 1280 + s.fuseDigest % 2 ^ 512 * 2 ^ 1792 +
    Config.shake256 64 s.atkCertNow % 2 ^ 512 * 2 ^ 2304 + s.start.studSeq % 2 ^ 32 * 2 ^ 2816)

/-- The effect of a write to QUOTE_CTRL: the nonce is copied and the request waits its turn (R545, R546). -/
def State.quoteWrite (s : State) (slot v : Nat) : State × Nat :=
  let kst := quoteKey odQuoteStatus slot
  if v ≠ 1 || s.od kst = 1 || s.od kst = 2 then (s, odRange)
  else if s.od odLifecycle = 4 then (s.odSet kst 4, odOk)
  else
    let nonce := padTo 32 (s.octets (quoteKey odQuoteNonce slot))
    let s : State := { s with sec := { s.sec with quoteQueue := s.sec.quoteQueue ++ [(slot, nonce)] } }
    (s.odSet kst 1, odOk)

/-- QUOTE_CTRL (R545). -/
def execQuoteCtrl (route : Nat) (v : BitVec 8) (s : State) : Host.Outcome State Fault Refusal :=
  let slot := quoteSlot route
  .next (s.keyWrite route (quoteKey odQuoteCtrl slot) fun s => s.quoteWrite slot v.toNat)

/-- QUOTE_SIGN: the next waiting quote is signed, once the attestation certificate exists (R545, R546). -/
def execQuoteSign (s : State) : Host.Outcome State Fault Refusal :=
  match s.sec.quoteQueue with
  | [] => .next s
  | (slot, nonce) :: rest =>
    let pop : State := { s with sec := { s.sec with quoteQueue := rest } }
    if s.od odLifecycle = 4 then .next (pop.odSet (quoteKey odQuoteStatus slot) 4)
    else if !s.up || s.atkCertNow.isEmpty then .next s
    else
      let body := s.quoteBody nonce
      let q := body ++ padTo 49856 (Config.slhSign 2 (atkSeed (s.od odOwnerEpoch)) body)
      let s := (pop.octetsSet (quoteKey odQuote slot) q).odSet (quoteKey odQuoteStatus slot) 3
      .next (s.logEv 0x8004 unModule none noLunit [slot])

/-! ### Proofs (R548 to R552) -/

/-- The value of an entry that holds one for each route (R564). -/
def State.sel (s : State) (route k : Nat) : Nat := mget zN s.dict.sel (k + 2 ^ 24 * route)
/-- Set the value of a route. -/
def State.setSel (s : State) (route k v : Nat) : State :=
  { s with dict := { s.dict with sel := mset zN s.dict.sel (k + 2 ^ 24 * route) v } }
/-- AUTH_ARG before a write: 64 zero bytes (R554). -/
def zeroArg : Nat → List Byte := fun _ => List.replicate 64 0
/-- AUTH_ARG of a route. -/
def State.authArg (s : State) (route : Nat) : List Byte := mget zeroArg s.dict.authArg route
/-- AUTH_PROOF of a route. -/
def State.authProof (s : State) (route : Nat) : List Byte := mget (fun _ => []) s.dict.authProof route

/-- A new challenge voids the previous one (R549); its bytes are an open value (log 5). -/
def State.newChallenge (s : State) : State :=
  { s with fresh := s.fresh + 1
           sec := { s.sec with challenge := some (Config.random s.fresh, s.clk.dt) } }

/-- The 32 bytes of the challenge that stands. -/
def State.challengeBytes (s : State) : List Byte :=
  match s.sec.challenge with
  | some (c, _) => leBytes 32 c.toNat
  | none => List.replicate 32 0

/-- AUTH_CHALLENGE: a read over a route of class HP or SB, or by the test port (R549). -/
def execAuthChallenge (route : Nat) (s : State) : Host.Outcome State Fault Refusal :=
  if !s.routeOpen route then .next (s.hostLost route)
  else
    match s.odGuard route false false 0x1140 1 with
    | .error e => .next (s.odFail e)
    | .ok none => .next (s.odNoRights route 32 false)
    | .ok (some _) =>
      let s := s.newChallenge
      .next (s.odAnswer ⟨odOk, 11, 32, s.challengeBytes⟩)

/-- The signed message of a proof (R550). -/
def State.authMsg (s : State) (op : Nat) (arg : List Byte) : List Byte :=
  [0x57, 0x58, 0x33, 0x32, 0x31, 0x36, 0x2D, 0x41, 0x55, 0x54, 0x48] ++ leBytes 16 Config.serial.toNat ++
    leBytes 4 (s.od odOwnerEpoch) ++ leBytes 1 op ++ (if op = 0x11 ∨ op = 0x20 then padTo 64 arg else List.replicate 64 0) ++
    s.challengeBytes

/-- Whether an op is open to a route and a kind of proof in the present state (R539, R548, R549, R551). -/
def State.authPermits (s : State) (route op : Nat) (pw : Bool) : Bool :=
  let lc := s.od odLifecycle
  if 1 ≤ op && op ≤ 3 then
    if pw then lc == 3 && s.sec.pwDigest.isSome && decide (op ≤ s.od odPwMaxScope)
    else lc == 3 || (lc == 2 && op == 3)
  else if pw then false
  else if op = 0x10 then lc == 2
  else if op = 0x11 then lc == 3 && decide (s.od odOwnerEpoch < 15)
  else if op = 0x12 then lc == 2 || lc == 3
  else if op = 0x20 then lc == 1 && route != 36
  else false

/-- Whether R539 refuses a lifecycle op: a partition is composed, or a quote or a live update is in progress. -/
def State.lifeBusy (s : State) : Bool :=
  let st := s.od odFwUpdateStatus
  ((List.range 32).any fun p => (s.part p).composed) || !s.sec.quoteQueue.isEmpty || st == 1 || st == 2 || st == 4 || st == 5

/-- Whether the proof of a route holds (R549 to R551). -/
def State.proofHolds (s : State) (route op : Nat) (pw : Bool) : Bool :=
  let p := s.authProof route
  if pw then
    decide (8 ≤ p.length) && decide (p.length ≤ 64) &&
      s.sec.pwDigest == some (BitVec.ofNat 256 (Config.shake256 32 (leBytes 16 Config.pwSalt.toNat ++ p)))
  else
    op == 0x20 ||
      (p.length == 29792 && Config.slhVerify (ofLe s.ownerKey) (s.authMsg op (s.authArg route)) p)

/-- Set AUTH_STATUS. -/
def State.authStatus (s : State) (v : Nat) : State := s.odSet odAuthStatus v

/-- A check of the values of a route (R549 to R552): the state, with AUTH_STATUS BUSY while an accepted op has not
taken effect. A check that does not end BUSY uses the challenge up. -/
def State.authCheck (s : State) (route : Nat) (pw : Bool) : State :=
  let op := s.sel route odAuthOp
  let fresh := match s.sec.challenge with
    | some (_, t) => decide (s.clk.dt ≤ t + 60000000000)
    | none => false
  let rate := match s.sec.lastRefused with
    | some t => decide (s.clk.dt < t + 10000000000)
    | none => false
  let used : State := { s with sec := { s.sec with challenge := none } }
  if s.sec.accepted.isSome then s.authStatus 1
  else if 0x10 ≤ op && s.lifeBusy && s.authPermits route op pw then s.authStatus 1
  else if 16 ≤ s.od odAuthFailCount then used.authStatus 6
  else if rate then used.authStatus 5
  else if !s.authPermits route op pw then used.authStatus 7
  else if !fresh && op ≠ 0x20 then used.authStatus 4
  else if s.proofHolds route op pw then
    ({ used with sec := { used.sec with accepted := some (op, route, pw) } } : State).authStatus 1
  else
    let s : State := { used with sec := { used.sec with lastRefused := some s.clk.dt } }
    let s := (s.authStatus 3).odSet odAuthFailCount (min 255 (s.od odAuthFailCount + 1))
    s.logEv 0x8003 unModule none noLunit [route, op]

/-- The effect of a write to AUTH_CTRL (R549). -/
def State.authWrite (s : State) (route v : Nat) : State × Nat :=
  if v = 1 then (s.authCheck route false, odOk)
  else if v = 2 then (s.authCheck route true, odOk)
  else (s, odRange)

/-- AUTH_CHECK_SIGNATURE (R549, R550). -/
def execAuthCheckSignature (route : Nat) (s : State) : Host.Outcome State Fault Refusal :=
  .next (s.keyWrite route odAuthCtrl fun s => s.authWrite route 1)
/-- AUTH_CHECK_PASSWORD (R551). -/
def execAuthCheckPassword (route : Nat) (s : State) : Host.Outcome State Fault Refusal :=
  .next (s.keyWrite route odAuthCtrl fun s => s.authWrite route 2)

/-! ### Scopes and the lifecycle (R539, R548, R574) -/

/-- A scope opens by proof (R548, R552). -/
def State.unlock (s : State) (route op : Nat) (pw : Bool) : State :=
  if s.sec.accepted ≠ some (op, route, pw) then s
  else
    let s : State := { s with sec := { s.sec with accepted := none, proofScope := max s.sec.proofScope op,
                                                  maxScope := max s.sec.maxScope op } }
    (s.authStatus 2).logEv 0x8002 unModule none noLunit [op, route]

/-- UNLOCK_TEST (R548). -/
def execUnlockTest (route : Nat) (password : Bool) (s : State) : Host.Outcome State Fault Refusal :=
  .next (s.unlock route 1 password)
/-- UNLOCK_OBSERVE (R548). -/
def execUnlockObserve (route : Nat) (password : Bool) (s : State) : Host.Outcome State Fault Refusal :=
  .next (s.unlock route 2 password)
/-- UNLOCK_FULL (R548). -/
def execUnlockFull (route : Nat) (password : Bool) (s : State) : Host.Outcome State Fault Refusal :=
  .next (s.unlock route 3 password)

/-- Erase every owner entry, in the tack room too (R574). -/
def State.eraseOwner (s : State) : State := { s with dict := { s.dict with owner := [], ownA := [], ownB := [] } }

/-- A transition takes effect (R539). -/
def State.lifeTo (s : State) (new : Nat) : State :=
  let old := s.od odLifecycle
  let s : State := { s with sec := { s.sec with accepted := none, maxScope := max s.sec.maxScope s.openScope } }
  let s := (s.odSet odLifecycle new).authStatus 2
  s.logEv 0x8001 unModule none noLunit [old, new, s.od odOwnerEpoch]

/-- A new owner key for an epoch; its password digest has not been written yet (R539, R551). -/
def State.newOwner (s : State) (epoch : Nat) (arg : List Byte) : State :=
  let s : State := { s with sec := { s.sec with ownerKeys := mset (fun _ => []) s.sec.ownerKeys epoch (padTo 64 arg),
                                                pwDigest := none } }
  (s.odSet odOwnerEpoch epoch).odSet odPwMaxScope 0

/-- A lifecycle op whose check was accepted (R539): refused BUSY where a partition is composed, or a quote or a
live update is in progress. -/
def State.lifeOp (s : State) (route op : Nat) (k : State → State) : State :=
  if s.sec.accepted ≠ some (op, route, false) then s
  else if s.lifeBusy then ({ s with sec := { s.sec with accepted := none } } : State).authStatus 1
  else k s

/-- LIFECYCLE_FIELD: OWNED to FIELD; every open scope closes (R539). -/
def execLifecycleField (route : Nat) (s : State) : Host.Outcome State Fault Refusal :=
  .next (s.lifeOp route 0x10 fun s =>
    let s := s.lifeTo 3
    { s with sec := { s.sec with proofScope := 0 } })

/-- LIFECYCLE_TRANSFER: FIELD to OWNED with a new epoch and its key (R539, R574). -/
def execLifecycleTransfer (route : Nat) (s : State) : Host.Outcome State Fault Refusal :=
  .next (s.lifeOp route 0x11 fun s =>
    ((s.newOwner (s.od odOwnerEpoch + 1) (s.authArg route)).eraseOwner).lifeTo 2)

/-- LIFECYCLE_RETIRE (R539, R574). -/
def execLifecycleRetire (route : Nat) (s : State) : Host.Outcome State Fault Refusal :=
  .next (s.lifeOp route 0x12 fun s => s.eraseOwner.lifeTo 4)

/-- LIFECYCLE_CLAIM: VENDOR to OWNED by class HP or SB without proof (R539): a CLAIM that a write of AUTH_CTRL has
had accepted, or that the route asks for now. -/
def execLifecycleClaim (route : Nat) (s : State) : Host.Outcome State Fault Refusal :=
  let asked := s.sec.accepted.isNone && s.routeOpen route && (route == 0 || (decide (33 ≤ route) && decide (route ≤ 35))) &&
    s.sel route odAuthOp == 0x20 && s.authPermits route 0x20 false
  let s : State := if asked then { s with sec := { s.sec with accepted := some (0x20, route, false) } } else s
  .next (s.lifeOp route 0x20 fun s => (s.newOwner 0 (s.authArg route)).lifeTo 2)

/-! ### The password digest (R551) -/

/-- Whether the owner may write the password digest: OWNED or FIELD, once in each epoch (R551). -/
def State.pwOpen (s : State) : Bool :=
  (s.od odLifecycle == 2 || s.od odLifecycle == 3) && s.sec.pwDigest.isNone

/-- Fuse the digest. -/
def State.fusePw (s : State) (d : BitVec 256) : State := { s with sec := { s.sec with pwDigest := some d } }

/-- PW_DIGEST_WRITE: the digest with its highest scope (R551). -/
def execPwDigestWrite (route : Nat) (digest : BitVec 256) (maxScope : Nat) (s : State) :
    Host.Outcome State Fault Refusal :=
  if !s.routeOpen route then .next (s.hostLost route)
  else
    match s.odGuard route false false 0x1140 0x0A with
    | .error e => .next (s.odFail e)
    | .ok none => .next (s.odNoRights route 32 true)
    | .ok (some (_, has)) =>
      if has < 2 || !s.pwOpen || 3 < maxScope then .next (s.odFailRow odRange 11 32)
      else .next (((s.fusePw digest).odSet odPwMaxScope maxScope).odFailRow odOk 11 32)

end Sys2Proof.Machine
end

