-- ==== Sys2Proof/Machine/Od.lean ====
section
/-! DEFINITION. Reads and writes of the object dictionary (R555 to R566, R572 to R576): what each entry reads, what
a write to it does, sub-index 0, and owner entries. -/

namespace Sys2Proof.Machine

open Sys2Proof

/-! ### Event records and studbook records as bytes (R494, R521) -/

/-- The eight payload words of a record. -/
def payloadNat (l : List Nat) : Nat := ((l.take 8).zipIdx.map fun x => x.1 % 2 ^ 32 * 2 ^ (32 * x.2)).sum

/-- An event record as a number of 512 bits (R521). -/
def EvRec.word (r : EvRec) : Nat :=
  r.code + r.un.ut * 2 ^ 16 + (if r.part.isSome then 2 ^ 20 else 0) + (if r.lost then 2 ^ 21 else 0) +
    r.un.a * 2 ^ 24 + r.un.b * 2 ^ 32 + r.un.c * 2 ^ 40 + r.part.getD 0 * 2 ^ 48 + r.supp * 2 ^ 56 +
    r.dt % 2 ^ 64 * 2 ^ 64 + r.seq.toNat * 2 ^ 128 + r.jobId.toNat * 2 ^ 160 + r.step.toNat * 2 ^ 192 +
    r.lunit.toNat * 2 ^ 224 + payloadNat r.payload * 2 ^ 256

/-- The records that a READ entry returns for a selector, at most 64 (R576). -/
def logFrom (l : List EvRec) (sel : Nat) : List EvRec :=
  (l.dropWhile fun r => !reached r.seq (BitVec.ofNat 32 sel)).take 64

/-- Records as bytes. -/
def logBytes (l : List EvRec) : List Byte := l.flatMap fun r => leBytes 64 r.word

/-- The log of a partition: its base and its records. -/
def State.plog (s : State) (p : Nat) : Option (W32 × List EvRec) := mget (fun _ => none) s.log.plogs p

/-- The SEQ after the newest record of a partition log (R576). -/
def plogNext (b : W32) (l : List EvRec) : Nat :=
  match l.getLast? with
  | some r => (r.seq + 1).toNat
  | none => b.toNat
/-- The SEQ of the oldest record of a partition log (R576). -/
def plogOldest (b : W32) (l : List EvRec) : Nat :=
  match l with
  | r :: _ => r.seq.toNat
  | [] => b.toNat

/-! ### What a scalar entry reads -/

/-- The point of a cluster as CLUSTER_POINT reads it (R407). -/
def Cluster.pointCode (x : Cluster) : Nat :=
  match x.power with
  | .off => 7
  | .powering => 7
  | .parked => 6
  | _ => x.point

/-- The highest temperature read (R439). -/
def State.hottest (s : State) : Int :=
  let ts := ((List.range 16).map fun b => signedOf 32 (s.od (odAisleTempC + b))) ++
    ((List.range 16).map fun k => signedOf 32 (s.od (odAt odStackTemperature k))) ++ (List.range 576).map s.siteTemp ++
    (List.range 12).map fun k => signedOf 32 (mget zN s.health.dieTemp k)
  ts.foldl max (ts.headD 0)

/-- Usable sites without a visit for 86,400 s (R530, R537). -/
def State.overdueSites (s : State) : Nat :=
  ((List.range 576).filter fun x => s.siteUsable x && decide (s.lastVisit x + 86400 ≤ s.st)).length

/-- A bit of a register. -/
def bitN (b : Bool) (i : Nat) : Nat := if b then 2 ^ i else 0

/-- The status of a ring (R344). -/
def Ring.status (x : Ring) : Nat := if !x.enabled then 0 else if x.stopped then 2 else 1

/-- What an entry of the ring that RING_SEL of a route names reads (R344). -/
def Ring.read (x : Ring) (k : Nat) : Nat :=
  if k = odRingPart then x.part else if k = odRingPrio then x.prio else if k = odRingClass then x.cls
  else if k = odRingLog2Entries then x.log2 else if k = odRingBase then x.base else if k = odCplBase then x.cpl
  else if k = odRingStatus then x.status else if k = odRingConsumer then x.cons.toNat
  else if k = odRingStopIndex then x.stopIdx.toNat else 0

/-- What an entry of a partition's job reads (R344). -/
def State.readPart (s : State) (b n : Nat) : Option Nat :=
  let j := (s.part n).job
  if b = odJobState then some j.st.code else if b = odJobId then some j.jobId.toNat
  else if b = odJobStep then some j.step.toNat else if b = odPartUnmapped then some (s.unmapped n)
  else if b = odPartCtrl then some (((s.part n).ctrl.map (·.1)).getD 0) else none

/-- What an entry of the logs reads (R576). -/
def State.readLog (s : State) (b n : Nat) : Option Nat :=
  let part (f : W32 → List EvRec → Nat) : Nat := match s.plog n with
    | some (w, l) => f w l
    | none => 0
  if b = odLogNextSeq then some s.log.seq.toNat
  else if b = odLogOldest then some (plogOldest s.log.seq s.log.recs)
  else if b = odLogCount then some s.log.recs.length
  else if b = odPlogNextSeq then some (part plogNext)
  else if b = odPlogOldest then some (part plogOldest)
  else if b = odPlogCount then some (part fun _ l => l.length)
  else none

/-- What an entry that is worked out at the read gives; `n` is the unit of its index (R407, R514, R537, R548). Before the
first cold start CLUSTER_POINT has its default. -/
def State.readView (s : State) (b n sub : Nat) : Option Nat :=
  if b = odClusterPoint then some (if s.start.coldStarted then (s.cl (36 * n + (sub - 1))).pointCode else 6)
  else if b = odCoreSitesOut then some (s.coreBadOf (36 * n + (sub - 1)))
  else if b = odDtNow then some (s.clk.dt / 10 * 10)
  else if b = odRefclkStatus then
    some (bitN s.clk.goodA 0 + bitN s.clk.goodB 1 + bitN s.clk.holdover 2 + bitN s.clk.selB 3)
  else if b = odHottestC then some (wrapI 32 s.hottest)
  else if b = odServiceTimeS then some s.st
  else if b = odFwUnitsPending then some s.unitsPending.length
  else if b = odFarrierOverdueSites then some s.overdueSites
  else if b = odLastVisitSt then
    some (if s.siteUsable (36 * n + (sub - 1)) then s.lastVisit (36 * n + (sub - 1)) else 0)
  else if b = odDebugScope then some s.openScope
  else none

/-- Whether an entry holds one value for each route (R564). -/
def perRoute (b : Nat) : Bool :=
  b == odRingSel || b == odRouteSel || b == odStudbookSel || b == odLogSel || b == odPlogSel || b == odAuthOp

/-- Whether an entry stands for the ring that RING_SEL names. -/
def ringEntry (b : Nat) : Bool := decide (odRingPart ≤ b) && decide (b ≤ odRingStopIndex)

/-- What a scalar entry reads over a route. -/
def State.odValue (s : State) (route : Nat) (r : OdRow) (index sub : Nat) : Nat :=
  let b := odKey r.index r.sub
  let k := odKey index sub
  let n := index - r.index
  if perRoute b then s.sel route k
  else if ringEntry b then (s.ring (s.sel route odRingSel)).read b
  else if b = odRouteEntry then s.routeEntry (s.sel route odRouteSel)
  else match (s.readView b n sub).orElse fun _ => (s.readPart b n).orElse fun _ => s.readLog b n with
    | some v => v
    | none => s.od k

/-! ### What an entry that is not scalar reads -/

/-- ASCII text as bytes. -/
def asciiOf (t : String) : List Byte := t.toList.map fun c => BitVec.ofNat 8 c.toNat

/-- The bytes of an STR, OCTETS or ARRAY entry over a route (R494, R554, R575, R576). -/
def State.odBytes (s : State) (route : Nat) (r : OdRow) (index sub : Nat) : List Byte :=
  let b := odKey r.index r.sub
  let k := odKey index sub
  if b = odVendorName then asciiOf "Rhoique"
  else if b = odProductName then asciiOf "Weaxasal WX3216"
  else if b = odPartNumber then asciiOf (if s.fuse.gradeS then "WX3216-S" else "WX3216-F")
  else if b = odSerial then leBytes 16 Config.serial.toNat
  else if b = odSiliconStep then Config.siliconStep.take 64
  else if b = odFuseMapDigest then leBytes 64 s.fuseDigest
  else if b = odOwnerKey then padTo 64 s.ownerKey
  else if b = odIdkPublic then leBytes 64 (Config.slhPublic 1 idkSeed)
  else if b = odAuthChallenge then s.challengeBytes
  else if b = odAuthArg then s.authArg route
  else if b = odAuthProof then List.replicate (s.authProof route).length 0
  else if b = odPwSalt then leBytes 16 Config.pwSalt.toNat
  else if b = odPwDigest then List.replicate 32 0
  else if b = odIdCert then idCert
  else if b = odAtkCert then s.atkCertNow
  else if b = odQuoteNonce then padTo 32 (s.octets k)
  else if b = odOdDeniedByRoute then padTo 296 (s.octets k)
  else if b = odSbEthMac then leBytes 6 Config.mac.toNat
  else if b = odStudbookRecord then
    (match s.stud[s.sel route odStudbookSel]? with
     | some x => x.words.flatMap (leBytes 4)
     | none => List.replicate 32 0)
  else if b = odLogRead then logBytes (logFrom s.log.recs (s.sel route odLogSel))
  else if b = odPlogRead then
    (match s.plog (index - r.index) with
     | some (_, l) => logBytes (logFrom l (s.sel route (odKey index 4)))
     | none => [])
  else s.octets k

/-! ### What a write does -/

/-- Set an entry whose value lies within bounds. -/
def State.putIn (s : State) (k lo hi v : Nat) : State × Nat :=
  if lo ≤ v && v ≤ hi then (s.odSet k v, odOk) else (s, odRange)

/-- A write to an entry of the ring that RING_SEL names: only the priority of an enabled ring changes (R304,
R312). -/
def State.ringWrite (s : State) (n b v : Nat) : State × Nat :=
  let x := s.ring n
  let put (ok : Bool) (f : Ring → Ring) : State × Nat := if ok then (s.modRing n f, odOk) else (s, odRange)
  if b = odRingCtrl then
    if v = 1 then (if x.enabled then (s, odRange) else s.ringEnableOp n)
    else if v = 2 then s.ringDisableOp n
    else if v = 3 then s.ringRestartOp n
    else (s, odRange)
  else if b = odRingPrio then put (decide (v ≤ 7)) fun x => { x with prio := v }
  else if x.enabled then (s, odRange)
  else if b = odRingPart then put (decide (v < 32) || v == 255) fun x => { x with part := v }
  else if b = odRingClass then put (decide (v ≤ 1)) fun x => { x with cls := v }
  else if b = odRingLog2Entries then put (decide (6 ≤ v) && decide (v ≤ 16)) fun x => { x with log2 := v }
  else if b = odRingBase then put (v % 4096 == 0) fun x => { x with base := v }
  else if b = odCplBase then put (v % 4096 == 0) fun x => { x with cpl := v }
  else (s, odRange)

/-- A route entry is legal: links 0 to 33 or none, and a zero RSV field (R458). -/
def routeOk (v : Nat) : Bool :=
  v / 2 ^ 28 == 0 && (List.range 4).all fun i =>
    let l := v / 2 ^ (6 * i) % 64
    decide (l ≤ 33) || l == 63

/-- PART_POINT_CEIL: the partition's clusters take their requests anew (R415, R439). -/
def State.ceilWrite (s : State) (p v : Nat) : State × Nat :=
  if 5 < v then (s, odRange)
  else
    let s := s.odSet (odAt odPartPointCeil p) v
    (((s.part p).sites.filterMap id).foldl (fun (s : State) x => s.askPoint x) s, odOk)

/-- A floor of R533 changes. -/
def State.floorWrite (s : State) (k hi v : Nat) : State × Nat :=
  if hi < v then (s, odRange) else ((s.odSet k v).checkFloors, odOk)

/-- A write to an entry that holds one value for each route (R344, R514, R564). -/
def State.selWrite (s : State) (route b k v : Nat) : State × Nat :=
  if (b = odRingSel && 4096 ≤ v) || (b = odStudbookSel && 16384 ≤ v) then (s, odRange) else (s.setSel route k v, odOk)

/-- A write to an entry whose write starts an action; none for an entry that only holds a value. -/
def State.actWrite (s : State) (route b k n sub v : Nat) : Option (State × Nat) :=
  if b = odUpcDrainReq then some (s.drainReqWrite v)
  else if b = odPartCtrl then some (s.partCtrlWrite n v)
  else if b = odPartPointCeil then some (s.ceilWrite n v)
  else if b = odPortCtrl then some (s.portCtrl n v)
  else if b = odRefclkSelect then some (s.refSelWrite v)
  else if b = odBeatSpread then some (s.spreadWrite v)
  else if b = odDtStepReq then some (s.dtStepWrite v)
  else if b = odBayReenable then some (s.freeReenable v)
  else if b = odBayMinV || b = odMinV then (minVDtKey (odKey (b / 256 + n) sub)).map fun kd => s.minVWrite k kd
  else if b = odModuleReset then some (s.freeReset v)
  else if b = odDegradedAck then some (s.ackWrite v)
  else if b = odFwUpdateCtrl then some (s.fwCtrl v)
  else if b = odFarrierCtrl then some (s.farCtrl v)
  else if b = odAuthCtrl then some (s.authWrite route v)
  else if b = odQuoteCtrl then some (s.quoteWrite n v)
  else if b = odSpareFloor then some (s.floorWrite k 64 v)
  else if b = odUpcFloor then some (s.floorWrite k 8 v)
  else if b = odPwMaxScope then some (if s.pwOpen && v ≤ 3 then (s.odSet k v, odOk) else (s, odRange))
  else if b = odRouteEntry then
    some (if routeOk v then
      ({ s with routes := mset (fun _ => 0xFFFFFF) s.routes (s.sel route odRouteSel) v }, odOk) else (s, odRange))
  else if ringEntry b then some (s.ringWrite (s.sel route odRingSel) b v)
  else if perRoute b then some (s.selWrite route b k v)
  else none

/-- The bounds of an entry that only holds a value; a version floor never falls (R255, R297, R439, R468, R514,
R537, R575). -/
def State.boundsOf (s : State) (b typ : Nat) : Nat × Nat :=
  if typ = 1 then (0, 1)
  else if b = odSbUdpPort then (1024, 65535)
  else if b = odPowerCapW then (6000, 15000)
  else if b = odBayCurrentLimitA then (100, 1250)
  else if b = odParkIdleUs then (10, 1000000)
  else if b = odHbmScrubPeriod then (1, 24)
  else if b = odPcFenceThreshold then (1, 1024)
  else if b = odPrecondStuckSteps then (1, 65535)
  else if b = odFabricRole then (0, 2)
  else if b = odFwVersionFloor || b = odFarrierVersionFloor then (s.od b, 2 ^ 32 - 1)
  else (0, 2 ^ (8 * odSize typ) - 1)

/-- A write of a value to a scalar entry: its own rule, or else the value within its range (R563, R565). -/
def State.odPut (s : State) (route : Nat) (r : OdRow) (index sub v : Nat) : State × Nat :=
  let b := odKey r.index r.sub
  let k := odKey index sub
  match s.actWrite route b k (index - r.index) sub v with
  | some x => x
  | none =>
    let (lo, hi) := s.boundsOf b r.typ
    s.putIn k lo hi v

/-- Overwrite bytes from an offset. -/
def spliceAt (l : List Byte) (off : Nat) (d : List Byte) : List Byte := l.take off ++ d ++ l.drop (off + d.length)

/-- A write of bytes to an OCTETS entry that a class may write: AUTH_ARG, AUTH_PROOF, PW_DIGEST and QUOTE_NONCE
(R551, R554, R557). -/
def State.odPutBytes (s : State) (route : Nat) (r : OdRow) (index sub off : Nat) (d : List Byte) : State × Nat :=
  let b := odKey r.index r.sub
  if b = odAuthArg then
    if 64 < off + d.length then (s, odLength)
    else ({ s with dict := { s.dict with
      authArg := mset zeroArg s.dict.authArg route (spliceAt (s.authArg route) off d) } }, odOk)
  else if b = odAuthProof then
    let p := s.authProof route
    if 29792 < off + d.length || p.length < off then (s, odLength)
    else
      let p := if off = 0 then d else spliceAt p off d
      ({ s with dict := { s.dict with authProof := mset (fun _ => []) s.dict.authProof route p } }, odOk)
  else if b = odQuoteNonce then
    let k := odKey index sub
    if 32 < off + d.length then (s, odLength)
    else (s.octetsSet k (spliceAt (padTo 32 (s.octets k)) off d), odOk)
  else if b = odPwDigest then
    if 32 < off + d.length then (s, odLength)
    else if !s.pwOpen || off ≠ 0 || d.length ≠ 32 then (s, odRange)
    else (s.fusePw (BitVec.ofNat 256 (ofLe d)), odOk)
  else (s, odRange)

/-! ### Accesses (R555, R557, R562 to R566, R574) -/

/-- The longest access of a route (R566, R567). -/
def routeLimit (route : Nat) : Nat := if 33 ≤ route && route ≤ 35 then 1024 else 4096

/-- An owner entry, as a row of its own (R574). -/
def ownerRow (index sub : Nat) : OdRow := ⟨index, 1, sub, 1, 11, 2, 2, 0, 0, 0, 1⟩

/-- The bytes of an owner entry, none when it has not been made. -/
def State.ownerOfKey (s : State) (k : Nat) : Option (List Byte) :=
  (s.dict.owner.find? fun x => x.1 == k).map (·.2)

/-- The sub-indices of an index that hold an entry, and whether a route has a right to one of them (R555). -/
def State.subsOf (s : State) (route : Nat) (dbg : Bool) (index : Nat) : Nat × Bool :=
  if 0xC000 ≤ index then
    let l := (s.dict.owner.filter fun x => x.1 / 256 == index).map fun x => x.1 % 256
    (l.foldl max 0, l.any fun sub => decide (0 < s.odRight (ownerRow index sub) route dbg index sub))
  else (odTopSub index, s.odAnyRight route dbg index)

/-- An access to sub-index 0: a U8 that nobody writes (R555, R561, R563). -/
def State.odSub0 (s : State) (r : OdReq) (n : Nat) (write : Bool) : State :=
  let (top, right) := s.subsOf r.route r.dbg r.index
  if !s.odServed r.index 0 then s.odFail odUnavailable
  else if top = 0 then (if 1 ≤ r.route && r.route ≤ 32 then s.odNoRights r.route n write else s.odFail odNoEntry)
  else if !right then s.odNoRights r.route n write
  else if r.offset ≠ 0 || n ≠ 1 then s.odFailRow odLength 2 1
  else if write then s.odFailRow odRange 2 1
  else s.odAnswer ⟨odOk, 2, 1, leBytes 1 top⟩

/-- A read of bytes from an entry of a type (R557). -/
def State.readBytes (s : State) (typ : Nat) (l : List Byte) (off n : Nat) (ok : Bool) : State :=
  if n ≠ 0 && (decide (l.length < off + n) || !ok) then s.odFailRow odLength typ l.length
  else s.odAnswer ⟨odOk, typ, l.length, (l.drop off).take n⟩

/-- ALERT_N is released when a LOG_READ on a sideband returns a record that has reached the alerted one
(R589). -/
def State.alertSeen (s : State) (route : Nat) (l : List EvRec) : State :=
  match s.log.alertSeq with
  | none => s
  | some q =>
    if 33 ≤ route && route ≤ 35 && l.any (fun r => reached r.seq q) then
      { s with log := { s.log with alertSeq := none } }
    else s

/-- A read of an entry of a row by a route that has the right to (R549, R557, R576). -/
def State.readRow (s : State) (r : OdReq) (row : OdRow) : State :=
  let b := odKey row.index row.sub
  if odScalar row.typ then
    let n := odSize row.typ
    if r.offset ≠ 0 || r.len ≠ n then s.odFailRow odLength row.typ n
    else s.odAnswer ⟨odOk, row.typ, n, leBytes n (s.odValue r.route row r.index r.sub)⟩
  else
    let l := s.odBytes r.route row r.index r.sub
    let ok := if row.typ = 92 then r.offset % 8 == 0 && r.len % 8 == 0
      else if b = odLogRead || b = odPlogRead then r.offset % 64 == 0 else true
    let good := r.len = 0 || (decide (r.offset + r.len ≤ l.length) && ok)
    let s := if b = odAuthChallenge && good then s.newChallenge else s
    let l := if b = odAuthChallenge then s.challengeBytes else l
    let s := s.readBytes row.typ l r.offset r.len ok
    if b = odLogRead && good then
      s.alertSeen r.route (((logFrom s.log.recs (s.sel r.route odLogSel)).drop (r.offset / 64)).take (r.len / 64))
    else s

/-- A read access (R563). -/
def State.odReadOp (s : State) (r : OdReq) : State :=
  let bad := r.badForm || decide (routeLimit r.route < r.len)
  if !s.routeOpen r.route then s.hostLost r.route
  else if bad then s.odFail odMalformed
  else if r.sub = 0 then s.odSub0 r r.len false
  else if 0xC000 ≤ r.index then
    match s.ownerOfKey (odKey r.index r.sub) with
    | none =>
      if !s.odServed r.index r.sub then s.odFail odUnavailable
      else if 1 ≤ r.route && r.route ≤ 32 then s.odNoRights r.route r.len false else s.odFail odNoEntry
    | some l =>
      if !s.odServed r.index r.sub then s.odFail odUnavailable
      else if s.odRight (ownerRow r.index r.sub) r.route r.dbg r.index r.sub = 0 then s.odNoRights r.route r.len false
      else s.readBytes 11 l r.offset r.len true
  else
    match s.odGuard r.route r.dbg bad r.index r.sub with
    | .error e => s.odFail e
    | .ok none => s.odNoRights r.route r.len false
    | .ok (some (row, _)) => s.readRow r row

/-- The bytes of all owner entries. -/
def State.ownerBytes (s : State) : Nat := (s.dict.owner.map fun x => x.2.length).sum

/-- A write to an owner entry, which its first write at offset 0 makes (R557, R574). -/
def State.ownerWrite (s : State) (r : OdReq) : State :=
  let k := odKey r.index r.sub
  let old := s.ownerOfKey k
  let cur := old.getD []
  let right := s.odRight (ownerRow r.index r.sub) r.route r.dbg r.index r.sub
  let new := if r.offset = 0 then r.data else spliceAt cur r.offset r.data
  if !s.odServed r.index r.sub then s.odFail odUnavailable
  else if old.isNone && r.offset ≠ 0 then
    (if 1 ≤ r.route && r.route ≤ 32 then s.odNoRights r.route r.data.length true else s.odFail odNoEntry)
  else if right = 0 then s.odNoRights r.route r.data.length true
  else if cur.length < r.offset || 256 < r.offset + r.data.length then s.odFailRow odLength 11 cur.length
  else if right < 2 then s.odFailRow odRange 11 cur.length
  else if 262144 < s.ownerBytes + new.length - cur.length then s.odFailRow odFull 11 cur.length
  else
    let rest := s.dict.owner.filter fun x => x.1 != k
    let s : State := { s with dict := { s.dict with
      owner := (rest.filter fun x => decide (x.1 < k)) ++ (k, new) :: rest.filter fun x => decide (k < x.1) } }
    s.odFailRow odOk 11 new.length

/-- A write to an entry of a row by a route that has a right to it (R557, R563, R565). -/
def State.writeRow (s : State) (r : OdReq) (row : OdRow) (has : Nat) : State :=
  let n := if odScalar row.typ then odSize row.typ else (s.odBytes r.route row r.index r.sub).length
  if odScalar row.typ then
    if r.offset ≠ 0 || r.data.length ≠ n then s.odFailRow odLength row.typ n
    else if has < 2 then s.odFailRow odRange row.typ n
    else
      let (s', st) := s.odPut r.route row r.index r.sub (ofLe r.data)
      if st = odOk then s'.odFailRow odOk row.typ n else s.odFailRow st row.typ n
  else if has < 2 then
    s.odFailRow (if n < r.offset + r.data.length then odLength else odRange) row.typ n
  else
    let (s', st) := s.odPutBytes r.route row r.index r.sub r.offset r.data
    if st = odOk then s'.odFailRow odOk row.typ (s'.odBytes r.route row r.index r.sub).length
    else s.odFailRow st row.typ n

/-- A write access (R563). -/
def State.odWriteOp (s : State) (r : OdReq) : State :=
  let n := r.data.length
  let bad := r.badForm || decide (routeLimit r.route < n)
  if !s.routeOpen r.route then s.hostLost r.route
  else if bad then s.odFail odMalformed
  else if r.sub = 0 then s.odSub0 r n true
  else if 0xC000 ≤ r.index then s.ownerWrite r
  else
    match s.odGuard r.route r.dbg bad r.index r.sub with
    | .error e => s.odFail e
    | .ok none => s.odNoRights r.route n true
    | .ok (some (row, has)) => s.writeRow r row has

/-- Whether an entry only holds a value (R565). -/
def State.plainEntry (s : State) (r : OdReq) : Bool :=
  match odRow r.index r.sub with
  | none => false
  | some row =>
    odScalar row.typ &&
      (s.actWrite r.route (odKey row.index row.sub) (odKey r.index r.sub) (r.index - row.index) r.sub 0).isNone

/-- OD_READ (R563). -/
def execOdRead (r : OdReq) (s : State) : Host.Outcome State Fault Refusal := .next (s.odReadOp r)
/-- OD_WRITE (R563). -/
def execOdWrite (r : OdReq) (s : State) : Host.Outcome State Fault Refusal := .next (s.odWriteOp r)
/-- REGISTER_WRITE: a write to an entry with no behaviour of its own (R565). -/
def execRegisterWrite (r : OdReq) (s : State) : Host.Outcome State Fault Refusal :=
  .next (if s.plainEntry r then s.odWriteOp r else s)

end Sys2Proof.Machine
end

