-- ==== Sys2Proof/Machine/Pins.lean ====
section
/-! DEFINITION. PWRGOOD, RESET_N and the further supplies (R581 to R590). -/

namespace Sys2Proof.Machine

open Sys2Proof

/-- Every bay converter group is commanded off (R582, R588). -/
def State.convOff (s : State) : State :=
  (List.range 16).foldl (fun (s : State) b => s.modBay b fun x => { x with conv := false }) s

/-- A groom that is held in reset (R588). -/
def Groom.held (g : Groom) : Groom := { g with inService := false, down := true }

/-- PWRGOOD_FALL: every cluster domain and bay converter group is off; a page write of the tack room is
finished, and no further page follows (R582; log 33). -/
def execPwrgoodFall (s : State) : Host.Outcome State Fault Refusal :=
  if !s.start.pwrgood then .next s
  else
    let s := s.allOff.convOff
    .next { s with start := { s.start with pwrgood := false, coldStarted := false, acting := false } }

/-- RESET_N_ASSERT: a low of at least 1 µs holds every groom in reset with every domain and converter off;
with PWRGOOD low it has no further effect than the pin's level (R588). -/
def execResetNAssert (lowNs : Nat) (s : State) : Host.Outcome State Fault Refusal :=
  if lowNs < 1000 || !s.start.resetN then .next s
  else
    let s := if s.start.pwrgood then
        (List.range 20).foldl (fun (s : State) g => s.modGroom g Groom.held) s.allOff.convOff
      else s
    .next { s with start := { s.start with resetN := false, coldStarted := s.start.coldStarted && !s.start.pwrgood
                                           acting := s.start.acting && !s.start.pwrgood } }

/-- RESET_N_RELEASE: with PWRGOOD high a cold start begins, with device time from 0; a module that has lost
its aisle supplies or VAUX stays stopped (R515, R583, R588). -/
def execResetNRelease (find : StartFind) (s : State) : Host.Outcome State Fault Refusal :=
  if s.start.resetN then .next s
  else
    let s : State := { s with start := { s.start with resetN := true } }
    let gone := s.start.supplies.any fun x => x.1 == supAisle || x.1 == supAux
    .next (if s.start.pwrgood && !gone then s.coldStart find true else s)

/-- A link die loses its supply: its links go DOWN, its groom and its node drop out (R383, R451, R487, R583). -/
def State.dieLost (s : State) (k : Nat) : State :=
  let s := ((List.range 36).filter fun l => linkDie l == k).foldl
    (fun (s : State) l => if s.od (odAt odPortState l) = 3 then s else s.linkDown l 0) s
  s.nodeUnfed (16 + k)

/-- The module stops: every job ends (R515, R583). -/
def State.moduleStop (s : State) : State :=
  let s := (List.range 32).foldl (fun (s : State) p => s.stepLost p rsBayPower) s
  let s := s.allOff
  { s with start := { s.start with stopped := true } }

/-- SUPPLY_LOST: a supply of stack group `unit` (kind 0) or of link die `unit` (kind 1), both aisle converters
(kind 2), or VAUX (kind 3) (R583). -/
def execSupplyLost (kind : Nat) (unit : Nat) (s : State) : Host.Outcome State Fault Refusal :=
  if s.start.supplies.contains (kind, unit) || 4 ≤ kind || (kind = 0 && 8 ≤ unit) || (kind = 1 && 4 ≤ unit) then .next s
  else
    let on := s.up
    let s : State := { s with start := { s.start with supplies := s.start.supplies ++ [(kind, unit)] } }
    if !on then .next s
    else if kind = 0 then .next ((s.loseStack (2 * unit)).loseStack (2 * unit + 1))
    else if kind = 1 then .next (s.dieLost unit)
    else .next s.moduleStop

end Sys2Proof.Machine
end

