-- ==== Sys2Proof/Machine/Sideband.lean ====
section
/-! DEFINITION. The sideband ports (R567 to R571): frames, their kept answers, the I3C target, and what the
Ethernet port answers of itself. -/

namespace Sys2Proof.Machine

open Sys2Proof

/-! ### Frames (R567) -/

/-- Bits `lo` to `lo + n - 1` of a frame's header. -/
def frameBits (f : List Byte) (lo n : Nat) : Nat := ofLe (f.take 16) / 2 ^ lo % 2 ^ n

/-- How many data bytes follow the header: LEN, but none in a READ request. -/
def frameData (f : List Byte) : Nat := if frameBits f 0 4 = 1 then 0 else frameBits f 96 11

/-- A frame whose length and check sequence hold. -/
def frameGood (f : List Byte) : Bool :=
  f.length == 20 + frameData f && ofLe (f.drop (16 + frameData f)) == (crc32 (f.take (16 + frameData f))).toNat

/-- The access that a request frame asks for (R566, R567). ALERT comes from the module only, so a request
that carries it has a reserved OP. -/
def frameReq (route : Nat) (f : List Byte) : OdReq :=
  { route := route, dbg := frameBits f 5 1 == 1, index := frameBits f 32 16, sub := frameBits f 48 8
    offset := frameBits f 64 32, len := frameBits f 96 11, data := (f.drop 16).take (frameData f)
    badForm := (frameBits f 0 4 != 1 && frameBits f 0 4 != 2) || frameBits f 6 2 != 0 || frameBits f 107 21 != 0 }

/-- The response frame to a request (R563, R567). -/
def responseFrame (f : List Byte) (a : OdAns) : List Byte :=
  withFcs (leBytes 2 (frameBits f 0 4 + 16 + 256 * a.status) ++ leBytes 2 (frameBits f 16 16) ++
    leBytes 2 (frameBits f 32 16) ++ leBytes 1 (frameBits f 48 8) ++ leBytes 1 a.typ ++ leBytes 4 a.total ++
    leBytes 4 a.data.length ++ a.data)

/-! ### Kept requests (R571) -/

/-- A kept request is within its second. -/
def KeptReq.live (now : Nat) (x : KeptReq) : Bool := decide (now < x.dt + 1000000000)

/-- Keep a request and its answer: it replaces one of the same TAG, and a route keeps its last 16. -/
def keepSide (now : Nat) (l : List KeptReq) (x : KeptReq) : List KeptReq :=
  let mine := l.filter fun y => y.route == x.route && y.tag != x.tag && KeptReq.live now y
  (l.filter fun y => y.route != x.route) ++ mine.drop (mine.length - 15) ++ [x]

/-- Hand an answer to the port it came by: an I3C port holds it for its private read, the Ethernet port sends it to the
source of the request (R568, R569). -/
def State.sideAnswer (s : State) (route : Nat) (udp : Datagram) (b : List Byte) : State :=
  if route = 35 then { s with sideTx := s.sideTx ++ [.udp udp.srcIp udp.srcPort b] }
  else { s with side := { s.side with last := mset (fun _ => none) s.side.last route (some b) } }

/-- An I3C port is addressed by its dynamic address alone (R568; log 54). -/
def State.portAddressed (s : State) (route : Nat) : Bool :=
  route == 35 || (mget (fun _ => none) s.side.dyn route).isSome

/-- Apply a request frame, and keep it with its answer (R563, R571). -/
def State.frameApply (s : State) (route : Nat) (f : List Byte) (udp : Datagram) : State :=
  let r := frameReq route f
  let s := if frameBits f 0 4 = 2 then s.odWriteOp r else s.odReadOp r
  let b := responseFrame f (s.dict.ans.getD ⟨0, 0, 0, []⟩)
  let side := { s.side with kept := keepSide s.clk.dt s.side.kept ⟨route, frameBits f 16 16, f, b, s.clk.dt⟩ }
  ({ s with side := side } : State).sideAnswer route udp b

/-- Whether the Ethernet port takes a datagram: one to SB_UDP_PORT, and from SB_ETH_PEER where that is set (R569). -/
def State.udpTaken (s : State) (route : Nat) (udp : Datagram) : Bool :=
  route != 35 || (udp.dstPort.toNat == s.od odSbUdpPort && (s.od odSbEthPeer == 0 || udp.srcIp.toNat == s.od odSbEthPeer))

/-- SIDEBAND_FRAME: routes 33 and 34 are the I3C ports, 35 the Ethernet port (R559, R567, R571). A frame that
says it is a response is none of the module's (log 55). -/
def execSidebandFrame (route : Nat) (f : SideIn) (s : State) : Host.Outcome State Fault Refusal :=
  if route < 33 || 35 < route || !s.routeOpen route || !s.portAddressed route || !s.udpTaken route f.udp then .next s
  else if !frameGood f.bytes then .next (s.odAdd odSbFrameErrorCount 1)
  else if frameBits f.bytes 4 1 = 1 then .next s
  else
    match s.side.kept.find? fun x => x.route == route && x.bytes == f.bytes && KeptReq.live s.clk.dt x with
    | some x => .next (s.sideAnswer route f.udp x.answer)
    | none => .next (s.frameApply route f.bytes f.udp)

/-! ### The I3C target (R568) -/

/-- I3C_PRIVATE_READ: the response to the port's last complete request, or a NACK before there is one. -/
def execI3cPrivateRead (port : Nat) (s : State) : Host.Outcome State Fault Refusal :=
  if 2 ≤ port || !s.routeOpen (33 + port) || !s.portAddressed (33 + port) then .next s
  else
    match mget (fun _ => none) s.side.last (33 + port) with
    | some b => .next { s with sideTx := s.sideTx ++ [.frame (33 + port) b] }
    | none => .next { s with sideTx := s.sideTx ++ [.nack port] }

/-- The static address of an I3C port (R590). -/
def State.i3cStatic (s : State) (port : Nat) : BitVec 7 :=
  BitVec.ofNat 7 ((if port = 0 then 0x40 else 0x48) + s.start.addrStrap.toNat)

/-- I3C_ADDRESS_ASSIGN: ENTDAA, or SETDASA from the static address, gives a port that has no dynamic address
one (R568; log 54). -/
def execI3cAddressAssign (port : Nat) (setdasa : Bool) (static : BitVec 7) (dynamic : BitVec 7) (s : State) :
    Host.Outcome State Fault Refusal :=
  if 2 ≤ port || !s.routeOpen (33 + port) || (mget (fun _ => none) s.side.dyn (33 + port)).isSome ||
      (setdasa && static != s.i3cStatic port) then .next s
  else
    .next { s with side := { s.side with dyn := mset (fun _ => none) s.side.dyn (33 + port) (some dynamic) } }

/-! ### Ethernet (R569) -/

/-- ARP_REQUEST for SB_IPV4_ADDR. -/
def execArpRequest (target : BitVec 32) (srcMac : BitVec 48) (srcIp : BitVec 32) (s : State) :
    Host.Outcome State Fault Refusal :=
  if !s.routeOpen 35 || target.toNat != s.od odSbIpv4Addr then .next s
  else .next { s with sideTx := s.sideTx ++ [.arpReply srcMac srcIp] }

/-- ICMP_ECHO: an echo request within a frame of 1,518 bytes (R569). -/
def execIcmpEcho (target : BitVec 32) (srcIp : BitVec 32) (payload : List Byte) (s : State) :
    Host.Outcome State Fault Refusal :=
  if !s.routeOpen 35 || target.toNat != s.od odSbIpv4Addr || 1472 < payload.length then .next s
  else .next { s with sideTx := s.sideTx ++ [.echoReply srcIp payload] }

end Sys2Proof.Machine
end

