-- ==== Sys2Proof/Machine/Dispatch.lean ====
section
/-! DEFINITION. One arm for each command: its meaning, or its refusal by name. -/

namespace Sys2Proof.Machine

open Sys2Proof

/-- The effect of a command on everything but the queue. -/
def exec (i : Instr) (s : State) : Host.Outcome State Fault Refusal :=
  match i with
  | .mxNop c f => Sys2Proof.Machine.execMxNop c f s
  | .mxDload c f => Sys2Proof.Machine.execMxDload c f s
  | .mxLoad c f => Sys2Proof.Machine.execMxLoad c f s
  | .shadowPlaneComplete c => Sys2Proof.Machine.execShadowPlaneComplete c s
  | .mxSwap c f => Sys2Proof.Machine.execMxSwap c f s
  | .swapTakesEffect c => Sys2Proof.Machine.execSwapTakesEffect c s
  | .mxStream c f => Sys2Proof.Machine.execMxStream c f s
  | .passStepAccumulate c => Sys2Proof.Machine.execPassStepAccumulate c s
  | .mxDrain c f => Sys2Proof.Machine.execMxDrain c f s
  | .replayHoldEnd c => Sys2Proof.Machine.execReplayHoldEnd c s
  | .drainRowOutput c => Sys2Proof.Machine.execDrainRowOutput c s
  | .vxNop c f => Sys2Proof.Machine.execVxNop c f s
  | .vxAdd c f => Sys2Proof.Machine.execVxAdd c f s
  | .vxSub c f => Sys2Proof.Machine.execVxSub c f s
  | .vxMul c f => Sys2Proof.Machine.execVxMul c f s
  | .vxAddu c f => Sys2Proof.Machine.execVxAddu c f s
  | .vxSubu c f => Sys2Proof.Machine.execVxSubu c f s
  | .vxMulu c f => Sys2Proof.Machine.execVxMulu c f s
  | .vxDiv c f => Sys2Proof.Machine.execVxDiv c f s
  | .vxDivu c f => Sys2Proof.Machine.execVxDivu c f s
  | .vxMin c f => Sys2Proof.Machine.execVxMin c f s
  | .vxMax c f => Sys2Proof.Machine.execVxMax c f s
  | .vxMinu c f => Sys2Proof.Machine.execVxMinu c f s
  | .vxMaxu c f => Sys2Proof.Machine.execVxMaxu c f s
  | .vxAnd c f => Sys2Proof.Machine.execVxAnd c f s
  | .vxOr c f => Sys2Proof.Machine.execVxOr c f s
  | .vxXor c f => Sys2Proof.Machine.execVxXor c f s
  | .vxAndn c f => Sys2Proof.Machine.execVxAndn c f s
  | .vxShl c f => Sys2Proof.Machine.execVxShl c f s
  | .vxShr c f => Sys2Proof.Machine.execVxShr c f s
  | .vxSra c f => Sys2Proof.Machine.execVxSra c f s
  | .vxCmpeq c f => Sys2Proof.Machine.execVxCmpeq c f s
  | .vxCmplt c f => Sys2Proof.Machine.execVxCmplt c f s
  | .vxCmple c f => Sys2Proof.Machine.execVxCmple c f s
  | .vxCmpltu c f => Sys2Proof.Machine.execVxCmpltu c f s
  | .vxSel c f => Sys2Proof.Machine.execVxSel c f s
  | .vxMov c f => Sys2Proof.Machine.execVxMov c f s
  | .vxMovhi c f => Sys2Proof.Machine.execVxMovhi c f s
  | .vxMset c f => Sys2Proof.Machine.execVxMset c f s
  | .vxMget c f => Sys2Proof.Machine.execVxMget c f s
  | .vxFadd c f => Sys2Proof.Machine.execVxFadd c f s
  | .vxFsub c f => Sys2Proof.Machine.execVxFsub c f s
  | .vxFmul c f => Sys2Proof.Machine.execVxFmul c f s
  | .vxFma c f => Sys2Proof.Machine.execVxFma c f s
  | .vxFmin c f => Sys2Proof.Machine.execVxFmin c f s
  | .vxFmax c f => Sys2Proof.Machine.execVxFmax c f s
  | .vxFcmpeq c f => Sys2Proof.Machine.execVxFcmpeq c f s
  | .vxFcmplt c f => Sys2Proof.Machine.execVxFcmplt c f s
  | .vxFcmple c f => Sys2Proof.Machine.execVxFcmple c f s
  | .vxFrcp c f => Sys2Proof.Machine.execVxFrcp c f s
  | .vxFrsq c f => Sys2Proof.Machine.execVxFrsq c f s
  | .vxFexp2 c f => Sys2Proof.Machine.execVxFexp2 c f s
  | .vxFlog2 c f => Sys2Proof.Machine.execVxFlog2 c f s
  | .vxCvt c f => Sys2Proof.Machine.execVxCvt c f s
  | .vxLut c f => Sys2Proof.Machine.execVxLut c f s
  | .vxRsum c f => Sys2Proof.Machine.execVxRsum c f s
  | .vxRmax c f => Sys2Proof.Machine.execVxRmax c f s
  | .vxRmin c f => Sys2Proof.Machine.execVxRmin c f s
  | .vxFrsum c f => Sys2Proof.Machine.execVxFrsum c f s
  | .vxFrmax c f => Sys2Proof.Machine.execVxFrmax c f s
  | .vxFrmin c f => Sys2Proof.Machine.execVxFrmin c f s
  | .vxStat c f => Sys2Proof.Machine.execVxStat c f s
  | .vxResultWrite c => Sys2Proof.Machine.execVxResultWrite c s
  | .vxPload c f => Sys2Proof.Machine.execVxPload c f s
  | .vxRun c f => Sys2Proof.Machine.execVxRun c f s
  | .runDescriptorCheck c => Sys2Proof.Machine.execRunDescriptorCheck c s
  | .runIteration c => Sys2Proof.Machine.execRunIteration c s
  | .runComplete c => Sys2Proof.Machine.execRunComplete c s
  | .seqNop c f => Sys2Proof.Machine.execSeqNop c f s
  | .movi c f => Sys2Proof.Machine.execMovi c f s
  | .orhi c f => Sys2Proof.Machine.execOrhi c f s
  | .seqAdd c f => Sys2Proof.Machine.execSeqAdd c f s
  | .seqSub c f => Sys2Proof.Machine.execSeqSub c f s
  | .addi c f => Sys2Proof.Machine.execAddi c f s
  | .seqMul c f => Sys2Proof.Machine.execSeqMul c f s
  | .seqAnd c f => Sys2Proof.Machine.execSeqAnd c f s
  | .seqOr c f => Sys2Proof.Machine.execSeqOr c f s
  | .seqXor c f => Sys2Proof.Machine.execSeqXor c f s
  | .shli c f => Sys2Proof.Machine.execShli c f s
  | .shri c f => Sys2Proof.Machine.execShri c f s
  | .srai c f => Sys2Proof.Machine.execSrai c f s
  | .slt c f => Sys2Proof.Machine.execSlt c f s
  | .sltu c f => Sys2Proof.Machine.execSltu c f s
  | .jump c f => Sys2Proof.Machine.execJump c f s
  | .beqz c f => Sys2Proof.Machine.execBeqz c f s
  | .bnez c f => Sys2Proof.Machine.execBnez c f s
  | .bltz c f => Sys2Proof.Machine.execBltz c f s
  | .loop c f => Sys2Proof.Machine.execLoop c f s
  | .loopi c f => Sys2Proof.Machine.execLoopi c f s
  | .rdc c f => Sys2Proof.Machine.execRdc c f s
  | .post c f => Sys2Proof.Machine.execPost c f s
  | .mrd c f => Sys2Proof.Machine.execMrd c f s
  | .mack c f => Sys2Proof.Machine.execMack c f s
  | .seqEnd c f => Sys2Proof.Machine.execSeqEnd c f s
  | .lsNop c f => Sys2Proof.Machine.execLsNop c f s
  | .lsLdv c f => Sys2Proof.Machine.execLsLdv c f s
  | .lsStv c f => Sys2Proof.Machine.execLsStv c f s
  | .lsLdw c f => Sys2Proof.Machine.execLsLdw c f s
  | .lsStw c f => Sys2Proof.Machine.execLsStw c f s
  | .lsLdm c f => Sys2Proof.Machine.execLsLdm c f s
  | .lsStm c f => Sys2Proof.Machine.execLsStm c f s
  | .cpNop c f => Sys2Proof.Machine.execCpNop c f s
  | .cpIssue c f => Sys2Proof.Machine.execCpIssue c f s
  | .cpOvl c f => Sys2Proof.Machine.execCpOvl c f s
  | .overlayComplete c => Sys2Proof.Machine.execOverlayComplete c s
  | .flNop c f => Sys2Proof.Machine.execFlNop c f s
  | .flWait c f => Sys2Proof.Machine.execFlWait c f s
  | .flWaitd c f => Sys2Proof.Machine.execFlWaitd c f s
  | .flWaits c f => Sys2Proof.Machine.execFlWaits c f s
  | .flAdd c f => Sys2Proof.Machine.execFlAdd c f s
  | .flSet c f => Sys2Proof.Machine.execFlSet c f s
  | .flSig c f => Sys2Proof.Machine.execFlSig c f s
  | .flRead c f => Sys2Proof.Machine.execFlRead c f s
  | .signalDelivery k => Sys2Proof.Machine.execSignalDelivery k s
  | .waitLimit c => Sys2Proof.Machine.execWaitLimit c s
  | .imemFetch c found => Sys2Proof.Machine.execImemFetch c found s
  | .lspReadCheck c row found => Sys2Proof.Machine.execLspReadCheck c row found s
  | .coreHoldEnd c => Sys2Proof.Machine.execCoreHoldEnd c s
  | .lspWriteback c row => Sys2Proof.Machine.execLspWriteback c row s
  | .poisonDelivery c => Sys2Proof.Machine.execPoisonDelivery c s
  | .lspPatrolScrub c row found late => Sys2Proof.Machine.execLspPatrolScrub c row found late s
  | .copyMove n => Sys2Proof.Machine.execCopyMove n s
  | .copyAaddx n => Sys2Proof.Machine.execCopyAaddx n s
  | .copyZero n => Sys2Proof.Machine.execCopyZero n s
  | .copyMarks n => Sys2Proof.Machine.execCopyMarks n s
  | .copyComplete n => Sys2Proof.Machine.execCopyComplete n s
  | .aaddxGranuleAdd k => Sys2Proof.Machine.execAaddxGranuleAdd k s
  | .cmemAccessCheck site granule found => Sys2Proof.Machine.execCmemAccessCheck site granule found s
  | .cmemPatrolScrub site granule found => Sys2Proof.Machine.execCmemPatrolScrub site granule found s
  | .hbmRequest src num pc off op ecc parity => Sys2Proof.Machine.execHbmRequest src num pc off op ecc parity s
  | .hbmPatrolScrub pc off ecc => Sys2Proof.Machine.execHbmPatrolScrub pc off ecc s
  | .hbmTemperatureRead stack celsius => Sys2Proof.Machine.execHbmTemperatureRead stack celsius s
  | .pcRejoin pc passed => Sys2Proof.Machine.execPcRejoin pc passed s
  | .windowWriteArrival kind p => Sys2Proof.Machine.execWindowWriteArrival kind p s
  | .notifyTrackerClose k => Sys2Proof.Machine.execNotifyTrackerClose k s
  | .windowCloseComplete handle => Sys2Proof.Machine.execWindowCloseComplete handle s
  | .stepCommit ring idx => Sys2Proof.Machine.execStepCommit ring idx s
  | .gateCheck part => Sys2Proof.Machine.execGateCheck part s
  | .updateGroupApply part g => Sys2Proof.Machine.execUpdateGroupApply part g s
  | .commitComplete part => Sys2Proof.Machine.execCommitComplete part s
  | .commitAfterReset part => Sys2Proof.Machine.execCommitAfterReset part s
  | .upcDrainReq route mask => Sys2Proof.Machine.execUpcDrainReq route mask s
  | .upcDrain u => Sys2Proof.Machine.execUpcDrain u s
  | .upcFault u => Sys2Proof.Machine.execUpcFault u s
  | .upcReturn u => Sys2Proof.Machine.execUpcReturn u s
  | .digestReq ring idx => Sys2Proof.Machine.execDigestReq ring idx s
  | .digestStart part => Sys2Proof.Machine.execDigestStart part s
  | .digestComplete d => Sys2Proof.Machine.execDigestComplete d s
  | .compose part => Sys2Proof.Machine.execCompose part s
  | .remap part => Sys2Proof.Machine.execRemap part s
  | .partitionReset part => Sys2Proof.Machine.execPartitionReset part s
  | .partitionResetComplete part => Sys2Proof.Machine.execPartitionResetComplete part s
  | .dissolve part => Sys2Proof.Machine.execDissolve part s
  | .ringEnable ring => Sys2Proof.Machine.execRingEnable ring s
  | .ringDisable ring => Sys2Proof.Machine.execRingDisable ring s
  | .ringRestart ring => Sys2Proof.Machine.execRingRestart ring s
  | .doorbell route w => Sys2Proof.Machine.execDoorbell route w s
  | .commandFetch ring start => Sys2Proof.Machine.execCommandFetch ring start s
  | .jobLoad ring idx => Sys2Proof.Machine.execJobLoad ring idx s
  | .jobArm ring idx => Sys2Proof.Machine.execJobArm ring idx s
  | .jobStart ring idx => Sys2Proof.Machine.execJobStart ring idx s
  | .launch part => Sys2Proof.Machine.execLaunch part s
  | .stepEnd part => Sys2Proof.Machine.execStepEnd part s
  | .jobHalt ring idx => Sys2Proof.Machine.execJobHalt ring idx s
  | .jobRelease ring idx => Sys2Proof.Machine.execJobRelease ring idx s
  | .hostCopyToHbm ring idx write => Sys2Proof.Machine.execHostCopyToHbm ring idx write s
  | .hostCopyFromHbm ring idx => Sys2Proof.Machine.execHostCopyFromHbm ring idx s
  | .windowOpen ring idx => Sys2Proof.Machine.execWindowOpen ring idx s
  | .remoteReferenceEnter ring idx => Sys2Proof.Machine.execRemoteReferenceEnter ring idx s
  | .windowClose ring idx => Sys2Proof.Machine.execWindowClose ring idx s
  | .remoteReferenceClear ring idx => Sys2Proof.Machine.execRemoteReferenceClear ring idx s
  | .hintLoad ring idx => Sys2Proof.Machine.execHintLoad ring idx s
  | .hintWindowStart k => Sys2Proof.Machine.execHintWindowStart k s
  | .hintWindowEnd k => Sys2Proof.Machine.execHintWindowEnd k s
  | .fence ring idx => Sys2Proof.Machine.execFence ring idx s
  | .eventWait ring idx => Sys2Proof.Machine.execEventWait ring idx s
  | .eventWaitTimeout ring idx => Sys2Proof.Machine.execEventWaitTimeout ring idx s
  | .farrierGrant ring idx => Sys2Proof.Machine.execFarrierGrant ring idx s
  | .farrierGrantEnd part => Sys2Proof.Machine.execFarrierGrantEnd part s
  | .hostPost route w => Sys2Proof.Machine.execHostPost route w s
  | .hostAck route w => Sys2Proof.Machine.execHostAck route w s
  | .mailboxArrival k => Sys2Proof.Machine.execMailboxArrival k s
  | .routerHeadArrival site h readFlits => Sys2Proof.Machine.execRouterHeadArrival site h readFlits s
  | .escapeMove site h => Sys2Proof.Machine.execEscapeMove site h s
  | .crossingFlitReceive bay side link f => Sys2Proof.Machine.execCrossingFlitReceive bay side link f s
  | .clusterPortRequest site r => Sys2Proof.Machine.execClusterPortRequest site r s
  | .retryResend r => Sys2Proof.Machine.execRetryResend r s
  | .meshRequestTimeout r => Sys2Proof.Machine.execMeshRequestTimeout r s
  | .routeTableSwitch => Sys2Proof.Machine.execRouteTableSwitch s
  | .crossingRejoin bay side link bad => Sys2Proof.Machine.execCrossingRejoin bay side link bad s
  | .aisleRejoin bay find => Sys2Proof.Machine.execAisleRejoin bay find s
  | .routerFault site => Sys2Proof.Machine.execRouterFault site s
  | .referenceLost isB => Sys2Proof.Machine.execReferenceLost isB s
  | .referenceGood isB => Sys2Proof.Machine.execReferenceGood isB s
  | .refclkSelectWrite route v => Sys2Proof.Machine.execRefclkSelectWrite route v s
  | .beatSpreadWrite route v => Sys2Proof.Machine.execBeatSpreadWrite route v s
  | .beatNodeLost node => Sys2Proof.Machine.execBeatNodeLost node s
  | .clusterClockFault site => Sys2Proof.Machine.execClusterClockFault site s
  | .opPointChange site => Sys2Proof.Machine.execOpPointChange site s
  | .opPointChangeComplete site => Sys2Proof.Machine.execOpPointChangeComplete site s
  | .stretchRaise site level => Sys2Proof.Machine.execStretchRaise site level s
  | .stretchFall site => Sys2Proof.Machine.execStretchFall site s
  | .stretchPersistent site => Sys2Proof.Machine.execStretchPersistent site s
  | .timeWord flips => Sys2Proof.Machine.execTimeWord flips s
  | .dtStepReq route v => Sys2Proof.Machine.execDtStepReq route v s
  | .dtMasterStep => Sys2Proof.Machine.execDtMasterStep s
  | .fabricTimeSilence => Sys2Proof.Machine.execFabricTimeSilence s
  | .aisleConverterPoll status0 status1 => Sys2Proof.Machine.execAisleConverterPoll status0 status1 s
  | .ldoSliceFailed site slice => Sys2Proof.Machine.execLdoSliceFailed site slice s
  | .clusterPark site => Sys2Proof.Machine.execClusterPark site s
  | .powerOnStage bay meanCurrent => Sys2Proof.Machine.execPowerOnStage bay meanCurrent s
  | .inrushSlowMode bay assist => Sys2Proof.Machine.execInrushSlowMode bay assist s
  | .inrushAssistEnd bay => Sys2Proof.Machine.execInrushAssistEnd bay s
  | .hintDeferralEnd bay => Sys2Proof.Machine.execHintDeferralEnd bay s
  | .powerOnComplete site => Sys2Proof.Machine.execPowerOnComplete site s
  | .fastLoopSample bay mean1us energy10ms asked => Sys2Proof.Machine.execFastLoopSample bay mean1us energy10ms asked s
  | .slowLoop poll shares limits modulePower acts rest => Sys2Proof.Machine.execSlowLoop poll shares limits modulePower acts rest s
  | .bayRailLost bay => Sys2Proof.Machine.execBayRailLost bay s
  | .bayReenable route r => Sys2Proof.Machine.execBayReenable route r s
  | .aisleFeedLost bay => Sys2Proof.Machine.execAisleFeedLost bay s
  | .thermalSample isAisle unit celsius => Sys2Proof.Machine.execThermalSample isAisle unit celsius s
  | .thermalStepUp site => Sys2Proof.Machine.execThermalStepUp site s
  | .thermalSwitchOff site => Sys2Proof.Machine.execThermalSwitchOff site s
  | .minVReset route index sub => Sys2Proof.Machine.execMinVReset route index sub s
  | .fecPairReceive link find uncorrectable flits => Sys2Proof.Machine.execFecPairReceive link find uncorrectable flits s
  | .linkNakReplay link => Sys2Proof.Machine.execLinkNakReplay link s
  | .portRetrainComplete link ok => Sys2Proof.Machine.execPortRetrainComplete link ok s
  | .portTrainingAttempt link ok good peer => Sys2Proof.Machine.execPortTrainingAttempt link ok good peer s
  | .laneBad link lane signal => Sys2Proof.Machine.execLaneBad link lane signal s
  | .laneRetest link lane errors => Sys2Proof.Machine.execLaneRetest link lane errors s
  | .portEnable route link => Sys2Proof.Machine.execPortEnable route link s
  | .portDisable route link => Sys2Proof.Machine.execPortDisable route link s
  | .portRetrain route link => Sys2Proof.Machine.execPortRetrain route link s
  | .routedPacketArrival link dst typ hops ageUs dl body => Sys2Proof.Machine.execRoutedPacketArrival link dst typ hops ageUs dl body s
  | .linkWaitDiscard link => Sys2Proof.Machine.execLinkWaitDiscard link s
  | .wmove x => Sys2Proof.Machine.execWmove x s
  | .waaddx x => Sys2Proof.Machine.execWaaddx x s
  | .wzero x => Sys2Proof.Machine.execWzero x s
  | .wdone d ovf => Sys2Proof.Machine.execWdone d ovf s
  | .linkRequestResend tag => Sys2Proof.Machine.execLinkRequestResend tag s
  | .timeAnn link m => Sys2Proof.Machine.execTimeAnn link m s
  | .timeAnnSend link => Sys2Proof.Machine.execTimeAnnSend link s
  | .delayReq link m => Sys2Proof.Machine.execDelayReq link m s
  | .delayReqSend link => Sys2Proof.Machine.execDelayReqSend link s
  | .delayResp link m => Sys2Proof.Machine.execDelayResp link m s
  | .masterSilent => Sys2Proof.Machine.execMasterSilent s
  | .masterClaim link m => Sys2Proof.Machine.execMasterClaim link m s
  | .masterTakeOffice => Sys2Proof.Machine.execMasterTakeOffice s
  | .configuredMasterReclaim => Sys2Proof.Machine.execConfiguredMasterReclaim s
  | .idReq link m => Sys2Proof.Machine.execIdReq link m s
  | .idAssign link m => Sys2Proof.Machine.execIdAssign link m s
  | .idReqRepeat => Sys2Proof.Machine.execIdReqRepeat s
  | .idTable x => Sys2Proof.Machine.execIdTable x s
  | .idTableSend => Sys2Proof.Machine.execIdTableSend s
  | .hrdData tag data => Sys2Proof.Machine.execHrdData tag data s
  | .hostPortReturn => Sys2Proof.Machine.execHostPortReturn s
  | .powerGoodRise straps find => Sys2Proof.Machine.execPowerGoodRise straps find s
  | .electionRetry announced => Sys2Proof.Machine.execElectionRetry announced s
  | .heartbeat acks => Sys2Proof.Machine.execHeartbeat acks s
  | .yardmasterTakeover confirmed => Sys2Proof.Machine.execYardmasterTakeover confirmed s
  | .yardmasterAbdicate => Sys2Proof.Machine.execYardmasterAbdicate s
  | .groomRestart groom ok => Sys2Proof.Machine.execGroomRestart groom ok s
  | .moduleReset route w => Sys2Proof.Machine.execModuleReset route w s
  | .serviceTimeWrite => Sys2Proof.Machine.execServiceTimeWrite s
  | .studbookCopyWrite => Sys2Proof.Machine.execStudbookCopyWrite s
  | .degradedAckF route => Sys2Proof.Machine.execDegradedAckF route s
  | .degradedAckS route => Sys2Proof.Machine.execDegradedAckS route s
  | .fwStage route h => Sys2Proof.Machine.execFwStage route h s
  | .fwStageVerified => Sys2Proof.Machine.execFwStageVerified s
  | .fwApply route => Sys2Proof.Machine.execFwApply route s
  | .fwAbort route => Sys2Proof.Machine.execFwAbort route s
  | .fwUnitSwitch unit => Sys2Proof.Machine.execFwUnitSwitch unit s
  | .farrierStage route h => Sys2Proof.Machine.execFarrierStage route h s
  | .farrierRevert route => Sys2Proof.Machine.execFarrierRevert route s
  | .farrierRunStart isUpc unit => Sys2Proof.Machine.execFarrierRunStart isUpc unit s
  | .farrierRunEnd isUpc unit digest faulted test => Sys2Proof.Machine.execFarrierRunEnd isUpc unit digest faulted test s
  | .farrierRunTimeout isUpc unit => Sys2Proof.Machine.execFarrierRunTimeout isUpc unit s
  | .farrierOverdue site => Sys2Proof.Machine.execFarrierOverdue site s
  | .authChallenge route => Sys2Proof.Machine.execAuthChallenge route s
  | .authCheckSignature route => Sys2Proof.Machine.execAuthCheckSignature route s
  | .authCheckPassword route => Sys2Proof.Machine.execAuthCheckPassword route s
  | .unlockTest route password => Sys2Proof.Machine.execUnlockTest route password s
  | .unlockObserve route password => Sys2Proof.Machine.execUnlockObserve route password s
  | .unlockFull route password => Sys2Proof.Machine.execUnlockFull route password s
  | .lifecycleField route => Sys2Proof.Machine.execLifecycleField route s
  | .lifecycleTransfer route => Sys2Proof.Machine.execLifecycleTransfer route s
  | .lifecycleRetire route => Sys2Proof.Machine.execLifecycleRetire route s
  | .lifecycleClaim route => Sys2Proof.Machine.execLifecycleClaim route s
  | .pwDigestWrite route digest maxScope => Sys2Proof.Machine.execPwDigestWrite route digest maxScope s
  | .quoteCtrl route v => Sys2Proof.Machine.execQuoteCtrl route v s
  | .quoteSign => Sys2Proof.Machine.execQuoteSign s
  | .odRead r => Sys2Proof.Machine.execOdRead r s
  | .odWrite r => Sys2Proof.Machine.execOdWrite r s
  | .registerWrite r => Sys2Proof.Machine.execRegisterWrite r s
  | .sidebandFrame route f => Sys2Proof.Machine.execSidebandFrame route f s
  | .i3cPrivateRead port => Sys2Proof.Machine.execI3cPrivateRead port s
  | .i3cAddressAssign port setdasa static dynamic => Sys2Proof.Machine.execI3cAddressAssign port setdasa static dynamic s
  | .arpRequest target srcMac srcIp => Sys2Proof.Machine.execArpRequest target srcMac srcIp s
  | .icmpEcho target srcIp payload => Sys2Proof.Machine.execIcmpEcho target srcIp payload s
  | .pwrgoodFall => Sys2Proof.Machine.execPwrgoodFall s
  | .resetNAssert lowNs => Sys2Proof.Machine.execResetNAssert lowNs s
  | .resetNRelease find => Sys2Proof.Machine.execResetNRelease find s
  | .supplyLost kind unit => Sys2Proof.Machine.execSupplyLost kind unit s
  | .lspLoadDelivery c => Sys2Proof.Machine.execLspLoadDelivery c s
  | .partCtrlEnd part => Sys2Proof.Machine.execPartCtrlEnd part s
  | .clusterWake site => Sys2Proof.Machine.execClusterWake site s
  | .persistentStretchLapse site => Sys2Proof.Machine.execPersistentStretchLapse site s
  | .storedEntryCopyWrite index sub => Sys2Proof.Machine.execStoredEntryCopyWrite index sub s
  | .attestationCertificateIssued => Sys2Proof.Machine.execAttestationCertificateIssued s

end Sys2Proof.Machine
end

