-- ==== Sys2Proof/Safety.lean ====
section
/-! DEFINITION. What a sound state of the block is: its memories, its registers and its tables of units keep their
canonical form, so that equal contents are equal data and a write is what a read finds. -/

namespace Sys2Proof.Machine

open Sys2Proof

/-- The canonical form of a memory of bytes: addresses strictly rising, no byte equal to what an unlisted
address reads as (log 8). -/
def Memory.wf (m : SMap Byte) : Bool := mwf zB m

/-- The canonical form of a table of marks, one for each granule. -/
def Memory.marksWf (m : SMap Bool) : Bool := mwf zF m

/-- HBM and CMEM and their marks are in canonical form. -/
def State.memWf (s : State) : Bool :=
  Memory.wf s.hbm && Memory.marksWf s.hbmPoison && Memory.marksWf s.hbmOvf &&
    Memory.wf s.cmem && Memory.marksWf s.cmemPoison && Memory.marksWf s.cmemOvf

/-- The registers of the object dictionary and the tables of units are in canonical form. -/
def State.unitsWf (s : State) : Bool :=
  mwf odDefault s.dict.val && mwf zCore s.cores && mwf zCl s.clusters && mwf zBay s.bays && mwf zGroom s.grooms &&
    mwf zPart s.parts && mwf zRing s.rings && mwf zLink s.links

/-- The invariant of the block: everything addressed is in canonical form. -/
def State.wf (s : State) : Bool := s.memWf && s.unitsWf

/-! ### Slots that may issue, and the tables of the slot commands -/

/-- Core `c` is `x`, a slot of its bundle may issue in this cycle, no cause of a fault is due in it, and the bundle holds
the word `w` in the slot `slot`, which has not issued yet (R165, R166, R202). -/
def State.issues (s : State) (c : CoreId) (x : Core) (slot w : Nat) : Prop :=
  s.core c = x ∧ x.ready = true ∧ x.cur.causes = [] ∧ x.cur.slotWord slot = w ∧ slot ∉ x.cur.acted

/-- The state with the present state of core `c` replaced: the slot has issued in this cycle. -/
def State.putCur (s : State) (c : CoreId) (x : Core) (slot : Nat) (y : CoreSt) : State :=
  s.setCore c { x with cur := y.actedBy slot }

/-- The state with a failed check of a slot noted in core `c`: the core faults with it when the cycle ends. Nothing of
the slot's effect takes place (R202, R203). -/
def State.noteCause (s : State) (c : CoreId) (x : Core) (code slot : Nat) : State :=
  s.putCur c x slot (x.cur.fail [⟨code, x.cur.bpc, slot⟩])

/-- The scalar operations that write SD: the command, its code and its result from the slot, SA and SB (R170). -/
def seqRules : List ((CoreId → SeqSlot → Instr) × Nat × (SeqSlot → W32 → W32 → W32)) :=
  [ (.movi, 0x01, fun f _ _ => f.imm.signExtend 32),
    (.orhi, 0x02, fun f a _ => a ||| (f.imm.setWidth 32 <<< 16)),
    (.seqAdd, 0x03, fun _ a b => a + b),
    (.seqSub, 0x04, fun _ a b => a - b),
    (.addi, 0x05, fun f a _ => a + f.imm.signExtend 32),
    (.seqMul, 0x06, fun _ a b => a * b),
    (.seqAnd, 0x07, fun _ a b => a &&& b),
    (.seqOr, 0x08, fun _ a b => a ||| b),
    (.seqXor, 0x09, fun _ a b => a ^^^ b),
    (.shli, 0x0A, fun f a _ => a <<< f.imm.toNat),
    (.shri, 0x0B, fun f a _ => a >>> f.imm.toNat),
    (.srai, 0x0C, fun f a _ => a.sshiftRight f.imm.toNat),
    (.slt, 0x0D, fun _ a b => if a.toInt < b.toInt then 1 else 0),
    (.sltu, 0x0E, fun _ a b => if a.toNat < b.toNat then 1 else 0) ]

/-- The branches: the command, its code and when it is taken (R170). -/
def branchRules : List ((CoreId → SeqSlot → Instr) × Nat × (W32 → Prop)) :=
  [ (.jump, 0x10, fun _ => True), (.beqz, 0x11, fun a => a = 0), (.bnez, 0x12, fun a => a ≠ 0),
    (.bltz, 0x13, fun a => a.toInt < 0) ]

/-- The loops: the command, its code and its number of iterations (R172). -/
def loopRules : List ((CoreId → SeqSlot → Instr) × Nat × (SeqSlot → W32 → Nat)) :=
  [ (.loop, 0x14, fun _ a => a.toNat), (.loopi, 0x15, fun f _ => f.imm.toNat + 1) ]

/-- The direct VX operations that leave a result in flight: the command and its code (R136). -/
def vxRules : List ((CoreId → VxSlot → Instr) × Nat) :=
  [ (.vxAdd, 0x01), (.vxSub, 0x02), (.vxMul, 0x03), (.vxAddu, 0x04), (.vxSubu, 0x05), (.vxMulu, 0x06),
    (.vxDiv, 0x07), (.vxDivu, 0x08), (.vxMin, 0x09), (.vxMax, 0x0A), (.vxMinu, 0x0B), (.vxMaxu, 0x0C),
    (.vxAnd, 0x0D), (.vxOr, 0x0E), (.vxXor, 0x0F), (.vxAndn, 0x10), (.vxShl, 0x11), (.vxShr, 0x12),
    (.vxSra, 0x13), (.vxCmpeq, 0x14), (.vxCmplt, 0x15), (.vxCmple, 0x16), (.vxCmpltu, 0x17), (.vxSel, 0x18),
    (.vxMov, 0x19), (.vxMovhi, 0x1A), (.vxMset, 0x1B), (.vxMget, 0x1C), (.vxFadd, 0x20), (.vxFsub, 0x21),
    (.vxFmul, 0x22), (.vxFma, 0x23), (.vxFmin, 0x24), (.vxFmax, 0x25), (.vxFcmpeq, 0x26), (.vxFcmplt, 0x27),
    (.vxFcmple, 0x28), (.vxFrcp, 0x29), (.vxFrsq, 0x2A), (.vxFexp2, 0x2B), (.vxFlog2, 0x2C), (.vxCvt, 0x30),
    (.vxLut, 0x31), (.vxRsum, 0x38), (.vxRmax, 0x39), (.vxRmin, 0x3A), (.vxFrsum, 0x3B), (.vxFrmax, 0x3C),
    (.vxFrmin, 0x3D) ]

/-- The latency of a direct VX operation (R136). -/
def vxLatency (op : Nat) : Nat :=
  if op = 0x07 ∨ op = 0x08 ∨ (0x29 ≤ op ∧ op ≤ 0x2C) then 12
  else if op = 0x03 ∨ op = 0x06 then 3
  else if (0x20 ≤ op ∧ op ≤ 0x28) ∨ op = 0x30 ∨ op = 0x31 then 4
  else if 0x38 ≤ op ∧ op ≤ 0x3D then 8
  else 2

/-- The saturating integer operations: the code, whether it is signed, and its exact result (R136, R137). -/
def satRules : List (Nat × Bool × (Int → Int → Int)) :=
  [ (0x01, true, fun a b => a + b), (0x02, true, fun a b => a - b), (0x03, true, fun a b => a * b),
    (0x04, false, fun a b => a + b), (0x05, false, fun a b => a - b), (0x06, false, fun a b => a * b) ]

/-- The least and greatest value of a lane of `w` bits (R137). -/
def laneBounds (w : Nat) (signed : Bool) : Int × Int :=
  if signed then (-(2 ^ (w - 1)), 2 ^ (w - 1) - 1) else (0, 2 ^ w - 1)

/-- A lane of `w` bits as a number. -/
def laneInt (w : Nat) (signed : Bool) (a : Nat) : Int :=
  if signed then (BitVec.ofNat w a).toInt else a

/-! ### The array, the lane programs and the scratchpad -/

/-- No access of the present cycle reads the bank of a row yet (R191). -/
def CoreSt.readFree (c : CoreSt) (row : Nat) : Prop := c.banks.contains ⟨c.now, bankOf row, false⟩ = false

/-- What a pass asks of bank `b` before it issues: its last drain has left it, and without CLR its tile is open, of the
pass's number kind, and has a free log entry (R80, R85, R108). -/
def Mxe.takesPass (m : Mxe) (n : Nat) (clr isInt b : Bool) : Prop :=
  (∀ d q, (if b then m.drainB else m.drainA) = some (d, q) → d + 32 * q ≤ n) ∧
    (clr = false → (m.bankOf b).isOpen = true ∧ (m.bankOf b).kind = some isInt ∧ (m.bankOf b).log.length < 64)

/-- The read of a load's part `i`: row `row + i` into part `part + i` of its register (R192). -/
def ldvRead (x : CoreSt) (f : LsSlot) (row i : Nat) : LspRead :=
  { issued := x.now, rank := if f.port1 then 5 else 4, bpc := x.bpc, slot := if f.port1 then 4 else 3, row := row + i,
    data := (x.viewRow x.now (row + i)).1, poison := (x.viewRow x.now (row + i)).2,
    dst := .vpart f.reg.toNat (f.part.toNat + i) }

/-- The read of a load of one word or quarter (R192). -/
def ldRead (x : CoreSt) (f : LsSlot) (row : Nat) (dst : LoadDst) : LspRead :=
  { issued := x.now, rank := if f.port1 then 5 else 4, bpc := x.bpc, slot := if f.port1 then 4 else 3, row := row,
    data := (x.viewRow x.now row).1, poison := (x.viewRow x.now row).2, dst := dst }

/-- The waits: the command, its code, its target at the start of the cycle and what it subtracts (R182). -/
def waitRules : List ((CoreId → FlSlot → Instr) × Nat × (FlSlot → CoreSt → W32) × (FlSlot → W32)) :=
  [ (.flWait, 1, fun f _ => f.imm.zeroExtend 32, fun _ => 0),
    (.flWaitd, 2, fun f _ => f.imm.zeroExtend 32, fun f => f.imm.zeroExtend 32),
    (.flWaits, 3, fun f x => x.s (f.imm.toNat % 16), fun _ => 0) ]

/-- The operations of a core advance: it issues or has ended, it has started, and nothing holds it (R160, R161). -/
def CoreSt.goes (x : CoreSt) : Prop :=
  (x.phase = .running ∨ x.phase = .ended) ∧ x.started = true ∧ x.freeze = .none

/-! ### Memory, windows and messages -/

/-- What a command that keeps both memory tiers leaves: every byte and mark of CMEM and HBM. -/
def State.sameMem (s t : State) : Prop :=
  t.hbm = s.hbm ∧ t.hbmPoison = s.hbmPoison ∧ t.hbmOvf = s.hbmOvf ∧ t.cmem = s.cmem ∧ t.cmemPoison = s.cmemPoison ∧
    t.cmemOvf = s.cmemOvf

/-- The requests for a window: the command that carries one, and its kind (R464). -/
def winRules : List ((WinIn → Instr) × WinKind) := [(.wmove, .wmove), (.waaddx, .waaddx), (.wzero, .wzero)]

/-- The counter of the check that a request fails, in the order of the checks: no open window, another peer or key, a
right that is missing, bytes past its end, its partition under reset (R237). -/
def State.winFails (s : State) (kind : WinKind) (p : WinPkt) (ctr : Nat) : Prop :=
  match s.window p.handle with
  | none => ctr = odWindowDropClosed
  | some w =>
    (w.closing.isSome = true ∧ ctr = odWindowDropClosed) ∨
    (w.closing = none ∧ (w.peer ≠ p.src ∨ w.key ≠ p.key) ∧ ctr = odWindowDropAuth) ∨
    (w.closing = none ∧ w.peer = p.src ∧ w.key = p.key ∧ w.rights.getLsbD (kindRight kind) = false ∧
      ctr = odWindowDropRights) ∨
    (w.closing = none ∧ w.peer = p.src ∧ w.key = p.key ∧ w.rights.getLsbD (kindRight kind) = true ∧
      w.size < p.offset + pktBytes kind p ∧ ctr = odWindowDropRange) ∨
    (w.closing = none ∧ w.peer = p.src ∧ w.key = p.key ∧ w.rights.getLsbD (kindRight kind) = true ∧
      p.offset + pktBytes kind p ≤ w.size ∧ (s.part w.part).resetAt.isSome = true ∧ ctr = odWindowDropReset)

/-- A window takes a request: it is open, for this peer and key, with the right, the room and no reset (R237). -/
def Window.takes (w : Window) (s : State) (kind : WinKind) (p : WinPkt) : Prop :=
  w.closing = none ∧ w.peer = p.src ∧ w.key = p.key ∧ w.rights.getLsbD (kindRight kind) = true ∧
    p.offset + pktBytes kind p ≤ w.size ∧ (s.part w.part).resetAt = none

/-- A link brings packets for the module to its firmware: it is UP and its die has its path to the mesh; none is the
module's own delivery (R54, R442, R458). -/
def State.linkServes (s : State) (link : Option Nat) : Prop :=
  ∀ k, link = some k → k < 34 ∧ s.linkUp k = true ∧ s.dieCutOff (linkDie k) = false

/-- A command brings a window request to its owner: its arrival, or its packet, which is not too old, from a link that
serves (R237, R461, R464). -/
def State.brings (s : State) (r : (WinIn → Instr) × WinKind) (p : WinPkt) (cmd : Instr) : Prop :=
  cmd = .windowWriteArrival r.2 p ∨ ∃ link, cmd = r.1 ⟨link, p⟩ ∧ s.linkServes link ∧ s.pktDiscard p.hops p.ageUs = none

/-! ### Commits, rings, partitions and jobs -/

/-- A ring command completes between two states: it is off the list, and, where the link die of the host port has its path
to the mesh, a completion record of its ring, index and status is among what the module has sent to the host since
(R54, R313, R314). -/
def Completes (s t : State) (cmd : RingCmd) (status : Nat) : Prop :=
  (∀ y ∈ t.cmds, ¬ (y.ring = cmd.ring ∧ y.idx = cmd.idx)) ∧
  (s.dieCutOff (linkDie s.hostPort) = false →
    ∃ res job step l r, t.hostTx = s.hostTx ++ l ++
      [.hwr ((s.ring cmd.ring).cpl + 64 * (cmd.idx % 2 ^ (s.ring cmd.ring).log2))
        (cplWord cmd (2 ^ (s.ring cmd.ring).log2) status res job step (s.clk.dt / 10 * 10)) 64] ++ r)

/-- A route may write a scalar entry of the dictionary: it is open and holds the right (R559 to R563, R572). -/
def State.mayWrite (s : State) (route key : Nat) : Prop :=
  s.routeOpen route = true ∧ ∃ r, s.odGuard route false false (key / 256) (key % 256) = .ok (some (r, 2))

/-- The descriptors of a STEP_COMMIT (R264, R308). -/
def State.commitList (s : State) (c : RingCmd) : List (BitVec 1024) :=
  s.updList (s.part c.part) (fld c.desc 96 64) (fld c.desc 160 12 + 1)

/-! ### Mesh, clocks, power and heat -/

/-- A job whose step was on its way is halted with the reason (R321). -/
def State.losesStep (s t : State) (p reason : Nat) : Prop :=
  (s.part p).job.st = .armed ∨ (s.part p).job.st = .running →
    (t.part p).job.st = .halted ∧ (t.part p).job.reason = reason

/-- A router that runs takes a head (R358). -/
def State.routerTakes (s : State) (site : SiteId) : Prop :=
  site < 576 ∧ (s.bay (site / 36)).aisleDown = false ∧ (s.cl site).routerFaulty = false

/-- The references as they stand give the one in use, or the holdover; while no yardmaster is in office no node leads the
mesh, which runs in holdover (R377, R378, R380). -/
def State.follows (s : State) (d : Clock) (sel : Nat) : Prop :=
  s.clk.locked = true →
    (s.yardActs = false → d.holdover = true ∧ d.selB = s.clk.selB) ∧
    (s.yardActs = true →
      (refPick sel s.clk.selB d.goodA d.goodB = none → d.holdover = true ∧ d.selB = s.clk.selB) ∧
      (∀ b, refPick sel s.clk.selB d.goodA d.goodB = some b → d.holdover = false ∧ d.selB = b))

/-- A write to a scalar entry that the rule of the entry refuses leaves every entry (R563). -/
def State.sameOd (s t : State) : Prop := t.dict.val = s.dict.val ∧ t.dict.octets = s.dict.octets

/-- The sequencer of a bay: the cluster it works on, or the next that asks (R418). -/
def Bay.nextSeq (x : Bay) : Option PowerSeq :=
  match x.seq with
  | some q => some q
  | none =>
    match x.want with
    | [] => none
    | k :: _ => some ⟨k, 0, 0, false, none, false⟩

/-! ### Links and the fabric -/

/-- A packet has gone out on a link, or waits there for its credits (R449, R459). -/
def State.hasSent (t : State) (k : Nat) (m : LinkMsg) : Prop :=
  (∃ x ∈ t.linkTx, x.link = some k ∧ x.msg = m) ∨ ∃ w ∈ (t.link k).wait, w.msg = m

/-- The reserved bits of a header behind its TYPE are zero, of a window packet and of a management message (R460, R470). -/
def pktClean (b : PktBody) (typ : Nat) : Bool :=
  b.low == 0 &&
    if typ ≤ 4 then b.mid == 0 && fld b.high 23 1 == 0 && fld b.high 277 11 == 0
    else fld b.mid 3 2 == 0 && fld b.high 16 16 == 0 && fld b.high 274 14 == 0

/-- A time message names the module and its fabric master, term, depth and MSEQ as a state holds them (R465). -/
def timeFrom (s : State) (a : TimeMsg) : Prop :=
  a.masterId = BitVec.ofNat 16 (s.od odFabricMasterId) ∧ a.src = BitVec.ofNat 16 (s.od odDeviceId) ∧
    a.idv = (s.od odDeviceIdValid == 1) ∧ a.tdepth = s.od odTimeDepth ∧ a.term = BitVec.ofNat 16 (s.od odFabricTerm) ∧
    a.mseq = s.fabric.mseq

/-- A routed packet is still good: fewer than 32 hops, and at most 5,000 µs old (R461). -/
def State.pktGood (s : State) (hops age : Nat) : Prop := s.pktDiscard hops age = none

/-! ### Start-up and the pins -/

/-- The grooms that announce themselves and have power, in the order of the election (R484, R485). -/
def State.electors (s : State) (l : List Nat) : List Nat := groomRank.filter fun g => l.contains g && s.groomFed g

/-- A fuse copy decides: both are good and equal, or one alone is good (R482). -/
def fuseDecides (f : FuseFind) : Bool :=
  (f.aGood && f.bGood && f.equal) || (f.aGood && !f.bGood) || (!f.aGood && f.bGood)

/-- The image in the tack room passes the checks of a start with the findings `f`, under the floor that its stored copies give and
the keys that are not revoked (R506, R544). -/
def State.startImage (s : State) (f : StartFind) : Prop :=
  f.imageVerified = true ∧ s.firm.tackVerified = true ∧
    (s.loadStored f).od odFwVersionFloor ≤ s.firm.tack.secVer.toNat ∧ mget zF s.sec.revoked s.firm.tackSlot = false

/-- The mirror that the studbook copy of a start holds (R483, R500). -/
def State.startMirror (s : State) (f : StartFind) : Option Mirror := (s.studCopy f).bind (·.mirror)

/-- A groom that is away for the switch of a live update and comes back with a warm reset (R511). -/
def State.groomReturns (s : State) (g : Nat) : Bool :=
  s.firm.away == some g && s.groomFed g && !(s.groom g).hard && !s.groomCut g

/-- Where a warm reset with `n` grooms and these findings of the fuse map and of the image ends (R482, R485, R493). -/
def State.warmEnds (s t : State) (n : Nat) (fuse : FuseFind) (good : Bool) : Prop :=
  (n < 11 → t.od odStartState = 0x0D ∧ t.start.warm = some (fuse, good) ∧ t.start.acting = false) ∧
  (11 ≤ n → (good && s.tackOk) = false → t.od odStartState = 0x0C) ∧
  (11 ≤ n → (good && s.tackOk) = true →
    (fuseDecides fuse = true ∨ (fuse.mirrorGood = true ∧ s.mirror ≠ none) →
      t.od odStartState = 0x0A ∧ t.od odLastStartWarm = 1) ∧
    (fuseDecides fuse = false → fuse.mirrorGood = false ∨ s.mirror = none → t.od odStartState = 0x0B))

/-- Where an election with `n` grooms and the findings `f` ends: NO_QUORUM, RECOVERY, READY, or DEGRADED_BOOT where
neither a fuse copy nor a good mirror decides (R482, R483, R485, R490, R503). -/
def State.startsAs (s t : State) (n : Nat) (f : StartFind) : Prop :=
  (n < 11 → t.od odStartState = 0x0D) ∧
  (11 ≤ n → ¬ s.startImage f → t.od odStartState = 0x0C) ∧
  (11 ≤ n → s.startImage f →
    (fuseDecides f.fuse = true → t.od odStartState = 0x0A) ∧
    (fuseDecides f.fuse = false → s.startMirror f ≠ none → f.fuse.mirrorGood = true → t.od odStartState = 0x0A) ∧
    (fuseDecides f.fuse = false → s.startMirror f = none ∨ f.fuse.mirrorGood = false → t.od odStartState = 0x0B))

/-! ### Firmware and farrier runs -/

/-- The run of a unit. -/
def FarRun.isOf (r : FarRun) (isUpc : Bool) (unit : Nat) : Prop := r.isUpc = isUpc ∧ r.un = unit

end Sys2Proof.Machine
end

