-- ==== Sys2Proof/WellFormed.lean ====
section
/-! DEFINITION. The operands that name something the block has: a command outside these bounds names nothing
(R34, R38, R205, R226, R304, R331, R352, R440, R484, R559). -/

namespace Sys2Proof

/-- 576 sites of 16 cores (R38). -/
def coreOk (c : Nat) : Bool := decide (c < 9216)
/-- A physical cluster site. -/
def siteOk (s : Nat) : Bool := decide (s < 576)
/-- A bay. -/
def bayOk (b : Nat) : Bool := decide (b < 16)
/-- An HBM stack. -/
def stackOk (k : Nat) : Bool := decide (k < 16)
/-- A pseudo-channel: 32 of each stack. -/
def pcOk (p : Nat) : Bool := decide (p < 512)
/-- A byte offset in a pseudo-channel of 1.5 GB (R9, R225). -/
def offOk (o : Nat) : Bool := decide (o < 1500000000)
/-- A 64-byte granule of the 8 MiB of CMEM. -/
def granuleOk (g : Nat) : Bool := decide (g < 131072)
/-- A partition. -/
def partOk (p : Nat) : Bool := decide (p < 32)
/-- A command ring. -/
def ringOk (r : Nat) : Bool := decide (r < 4096)
/-- A command index, 32 bits wide. -/
def slotOk (i : Nat) : Bool := decide (i < 4294967296)
/-- An access route. -/
def routeOk (r : Nat) : Bool := decide (r ≤ 36)
/-- A link. -/
def linkOk (k : Nat) : Bool := decide (k < 36)
/-- A lane of a link: eight, four on the intra links. -/
def laneOk (k l : Nat) : Bool := linkOk k && decide (l < if 30 ≤ k && k ≤ 33 then 4 else 8)
/-- A link of one of the four sides of a bay (R347). -/
def crossOk (side link : Nat) : Bool := decide (side < 4) && decide (link < if side % 2 = 0 then 9 else 4)
/-- An update chiplet. -/
def upcOk (u : Nat) : Bool := decide (u < 8)
/-- A BEAT node or its groom. -/
def nodeOk (n : Nat) : Bool := decide (n < 20)
/-- A stretch level. -/
def levelOk (l : Nat) : Bool := decide (l ≤ 3)
/-- A regulator slice. -/
def sliceOk (k : Nat) : Bool := decide (k < 24)
/-- An I3C port. -/
def portOk (p : Nat) : Bool := decide (p < 2)
/-- A unit with thermal sensors. -/
def sensorOk : Sensor → Nat → Bool
  | .cluster, u => siteOk u
  | .aisle, u => bayOk u
  | .upc, u => upcOk u
  | .linkDie, u => decide (u < 4)
/-- A UPC, or else a site. -/
def farOk (isUpc : Bool) (u : Nat) : Bool := if isUpc then upcOk u else siteOk u
/-- A unit that a live update switches: a groom, a UPC, a partition. -/
def switchOk (u : Nat) : Bool := decide (u < 60)
/-- A stack group, a link die, the aisle feeds, VAUX. -/
def supplyOk (kind u : Nat) : Bool := decide (kind < 4) && decide (u < [8, 4, 1, 1].getD kind 0)
/-- The scalar registers and the flags of a core (R167, R181). -/
def fetchOk (f : FetchFind) : Bool := f.scalars.all (fun k => decide (k < 16)) && f.flags.all fun k => decide (k < 64)
/-- The sites of a bay's estimates. -/
def currentsOk (l : List (SiteId × Nat)) : Bool := l.all fun x => siteOk x.1
/-- Window data is whole granules of 32 bytes. -/
def winOk (p : WinPkt) : Bool := p.data.length % 32 == 0
/-- An index and a sub-index (R555). -/
def reqOk (r : OdReq) : Bool := routeOk r.route && decide (r.index < 65536) && decide (r.sub < 256)
/-- A write stays within the 64 bytes of a granule. -/
def hbmOk : HbmOp → Bool
  | .write data _ => decide (data.length ≤ 64)
  | .read | .zero | .aaddx .. => true

/-- A command whose operands name something. -/
def Instr.wellFormed (i : Instr) : Bool :=
  match i with
  | .mxNop c _ | .mxDload c _ | .mxLoad c _ | .shadowPlaneComplete c | .mxSwap c _ | .swapTakesEffect c
  | .mxStream c _ | .passStepAccumulate c | .mxDrain c _ | .replayHoldEnd c | .drainRowOutput c | .vxNop c _
  | .vxAdd c _ | .vxSub c _ | .vxMul c _ | .vxAddu c _ | .vxSubu c _ | .vxMulu c _ | .vxDiv c _ | .vxDivu c _
  | .vxMin c _ | .vxMax c _ | .vxMinu c _ | .vxMaxu c _ | .vxAnd c _ | .vxOr c _ | .vxXor c _ | .vxAndn c _
  | .vxShl c _ | .vxShr c _ | .vxSra c _ | .vxCmpeq c _ | .vxCmplt c _ | .vxCmple c _ | .vxCmpltu c _
  | .vxSel c _ | .vxMov c _ | .vxMovhi c _ | .vxMset c _ | .vxMget c _ | .vxFadd c _ | .vxFsub c _
  | .vxFmul c _ | .vxFma c _ | .vxFmin c _ | .vxFmax c _ | .vxFcmpeq c _ | .vxFcmplt c _ | .vxFcmple c _
  | .vxFrcp c _ | .vxFrsq c _ | .vxFexp2 c _ | .vxFlog2 c _ | .vxCvt c _ | .vxLut c _ | .vxRsum c _
  | .vxRmax c _ | .vxRmin c _ | .vxFrsum c _ | .vxFrmax c _ | .vxFrmin c _ | .vxStat c _ | .vxResultWrite c
  | .vxPload c _ | .vxRun c _ | .runDescriptorCheck c | .runIteration c | .runComplete c | .seqNop c _
  | .movi c _ | .orhi c _ | .seqAdd c _ | .seqSub c _ | .addi c _ | .seqMul c _ | .seqAnd c _ | .seqOr c _
  | .seqXor c _ | .shli c _ | .shri c _ | .srai c _ | .slt c _ | .sltu c _ | .jump c _ | .beqz c _
  | .bnez c _ | .bltz c _ | .loop c _ | .loopi c _ | .rdc c _ | .post c _ | .mrd c _ | .mack c _
  | .seqEnd c _ | .lsNop c _ | .lsLdv c _ | .lsStv c _ | .lsLdw c _ | .lsStw c _ | .lsLdm c _ | .lsStm c _
  | .cpNop c _ | .cpIssue c _ | .cpOvl c _ | .overlayComplete c | .flNop c _ | .flWait c _ | .flWaitd c _
  | .flWaits c _ | .flAdd c _ | .flSet c _ | .flSig c _ | .flRead c _ | .waitLimit c
  | .lspReadCheck c _ _ | .coreHoldEnd c | .lspWriteback c _ | .poisonDelivery c | .lspPatrolScrub c _ _ _
  | .lspLoadDelivery c => coreOk c
  | .signalDelivery _ | .copyMove _ | .copyAaddx _ | .copyZero _ | .copyMarks _ | .copyComplete _
  | .aaddxGranuleAdd _ | .notifyTrackerClose _ | .windowCloseComplete _ | .hintWindowStart _
  | .hintWindowEnd _ | .mailboxArrival _ | .retryResend _ | .meshRequestTimeout _ | .routeTableSwitch
  | .referenceLost _ | .referenceGood _ | .timeWord _ | .dtMasterStep | .fabricTimeSilence
  | .aisleConverterPoll _ _ | .slowLoop _ _ _ _ _ _ | .wdone _ _ | .linkRequestResend _ | .masterSilent
  | .masterTakeOffice | .configuredMasterReclaim | .idReqRepeat | .idTable _ | .idTableSend | .hrdData _ _
  | .hostPortReturn | .powerGoodRise _ _ | .heartbeat _ | .yardmasterTakeover _ | .yardmasterAbdicate
  | .serviceTimeWrite | .studbookCopyWrite | .fwStageVerified | .quoteSign | .arpRequest _ _ _
  | .icmpEcho _ _ _ | .pwrgoodFall | .resetNAssert _ | .resetNRelease _ | .storedEntryCopyWrite _ _
  | .attestationCertificateIssued => true
  | .cmemAccessCheck site granule _ | .cmemPatrolScrub site granule _ => siteOk site && granuleOk granule
  | .hbmRequest _ _ pc off op _ _ => pcOk pc && offOk off && hbmOk op
  | .hbmPatrolScrub pc off _ => pcOk pc && offOk off
  | .hbmTemperatureRead stack _ => stackOk stack
  | .pcRejoin pc _ => pcOk pc
  | .windowWriteArrival _ p => winOk p
  | .wmove x | .waaddx x | .wzero x => winOk x.pkt
  | .stepCommit ring idx | .digestReq ring idx | .jobLoad ring idx | .jobArm ring idx | .jobStart ring idx
  | .jobHalt ring idx | .jobRelease ring idx | .hostCopyToHbm ring idx _ | .hostCopyFromHbm ring idx
  | .windowOpen ring idx | .remoteReferenceEnter ring idx | .windowClose ring idx
  | .remoteReferenceClear ring idx | .hintLoad ring idx | .fence ring idx | .eventWait ring idx
  | .eventWaitTimeout ring idx | .farrierGrant ring idx => ringOk ring && slotOk idx
  | .gateCheck part | .commitComplete part | .commitAfterReset part | .digestStart part
  | .compose part | .remap part | .partitionReset part | .partitionResetComplete part
  | .dissolve part | .launch part | .stepEnd part | .farrierGrantEnd part | .partCtrlEnd part => partOk part
  | .digestComplete d => partOk d.part && d.sram.all fun x => decide (x.1 < 8)
  | .updateGroupApply part g => partOk part && stackOk g.stack
  | .upcDrainReq route _ | .doorbell route _ | .hostPost route _ | .hostAck route _
  | .refclkSelectWrite route _ | .beatSpreadWrite route _ | .dtStepReq route _ | .bayReenable route _
  | .minVReset route _ _ | .moduleReset route _ | .degradedAckF route | .degradedAckS route
  | .fwStage route _ | .fwApply route | .fwAbort route | .farrierStage route _ | .farrierRevert route
  | .authChallenge route | .authCheckSignature route | .authCheckPassword route | .unlockTest route _
  | .unlockObserve route _ | .unlockFull route _ | .lifecycleField route | .lifecycleTransfer route
  | .lifecycleRetire route | .lifecycleClaim route | .pwDigestWrite route _ _ | .quoteCtrl route _ => routeOk route
  | .upcDrain u | .upcFault u | .upcReturn u => upcOk u
  | .ringEnable ring | .ringDisable ring | .ringRestart ring | .commandFetch ring _ => ringOk ring
  | .routerHeadArrival site _ _ | .escapeMove site _ | .clusterPortRequest site _ | .routerFault site
  | .clusterClockFault site | .opPointChange site | .opPointChangeComplete site | .stretchFall site
  | .stretchPersistent site | .clusterPark site | .powerOnComplete site | .thermalStepUp site
  | .thermalSwitchOff site | .farrierOverdue site | .clusterWake site | .persistentStretchLapse site => siteOk site
  | .crossingFlitReceive bay side link f => bayOk bay && crossOk side link && decide (f.plane < 2)
  | .crossingRejoin bay side link _ => bayOk bay && crossOk side link
  | .aisleRejoin bay _ | .powerOnStage bay _ | .inrushAssistEnd bay
  | .hintDeferralEnd bay | .bayRailLost bay | .aisleFeedLost bay => bayOk bay
  | .imemFetch c f => coreOk c && fetchOk f
  | .inrushSlowMode bay l => bayOk bay && currentsOk l
  | .fastLoopSample bay _ _ a => bayOk bay && currentsOk a.currents
  | .beatNodeLost node => nodeOk node
  | .stretchRaise site level => siteOk site && levelOk level
  | .ldoSliceFailed site slice => siteOk site && sliceOk slice
  | .thermalSample kind unit _ => sensorOk kind unit
  | .fecPairReceive link _ _ _ | .linkNakReplay link | .portRetrainComplete link _
  | .portTrainingAttempt link _ _ _ | .routedPacketArrival link _ _ _ _ _ _ | .linkWaitDiscard link
  | .timeAnn link _ | .timeAnnSend link | .delayReq link _ | .delayReqSend link | .delayResp link _
  | .masterClaim link _ | .idReq link _ | .idAssign link _ => linkOk link
  | .laneBad link lane _ | .laneRetest link lane _ => laneOk link lane
  | .portEnable route link | .portDisable route link | .portRetrain route link => routeOk route && linkOk link
  | .electionRetry announced => announced.all nodeOk
  | .groomRestart groom _ => nodeOk groom
  | .fwUnitSwitch unit => switchOk unit
  | .farrierRunStart isUpc unit | .farrierRunEnd isUpc unit _ _ _ | .farrierRunTimeout isUpc unit => farOk isUpc unit
  | .odRead r | .odWrite r | .registerWrite r => reqOk r
  | .sidebandFrame route f => routeOk route && decide (f.bytes.length < 2068)
  | .i3cPrivateRead port | .i3cAddressAssign port _ _ _ => portOk port
  | .supplyLost kind unit => supplyOk kind unit

end Sys2Proof
end

