-- ==== Sys2Proof/Certificates/Slice0/Obligations.lean ====
section
/-! DEFINITION. The statements about the block that are to be proved. -/

open Sys2Proof Sys2Proof.Machine

/-! ### The block -/

/-- A step takes the command at the front of the queue and runs it with the queue's rest (log 1, log
18). -/
def Obligations.StepRunsFrontCommand : Prop :=
  ∀ (c : Instr) (rest : List Instr) (s : State), s.pending = c :: rest →
    step s = exec c { s with pending := rest }

/-- A step of a block with an empty queue idles: the model's choice (log 1). -/
def Obligations.EmptyQueueIdles : Prop := ∀ s : State, s.pending = [] → step s = .next s

/-- The state after reset is in canonical form, and no command waits. -/
def Obligations.ResetIsCanonical : Prop := State.reset.wf = true ∧ State.reset.pending = []

/-- Every step keeps HBM, CMEM, their marks, the registers of the object dictionary and the tables
of units in canonical form (R204 to R254, R555). -/
def Obligations.EveryStepKeepsCanonicalForm : Prop :=
  ∀ s t : State, s.wf = true → step s = .next t → t.wf = true

/-- A step takes exactly one command off the queue and adds none; no meaning touches the queue. -/
def Obligations.EveryStepConsumesOneCommand : Prop :=
  ∀ s t : State, step s = .next t → t.pending = s.pending.tail

/-- Every command ends in a next state, in every state: no step faults and none is refused. -/
def Obligations.EveryCommandAnswersNextState : Prop :=
  ∀ (i : Instr) (s : State), ∃ t, exec i s = .next t

/-- In a canonical state a register write is what a read finds, and leaves every other register
(R565). -/
def Obligations.RegisterWriteIsWhatReadFinds : Prop :=
  ∀ (s : State) (k j v : Nat), s.wf = true →
    (s.odSet k v).od k = v ∧ (j ≠ k → (s.odSet k v).od j = s.od j)

/-! ### The SEQ slot -/

/-- MOVI, ORHI, ADD, SUB, ADDI, MUL, AND, OR, XOR, SHLI, SHRI, SRAI, SLT and SLTU: with a legal
encoding and no parity error, SD gets the result of R170 from SA and SB as they stand when the cycle
begins, and nothing else of the block changes; with a parity error in SA or SB the operation raises
cause POISON (R517). A write to S0 leaves the core as it is (R167). -/
def Obligations.ScalarArithmeticWritesSD : Prop :=
  ∀ r ∈ seqRules, ∀ (c : CoreId) (f : SeqSlot) (s : State) (x : Core),
    s.issues c x 2 (seqWord r.2.1 f) → seqEncOk r.2.1 f = true →
    (x.beg.sBad f.sa.toNat = false → x.beg.sBad f.sb.toNat = false → exec (r.1 c f) s =
      .next (s.putCur c x 2 (x.cur.setS f.sd.toNat 1 (r.2.2 f (x.beg.s f.sa.toNat) (x.beg.s f.sb.toNat))))) ∧
    (x.beg.sBad f.sa.toNat = true ∨ x.beg.sBad f.sb.toNat = true → exec (r.1 c f) s = .next (s.noteCause c x 0x0D 2)) ∧
    ∀ (y : CoreSt) (v : W32) (rank : Nat), y.setS 0 rank v = y ∧ y.s 0 = 0

/-- A SEQ slot with a field that its operation does not use, or a reserved code's field, raises
cause 0x01 with its slot and has no other effect; when every slot of the bundle has issued the cycle
ends and the core faults with it and the other causes of the cycle, of which there are none without a
copy into a table in use (R19, R123, R142, R169, R202). That the causes of a cycle strike at the
IMEM_FETCH that ends it is the model's choice (log 51). -/
def Obligations.BrokenEncodingFaultsCore : Prop :=
  ∀ r ∈ seqRules, ∀ (c : CoreId) (f : SeqSlot) (s : State) (x : Core),
    s.issues c x 2 (seqWord r.2.1 f) → seqEncOk r.2.1 f = false →
    let u := s.noteCause c x 0x01 2
    exec (r.1 c f) s = .next u ∧
    (s.wf = true → s.cclk (c / 16) = true → (u.cur c).slotsDone = true →
      (∀ find, exec (.imemFetch c find) u = .next (u.coreFault c (u.core c).cycleCauses)) ∧
      (⟨0x01, x.cur.bpc, 2⟩ : Cause) ∈ (u.core c).cycleCauses ∧
      (x.cur.tabs = [] → (u.core c).cycleCauses = [⟨0x01, x.cur.bpc, 2⟩]))

/-- JUMP, BEQZ, BNEZ and BLTZ outside a delay bundle: a branch that is not taken has no effect; a
taken one has two delay bundles before its target, and the loops that do not hold the target are
closed. In a delay bundle, and taken from the last two bundles of an open loop, it raises cause
SEQUENCE (R170 to R172). LOOP and LOOPI: with fewer than four loops open, TGT at least a + 1, at
least one iteration and no branch pending, the loop from a + 1 to TGT opens with its iterations;
otherwise it raises cause SEQUENCE (R172). -/
def Obligations.BranchesAndLoops : Prop :=
  (∀ r ∈ branchRules, ∀ (c : CoreId) (f : SeqSlot) (s : State) (x : Core),
    s.issues c x 2 (seqWord r.2.1 f) → seqEncOk r.2.1 f = true → x.beg.sBad f.sa.toNat = false → x.beg.sBad f.sb.toNat = false →
    (x.beg.branch.isSome = true → exec (r.1 c f) s = .next (s.noteCause c x 0x08 2)) ∧
    (x.beg.branch = none → ¬ r.2.2 (x.beg.s f.sa.toNat) → exec (r.1 c f) s = .next (s.putCur c x 2 x.cur)) ∧
    (x.beg.branch = none → r.2.2 (x.beg.s f.sa.toNat) →
      (∃ l ∈ x.beg.loops, l.first ≤ x.cur.bpc ∧ x.cur.bpc ≤ l.last ∧ l.last ≤ x.cur.bpc + 1) →
      exec (r.1 c f) s = .next (s.noteCause c x 0x08 2)) ∧
    (x.beg.branch = none → r.2.2 (x.beg.s f.sa.toNat) →
      (∀ l ∈ x.beg.loops, ¬ (l.first ≤ x.cur.bpc ∧ x.cur.bpc ≤ l.last ∧ l.last ≤ x.cur.bpc + 1)) →
      exec (r.1 c f) s = .next (s.putCur c x 2 { x.cur with
        branch := some (2, f.tgt.toNat)
        loops := x.cur.loops.filter fun l => decide (l.first ≤ f.tgt.toNat) && decide (f.tgt.toNat ≤ l.last) }))) ∧
  (∀ r ∈ loopRules, ∀ (c : CoreId) (f : SeqSlot) (s : State) (x : Core),
    s.issues c x 2 (seqWord r.2.1 f) → seqEncOk r.2.1 f = true → x.beg.sBad f.sa.toNat = false → x.beg.sBad f.sb.toNat = false →
    let n := r.2.2 f (x.beg.s f.sa.toNat)
    (x.beg.branch = none → x.cur.bpc + 1 ≤ f.tgt.toNat → x.beg.loops.length < 4 → 0 < n →
      exec (r.1 c f) s = .next (s.putCur c x 2 { x.cur with
        loops := ⟨x.cur.bpc + 1, f.tgt.toNat, n - 1⟩ :: x.cur.loops })) ∧
    (x.beg.branch.isSome = true ∨ f.tgt.toNat < x.cur.bpc + 1 ∨ 4 ≤ x.beg.loops.length ∨ n = 0 →
      exec (r.1 c f) s = .next (s.noteCause c x 0x08 2)))

/-- RDC, POST, MRD, MACK, END and SEQ.NOP complete: a low half of CYC, HOLD_CYC or WAIT_CYC is read
and latches its high half, a high half gives what was latched, and device time is the integer part
of a COUNTED cluster's counter, and else or in a farrier run a multiple of 10 ns, at a free moment of
the present µs (log 5); POST keeps its message until cycle c + 4; MRD takes the oldest message of its channel, and gives
four zeros from an empty one; MACK answers the message last read, and has no effect where there is
none; END stops the issue, and raises cause SEQUENCE in a delay bundle (R171, R173 to R175, R396).
-/
def Obligations.CountersMailboxesAndEnd : Prop :=
  ∀ (c : CoreId) (f : SeqSlot) (s : State) (x : Core),
    x.beg.sBad f.sa.toNat = false → x.beg.sBad f.sb.toNat = false → x.beg.sBad f.sd.toNat = false →
    (s.issues c x 2 (seqWord 0x00 f) → seqEncOk 0x00 f = true → exec (.seqNop c f) s = .next (s.putCur c x 2 x.cur)) ∧
    (s.issues c x 2 (seqWord 0x18 f) → seqEncOk 0x18 f = true → f.imm = 0 → ∃ t, exec (.rdc c f) s = .next t ∧
      t = s.putCur c x 2 { x.cur.setS f.sd.toNat 1 (x.beg.cyc.setWidth 32) with
        latCyc := x.beg.cyc.extractLsb' 32 32 }) ∧
    (s.issues c x 2 (seqWord 0x18 f) → seqEncOk 0x18 f = true → f.imm = 1 → exec (.rdc c f) s =
      .next (s.putCur c x 2 (x.cur.setS f.sd.toNat 1 x.beg.latCyc))) ∧
    (s.issues c x 2 (seqWord 0x18 f) → seqEncOk 0x18 f = true → f.imm = 2 → exec (.rdc c f) s =
      .next (s.putCur c x 2 { x.cur.setS f.sd.toNat 1 (x.beg.holdCyc.setWidth 32) with
        latHold := x.beg.holdCyc.extractLsb' 32 32 })) ∧
    (s.issues c x 2 (seqWord 0x18 f) → seqEncOk 0x18 f = true → f.imm = 3 → exec (.rdc c f) s =
      .next (s.putCur c x 2 (x.cur.setS f.sd.toNat 1 x.beg.latHold))) ∧
    (s.issues c x 2 (seqWord 0x18 f) → seqEncOk 0x18 f = true → f.imm = 4 → exec (.rdc c f) s =
      .next (s.putCur c x 2 { x.cur.setS f.sd.toNat 1 (x.beg.waitCyc.setWidth 32) with
        latWait := x.beg.waitCyc.extractLsb' 32 32 })) ∧
    (s.issues c x 2 (seqWord 0x18 f) → seqEncOk 0x18 f = true → f.imm = 5 → exec (.rdc c f) s =
      .next (s.putCur c x 2 (x.cur.setS f.sd.toNat 1 x.beg.latWait))) ∧
    (s.issues c x 2 (seqWord 0x18 f) → seqEncOk 0x18 f = true → f.imm = 6 →
      let u := s.runFree (c / 16)
      let d := u.clusterDt (c / 16)
      exec (.rdc c f) s = .next (u.putCur c x 2 { x.cur.setS f.sd.toNat 1 (BitVec.ofNat 32 d) with
        latDt := BitVec.ofNat 32 (d / 2 ^ 32) }) ∧
      ((u.cl (c / 16)).counted = true → u.inRun (c / 16) = false → d = (u.cl (c / 16)).cnt / 2 ^ 24) ∧
      ((u.cl (c / 16)).counted = false ∨ u.inRun (c / 16) = true → d % 10 = 0)) ∧
    (s.issues c x 2 (seqWord 0x18 f) → seqEncOk 0x18 f = true → f.imm = 7 → exec (.rdc c f) s =
      .next (s.putCur c x 2 (x.cur.setS f.sd.toNat 1 x.beg.latDt))) ∧
    (s.issues c x 2 (seqWord 0x18 f) → seqEncOk 0x18 f = true → f.imm = 9 → exec (.rdc c f) s =
      .next (s.putCur c x 2 (x.cur.setS f.sd.toNat 1 (BitVec.ofNat 32 (((s.ownerOf c).map (·.2)).getD 0))))) ∧
    (s.issues c x 2 (seqWord 0x18 f) → seqEncOk 0x18 f = true → f.imm = 10 → exec (.rdc c f) s =
      .next (s.putCur c x 2 (x.cur.setS f.sd.toNat 1
        (BitVec.ofNat 32 (((s.ownerOf c).map fun o => (s.part o.1).clusters).getD 0))))) ∧
    (s.issues c x 2 (seqWord 0x18 f) → seqEncOk 0x18 f = true → f.imm = 8 → exec (.rdc c f) s =
      .next (s.putCur c x 2 (x.cur.setS f.sd.toNat 1 (BitVec.ofNat 32 (c % 16))))) ∧
    (s.issues c x 2 (seqWord 0x19 f) → seqEncOk 0x19 f = true → exec (.post c f) s = .next (s.putCur c x 2 { x.cur with
      postPend := x.cur.postPend ++ [(x.cur.cyc.toNat, f.imm.toNat,
        ⟨x.beg.s f.sb.toNat ++ x.beg.s f.sa.toNat, x.beg.s f.sd.toNat, 0, false⟩)] })) ∧
    (s.issues c x 2 (seqWord 0x1A f) → seqEncOk 0x1A f = true → ∀ m rest, mget (fun _ => []) x.cur.mb f.imm.toNat = m :: rest →
      exec (.mrd c f) s = .next (s.putCur c x 2
        { (((x.cur.setS f.sd.toNat 1 (m.pointer.setWidth 32)).setS (f.sd.toNat + 1) 1
            (m.pointer.extractLsb' 32 32)).setS (f.sd.toNat + 2) 1 m.tag).setS (f.sd.toNat + 3) 1
            (BitVec.ofNat 32 (m.src.toNat + if m.ack then 65536 else 0)) with
          mb := mset (fun _ => []) x.cur.mb f.imm.toNat rest
          mbLast := mset (fun _ => MbLast.none) x.cur.mbLast f.imm.toNat
            (if m.ack then .ack else .msg m.src) })) ∧
    (s.issues c x 2 (seqWord 0x1A f) → seqEncOk 0x1A f = true → mget (fun _ => []) x.cur.mb f.imm.toNat = [] →
      exec (.mrd c f) s = .next (s.putCur c x 2
        { (((x.cur.setS f.sd.toNat 1 0).setS (f.sd.toNat + 1) 1 0).setS (f.sd.toNat + 2) 1 0).setS
            (f.sd.toNat + 3) 1 0 with
          mb := mset (fun _ => []) x.cur.mb f.imm.toNat []
          mbLast := mset (fun _ => MbLast.none) x.cur.mbLast f.imm.toNat .empty })) ∧
    (s.issues c x 2 (seqWord 0x1B f) → seqEncOk 0x1B f = true → ∀ src, mget (fun _ => MbLast.none) x.cur.mbLast f.imm.toNat = .msg src →
      exec (.mack c f) s = .next (s.putCur c x 2 { x.cur with
        mbLast := mset (fun _ => MbLast.none) x.cur.mbLast f.imm.toNat .none
        ackPend := x.cur.ackPend ++ [(x.cur.cyc.toNat, src, x.beg.s f.sa.toNat)] })) ∧
    (s.issues c x 2 (seqWord 0x1B f) → seqEncOk 0x1B f = true → (∀ src, mget (fun _ => MbLast.none) x.cur.mbLast f.imm.toNat ≠ .msg src) →
      exec (.mack c f) s = .next (s.putCur c x 2 x.cur)) ∧
    (s.issues c x 2 (seqWord 0x1F f) → seqEncOk 0x1F f = true → x.beg.branch.isSome = true →
      exec (.seqEnd c f) s = .next (s.noteCause c x 0x08 2)) ∧
    (s.issues c x 2 (seqWord 0x1F f) → seqEncOk 0x1F f = true → x.beg.branch = none →
      exec (.seqEnd c f) s = .next (s.putCur c x 2 { x.cur with phase := .ended }))

/-! ### The VX slot -/

/-- Every direct VX operation with a legal encoding, while no run occupies the engine, reads its
operands at the start of cycle c and leaves one result in flight that takes effect at the end of
cycle c + L - 1; nothing else of the block changes; while a run occupies it, it raises cause 0x04
(R136, R145, R156). VX.NOP changes nothing. -/
def Obligations.VectorOperationsIssue : Prop :=
  (∀ r ∈ vxRules, ∀ (c : CoreId) (f : VxSlot) (s : State) (x : Core),
    s.issues c x 1 (vxWord r.2 f) → vxEncOk r.2 (lwBits f.lw.toNat) f = true →
    (x.beg.vxBusy = true → exec (r.1 c f) s = .next (s.noteCause c x 0x04 1)) ∧
    (x.beg.vxBusy = false → ∃ p : VxPend, exec (r.1 c f) s = .next (s.putCur c x 1 { x.cur with vpend := x.cur.vpend ++ [p] }) ∧
      p.issued = x.cur.cyc.toNat ∧ p.due + 1 = x.cur.cyc.toNat + vxLatency r.2 ∧
      (let o := vxCompute r.2 (lwBits f.lw.toNat) f x.beg.vsrc 2048
       p.vd = o.vd ∧ p.data = o.data ∧ p.lanes = o.lanes ∧ p.md = o.md ∧ p.mbits = o.mbits ∧
         p.mlanes = o.mlanes ∧ p.flags = o.flags))) ∧
  (∀ (c : CoreId) (f : VxSlot) (s : State) (x : Core),
    s.issues c x 1 (vxWord 0x00 f) → vxEncOk 0x00 (lwBits f.lw.toNat) f = true → exec (.vxNop c f) s = .next (s.putCur c x 1 x.cur))

/-- STAT: every lane gets VSTAT as it stands at the start of the cycle, and IMM[0] = 1 clears every
sticky flag that is not raised in the cycle itself (R144). -/
def Obligations.StatReadsStickyFlags : Prop :=
  ∀ (c : CoreId) (f : VxSlot) (s : State) (x : Core),
    s.issues c x 1 (vxWord 0x3E f) → vxEncOk 0x3E (lwBits f.lw.toNat) f = true → x.beg.vxBusy = false →
    ∃ p : VxPend, exec (.vxStat c f) s = .next (s.putCur c x 1
        { x.cur with vpend := x.cur.vpend ++ [p], vstat := if f.imm.getLsbD 0 then x.cur.vraise else x.cur.vstat }) ∧
      p.vd = some f.vd.toNat ∧ p.due = x.cur.cyc.toNat + 1 ∧ p.flags = 0 ∧
      ∀ e < 64, (x.beg.vsrc.mask f.msk.toNat).getLsbD e = true →
        fld p.data (32 * e) 32 = x.beg.vstat.toNat ∧ fld p.lanes (32 * e) 32 = 2 ^ 32 - 1

/-- A direct operation of one element at a time puts, into each lane that its mask enables, what the
operation gives from the operands of that lane, and leaves every other lane (R134, R135, R136). IMM
is operand B when IMB is set. -/
def Obligations.ElementsGoToTheirLanes : Prop :=
  ∀ (op w e : Nat) (f : VxSlot) (src : VxSrc),
    (w = 8 ∨ w = 16 ∨ w = 32) → 0x01 ≤ op → op ≤ 0x2C → op ≠ 0x1A → op ≠ 0x1B → op ≠ 0x1C → e < 2048 / w →
    let o := vxCompute op w f src 2048
    let a := fld (mget zV src.v f.va.toNat) (w * e) w
    let b := fld (mget zV src.v f.vb.toNat) (w * e) w
    let d := fld (mget zV src.v f.vc.toNat) (w * e) w
    o.vd = some f.vd.toNat ∧
    ((src.mask f.msk.toNat).getLsbD (e / (32 / w)) = true → f.imb = false →
      fld o.data (w * e) w = (vxElem op w a b d).1 % 2 ^ w ∧ fld o.lanes (w * e) w = 2 ^ w - 1) ∧
    ((src.mask f.msk.toNat).getLsbD (e / (32 / w)) = false →
      fld o.data (w * e) w = 0 ∧ fld o.lanes (w * e) w = 0)

/-- Integer add, subtract and multiply saturate: an exact result within the lane's range is the
result with no flag, any other gives the nearer bound with SAT (R137). -/
def Obligations.IntegerArithmeticSaturates : Prop :=
  ∀ r ∈ satRules, ∀ w ∈ [8, 16, 32], ∀ a b d : Nat, a < 2 ^ w → b < 2 ^ w →
    let lo := (laneBounds w r.2.1).1
    let hi := (laneBounds w r.2.1).2
    let x := r.2.2 (laneInt w r.2.1 a) (laneInt w r.2.1 b)
    let y := vxElem r.1 w a b d
    (lo ≤ x → x ≤ hi → laneInt w r.2.1 y.1 = x ∧ y.2 = 0) ∧
    (x < lo → laneInt w r.2.1 y.1 = lo ∧ y.2 = vSat) ∧
    (hi < x → laneInt w r.2.1 y.1 = hi ∧ y.2 = vSat)

/-! ### The MX slot and the array -/

/-- MX.NOP, MX.DLOAD, MX.LOAD and MX.SWAP issue: a descriptor row is on its way to its table entry;
a load with a legal descriptor, in time, inside the scratchpad and without a bank conflict reads its
first rows and names the shadow plane's new tag; a swap, when the last load is through and every WS
or IS pass with steps left suits the shadow plane, waits for its multiply stage while the two tags
change places at once (R63, R71, R73 to R78, R80, R596). -/
def Obligations.ArrayLoadsIssue : Prop :=
  ∀ (c : CoreId) (f : MxSlot) (g : MxAddr) (s : State) (x : Core),
    let n := x.cur.now
    let d := mget zR x.beg.mx.desc f.desc.toNat
    (s.issues c x 0 0 → f = ⟨0, false, false, false, false, false, 0, 0, 0⟩ → exec (.mxNop c f) s = .next (s.putCur c x 0 x.cur)) ∧
    (s.issues c x 0 (mxAddrWord 1 g) → g.rsv = 0 → x.cur.readFree g.addr.toNat →
      ∃ r b, exec (.mxDload c g) s = .next (s.putCur c x 0 { x.cur with
        reads := r
        banks := b
        mx := { x.cur.mx with
          dpend := x.cur.mx.dpend ++ [(n, g.desc.toNat, (x.cur.viewRow n g.addr.toNat).1)] } })) ∧
    (s.issues c x 0 (mxSlotWord 2 f) → mxPassZero f = true → dLoadOk d f.sa.toNat = true → loadTop d ≤ 4095 →
      (∀ p t, x.beg.mx.lastLoad = some (p, t) → p + t ≤ n) → (∀ p, x.beg.mx.lastSwap = some p → p + 2 ≤ n) →
      (x.cur.loadRead (loadStart d f.sa.toNat n x.cur.bpc)).2.2 = false →
      ∃ r b l, exec (.mxLoad c f) s = .next (s.putCur c x 0 { x.cur with
          reads := r
          banks := b
          mx := { x.cur.mx with
            loads := x.cur.mx.loads ++ [l]
            lastLoad := some (n, loadCycles (dFmtA d))
            shTag := ⟨dMode d, dFmtA d, f.sa.toNat, d⟩ } }) ∧
        l.issued = n ∧ l.next = 1 ∧ l.plane.tag = ⟨dMode d, dFmtA d, f.sa.toNat, d⟩) ∧
    (s.issues c x 0 (mxSlotWord 3 f) → mxPassZero f = true → f.desc = 0 → f.sa = 0 → (∀ p t, x.beg.mx.lastLoad = some (p, t) → p + t ≤ n) →
      (∀ p ∈ x.cur.mx.passes, dMode p.desc ≠ 0 → n ≤ p.issued + dLen p.desc →
        compatible x.beg.mx.shTag p.desc p.sa = true) →
      ∃ l0 l1, exec (.mxSwap c f) s = .next (s.putCur c x 0 { x.cur with
        mx := { x.cur.mx with
          swaps := x.cur.mx.swaps ++ [n]
          lastSwap := some n
          actTag := x.beg.mx.shTag
          shTag := x.beg.mx.actTag
          bank0 := { x.cur.mx.bank0 with log := l0 }
          bank1 := { x.cur.mx.bank1 with log := l1 } } }))

/-- MX.STREAM issues when its descriptor is legal, its plane suits it, the last stream is through
and the banks take it: the pass is in flight with its first step read, and the tile of its bank is
open with the pass, every field of its slot with it, last in its log, of a DUAL pass in the other
bank too; a bank that it does not write keeps its state (R63, R72, R74 to R76, R80, R85, R108). -/
def Obligations.StreamIssues : Prop :=
  ∀ (c : CoreId) (f : MxSlot) (s : State) (x : Core), s.issues c x 0 (mxSlotWord 4 f) →
    let n := x.cur.now
    let d := mget zR x.beg.mx.desc f.desc.toNat
    let ii := mxInt (dFmtA d)
    f.rsv = 0 → dStreamOk d f.sa.toNat f.sb.toNat = true → streamTop d f.sa.toNat f.sb.toNat ≤ 4095 →
    (dMode d ≠ 0 → compatible x.cur.mx.actTag d f.sa.toNat = true) →
    (∀ p l, x.cur.mx.lastStream = some (p, l) → p + l + 1 ≤ n) → (f.neg2 = true → f.dual = true) →
    x.cur.mx.takesPass n f.clr ii f.bank → (f.dual = true → x.cur.mx.takesPass n f.clr ii (!f.bank)) →
    (x.cur.passRead
      { issued := n, bpc := x.cur.bpc, desc := d, sa := f.sa.toNat, sb := f.sb.toNat, bank := f.bank, clr := f.clr,
        neg := f.neg, dual := f.dual, neg2 := f.neg2, next := 0, ea := 0, eb := 0, steps := [], done := [], req := none,
        pre0 := x.cur.mx.bank0, pre1 := x.cur.mx.bank1 }).2.2 = false →
    ∃ r b m p, exec (.mxStream c f) s = .next (s.putCur c x 0 { x.cur with reads := r, banks := b, mx := m }) ∧
      m.passes = x.cur.mx.passes ++ [p] ∧ p.issued = n ∧ p.desc = d ∧ p.bank = f.bank ∧ p.clr = f.clr ∧
      p.neg = f.neg ∧ p.next = 1 ∧ p.steps.length = 1 ∧ m.lastStream = some (n, dLen d) ∧
      (m.bankOf f.bank).isOpen = true ∧ (m.bankOf f.bank).kind = some ii ∧
      (m.bankOf f.bank).accs = (x.cur.mx.bankOf f.bank).accs ∧
      (m.bankOf f.bank).log.length = (if f.clr then 0 else (x.cur.mx.bankOf f.bank).log.length) + 1 ∧
      (∃ l, (m.bankOf f.bank).log.getLast? = some l ∧ l.desc = d ∧ l.descNo = f.desc.toNat ∧ l.bank = f.bank ∧
        l.clr = f.clr ∧ l.neg = f.neg ∧ l.dual = f.dual ∧ l.neg2 = f.neg2 ∧ l.sa = f.sa.toNat ∧ l.sb = f.sb.toNat ∧
        l.sign = f.neg) ∧
      (f.dual = true → ∃ l, (m.bankOf (!f.bank)).log.getLast? = some l ∧ l.desc = d ∧ l.descNo = f.desc.toNat ∧
        l.bank = f.bank ∧ l.clr = f.clr ∧ l.neg = f.neg ∧ l.dual = true ∧ l.neg2 = f.neg2 ∧ l.sa = f.sa.toNat ∧
        l.sb = f.sb.toNat ∧ l.sign = f.neg2) ∧
      (f.dual = false → m.bankOf (!f.bank) = x.cur.mx.bankOf (!f.bank)) ∧
      m.active = x.cur.mx.active ∧ m.shadow = x.cur.mx.shadow ∧ m.desc = x.cur.mx.desc

/-- MX.DRAIN issues when its descriptor is legal, its tile is open, and the last stream of its bank
and the last drain are through: every addition of the tile is done, a tile whose sticky bit stands
is run again first, which holds the core and reloads the replay plane, and the tile is closed with
its accumulators on their way to the output (R79, R80, R86, R87, R109, R111, R118, R199). -/
def Obligations.DrainIssues : Prop :=
  ∀ (c : CoreId) (f : MxSlot) (s : State) (x : Core), s.issues c x 0 (mxSlotWord 5 f) →
    let n := x.cur.now
    let d := mget zR x.beg.mx.desc f.desc.toNat
    let y := x.cur.accumulateAll
    let b := y.mx.bankOf f.bank
    let ovr := b.kind != some true && (b.sticky || b.sumOver)
    let q := replayLoop (fun row => (y.viewRow n row).1) 6 { b with sticky := ovr } 0
    f.clr = false → f.neg = false → f.dual = false → f.neg2 = false → f.sa = 0 → f.sb = 0 → f.rsv = 0 →
    fusionOk d = true → drainTop d ≤ 4095 → (x.cur.mx.bankOf f.bank).isOpen = true →
    (∀ p l, (if f.bank then x.cur.mx.streamB else x.cur.mx.streamA) = some (p, l) → p + l + 10 ≤ n) →
    (∀ p l, x.cur.mx.lastDrain = some (p, l) → p + 32 * l ≤ n) →
    (2 ≤ fScale d → (x.cur.readRows x.cur.bpc 0 (rowsFrom (fAddrScale d) 4)).2.2 = false) →
    (q.2.1 ≠ 0 → ∀ l ∈ b.log, ∀ row ∈ l.rows, (y.viewRow n row).2 = false) →
    ∃ t dr, exec (.mxDrain c f) s = .next (s.putCur c x 0 t) ∧ t.mx.drains = y.mx.drains ++ [dr] ∧ dr.desc = d ∧
      dr.next = 0 ∧ dr.start = n + (if q.2.1 = 0 then 0 else 1) ∧ dr.accs = q.1.accs ∧ dr.eLsb = q.1.eLsb ∧
      (t.mx.bankOf f.bank).isOpen = false ∧ (t.mx.bankOf f.bank).log = [] ∧
      t.mx.bankOf (!f.bank) = y.mx.bankOf (!f.bank) ∧ t.ovf = (x.cur.ovf || q.2.2) ∧
      t.freeze = (if q.2.1 = 0 then x.cur.freeze else .replay q.2.1) ∧
      t.mx.replay = (if q.2.1 = 0 then y.mx.replay
        else replayPlane (fun row => (y.viewRow n row).1) b.log y.mx.replay) ∧
      (ovr = false → q = ({ b with sticky := false }, 0, false)) ∧ t.lsp = x.cur.lsp ∧ t.sreg = x.cur.sreg ∧
      t.vreg = x.cur.vreg ∧ t.flags = x.cur.flags

/-- What is due in the array takes effect, while its core runs: the first load that is through is
the shadow plane, its block entries and tag with it, and while it is in flight the end of a cycle
writes two cell rows, one of a 32-cycle load; the first swap that is due exchanges the planes; the
first step that is due adds its products on the plane on which it has multiplied, into its bank and
a DUAL pass's other bank, which a first step clears under CLR and gives its window, and leaves its
pass, which ends with its last step; a drain writes the rows of its next output unit; and a replay's
held cycles end and are counted in a cycle without a failed check, while CCLK runs (R61, R63, R76 to
R79, R86, R87, R101, R103, R107). -/
def Obligations.ArrayEventsTakeEffect : Prop :=
  ∀ (c : CoreId) (s : State),
    let x := s.cur c
    (x.goes → ∀ l rest, x.mx.loads = l :: rest → l.issued + l.cycles + 5 ≤ x.now →
      exec (.shadowPlaneComplete c) s = .next (s.modCur c fun y => { y with
        mx := { y.mx with shadow := l.plane, loads := (l :: rest).filter (· != l) } })) ∧
    (∀ l i, x.mx.loads = [l] → mwf (fun _ => (0 : BitVec 16)) x.mx.shadow.cells = true →
      let per := if l.cycles = 32 then 32 else 64
      (l.issued + 6 ≤ x.now → x.now < l.issued + 6 + l.cycles → per * (x.now - l.issued - 6) ≤ i →
        i < per * (x.now - l.issued - 6) + per →
        mget (fun _ => 0) x.shadowRows.mx.shadow.cells i = mget (fun _ => 0) l.plane.cells i) ∧
      (x.now < l.issued + 6 ∨ l.issued + 6 + l.cycles ≤ x.now ∨ i < per * (x.now - l.issued - 6) ∨
        per * (x.now - l.issued - 6) + per ≤ i →
        mget (fun _ => 0) x.shadowRows.mx.shadow.cells i = mget (fun _ => 0) x.mx.shadow.cells i)) ∧
    (x.goes → ∀ n rest, x.mx.swaps = n :: rest → n + 7 ≤ x.now →
      exec (.swapTakesEffect c) s = .next (s.modCur c fun y => { y with
        mx := { y.mx with active := x.mx.shadow, shadow := x.mx.active, swaps := rest } })) ∧
    (x.goes → ∀ p ps, x.mx.passes = p :: ps → ∀ st rest, p.steps = st :: rest → st.read + 10 ≤ x.now →
      let pl := st.plane.getD (x.mx.planeFor st.read)
      let st' := { st with plane := some pl }
      let req := x.reqNow { p with steps := rest } st' fun row => (x.viewRow x.now row).1
      let add (b : Bank) (neg : Bool) := b.addAll neg (stepProducts p.desc p.sa p.sb st' pl)
      ∃ m q, exec (.passStepAccumulate c) s = .next (s.modCur c fun y => { y with mx := m }) ∧
        m.passes = (if dLen p.desc < p.next ∧ rest = [] then [] else [q]) ++ ps ∧ q.steps = rest ∧ q.issued = p.issued ∧
        q.req = req ∧ m.active = x.mx.active ∧ m.shadow = x.mx.shadow ∧ m.drains = x.mx.drains ∧
        (p.dual = false → m.bankOf (!p.bank) = x.mx.bankOf (!p.bank)) ∧
        ∀ k neg, (k = p.bank ∧ neg = p.neg) ∨ (p.dual = true ∧ k = !p.bank ∧ neg = p.neg2) →
          (st.t = 0 → m.bankOf k = add ((x.mx.bankOf k).enter p.clr req) neg) ∧
          (st.t ≠ 0 → req = p.req → m.bankOf k = add (x.mx.bankOf k) neg)) ∧
    (x.goes → ∀ dr rest, x.mx.drains = dr :: rest → dr.start + 12 + dr.next ≤ x.now →
      let u := drainUnit dr x.act (s.seedOf c)
      ∃ w, exec (.drainRowOutput c) s = .next (s.modCur c fun y => { y with
          writes := w
          ovf := x.ovf || u.2.2
          mx := { y.mx with
            drains := ((dr :: rest).map fun z => if z == dr then u.2.1 else z).filter fun z =>
              decide (z.next < 32 * fQ z.desc) } }) ∧
        ∀ v, v ∈ w ↔ v ∈ x.writes ∨ ∃ rd ∈ u.1, v = ⟨x.now, rd.1, true, rd.2, 0, false⟩) ∧
    (∀ h, x.freeze = .replay h → x.causes = [] → s.cclk (c / 16) = true → exec (.replayHoldEnd c) s = .next
      ((s.modBoth c fun y => { y with freeze := .none, holdCyc := y.holdCyc + BitVec.ofNat 64 h }).odAdd
        odHoldCycTotal h))

/-- A step adds the exact products of its elements: a finite accumulator gets the sum of the aligned
products, each floor(p / 2^E_lsb) and replaced by 2^63 with its sign beyond that magnitude, modulo
2^88, and a step of several products for one accumulator (WS, IS) adds aligned ones; every
accumulator that the step does not name keeps its value (R103). -/
def Obligations.AccumulatorsAddExactProducts : Prop :=
  ∀ (b : Bank) (neg : Bool) (ps : List (Nat × List (Bool × Nat × Int))), mwf zA b.accs = true →
    (ps.map (·.1)).Nodup →
    let b' := b.addAll neg (ps.map fun p => (p.1, p.2.map fun v => FV.fin v.1 v.2.1 v.2.2))
    let aligned (v : Bool × Nat × Int) : Int :=
      let m : Int := if v.1 != neg then -(v.2.1 : Int) else v.2.1
      let e := v.2.2 - b.eLsb
      max (-(2 ^ 63)) (min (2 ^ 63) (if 0 ≤ e then m * 2 ^ e.toNat else m / 2 ^ (-e).toNat))
    (∀ p ∈ ps, (mget zA b.accs p.1).st = .finite →
      (mget zA b'.accs p.1).st = .finite ∧
      (mget zA b'.accs p.1).val = (mget zA b.accs p.1).val +
        BitVec.ofInt 88 ((p.2.map aligned).sum)) ∧
    (∀ k, k ∉ ps.map (·.1) → mget zA b'.accs k = mget zA b.accs k) ∧ b'.w = b.w ∧ b'.k = b.k ∧ b'.isOpen = b.isOpen

/-! ### Lane programs -/

/-- VX.PLOAD and VX.RUN issue: the first four rows of a program enter the lowest quarter of its
slot, and a free VXE takes a run with the descriptor of its row; a busy one raises cause 0x04 (R148,
R150, R155, R156). -/
def Obligations.LaneProgramsIssue : Prop :=
  ∀ (c : CoreId) (f : VxAddr) (s : State) (x : Core),
    let n := x.cur.now
    let a := f.addr.toNat
    let old := mget (fun _ => (0 : BitVec 4096)) x.cur.prog f.p.toNat
    (s.issues c x 1 (vxAddrWord 0x2E f) → f.rsv = 0 → a + 15 ≤ 4095 → x.beg.run = none →
      (x.cur.readRows x.cur.bpc 1 (rowsFrom a 4)).2.2 = false →
      ∃ r b v, exec (.vxPload c f) s = .next (s.putCur c x 1 { x.cur with
          reads := r
          banks := b
          prog := mset (fun _ => (0 : BitVec 4096)) x.cur.prog f.p.toNat v
          pload := x.cur.pload ++ [(n, f.p.toNat, a, x.cur.bpc)] }) ∧
        v.extractLsb' 0 1024 = catRows 1024 ((rowsFrom a 4).map fun k => (x.cur.viewRow n k).1) ∧
        v.extractLsb' 1024 3072 = old.extractLsb' 1024 3072) ∧
    (s.issues c x 1 (vxAddrWord 0x2F f) → f.rsv = 0 → f.p = 0 → x.beg.vxBusy = false → x.cur.readFree a →
      ∃ r b, exec (.vxRun c f) s = .next (s.putCur c x 1 { x.cur with
        reads := r
        banks := b
        run := some { issued := n, bpc := x.cur.bpc, desc := (x.cur.viewRow n a).1, checked := false, trun := 0,
                      iter := 0, inRows := [], outRows := [] } })) ∧
    (s.issues c x 1 (vxAddrWord 0x2F f) → f.rsv = 0 → f.p = 0 → x.beg.vxBusy = true →
      exec (.vxRun c f) s = .next (s.noteCause c x 0x04 1))

/-- A run is checked six cycles after its issue and then has its length TRUN, or, once the bundle of
the cycle has issued whole, faults the core with cause 0x04 beside the other causes of the cycle (log
51); an iteration that is due changes vector and mask registers and the sticky flags and
nothing else of the core but its own rows; at the end of TRUN the VXE is free again (R152 to R157,
R202). -/
def Obligations.RunsTakeTheirCourse : Prop :=
  ∀ (c : CoreId) (s : State) (r : RunSt),
    let x := s.cur c
    let p := mget (fun _ => (0 : BitVec 4096)) x.prog (runProg r.desc)
    x.goes → x.causes = [] → x.run = some r →
    (r.checked = false → r.issued + 6 ≤ x.now →
      (∀ y ∈ x.reads, y.poison = true → y.issued = r.issued → y.slot ≠ 1) →
      (∀ y ∈ x.pload, y.2.1 = runProg r.desc → y.1 + 10 ≤ r.issued) →
      (runOk r.desc p = true → exec (.runDescriptorCheck c) s = .next (s.modCur c fun y =>
        { y with run := some { r with checked := true, trun := runLen r.desc } })) ∧
      (runOk r.desc p = false → (s.core c).bundleDone = false → exec (.runDescriptorCheck c) s = .next s) ∧
      (runOk r.desc p = false → (s.core c).bundleDone = true →
        exec (.runDescriptorCheck c) s = .next (s.coreFault c ((s.core c).cycleCauses ++ [⟨0x04, r.bpc, 1⟩])) ∧
        (x.tabs = [] → (s.core c).cycleCauses = []))) ∧
    (r.checked = true → r.iter < runIters r.desc →
      r.issued + 12 + runTin r.desc + r.iter * runI r.desc + runNops r.desc - 1 ≤ x.now →
      exec (.runIteration c) s = .next (s.modCur c fun _ => x.runIterate r) ∧
      ∃ v m st ra i o, x.runIterate r = { x with
        vreg := v
        mask := m
        vstat := st
        vraise := ra
        run := some { r with iter := r.iter + 1, inRows := i, outRows := r.outRows ++ o } }) ∧
    (r.checked = true → r.issued + r.trun ≤ x.now + 1 →
      exec (.runComplete c) s = .next (s.modCur c fun y => { y with run := none }))

/-! ### Results and loads that take effect -/

/-- A direct result that is due, with no load due beside it, merges into its register under its
lanes and raises its flags; a load that is due, with no result due beside it, writes its register; a
corrected row is written back (R144 to R146, R167, R192, R195). -/
def Obligations.RegisterWritesTakeEffect : Prop :=
  ∀ (c : CoreId) (s : State),
    let x := s.cur c
    (x.goes → ∀ p r, x.vpend.filter (fun y => decide (y.due ≤ x.now)) = [p] →
      (∀ y ∈ x.reads, x.now < y.issued + 6) → p.vd = some r → p.md = none →
      exec (.vxResultWrite c) s = .next (s.modCur c fun y => { y with
        vpend := y.vpend.filter fun z => decide (y.now < z.due)
        vreg := mset zV y.vreg r (mergeBits (mget zV y.vreg r) p.data p.lanes)
        vstat := y.vstat ||| p.flags
        vraise := y.vraise ||| p.flags })) ∧
    (x.goes → x.causes = [] → ∀ q, x.reads.filter (fun y => decide (y.issued + 6 ≤ x.now)) = [q] →
      (∀ y ∈ x.vpend, x.now < y.due) → (∀ y ∈ x.writes, x.now < y.due) →
      (∀ r w, q.dst = .scalar r w → r ≠ 0 → (∀ y ∈ x.sranks, y.1 ≠ r) →
        exec (.lspLoadDelivery c) s = .next (s.modCur c fun y => { y with
          reads := y.reads.filter fun z => decide (y.now < z.issued + 6)
          sreg := mset zW y.sreg r (BitVec.ofNat 32 (fld q.data (32 * w) 32))
          sPar := mset zF y.sPar r false })) ∧
      (∀ r k, q.dst = .vpart r k → ∃ v, exec (.lspLoadDelivery c) s = .next (s.modCur c fun y => { y with
          reads := y.reads.filter fun z => decide (y.now < z.issued + 6)
          vreg := mset zV y.vreg r v }) ∧
        (k < 8 → v.extractLsb' (256 * k) 256 = q.data ∧
          ∀ i < 8, i ≠ k → v.extractLsb' (256 * i) 256 = (mget zV x.vreg r).extractLsb' (256 * i) 256)) ∧
      (∀ r k, q.dst = .mask r k → r ≠ 0 → ∃ v, exec (.lspLoadDelivery c) s = .next (s.modCur c fun y => { y with
          reads := y.reads.filter fun z => decide (y.now < z.issued + 6)
          mask := mset zM y.mask r v }) ∧ v = BitVec.ofNat 64 (fld q.data (64 * k) 64))) ∧
    (∀ row : BitVec 12, exec (.lspWriteback c row) s = .next (s.modBoth c fun y =>
      { y with wback := y.wback.erase row.toNat }))

/-! ### The LS, CP and FL slots -/

/-- Loads issue: LS.LDV reads its rows for the parts of REG, LS.LDW a word, LS.LDM a quarter; LS.NOP
changes nothing (R189, R191, R192). -/
def Obligations.LoadsIssue : Prop :=
  ∀ (c : CoreId) (f : LsSlot) (s : State) (x : Core), x.beg.sBad f.sa.toNat = false →
    let row := f.addr.toNat + (x.beg.s f.sa.toNat).toNat
    let k := 2 ^ f.cnt.toNat
    (s.issues c x (lsSlot f) (lsWord 0 f) → lsEncOk 0 f = true → exec (.lsNop c f) s = .next (s.putCur c x (lsSlot f) x.cur)) ∧
    (s.issues c x (lsSlot f) (lsWord 1 f) → lsEncOk 1 f = true → x.beg.vxBusy = false → x.cur.slotWord 1 / 2 ^ 42 ≠ 0x2F → row + k ≤ 4096 →
      (∀ i < k, x.cur.readFree (row + i)) →
      ∃ b, exec (.lsLdv c f) s = .next (s.putCur c x (lsSlot f) { x.cur with
        reads := x.cur.reads ++ (List.range k).map (ldvRead x.cur f row)
        banks := b })) ∧
    (s.issues c x (lsSlot f) (lsWord 3 f) → lsEncOk 3 f = true → row ≤ 4095 → x.cur.readFree row →
      ∃ b, exec (.lsLdw c f) s = .next (s.putCur c x (lsSlot f) { x.cur with
        reads := x.cur.reads ++ [ldRead x.cur f row (.scalar f.reg.toNat f.wsel.toNat)]
        banks := b })) ∧
    (s.issues c x (lsSlot f) (lsWord 5 f) → lsEncOk 5 f = true → x.beg.vxBusy = false → x.cur.slotWord 1 / 2 ^ 42 ≠ 0x2F → row ≤ 4095 → x.cur.readFree row →
      ∃ b, exec (.lsLdm c f) s = .next (s.putCur c x (lsSlot f) { x.cur with
        reads := x.cur.reads ++ [ldRead x.cur f row (.mask f.reg.toNat f.wsel.toNat)]
        banks := b })) ∧
    (s.issues c x (lsSlot f) (lsWord 3 f) → lsEncOk 3 f = true → 4095 < row →
      exec (.lsLdw c f) s = .next (s.noteCause c x 0x06 (lsSlot f))) ∧
    (s.issues c x (lsSlot f) (lsWord 3 f) → lsEncOk 3 f = true → row ≤ 4095 → ¬ x.cur.readFree row →
      exec (.lsLdw c f) s = .next (s.noteCause c x 0x07 (lsSlot f)))

/-- Stores issue: LS.STV puts one full-row write for each part on its way, LS.STW and LS.STM one
write of the bytes of their word or quarter; nothing else of the core changes but its bank uses
(R189 to R192). -/
def Obligations.StoresIssue : Prop :=
  ∀ (c : CoreId) (f : LsSlot) (s : State) (x : Core), x.beg.sBad f.sa.toNat = false →
    let n := x.cur.now
    let row := f.addr.toNat + (x.beg.s f.sa.toNat).toNat
    let k := 2 ^ f.cnt.toNat
    (s.issues c x (lsSlot f) (lsWord 2 f) → lsEncOk 2 f = true → x.beg.vxBusy = false → x.cur.slotWord 1 / 2 ^ 42 ≠ 0x2F → row + k ≤ 4096 →
      (∀ i < k, x.cur.banks.contains ⟨n, bankOf (row + i), true⟩ = false) →
      ∃ w b, exec (.lsStv c f) s = .next (s.putCur c x (lsSlot f) { x.cur with writes := w, banks := b }) ∧
        ∀ u, u ∈ w ↔ u ∈ x.cur.writes ∨ ∃ i < k, u = ⟨n, row + i, true,
          (x.beg.v f.reg.toNat).extractLsb' (256 * (f.part.toNat + i)) 256, 0, false⟩) ∧
    (s.issues c x (lsSlot f) (lsWord 4 f) → lsEncOk 4 f = true → x.beg.sBad f.reg.toNat = false → row ≤ 4095 → x.cur.readFree row →
      (∀ i < 2, x.cur.banks.contains ⟨n + 1 + i, bankOf row, true⟩ = false) →
      ∃ w b, exec (.lsStw c f) s = .next (s.putCur c x (lsSlot f) { x.cur with writes := w, banks := b }) ∧
        ∀ u, u ∈ w ↔ u ∈ x.cur.writes ∨ u = ⟨n, row, false,
          (x.beg.s f.reg.toNat).zeroExtend 256 <<< (32 * f.wsel.toNat),
          (BitVec.allOnes 32).zeroExtend 256 <<< (32 * f.wsel.toNat), false⟩) ∧
    (s.issues c x (lsSlot f) (lsWord 6 f) → lsEncOk 6 f = true → x.beg.vxBusy = false → x.cur.slotWord 1 / 2 ^ 42 ≠ 0x2F → row ≤ 4095 → x.cur.readFree row →
      (∀ i < 2, x.cur.banks.contains ⟨n + 1 + i, bankOf row, true⟩ = false) →
      ∃ w b, exec (.lsStm c f) s = .next (s.putCur c x (lsSlot f) { x.cur with writes := w, banks := b }) ∧
        ∀ u, u ∈ w ↔ u ∈ x.cur.writes ∨ u = ⟨n, row, false,
          (x.beg.m f.reg.toNat).zeroExtend 256 <<< (64 * f.wsel.toNat),
          (BitVec.allOnes 64).zeroExtend 256 <<< (64 * f.wsel.toNat), false⟩)

/-- A read sees every full-row write issued in an earlier cycle, and a partial-row write from the
third cycle on; of full-row writes to its row it sees the one that takes effect last (R189, R190).
-/
def Obligations.ReadsSeeEarlierWrites : Prop :=
  ∀ (x : CoreSt) (n : Nat) (ws : List LspWrite) (w : LspWrite),
    (x.writes = ws ++ [w] → w.full = true → w.issued < n → x.viewRow n w.row = (w.data, false)) ∧
    (x.writes = ws ++ [w] → w.full = true → n ≤ w.issued →
      ∀ row, x.viewRow n row = ({ x with writes := ws } : CoreSt).viewRow n row) ∧
    (x.writes = ws ++ [w] → w.full = false → n < w.issued + 3 →
      ∀ row, x.viewRow n row = ({ x with writes := ws } : CoreSt).viewRow n row) ∧
    (x.writes = ws ++ [w] → w.full = false → w.issued + 3 ≤ n →
      (x.viewRow n w.row).1 = mergeBits (({ x with writes := ws } : CoreSt).viewRow n w.row).1 w.data w.lanes) ∧
    (x.writes = [] → ∀ row, x.viewRow n row = (mget zR x.lsp row, mget zF x.lspPoison row))

/-- CP.ISSUE with fewer than eight copies outstanding on its engine, and CP.OVL with fewer than two
overlays outstanding, read their descriptor row and are checked in cycle c + 6; one more raises
cause 0x0A. CP.NOP changes nothing (R177 to R180). OVERLAY_COMPLETE: the bundles of the oldest
overlay hold what the partition's HBM, or for the core runtime the system region, gives, and a
program's flag gets INC, behind the changes of an open cycle (R160, R177, R180, R184, R507; that the
oldest completes first is the model's choice, log 87); the bundles of a loader body are those that
the groom of the core's bay has read once for the step (R508). At a port that is not open nothing
comes, and in a change stop the overlay lands when CCLK restarts (R363, R387). -/
def Obligations.CopyAndOverlayIssue : Prop :=
  (∀ (c : CoreId) (f : CpSlot) (s : State) (x : Core),
    let n := x.cur.now
    let a := f.addr.toNat
    let cps := (s.copies.filter fun y => y.core == c && y.eng == f.eng.toNat).length +
      (x.cur.cpPend.filter fun p => !p.ovl && p.eng == f.eng.toNat).length
    let ovs := (x.cur.ovls.filter fun y => !y.boot).length + (x.cur.cpPend.filter fun p => p.ovl).length
    let row := x.cur.viewRow n a
    (s.issues c x 5 (cpWord 0 f) → cpEncOk 0 f = true → exec (.cpNop c f) s = .next (s.putCur c x 5 x.cur)) ∧
    (s.issues c x 5 (cpWord 1 f) → cpEncOk 1 f = true → cps < 8 → x.cur.readFree a →
      ∃ r b, exec (.cpIssue c f) s = .next (s.putCur c x 5 { x.cur with
        reads := r
        banks := b
        cpPend := x.cur.cpPend ++ [⟨n, x.cur.bpc, f.eng.toNat, false, row.1, row.2⟩] })) ∧
    (s.issues c x 5 (cpWord 1 f) → cpEncOk 1 f = true → 8 ≤ cps → exec (.cpIssue c f) s = .next (s.noteCause c x 0x0A 5)) ∧
    (s.issues c x 5 (cpWord 2 f) → cpEncOk 2 f = true → ovs < 2 → x.cur.readFree a →
      ∃ r b, exec (.cpOvl c f) s = .next (s.putCur c x 5 { x.cur with
        reads := r
        banks := b
        cpPend := x.cur.cpPend ++ [⟨n, x.cur.bpc, f.eng.toNat, true, row.1, row.2⟩] })) ∧
    (s.issues c x 5 (cpWord 2 f) → cpEncOk 2 f = true → 2 ≤ ovs → exec (.cpOvl c f) s = .next (s.noteCause c x 0x0A 5))) ∧
  (∀ (c : CoreId) (s : State), s.wf = true →
    let x := s.cur c
    let p := s.part (((s.ownerOf c).map (·.1)).getD 255)
    let n := (s.landing.filter (· == (c / 16, Arrival.overlay c))).length
    (x.ovls = [] ∨ (s.cl (c / 16)).port ≠ .opened → exec (.overlayComplete c) s = .next s) ∧
    (x.ovls ≠ [] → (s.cl (c / 16)).port = .opened → s.stopped (c / 16) = true → exec (.overlayComplete c) s =
      .next (if n < x.ovls.length then { s with landing := s.landing ++ [(c / 16, .overlay c)] } else s)) ∧
    (∀ o rest, x.ovls = o :: rest → (s.cl (c / 16)).port = .opened → s.stopped (c / 16) = false →
      let l := s.ovlData c o
      let kept := if o.boot && !o.sys && p.job.loader.isSome then p.job.bodies.find? fun y => y.1 == c / 576 else none
      (kept = none → l = (List.range o.count).map fun i =>
        if o.sys then s.hbmUnit (sysKey o.src i) else s.unitRead p 2 (o.src + 32 * i) 0) ∧
      (∀ y, kept = some y → l = y.2) ∧
      ∃ t, exec (.overlayComplete c) s = .next t ∧ s.sameMem t ∧ (t.cur c).ovls = rest ∧
        (o.boot = false → o.sys = false → t.parts = s.parts ∧
          (x.active = true → (t.cur c).fInc = x.fInc ++ [(o.flag, BitVec.ofNat 32 o.inc)] ∧
            (t.cur c).flags = x.flags) ∧
          (x.active = false → (t.cur c).flags = mset zW x.flags o.flag (x.f o.flag + BitVec.ofNat 32 o.inc))) ∧
        (o.boot = true ∨ o.sys = true → (t.cur c).flags = x.flags ∧ (t.cur c).fInc = x.fInc) ∧
        (t.cur c).imem = l.zipIdx.foldl (fun m v => mset zR m (o.start + v.2) (BitVec.ofNat 256 v.1.1)) x.imem))

/-- FL.NOP, FL.ADD, FL.SET, FL.READ and FL.SIG: ADD adds IMM modulo 2^32, SET stores it and clears a
parity mark, READ copies the flag, SIG keeps its signal until cycle c + 4 or raises cause 0x0C for a
core that the partition does not have or an increment of zero (R181 to R186, R517). FL.WAIT,
FL.WAITD and FL.WAITS, whose bundle stands before its cycle: once the flag has reached its target,
modulo 2^32, the cycle begins, and WAITD subtracts IMM in it; before that the core waits one more
cycle, counts it, and keeps everything else. In a cycle that has come the slot does nothing more
(R160, R161, R166, R182, R183; log 17). WAIT_LIMIT: a wait that has lasted longer than
FLAG_WAIT_LIMIT faults the core with cause TIMEOUT; a limit of zero disables the check (R187). With
CCLK stopped no cycle passes and none faults (R161, R387). -/
def Obligations.FlagsAndWaits : Prop :=
  (∀ (c : CoreId) (f : FlSlot) (s : State) (x : Core),
    let i := f.flag.toNat
    let r := f.imm.toNat % 16
    let t := (x.beg.s r).toNat
    let n := ((s.ownerOf c).map fun o => (s.part o.1).clusters).getD 0
    (s.issues c x 6 (flWord 0 f) → flEncOk 0 f = true → exec (.flNop c f) s = .next (s.putCur c x 6 x.cur)) ∧
    (s.issues c x 6 (flWord 4 f) → exec (.flAdd c f) s = .next (s.putCur c x 6 { x.cur with
      flags := mset zW x.cur.flags i (mget zW x.cur.flags i + f.imm.zeroExtend 32) })) ∧
    (s.issues c x 6 (flWord 5 f) → exec (.flSet c f) s = .next (s.putCur c x 6 { x.cur with
      flags := mset zW x.cur.flags i (f.imm.zeroExtend 32)
      fPar := mset zF x.cur.fPar i false })) ∧
    (s.issues c x 6 (flWord 7 f) → flEncOk 7 f = true → x.beg.fBad i = false →
      exec (.flRead c f) s = .next (s.putCur c x 6 (x.cur.setS r 2 (x.beg.f i)))) ∧
    (s.issues c x 6 (flWord 7 f) → flEncOk 7 f = true → x.beg.fBad i = true →
      exec (.flRead c f) s = .next (s.noteCause c x 0x0D 6)) ∧
    (s.issues c x 6 (flWord 6 f) → x.beg.sBad r = false → t < 2 ^ 20 → t % 65536 < n → 16 ≤ f.imm.toNat →
      exec (.flSig c f) s = .next (s.putCur c x 6 { x.cur with
        sigPend := x.cur.sigPend ++ [(x.cur.now, t, i, f.imm.toNat / 16)] })) ∧
    (s.issues c x 6 (flWord 6 f) → x.beg.sBad r = false → (2 ^ 20 ≤ t ∨ n ≤ t % 65536 ∨ f.imm.toNat < 16) →
      exec (.flSig c f) s = .next (s.noteCause c x 0x0C 6))) ∧
  (∀ r ∈ waitRules, ∀ (c : CoreId) (f : FlSlot) (s : State) (x : Core), s.core c = x →
    x.cur.phase = .running → x.cur.started = true → s.cclk (c / 16) = true → x.cur.slotWord 6 = flWord r.2.1 f →
    flEncOk r.2.1 f = true → x.beg.fBad f.flag.toNat = false → x.beg.sBad (f.imm.toNat % 16) = false →
    let v := x.beg.f f.flag.toNat
    let goal := r.2.2.1 f x.beg
    (∀ since limit, x.cur.freeze = .gate ∨ x.cur.freeze = .wait since limit → (v - goal).toNat < 2 ^ 31 →
      exec (r.1 c f) s = .next ((s.beginCycle c []).modCur c fun y => y.addF f.flag.toNat (- r.2.2.2 f))) ∧
    (x.cur.freeze = .gate → 2 ^ 31 ≤ (v - goal).toNat →
      let y := { x.beg with freeze := .wait s.clk.dt (1000 * s.od odFlagWaitLimit), waitCyc := x.beg.waitCyc + 1 }
      exec (r.1 c f) s = .next (s.setCore c ⟨y, y⟩)) ∧
    (∀ since limit, x.cur.freeze = .wait since limit → 2 ^ 31 ≤ (v - goal).toNat →
      let y := { x.beg with freeze := .wait since limit, waitCyc := x.beg.waitCyc + 1 }
      exec (r.1 c f) s = .next (s.setCore c ⟨y, y⟩)) ∧
    (s.issues c x 6 (flWord r.2.1 f) → x.cur.freeze = .none → exec (r.1 c f) s = .next (s.putCur c x 6 x.cur))) ∧
  (∀ (c : CoreId) (s : State) (since limit : Nat), (s.cur c).freeze = .wait since limit →
    (limit ≠ 0 → since + limit < s.clk.dt → s.cclk (c / 16) = true →
      exec (.waitLimit c) s = .next (s.coreFault c [⟨0x0E, (s.cur c).bpc, 6⟩])) ∧
    (limit = 0 ∨ s.clk.dt ≤ since + limit ∨ s.cclk (c / 16) = false → exec (.waitLimit c) s = .next s))

/-! ### The core cycle -/

/-- IMEM_FETCH: a core that CCLK drives and nothing holds, and whose bundle has issued every slot,
ends its cycle and goes on to the next one, one higher in CYC, with the bundle that follows, unless
a fault stops it; without a branch and a loop that is the bundle at the next address. A core that is
held, whose CCLK stands or that has slots to issue keeps its state (log 17); a cycle with a failed
check ends with the fault (log 51). The first bundle is fetched for cycle 0: its cycle begins, or it
holds a wait and stands before its cycle. A cycle begins with the registers, flags and bundle as
they are and no operation of it done, and with the causes that struck the frozen core (R123, R142;
R159 to R162, R166, R171, R172, R176, R183, R202). A scalar register or flag in which a read of the
cycle finds a parity error is marked, and no other (R517). -/
def Obligations.FetchBeginsTheNextCycle : Prop :=
  ∀ (c : CoreId) (find : FetchFind) (s : State),
    let x := s.core c
    (s.cclk (c / 16) = false ∨ (x.cur.freeze ≠ .none ∧ x.cycleCauses = []) → exec (.imemFetch c find) s = .next s) ∧
    (x.cur.active = true → x.beg.phase = .running → x.cur.slotsDone = false → exec (.imemFetch c find) s = .next s) ∧
    (s.cclk (c / 16) = true → x.cur.active = true → (x.beg.phase = .running → x.cur.slotsDone = true) →
      x.cycleCauses ≠ [] → exec (.imemFetch c find) s = .next (s.coreFault c x.cycleCauses)) ∧
    (s.wf = true → x.cur.freeze = .none → s.cclk (c / 16) = true → x.cur.phase = .running → x.beg.phase = .running →
      x.cur.started = true → x.cur.slotsDone = true → x.cycleCauses = [] →
      ∃ t, exec (.imemFetch c find) s = .next t ∧
        ((t.cur c).phase = .faulted ∨
          ((t.cur c).phase = .running ∧ (t.cur c).cyc = x.cur.cyc + 1 ∧
            (x.cur.branch = none → x.cur.loops = [] → (t.cur c).bpc = x.cur.bpc + 1 ∧
              (t.cur c).bundle = mget zR x.cur.imem (x.cur.bpc + 1))))) ∧
    (s.wf = true → x.cur.freeze = .none → s.cclk (c / 16) = true → x.cur.phase = .running → x.cur.started = false →
      x.cur.pc < 2048 → x.cur.ovls = [] → find.found = .ok → mget zF x.cur.imemPoison x.cur.pc = false →
      let b := mget zR x.cur.imem x.cur.pc
      badSlots b = [] →
      (fld b 252 4 = 0 ∨ 4 ≤ fld b 252 4 → exec (.imemFetch c find) s = .next (((s.modBoth c fun y => { y with
        started := true, bpc := x.cur.pc, bundle := mget zR y.imem x.cur.pc }).beginCycle c []).parity c find)) ∧
      (1 ≤ fld b 252 4 → fld b 252 4 ≤ 3 → exec (.imemFetch c find) s = .next ((s.modBoth c fun y => { y with
        started := true, bpc := x.cur.pc, bundle := mget zR y.imem x.cur.pc, freeze := .gate }).parity c find))) ∧
    (s.wf = true → x.cur.phase = .running → mwf zF x.cur.sPar = true → mwf zF x.cur.fPar = true →
      let y := (s.parity c find).cur c
      (∀ r, mget zF y.sPar r = (find.scalars.contains r || mget zF x.cur.sPar r)) ∧
      (∀ i, mget zF y.fPar i = (find.flags.contains i || mget zF x.cur.fPar i))) ∧
    (s.wf = true → ∀ own : List Cause, ∃ y ks, s.beginCycle c own = s.setCore c ⟨y, y⟩ ∧
      y.causes = x.cur.causes ++ x.cur.late ++ ks ++ own.map (fun k => (k.code, k.bpc, k.slot)) ∧
      y.late = [] ∧ y.freeze = .none ∧ y.phase = x.cur.phase ∧ y.cyc = x.cur.cyc ∧ y.bpc = x.cur.bpc ∧ y.bundle = x.cur.bundle ∧
      y.sreg = x.cur.sreg ∧ y.vreg = x.cur.vreg ∧ y.mask = x.cur.mask ∧ y.flags = x.cur.flags ∧ y.lsp = x.cur.lsp ∧
      y.branch = x.cur.branch ∧ y.loops = x.cur.loops)

/-- A bundle follows another: after a taken branch two delay bundles come and then its target; in a
delay bundle a loop that ends there keeps its iterations and one that has none left is closed;
otherwise the last bundle of an open loop with iterations left is followed by the first, and a loop
whose iterations are done is closed (R171, R172). -/
def Obligations.BundlesFollow : Prop :=
  ∀ (x : CoreSt) (t k : Nat) (l : LoopSt) (ls : List LoopSt),
    (x.branch = none → x.loops = [] → x.advancePc = { x with pc := x.bpc + 1, loops := [] }) ∧
    (x.branch = some (k + 2, t) → x.advancePc = { x with pc := x.bpc + 1, branch := some (k + 1, t) }) ∧
    (x.branch = some (1, t) → x.loops = [] →
      x.advancePc = { x with pc := x.bpc + 1, branch := some (0, t), loops := [] }) ∧
    (x.branch = some (0, t) → x.loops = [] → x.advancePc = { x with pc := t, branch := none, loops := [] }) ∧
    (x.branch = some (1, t) → x.loops = [l] → x.advancePc = { x with
      pc := x.bpc + 1, branch := some (0, t), loops := if l.last = x.bpc ∧ l.left = 0 then [] else [l] }) ∧
    (x.branch = some (0, t) → x.loops = [l] → x.advancePc = { x with
      pc := t, branch := none, loops := if l.last = x.bpc ∧ l.left = 0 then [] else [l] }) ∧
    (x.branch = none → x.loops = l :: ls → l.last = x.bpc → 0 < l.left →
      x.advancePc = { x with pc := l.first, loops := { l with left := l.left - 1 } :: ls }) ∧
    (x.branch = none → x.loops = [l] → l.last = x.bpc → l.left = 0 →
      x.advancePc = { x with pc := x.bpc + 1, loops := [] }) ∧
    (x.branch = none → x.loops = [l] → l.last ≠ x.bpc → x.advancePc = { x with pc := x.bpc + 1, loops := [l] })

/-- What the check of a row finds when a read or a partial write of it is at its syndrome stage:
nothing; a bit, which is corrected and counted; a symbol, which holds the core for three cycles; an
uncorrectable error, which sets the poison bits of its granule. Symbol errors of one cycle share one
hold. Held cycles end and are counted; a
patrol read does the same without a hold (R161, R195, R196, R200). -/
def Obligations.ScratchpadChecks : Prop :=
  ∀ (c : CoreId) (row : BitVec 12) (s : State),
    let x := s.cur c
    let g := row.toNat / 2
    (x.active = true → x.atCheck row.toNat = true →
      exec (.lspReadCheck c row .ok) s = .next s ∧
      exec (.lspReadCheck c row .bit) s = .next ((s.odAdd odLspBitFixCount 1).modBoth c fun y =>
        { y with wback := row.toNat :: y.wback }) ∧
      (∃ t, exec (.lspReadCheck c row .symbol) s = .next t ∧
        (s.wf = true → (∀ n, x.freeze ≠ .replay n) → (t.cur c).freeze = if x.symHeld then x.freeze else .hold 3) ∧
        (s.wf = true → (t.cur c).wback = row.toNat :: x.wback)) ∧
      (∃ t, exec (.lspReadCheck c row .uncorrectable) s = .next t ∧
        (s.wf = true → mwf zF x.lspPoison = true → mget zF (t.cur c).lspPoison (2 * g) = true ∧
          mget zF (t.cur c).lspPoison (2 * g + 1) = true))) ∧
    (x.causes = [] → s.cclk (c / 16) = true → ∀ n,
      let u (held : Bool) := (s.modBoth c fun y => { y with
        freeze := .none, holdCyc := y.holdCyc + BitVec.ofNat 64 n, symHeld := held }).odAdd odHoldCycTotal n
      (x.freeze = .hold n → exec (.coreHoldEnd c) s = .next (u true)) ∧
      (x.freeze = .fetchHold n → exec (.coreHoldEnd c) s = .next ((u false).issueBundle c))) ∧
    (s.cclk (c / 16) = false → exec (.coreHoldEnd c) s = .next s) ∧
    exec (.lspPatrolScrub c row .ok false) s = .next s ∧
    exec (.lspPatrolScrub c row .ok true) s = .next (s.odAdd odScrubLateCount 1) ∧
    exec (.lspPatrolScrub c row .bit false) s = .next (s.odAdd odLspBitFixCount 1) ∧
    (∃ t, exec (.lspPatrolScrub c row .uncorrectable false) s = .next t ∧
      (s.wf = true → mwf zF x.lspPoison = true → mget zF (t.cur c).lspPoison (2 * g) = true ∧
        mget zF (t.cur c).lspPoison (2 * g + 1) = true))

/-- A core that receives poisoned data faults, once the bundle of the cycle has issued whole, with
the causes that are due in the cycle, POISON first; the core is FAULTED with the cause's code, bundle
and slot, and what it wrote in the cycle does not stand (R199, R202, R203; that of two POISON causes
the one of the first slot stands is the model's choice, log 51). -/
def Obligations.PoisonFaultsTheCore : Prop :=
  ∀ (c : CoreId) (s : State) (a k : Nat) (rest : List (Nat × Nat × Nat)),
    (s.cur c).goes → (s.cur c).causes = (0x0D, a, k) :: rest → (∀ y ∈ rest, y.1 = 0x0D → k ≤ y.2.2) → s.wf = true →
    ((s.core c).bundleDone = false → exec (.poisonDelivery c) s = .next s) ∧ ((s.core c).bundleDone = true →
    ∃ t, exec (.poisonDelivery c) s = .next t ∧ (t.cur c).phase = .faulted ∧ (t.cur c).fault = some (0x0D, a, k) ∧
      (t.cur c).sreg = (s.core c).beg.sreg ∧ (t.cur c).flags = (s.core c).beg.flags ∧
      (t.cur c).vreg = (s.core c).beg.vreg)

/-- Of several causes of one cycle POISON ranks first, BANK_CONFLICT second, and then the lowest
code; the first-ranked cause sets the completion status of the running job, with the status that the
table of R201 gives it (R203). -/
def Obligations.CausesAreRanked : Prop :=
  ∀ (cs : List Cause), cs ≠ [] → (∀ k ∈ cs, 1 ≤ k.code ∧ k.code ≤ 0x0E) → ∃ f ∈ cs, firstCause cs = some f ∧
    (∀ k ∈ cs, (k.code = 0x0D → f.code = 0x0D) ∧
      (k.code = 0x07 → f.code = 0x0D ∨ f.code = 0x07) ∧
      (f.code = 0x0D ∨ f.code = 0x07 ∨ f.code ≤ k.code)) ∧
    ∀ (s : State) (c : CoreId) (p rank r i : Nat) (cmd : RingCmd), s.wf = true → s.ownerOf c = some (p, rank) →
      (s.part p).job.st = .running → (s.part p).job.armCmd = some (r, i) → s.cmd r i = some cmd →
      (∀ y ∈ s.cmds, y.ring = r → y.idx = i → fld y.desc 0 8 ≠ 0x22) →
      ((s.coreFault c cs).part p).job.st = .faulted ∧ ((s.coreFault c cs).part p).job.reason = f.code ∧
      Completes s (s.coreFault c cs) cmd
        (if f.code = 0x07 then csBankConflict else if f.code = 0x0D then csPoisonConsumed
          else if f.code = 0x0E then csTimeout else csCoreFault)

/-! ### Copies and memory -/

/-- COPY_MOVE and COPY_ZERO that may move their bytes: the rows of an LSP destination hold the
source's units and no other row of the core changes; a unit of HBM holds the source's bytes, and no
byte outside the destination changes; a cleared range of CMEM reads as zeros with both marks clear.
A copy whose engine may not issue yet leaves the block as it is; one whose request draws RETRY is
counted and waits 1 µs, then twice as long each time, up to 64 µs, and wakes the cluster behind a
parked port; and one for a cluster in a change stop takes effect once CCLK restarts, in the order of
arrival (R216, R217, R220, R250, R251, R363 to R365, R387). -/
def Obligations.CopiesMoveTheirBytes : Prop :=
  ∀ (n : Nat) (s : State) (x : CopySt), s.wf = true → s.copyOf n = some x →
    let d := copyDesc x.desc
    let p := s.part x.part
    (s.copyReady x = false → exec (.copyMove n) s = .next s ∧ exec (.copyZero n) s = .next s ∧
      exec (.copyAaddx n) s = .next s ∧ exec (.copyMarks n) s = .next s) ∧
    (s.copyReady x = true → s.copyRetries x ≠ [] →
      ∀ r ∈ [(Instr.copyMove n, 0), (.copyAaddx n, 1), (.copyZero n, 2), (.copyMarks n, 3)], d.opc = r.2 →
      ∃ t, exec r.1 s = .next t ∧ s.sameMem t ∧ t.cores = s.cores ∧
        t.od odMeshRetryCount = (s.od odMeshRetryCount + 1) % 2 ^ 64 ∧
        (∀ site ∈ s.copyRetries x, (s.cl site).port = .park → (t.cl site).waking = true) ∧
        ∃ y, t.copyOf n = some y ∧ y.acted = false ∧ y.retryUs = (if x.retryUs = 0 then 1 else min 64 (2 * x.retryUs)) ∧
          y.retryAt = s.clk.dt + 1000 * y.retryUs) ∧
    (s.copyReady x = true → s.copyRetries x = [] → ∀ site more, s.copyStops x = site :: more →
      ∀ r ∈ [(Instr.copyMove n, 0), (.copyAaddx n, 1), (.copyZero n, 2), (.copyMarks n, 3)], d.opc = r.2 →
      exec r.1 s = .next (if (site, Arrival.copy n) ∈ s.landing then s
        else { s with landing := s.landing ++ [(site, .copy n)] })) ∧
    (s.copyMay x = true → d.opc = 0 → d.dsp = 0 → ∀ site, p.siteOf (adCluster d.dst) = some site →
      s.portDrops site = false → mwf zR (s.cur (16 * site + adCore d.dst)).lsp = true → d.dst % 4096 + d.units ≤ 4096 →
      ∃ t, exec (.copyMove n) s = .next t ∧ s.sameMem t ∧
        (∀ i < d.units, mget zR (t.cur (16 * site + adCore d.dst)).lsp (d.dst % 4096 + i) =
          BitVec.ofNat 256 (s.unitRead p d.ssp d.src i).1) ∧
        (∀ r, r < d.dst % 4096 ∨ d.dst % 4096 + d.units ≤ r →
          mget zR (t.cur (16 * site + adCore d.dst)).lsp r = mget zR (s.cur (16 * site + adCore d.dst)).lsp r) ∧
        (∀ c, c ≠ 16 * site + adCore d.dst → t.core c = s.core c) ∧ ∃ y, t.copyOf n = some y ∧ y.acted = true) ∧
    (s.copyMay x = true → d.opc = 0 → d.dsp = 2 →
      ∃ t, exec (.copyMove n) s = .next t ∧ t.cores = s.cores ∧ t.cmem = s.cmem ∧
        (∀ k, (∀ i < d.units, k < p.hbmAt (d.dst + 32 * i) ∨ p.hbmAt (d.dst + 32 * i) + 32 ≤ k) →
          mget zB t.hbm k = mget zB s.hbm k) ∧
        (d.units = 1 → s.hbmOut (p.hbmAt d.dst) = false →
          ofLe (mgetRange zB t.hbm (p.hbmAt d.dst) 32) = (s.unitRead p d.ssp d.src 0).1 % 2 ^ 256)) ∧
    (s.copyMay x = true → d.opc = 2 → d.dsp = 1 → ∀ site, p.siteOf (adCluster d.dst) = some site →
      s.portDrops site = false → d.dst % 64 = 0 → d.units % 2 = 0 →
      ∃ t, exec (.copyZero n) s = .next t ∧ t.cores = s.cores ∧ t.hbm = s.hbm ∧
        ∀ k, let a := cmemKey site (d.dst % 2 ^ 23)
          (a ≤ k → k < a + 32 * d.units → mget zB t.cmem k = 0 ∧ mget zF t.cmemPoison (k / 64) = false ∧
            mget zF t.cmemOvf (k / 64) = false) ∧
          (k < a ∨ a + 32 * d.units ≤ k → mget zB t.cmem k = mget zB s.cmem k ∧
            mget zF t.cmemPoison (k / 64) = mget zF s.cmemPoison (k / 64) ∧
            mget zF t.cmemOvf (k / 64) = mget zF s.cmemOvf (k / 64)))

/-- COPY_AADDX sends one add for every granule to its adder and changes no memory; an adder adds
every value of a granule into CMEM or HBM and sets its overflow mark where an add overflows, once
for a granule of a request; a request that comes again adds nothing and counts once; at a held or
parked port it draws RETRY, and in a change stop it waits for CCLK; COPY_MARKS leaves the counts of marked granules in its row; a copy whose writes and
adds are done ends, and its CFLAG grows by CINC and its TFLAG by TINC, through an open port at once
and behind the changes of an open cycle; that of a paused cluster waits (R160, R181, R184, R219, R241
to R243, R248, R251, R363, R364, R369, R387, R430). -/
def Obligations.AddsMarksAndCompletions : Prop :=
  ∀ (n : Nat) (s : State), s.wf = true →
    (∀ x, s.copyOf n = some x → s.copyMay x = true → (copyDesc x.desc).opc = 1 → (copyDesc x.desc).dsp ≠ 3 →
      ∃ t l, exec (.copyAaddx n) s = .next t ∧ s.sameMem t ∧ t.cores = s.cores ∧ t.adds = s.adds ++ l ∧
        l.length = (copyDesc x.desc).units / 2 ∧ (∀ a ∈ l, a.copy = n) ∧
        ∃ y, t.copyOf n = some y ∧ y.acted = true ∧ y.adds = l.length) ∧
    (∀ i src num, s.adds[i]? = none → exec (.aaddxGranuleAdd ⟨i, src, num⟩) s =
      .next (if s.keptNow.any (fun x => x.src == src && x.num == num) then s.odAdd odMeshDuplicateCount 1 else s)) ∧
    (∀ i r src num, s.adds[i]? = some r →
      let kept := s.keptOf (addEnd r.hbm r.key) src num
      let site := r.key / 2 ^ 23
      let u : State := { s with adds := s.adds.eraseIdx i }
      let waits := (s.reqOf src num).any (·.retryWait)
      let own := (s.copyOf r.copy).any fun x => x.core / 16 == site
      (waits = true → exec (.aaddxGranuleAdd ⟨i, src, num⟩) s = .next s) ∧
      (waits = false → (∃ x ∈ kept, x.gran = r.key) → exec (.aaddxGranuleAdd ⟨i, src, num⟩) s =
        .next (if kept.head?.any (fun x => x.gran == r.key) then s.odAdd odMeshDuplicateCount 1 else s)) ∧
      (waits = false → (∀ x ∈ kept, x.gran ≠ r.key) → r.hbm = false →
        ((s.cl site).port = .hold ∨ (s.cl site).port = .park →
          (own = true → exec (.aaddxGranuleAdd ⟨i, src, num⟩) s = .next s) ∧
          (own = false → exec (.aaddxGranuleAdd ⟨i, src, num⟩) s = .next ((s.retryReq src num).wakePort site))) ∧
        ((s.cl site).port ≠ .hold → (s.cl site).port ≠ .park → s.stopped site = true →
          exec (.aaddxGranuleAdd ⟨i, src, num⟩) s =
            .next { u with landing := s.landing ++ [(site, .add r src num)] })) ∧
      (waits = false → (∀ x ∈ kept, x.gran ≠ r.key) → r.hbm = true → s.hbmOut r.key = false →
        let w := wpGranule r.wp32 r.guard (mgetRange zB s.hbm r.key 64) r.addends
        ∃ t, exec (.aaddxGranuleAdd ⟨i, src, num⟩) s = .next t ∧ t.adds = s.adds.eraseIdx i ∧ t.cmem = s.cmem ∧
          t.cores = s.cores ∧ t.hbm = msetRange zB s.hbm r.key w.1 ∧
          (∃ x ∈ t.keptOf (addEnd true r.key) src num, x.gran = r.key) ∧
          (w.2 = true → mget zF t.hbmOvf (r.key / 64) = true) ∧ (w.2 = false → t.hbmOvf = s.hbmOvf) ∧
          (r.poison = true → mget zF t.hbmPoison (r.key / 64) = true) ∧
          (r.poison = false → t.hbmPoison = s.hbmPoison)) ∧
      (waits = false → (∀ x ∈ kept, x.gran ≠ r.key) → r.hbm = false → (s.cl site).port = .opened → s.stopped site = false →
        let w := wpGranule r.wp32 r.guard (mgetRange zB s.cmem r.key 64) r.addends
        ∃ t, exec (.aaddxGranuleAdd ⟨i, src, num⟩) s = .next t ∧ t.adds = s.adds.eraseIdx i ∧ t.hbm = s.hbm ∧
          t.cores = s.cores ∧ t.cmem = msetRange zB s.cmem r.key w.1 ∧
          (w.2 = true → mget zF t.cmemOvf (r.key / 64) = true) ∧ (w.2 = false → t.cmemOvf = s.cmemOvf) ∧
          (r.poison = true → mget zF t.cmemPoison (r.key / 64) = true) ∧
          (r.poison = false → t.cmemPoison = s.cmemPoison) ∧
          t.od odCopyPoisonCarriedCount = (s.od odCopyPoisonCarriedCount + if r.poison then 1 else 0) % 2 ^ 64)) ∧
    (∀ x site, s.copyOf n = some x → s.copyMay x = true → (copyDesc x.desc).opc = 3 →
      (s.part x.part).siteOf (adCluster (copyDesc x.desc).dst) = some site → s.portDrops site = false →
      mwf zR (s.cur (16 * site + adCore (copyDesc x.desc).dst)).lsp = true →
      ∃ t, exec (.copyMarks n) s = .next t ∧ s.sameMem t ∧
        let d := copyDesc x.desc
        let v := mget zR (t.cur (16 * site + adCore d.dst)).lsp (d.dst % 4096)
        let ms := (List.range (d.units / 2)).map (s.marksAt (s.part x.part) d.ssp d.src)
        d.units ≤ 2 ^ 20 → v.extractLsb' 0 32 = BitVec.ofNat 32 (ms.filter (·.1)).length ∧
          v.extractLsb' 32 32 = BitVec.ofNat 32 (ms.filter (·.2)).length) ∧
    (∀ x, s.copyOf n = some x → x.acted = true → x.adds = 0 → x.pkts = [] →
      let d := copyDesc x.desc
      let u := ({ s with copies := s.copies.filter fun y => !(y.num == n) } : State).flagTo x.core x.core d.cflag d.cinc
      ((s.cl (x.core / 16)).power = .paused → exec (.copyComplete n) s = .next s) ∧
      ((s.cl (x.core / 16)).power ≠ .paused → d.tinc = 0 → exec (.copyComplete n) s = .next u) ∧
      (∀ site, (s.cl (x.core / 16)).power ≠ .paused → d.tinc ≠ 0 →
        (s.part x.part).siteOf (d.tcore % 65536) = some site → exec (.copyComplete n) s = .next (u.flagTo x.core (16 * site + d.tcore / 65536) d.tflag d.tinc))) ∧
    (∀ src dst flag inc, (s.cl (dst / 16)).port = .opened → s.stopped (dst / 16) = false →
      ((s.cur dst).active = true → s.flagTo src dst flag inc =
        s.modBoth dst fun c => { c with fInc := c.fInc ++ [(flag, BitVec.ofNat 32 inc)] }) ∧
      ((s.cur dst).active = false → s.flagTo src dst flag inc =
        s.modBoth dst fun c => { c with flags := mset zW c.flags flag (mget zW c.flags flag + BitVec.ofNat 32 inc) }))

/-- A wide partial adds exactly: a finite destination within the bound of R244 gets the exact sum, a
sum beyond the range saturates with the overflow mark, an addend beyond 2^(w - 1 - guard) - 2 sets
the mark and saturates by its sign, a special code of either side stands, and two combine; a
granule's mark is set by any of its values (R244). -/
def Obligations.WidePartialsAddExactly : Prop :=
  ∀ (wp32 : Bool) (guard : Nat) (d x : Int), guard ≤ 12 →
    let w := wpBits wp32
    let lim : Int := 2 ^ (w - 1) - 2
    let bound : Int := 2 ^ (w - 1 - guard) - 2
    let special : List Int := [-(2 ^ (w - 1)), -(2 ^ (w - 1)) + 1, 2 ^ (w - 1) - 1]
    d ≤ lim → -lim ≤ d →
    (-bound ≤ x → x ≤ bound → -lim ≤ d + x → d + x ≤ lim → wpAdd w guard d (x, false) = (d + x, false)) ∧
    (-bound ≤ x → x ≤ bound → lim < d + x → wpAdd w guard d (x, false) = (lim, true)) ∧
    (-bound ≤ x → x ≤ bound → d + x < -lim → wpAdd w guard d (x, false) = (-lim, true)) ∧
    (bound < x → wpAdd w guard d (x, false) = (lim, true)) ∧
    (x < -bound → wpAdd w guard d (x, false) = (-lim, true)) ∧
    (∀ z ∈ special, wpAdd w guard d (z, true) = (z, false) ∧
      wpAdd w guard z (x, false) = (z, decide (bound < x ∨ x < -bound)) ∧
      ∀ y ∈ special, wpAdd w guard z (y, true) = (if z = y then z else -(2 ^ (w - 1)), false)) ∧
    (∀ (bytes : List Byte) (adds : List (Int × Bool)), adds.length = 512 / w →
      ((wpGranule wp32 guard bytes adds).2 = true ↔ ∃ i, ∃ h : i < adds.length,
        (wpAdd w guard (BitVec.ofNat w (ofLe ((bytes.drop (w / 8 * i)).take (w / 8)))).toInt adds[i]).2 = true))

/-- The checks of CMEM and HBM: a good granule changes nothing, an uncorrectable one of CMEM gets
its poison mark; a controller's read answers with the granule and its mark, its write stores the
bytes, its zero clears a granule and both its marks, its add adds into a granule, each keeping its
record, and a repeated request is only counted; a fenced pseudo-channel that passed its scrub is in
service again (R212, R225, R229, R232, R233, R243, R251, R369, R499). -/
def Obligations.MemoryTiersAreChecked : Prop :=
  ∀ (s : State), s.wf = true →
    (∀ site g, g < 131072 →
      exec (.cmemAccessCheck site g .ok) s = .next s ∧ exec (.cmemPatrolScrub site g .bit) s = .next s ∧
      (∃ t, exec (.cmemAccessCheck site g .uncorrectable) s = .next t ∧ t.cmem = s.cmem ∧
        mget zF t.cmemPoison (cmemKey site (64 * g) / 64) = true ∧
        t.od odCmemUncorrectableCount = (s.od odCmemUncorrectableCount + 1) % 2 ^ 64) ∧
      ∃ t, exec (.cmemPatrolScrub site g .symbol) s = .next t ∧ s.sameMem t ∧
        t.od odCmemSymbolFixCount = (s.od odCmemSymbolFixCount + 1) % 2 ^ 64) ∧
    (∀ src num pc off lane, pc < 512 → off < 1500000000 →
      let key := hbmKey pc off
      let g := hbmKey pc (64 * (off / 64))
      let e := endStack (pc / 32)
      (s.hbmOut key = false → exec (.hbmRequest src num pc off .read ⟨.ok, lane⟩ 0) s = .next { s with
        hbmData := some (mgetRange zB s.hbm g 64, mget zF s.hbmPoison (key / 64)) }) ∧
      (s.hbmOut key = true → exec (.hbmRequest src num pc off .read ⟨.ok, lane⟩ 0) s = .next { s with
        hbmData := some (List.replicate 64 0, true) }) ∧
      (∀ data poison, s.hbmOut key = false → s.isDup e src num = false →
        ∃ t, exec (.hbmRequest src num pc off (.write data poison) ⟨.ok, lane⟩ 0) s = .next t ∧
          (∀ k, k < key ∨ key + data.length ≤ k → mget zB t.hbm k = mget zB s.hbm k) ∧
          (∀ k (h : k < data.length), mget zB t.hbm (key + k) = data[k]) ∧ t.cmem = s.cmem ∧
          t.od odCopyPoisonCarriedCount = (s.od odCopyPoisonCarriedCount + if poison then 1 else 0) % 2 ^ 64 ∧
          t.isDup e src num = true) ∧
      (s.hbmOut key = false → s.isDup e src num = false →
        ∃ t, exec (.hbmRequest src num pc off .zero ⟨.ok, lane⟩ 0) s = .next t ∧ t.cmem = s.cmem ∧
          (∀ k, (g ≤ k → k < g + 64 → mget zB t.hbm k = 0) ∧ (k < g ∨ g + 64 ≤ k → mget zB t.hbm k = mget zB s.hbm k)) ∧
          mget zF t.hbmPoison (g / 64) = false ∧ mget zF t.hbmOvf (g / 64) = false ∧ t.isDup e src num = true) ∧
      (∀ wp32 guard eSrc eDst values poison, s.hbmOut key = false → s.isDup e src num = false →
        let w := wpGranule wp32 guard (mgetRange zB s.hbm g 64) (values.map fun v => wpRealign (wpBits wp32) v eSrc eDst)
        ∃ t, exec (.hbmRequest src num pc off (.aaddx wp32 guard eSrc eDst values poison) ⟨.ok, lane⟩ 0) s = .next t ∧
          t.hbm = msetRange zB s.hbm g w.1 ∧ t.cmem = s.cmem ∧ (w.2 = true → mget zF t.hbmOvf (g / 64) = true) ∧
          (w.2 = false → t.hbmOvf = s.hbmOvf) ∧ t.isDup e src num = true) ∧
      (∀ op n, op ≠ .read → s.isDup e src num = true →
        exec (.hbmRequest src num pc off op ⟨.ok, lane⟩ n) s = .next (s.odAdd odMeshDuplicateCount 1)) ∧
      (s.pcOut pc = false → exec (.hbmPatrolScrub pc off ⟨.ok, lane⟩) s = .next s ∧
        exec (.hbmPatrolScrub pc off ⟨.bit, none⟩) s = .next (s.odAdd odHbmOndieCorrectedCount 1)) ∧
      (s.pcOut pc = true → ∀ found, exec (.hbmPatrolScrub pc off ⟨found, lane⟩) s = .next s)) ∧
    (∀ pc, pc < 512 → s.odBit odHbmStacksLost (pc / 32) = false → s.odBit (odAt odPcFenced (pc / 32)) (pc % 32) = true →
      (∀ r ∈ s.stud, r.un ≠ unPc pc) → s.fuseBad (unPc pc) = false →
      exec (.pcRejoin pc false) s = .next s ∧
      ∃ t, exec (.pcRejoin pc true) s = .next t ∧ t.odBit (odAt odPcFenced (pc / 32)) (pc % 32) = false ∧
        t.odBit (odAt odPcInService (pc / 32)) (pc % 32) = true)

/-! ### Windows, messages and signals -/

/-- A window write, arriving or brought by its packet from a link that serves the module, that fails
a check changes no memory and counts at its first failing check; one that its window takes is
applied once: a WMOVE into CMEM leaves its bytes there and no others, a WZERO zeros, a WAADDX of one
granule its adds, its record is kept, and a repeat is only counted; at a held or parked port it draws
RETRY, and it takes effect once the port opens and CCLK runs, in the order of arrival. A packet that is too old, or
comes to a die which is cut off, is discarded and counted. A tracker closes 100 ms after the last
packet of its copy and not before (R237 to R239, R241, R243, R363, R364, R387, R442, R461, R463,
R464). -/
def Obligations.WindowWritesAreChecked : Prop :=
  ∀ (s : State), s.wf = true →
    (∀ r ∈ winRules, ∀ p ctr cmd, s.brings r p cmd → s.winFails r.2 p ctr →
      (∀ q ∈ s.keptWin, ¬ (q.1 = p.src ∧ q.2.1 = p.tag)) →
      ∃ t, exec cmd s = .next t ∧ s.sameMem t ∧ t.cores = s.cores ∧ t.keptWin = s.keptWin ∧
        t.od ctr = (s.od ctr + 1) % 2 ^ 64) ∧
    (∀ r ∈ winRules, ∀ p d cmd, s.brings r p cmd → (p.src, p.tag, d) ∈ s.keptWin → s.clk.dt < d + 100000000 →
      ∃ t, exec cmd s = .next t ∧ s.sameMem t ∧ t.od odLinkDuplicateCount = (s.od odLinkDuplicateCount + 1) % 2 ^ 64) ∧
    (∀ r ∈ winRules, ∀ p k, k < 34 →
      (s.linkUp k = false → exec (r.1 ⟨some k, p⟩) s = .next s) ∧
      (s.linkUp k = true → s.dieCutOff (linkDie k) = true →
        exec (r.1 ⟨some k, p⟩) s = .next (s.odAdd odLinkIsolatedDropCount 1)) ∧
      (s.linkServes (some k) → 32 ≤ p.hops → exec (r.1 ⟨some k, p⟩) s = .next (s.odAdd odLinkDropHopsCount 1)) ∧
      (s.linkServes (some k) → p.hops < 32 → 5000 < (s.ageNow + 8192 - p.ageUs % 8192) % 8192 →
        exec (r.1 ⟨some k, p⟩) s = .next (s.odAdd odLinkDropAgeCount 1))) ∧
    (∀ r ∈ winRules, ∀ p w site cmd, s.brings r p cmd → s.window p.handle = some w → w.takes s r.2 p → w.hbm = false →
      (s.part w.part).siteOf (adCluster w.base) = some site → (s.cl site).port = .opened → s.stopped site = false →
      adCluster (w.base + p.offset) = adCluster w.base → (w.base + p.offset) % 64 = 0 → pktBytes r.2 p % 64 = 0 →
      (w.base + p.offset) % 2 ^ 23 + pktBytes r.2 p ≤ 2 ^ 23 →
      (∀ q ∈ s.keptWin, ¬ (q.1 = p.src ∧ q.2.1 = p.tag)) →
      ∃ t, exec cmd s = .next t ∧ t.hbm = s.hbm ∧ (p.src, p.tag, s.clk.dt) ∈ t.keptWin ∧
        (let a := cmemKey site ((w.base + p.offset) % 2 ^ 23)
         (r.2 = .wmove → ∀ k (h : k < p.data.length), mget zB t.cmem (a + k) = p.data[k]) ∧
         (r.2 = .wzero → ∀ k, a ≤ k → k < a + 64 * (p.ngr + 1) → mget zB t.cmem k = 0) ∧
         (r.2 = .waaddx → p.data.length = 64 → t.cmem = msetRange zB s.cmem a (wpGranule p.pfmt p.guard
           (mgetRange zB s.cmem a 64) (wpAddends p.pfmt (ofLe p.data) p.eSrc.toInt p.eDst.toInt)).1) ∧
          ∀ k, k < a ∨ a + pktBytes r.2 p ≤ k → mget zB t.cmem k = mget zB s.cmem k)) ∧
    (∀ r ∈ winRules, ∀ p w site cmd, s.brings r p cmd → s.window p.handle = some w → w.takes s r.2 p → w.hbm = false →
      (s.part w.part).siteOf (adCluster w.base) = some site → (∀ q ∈ s.keptWin, ¬ (q.1 = p.src ∧ q.2.1 = p.tag)) →
      ((s.cl site).port = .hold ∨ (s.cl site).port = .park → exec cmd s = .next
        { (s.odAdd odMeshRetryCount 1).wakePort site with landing := s.landing ++ [(site, .window r.2 p)] }) ∧
      ((s.cl site).port ≠ .hold → (s.cl site).port ≠ .park → s.stopped site = true → exec cmd s =
        .next { s with landing := s.landing ++ [(site, .window r.2 p)] })) ∧
    (∀ i k, s.trackers[i]? = some k →
      (k.lastDt + 100000000 ≤ s.clk.dt →
        exec (.notifyTrackerClose i) s = .next { s with trackers := s.trackers.eraseIdx i }) ∧
      (s.clk.dt < k.lastDt + 100000000 → exec (.notifyTrackerClose i) s = .next s))

/-- A message that arrives at an open port joins its channel and adds 1 to flag 60 + channel; a held
or parked port draws RETRY, counted, but for the cluster's own, and the sender waits 1 µs, then twice
as long each time, up to 64 µs, and a parked cluster wakes; in a change stop it takes effect once
CCLK restarts; a dark port discards and counts, and in a partition reset the message is discarded. A
signal adds its increment to its flag, once, under the same rules. A post record of a partition's
host takes a place of its channel and sets off, or enters the channel of a management receiver that
the mesh reaches; an acknowledgement of the host sets off to the core; a record that names no
receiver is counted; while no host port serves, a record is lost (R54, R174, R186, R334, R337, R339
to R341, R363, R364, R367, R387, R442). -/
def Obligations.MessagesAndSignalsArrive : Prop :=
  ∀ (s : State),
    (∀ i m, s.mails[i]? = some m → s.clk.dt < m.retry.due → exec (.mailboxArrival i) s = .next s) ∧
    (∀ i m, s.mails[i]? = some m → (∀ x ∈ s.mails.take i, ¬ (x.dst = m.dst ∧ x.chan = m.chan)) →
      m.retry.due ≤ s.clk.dt →
      let site := m.dst / 16
      let us := if m.retry.us = 0 then 1 else min 64 (2 * m.retry.us)
      let gone := if s.routerStopped site then odMeshUnreachDropCount else odMeshDarkDropCount
      let inReset := ∃ p k, s.ownerOf m.dst = some (p, k) ∧ (s.part p).resetAt.isSome = true
      let u : State := { s with mails := s.mails.eraseIdx i }
      (¬ inReset → (s.cl site).port = .hold ∨ (s.cl site).port = .park →
        (s.mailFrom m = some site → exec (.mailboxArrival i) s = .next (s.wakePort site)) ∧
        (s.mailFrom m ≠ some site → exec (.mailboxArrival i) s = .next ((({ s with
          mails := s.mails.set i { m with retry := ⟨us, s.clk.dt + 1000 * us⟩ } } : State).odAdd
            odMeshRetryCount 1).wakePort site))) ∧
      (¬ inReset → (s.cl site).port = .opened → s.stopped site = true →
        exec (.mailboxArrival i) s = .next { u with landing := s.landing ++ [(site, .mail m)] }) ∧
      (¬ inReset → (s.cl site).port = .dark → exec (.mailboxArrival i) s = .next (u.odAdd gone 1)) ∧
      (inReset ∨ (s.cl site).port = .reset → exec (.mailboxArrival i) s = .next (u.discardMail m)) ∧
      (¬ inReset → (s.cl site).port = .opened → s.stopped site = false → m.item.ack = false →
        exec (.mailboxArrival i) s = .next ((u.modBoth m.dst fun c =>
          { c with mb := mset (fun _ => []) c.mb m.chan (mget (fun _ => []) c.mb m.chan ++ [m.item]) }).incFlag m.dst
            (60 + m.chan) 1))) ∧
    (∀ i g, s.signals[i]? = some g → s.clk.dt < g.retry.due → exec (.signalDelivery i) s = .next s) ∧
    (∀ i g, s.signals[i]? = some g → g.retry.due ≤ s.clk.dt →
      let site := g.dst / 16
      let us := if g.retry.us = 0 then 1 else min 64 (2 * g.retry.us)
      let gone := if s.routerStopped site then odMeshUnreachDropCount else odMeshDarkDropCount
      let u : State := { s with signals := s.signals.eraseIdx i }
      ((s.cl site).port = .opened → s.stopped site = false →
        exec (.signalDelivery i) s = .next (u.incFlag g.dst g.flag (BitVec.ofNat 32 g.inc))) ∧
      ((s.cl site).port = .opened → s.stopped site = true →
        exec (.signalDelivery i) s = .next { u with landing := s.landing ++ [(site, .signal g)] }) ∧
      ((s.cl site).port = .hold ∨ (s.cl site).port = .park →
        (g.src / 16 = site → exec (.signalDelivery i) s = .next (s.wakePort site)) ∧
        (g.src / 16 ≠ site → exec (.signalDelivery i) s = .next ((({ s with
          signals := s.signals.set i { g with retry := ⟨us, s.clk.dt + 1000 * us⟩ } } : State).odAdd
            odMeshRetryCount 1).wakePort site))) ∧
      ((s.cl site).port = .dark → exec (.signalDelivery i) s = .next (u.odAdd gone 1))) ∧
    (∀ site, ((s.cl site).port = .park → s.wakePort site = s.modCl site fun x => { x with waking := true }) ∧
      ((s.cl site).port ≠ .park → s.wakePort site = s)) ∧
    (∀ c flag v, ((s.cur c).active = true → s.incFlag c flag v = s.modBoth c fun x =>
        { x with fInc := x.fInc ++ [(flag, v)] }) ∧
      ((s.cur c).active = false → s.incFlag c flag v = s.modBoth c fun x =>
        { x with flags := mset zW x.flags flag (mget zW x.flags flag + v) })) ∧
    (∀ p site (w : BitVec 128), p < 32 → w.extractLsb' 110 2 = 2 → w.getLsbD 109 = false → w.extractLsb' 112 16 = 0 →
      (s.part p).sites[fld w 100 9]? = some (some site) → s.up = true → s.hostUp = true →
      let c := 16 * site + fld w 96 4
      s.hostWait = [] → s.mbHeld (mbHu p) c < 4 → c < 20000 →
      exec (.hostPost (p + 1) w) s = .next { s with
        posts := mset zN s.posts (mbKey (mbHu p) c) (s.mbHeld (mbHu p) c + 1)
        mails := s.mails ++ [⟨c, 0, ⟨w.extractLsb' 0 64, w.extractLsb' 64 32, srcHu, false⟩, ⟨0, 0⟩⟩] }) ∧
    (∀ r ch (w : BitVec 128), w.extractLsb' 112 16 = 0 → w.extractLsb' 110 2 = 0 → fld w 104 6 = 0 → fld w 96 8 = r →
      mbMgmtOk r = true → mgmtChan r srcHp 100 = some ch → s.up = true → s.hostUp = true → s.hostWait = [] →
      s.mbHeld mbHp (mbMgmt r) < 4 →
      let u : State := { s with posts := mset zN s.posts (mbKey mbHp (mbMgmt r)) (s.mbHeld mbHp (mbMgmt r) + 1) }
      (s.mgmtCut r = true → exec (.hostPost 0 w) s = .next (u.odAdd odMeshUnreachDropCount 1)) ∧
      (s.mgmtCut r = false → exec (.hostPost 0 w) s = .next { u with
        mgmt := mset (fun _ => []) s.mgmt (64 * r + ch) (mget (fun _ => []) s.mgmt (64 * r + ch) ++
          [⟨w.extractLsb' 0 64, w.extractLsb' 64 32, srcHp, false⟩]) })) ∧
    (∀ p site (w : BitVec 128), p < 32 → w.extractLsb' 110 2 = 2 → w.getLsbD 109 = false → w.extractLsb' 112 16 = 1 →
      (s.part p).sites[fld w 100 9]? = some (some site) → s.up = true → s.hostUp = true →
      let c := 16 * site + fld w 96 4
      s.mbHeld c (mbHu p) ≠ 0 →
      exec (.hostAck (p + 1) w) s = .next { s with
        mails := s.mails ++ [⟨c, 0, ⟨0, w.extractLsb' 64 32, srcHu, true⟩, ⟨0, 0⟩⟩] }) ∧
    (∀ route (w : BitVec 128), route ≤ 32 → s.up = true →
      (s.hostUp = true → w.extractLsb' 112 16 = 0 → (w.extractLsb' 110 2 = 1 ∨ w.extractLsb' 110 2 = 3) →
        exec (.hostPost route w) s = .next (s.odAdd odHostClassDropCount 1)) ∧
      (s.linkUp 34 = false → s.linkUp 35 = false → exec (.hostPost route w) s = .next s ∧
        exec (.hostAck route w) s = .next s) ∧
      (s.hostUp = false → s.linkUp 34 = true ∨ s.linkUp 35 = true →
        exec (.hostPost route w) s = .next (s.odAdd odLinkIsolatedDropCount 1) ∧
          exec (.hostAck route w) s = .next (s.odAdd odLinkIsolatedDropCount 1)))

/-! ### Commits, update chiplets and digests -/

/-- STEP_COMMIT that passes its checks stands at the gate with every shard of its list, and has
changed no counter and no memory; it waits for a commit that still applies and for the end of a run
on an update chiplet that it needs (log 116); of a halted job it completes with CS_STEP_LOST, for another step with CS_STATE_ILLEGAL. The gate is all engines or
none: when every stored counter agrees it opens and keeps every counter, when one differs the commit
ends with no counter and no byte changed (R258, R274 to R276, R283, R316, R528). -/
def Obligations.CommitsPassTheGate : Prop :=
  ∀ (s : State), s.wf = true →
    (∀ ring idx c, s.cmdOf ring idx 0x04 = some c →
      let x := s.part c.part
      let ds := s.commitList c
      (x.commit ≠ none → exec (.stepCommit ring idx) s = .next s) ∧
      (x.commit = none → x.job.st = .stepPending → fld c.desc 64 32 = x.job.step.toNat → uListOk x.hbmSize ds = true →
        s.commitRoom c.part ds = true → s.commitRuns c.part ds = true → exec (.stepCommit ring idx) s = .next s) ∧
      (x.commit = none → x.job.st = .stepPending → fld c.desc 64 32 = x.job.step.toNat → uListOk x.hbmSize ds = true →
        s.commitRoom c.part ds = true → s.commitRuns c.part ds = false →
        ∃ t m, exec (.stepCommit ring idx) s = .next t ∧ s.sameMem t ∧ t.upd = s.upd ∧
          (t.part c.part).commit = some m ∧ m.phase = .gate ∧ m.descs = ds ∧ m.shards = listShards x ds ∧
          (t.part c.part).job = x.job) ∧
      (x.commit = none → x.job.st = .halted → uListOk x.hbmSize ds = true →
        ∃ t, exec (.stepCommit ring idx) s = .next t ∧ s.sameMem t ∧ t.upd = s.upd ∧ Completes s t c csStepLost) ∧
      (x.commit = none → x.job.st = .stepPending → fld c.desc 64 32 ≠ x.job.step.toNat → (∃ d ∈ ds, uRule d ≠ 6) →
        ∃ t, exec (.stepCommit ring idx) s = .next t ∧ s.sameMem t ∧ t.upd = s.upd ∧
          Completes s t c csStateIllegal)) ∧
    (∀ p m, (s.part p).commit = some m → m.phase = .gate → (∀ h ∈ m.shards, s.odBit odHbmStacksLost h.stack = false) →
      ((∀ d ∈ m.descs, s.disagree p d = []) →
        ∃ t n, exec (.gateCheck p) s = .next t ∧ s.sameMem t ∧ (t.part p).commit = some n ∧ n.phase = .apply ∧
          n.shards = m.shards ∧ ∀ q stack uid, t.updCtr q stack uid = s.updCtr q stack uid) ∧
      ((∃ d ∈ m.descs, s.disagree p d ≠ []) →
        ∃ t, exec (.gateCheck p) s = .next t ∧ s.sameMem t ∧ t.upd = s.upd ∧ (t.part p).commit = none ∧
          t.od odStepMismatchCount = (s.od odStepMismatchCount + 1) % 2 ^ 64))

/-- In the apply phase an engine writes the next group of the first shard of its stack that is
ready: the bytes of the group's values and no others, its marker with it; a shard that ends its last
phase has its new step counter (R277, R279). An error that the SRAM of its UPC corrects is counted,
and one that it cannot correct discards the group, which is computed again (R257); while a run
occupies the UPC nothing is written (R528, log 116). A commit whose
shards are done ends: a job that waited for it is LOADED again, and its command completes; after a
reset only the logs hear of it (R281, R284, R324). -/
def Obligations.CommitsApplyAndEnd : Prop :=
  ∀ (s : State) (p : Nat) (m : Commit), s.wf = true → (s.part p).commit = some m →
    (m.phase = .gate → ∀ k found, exec (.updateGroupApply p ⟨k, found⟩) s = .next s) ∧
    (m.phase = .apply → ∀ k h, m.shards.find? (fun h => h.stack == k && s.shardReady m h) = some h →
      let d := m.descs.getD h.desc 0
      let g := (s.seenBy (s.directStacks k (uRule d))).nextOuts p (s.part p).job.seed.toNat m h
      ((∃ u, s.upcFor k (uRule d) = some u ∧ s.upcInRun u = true) →
        ∀ found, exec (.updateGroupApply p ⟨k, found⟩) s = .next s) ∧
      ((∀ u, s.upcFor k (uRule d) = some u → s.upcInRun u = false) →
      (∀ u, s.upcFor k (uRule d) = some u →
        exec (.updateGroupApply p ⟨k, .bit⟩) s =
          .next ((s.odAdd (odAt odUpcSramCorrectedCount u) 1).applyGroup p m h) ∧
        exec (.updateGroupApply p ⟨k, .uncorrectable⟩) s = .next (s.sramPut u [])) ∧
      exec (.updateGroupApply p ⟨k, .ok⟩) s = .next (s.applyGroup p m h) ∧
      ∃ t, exec (.updateGroupApply p ⟨k, .ok⟩) s = .next t ∧ t.cmem = s.cmem ∧ t.cores = s.cores ∧
        (∀ a, (∀ o ∈ g.outs, a < (s.part p).hbmAt o.a ∨ (s.part p).hbmAt o.a + o.w ≤ a) →
          mget zB t.hbm a = mget zB s.hbm a) ∧
        (g.ended = true → uPhases (uRule d) ≤ h.phase + 1 →
          t.updCtr p h.stack (uUid d) = if uRule d = 6 then uExpect d % 2 ^ 32 else (uExpect d + 1) % 2 ^ 32) ∧
        (g.ended = false ∨ h.phase + 1 < uPhases (uRule d) → t.upd = s.upd))) ∧
    (m.done = false → exec (.commitComplete p) s = .next s ∧ exec (.commitAfterReset p) s = .next s) ∧
    (m.done = true → m.afterReset = false →
      ∃ t, exec (.commitComplete p) s = .next t ∧ s.sameMem t ∧ (t.part p).commit = none) ∧
    (m.done = true → m.afterReset = false → m.torn = [] → m.poisoned = [] → m.stale = [] →
      (s.part p).job.st = .stepPending → ∀ c, s.cmd m.ring m.idx = some c →
      ∃ t, exec (.commitComplete p) s = .next t ∧ s.sameMem t ∧ (t.part p).commit = none ∧
        (t.part p).job.st = (if m.descs.all (fun d => uRule d == 6) then .stepPending else .loaded) ∧
        t.od odCommitCount = (s.od odCommitCount + 1) % 2 ^ 64 ∧ Completes s t c csOk) ∧
    (m.done = true → m.afterReset = true → (s.part p).resetAt = none →
      ∃ t, exec (.commitAfterReset p) s = .next t ∧ s.sameMem t ∧ (t.part p).commit = none ∧
        t.od odCommitCount = (s.od odCommitCount + 1) % 2 ^ 64)

/-- A drain that was asked for takes effect once its update chiplet is idle, a failed chiplet is
drained at once, a drained one that passed its runs returns when its stacks are idle, and
UPC_DRAIN_REQ asks for the drains of its mask; a digest with legal entries starts unless a commit
runs or a run occupies an update chiplet of it, waits for their end, and completes with its value, or
with CS_POISON_CONSUMED, as it does where its list is poisoned; what the SRAM of a chiplet corrects in
it is counted; one with an illegal entry completes with CS_ARG_INVALID (R257, R291 to R297, R528; log
116). -/
def Obligations.UpdateChipletsAndDigests : Prop :=
  ∀ (s : State), s.wf = true →
    (∀ u x, u < 8 → s.upcWait.find? (fun x => x.1 == u) = some x →
      (s.upcBusy u = true → exec (.upcDrain u) s = .next s) ∧
      (s.upcBusy u = false → ∃ t, exec (.upcDrain u) s = .next t ∧ s.sameMem t ∧ t.od (odAt odUpcState u) = 1 ∧
        t.odBit odUpcDrained u = true ∧ ∀ y ∈ t.upcWait, y.1 ≠ u)) ∧
    (∀ u, u < 8 → (s.odBit odUpcEnabled u = false ∨ s.od (odAt odUpcState u) ≠ 0 → exec (.upcFault u) s = .next s) ∧
      (s.odBit odUpcEnabled u = true → s.od (odAt odUpcState u) = 0 →
        ∃ t, exec (.upcFault u) s = .next t ∧ s.sameMem t ∧ t.od (odAt odUpcState u) = 1)) ∧
    (∀ u, u < 8 → s.od (odAt odUpcState u) = 1 → s.odBit odUpcEnabled u = true → mget zF s.upcPassed u = true →
      s.unitOut (unUpc u) = false → (s.stacksBusy u = true → exec (.upcReturn u) s = .next s) ∧
      (s.stacksBusy u = false → ∃ t, exec (.upcReturn u) s = .next t ∧ s.sameMem t ∧ t.od (odAt odUpcState u) = 0 ∧
        t.odBit odUpcDrained u = false)) ∧
    (∀ route (mask : BitVec 8) u, u < 8 → s.mayWrite route odUpcDrainReq → mask.getLsbD u = true →
      s.odBit odUpcEnabled u = true → s.od (odAt odUpcState u) = 0 →
      ∃ t, exec (.upcDrainReq route mask) s = .next t ∧ s.sameMem t ∧ t.odBit odUpcDrainReq u = true ∧
        ∃ y ∈ t.upcWait, y.1 = u) ∧
    (∀ ring idx c, s.cmdOf ring idx 0x30 = some c →
      let x := s.part c.part
      let us := (List.range (fld c.desc 64 16 + 1)).map fun i => s.unitRead x 2 (fld c.desc 128 64) i
      let es := us.map fun u => BitVec.ofNat 256 u.1
      ((∃ u ∈ us, u.2 = true) → ∃ t, exec (.digestReq ring idx) s = .next t ∧ s.sameMem t ∧ t.parts = s.parts ∧
        Completes s t c csPoisonConsumed) ∧
      ((∀ u ∈ us, u.2 = false) → es.all (digOk x.hbmSize) = false → ∃ t, exec (.digestReq ring idx) s = .next t ∧
        s.sameMem t ∧ t.parts = s.parts ∧ Completes s t c csArgInvalid) ∧
      ((∀ u ∈ us, u.2 = false) → es.all (digOk x.hbmSize) = true →
        ∃ t g, exec (.digestReq ring idx) s = .next t ∧ s.sameMem t ∧ (t.part c.part).digests = x.digests ++ [g] ∧
          g.ring = ring ∧ g.idx = idx ∧ g.entries = es ∧ g.started = (x.commit.isNone && !s.digRuns c.part) ∧
          (x.commit = none → s.digRuns c.part = false → g.value = (s.digValue x es).1 ∧ g.poison = (s.digValue x es).2))) ∧
    (∀ p g, (s.part p).digests = [g] → g.started = false →
      ((s.part p).commit.isSome = true ∨ s.digRuns p = true → exec (.digestStart p) s = .next s) ∧
      ((s.part p).commit = none → s.digRuns p = false → ∃ t, exec (.digestStart p) s = .next t ∧ s.sameMem t ∧
        (t.part p).digests = [{ g with started := true, value := (s.digValue (s.part p) g.entries).1,
                                       poison := (s.digValue (s.part p) g.entries).2 }])) ∧
    (∀ p g gs c, (s.part p).digests = g :: gs → g.started = true → s.cmd g.ring g.idx = some c →
      ∀ l, ∃ t, exec (.digestComplete ⟨p, l⟩) s = .next t ∧ s.sameMem t ∧
        Completes s t c (if g.poison then csPoisonConsumed else csOk) ∧ g ∉ (t.part p).digests ∧
        ∀ u, u < 8 → s.upcServes u = true → (∃ k ∈ (s.part p).stacks, k / 2 = u) →
          let n := (l.filter fun x => x.1 == u && (x.2 == .bit || x.2 == .symbol)).length
          n ≠ 0 → t.od (odAt odUpcSramCorrectedCount u) = (s.od (odAt odUpcSramCorrectedCount u) + n) % 2 ^ 64)

/-! ### Rings -/

/-- RING_ENABLE, RING_DISABLE and RING_RESTART; a doorbell moves PROD of an enabled ring when it is
reached and within the ring, and is counted as ignored otherwise; COMMAND_FETCH reads the next
command from its slot in host memory, and, once the card has returned it and ordering allows it, the
command stands started, or completes at once with the status that its start gives; FENCE completes;
EVENT_WAIT completes with an event that stands in the log and waits for one otherwise, until its
time is over (R304 to R313, R316, R329). -/
def Obligations.RingsServeCommands : Prop :=
  ∀ (s : State) (r : Nat), s.wf = true →
    let x := s.ring r
    (r < 4096 → (s.part x.part).composed = true →
      exec (.ringEnable r) s = .next (s.modRing r fun x => { x with enabled := true })) ∧
    (4096 ≤ r ∨ (s.part x.part).composed = false → exec (.ringEnable r) s = .next s) ∧
    (r < 4096 → exec (.ringDisable r) s =
      .next ((s.modRing r fun x => { x with enabled := false, stopped := false }).dropFetch r)) ∧
    (x.stopped = true → x.enabled = true →
      exec (.ringRestart r) s = .next (s.modRing r fun x => { x with stopped := false, cons := x.stopIdx })) ∧
    (x.stopped = false ∨ x.enabled = false → exec (.ringRestart r) s = .next s) ∧
    (∀ w : BitVec 64, fld w 0 12 = r → s.up = true → s.hostUp = true →
      let prod := w.extractLsb' 32 32
      (x.enabled = true → (s.part x.part).resetAt = none → fld w 12 20 = 0 → (prod - x.prod).toNat < 2 ^ 31 →
        (prod - x.cons).toNat ≤ 2 ^ x.log2 →
        exec (.doorbell 0 w) s = .next (s.modRing r fun x => { x with prod := prod })) ∧
      (x.enabled = false ∨ (s.part x.part).resetAt.isSome = true ∨ fld w 12 20 ≠ 0 ∨ 2 ^ 31 ≤ (prod - x.prod).toNat ∨ 2 ^ x.log2 < (prod - x.cons).toNat →
        exec (.doorbell 0 w) s = .next (s.odAdd odDoorbellIgnoredCount 1)) ∧
      (∀ p, p < 32 →
        (x.part ≠ p ∨ x.cls = 0 → exec (.doorbell (p + 1) w) s = .next (s.odAdd odHostClassDropCount 1)) ∧
        (x.part = p → x.cls ≠ 0 → exec (.doorbell (p + 1) w) s = exec (.doorbell 0 w) s))) ∧
    (∀ route (w : BitVec 64), route ≤ 32 → s.up = true → s.hostUp = false →
      (s.linkUp 34 = true ∨ s.linkUp 35 = true →
        exec (.doorbell route w) s = .next (s.odAdd odLinkIsolatedDropCount 1)) ∧
      (s.linkUp 34 = false → s.linkUp 35 = false → exec (.doorbell route w) s = .next s)) ∧
    (s.mayFetch r = false → ∀ start, exec (.commandFetch r start) s = .next s) ∧
    (s.mayFetch r = true → s.fetchOf r = none →
      ∃ t, exec (.commandFetch r false) s = .next t ∧ s.sameMem t ∧ t.parts = s.parts ∧ t.cmds = s.cmds ∧
        t.hrd.reqs = s.hrd.reqs ++ [⟨s.hrd.tag, r, x.cons.toNat, false, 64, none⟩] ∧
        (s.dieCutOff (linkDie s.hostPort) = false →
          t.hostTx = s.hostTx ++ [.hrd s.hrd.tag (x.base + 64 * (x.cons.toNat % 2 ^ x.log2)) 64])) ∧
    (s.fetchOf r ≠ none → exec (.commandFetch r false) s = .next s) ∧
    (s.fetched r = none → exec (.commandFetch r true) s = .next s) ∧
    (∀ d, s.mayFetch r = true → s.fetched r = some d →
      let cmd : RingCmd := { ring := r, idx := x.cons.toNat, part := x.part, desc := d, startDt := s.clk.dt,
                             acted := false, hint := s.hintOf x.part d }
      (s.mayStart r (fld d 0 8) = false → exec (.commandFetch r true) s = .next s) ∧
      (s.mayStart r (fld d 0 8) = true → s.startStatus r d = csOk →
        ∃ t, exec (.commandFetch r true) s = .next t ∧ s.sameMem t ∧ t.parts = s.parts ∧ t.cmds = s.cmds ++ [cmd] ∧
          t.ring r = { x with cons := x.cons + 1 }) ∧
      (s.mayStart r (fld d 0 8) = true → s.startStatus r d ≠ csOk →
        ∃ t, exec (.commandFetch r true) s = .next t ∧ s.sameMem t ∧ t.parts = s.parts ∧
          Completes s t cmd (s.startStatus r d)) ∧
      (opKnown (fld d 0 8) = false → s.startStatus r d = csArgInvalid)) ∧
    (∀ idx c, s.cmdOf r idx 0x21 = some c → ∃ t, exec (.fence r idx) s = .next t ∧ s.sameMem t ∧ t.parts = s.parts ∧
      Completes s t c csOk) ∧
    (∀ idx c, s.cmdOf r idx 0x22 = some c →
      let named (e : EvRec) : Option Nat := if (s.ring c.ring).cls = 0 then e.part else some c.part
      ((∃ e ∈ s.watched c, waitMatches s c e.code e.dt (named e) = true) →
        ∃ t, exec (.eventWait r idx) s = .next t ∧ s.sameMem t ∧ t.parts = s.parts ∧ Completes s t c csOk) ∧
      ((∀ e ∈ s.watched c, waitMatches s c e.code e.dt (named e) = false) →
        exec (.eventWait r idx) s = .next (s.actCmd c))) ∧
    (∀ idx c, s.cmd r idx = some c → fld c.desc 0 8 = 0x22 → fld c.desc 160 32 ≠ 0 →
      (c.startDt + 1000 * fld c.desc 160 32 ≤ s.clk.dt →
        ∃ t, exec (.eventWaitTimeout r idx) s = .next t ∧ s.sameMem t ∧ Completes s t c csTimeout) ∧
      (s.clk.dt < c.startDt + 1000 * fld c.desc 160 32 → exec (.eventWaitTimeout r idx) s = .next s))

/-! ### Partitions -/

/-- COMPOSE and REMAP with legal entries set the partition's map: its job is EMPTY, its HBM extent
is zero and unmarked, and no other byte of HBM changes; with others they end with the status and no
other effect. DISSOLVE gives the clusters up, and the positions of its unmapped indices stay
unmapped (R45); the write of RESET begins the reset, PARTITION_RESET
ends what the partition runs and keeps HBM; its completion and PART_CTRL_END end the control (R227,
R300, R301, R332, R333). That a control that takes effect withdraws the half-bays of R45 first, of
every partition, is the choice of log 79. -/
def Obligations.PartitionsAreControlled : Prop :=
  ∀ (s : State) (p : Nat), s.wf = true → p < 32 →
    (∀ r ∈ [(Instr.compose p, 1), (Instr.remap p, 2)], (s.part p).ctrl = some (r.2, 0) →
      (s.withdraw.composeStatus p = csOk →
        ∃ t, exec r.1 s = .next t ∧ (t.part p).composed = true ∧ (t.part p).ctrl = some (r.2, 1) ∧
          (t.part p).job.st = .empty ∧ (t.part p).span = s.od (odAt odPartSpanMib p) * 2 ^ 20 ∧
          (∀ pc ∈ (t.part p).chans, ∀ a, (t.part p).base ≤ a → a < (t.part p).base + (t.part p).span →
            mget zB t.hbm (2 ^ 31 * pc + a) = 0) ∧
          (∀ k, (∀ pc ∈ (t.part p).chans, k < 2 ^ 31 * pc + (t.part p).base ∨
              2 ^ 31 * pc + (t.part p).base + (t.part p).span ≤ k) → mget zB t.hbm k = mget zB s.hbm k) ∧
          t.od (odAt odPartHbmSize p) = (t.part p).hbmSize ∧ t.od (odAt odPartClusters p) = (t.part p).clusters) ∧
      (s.withdraw.composeStatus p ≠ csOk →
        exec r.1 s = .next (s.endCtrl p (s.withdraw.composeStatus p)))) ∧
    ((s.part p).ctrl = some (4, 0) →
      ∃ t, exec (.dissolve p) s = .next t ∧ (t.part p).composed = false ∧ (t.part p).sites = [] ∧ t.hbm = s.hbm ∧
        (∀ site, some site ∈ (s.part p).sites → (t.cl site).owner = none ∧ (t.cl site).power = .off) ∧
        (∀ i ∈ (s.part p).lost, ∀ x, (s.part p).sites.getD i none = some x → x < 576 →
          s.siteLogical x ∈ (t.bay (x / 36)).unmapped) ∧
        (∀ h w, t.window h = some w → w.part ≠ p)) ∧
    ((s.part p).ctrl = none → s.ready = true → (s.part p).composed = true →
      s.partCtrlWrite p 3 = (s.modPart p fun x => { x with ctrl := some (3, 0), resetAt := some s.clk.dt }, odOk)) ∧
    ((s.part p).ctrl = some (3, 0) →
      ∃ t, exec (.partitionReset p) s = .next t ∧ t.hbm = s.hbm ∧ (t.part p).ctrl = some (3, 1) ∧
        (t.part p).resetAt = (s.part p).resetAt ∧ (t.part p).digests = [] ∧ (t.part p).grant = none ∧
        (∀ c ∈ t.cmds, c.part ≠ p) ∧ (∀ c ∈ t.copies, c.part ≠ p) ∧
        ((s.part p).job.st = .running ∨ (s.part p).job.st = .armed →
          (t.part p).job.st = .halted ∧ (t.part p).job.reason = 6)) ∧
    ((s.part p).ctrl = some (3, 1) →
      ∃ t, exec (.partitionResetComplete p) s = .next t ∧ s.sameMem t ∧ (t.part p).resetAt = none ∧
        (t.part p).ctrl = none ∧ t.od (odAt odPartCtrlStatus p) = csOk ∧
        (∀ r, (s.ring r).part = p → (t.ring r).cons = (s.ring r).prod) ∧
        t.od odPartitionResetCount = (s.od odPartitionResetCount + 1) % 2 ^ 64) ∧
    (∀ k ∈ [1, 2, 4], (s.part p).ctrl = some (k, 1) →
      ∃ t, exec (.partCtrlEnd p) s = .next t ∧ s.sameMem t ∧ (t.part p).ctrl = none ∧
        t.od (odAt odPartCtrlStatus p) = csOk)

/-! ### Jobs -/

/-- JOB_LOAD with a manifest of good entries, or with a good loader image, loads the job with its
JOB_ID and SEED, and with a broken one completes with CS_ARG_INVALID; JOB_ARM and JOB_START arm a
step for its launch, at least 20,000 ns after the start of the command, and complete with
CS_NO_RESOURCE while an index is unmapped; at the launch, once the counter of every running cluster of the
partition has reached LAUNCH_DT, every core of it runs with S1 holding STEP; when every core has ended and no copy is left the step is pending; JOB_HALT loses the
step, and JOB_RELEASE gives the job up with its update tables (R315 to R325). -/
def Obligations.JobsRunTheirSteps : Prop :=
  ∀ (s : State), s.wf = true →
    (∀ ring idx c, s.cmdOf ring idx 0x01 = some c →
      let x := s.part c.part
      let a := fld c.desc 160 64
      let es := (List.range (16 * x.clusters)).map (s.manifestEntry x a)
      a + 64 ≤ x.hbmSize → (fld (BitVec.ofNat 256 (s.unitRead x 2 a 0).1 : Row) 0 32 = 0x0804A55B ∨
        a + 1024 * x.clusters ≤ x.hbmSize) →
      let hd : Row := BitVec.ofNat 256 (s.unitRead x 2 a 0).1
      (fld hd 0 32 = 0x0804A55B → (s.unitRead x 2 a 0).2 = false → loaderOk x hd = true →
        ∃ t, exec (.jobLoad ring idx) s = .next t ∧ s.sameMem t ∧ (t.part c.part).job.st = .loaded ∧
          (t.part c.part).job.jobId = c.desc.extractLsb' 64 32 ∧
          (t.part c.part).job.seed = c.desc.extractLsb' 96 64 ∧ (t.part c.part).job.loader = some hd ∧
          Completes s t c csOk) ∧
      (fld hd 0 32 ≠ 0x0804A55B → (∀ e ∈ es, e.2 = false ∧ entryOk x e.1 = true) →
        ∃ t, exec (.jobLoad ring idx) s = .next t ∧ s.sameMem t ∧ (t.part c.part).job.st = .loaded ∧
          (t.part c.part).job.jobId = c.desc.extractLsb' 64 32 ∧
          (t.part c.part).job.seed = c.desc.extractLsb' 96 64 ∧ (t.part c.part).job.manifest = es.map (·.1) ∧
          Completes s t c csOk) ∧
      (fld hd 0 32 ≠ 0x0804A55B → (∃ e ∈ es, e.2 = true ∨ entryOk x e.1 = false) →
        ∃ t, exec (.jobLoad ring idx) s = .next t ∧ s.sameMem t ∧ (t.part c.part).job = x.job ∧
          Completes s t c csArgInvalid)) ∧
    (∀ ring idx c, s.cmdOf ring idx 0x02 = some c →
      (c.startDt + 20000 ≤ fld c.desc 96 64 → s.unmapped c.part = 0 →
        ∃ t, exec (.jobArm ring idx) s = .next t ∧ (t.part c.part).job.st = .armed ∧
          (t.part c.part).job.step = c.desc.extractLsb' 64 32 ∧
          (t.part c.part).job.launchDt = fld c.desc 96 64 ∧ t.hbm = s.hbm) ∧
      (c.startDt + 20000 ≤ fld c.desc 96 64 → s.unmapped c.part ≠ 0 →
        ∃ t, exec (.jobArm ring idx) s = .next t ∧ s.sameMem t ∧ (t.part c.part).job = (s.part c.part).job ∧
          Completes s t c csNoResource) ∧
      (fld c.desc 96 64 < c.startDt + 20000 →
        ∃ t, exec (.jobArm ring idx) s = .next t ∧ s.sameMem t ∧ (t.part c.part).job = (s.part c.part).job ∧
          Completes s t c csArgInvalid)) ∧
    (∀ ring idx c, s.cmdOf ring idx 0x03 = some c → s.unmapped c.part = 0 →
      ∃ t, exec (.jobStart ring idx) s = .next t ∧ (t.part c.part).job.st = .armed ∧ t.hbm = s.hbm ∧
        c.startDt + 20000 ≤ (t.part c.part).job.launchDt ∧ (t.part c.part).job.launchDt < c.startDt + 21000 ∧
        (t.part c.part).job.launchDt % 1000 = 0) ∧
    (∀ p, (s.part p).job.st = .armed → (s.part p).job.prep = true → s.bootDone p = true →
      let ns := max s.clk.sub ((s.part p).job.launchAt + 4 - s.clk.dt)
      let u := s.partTo p ns
      let due := ∀ site, some site ∈ (s.part p).sites → u.cclk site = true → (s.part p).job.launchAt ≤ u.clusterDt site
      (1000 - s.clk.dt % 1000 ≤ ns ∨ ¬ due → exec (.launch p) s = .next s) ∧
      (ns < 1000 - s.clk.dt % 1000 → due →
      ∃ t, exec (.launch p) s = .next t ∧ s.sameMem t ∧ (t.part p).job.st = .running ∧
        (t.part p).job.actualDt = (s.part p).job.launchAt ∧
        ∀ site k, some site ∈ (s.part p).sites → k < 16 →
          (t.cur (16 * site + k)).phase = .running ∧ (t.cur (16 * site + k)).s 1 = (s.part p).job.step ∧
          (t.cur (16 * site + k)).lsp = (s.cur (16 * site + k)).lsp ∧ (t.cur (16 * site + k)).cyc = 0)) ∧
    (∀ p r i c, (s.part p).job.st = .running → (∀ k ∈ s.partCores p, (s.cur k).quiet = true) →
      (∀ y ∈ s.copies, y.part ≠ p) → (s.part p).job.armCmd = some (r, i) → s.cmd r i = some c →
      ∃ t, exec (.stepEnd p) s = .next t ∧ s.sameMem t ∧ (t.part p).job.st = .stepPending ∧
        Completes s t c (if (s.partCores p).any (fun k => (s.cur k).ovf) then csOverflow else csOk)) ∧
    (∀ ring idx c, s.cmdOf ring idx 0x05 = some c →
      (s.part c.part).job.st = .armed ∨ (s.part c.part).job.st = .running →
      ∃ t, exec (.jobHalt ring idx) s = .next t ∧ s.sameMem t ∧ (t.part c.part).job.st = .halted ∧
        (t.part c.part).job.reason = 4 ∧ Completes s t c csOk) ∧
    (∀ ring idx c, s.cmdOf ring idx 0x06 = some c →
      ((s.part c.part).digests ≠ [] ∨ (∃ y ∈ s.cmds, y.part = c.part ∧ fld y.desc 0 8 = 0x30) →
        exec (.jobRelease ring idx) s = .next s) ∧
      ((s.part c.part).digests = [] → (∀ y ∈ s.cmds, y.part = c.part → fld y.desc 0 8 ≠ 0x30) →
      ∃ t, exec (.jobRelease ring idx) s = .next t ∧ s.sameMem t ∧ (t.part c.part).job.st = .released ∧
        (∀ e ∈ t.upd, e.part ≠ c.part) ∧ Completes s t c csOk))

/-- COPY moves whole granules between host memory and HBM: to HBM it reads the data, at most 4,096
bytes a read, and writes them once the card has returned them all; from HBM a poisoned granule
leaves as zeros; WINDOW_OPEN takes the lowest free handle, WINDOW_CLOSE drops what arrives from then
on and completes once the window is idle; remote references are entered behind a path and cleared; a
load hint is recorded as its command's start has placed it, against the step that is armed or runs
then; a farrier grant lends clusters until it ends, and they come back zeroed
(R235, R236, R240, R326 to R328, R330, R473, R531). -/
def Obligations.JobDataCommandsComplete : Prop :=
  ∀ (s : State), s.wf = true →
    (∀ ring idx c, s.cmdOf ring idx 0x10 = some c → c.desc.getLsbD 96 = false →
      let n := 64 * (fld c.desc 64 32 + 1)
      let qs := s.copyData ring idx
      (qs = [] → s.hostUp = true → ∃ t l, exec (.hostCopyToHbm ring idx false) s = .next t ∧ s.sameMem t ∧
        t.cmds = s.cmds ∧ t.hrd.reqs = s.hrd.reqs ++ l ∧ (l.map (·.bytes)).sum = n ∧
        ∀ q ∈ l, q.copy = true ∧ q.ring = ring ∧ q.idx = idx ∧ q.bytes ≤ 4096 ∧ q.data = none) ∧
      (qs ≠ [] → (∀ q ∈ qs, q.data ≠ none) →
        ∃ t, exec (.hostCopyToHbm ring idx true) s = .next t ∧ t.cmem = s.cmem ∧ t.cores = s.cores ∧ Completes s t c csOk ∧
          ∀ k, (∀ i < n / 32, k < (s.part c.part).hbmAt (fld c.desc 192 64 + 32 * i) ∨
            (s.part c.part).hbmAt (fld c.desc 192 64 + 32 * i) + 32 ≤ k) → mget zB t.hbm k = mget zB s.hbm k)) ∧
    (∀ ring idx c, s.cmdOf ring idx 0x10 = some c → c.desc.getLsbD 96 = true →
      ∃ t, exec (.hostCopyFromHbm ring idx) s = .next t ∧ s.sameMem t ∧ Completes s t c csOk ∧
        (s.dieCutOff (linkDie s.hostPort) = false → ∀ g ≤ fld c.desc 64 32,
          let lo := s.unitRead (s.part c.part) 2 (fld c.desc 192 64 + 64 * g) 0
          let hi := s.unitRead (s.part c.part) 2 (fld c.desc 192 64 + 64 * g) 1
          .hwr (fld c.desc 128 64 + 64 * g) (if lo.2 || hi.2 then 0 else lo.1 + 2 ^ 256 * hi.1) 64 ∈ t.hostTx)) ∧
    (∀ ring idx c, s.cmdOf ring idx 0x11 = some c → c.desc.getLsbD 64 = false →
      (∀ h, s.freeHandle = some h → ∃ t w, exec (.windowOpen ring idx) s = .next t ∧ s.sameMem t ∧
        t.windows = mset (fun _ => none) s.windows h (some w) ∧ w.part = c.part ∧ w.base = fld c.desc 160 64 ∧
        w.size = fld c.desc 224 56 ∧ w.key = c.desc.extractLsb' 96 64 ∧ w.peer = c.desc.extractLsb' 80 16 ∧
        w.rights = c.desc.extractLsb' 68 3 ∧ w.closing = none ∧ Completes s t c csOk) ∧
      (s.freeHandle = none → ∃ t, exec (.windowOpen ring idx) s = .next t ∧ t.windows = s.windows ∧
        Completes s t c csNoResource)) ∧
    (∀ ring idx c, s.cmdOf ring idx 0x11 = some c → c.desc.getLsbD 64 = true →
      (s.hasPath (fld c.desc 80 16) = true → ∃ t, exec (.remoteReferenceEnter ring idx) s = .next t ∧ s.sameMem t ∧
        (t.part c.part).refs = mset (fun _ => none) (s.part c.part).refs (fld c.desc 71 8)
          (some ⟨c.desc.extractLsb' 80 16, fld c.desc 280 12, c.desc.extractLsb' 96 64⟩) ∧ Completes s t c csOk) ∧
      (s.hasPath (fld c.desc 80 16) = false → ∃ t, exec (.remoteReferenceEnter ring idx) s = .next t ∧
        t.parts = s.parts ∧ Completes s t c csLinkDown)) ∧
    (∀ ring idx c w, s.cmdOf ring idx 0x12 = some c → c.desc.getLsbD 64 = false →
      s.window (fld c.desc 65 12) = some w → w.part = c.part → w.closing = none →
      exec (.windowClose ring idx) s =
        .next ((s.setWindow (fld c.desc 65 12) (some { w with closing := some (ring, idx) })).actCmd c)) ∧
    (∀ h w r i c, s.window h = some w → w.closing = some (r, i) → s.cmd r i = some c →
      ∃ t, exec (.windowCloseComplete h) s = .next t ∧ s.sameMem t ∧
        t.windows = mset (fun _ => none) s.windows h none ∧ Completes s t c csOk) ∧
    (∀ ring idx c, s.cmdOf ring idx 0x12 = some c → c.desc.getLsbD 64 = true →
      ∃ t, exec (.remoteReferenceClear ring idx) s = .next t ∧ s.sameMem t ∧
        (t.part c.part).refs = mset (fun _ => none) (s.part c.part).refs (fld c.desc 77 8) none ∧
        Completes s t c csOk) ∧
    (∀ ring idx c, s.cmdOf ring idx 0x20 = some c →
      ∃ t, exec (.hintLoad ring idx) s = .next t ∧ s.sameMem t ∧ t.hints = s.hints ++ c.hint.toList ∧
        Completes s t c csOk) ∧
    (∀ p (d : BitVec 512), fld d 0 8 = 0x20 → ∃ h, s.hintOf p d = some h ∧ h.part = p ∧ h.cls = fld d 64 2 ∧
      h.offsetUs = fld d 96 32 ∧ h.durUs = fld d 128 32 ∧ h.active = false ∧
      ((s.part p).job.st = .armed → h.start = some ((s.part p).job.launchDt + 1000 * fld d 96 32)) ∧
      ((s.part p).job.st = .running → h.start = some ((s.part p).job.actualDt + 1000 * fld d 96 32)) ∧
      ((s.part p).job.st ≠ .armed → (s.part p).job.st ≠ .running → h.start = none)) ∧
    (∀ ring idx c, s.cmdOf ring idx 0x31 = some c →
      ∃ t g, exec (.farrierGrant ring idx) s = .next t ∧ s.sameMem t ∧ (t.part c.part).grant = some g ∧
        g.endDt = s.clk.dt + 1000 * fld c.desc 64 32 ∧ g.maxCl = fld c.desc 96 10) ∧
    (∀ p g c, (s.part p).grant = some g → g.endDt ≤ s.clk.dt → s.cmd g.ring g.idx = some c →
      ∃ t, exec (.farrierGrantEnd p) s = .next t ∧ t.hbm = s.hbm ∧ (t.part p).grant = none ∧
        (∀ site, some site ∈ (s.part p).sites → (t.cl site).lent = false) ∧ Completes s t c csOk)

/-! ### The mesh -/

/-- A head with a reserved code, or more than 1,000 µs old, is discarded and counted; one at its
destination arrives; any other goes to the port that the active tables name, waiting there while the
link carries nothing, or is answered or discarded where they read UNREACH; a head that has waited
moves to the escape channel, at its destination that of the cluster port's queue. A flit that passes
its check frees its entry, one that is not the oldest of its queue changes nothing; a bad one is counted as a
replay, and the fourth failure of one flit, or the seventeenth replay in 1 ms, fences the crossing;
a fenced crossing that passes its wire test joins at the next table switch and not before. The
routers switch to tables over the present graph, one epoch on, while a yardmaster is in office; a
router fault and an aisle's return change the present graph and not the tables (R352 to R372). -/
def Obligations.MeshRoutesHeads : Prop :=
  ∀ (s : State), s.wf = true →
    (∀ site (tag : BitVec 64) reqHi n, s.routerStopped site = true →
      exec (.routerHeadArrival site ⟨tag, reqHi⟩ n) s = .next s ∧ exec (.escapeMove site ⟨tag, reqHi⟩) s = .next s) ∧
    (∀ site (tag : BitVec 64) reqHi n, s.routerTakes site →
      let r := sitePos site
      let a := s.mesh.active
      let esc := tag.getLsbD 28
      let dn := tag.getLsbD 46
      (tagBad tag = true → exec (.routerHeadArrival site ⟨tag, reqHi⟩ n) s =
        .next ((s.odAdd odMeshMalformedCount 1).setHop .discard)) ∧
      (tagBad tag = false → s.tagAged tag = true → exec (.routerHeadArrival site ⟨tag, reqHi⟩ n) s =
        .next ((s.odAdd odMeshAgedDropCount 1).setHop .discard)) ∧
      (tagBad tag = false → s.tagAged tag = false → s.headOk r tag reqHi n = false →
        exec (.routerHeadArrival site ⟨tag, reqHi⟩ n) s = .next s) ∧
      (tagBad tag = false → s.tagAged tag = false → s.headOk r tag reqHi n = true →
        (tagDst tag = r → fld tag 29 2 ≠ 1 ∨ fld tag 10 3 = 1 ∨ (s.cl site).port = .opened ∨ (s.cl site).port = .hold →
          ∃ t, exec (.routerHeadArrival site ⟨tag, reqHi⟩ n) s = .next t ∧ s.sameMem t ∧ t.mesh.hop = some .here ∧
            t.dict = s.dict) ∧
        (tagDst tag ≠ r → ∀ k dn',
          (esc = false ∧ a.primary r (tagDst tag) = some k ∧ dn' = dn) ∨
            (esc = true ∧ a.escape r (tagDst tag) dn = some (k, dn')) →
          ∃ t m, exec (.routerHeadArrival site ⟨tag, reqHi⟩ n) s = .next t ∧ s.sameMem t ∧ t.dict = s.dict ∧
            t.mesh.hop = some (.go k esc dn') ∧ a.hopTo r k = some m ∧
            (s.linkOpen r k = false →
              ⟨r, k, tagEsc tag esc dn', reqHi, tagFlits tag, false, decide (0 < n)⟩ ∈ t.mesh.waits)) ∧
        (tagDst tag ≠ r → (esc = false ∧ a.primary r (tagDst tag) = none) ∨
            (esc = true ∧ a.escape r (tagDst tag) dn = none) →
          let ctl := fld tag 29 2 = 0 ∧ fld tag 10 3 = 1 ∧ isController (tagDst tag) = true
          ∃ t, exec (.routerHeadArrival site ⟨tag, reqHi⟩ n) s = .next t ∧ s.sameMem t ∧
            (ctl → 0 < n → t.mesh.hop = some .answerPoison ∧ t.dict = s.dict) ∧
            (ctl → n = 0 → t.mesh.hop = some .answerDone ∧
              t.od odHbmFencedDropCount = (s.od odHbmFencedDropCount + 1) % 2 ^ 64) ∧
            (¬ ctl → t.mesh.hop = some .discard ∧
              t.od odMeshUnreachDropCount = (s.od odMeshUnreachDropCount + 1) % 2 ^ 64)))) ∧
    (∀ site (tag : BitVec 64) reqHi k j dn, s.routerTakes site → tagBad tag = false → tag.getLsbD 28 = false →
      let r := sitePos site
      tagDst tag ≠ r → s.mesh.active.primary r (tagDst tag) = some k →
      s.mesh.active.escape r (tagDst tag) false = some (j, dn) →
      (s.linkOpen r k = false ∨ (leavesBay r k = true ∧ ∀ w ∈ s.mesh.waits, waitsAt r tag reqHi w = false) →
        exec (.escapeMove site ⟨tag, reqHi⟩) s = .next s) ∧
      (s.linkOpen r k = true → leavesBay r k = false ∨ (∃ w ∈ s.mesh.waits, waitsAt r tag reqHi w = true) →
        ∃ t, exec (.escapeMove site ⟨tag, reqHi⟩) s = .next t ∧ s.sameMem t ∧ t.mesh.hop = some (.go j true dn) ∧
          (∀ w ∈ t.mesh.waits, waitsAt r tag reqHi w = false) ∧
          t.od odMeshEscapeCount = (s.od odMeshEscapeCount + 1) % 2 ^ 64)) ∧
    (∀ site (tag : BitVec 64) reqHi, s.routerTakes site → tagBad tag = false → tag.getLsbD 28 = false →
      let r := sitePos site
      tagDst tag = r →
      ((∀ w ∈ s.mesh.waits, waitsAt r tag reqHi w = false) → exec (.escapeMove site ⟨tag, reqHi⟩) s = .next s) ∧
      ((∃ w ∈ s.mesh.waits, waitsAt r tag reqHi w = true) →
        ∃ t, exec (.escapeMove site ⟨tag, reqHi⟩) s = .next t ∧ s.sameMem t ∧ t.mesh.hop = some .here ∧
          (∀ w ∈ t.mesh.waits, waitsAt r tag reqHi w = false) ∧
          t.od odMeshEscapeCount = (s.od odMeshEscapeCount + 1) % 2 ^ 64)) ∧
    (∀ bay side link f, s.routerStopped (posSite (crossPos bay side link)) = true →
      exec (.crossingFlitReceive bay side link f) s = .next s) ∧
    (∀ bay side link plane payload tag ctl f fs, crossingOk bay side link = true → plane < 2 →
      s.crossFenced bay side link = false → s.routerStopped (posSite (crossPos bay side link)) = false →
      let o := (baySide bay side).getD bay
      let far := (side + 2) % 4
      (s.crossQ o far link plane).flits = f :: fs →
      let fence := 4 ≤ f.fails + 1 ∨ 16 < s.recentReplays (crossName bay side link) + 1
      let same := f.tag = tag ∧ f.reqHi = ctl.extractLsb' 32 20 ∧ f.flow = ctl.extractLsb' 52 7 ∧ ctl.extractLsb' 59 5 = 0
      (flitCheck payload tag ctl = ctl.extractLsb' 0 32 → ¬ same →
        exec (.crossingFlitReceive bay side link ⟨plane, payload, tag, ctl⟩) s = .next s) ∧
      (flitCheck payload tag ctl = ctl.extractLsb' 0 32 → same →
        exec (.crossingFlitReceive bay side link ⟨plane, payload, tag, ctl⟩) s =
          .next ((s.modCrossQ o far link plane FlitQueue.pop).serveCross (crossPos o far link) far plane)) ∧
      (flitCheck payload tag ctl ≠ ctl.extractLsb' 0 32 →
        ∃ t, exec (.crossingFlitReceive bay side link ⟨plane, payload, tag, ctl⟩) s = .next t ∧ s.sameMem t ∧
          t.od odCrossingReplayCount = (s.od odCrossingReplayCount + 1) % 2 ^ 64 ∧
          (fence → t.crossFenced bay side link = true) ∧
          (¬ fence → t.fencedNow = s.fencedNow ∧
            (t.crossQ o far link plane).flits = { f with fails := f.fails + 1 } :: fs))) ∧
    (∀ bay side link bad, crossingOk bay side link = true →
      let x := crossName bay side link
      (s.crossFenced bay side link = false ∨ s.crossTested x = false ∨ x ∈ s.mesh.joining ∨
        s.unitHard (unCrossing x.1 x.2.1 x.2.2) = true → exec (.crossingRejoin bay side link bad) s = .next s) ∧
      (s.crossFenced bay side link = true → s.crossTested x = true →
        s.unitHard (unCrossing x.1 x.2.1 x.2.2) = false → x ∉ s.mesh.joining →
        ∃ t, exec (.crossingRejoin bay side link bad) s = .next t ∧ s.sameMem t ∧ t.crossFenced bay side link = true ∧
          t.mesh.joining = (if wiresOk (s.setWires x bad).mesh.wires x = true then s.mesh.joining ++ [x]
            else s.mesh.joining))) ∧
    (s.graphChange = none ∨ s.yardActs = false → exec .routeTableSwitch s = .next s) ∧
    (s.graphChange.isSome = true → s.yardActs = true →
      ∃ t, exec .routeTableSwitch s = .next t ∧ s.sameMem t ∧ t.mesh.shadow = s.mesh.active ∧
        t.mesh.active = ⟨s.downNow, s.faultyNow, t.fencedNow⟩ ∧ t.mesh.joining = [] ∧
        (s.mesh.joining = [] → t.fencedNow = s.fencedNow) ∧
        (∀ b sd l, crossingOk b sd l = true → (b, sd, l) ∈ s.mesh.joining → sd = 1 ∨ sd = 2 →
          t.crossFenced b sd l = false) ∧
        t.od odMeshRouteEpoch = (s.od odMeshRouteEpoch + 1) % 2 ^ 32) ∧
    (∀ bay passed bad, (s.bay bay).aisleDown = false ∨ passed = false →
      exec (.aisleRejoin bay ⟨passed, bad⟩) s = .next s) ∧
    (∀ bay bad, bay < 16 → (s.bay bay).aisleDown = true →
      ∃ t, exec (.aisleRejoin bay ⟨true, bad⟩) s = .next t ∧ s.sameMem t ∧ (t.bay bay).aisleDown = false ∧
        (t.groom bay).down = false ∧ t.odBit odAislesDown bay = false ∧ t.mesh.active = s.mesh.active) ∧
    (∀ site, s.routerStopped site = true → exec (.routerFault site) s = .next s) ∧
    (∀ site, s.routerTakes site →
      ∃ t, exec (.routerFault site) s = .next t ∧ t.hbm = s.hbm ∧ (t.cl site).routerFaulty = true ∧
        (t.cl site).fenced = true ∧ (t.cl site).power = .off ∧ t.mesh.active = s.mesh.active ∧
        t.odBit (odAt odRoutersFaulty (site / 36)) (site % 36) = true)

/-- An open cluster port takes a request, one that changes memory once only; one on hold or of a
parked cluster draws RETRY, the second waking the cluster; a port in reset or dark discards it and
counts it. The source waits 1 µs and then twice as long each time, up to 64 µs; a request unanswered
for 1,000 µs is sent again three times, and then costs its job the step (R363, R364, R368, R369). -/
def Obligations.ClusterPortsAnswerRequests : Prop :=
  ∀ (s : State), s.wf = true →
    (∀ site (tag : BitVec 64) reqHi changes,
      let x := s.cl site
      let src := tagPort tag
      let num := tagNum tag reqHi
      let mine := tagBad tag = false ∧ fld tag 29 2 = 0 ∧ fld tag 10 3 = 0 ∧ tagDst tag = sitePos site
      (¬ mine ∨ s.routerStopped site = true → exec (.clusterPortRequest site ⟨tag, reqHi, changes⟩) s = .next s) ∧
      (mine → s.routerTakes site →
        (x.port = .opened → changes = true → s.isDup (endPort site) src num = true →
          exec (.clusterPortRequest site ⟨tag, reqHi, changes⟩) s = .next (s.odAdd odMeshDuplicateCount 1)) ∧
        (x.port = .opened → changes = false ∨ s.isDup (endPort site) src num = false →
          ∃ t, exec (.clusterPortRequest site ⟨tag, reqHi, changes⟩) s = .next t ∧ s.sameMem t ∧ t.dict = s.dict ∧
            t = (if changes = true then s.keepReq (endPort site) src num 0 else s).waitPort site 4 tag reqHi ∧
            t.mesh.reqs = s.mesh.reqs ∧ (changes = true → t.isDup (endPort site) src num = true)) ∧
        (x.port = .hold ∨ x.port = .park →
          ∃ t, exec (.clusterPortRequest site ⟨tag, reqHi, changes⟩) s = .next t ∧ s.sameMem t ∧
            t.od odMeshRetryCount = (s.od odMeshRetryCount + 1) % 2 ^ 64 ∧
            (x.port = .park → (t.cl site).waking = true) ∧
            (∀ q ∈ s.mesh.reqs, q.src = src → q.num = num →
              { q with retryUs := if q.retryUs = 0 then 1 else min 64 (2 * q.retryUs)
                       retryWait := true, sentDt := s.clk.dt } ∈ t.mesh.reqs) ∧
            (∀ q ∈ s.mesh.reqs, ¬ (q.src = src ∧ q.num = num) → q ∈ t.mesh.reqs)) ∧
        (x.port = .reset → exec (.clusterPortRequest site ⟨tag, reqHi, changes⟩) s =
          .next (s.odAdd odMeshResetDropCount 1)) ∧
        (x.port = .dark → exec (.clusterPortRequest site ⟨tag, reqHi, changes⟩) s =
          .next (s.odAdd odMeshDarkDropCount 1)))) ∧
    (∀ src (num : BitVec 32),
      (∃ t, exec (.retryResend ⟨src, num⟩) s = .next t ∧ t.dict = s.dict ∧ s.sameMem t ∧ ∀ q ∈ s.mesh.reqs,
        (q.src = src → q.num = num → q.retryWait = true → q.sentDt + 1000 * q.retryUs ≤ s.clk.dt →
          { q with retryWait := false, sentDt := s.clk.dt } ∈ t.mesh.reqs) ∧
        (¬ (q.src = src ∧ q.num = num) ∨ q.retryWait = false ∨ s.clk.dt < q.sentDt + 1000 * q.retryUs →
          q ∈ t.mesh.reqs)) ∧
      (s.reqOf src num = none → exec (.meshRequestTimeout ⟨src, num⟩) s = .next s) ∧
      (∀ q, s.reqOf src num = some q →
        (q.retryWait = true ∨ s.clk.dt < q.sentDt + 1000000 → exec (.meshRequestTimeout ⟨src, num⟩) s = .next s) ∧
        (q.retryWait = false → q.sentDt + 1000000 ≤ s.clk.dt →
          (q.resends < 3 → ∃ t, exec (.meshRequestTimeout ⟨src, num⟩) s = .next t ∧ s.sameMem t ∧
            { q with resends := q.resends + 1, sentDt := s.clk.dt } ∈ t.mesh.reqs ∧
            t.od odMeshResendCount = (s.od odMeshResendCount + 1) % 2 ^ 64) ∧
          (3 ≤ q.resends → ∃ t, exec (.meshRequestTimeout ⟨src, num⟩) s = .next t ∧ s.sameMem t ∧
            (∀ y ∈ t.mesh.reqs, ¬ (y.src = src ∧ y.num = num)) ∧ s.losesStep t q.part rsBayPower))))

/-! ### Clocks and device time -/

/-- The references that are good and REFCLK_SELECT give the one in use, or the holdover, which also
holds while no yardmaster is in office (R377, R378, R380); BEAT_SPREAD takes effect with the next
time word; a node that drops out is marked, and takes FABRIC_LOCK with it where a node is left free;
a cluster whose oscillator fails is fenced; the DT master steps to fabric time when it is asked to
and no job is on its way, and FABRIC_LOCK follows the offset; 50 ms without a time message withdraw
FABRIC_LOCK and the time path (R376 to R385, R402 to R404, R465). -/
def Obligations.ReferencesAndFabricTime : Prop :=
  ∀ (s : State), s.wf = true →
    (∃ t, exec (.referenceLost false) s = .next t ∧ s.sameMem t ∧ t.clk.goodA = false ∧ t.clk.goodB = s.clk.goodB ∧
      s.follows t.clk (s.od odRefclkSelect)) ∧
    (∃ t, exec (.referenceLost true) s = .next t ∧ s.sameMem t ∧ t.clk.goodA = s.clk.goodA ∧ t.clk.goodB = false ∧
      s.follows t.clk (s.od odRefclkSelect)) ∧
    (∃ t, exec (.referenceGood false) s = .next t ∧ s.sameMem t ∧ t.clk.goodA = true ∧ t.clk.goodB = s.clk.goodB ∧
      s.follows t.clk (s.od odRefclkSelect)) ∧
    (∃ t, exec (.referenceGood true) s = .next t ∧ s.sameMem t ∧ t.clk.goodA = s.clk.goodA ∧ t.clk.goodB = true ∧
      s.follows t.clk (s.od odRefclkSelect)) ∧
    (∀ route (v : BitVec 8), s.mayWrite route odRefclkSelect →
      (v.toNat ≤ 2 → ∃ t, exec (.refclkSelectWrite route v) s = .next t ∧ s.sameMem t ∧
        t.od odRefclkSelect = v.toNat ∧ s.follows t.clk v.toNat) ∧
      (2 < v.toNat → ∃ t, exec (.refclkSelectWrite route v) s = .next t ∧ s.sameOd t ∧ t.clk = s.clk)) ∧
    (∀ route (v : BitVec 8), s.mayWrite route odBeatSpread →
      (v.toNat ≤ 4 → ∃ t, exec (.beatSpreadWrite route v) s = .next t ∧ s.sameMem t ∧ t.od odBeatSpread = v.toNat ∧
        t.clk = { s.clk with spreadNext := v.toNat }) ∧
      (4 < v.toNat → ∃ t, exec (.beatSpreadWrite route v) s = .next t ∧ s.sameOd t ∧ t.clk = s.clk)) ∧
    (∀ node, node < 20 → s.odBit odBeatNodesDown node = false →
      ∃ t, exec (.beatNodeLost node) s = .next t ∧ s.sameMem t ∧ t.odBit odBeatNodesDown node = true ∧
        (t.freeNode = true → t.od odFabricLock = 0)) ∧
    (∀ site, site < 576 → (s.cl site).fenced = false → (s.cl site).power ≠ .off →
      ∃ t, exec (.clusterClockFault site) s = .next t ∧ t.hbm = s.hbm ∧ (t.cl site).fenced = true ∧
        (t.cl site).power = .off ∧ (t.cl site).port = .dark) ∧
    (∀ route (v : BitVec 8), s.mayWrite route odDtStepReq →
      (v.toNat ≤ 1 → ∃ t, exec (.dtStepReq route v) s = .next t ∧ s.sameMem t ∧ t.od odDtStepReq = v.toNat ∧
        t.clk = s.clk) ∧
      (1 < v.toNat → ∃ t, exec (.dtStepReq route v) s = .next t ∧ s.sameOd t ∧ t.clk = s.clk)) ∧
    (s.od odDtStepReq = 1 → s.fabric.lastTimeDt.isSome = true →
      ((∀ p < 32, (s.part p).job.st ≠ .armed ∧ (s.part p).job.st ≠ .running) →
        ∃ t, exec .dtMasterStep s = .next t ∧ s.sameMem t ∧ t.od odDtStepReq = 0 ∧ t.od odFabricOffset = 0 ∧
          t.clk.fabricErr = 0 ∧ (s.od odTimeDepth ≤ 10 ∧ s.freeNode = false ↔ t.od odFabricLock ≠ 0) ∧
          2 ^ 16 * t.clk.dt + t.clk.dtFrac =
            (((2 ^ 16 * s.clk.dt + s.clk.dtFrac : Nat) : Int) - s.clk.fabricErr).toNat % 2 ^ 80) ∧
      ((∃ p < 32, (s.part p).job.st = .armed ∨ (s.part p).job.st = .running) → exec .dtMasterStep s = .next s)) ∧
    (∀ t0, s.fabric.lastTimeDt = some t0 →
      (s.clk.dt < t0 + 50000000 → exec .fabricTimeSilence s = .next s) ∧
      (t0 + 50000000 ≤ s.clk.dt → ∃ t, exec .fabricTimeSilence s = .next t ∧ s.sameMem t ∧ t.od odFabricLock = 0 ∧
        t.od odTimeDepth = 0xFF ∧ t.fabric.lastTimeDt = none))

/-- A change of operating point begins toward the slowest point asked for, unless a launch or a hint
holds it back, and ends at that point with the clock unstretched, an upward one once the bay rail has
its setpoint; what has arrived in its stop takes effect then; a stretch level rises to what is asked
and falls by one after 8 cycles of its own; a stopped counter goes on when time has reached it; a
long S3 asks for one point less for 100 ms. A running site counts its
cycles, of the length that point, stretch and spread give. A time word moves device time to the next
multiple of 1,000 ns; a good one gives BEAT_SPREAD and locks the counters of clusters with a clock
to it, which a farrier run and a stopped clock leave, a bad one is counted, and an unaltered one is
good; the DT master slews toward fabric time by at most 100 ppm (R385 to R399, R402, R411, R415; that
device time moves at a time word only, and that a counter's error is that of the counter with the part
of the cycle under way, are this model's choices, log 2, log 111). -/
def Obligations.PointsStretchAndTimeWords : Prop :=
  ∀ (s : State) (site : SiteId), s.wf = true →
    let x := s.cl site
    let d := s.desired site
    (x.power = .on → x.change = none → d ≠ x.point → s.launchHold site = false →
      (d < x.point → s.hintHolds site = false) →
      ∃ t, exec (.opPointChange site) s = .next t ∧ s.sameMem t ∧ t.cores = s.cores ∧
        (t.cl site).change = some (d, decide (d < x.point)) ∧ (t.cl site).point = x.point ∧
        (d < x.point → t.cl site = { x with change := some (d, true) }) ∧ (t.cl site).power = x.power ∧
        (t.cl site).port = x.port ∧ (t.cl site).owner = x.owner ∧ (t.cl site).stretch = x.stretch) ∧
    (x.power ≠ .on ∨ x.change.isSome = true ∨ d = x.point ∨ s.launchHold site = true ∨
      (d < x.point ∧ s.hintHolds site = true) → exec (.opPointChange site) s = .next s) ∧
    (x.change = none → exec (.opPointChangeComplete site) s = .next s) ∧
    (∀ p up, x.change = some (p, up) →
      let held := up = true ∧ s.od (odAt odBayRailSetpointMv (site / 36)) < s.railMv (site / 36)
      (held → exec (.opPointChangeComplete site) s = .next s) ∧
      (¬ held → ∃ t, exec (.opPointChangeComplete site) s = .next t ∧
        (t.cl site).point = p ∧ (t.cl site).stretch = 0 ∧ (t.cl site).counted = false ∧
        (t.cl site).kept = none ∧ t.od odOpChangeCount = (s.od odOpChangeCount + 1) % 2 ^ 64 ∧
        (x.kept = none → (t.cl site).change = none) ∧
        ((∀ a ∈ s.landing, a.1 ≠ site) → s.sameMem t ∧ t.cores = s.cores ∧ t.landing = s.landing) ∧
        (∀ c flag inc rest, s.landing = (site, .signal ⟨c, 16 * site, flag, inc, ⟨0, 0⟩⟩) :: rest →
          (∀ a ∈ rest, a.1 ≠ site) → s.sameMem t ∧ t.landing = rest ∧ t.cores = (s.incFlag (16 * site) flag
            (BitVec.ofNat 32 inc)).cores))) ∧
    (∀ level, s.cclk site = true → level ≤ 3 → x.stretch < level → exec (.stretchRaise site level) s =
      .next ((s.runFree site).modCl site fun x => { x with stretch := level, levelCyc := 0 })) ∧
    (∀ level, s.cclk site = false ∨ 3 < level ∨ level ≤ x.stretch → exec (.stretchRaise site level) s = .next s) ∧
    (s.cclk site = true → 0 < x.stretch →
      let u := s.runFree site
      let n := u.levelNs site
      (n < u.leftNs ∨ n = 0 → exec (.stretchFall site) s =
        .next ((({ u with clk := { u.clk with sub := u.clk.sub + n } } : State).runTo site).modCl site fun x =>
          { x with stretch := x.stretch - 1, levelCyc := 0 })) ∧
      (u.leftNs ≤ n → n ≠ 0 → exec (.stretchFall site) s = .next s)) ∧
    (s.cclk site = false ∨ x.stretch = 0 → exec (.stretchFall site) s = .next s) ∧
    (s.cclk site = true → x.stretch = 3 → ∃ t, exec (.stretchPersistent site) s = .next t ∧ s.sameMem t ∧
      (t.cl site).persistReq = if x.point < 5 then some (x.point + 1, s.clk.dt + 100000000) else x.persistReq) ∧
    (s.cclk site = false ∨ x.stretch ≠ 3 → exec (.stretchPersistent site) s = .next s) ∧
    (∀ p e, x.persistReq = some (p, e) →
      (s.clk.dt < e → exec (.persistentStretchLapse site) s = .next s) ∧
      (e ≤ s.clk.dt → ∃ t, exec (.persistentStretchLapse site) s = .next t ∧ s.sameMem t ∧
        (t.cl site).persistReq = none)) ∧
    (∀ ns, s.cclk site = true → ∃ r : Int, r.natAbs ≤ 2 ^ 24 * ns / 2001 ∧ (s.runSite site ns).cl site =
      x.run (cycleLen x.point x.stretch s.clk.spread s.clk.spreadPhase) ns r s.clk.dt) ∧
    (∀ len ns r dt, x.counted = true → x.cntStop = true →
      let y := x.run len ns r dt
      (2 ^ 24 * (dt + x.ran + ns) < x.cnt → y.cnt = x.cnt ∧ y.cntStop = true) ∧
      (x.cnt ≤ 2 ^ 24 * (dt + x.ran + ns) → y.cntStop = false ∧ x.cnt ≤ y.cnt ∧
        y.cnt ≤ 2 ^ 24 * (dt + x.ran + ns))) ∧
    (s.clk.locked = false → ∀ flips, exec (.timeWord flips) s = .next s) ∧
    (s.clk.locked = true → ∀ flips,
      let dt := (s.clk.dt / 1000 + 1) * 1000
      let word := timeWord dt (dt * 2064384 / 1000000) s.clk.spreadNext s.clk.holdover (s.od odFabricLock == 1) ^^^ flips
      let c : Nat := 2 ^ 24 * fld word 0 64
      (flips = 0 → wordGood word = true ∧ fld word 0 64 = dt % 2 ^ 64 ∧ fld word 80 3 = s.clk.spreadNext % 8) ∧
      ∃ t, exec (.timeWord flips) s = .next t ∧ s.sameMem t ∧ t.cores = s.cores ∧ t.clk.dt = dt % 2 ^ 64 ∧
        (t.clk.fabricErr - s.clk.fabricErr).natAbs ≤ 6553 ∧ t.clk.fabricErr.natAbs ≤ s.clk.fabricErr.natAbs ∧
        t.clk.dtFrac = 0 ∧ t.clk.sub = 0 ∧
        (wordGood word = true → t.clk.spread = fld word 80 3) ∧
        (wordGood word = false → t.clk.spread = s.clk.spread ∧
          t.od odTimeWordErrorCount = (s.od odTimeWordErrorCount + 1) % 2 ^ 64) ∧
        (s.cclk site = false → (t.cl site).counted = false) ∧
        (s.cclk site = true → s.inRun site = true → (t.cl site).counted = false) ∧
        (s.cclk site = true → s.inRun site = false → wordGood word = true → x.counted = false →
          (t.cl site).counted = true ∧ (t.cl site).cnt = c - (t.cl site).cycRem) ∧
        (s.cclk site = true → s.inRun site = false → wordGood word = true → x.counted = true → x.cntStop = false →
          let e : Int := (c : Int) - ((t.cl site).cnt + (t.cl site).cycRem : Nat)
          ((t.cl site).cntStop = false ∧ e = 0) ∨
            ((t.cl site).cntStop = false ∧ (t.cl site).slew = e ∧ e.natAbs ≤ 20 * 2 ^ 24) ∨
            ((t.cl site).cntStop = true ∧ e < -(20 * 2 ^ 24))))

/-! ### Power and heat -/

/-- A converter fault is only logged; a failed slice is off for good, and six fence the cluster and
switch it off; an idle cluster is parked with its memories kept, and woken on request; the sequencer
checks, for 200 µs, waits and switches its eight stages, and a cluster that completes them is on at
its point with its memories initialised; the fast loop acts on the clusters with the highest current,
at most once in 2 µs, and releases one point in 100 µs; the slow loop reads the devices, of which a
converter group that fails three reads in a row has lost its rail, sets shares and limits within
18 kW, says whether a bay gets less than it asks for, and charges the jobs their energy; a hint's
window opens, unless it is over, and ends (R412 to R425, R436, R437, R439, R584; that of equal
currents the lower site comes first is the model's choice, log 112, as are the mean of log 113 and
the energy model of log 9). -/
def Obligations.PowerIsSequencedAndCapped : Prop :=
  ∀ (s : State), s.wf = true →
    (∀ a b, ∃ t, exec (.aisleConverterPoll a b) s = .next t ∧ s.sameMem t ∧ t.clusters = s.clusters ∧
      t.bays = s.bays ∧ t.parts = s.parts ∧ (s.up = false → t = s) ∧
      (a = some false → b = some false → t.log = s.log ∧ t.dict = s.dict) ∧
      (s.up = true → mget zN t.start.pmbMiss (pmbKey 1 0x50) =
        if a.isSome then 0 else min 3 (mget zN s.start.pmbMiss (pmbKey 1 0x50) + 1))) ∧
    (∀ site slice, site < 576 → slice < 24 → s.odBit (odSite odLdoSlicesFailed site) slice = false →
      s.fuseBad (unSlice site slice) = false →
      ∃ t, exec (.ldoSliceFailed site slice) s = .next t ∧ t.hbm = s.hbm ∧
        t.odBit (odSite odLdoSlicesFailed site) slice = true ∧
        (6 ≤ t.slicesOut site → (t.cl site).fenced = true ∧ (t.cl site).power = .off)) ∧
    (∀ site, let x := s.cl site
      (x.power = .on → x.owner.isSome = true → x.port = .opened → x.change = none → s.busySite site = false →
        x.idleSince + 1000 * s.od odParkIdleUs ≤ s.clk.dt →
        ∃ t, exec (.clusterPark site) s = .next t ∧ s.sameMem t ∧ t.cores = s.cores ∧ (t.cl site).power = .parked ∧
          (t.cl site).port = .park) ∧
      (s.clk.dt < x.idleSince + 1000 * s.od odParkIdleUs → exec (.clusterPark site) s = .next s) ∧
      (x.power = .parked → x.waking = true →
        ∃ t, exec (.clusterWake site) s = .next t ∧ (t.cl site).power = .on ∧
          (x.port = .park → (t.cl site).port = .opened) ∧
          ((∀ a ∈ s.landing, a.1 ≠ site) → s.sameMem t ∧ (s.inRun site = false → t.cores = s.cores))) ∧
      (x.waking = false → exec (.clusterWake site) s = .next s)) ∧
    (∀ bay mean q, bay < 16 → s.bayUp bay = true → (s.bay bay).nextSeq = some q →
      (s.bay bay).seq = none ∨ q.stage < 8 → ∃ t, exec (.powerOnStage bay mean) s = .next t ∧ s.sameMem t ∧
        t.dict = s.dict ∧
        (q.slow = true → (t.bay bay).seq = some { q with stage := q.stage + 1 }) ∧
        (q.slow = false → q.stage = 0 → s.hintDefers bay = true → q.hintDone = false → q.deferSince = none →
          (t.bay bay).seq = some { q with deferSince := some s.clk.dt }) ∧
        (q.slow = false → q.stage ≠ 0 ∨ s.hintDefers bay = false ∨ q.hintDone = true → 200000 ≤ q.failNs →
          (t.bay bay).seq = some q) ∧
        (q.slow = false → q.stage ≠ 0 ∨ s.hintDefers bay = false ∨ q.hintDone = true → q.deferSince = none →
          q.failNs < 200000 → (t.bay bay).seq = some (if mean + 24 ≤ s.od (odAt odBayCurrentLimitA bay) then { q with stage := q.stage + 1 }
            else { q with failNs := q.failNs + 250 }))) ∧
    (∀ bay q, (s.bay bay).seq = some q →
      (∀ l, q.failNs < 200000 → exec (.inrushSlowMode bay l) s = .next s) ∧
      (∀ l, 200000 ≤ q.failNs → q.slow = false → q.stage < 8 →
        ∃ t, exec (.inrushSlowMode bay l) s = .next t ∧ s.sameMem t ∧
          (t.bay bay).seq = some { q with slow := true } ∧ (t.bay bay).assist = (s.topSites bay l).take 4 ∧
          (∀ k ∈ (s.topSites bay l).take 4, (t.cl k).inrushReq = some ((s.cl k).point + 1)) ∧
          (t.bay bay).assistUntil = s.clk.dt + 32000 ∧
          t.od odInrushDeferredCount = (s.od odInrushDeferredCount + 1) % 2 ^ 64) ∧
      (∀ t0, q.deferSince = some t0 → s.hintDefers bay = false ∨ t0 + 10000000 ≤ s.clk.dt →
        exec (.hintDeferralEnd bay) s =
          .next (s.modBay bay fun x =>
            { x with seq := some { q with deferSince := none, hintDone := true, failNs := 0 } })) ∧
      (∀ t0, q.deferSince = some t0 → s.hintDefers bay = true → s.clk.dt < t0 + 10000000 →
        exec (.hintDeferralEnd bay) s = .next s)) ∧
    (∀ bay l, bay < 16 → (s.topSites bay l).Nodup ∧
      (∀ k, k ∈ s.topSites bay l ↔ k / 36 = bay ∧ (s.cl k).power = .on ∧ (s.cl k).point < 5) ∧
      (s.topSites bay l).Pairwise fun a b => currentOf l b < currentOf l a ∨ (currentOf l b = currentOf l a ∧ a < b)) ∧
    (∀ bay, let x := s.bay bay
      (s.clk.dt < x.assistUntil → exec (.inrushAssistEnd bay) s = .next s) ∧
      (x.assistUntil ≤ s.clk.dt → ∃ t, exec (.inrushAssistEnd bay) s = .next t ∧ s.sameMem t ∧ (t.bay bay).assist = [] ∧
        ∀ k ∈ x.assist, (t.cl k).inrushReq = none)) ∧
    (∀ site q, (s.bay (site / 36)).seq = some q → q.site = site →
      (q.stage < 8 → exec (.powerOnComplete site) s = .next s) ∧
      (8 ≤ q.stage → ∃ t, exec (.powerOnComplete site) s = .next t ∧ (t.bay (site / 36)).seq = none ∧
        (t.cl site).power = .on ∧ (t.cl site).point = s.desired site ∧
        (t.cl site).coreMap = (if (s.cl site).fenced then (s.cl site).coreMap else s.coreMapOf site) ∧
        (t.cl site).port = (if (s.cl site).fenced then .dark else .opened) ∧
        ((∀ a ∈ s.landing, a.1 ≠ site) → t.hbm = s.hbm ∧ ∀ a < 2 ^ 23, mget zB t.cmem (cmemKey site a) = 0))) ∧
    (∀ bay mean energy ask, bay < 16 → s.up = true → (s.groom bay).down = false →
      let old := (s.bay bay).means.filter fun x => decide (s.clk.dt < x.1 + 1000000) && x.1 != s.clk.dt
      ∃ t, exec (.fastLoopSample bay mean energy ask) s = .next t ∧ (t.bay bay).means = old ++ [(s.clk.dt, mean)] ∧
        t.od (odAt odBayCurrentA bay) = ((old.map (·.2)).sum + mean) / (old.length + 1) % 65536) ∧
    (∀ bay mean energy ask, bay < 16 → s.up = true → (s.groom bay).down = false →
      let lim := s.od (odAt odBayLimitEff bay)
      let en := 10 * s.od (odAt odBayShareW bay)
      (lim < mean ∨ en < energy →
        ((∀ t0, (s.bay bay).fastActAt = some t0 → t0 + 2000 ≤ s.clk.dt) →
          ∃ t, exec (.fastLoopSample bay mean energy ask) s = .next t ∧ s.sameMem t ∧
            t.od odFastLoopActionCount = (s.od odFastLoopActionCount + 1) % 2 ^ 64 ∧
            (t.bay bay).fastActAt = some s.clk.dt ∧
            (∀ k ∈ (s.topSites bay ask.currents).take ask.count,
              (t.cl k).fastReq = min 5 (max (s.cl k).fastReq (s.cl k).point + 1)) ∧
            ∀ k, k ∉ (s.topSites bay ask.currents).take ask.count → t.cl k = s.cl k) ∧
        (∀ t0, (s.bay bay).fastActAt = some t0 → s.clk.dt < t0 + 2000 →
          ∃ t, exec (.fastLoopSample bay mean energy ask) s = .next t ∧ t.clusters = s.clusters)) ∧
      (10 * mean < 9 * lim → 10 * energy < 9 * en → (s.bay bay).fastRelAt ≠ 0 →
        (s.bay bay).fastRelAt + 99999 ≤ s.clk.dt →
        ∃ t, exec (.fastLoopSample bay mean energy ask) s = .next t ∧ s.sameMem t ∧
          ∀ k, k / 36 = bay → (t.cl k).fastReq = (s.cl k).fastReq - 1) ∧
      (9 * lim ≤ 10 * mean → mean ≤ lim → energy ≤ en →
        ∃ t, exec (.fastLoopSample bay mean energy ask) s = .next t ∧ t.clusters = s.clusters ∧
          (t.bay bay).fastRelAt = 0)) ∧
    (∀ other shares limits power acts rest silent, s.up = true →
      let peak := (List.range 16).foldl
        (fun a b => a + limits.getD b 0 * s.od (odAt odBayRailSetpointMv b)) (1000 * other)
      let dyn := (acts.map fun a => activityEnergy a.2).sum + activityEnergy rest
      let leak := (s.clusters.map fun kv => kv.2.leak).sum
      (18000000 < peak ∨ s.yardActs = false →
        exec (.slowLoop ⟨other, silent⟩ shares limits power acts rest) s = .next s) ∧
      (peak ≤ 18000000 → s.yardActs = true →
        ∃ t, exec (.slowLoop ⟨other, silent⟩ shares limits power acts rest) s = .next t ∧ t.hbm = s.hbm ∧
        t.od odModulePowerW = power ∧ t.od odModuleEnergyMj = (s.od odModuleEnergyMj + 10 * power) % 2 ^ 64 ∧
        0x3F000000 ≤ t.od odEnergyCalFactor ∧ t.od odEnergyCalFactor ≤ 0x40000000 ∧
        t.od odCapLimiting = (if (List.range 16).any (fun b => decide (t.od (odAt odBayShareW b) < (shares.getD b (0, 0)).1)) then 1 else 0) ∧
        (∀ b < 16, (0, 0x40 + b) ∈ silent → s.pmbOff (pmbKey 0 (0x40 + b)) = true → (t.bay b).railLost = true) ∧
        ((∀ b < 16, (0, 0x40 + b) ∈ silent → s.pmbOff (pmbKey 0 (0x40 + b)) = false) →
          s.sameMem t ∧ (∀ k, t.cl k = { s.cl k with leak := 0 }) ∧
          (dyn ≠ 0 → t.od odEnergyCalFactor = calFactor (1000000000 * (10 * power) - leak) dyn) ∧
          (∀ p < 32, (s.part p).job.st ≠ .empty → (s.part p).job.st ≠ .released →
            (s.part p).job.loadDt ≤ s.clk.loopDt → (t.part p).job.energy = (s.part p).job.energy +
              (((acts.filter fun a => a.1 == p).map fun a => activityEnergy a.2).sum *
                calScale (s.od odEnergyCalFactor) / 2 ^ 24 + s.partLeak p)) ∧
          ∀ b < 16, t.od (odAt odBayLimitEff b) = min (s.od (odAt odBayCurrentLimitA b)) (limits.getD b 0) ∧
            (s.shareHeld b = false → t.od (odAt odBayShareW b) = slowShare (s.od odPowerCapW) other shares b) ∧
            (s.shareHeld b = true → s.od (odAt odBayShareW b) ≤ t.od (odAt odBayShareW b))))) ∧
    (∀ i h t0, s.hints[i]? = some h → h.start = some t0 →
      (h.active = false → s.clk.dt < t0 → exec (.hintWindowStart i) s = .next s) ∧
      (t0 + 1000 * h.durUs ≤ s.clk.dt → exec (.hintWindowStart i) s = .next s) ∧
      (h.active = false → t0 ≤ s.clk.dt → s.clk.dt < t0 + 1000 * h.durUs →
        ∃ t, exec (.hintWindowStart i) s = .next t ∧ s.sameMem t ∧
        t.hints = s.hints.set i { h with active := true }) ∧
      (h.active = true → s.clk.dt < t0 + 1000 * h.durUs → exec (.hintWindowEnd i) s = .next s) ∧
      (h.active = true → t0 + 1000 * h.durUs ≤ s.clk.dt → ∃ t, exec (.hintWindowEnd i) s = .next t ∧ s.sameMem t ∧
        t.hints = s.hints.eraseIdx i))

/-- A lost bay rail or aisle feed switches every cluster of its bay off and fences it, costs the partitions in it
their steps with BAY_POWER, and a feed takes the stacks of its aisle with it; BAY_REENABLE gives
back the rails of its mask that are steady. A reading of 100 °C slows a cluster, 105 °C pauses it
until 100 °C, 110 °C switches its bay off, and 120 °C of any sensor, or 105 °C of a stack, the module; a stack
from 85 °C on refreshes twice as often; a MIN_V record is written back to its start (R226, R230,
R426 to R435; that the steps of a module trip are lost with HEAT is this model's choice, log 16). -/
def Obligations.RailsFeedsAndHeatAct : Prop :=
  ∀ (s : State), s.wf = true →
    (∀ bay, bay < 16 → (s.bay bay).railLost = false →
      ∃ t, exec (.bayRailLost bay) s = .next t ∧ t.hbm = s.hbm ∧ (t.bay bay).railLost = true ∧
        t.odBit odBayRailLost bay = true ∧ (∀ k, k / 36 = bay → (t.cl k).power = .off ∧ (t.cl k).fenced = true) ∧
        ∀ p < 32, s.inBay p bay = true → s.losesStep t p rsBayPower) ∧
    (∀ route (mask steady : BitVec 16), s.mayWrite route odBayReenable →
      ∃ t, exec (.bayReenable route ⟨mask, steady⟩) s = .next t ∧ s.sameMem t ∧ t.clusters = s.clusters ∧
        ∀ b < 16, (t.bay b).railLost = ((s.bay b).railLost && !(mask.getLsbD b && steady.getLsbD b))) ∧
    (∀ bay, bay < 16 → (s.bay bay).aisleDown = false →
      ∃ t, exec (.aisleFeedLost bay) s = .next t ∧ t.hbm = s.hbm ∧ (t.bay bay).aisleDown = true ∧
        t.odBit odAislesDown bay = true ∧ (∀ k, k / 36 = bay → (t.cl k).power = .off ∧ (t.cl k).fenced = true) ∧
        (∀ k < 16, stackBay k = bay → s.fuse.fstacks.contains k = true → t.odBit odHbmStacksLost k = true) ∧
        ∀ p < 32, s.inBay p bay = true → s.losesStep t p rsBayPower) ∧
    (∀ site celsius, site < 576 → s.start.pwrgood = true →
      ∃ t, exec (.thermalSample .cluster site celsius) s = .next t ∧ ((∀ a ∈ s.landing, a.1 ≠ site) → t.hbm = s.hbm) ∧
        t.od (odSite odClusterTempC site) = wrapI 32 celsius ∧
        (120 ≤ celsius → t.thermTrip = true ∧ (s.thermTrip = false → (∀ k, (t.cl k).power = .off) ∧
          ∀ p < 32, s.losesStep t p rsHeat)) ∧
        (110 ≤ celsius → celsius < 120 → (t.bay (site / 36)).thermOff = true ∧
          ((s.bay (site / 36)).thermOff = false → (∀ k, k / 36 = site / 36 → (t.cl k).power = .off) ∧
            ∀ p < 32, s.inBay p (site / 36) = true → s.losesStep t p rsHeat)) ∧
        (105 ≤ celsius → celsius < 110 → (s.cl site).power = .on → (t.cl site).power = .paused ∧
          ((s.cl site).port = .opened → (t.cl site).port = .hold) ∧ t.cores = s.cores) ∧
        (100 ≤ celsius → celsius < 105 → (s.cl site).power = .on → (s.cl site).heatAt = 0 →
          (t.cl site).heatReq = min 5 (max (s.cl site).heatReq (s.cl site).point + 1)) ∧
        (celsius ≤ 100 → (s.cl site).power = .paused → (s.cl site).pauseAt.isSome = true →
          (t.cl site).power = .on ∧ (t.cl site).point = min 5 ((s.cl site).pausePoint + 1))) ∧
    (∀ bay celsius, bay < 16 → s.start.pwrgood = true →
      ∃ t, exec (.thermalSample .aisle bay celsius) s = .next t ∧ t.hbm = s.hbm ∧
        t.od (odAisleTempC + bay) = wrapI 32 celsius ∧ (120 ≤ celsius → t.thermTrip = true) ∧
        (110 ≤ celsius → celsius < 120 → (t.bay bay).thermOff = true)) ∧
    (∀ r ∈ [(Sensor.upc, 8, 0), (.linkDie, 4, 8)], ∀ k celsius, k < r.2.1 → s.start.pwrgood = true →
      ∃ t, exec (.thermalSample r.1 k celsius) s = .next t ∧ t.hbm = s.hbm ∧
        t.health.dieTemp = mset zN s.health.dieTemp (r.2.2 + k) (wrapI 32 celsius) ∧
        (120 ≤ celsius → t.thermTrip = true) ∧ (celsius < 120 → t.thermTrip = s.thermTrip ∧ t.clusters = s.clusters)) ∧
    (∀ site, let x := s.cl site
      (x.power = .on → x.heatReq ≠ 0 → x.liftAt ≠ 0 → x.liftAt + 9999999 ≤ s.clk.dt → s.siteTemp site ≤ 95 →
        ∃ t, exec (.thermalStepUp site) s = .next t ∧ s.sameMem t ∧ (t.cl site).heatReq = x.heatReq - 1) ∧
      (95 < s.siteTemp site → exec (.thermalStepUp site) s = .next s) ∧
      (∀ t0, x.power = .paused → x.pauseAt = some t0 →
        (s.clk.dt ≤ t0 + 50000000 → exec (.thermalSwitchOff site) s = .next s) ∧
        (t0 + 50000000 < s.clk.dt → ∃ t, exec (.thermalSwitchOff site) s = .next t ∧ t.hbm = s.hbm ∧
          (t.cl site).power = .off ∧ (t.cl site).fenced = true ∧
          t.od odThermOffCount = (s.od odThermOffCount + 1) % 2 ^ 64))) ∧
    (∀ stack celsius, stack < 16 → s.start.pwrgood = true →
      ∃ t, exec (.hbmTemperatureRead stack celsius) s = .next t ∧ t.hbm = s.hbm ∧
        t.od (odAt odStackTemperature stack) = wrapI 32 celsius ∧
        t.od (odAt odRefreshDoubled stack) =
          (if 85 ≤ celsius then 1 else if celsius < 80 then 0 else s.od (odAt odRefreshDoubled stack)) ∧
        (95 ≤ celsius → mget zF s.health.halved stack = false →
          t.health.halved = mset zF s.health.halved stack true) ∧
        (90 ≤ celsius → celsius < 95 ∨ mget zF s.health.halved stack = true → t.health.halved = s.health.halved) ∧
        (celsius < 90 → t.health.halved = mset zF s.health.halved stack false) ∧
        (105 ≤ celsius → t.thermTrip = true) ∧ (celsius < 105 → t.clusters = s.clusters)) ∧
    (∀ route index sub k, minVDtKey (odKey index sub) = some k → s.mayWrite route (odKey index sub) →
      ∃ t, exec (.minVReset route index sub) s = .next t ∧ s.sameMem t ∧ t.od (odKey index sub) = 0xFFFF ∧ t.od k = 0 ∧
        t.clusters = s.clusters) ∧
    (∀ route index sub, minVDtKey (odKey index sub) = none → exec (.minVReset route index sub) s = .next s)

/-! ### Links -/

/-- A good DATA flit of the next number is accepted, and its credit goes back; any other is rejected
with one NAK, and an uncorrectable codeword rejects its pair. The packet of a flit from SOP to EOP is
received unless its TYPE is reserved or an RSV field is not zero. A NAK, or 5 µs without progress,
replays what is unacknowledged, until a flit sent 8 times retrains the link; a retrain keeps the
replay buffer, and a failed one takes the link DOWN; a training brings an enabled link UP at the
width of its good lanes in service. A lane that loses its signal narrows the link at once; one with
too many corrected symbols does at the pair boundary that a CTRL flit names, and so does the wider
set once a lane passes its retest, unless its class or four failures in 24 h keep it out (R444 to
R455, R461, R495). That the credit goes back at once is the choice of log 30, where the pair header
has its count and its pattern the one of log 115. -/
def Obligations.LinksCarryFlits : Prop :=
  ∀ (s : State) (k : Nat), s.wf = true → k < 36 →
    let x := s.link k
    (s.linkUp k = false → ∀ find b l, exec (.fecPairReceive k find b l) s = .next s) ∧
    (s.linkUp k = true → ∀ (find : FecFind) b l, ∃ t, exec (.fecPairReceive k find b l) s = .next t ∧ s.sameMem t ∧
      let pair : BitVec 16 := find.header.extractLsb' 0 16
      let good := b = 0 ∧ fld find.header 16 24 = 0x5A3C96
      t.od (odAt odFecCorrectedCount k) = (s.od (odAt odFecCorrectedCount k) + find.corrected) % 2 ^ 64 ∧
      t.od (odAt odFecUncorrectableCount k) = (s.od (odAt odFecUncorrectableCount k) + b) % 2 ^ 64 ∧
      (¬ good → (t.link k).rxNext = x.rxNext ∧ (t.link k).nakSent = true ∧
        (x.nakSent = false → t.linkTx = s.linkTx ++ [⟨some k, false, none, .nak ((x.rxNext + 4095) % 4096),
          [flitWord { zeroFlit with ack := (x.rxNext + 4095) % 4096, nak := true }]⟩])) ∧
      (∀ p, good → x.swap = some p →
        ((pair - p).toNat < 32768 → (t.link k).swap = none ∧
          t.od (odAt odPortWidth k) = linkWidth k (s.od (odAt odLanesGood k))) ∧
        (32768 ≤ (pair - p).toNat → t.od (odAt odPortWidth k) = s.od (odAt odPortWidth k))) ∧
      (∀ w, good → l = [w] →
        let f := flitOf w
        (flitBad f = false → f.fk = 1 → f.seq = x.rxNext →
          (t.link k).rxNext = (x.rxNext + 1) % 4096 ∧ (t.link k).nakSent = false ∧
          (⟨some k, false, none, .credit f.vc f.dl 1,
            [flitWord { zeroFlit with ack := x.rxNext, cvc := f.vc, cdl := f.dl, ccnt := 1 }]⟩ : LinkTx) ∈ t.linkTx ∧
          (f.sop = true → f.eop = true →
            let data := f.data.take (f.vlen + 1)
            (headerOk (BitVec.ofNat 384 (ofLe (data.take 48))) = true → t.linkRx = s.linkRx ++ [(k, f.vc, f.dl, data)]) ∧
            (headerOk (BitVec.ofNat 384 (ofLe (data.take 48))) = false → t.linkRx = s.linkRx ∧
              t.od odLinkDropMalformedCount = (s.od odLinkDropMalformedCount + 1) % 2 ^ 64))) ∧
        (flitBad f = true ∨ (f.fk = 1 ∧ f.seq ≠ x.rxNext) →
          (t.link k).rxNext = x.rxNext ∧ (t.link k).nakSent = true) ∧
        (flitBad f = false → f.fk ≠ 1 → (t.link k).rxNext = x.rxNext ∧ (t.link k).nakSent = x.nakSent))) ∧
    (s.linkUp k = true →
      (x.nakIn = false → x.replay = [] ∨ s.clk.dt < x.ackDt + 5000 → exec (.linkNakReplay k) s = .next s) ∧
      (x.nakIn = true ∨ (x.replay ≠ [] ∧ x.ackDt + 5000 ≤ s.clk.dt) →
        ((∃ f ∈ x.replay, 8 ≤ f.sent) → ∃ t, exec (.linkNakReplay k) s = .next t ∧ s.sameMem t ∧
          t.od (odAt odPortState k) = 1 ∧ (t.link k).retraining = true ∧ (t.link k).replay = x.replay) ∧
        (∀ f fs, x.replay = f :: fs → (∀ f ∈ x.replay, f.sent < 8) →
          ∃ t, exec (.linkNakReplay k) s = .next t ∧ s.sameMem t ∧
            t.od (odAt odReplayCount k) = (s.od (odAt odReplayCount k) + 1) % 2 ^ 64 ∧
            (t.link k).replay = x.replay.map (fun f => { f with sent := f.sent + 1 }) ∧
            t.linkTx = s.linkTx ++
              [⟨some k, false, none, .replayFrom f.seq, x.replay.map (TxFlit.word ((x.rxNext + 4095) % 4096))⟩]))) ∧
    (x.retraining = false → ∀ ok, exec (.portRetrainComplete k ok) s = .next s) ∧
    (x.retraining = true →
      (∃ t, exec (.portRetrainComplete k true) s = .next t ∧ s.sameMem t ∧ t.od (odAt odPortState k) = 2 ∧
        (t.link k).retraining = false ∧ (t.link k).replay.map (·.seq) = x.replay.map (·.seq)) ∧
      (∃ t, exec (.portRetrainComplete k false) s = .next t ∧ s.sameMem t ∧ t.od (odAt odPortState k) = 0 ∧
        (t.link k).retraining = false ∧ (t.link k).replay = [] ∧
        (s.log.exists_ = true → ∃ e ∈ t.log.recs, e.code = 0x7004 ∧ e.seq = s.log.seq))) ∧
    (s.up = true → x.enabled = true → x.retraining = false →
      s.od (odAt odPortState k) = 0 ∨ s.od (odAt odPortState k) = 1 →
      ∀ (good : BitVec 8) (peer : BitVec 16),
        exec (.portTrainingAttempt k false good peer) s = .next (s.odSet (odAt odPortState k) 0) ∧
        (linkWidth k (s.lanesFit k good.toNat) = 0 →
          exec (.portTrainingAttempt k true good peer) s = .next (s.odSet (odAt odPortState k) 0)) ∧
        (linkWidth k (s.lanesFit k good.toNat) ≠ 0 →
          ∃ t, exec (.portTrainingAttempt k true good peer) s = .next t ∧ s.sameMem t ∧
          t.od (odAt odPortState k) = 2 ∧ t.od (odAt odPortWidth k) = linkWidth k (s.lanesFit k good.toNat) ∧
          t.od (odAt odLanesGood k) = s.lanesFit k good.toNat ∧ t.od (odAt odPeerId k) = peer.toNat ∧ (t.link k).rxNext = 0)) ∧
    (x.enabled = false → ∀ ok good peer, exec (.portTrainingAttempt k ok good peer) s = .next s) ∧
    (∀ lane signal, lane < linkLanes k → s.linkUp k = true →
      (s.odBit (odAt odLanesGood k) lane = false ∨ (signal = false ∧ s.laneOver k lane = false) →
        exec (.laneBad k lane signal) s = .next s) ∧
      (s.odBit (odAt odLanesGood k) lane = true → signal = true ∨ s.laneOver k lane = true →
        ∃ t, exec (.laneBad k lane signal) s = .next t ∧ s.sameMem t ∧
        let w := linkWidth k (t.od (odAt odLanesGood k))
        t.odBit (odAt odLanesGood k) lane = false ∧
        t.od (odAt odPortState k) = (if w = 0 then 0 else 2) ∧
        (signal = true ∨ w = 0 → t.od (odAt odPortWidth k) = w) ∧
        (signal = false → w ≠ 0 → t.od (odAt odPortWidth k) = s.od (odAt odPortWidth k) ∧
          ∃ p, (t.link k).swap = some p ∧ t.hasSent k (.ctrl (t.od (odAt odLanesGood k)) p)))) ∧
    (∀ lane errors, lane < linkLanes k → s.up = true → x.enabled = true → s.odBit (odAt odLanesGood k) lane = false →
      let un := unLane k lane
      let out := s.fuseBad un = true ∨
        ∃ r, s.studOf un = some r ∧ r.cls ≠ clsSuspect ∧ r.cls ≠ clsExternal ∧ r.cls ≠ clsReturned
      (s.laneBad4 k lane = true ∨ 112 < errors ∨ out → exec (.laneRetest k lane errors) s = .next s) ∧
      (s.laneBad4 k lane = false → errors ≤ 112 → ¬ out →
        (s.linkUp k = true → ∃ t, exec (.laneRetest k lane errors) s = .next t ∧ s.sameMem t ∧
          t.odBit (odAt odLanesGood k) lane = true ∧ t.od (odAt odPortWidth k) = s.od (odAt odPortWidth k) ∧
          (s.od (odAt odPortWidth k) < linkWidth k (t.od (odAt odLanesGood k)) →
            ∃ p, (t.link k).swap = some p ∧ t.hasSent k (.ctrl (t.od (odAt odLanesGood k)) p))) ∧
        (s.od (odAt odPortState k) = 0 → exec (.laneRetest k lane errors) s = .next (s.studReturn un 6))))

/-- PORT_CTRL enables, disables and retrains a link; a routed packet of a reserved type or with a
reserved bit is malformed, one of 32 hops or too old is discarded, one for this module is taken, any
other leaves with one hop more, and else unchanged, on a link of its entry or waits there, unless a
die that it needs is cut off from the mesh, and a wait of 1 ms at a device link discards it; WDONE ends a request, one without it for 10 ms goes out again three times and
is then abandoned; host data goes to the read with its tag while a host port serves, and the module
returns to port A after 1 s (R54, R442, R456 to R464, R473, R476). -/
def Obligations.LinksRoutePackets : Prop :=
  ∀ (s : State), s.wf = true →
    (∀ route k, k < 36 → s.mayWrite route (odAt odPortCtrl k) →
      (∃ t, exec (.portEnable route k) s = .next t ∧ s.sameMem t ∧ (t.link k).enabled = true ∧
        t.od (odAt odPortCtrl k) = 1 ∧
        t.od (odAt odPortState k) = (if s.od (odAt odPortState k) = 2 then 2 else 1)) ∧
      (∃ t, exec (.portDisable route k) s = .next t ∧ s.sameMem t ∧ (t.link k).enabled = false ∧
        t.od (odAt odPortCtrl k) = 2 ∧ t.od (odAt odPortState k) = 3 ∧ t.od (odAt odPortWidth k) = 0) ∧
      ((s.link k).enabled = true → ∃ t, exec (.portRetrain route k) s = .next t ∧ s.sameMem t ∧
        (t.link k).badLanes = [] ∧ t.od (odAt odPortCtrl k) = 3 ∧ t.od (odAt odPortState k) = 1 ∧ t.od (odAt odPortWidth k) = 0) ∧
      ((s.link k).enabled = false → ∃ t, exec (.portRetrain route k) s = .next t ∧ s.sameOd t ∧ t.links = s.links)) ∧
    (∀ link (dst : BitVec 16) typ hops age dl (body : PktBody), link < 36 → s.linkUp link = true →
      let out := exec (.routedPacketArrival link dst typ hops age dl body) s
      let die := linkDie link
      let bytes := 48 + body.data.length
      let routed := (1 ≤ typ ∧ typ ≤ 4) ∨ (8 ≤ typ ∧ typ ≤ 11 ∧ fld body.mid 1 2 = 0)
      (typ = 0 ∨ (5 ≤ typ ∧ typ ≤ 7) ∨ typ = 15 ∨ 24 ≤ typ → out = .next (s.odAdd odLinkDropMalformedCount 1)) ∧
      ((1 ≤ typ ∧ typ ≤ 4) ∨ (8 ≤ typ ∧ typ ≤ 11) → pktClean body typ = false →
        out = .next (s.odAdd odLinkDropMalformedCount 1)) ∧
      (8 ≤ typ → typ ≤ 11 → pktClean body typ = true → fld body.mid 1 2 ≠ 0 → out = .next s) ∧
      (12 ≤ typ → typ ≤ 23 → headerOk (BitVec.ofNat 384 (RoutedPkt.header ⟨dst, typ, hops + 1, age, body⟩)) = true →
        out = .next s) ∧
      (routed → pktClean body typ = true → 34 ≤ link → out = .next s) ∧
      (routed → pktClean body typ = true → link < 34 →
        (32 ≤ hops → out = .next (s.odAdd odLinkDropHopsCount 1)) ∧
        (hops < 32 → 5000 < (s.ageNow + 8192 - age % 8192) % 8192 → out = .next (s.odAdd odLinkDropAgeCount 1)) ∧
        (s.pktGood hops age →
          let lost := out = .next (s.odAdd odLinkIsolatedDropCount 1)
          (s.od odDeviceIdValid = 1 → s.od odDeviceId = dst.toNat →
            (s.dieCutOff die = true → lost) ∧ (s.dieCutOff die = false → out = .next s)) ∧
          (s.od odDeviceIdValid = 0 ∨ s.od odDeviceId ≠ dst.toNat → hops = 31 →
            out = .next (s.odAdd odLinkDropHopsCount 1)) ∧
          (s.od odDeviceIdValid = 1 → s.od odDeviceId ≠ dst.toNat → hops < 31 →
            (s.routeSlots dst.toNat ≠ [] → (s.pickSlot dst.toNat (typeVc typ) dl bytes).isSome = true) ∧
            (s.routeSlots dst.toNat = [] → (s.dieCutOff die = true → lost) ∧ (s.dieCutOff die = false → out = .next s)) ∧
            ∀ slot k, s.pickSlot dst.toNat (typeVc typ) dl bytes = some (slot, k) →
              (slot, k) ∈ s.routeSlots dst.toNat ∧
              (linkDie k = die ∨ (s.dieCutOff die = false ∧ s.dieCutOff (linkDie k) = false) →
                ∃ t, out = .next t ∧ s.sameMem t ∧ t.dict = s.dict ∧
                  t.hasSent k (.forward ⟨dst, typ, hops + 1, age, body⟩)) ∧
              (linkDie k ≠ die → s.dieCutOff die = true → lost) ∧
              (linkDie k ≠ die → s.dieCutOff die = false → s.dieCutOff (linkDie k) = true →
                out = .next (s.odAdd odMeshUnreachDropCount 1))) ∧
          (s.od odDeviceIdValid = 0 → hops < 31 → s.dieCutOff die = false → out = .next s)))) ∧
    (∀ k, 34 ≤ k → exec (.linkWaitDiscard k) s = .next s) ∧
    (∀ k < 34, ((∀ w ∈ (s.link k).wait, s.clk.dt < w.since + 1000000) → exec (.linkWaitDiscard k) s = .next s) ∧
      ((∃ w ∈ (s.link k).wait, w.since + 1000000 ≤ s.clk.dt) → ∃ t, exec (.linkWaitDiscard k) s = .next t ∧
        s.sameMem t ∧ (t.link k).wait.length + 1 = (s.link k).wait.length ∧
        t.od odLinkDropWaitCount = (s.od odLinkDropWaitCount + 1) % 2 ^ 64)) ∧
    (∀ link tag, s.linkServes link → ((∀ r ∈ s.outReqs, r.tag ≠ tag) → (∀ ovf, exec (.wdone ⟨link, tag⟩ ovf) s = .next s) ∧
        exec (.linkRequestResend tag) s = .next s) ∧
      (∀ r, s.outReqs.find? (fun x => x.tag == tag) = some r →
        (∀ ovf, ∃ t, exec (.wdone ⟨link, tag⟩ ovf) s = .next t ∧ s.sameMem t ∧ (∀ y ∈ t.outReqs, y.tag ≠ tag)) ∧
        (s.clk.dt < r.sentDt + 10000000 → exec (.linkRequestResend tag) s = .next s) ∧
        (r.sentDt + 10000000 ≤ s.clk.dt → r.sends < 3 → ∃ t, exec (.linkRequestResend tag) s = .next t ∧ s.sameMem t ∧
          t.od odLinkResendCount = (s.od odLinkResendCount + 1) % 2 ^ 64 ∧
          ∃ y ∈ t.outReqs, y.tag = tag ∧ y.sends = r.sends + 1 ∧ y.sentDt = s.clk.dt) ∧
        (r.sentDt + 10000000 ≤ s.clk.dt → 3 ≤ r.sends → ∃ t, exec (.linkRequestResend tag) s = .next t ∧ s.sameMem t ∧
          ∀ y ∈ t.outReqs, y.tag ≠ tag))) ∧
    (∀ k tag ovf, k < 34 →
      (s.linkUp k = false → exec (.wdone ⟨some k, tag⟩ ovf) s = .next s) ∧
      (s.linkUp k = true → s.dieCutOff (linkDie k) = true →
        exec (.wdone ⟨some k, tag⟩ ovf) s = .next (s.odAdd odLinkIsolatedDropCount 1))) ∧
    (∀ tag (data : List Byte), (s.hostUp = true →
        ∃ t, exec (.hrdData tag data) s = .next t ∧ s.sameMem t ∧ t.dict = s.dict ∧ t.cmds = s.cmds ∧
          ∀ q ∈ s.hrd.reqs,
            (q.tag = tag → q.data = none → q.bytes = data.length → { q with data := some data } ∈ t.hrd.reqs) ∧
            (q.tag ≠ tag ∨ q.data ≠ none ∨ q.bytes ≠ data.length → q ∈ t.hrd.reqs)) ∧
      (s.hostUp = false → exec (.hrdData tag data) s = .next (s.hostLost 0))) ∧
    (s.hostPort ≠ 34 → s.linkUp 34 = true → (s.link 34).upSince + 1000000000 ≤ s.clk.dt →
      exec .hostPortReturn s = .next { s with hostPort := 34 }) ∧
    (s.linkUp 34 = false → exec .hostPortReturn s = .next s)

/-! ### The fabric -/

/-- The best announcement of the last 1 ms gives the time parent, the fabric master, its term and
the time depth; one of the parent gives the offset and FABRIC_LOCK, and the first in the fabric
steps device time before READY; a master that is outranked gives up its office and one that is not
keeps its time; MSEQ advances when it does on its own link. Announcements and delay messages carry
the sender's time, with its master, term, depth and MSEQ (R402 to R404, R465 to
R467, R472; that two masters of one term are told apart by their ID first is this model's choice,
log 36). -/
def Obligations.FabricTimeIsFollowed : Prop :=
  ∀ (s : State) (k : Nat) (m : TimeMsg), s.wf = true → k < 34 →
    (s.linkUp k = false → exec (.timeAnn k m) s = .next s ∧ exec (.timeAnnSend k) s = .next s ∧
      exec (.delayReq k m) s = .next s ∧ exec (.delayReqSend k) s = .next s ∧ exec (.delayResp k m) s = .next s) ∧
    (s.linkUp k = true →
      (s.fabric.isMaster = true → s.outranked m = false → ∃ t, exec (.timeAnn k m) s = .next t ∧ s.sameMem t ∧
        t.fabric.isMaster = true ∧ t.clk = s.clk ∧ (t.link k).lastAnn = some (s.clk.dt, m)) ∧
      (s.fabric.isMaster = true → s.outranked m = true → ∃ t, exec (.timeAnn k m) s = .next t ∧ s.sameMem t ∧
        t.fabric.isMaster = false) ∧
      (∀ j b, s.fabric.isMaster = false ∨ s.outranked m = true →
        bestAnn (s.modLink k fun x => { x with lastAnn := some (s.clk.dt, m) }).annLinks = some (j, b) →
        ∃ t, exec (.timeAnn k m) s = .next t ∧ s.sameMem t ∧ t.fabric.isMaster = false ∧ t.fabric.parent = some j ∧
          t.fabric.lastTimeDt = some s.clk.dt ∧ t.od odFabricTerm = b.term.toNat ∧
          t.od odFabricMasterId = b.masterId.toNat ∧ t.od odTimeDepth = min 0xFF (b.tdepth + 1) ∧
          (j ≠ k → t.clk = s.clk) ∧
          (j = k → s.fabric.inFabric = true ∨ s.ready = true →
            let o := s.dtFine - m.ft - (s.link k).delay
            t.clk = { s.clk with fabricErr := o } ∧
            (o < -lockOff ∨ lockOff < o ∨ 10 < t.od odTimeDepth → t.od odFabricLock = 0) ∧
            (-lockOn ≤ o → o ≤ lockOn → b.tdepth ≤ 9 → s.freeNode = false →
              t.od odFabricLock = if s.od odFabricLock = 0 then 1 else s.od odFabricLock)) ∧
          (j = k → s.fabric.inFabric = false → s.ready = false →
            2 ^ 16 * t.clk.dt + t.clk.dtFrac = (m.ft + (s.link k).delay).toNat % 2 ^ 80 ∧ t.clk.fabricErr = 0)) ∧
      (∃ t, exec (.timeAnn k m) s = .next t ∧ ∀ n p, (s.link k).lastAnn = some (n, p) → p.term = m.term →
        (m.mseq = p.mseq → t.fabric.mseqDt = s.fabric.mseqDt) ∧
        (0 < (m.mseq - p.mseq).toNat → (m.mseq - p.mseq).toNat < 2 ^ 15 → t.fabric.mseqDt = s.clk.dt)) ∧
      (∃ t a, exec (.timeAnnSend k) s = .next t ∧ s.sameMem t ∧ t.hasSent k (.ann a) ∧ timeFrom t a ∧
        a.ft = s.dtFine - s.clk.fabricErr ∧
        t.fabric.mseq = if s.fabric.isMaster then s.fabric.mseq + 1 else s.fabric.mseq) ∧
      (∃ t r, exec (.delayReq k m) s = .next t ∧ s.sameMem t ∧ t.hasSent k (.delayResp r) ∧ timeFrom s r ∧
        r.ft = s.dtFine ∧ r.tRx = s.dtFine) ∧
      (∃ t r, exec (.delayReqSend k) s = .next t ∧ s.sameMem t ∧ t.hasSent k (.delayReq r) ∧ timeFrom s r ∧
        r.ft = s.dtFine ∧ (t.link k).t1 = s.dtFine) ∧
      exec (.delayResp k m) s = .next (s.modLink k fun x =>
        { x with delay := ((s.dtFine - x.t1) - (m.ft - m.tRx)) / 2 }))

/-- 50 ms without MSEQ make an eligible module claim the office with the next term, on every device
link, unless it has heard a claim that outranks its own; a claim is forwarded once by a module with a
device ID, and ends an outranked one; a claim of 2 ms takes office, with
device time as fabric time; a configured master reclaims after 1 s of FABRIC_LOCK. The master gives
a serial the ID it holds, else one that no other holds; a module takes the ID of its serial, asks
again every 1 s after a refusal, and an eligible one takes the table once it has every part (R461, R467 to
R472; the table goes to every holder of an ID by this model's choice, log 32). -/
def Obligations.FabricMasterAndIds : Prop :=
  ∀ (s : State), s.wf = true →
    let next : BitVec 16 := BitVec.ofNat 16 (s.od odFabricTerm + 1)
    let own := s.od odDeviceId
    (s.fabric.inFabric = false ∨ s.fabric.isMaster = true ∨ s.clk.dt < s.fabric.mseqDt + 50000000 →
      exec .masterSilent s = .next s) ∧
    (s.fabric.inFabric = true → s.fabric.isMaster = false → s.fabric.mseqDt + 50000000 ≤ s.clk.dt →
      ∃ t, exec .masterSilent s = .next t ∧ s.sameMem t ∧ t.fabric.silent = true ∧
        (s.od odFabricRole = 0 ∨ s.fabric.heard.any (fun h => claimBeats h (s.ownClaim next)) = true →
          t.fabric.claim = s.fabric.claim) ∧
        (1 ≤ s.od odFabricRole → s.od odDeviceIdValid = 1 → s.fabric.claim = none →
          s.fabric.heard.any (fun h => claimBeats h (s.ownClaim next)) = false →
          t.fabric.claim = some (next, s.clk.dt) ∧
          ∀ k ∈ s.devLinks, s.dieCutOff (linkDie k) = false → ∃ c, t.hasSent k (.mgmt 11 c) ∧ c.term = next ∧ c.ident = BitVec.ofNat 16 own)) ∧
    (∀ k (m : MgmtMsg), s.linkServes (some k) → s.pktGood m.hops m.ageUs →
      (s.fabric.seen.contains (m.term, m.ident) = true → exec (.masterClaim k m) s = .next s) ∧
      (s.fabric.seen.contains (m.term, m.ident) = false →
        ∃ t, exec (.masterClaim k m) s = .next t ∧ s.sameMem t ∧
          t.fabric.seen = s.fabric.seen ++ [(m.term, m.ident)] ∧
          (∀ c d, s.fabric.claim = some (c, d) →
            t.fabric.claim = if claimBeats (m.term, m.ident, m.idf) (s.ownClaim c) then none else some (c, d)) ∧
          (∃ h, t.fabric.heard = some h ∧ claimBeats (m.term, m.ident, m.idf) h = false) ∧
          (s.od odDeviceIdValid = 0 → t.linkTx = s.linkTx) ∧
          (m.hops = 31 → s.od odDeviceIdValid ≠ 0 → t.linkTx = s.linkTx ∧
            t.od odLinkDropHopsCount = (s.od odLinkDropHopsCount + 1) % 2 ^ 64) ∧
          (m.hops < 31 → s.od odDeviceIdValid ≠ 0 → ∀ j ∈ s.devLinks, j ≠ k → s.dieCutOff (linkDie j) = false → t.hasSent j (.mgmt 11 { m with hops := m.hops + 1 })))) ∧
    (∀ c d, s.fabric.claim = some (c, d) →
      (s.clk.dt < d + 2000000 → exec .masterTakeOffice s = .next s) ∧
      (d + 2000000 ≤ s.clk.dt → ∃ t, exec .masterTakeOffice s = .next t ∧ s.sameMem t ∧ t.fabric.isMaster = true ∧
        t.fabric.claim = none ∧ t.od odFabricTerm = c.toNat ∧ t.od odFabricMasterId = own ∧ t.od odTimeDepth = 0 ∧
        t.od odFabricOffset = 0 ∧ t.clk = { s.clk with fabricErr := 0 })) ∧
    (∀ d, s.fabric.lockSince = some d →
      (s.od odFabricRole = 2 → s.fabric.isMaster = false → s.fabric.claim = none → s.od odFabricLock ≠ 0 →
        d + 1000000000 ≤ s.clk.dt → ∃ t, exec .configuredMasterReclaim s = .next t ∧ s.sameMem t ∧
          t.fabric.claim = some (next, s.clk.dt)) ∧
      (s.od odFabricRole ≠ 2 ∨ s.clk.dt < d + 1000000000 → exec .configuredMasterReclaim s = .next s)) ∧
    (∀ k (m : MgmtMsg), k < 34 → s.linkUp k = true → s.dieCutOff (linkDie k) = true → s.pktGood m.hops m.ageUs →
      let lost := s.odAdd odLinkIsolatedDropCount 1
      (∃ t, exec (.masterClaim k m) s = .next t ∧ s.sameMem t ∧
        t.od odLinkIsolatedDropCount = (s.od odLinkIsolatedDropCount + 1) % 2 ^ 64 ∧
        (s.od odDeviceIdValid ≠ 0 → m.hops < 31 → s.fabric.seenCut.contains (linkDie k, m.term, m.ident) = false →
          ∀ j ∈ s.devLinks, j ≠ k → linkDie j = linkDie k → t.hasSent j (.mgmt 11 { m with hops := m.hops + 1 }))) ∧
      (s.od odDeviceIdValid = 1 → m.nbr = false → m.hops < 31 →
        (∀ slot j, s.pickSlot m.dst.toNat 0 false 48 = some (slot, j) → linkDie j ≠ linkDie k) →
        exec (.idReq k m) s = .next lost) ∧
      (m.nbr = true ∨ m.relay.toNat ≠ own ∨ linkDie m.rlink ≠ linkDie k → exec (.idAssign k m) s = .next lost) ∧
      exec (.idTable ⟨some k, m⟩) s = .next lost) ∧
    (∀ k (m : MgmtMsg), s.linkServes (some k) → s.od odDeviceIdValid = 1 → own < 65536 → m.nbr = true →
      s.pktGood m.hops m.ageUs →
      (s.fabric.isMaster = true → s.od odFabricMasterId = own → ∀ i, s.grantId m = .ok i →
        ∃ t r, exec (.idReq k m) s = .next t ∧ s.sameMem t ∧ (m.serial, i) ∈ t.fabric.ids ∧
          t.hasSent k (.mgmt 9 r) ∧ r.ident = i ∧ r.serial = m.serial ∧ r.status = 0 ∧
          ((∀ e ∈ s.fabric.ids, e.1 ≠ m.serial) → ∀ e ∈ s.fabric.ids, e.2 ≠ i)) ∧
      (s.od odFabricMasterId < 65536 → s.od odFabricMasterId ≠ own → m.hops < 31 →
        ∀ slot j, s.pickSlot (s.od odFabricMasterId) 0 false 48 = some (slot, j) → s.dieCutOff (linkDie j) = false →
          ∃ t, exec (.idReq k m) s = .next t ∧ s.sameMem t ∧ t.dict = s.dict ∧
            t.hasSent j (.mgmt 8 { m with nbr := false, rlink := k, relay := BitVec.ofNat 16 own, hops := m.hops + 1,
                                          dst := BitVec.ofNat 16 (s.od odFabricMasterId) }))) ∧
    (∀ k (m : MgmtMsg), s.linkServes (some k) → s.pktGood m.hops m.ageUs →
      (m.nbr = true → m.serial = Config.serial → s.od odDeviceIdValid = 0 →
        (m.status = 0 → ∃ t, exec (.idAssign k m) s = .next t ∧ s.sameMem t ∧ t.od odDeviceId = m.ident.toNat ∧
          t.od odDeviceIdValid = 1 ∧ t.od odLastId = m.ident.toNat ∧ t.dict.lastId = true) ∧
        (m.status = 1 ∨ m.status = 2 →
          exec (.idAssign k m) s = .next { s with fabric := { s.fabric with idRetry := some s.clk.dt } })) ∧
      (m.nbr = true → m.serial ≠ Config.serial → exec (.idAssign k m) s = .next s) ∧
      (m.nbr = false → s.od odDeviceIdValid = 1 → m.relay.toNat = own → s.dieCutOff (linkDie m.rlink) = false →
        m.hops < 31 → ∃ t, exec (.idAssign k m) s = .next t ∧ s.sameMem t ∧
          t.hasSent m.rlink (.mgmt 9 { m with nbr := true, hops := m.hops + 1 }))) ∧
    (∀ d, s.fabric.idRetry = some d →
      (s.clk.dt < d + 1000000000 → exec .idReqRepeat s = .next s) ∧
      (d + 1000000000 ≤ s.clk.dt → s.od odDeviceIdValid = 0 →
        (∃ k ∈ s.devLinks, ∃ n a, (s.link k).lastAnn = some (n, a) ∧ a.idv = true) →
        ∃ t k r, exec .idReqRepeat s = .next t ∧ s.sameMem t ∧ k ∈ s.devLinks ∧ r.serial = Config.serial ∧
          r.idf = s.dict.lastId ∧ t.fabric.idRetry = some s.clk.dt ∧ (s.dieCutOff (linkDie k) = false → t.hasSent k (.mgmt 8 r)))) ∧
    (∀ link (m : MgmtMsg), s.linkServes link → s.pktGood m.hops m.ageUs →
      (s.od odFabricRole = 0 ∨ m.dst.toNat ≠ own → exec (.idTable ⟨link, m⟩) s = .next s) ∧
      (s.od odFabricRole ≠ 0 → s.fabric.isMaster = false → s.od odDeviceIdValid ≠ 0 → m.dst.toNat = own →
        (m.tnpart = 0 → m.tpart = 0 → ∃ t, exec (.idTable ⟨link, m⟩) s = .next t ∧ s.sameMem t ∧ t.fabric.ids = m.entries ∧
          t.fabric.tver = m.tver) ∧
        (1 ≤ m.tnpart → s.fabric.parts = [] → ∃ t, exec (.idTable ⟨link, m⟩) s = .next t ∧ s.sameMem t ∧
          t.fabric.ids = s.fabric.ids ∧ t.fabric.parts = [(m.tpart, m.entries)]))) ∧
    (s.fabric.isMaster = false → exec .idTableSend s = .next s) ∧
    (s.fabric.isMaster = true → ∃ t, exec .idTableSend s = .next t ∧ s.sameMem t ∧ t.fabric = s.fabric ∧
      ((∀ k < 36, s.dieCutOff (linkDie k) = false) → t.dict = s.dict) ∧
      ∀ e ∈ s.fabric.ids, e.2.toNat ≠ own → s.routeSlots e.2.toNat ≠ [] → s.od odDeviceIdValid = 1 →
        (∀ k ∈ s.routeSlots e.2.toNat, s.dieCutOff (linkDie k.2) = false) →
        ∃ k c, t.hasSent k (.mgmt 10 c) ∧ c.dst = e.2 ∧ c.tver = s.fabric.tver)

/-! ### Start-up and the pins -/

/-- PWRGOOD samples the straps and begins a cold start, which ends as its findings say; its fall,
and RESET_N, switch every domain off; RESET_N's rise begins a cold start from device time 0 unless
the module has lost a supply that stops it; a lost supply takes its stacks or its link die, or stops
the module. The yardmaster counts its acknowledgements, gives way to its deputy after 10 ms, and
steps down itself; a groom restarts or, failing twice in 24 h, is HARD; MODULE_RESET in READY clears
the partitions and keeps HBM, repeats the election among the grooms in service, ends in READY where
a fuse map and the image are good, and waits for an image write to end; the tack-room copies take
what they are given, the mirror among it; DEGRADED_ACK adopts a grade. A module that joins a fabric
starts at fabric time (R42, R404, R480 to R503, R511, R515, R558, R581 to R590; that a cold start takes no device time is this model's choice, log 33, and so is
where a warm reset without them ends, log 99). -/
def Obligations.StartsResetsAndPins : Prop :=
  ∀ (s : State), s.wf = true →
    (s.start.pwrgood = true → ∀ straps f, exec (.powerGoodRise straps f) s = .next s) ∧
    (s.start.pwrgood = false → ∀ (straps : BitVec 5) f, ∃ t, exec (.powerGoodRise straps f) s = .next t ∧
      t.start.pwrgood = true ∧ t.start.addrStrap = straps.extractLsb' 0 3 ∧ t.start.slewStrap = straps.extractLsb' 3 2 ∧
      (s.start.resetN = true → t.start.coldStarted = true ∧ t.parts = [] ∧ t.cores = [] ∧ t.hbm = [] ∧ t.cmem = [] ∧
        s.startsAs t (groomRank.filter f.romGrooms.contains).length f)) ∧
    (s.start.pwrgood = false → exec .pwrgoodFall s = .next s) ∧
    (s.start.pwrgood = true → ∃ t, exec .pwrgoodFall s = .next t ∧ t.hbm = s.hbm ∧ t.start.pwrgood = false ∧
      (∀ k, (t.cl k).power = .off) ∧ ∀ b < 16, (t.bay b).conv = false) ∧
    (∀ ns, ns < 1000 ∨ s.start.resetN = false → exec (.resetNAssert ns) s = .next s) ∧
    (∀ ns, 1000 ≤ ns → s.start.resetN = true → ∃ t, exec (.resetNAssert ns) s = .next t ∧ t.hbm = s.hbm ∧
      t.start.resetN = false ∧
      (s.start.pwrgood = true → (∀ k, (t.cl k).power = .off) ∧ ∀ g < 20, (t.groom g).down = true) ∧
      (s.start.pwrgood = false → t.clusters = s.clusters ∧ t.grooms = s.grooms)) ∧
    (s.start.resetN = true → ∀ f, exec (.resetNRelease f) s = .next s) ∧
    (s.start.resetN = false → ∀ f, ∃ t, exec (.resetNRelease f) s = .next t ∧ t.start.resetN = true ∧
      (s.start.pwrgood = true → (∀ x ∈ s.start.supplies, x.1 ≠ supAisle ∧ x.1 ≠ supAux) →
        t.start.coldStarted = true ∧ t.parts = [] ∧ (f.fabric = none → t.clk.dt = 0) ∧
        (∀ o, f.fabric = some o → t.od odStartState = 0x0A → t.clk.dt = (-o).toNat / 2 ^ 16 % 2 ^ 64) ∧
        s.startsAs t (s.electors f.romGrooms).length f) ∧
      (s.start.pwrgood = false ∨ (∃ x ∈ s.start.supplies, x.1 = supAisle ∨ x.1 = supAux) →
        t = { s with start := { s.start with resetN := true } })) ∧
    (∀ kind unit, s.start.supplies.contains (kind, unit) = false →
      kind = 2 ∨ kind = 3 ∨ (kind = 0 ∧ unit < 8) ∨ (kind = 1 ∧ unit < 4) →
      ∃ t, exec (.supplyLost kind unit) s = .next t ∧ t.hbm = s.hbm ∧
        t.start.supplies = s.start.supplies ++ [(kind, unit)] ∧
        (s.up = false → t = { s with start := { s.start with supplies := s.start.supplies ++ [(kind, unit)] } }) ∧
        (s.up = true → kind = 0 → ∀ k ∈ [2 * unit, 2 * unit + 1], s.fuse.fstacks.contains k = true →
          t.odBit odHbmStacksLost k = true) ∧
        (s.up = true → kind = 1 → (t.groom (16 + unit)).down = true ∧ ∀ l < 36, linkDie l = unit →
          t.od (odAt odPortState l) = if s.od (odAt odPortState l) = 3 then 3 else 0) ∧
        (s.up = true → 2 ≤ kind → t.start.stopped = true ∧ (∀ k, (t.cl k).power = .off) ∧
          ∀ p < 32, s.losesStep t p rsBayPower)) ∧
    (∀ l f, s.start.find = some f → s.start.warm = none → s.up = true → s.od odStartState = 0x0D →
      ∃ t, exec (.electionRetry l) s = .next t ∧ s.startsAs t (s.electors l).length f) ∧
    (∀ l fuse good, s.start.warm = some (fuse, good) → s.up = true → s.od odStartState = 0x0D →
      ∃ t, exec (.electionRetry l) s = .next t ∧ s.sameMem t ∧
        s.warmEnds t ((s.electors l).filter fun g => !(s.groom g).hard && !s.groomCut g).length fuse good) ∧
    (s.od odStartState ≠ 0x0D → ∀ l, exec (.electionRetry l) s = .next s) ∧
    (s.up = true → s.start.acting = true → s.groomServes (s.od odYardmaster) = true → ∀ n,
      exec (.heartbeat n) s = .next { s with start := { s.start with
        beatAt := s.clk.dt, fewAcks := if n < 10 then s.start.fewAcks + 1 else 0 } }) ∧
    (s.start.acting = false → ∀ n, exec (.heartbeat n) s = .next s) ∧
    (∀ n d, s.deputy = some d →
      (n < 10 ∨ s.clk.dt < s.start.beatAt + 10000000 → exec (.yardmasterTakeover n) s = .next s) ∧
      (s.up = true → 10 ≤ n → s.start.beatAt + 10000000 ≤ s.clk.dt →
        ∃ t, exec (.yardmasterTakeover n) s = .next t ∧ s.sameMem t ∧ t.od odYardmaster = d ∧ t.od odLeadNode = d ∧
          t.od odYardmasterTerm = (s.od odYardmasterTerm + 1) % 2 ^ 32 ∧ t.start.acting = true ∧
          (t.groom (s.od odYardmaster)).down = true)) ∧
    (s.start.acting = true → 10 ≤ s.start.fewAcks →
      (s.clk.locked = true → exec .yardmasterAbdicate s =
        .next { s with start := { s.start with acting := false },
                       clk := { s.clk with holdover := true, gap := s.clk.gap || !s.clk.holdover } }) ∧
      (s.clk.locked = false → ∃ t, exec .yardmasterAbdicate s = .next t ∧ s.sameMem t ∧ t.start.acting = false ∧
        t.dict = s.dict)) ∧
    (s.start.acting = false ∨ s.start.fewAcks < 10 → exec .yardmasterAbdicate s = .next s) ∧
    (∀ g ok, (s.groom g).hard = true ∨ s.groomFed g = false ∨ s.groomCut g = true ∨ s.firm.away = some g →
      exec (.groomRestart g ok) s = .next s) ∧
    (∀ g, g < 20 → s.up = true → (s.start.acting = false ∨ g ≠ s.od odYardmaster) → (s.groom g).hard = false →
      s.groomFed g = true → s.groomCut g = false → s.firm.away ≠ some g →
      (∃ t, exec (.groomRestart g true) s = .next t ∧ s.sameMem t ∧ (t.groom g).inService = true ∧
        (t.groom g).down = false) ∧
      ((∀ d ∈ (s.groom g).fails, d + 86400 ≤ s.st) → ∃ t, exec (.groomRestart g false) s = .next t ∧ s.sameMem t ∧
        (t.groom g).down = true ∧ (t.groom g).hard = false ∧ (t.groom g).fails = [s.st]) ∧
      ((∃ d ∈ (s.groom g).fails, s.st < d + 86400) → ∃ t, exec (.groomRestart g false) s = .next t ∧ t.hbm = s.hbm ∧
        (t.groom g).hard = true ∧ (g < 16 → (∀ k, k / 36 = g → (t.cl k).power = .off) ∧
          ∀ p < 32, s.inBay p g = true → s.losesStep t p rsFenced))) ∧
    (∀ route (v : BitVec 8) fuse good, s.mayWrite route odModuleReset →
      (v = 1 → s.od odStartState = 0x0A → s.od odFwUpdateStatus = 4 →
        ∃ t, exec (.moduleReset route ⟨v, fuse, good⟩) s = .next t ∧ s.sameOd t ∧ s.sameMem t ∧ t.parts = s.parts ∧
          t.start.resetPend = some (fuse, good)) ∧
      (v = 1 → s.od odStartState = 0x0A → s.od odFwUpdateStatus ≠ 4 →
        ∃ t, exec (.moduleReset route ⟨v, fuse, good⟩) s = .next t ∧ t.hbm = s.hbm ∧
        t.parts = [] ∧ t.rings = [] ∧ t.windows = [] ∧ t.cores = [] ∧ t.cmem = [] ∧ t.clk.dt = s.clk.dt ∧
        (∀ k, (t.cl k).power = .off ∧ (t.cl k).owner = none) ∧
        s.warmEnds t (groomRank.filter fun g => s.groomServes g || s.groomReturns g).length fuse good) ∧
      (v ≠ 1 ∨ s.od odStartState ≠ 0x0A → ∃ t, exec (.moduleReset route ⟨v, fuse, good⟩) s = .next t ∧ s.sameOd t ∧
        s.sameMem t ∧ t.parts = s.parts)) ∧
    (s.up = true → s.start.coldStarted = true → s.start.acting = true →
      exec .serviceTimeWrite s = .next { s with start := { s.start with stA := s.st, stB := s.st } }) ∧
    (s.start.acting = false → exec .serviceTimeWrite s = .next s) ∧
    (s.up = true → s.start.acting = true →
      (s.start.studPend = true → ∃ t, exec .studbookCopyWrite s = .next t ∧
        t.start.studA = ⟨s.start.studSeq, s.stud, s.mesh.wires, s.mirror⟩ ∧ t.start.studB = t.start.studA ∧
        t.start.studPend = false ∧ t.start.stA = s.st ∧ t.start.stB = s.st ∧ t.stud = s.stud ∧ t.mirror = s.mirror) ∧
      (s.start.studPend = false → exec .studbookCopyWrite s = .next s) ∧
      (∀ index sub, index < 0xC000 → storedKey (odKey index sub) = true →
        ∃ t, exec (.storedEntryCopyWrite index sub) s = .next t ∧ t.dict.val = s.dict.val ∧
          t.dict.tackA = mset odDefault s.dict.tackA (odKey index sub) (s.od (odKey index sub)) ∧
          t.dict.tackB = mset odDefault s.dict.tackB (odKey index sub) (s.od (odKey index sub))) ∧
      (∀ index sub, index < 0xC000 → storedKey (odKey index sub) = false →
        exec (.storedEntryCopyWrite index sub) s = .next s)) ∧
    (∀ route f, s.mayWrite route odDegradedAck → s.start.find = some f →
      (s.od odStartState = 0x0B → ∀ r ∈ [(Instr.degradedAckF route, 1, false), (.degradedAckS route, 2, true)],
        ∃ t, exec r.1 s = .next t ∧ t.od odStartState = 0x0A ∧ t.od odDegradedAck = r.2.1 ∧
          t.od odFuseMapSource = 4 ∧ t.fuse.gradeS = r.2.2 ∧ t.mirror.isSome = true) ∧
      (s.od odStartState ≠ 0x0B → (∃ t, exec (.degradedAckF route) s = .next t ∧ s.sameOd t ∧ t.fuse = s.fuse) ∧
        ∃ t, exec (.degradedAckS route) s = .next t ∧ s.sameOd t ∧ t.fuse = s.fuse))

/-! ### Firmware and the farrier -/

/-- STAGE takes an image when no update stands or runs, and it is STAGED when it verifies; APPLY of
a staged image checks MIN_PEER and writes it to the tack room, where it raises the floor once it is
verified, and in RECOVERY starts the module with it; ABORT drops it; each unit switches in its turn,
a groom being down from its first command to its second (log 114), the yardmaster with the version,
and the last one ends the update. A farrier package comes into use when it verifies; a run occupies
the next idle unit, its pass is a visit, its failure or its time fences a site or drains an update
chiplet, and a site of a day without a visit is overdue (R509 to R512, R526 to R532, R544). -/
def Obligations.FirmwareAndFarrier : Prop :=
  ∀ (s : State), s.wf = true →
    let st := s.od odFwUpdateStatus
    (∀ route h, s.mayWrite route odFwUpdateCtrl →
      (st ≠ 1 → st ≠ 2 → st ≠ 4 → st ≠ 5 → ∃ t, exec (.fwStage route h) s = .next t ∧ s.sameMem t ∧
        t.od odFwUpdateStatus = 1 ∧ t.firm = { s.firm with staged := some h }) ∧
      (st = 1 ∨ st = 2 ∨ st = 4 ∨ st = 5 → ∃ t, exec (.fwStage route h) s = .next t ∧ s.sameOd t ∧ t.firm = s.firm) ∧
      (st = 1 ∨ st = 2 → ∃ t, exec (.fwAbort route) s = .next t ∧ s.sameMem t ∧ t.od odFwUpdateStatus = 0 ∧
        t.firm = { s.firm with staged := none }) ∧
      (st ≠ 1 → st ≠ 2 → ∃ t, exec (.fwAbort route) s = .next t ∧ s.sameOd t ∧ t.firm = s.firm) ∧
      (st ≠ 2 → ∃ t, exec (.fwApply route) s = .next t ∧ s.sameOd t ∧ t.firm = s.firm) ∧
      (s.firm.staged = some h → st = 2 → s.od odStartState ≠ 0x0C →
        (s.firm.running.ver < h.minPeer → ∃ t, exec (.fwApply route) s = .next t ∧ s.sameMem t ∧
          t.od odFwUpdateStatus = 7 ∧ t.firm = s.firm) ∧
        (¬ s.firm.running.ver < h.minPeer → ∃ t, exec (.fwApply route) s = .next t ∧ s.sameMem t ∧
          t.od odFwUpdateStatus = 4 ∧
          t.firm = { s.firm with tack := h, tackVerified := false, staged := none, newUnits := [] })) ∧
      (s.firm.staged = some h → st = 2 → s.od odStartState = 0x0C →
        (s.imageOk h = false → ∃ t, exec (.fwApply route) s = .next t ∧ s.sameMem t ∧ t.od odFwUpdateStatus = 3 ∧
          t.od odStartState = 0x0C) ∧
        (s.imageOk h = true → ∀ f, s.start.find = some f → ∃ t, exec (.fwApply route) s = .next t ∧
          t.firm.tack = h ∧ (11 ≤ (s.electors f.romGrooms).length → fuseDecides f.fuse = true →
            (s.loadStored f).od odFwVersionFloor ≤ h.secVer.toNat → t.od odStartState = 0x0A)))) ∧
    (st ≠ 1 → st ≠ 4 ∨ s.firm.staged ≠ none → exec .fwStageVerified s = .next s) ∧
    (st = 4 → s.firm.staged = none → ∃ t, exec .fwStageVerified s = .next t ∧ t.hbm = s.hbm ∧
      t.firm.tack = s.firm.tack ∧ t.firm.tackVerified = true ∧
      t.od odFwVersionFloor = max (s.od odFwVersionFloor) s.firm.tack.secVer.toNat ∧
      (s.start.resetPend = none → t.od odFwUpdateStatus = 5 ∧ t.firm.running = s.firm.running ∧ t.parts = s.parts) ∧
      (s.start.resetPend ≠ none → t.od odFwUpdateStatus = 6 ∧ t.firm.running = s.firm.tack ∧ t.parts = [] ∧
        t.start.resetPend = none)) ∧
    (∀ h, s.firm.staged = some h → st = 1 →
      (s.imageOk h = true ∨ s.od odStartState = 0x0C → exec .fwStageVerified s = .next (s.odSet odFwUpdateStatus 2)) ∧
      (s.imageOk h = false → s.od odStartState ≠ 0x0C → ∃ t, exec .fwStageVerified s = .next t ∧ s.sameMem t ∧
        t.od odFwUpdateStatus = 3 ∧ t.firm = { s.firm with staged := none })) ∧
    (∀ u,
      let moves (t : State) := t.firm.newUnits = s.firm.newUnits ++ [u] ∧
        ((∀ v ∈ s.unitsPending, v = u) → t.od odFwUpdateStatus = 6) ∧
        ((∃ v ∈ s.unitsPending, v ≠ u) → t.od odFwUpdateStatus = 5)
      (s.firm.away ≠ some u → s.unitsPending ≠ [] → (s.firm.away ≠ none ∧ u < 20) ∨ s.maySwitch u = false →
        exec (.fwUnitSwitch u) s = .next s) ∧
      (s.firm.away = none ∨ 20 ≤ u → s.firm.away ≠ some u → s.maySwitch u = true →
        ∃ t, exec (.fwUnitSwitch u) s = .next t ∧ s.sameMem t ∧
        (u = s.od odYardmaster → moves t ∧ t.firm.running = s.firm.tack ∧ t.od odFwVersion = s.firm.tack.ver.toNat) ∧
        (u ≠ s.od odYardmaster → 20 ≤ u → moves t ∧ t.firm.running = s.firm.running) ∧
        (u ≠ s.od odYardmaster → u < 20 → t.firm = { s.firm with away := some u } ∧ (t.groom u).down = true ∧
          t.od odFwUpdateStatus = 5)) ∧
      (s.firm.away = some u → u < 20 → (s.groom u).inService = true → u ∈ s.unitsPending →
        ∃ t, exec (.fwUnitSwitch u) s = .next t ∧ s.sameMem t ∧ t.firm.away = none ∧
        (s.groomReturns u = true → moves t ∧ (t.groom u).down = false) ∧
        (s.groomReturns u = false → t.firm.newUnits = s.firm.newUnits ∧ t.grooms = s.grooms))) ∧
    (∀ route h, s.mayWrite route odFarrierCtrl →
      (s.pkgOk h = true → ∃ t, exec (.farrierStage route h) s = .next t ∧ s.sameMem t ∧ t.firm = { s.firm with pkg := h } ∧
        t.od odFarrierStatus = 2 ∧ t.od odFarrierPkgVersion = h.ver.toNat) ∧
      (s.pkgOk h = false → ∃ t, exec (.farrierStage route h) s = .next t ∧ s.sameMem t ∧ t.firm = s.firm ∧
        t.od odFarrierStatus = 3) ∧
      (∃ t, exec (.farrierRevert route) s = .next t ∧ s.sameMem t ∧ t.firm = { s.firm with pkg := s.firm.base } ∧
        t.od odFarrierStatus = 0 ∧ t.od odFarrierPkgVersion = s.firm.base.ver.toNat)) ∧
    (∀ unit, s.ready = true →
      (s.firm.pkg.tests.getLsbD 0 = true → s.siteNext unit = true → ∃ t r, exec (.farrierRunStart false unit) s = .next t ∧
        t.hbm = s.hbm ∧ t.firm.runs = s.firm.runs ++ [r] ∧ r.isOf false unit ∧ r.startDt = s.clk.dt ∧
        r.pkg = s.firm.pkg ∧ (s.siteKnown unit = false → t.od odFarrierRunCount = (s.od odFarrierRunCount + 1) % 2 ^ 64)) ∧
      (s.firm.pkg.tests.getLsbD 1 = true → s.upcIdle unit = true → ∃ t r, exec (.farrierRunStart true unit) s = .next t ∧
        s.sameMem t ∧ t.firm.runs = s.firm.runs ++ [r] ∧ r.isOf true unit ∧ r.startDt = s.clk.dt ∧ r.pkg = s.firm.pkg) ∧
      (s.siteNext unit = false → exec (.farrierRunStart false unit) s = .next s) ∧
      (s.upcIdle unit = false → exec (.farrierRunStart true unit) s = .next s)) ∧
    (∀ isUpc unit digest faulted test, s.runOf isUpc unit = none →
      exec (.farrierRunEnd isUpc unit digest faulted test) s = .next s ∧
        exec (.farrierRunTimeout isUpc unit) s = .next s) ∧
    (∀ unit r, unit < 576 → s.runOf false unit = some r →
      let answer := if r.known then s.firm.running.answer else r.pkg.answer
      (∀ test, ∃ t, exec (.farrierRunEnd false unit answer false test) s = .next t ∧ t.hbm = s.hbm ∧
        (∀ y ∈ t.firm.runs, ¬ y.isOf false unit) ∧
        (r.known = false → (t.cl unit).due = false ∧
          (s.siteUsable unit = true → t.od (odSite odLastVisitSt unit) = s.st % 2 ^ 32))) ∧
      (∀ digest faulted test, faulted = true ∨ digest ≠ answer →
        ∃ t, exec (.farrierRunEnd false unit digest faulted test) s = .next t ∧ t.hbm = s.hbm ∧
          (∀ y ∈ t.firm.runs, ¬ y.isOf false unit) ∧ (t.cl unit).fenced = true ∧ (t.cl unit).power = .off ∧
          (r.known = false → t.od odFarrierSuspectCount = (s.od odFarrierSuspectCount + 1) % 2 ^ 64)) ∧
      (r.known = true ∨ s.clk.dt ≤ r.startDt + 1000000 * r.pkg.runMs →
        exec (.farrierRunTimeout false unit) s = .next s) ∧
      (r.known = false → r.startDt + 1000000 * r.pkg.runMs < s.clk.dt →
        ∃ t, exec (.farrierRunTimeout false unit) s = .next t ∧ t.hbm = s.hbm ∧ (t.cl unit).fenced = true ∧
          t.od odFarrierSuspectCount = (s.od odFarrierSuspectCount + 1) % 2 ^ 64)) ∧
    (∀ unit r, unit < 8 → s.runOf true unit = some r →
      let answer := if r.known then s.firm.running.answer else r.pkg.answer
      (∀ test, ∃ t, exec (.farrierRunEnd true unit answer false test) s = .next t ∧ s.sameMem t ∧
        (∀ y ∈ t.firm.runs, ¬ y.isOf true unit) ∧
        (r.known = true → t.upcPassed = mset zF s.upcPassed unit true)) ∧
      (∀ digest faulted test, faulted = true ∨ digest ≠ answer →
        ∃ t, exec (.farrierRunEnd true unit digest faulted test) s = .next t ∧ s.sameMem t ∧
          (∀ y ∈ t.firm.runs, ¬ y.isOf true unit) ∧
          (s.odBit odUpcEnabled unit = true → s.od (odAt odUpcState unit) = 0 → ∃ x ∈ t.upcWait, x.1 = unit))) ∧
    (∀ site, site < 576 → s.ready = true → s.siteUsable site = true →
      let last := mget zN s.firm.overdueAt site
      (s.lastVisit site + 86400 ≤ s.st → last = 0 ∨ last + 86399 ≤ s.st →
        ∃ t, exec (.farrierOverdue site) s = .next t ∧ s.sameMem t ∧
          t.firm = { s.firm with overdueAt := mset zN s.firm.overdueAt site (s.st + 1) } ∧
          (s.log.exists_ = true → ∃ e ∈ t.log.recs, e.code = 0x5031 ∧ e.seq = s.log.seq)) ∧
      (s.st < s.lastVisit site + 86400 → exec (.farrierOverdue site) s = .next s))

/-! ### Identity and closed access -/

/-- An attestation certificate is issued once in an owner epoch, in READY; QUOTE_CTRL queues a
request with its nonce, and the next one is signed over the state; a challenge is fresh; a check
answers RATE, LOCKED, NOT_PERMITTED, STALE, REFUSED or accepts, and uses the challenge up; an
accepted op opens its scope or makes its transition: FIELD closes the scopes, TRANSFER takes the
next epoch and key and erases the owner entries, RETIRE erases them, CLAIM starts epoch 0; each is
refused BUSY while a partition is composed, a quote waits or an update runs; the password digest is
written once (R538 to R554, R574; the order of the answers of a check, and that a check not BUSY
uses the challenge up, are this model's choices, log 43). -/
def Obligations.IdentityAndAccess : Prop :=
  ∀ (s : State), s.wf = true →
    let lc := s.od odLifecycle
    let epoch := s.od odOwnerEpoch
    (s.ready = true → 1 ≤ lc → lc ≤ 3 → mget zN s.sec.atkIssued epoch = 0 →
      exec .attestationCertificateIssued s =
        .next { s with sec := { s.sec with atkIssued := mset zN s.sec.atkIssued epoch (s.st + 1) } }) ∧
    (s.ready = false ∨ lc = 0 ∨ 4 ≤ lc ∨ mget zN s.sec.atkIssued epoch ≠ 0 →
      exec .attestationCertificateIssued s = .next s) ∧
    (∀ route (v : BitVec 8), let slot := quoteSlot route
      route ≤ 36 → s.mayWrite route (quoteKey odQuoteCtrl slot) →
      (v = 1 → s.od (quoteKey odQuoteStatus slot) ≠ 1 → s.od (quoteKey odQuoteStatus slot) ≠ 2 →
        ∃ t, exec (.quoteCtrl route v) s = .next t ∧ s.sameMem t ∧
          (lc = 4 → t.od (quoteKey odQuoteStatus slot) = 4 ∧ t.sec = s.sec) ∧
          (lc ≠ 4 → t.od (quoteKey odQuoteStatus slot) = 1 ∧
            t.sec.quoteQueue = s.sec.quoteQueue ++ [(slot, padTo 32 (s.octets (quoteKey odQuoteNonce slot)))])) ∧
      (v ≠ 1 ∨ s.od (quoteKey odQuoteStatus slot) = 1 ∨ s.od (quoteKey odQuoteStatus slot) = 2 →
        ∃ t, exec (.quoteCtrl route v) s = .next t ∧ s.sameOd t ∧ t.sec = s.sec)) ∧
    (s.sec.quoteQueue = [] → exec .quoteSign s = .next s) ∧
    (∀ slot nonce rest, s.sec.quoteQueue = (slot, nonce) :: rest → slot < 34 →
      (lc ≠ 4 → s.atkCertNow = [] → exec .quoteSign s = .next s) ∧
      (lc = 4 → ∃ t, exec .quoteSign s = .next t ∧ s.sameMem t ∧ t.sec.quoteQueue = rest ∧
        t.od (quoteKey odQuoteStatus slot) = 4) ∧
      (lc ≠ 4 → s.up = true → s.atkCertNow ≠ [] → ∃ t, exec .quoteSign s = .next t ∧ s.sameMem t ∧
        t.sec.quoteQueue = rest ∧ t.od (quoteKey odQuoteStatus slot) = 3 ∧
        t.dict.octets = mset (fun _ => []) s.dict.octets (quoteKey odQuote slot)
          (s.quoteBody nonce ++ padTo 49856 (Config.slhSign 2 (atkSeed epoch) (s.quoteBody nonce))))) ∧
    (∀ route x, s.routeOpen route = true → s.odGuard route false false 0x1140 1 = .ok (some x) →
      ∃ t, exec (.authChallenge route) s = .next t ∧ s.sameMem t ∧ s.sameOd t ∧
        t.sec = { s.sec with challenge := some (Config.random s.fresh, s.clk.dt) } ∧
        t.dict.ans = some ⟨odOk, 11, 32, leBytes 32 (Config.random s.fresh).toNat⟩) ∧
    (∀ route, s.routeOpen route = false → exec (.authChallenge route) s = .next (s.hostLost route)) ∧
    (∀ route, s.mayWrite route odAuthCtrl →
      ∀ r ∈ [(Instr.authCheckSignature route, false), (.authCheckPassword route, true)],
      let op := s.sel route odAuthOp
      let ok := s.authPermits route op r.2
      let fresh := ∃ c d, s.sec.challenge = some (c, d) ∧ s.clk.dt ≤ d + 60000000000
      let calm := ∀ d, s.sec.lastRefused = some d → d + 10000000000 ≤ s.clk.dt
      ∃ t, exec r.1 s = .next t ∧ s.sameMem t ∧
        (s.sec.accepted.isSome = true → t.od odAuthStatus = 1 ∧ t.sec = s.sec) ∧
        (s.sec.accepted = none → 0x10 ≤ op → s.lifeBusy = true → ok = true → t.od odAuthStatus = 1 ∧ t.sec = s.sec) ∧
        (s.sec.accepted = none → op < 0x10 ∨ s.lifeBusy = false ∨ ok = false → t.sec.challenge = none ∧
          (16 ≤ s.od odAuthFailCount → t.od odAuthStatus = 6 ∧ t.sec.accepted = none) ∧
          (s.od odAuthFailCount < 16 → ¬ calm → t.od odAuthStatus = 5 ∧ t.sec.accepted = none) ∧
          (s.od odAuthFailCount < 16 → calm →
            (ok = false → t.od odAuthStatus = 7 ∧ t.sec.accepted = none) ∧
            (ok = true → ¬ fresh → op ≠ 0x20 → t.od odAuthStatus = 4 ∧ t.sec.accepted = none) ∧
            (ok = true → fresh ∨ op = 0x20 → s.proofHolds route op r.2 = true →
              t.od odAuthStatus = 1 ∧ t.sec.accepted = some (op, route, r.2) ∧
                t.od odAuthFailCount = s.od odAuthFailCount) ∧
            (ok = true → fresh ∨ op = 0x20 → s.proofHolds route op r.2 = false →
              t.od odAuthStatus = 3 ∧ t.sec.accepted = none ∧ t.sec.lastRefused = some s.clk.dt ∧
                t.od odAuthFailCount = min 255 (s.od odAuthFailCount + 1))))) ∧
    (∀ route pw, ∀ r ∈ [(Instr.unlockTest route pw, 1), (.unlockObserve route pw, 2), (.unlockFull route pw, 3)],
      (s.sec.accepted ≠ some (r.2, route, pw) → exec r.1 s = .next s) ∧
      (s.sec.accepted = some (r.2, route, pw) → ∃ t, exec r.1 s = .next t ∧ s.sameMem t ∧ t.od odAuthStatus = 2 ∧
        t.sec.accepted = none ∧ t.sec.proofScope = max s.sec.proofScope r.2 ∧
        t.sec.maxScope = max s.sec.maxScope r.2)) ∧
    (∀ route, ∀ r ∈ [(Instr.lifecycleField route, 0x10), (.lifecycleTransfer route, 0x11),
        (.lifecycleRetire route, 0x12), (.lifecycleClaim route, 0x20)],
      (r.2 ≠ 0x20 → s.sec.accepted ≠ some (r.2, route, false) → exec r.1 s = .next s) ∧
      (s.sec.accepted = some (r.2, route, false) → s.lifeBusy = true → ∃ t, exec r.1 s = .next t ∧ s.sameMem t ∧
        t.od odAuthStatus = 1 ∧ t.od odLifecycle = lc ∧ t.sec = { s.sec with accepted := none }) ∧
      (s.sec.accepted = some (r.2, route, false) → s.lifeBusy = false → ∃ t, exec r.1 s = .next t ∧ s.sameMem t ∧
        t.od odAuthStatus = 2 ∧ t.sec.accepted = none ∧
        (r.2 = 0x10 → t.od odLifecycle = 3 ∧ t.sec.proofScope = 0 ∧ t.dict.owner = s.dict.owner) ∧
        (r.2 = 0x11 → t.od odLifecycle = 2 ∧ t.od odOwnerEpoch = epoch + 1 ∧ t.dict.owner = [] ∧ t.sec.pwDigest = none ∧
          t.sec.ownerKeys = mset (fun _ => []) s.sec.ownerKeys (epoch + 1) (padTo 64 (s.authArg route))) ∧
        (r.2 = 0x12 → t.od odLifecycle = 4 ∧ t.dict.owner = [] ∧ t.od odOwnerEpoch = epoch) ∧
        (r.2 = 0x20 → t.od odLifecycle = 2 ∧ t.od odOwnerEpoch = 0 ∧
          t.sec.ownerKeys = mset (fun _ => []) s.sec.ownerKeys 0 (padTo 64 (s.authArg route))))) ∧
    (∀ route, s.sec.accepted = none → s.routeOpen route = true → route = 0 ∨ (33 ≤ route ∧ route ≤ 35) →
      s.sel route odAuthOp = 0x20 → lc = 1 → s.lifeBusy = false →
      ∃ t, exec (.lifecycleClaim route) s = .next t ∧ s.sameMem t ∧ t.od odLifecycle = 2 ∧ t.od odOwnerEpoch = 0) ∧
    (∀ route (digest : BitVec 256) scope, s.mayWrite route odPwDigest →
      (s.pwOpen = true → scope ≤ 3 → ∃ t, exec (.pwDigestWrite route digest scope) s = .next t ∧ s.sameMem t ∧
        t.sec = { s.sec with pwDigest := some digest } ∧ t.od odPwMaxScope = scope) ∧
      (s.pwOpen = false ∨ 3 < scope → ∃ t, exec (.pwDigestWrite route digest scope) s = .next t ∧ s.sameOd t ∧
        t.sec = s.sec))

/-! ### The object dictionary and the sidebands -/

/-- A closed route, as every route is while no yardmaster is in office (but for NO_QUORUM) and the test
port in RECOVERY, is not served, and where it is that of a host whose UP port is cut off from the
mesh the access is counted as discarded; a malformed access, one to no entry, one without rights,
one of another length and one that may not write are answered so and change no entry, the third
being counted; a scalar read answers the value, and a scalar write takes the entry's own rule; owner
entries are made by their first write. A sideband frame that comes to the port, and on Ethernet from
the peer that is set, is counted where it fails its check, one that was seen within 1 s is answered
again without effect, and another is applied and its answer kept; the Ethernet port answers the
source of the datagram; an I3C port has one dynamic address and holds its answer for the private
read; the Ethernet port answers ARP and echo requests for its address (R54, R442, R487, R512, R555 to
R571, R574; that an I3C port is addressed by its dynamic address alone is presumed, log 54). -/
def Obligations.DictionaryAndSidebands : Prop :=
  ∀ (s : State), s.wf = true →
    (∀ r, s.routeOpen r.route = false →
      (∀ c ∈ [Instr.odRead r, .odWrite r], exec c s = .next (s.hostLost r.route)) ∧
      (s.up = true → r.route ≤ 32 → s.hostUp = false → s.linkUp 34 = true ∨ s.linkUp 35 = true →
        s.hostLost r.route = s.odAdd odLinkIsolatedDropCount 1) ∧
      (s.up = false ∨ 32 < r.route ∨ s.hostUp = true ∨ (s.linkUp 34 = false ∧ s.linkUp 35 = false) →
        s.hostLost r.route = s)) ∧
    (∀ route, s.up = false ∨ (s.yardActs = false ∧ s.od odStartState ≠ 0x0D) ∨ (route = 36 ∧ s.od odStartState = 0x0C) →
      s.routeOpen route = false) ∧
    (∀ r, s.routeOpen r.route = true →
      (r.badForm = true → exec (.odRead r) s = .next (s.odFail odMalformed) ∧
        exec (.odWrite r) s = .next (s.odFail odMalformed)) ∧
      (r.badForm = false → r.sub ≠ 0 → r.index < 0xC000 →
        (r.len ≤ routeLimit r.route →
          (∀ e, s.odGuard r.route r.dbg false r.index r.sub = .error e → exec (.odRead r) s = .next (s.odFail e)) ∧
          (s.odGuard r.route r.dbg false r.index r.sub = .ok none → ∃ t, exec (.odRead r) s = .next t ∧ s.sameMem t ∧
            t.od odOdDeniedCount = (s.od odOdDeniedCount + 1) % 2 ^ 64 ∧
            t.dict.ans = some ⟨odOk, 0, r.len, List.replicate r.len 0⟩) ∧
          (∀ row h, s.odGuard r.route r.dbg false r.index r.sub = .ok (some (row, h)) → odScalar row.typ = true →
            exec (.odRead r) s = .next (if r.offset = 0 ∧ r.len = odSize row.typ then
              s.odAnswer ⟨odOk, row.typ, odSize row.typ,
                leBytes (odSize row.typ) (s.odValue r.route row r.index r.sub)⟩
              else s.odFailRow odLength row.typ (odSize row.typ)))) ∧
        (r.data.length ≤ routeLimit r.route →
          (∀ e, s.odGuard r.route r.dbg false r.index r.sub = .error e → exec (.odWrite r) s = .next (s.odFail e)) ∧
          (s.odGuard r.route r.dbg false r.index r.sub = .ok none → ∃ t, exec (.odWrite r) s = .next t ∧ s.sameMem t ∧
            t.od odOdDeniedCount = (s.od odOdDeniedCount + 1) % 2 ^ 64 ∧
            t.dict.ans = some ⟨odOk, 0, r.data.length, []⟩ ∧ t.parts = s.parts ∧ t.sec = s.sec) ∧
          (∀ row h, s.odGuard r.route r.dbg false r.index r.sub = .ok (some (row, h)) → odScalar row.typ = true →
            let u := s.odPut r.route row r.index r.sub (ofLe r.data)
            (r.offset ≠ 0 ∨ r.data.length ≠ odSize row.typ →
              exec (.odWrite r) s = .next (s.odFailRow odLength row.typ (odSize row.typ))) ∧
            (r.offset = 0 → r.data.length = odSize row.typ →
              (h < 2 → exec (.odWrite r) s = .next (s.odFailRow odRange row.typ (odSize row.typ))) ∧
              (2 ≤ h → u.2 = odOk → exec (.odWrite r) s = .next (u.1.odFailRow odOk row.typ (odSize row.typ))) ∧
              (2 ≤ h → u.2 ≠ odOk → exec (.odWrite r) s = .next (s.odFailRow u.2 row.typ (odSize row.typ))))))) ∧
      (r.badForm = false → r.sub ≠ 0 → 0xC000 ≤ r.index → r.data.length ≤ routeLimit r.route → r.offset = 0 →
        s.odServed r.index r.sub = true → s.odRight (ownerRow r.index r.sub) r.route r.dbg r.index r.sub = 2 →
        r.data.length ≤ 256 → s.ownerBytes + r.data.length ≤ 262144 →
        ∃ t, exec (.odWrite r) s = .next t ∧ s.sameMem t ∧ t.ownerOfKey (odKey r.index r.sub) = some r.data ∧
          ∀ k, k ≠ odKey r.index r.sub → t.ownerOfKey k = s.ownerOfKey k)) ∧
    (∀ r, (s.plainEntry r = true → exec (.registerWrite r) s = exec (.odWrite r) s) ∧
      (s.plainEntry r = false → exec (.registerWrite r) s = .next s)) ∧
    (∀ route (f : List Byte) (d : Datagram),
      (route < 33 ∨ 35 < route ∨ s.routeOpen route = false ∨ s.portAddressed route = false ∨
        s.udpTaken route d = false → exec (.sidebandFrame route ⟨f, d⟩) s = .next s) ∧
      (33 ≤ route → route ≤ 35 → s.routeOpen route = true → s.portAddressed route = true → s.udpTaken route d = true →
        (frameGood f = false → exec (.sidebandFrame route ⟨f, d⟩) s = .next (s.odAdd odSbFrameErrorCount 1)) ∧
        (frameGood f = true → frameBits f 4 1 = 0 →
          (∀ x, s.side.kept.find? (fun x => x.route == route && x.bytes == f && KeptReq.live s.clk.dt x) = some x →
            exec (.sidebandFrame route ⟨f, d⟩) s = .next (s.sideAnswer route d x.answer)) ∧
          ((∀ x ∈ s.side.kept, x.route = route → x.bytes = f → x.dt + 1000000000 ≤ s.clk.dt) →
            let u := if frameBits f 0 4 = 2 then s.odWriteOp (frameReq route f) else s.odReadOp (frameReq route f)
            ∃ t x, exec (.sidebandFrame route ⟨f, d⟩) s = .next t ∧ t.dict = u.dict ∧ t.hbm = u.hbm ∧ x ∈ t.side.kept ∧
              x.route = route ∧ x.bytes = f ∧ x.answer = responseFrame f (u.dict.ans.getD ⟨0, 0, 0, []⟩) ∧
              (route = 35 → t.sideTx = u.sideTx ++ [.udp d.srcIp d.srcPort x.answer]) ∧
              (route ≠ 35 → t.side.last = mset (fun _ => none) u.side.last route (some x.answer)))))) ∧
    (∀ d : Datagram, s.udpTaken 33 d = true ∧ s.udpTaken 34 d = true ∧
      (s.udpTaken 35 d = true ↔ d.dstPort.toNat = s.od odSbUdpPort ∧
        (s.od odSbEthPeer = 0 ∨ d.srcIp.toNat = s.od odSbEthPeer))) ∧
    (∀ port, port < 2 → s.routeOpen (33 + port) = true →
      (s.portAddressed (33 + port) = false → exec (.i3cPrivateRead port) s = .next s) ∧
      (s.portAddressed (33 + port) = true →
        (∀ b, mget (fun _ => none) s.side.last (33 + port) = some b →
          exec (.i3cPrivateRead port) s = .next { s with sideTx := s.sideTx ++ [.frame (33 + port) b] }) ∧
        (mget (fun _ => none) s.side.last (33 + port) = none →
          exec (.i3cPrivateRead port) s = .next { s with sideTx := s.sideTx ++ [.nack port] })) ∧
      (∀ setdasa static (dynamic : BitVec 7),
        (s.portAddressed (33 + port) = false → setdasa = false ∨ static = s.i3cStatic port →
          exec (.i3cAddressAssign port setdasa static dynamic) s =
            .next { s with side := { s.side with dyn := mset (fun _ => none) s.side.dyn (33 + port) (some dynamic) } }) ∧
        (s.portAddressed (33 + port) = true ∨ (setdasa = true ∧ static ≠ s.i3cStatic port) →
          exec (.i3cAddressAssign port setdasa static dynamic) s = .next s))) ∧
    (∀ (target : BitVec 32) mac (ip : BitVec 32) (payload : List Byte),
      (s.routeOpen 35 = true → target.toNat = s.od odSbIpv4Addr →
        exec (.arpRequest target mac ip) s = .next { s with sideTx := s.sideTx ++ [.arpReply mac ip] } ∧
        (payload.length ≤ 1472 → exec (.icmpEcho target ip payload) s =
          .next { s with sideTx := s.sideTx ++ [.echoReply ip payload] }) ∧
        (1472 < payload.length → exec (.icmpEcho target ip payload) s = .next s)) ∧
      (s.routeOpen 35 = false ∨ target.toNat ≠ s.od odSbIpv4Addr →
        exec (.arpRequest target mac ip) s = .next s ∧ exec (.icmpEcho target ip payload) s = .next s))
end

