-- ==== Sys2Proof/Laws/Cycle.lean ====
section
/-! SUPPORT. Everything that the start of a core cycle does: the engines change the accesses in flight, the bank uses and
their own records, and nothing else of the core. -/

namespace Sys2Proof.Machine

open Sys2Proof

/-- A core without its accesses in flight and the records of its engines. -/
def CoreSt.outside (c : CoreSt) : CoreSt :=
  { c with reads := [], writes := [], banks := [], confl := [], run := none, prog := [], pload := [],
           mx := { c.mx with loads := [], passes := [], drains := [] } }

theorem CoreSt.useBank_outside (c : CoreSt) (n b : Nat) (w : Bool) : (c.useBank n b w).1.outside = c.outside := by
  unfold CoreSt.useBank; dsimp only; split <;> rfl

theorem CoreSt.readRow_outside (c : CoreSt) (bpc slot rank row : Nat) (dst : LoadDst) :
    (c.readRow bpc slot rank row dst).1.outside = c.outside := by
  unfold CoreSt.readRow; exact CoreSt.useBank_outside c _ _ _

theorem CoreSt.readRows_outside (bpc slot : Nat) (rows : List Nat) : ∀ c : CoreSt,
    (c.readRows bpc slot rows).1.outside = c.outside := by
  induction rows with
  | nil => intro c; rfl
  | cons a l ih => intro c; exact (ih _).trans (CoreSt.readRow_outside c _ _ _ _ _)

theorem CoreSt.useWrites_outside (rows : List Nat) : ∀ c : CoreSt, (c.useWrites rows).1.outside = c.outside := by
  induction rows with
  | nil => intro c; rfl
  | cons a l ih => intro c; exact (ih _).trans (CoreSt.useBank_outside c _ _ _)

theorem CoreSt.writeRow_outside (c : CoreSt) (row : Nat) (d : Row) : (c.writeRow row d).1.outside = c.outside := by
  unfold CoreSt.writeRow; exact CoreSt.useBank_outside c _ _ _

theorem CoreSt.useLater_outside (c : CoreSt) (bpc slot n bank : Nat) :
    (c.useLater bpc slot n bank).outside = c.outside := by
  unfold CoreSt.useLater; dsimp only; split <;> exact CoreSt.useBank_outside c _ _ _

theorem CoreSt.writePart_outside (c : CoreSt) (bpc slot row : Nat) (d l : Row) :
    (c.writePart bpc slot row d l).1.outside = c.outside := by
  unfold CoreSt.writePart
  exact (CoreSt.useLater_outside _ _ _ _ _).trans
    ((CoreSt.useLater_outside _ _ _ _ _).trans (CoreSt.useBank_outside c _ _ _))

theorem CoreSt.runWrites_outside (bpc : Nat) : ∀ (n : Nat) (c : CoreSt) (l : List (Nat × Row × Row)),
    (CoreSt.runWrites bpc n c l).1.outside = c.outside := by
  intro n
  induction n with
  | zero => intro c l; rfl
  | succ n ih =>
    intro c l
    cases l with
    | nil => rfl
    | cons a l =>
      unfold CoreSt.runWrites; dsimp only
      refine (ih _ _).trans ?_
      split
      · exact CoreSt.writeRow_outside c _ _
      · exact CoreSt.writePart_outside c _ _ _ _ _

theorem CoreSt.loadRead_outside (c : CoreSt) (l : MxLoadSt) : (c.loadRead l).1.outside = c.outside := by
  unfold CoreSt.loadRead; dsimp only
  rw [CoreSt.readRows_outside, CoreSt.readRows_outside]

theorem CoreSt.passRead_outside (c : CoreSt) (p : PassSt) : (c.passRead p).1.outside = c.outside := by
  unfold CoreSt.passRead; dsimp only
  rw [CoreSt.readRows_outside, CoreSt.readRows_outside, CoreSt.readRows_outside, CoreSt.readRows_outside]

theorem CoreSt.drainRead_outside (c : CoreSt) (d : DrainSt) : (c.drainRead d).1.outside = c.outside := by
  unfold CoreSt.drainRead; dsimp only
  split
  · rw [CoreSt.readRows_outside]
  · split
    · rw [CoreSt.readRows_outside]
    · rfl

/-- A fold whose every step leaves the rest of the core alone leaves it alone. -/
theorem CoreSt.foldl_outside {α β : Type} {f : CoreSt × β → α → CoreSt × β}
    (hf : ∀ a x, (f a x).1.outside = a.1.outside) (l : List α) : ∀ a, (l.foldl f a).1.outside = a.1.outside := by
  induction l with
  | nil => intro a; rfl
  | cons x l ih => intro a; exact (ih _).trans (hf a x)

theorem CoreSt.mxCycle_outside (c : CoreSt) : c.mxCycle.1.outside = c.outside := by
  have e : ∀ (y : CoreSt) l p d, CoreSt.outside { y with mx := { y.mx with loads := l, passes := p, drains := d } } =
      y.outside := fun _ _ _ _ => rfl
  unfold CoreSt.mxCycle; dsimp only
  rw [e, CoreSt.foldl_outside, CoreSt.foldl_outside, CoreSt.foldl_outside]
  · intro a x
    split
    · exact CoreSt.loadRead_outside _ _
    · rfl
  · intro a x
    split
    · exact CoreSt.passRead_outside _ _
    · rfl
  · intro a x
    split
    · rw [CoreSt.useWrites_outside, CoreSt.drainRead_outside]
    · rw [CoreSt.drainRead_outside]

theorem CoreSt.runCycle_outside (c : CoreSt) : c.runCycle.1.outside = c.outside := by
  have e : ∀ (y : CoreSt) r, CoreSt.outside { y with run := r } = y.outside := fun _ _ => rfl
  unfold CoreSt.runCycle
  split
  · rfl
  · split
    · rfl
    · dsimp only
      rw [e]
      split <;> split <;> dsimp only [CoreSt.runReads] <;>
        simp only [CoreSt.runWrites_outside, CoreSt.readRows_outside]

theorem CoreSt.ploadCycle_outside (c : CoreSt) : c.ploadCycle.1.outside = c.outside := by
  have e : ∀ (y : CoreSt) r, CoreSt.outside { y with prog := r } = y.outside := fun _ _ => rfl
  unfold CoreSt.ploadCycle; dsimp only
  rw [CoreSt.foldl_outside]
  · rfl
  · intro a x
    split
    · dsimp only [CoreSt.ploadRead]; rw [e, CoreSt.readRows_outside]
    · rfl

/-- What the engines do in a new cycle leaves the rest of the core alone. -/
theorem CoreSt.engines_outside (c : CoreSt) : c.engines.1.outside = c.outside := by
  unfold CoreSt.engines; dsimp only
  rw [CoreSt.ploadCycle_outside, CoreSt.runCycle_outside, CoreSt.mxCycle_outside]
  rfl

/-- A cycle begins with every register, flag and memory of its core as it stands, no slot issued and nothing frozen; its
causes are those noted before it, those that struck the frozen core, those due in it, and those of its bundle. -/
theorem State.beginCycle_eq (s : State) (c : CoreId) (own : List Cause) : ∃ y ks,
    s.beginCycle c own = s.setCore c ⟨y, y⟩ ∧
    y.causes = (s.cur c).causes ++ (s.cur c).late ++ ks ++ own.map (fun k => (k.code, k.bpc, k.slot)) ∧
    y.outside = { (s.cur c).outside with freeze := .none, causes := y.causes, late := [] } := by
  have h := CoreSt.engines_outside (s.cur c).takeRows
  have ht : (s.cur c).takeRows.outside = (s.cur c).outside := rfl
  rw [ht] at h
  unfold State.beginCycle
  generalize (s.cur c).takeRows.engines = q at h ⊢
  obtain ⟨y, ks⟩ := q
  have hc : y.causes = (s.cur c).causes := (show y.outside.causes = (s.cur c).outside.causes by rw [h])
  have hl : y.late = (s.cur c).late := (show y.outside.late = (s.cur c).outside.late by rw [h])
  refine ⟨_, (s.causesDue c y ++ ks).map fun k => (k.code, k.bpc, k.slot), rfl, ?_, ?_⟩
  · simp only [CoreSt.fail, hc, hl, List.map_append, List.append_assoc]
  · rw [← h]; rfl

end Sys2Proof.Machine
end

