-- ==== Sys2Proof/Laws/Map.lean ====
section
/-! SUPPORT. The laws of sparse maps: a read after a write, and the canonical form kept by every update. -/

namespace Sys2Proof

variable {α : Type} {d : Nat → α}

/-- A canonical map reads as the default below its first key. -/
theorem mget_below [DecidableEq α] {m : SMap α} {lo k : Nat} (h : mwfFrom d lo m = true) (hk : k < lo) :
    mget d m k = d k := by
  cases m with
  | nil => rfl
  | cons p m =>
    simp only [mwfFrom, Bool.and_eq_true, decide_eq_true_eq] at h
    simp only [mget]
    split <;> first | omega | (split <;> first | rfl | omega)

/-- A weaker bound of the keys. -/
theorem mwfFrom_mono [DecidableEq α] {m : SMap α} {lo lo' : Nat} (h : mwfFrom d lo m = true) (hl : lo' ≤ lo) :
    mwfFrom d lo' m = true := by
  cases m with
  | nil => rfl
  | cons p m =>
    simp only [mwfFrom, Bool.and_eq_true, decide_eq_true_eq] at h ⊢
    exact ⟨⟨by omega, h.1.2⟩, h.2⟩

/-- A write keeps the canonical form above a bound that its key meets. -/
theorem mset_wfFrom [DecidableEq α] {m : SMap α} {lo k : Nat} (v : α) (h : mwfFrom d lo m = true) (hk : lo ≤ k) :
    mwfFrom d lo (mset d m k v) = true := by
  induction m generalizing lo with
  | nil =>
    simp only [mset]
    split
    · rfl
    · simp [mwfFrom, *]
  | cons p m ih =>
    obtain ⟨k', v'⟩ := p
    simp only [mwfFrom, Bool.and_eq_true, decide_eq_true_eq] at h
    simp only [mset]
    split
    · subst_vars
      split
      · exact mwfFrom_mono h.2 (by omega)
      · simp [mwfFrom, *]
    · split
      · split
        · simp [mwfFrom, h]
        · simp only [mwfFrom, Bool.and_eq_true, decide_eq_true_eq]
          exact ⟨⟨hk, ‹_›⟩, ⟨by omega, h.1.2⟩, h.2⟩
      · simp only [mwfFrom, Bool.and_eq_true, decide_eq_true_eq]
        exact ⟨h.1, ih h.2 (by omega)⟩

/-- A write keeps the canonical form. -/
theorem mset_wf [DecidableEq α] {m : SMap α} (k : Nat) (v : α) (h : mwf d m = true) : mwf d (mset d m k v) = true :=
  mset_wfFrom v h (Nat.zero_le k)

/-- A read after a write of the same key. -/
theorem mget_mset_same [DecidableEq α] {m : SMap α} {k : Nat} {v : α} (h : mwf d m = true) :
    mget d (mset d m k v) k = v := by
  have key : ∀ (m : SMap α) (lo : Nat), mwfFrom d lo m = true → mget d (mset d m k v) k = v := by
    intro m
    induction m with
    | nil => intro lo _; simp only [mset]; split <;> simp [mget, *]
    | cons p m ih =>
      obtain ⟨k', v'⟩ := p
      intro lo h
      simp only [mwfFrom, Bool.and_eq_true, decide_eq_true_eq] at h
      simp only [mset]
      split
      · subst_vars
        split
        · rw [mget_below h.2 (by omega)]; simp [*]
        · simp [mget]
      · split
        · split
          · simp [mget, *]
          · simp [mget]
        · simp only [mget, if_neg ‹¬k = k'›, if_neg ‹¬k < k'›]
          exact ih _ h.2
  exact key m 0 h

/-- A write leaves every other key. -/
theorem mget_mset_other [DecidableEq α] {m : SMap α} {k j : Nat} {v : α} (h : mwf d m = true) (hj : j ≠ k) :
    mget d (mset d m k v) j = mget d m j := by
  have key : ∀ (m : SMap α) (lo : Nat), mwfFrom d lo m = true → mget d (mset d m k v) j = mget d m j := by
    intro m
    induction m with
    | nil => intro lo _; simp only [mset]; split <;> simp [mget, hj]
    | cons p m ih =>
      obtain ⟨k', v'⟩ := p
      intro lo h
      simp only [mwfFrom, Bool.and_eq_true, decide_eq_true_eq] at h
      simp only [mset]
      split
      · subst_vars
        split
        · simp only [mget, if_neg hj]
          split
          · exact mget_below h.2 (by omega)
          · rfl
        · simp [mget, hj]
      · split
        · split
          · rfl
          · simp only [mget, if_neg hj]
            split
            · rw [if_neg (by omega), if_pos (by omega)]
            · rfl
        · simp only [mget]
          rw [ih _ h.2]
  exact key m 0 h

/-- Of two writes of one key the later stands. -/
theorem mset_mset [DecidableEq α] {m : SMap α} {k : Nat} {v w : α} (h : mwf d m = true) :
    mset d (mset d m k v) k w = mset d m k w := by
  have key : ∀ (m : SMap α) (lo : Nat), mwfFrom d lo m = true → mset d (mset d m k v) k w = mset d m k w := by
    intro m
    induction m with
    | nil => intro lo _; simp only [mset]; split <;> simp [mset]
    | cons p m ih =>
      obtain ⟨k', v'⟩ := p
      intro lo h
      simp only [mwfFrom, Bool.and_eq_true, decide_eq_true_eq] at h
      simp only [mset]
      split
      · subst_vars
        split
        · cases m with
          | nil => simp [mset]
          | cons q m =>
            have h2 := h.2
            simp only [mwfFrom, Bool.and_eq_true, decide_eq_true_eq] at h2
            simp only [mset]
            rw [if_neg (by omega), if_pos (by omega)]
        · simp [mset]
      · split
        · split
          · simp only [mset, if_neg ‹¬k = k'›, if_pos ‹k < k'›]
          · simp [mset]
        · simp only [mset, if_neg ‹¬k = k'›, if_neg ‹¬k < k'›]
          rw [ih _ h.2]
  exact key m 0 h

/-- Writes at consecutive keys keep the canonical form. -/
theorem msetRange_wf [DecidableEq α] {m : SMap α} (k : Nat) (l : List α) (h : mwf d m = true) :
    mwf d (msetRange d m k l) = true := by
  induction l generalizing m k with
  | nil => exact h
  | cons v vs ih => exact ih _ (mset_wf k v h)

/-- Dropping entries keeps the canonical form. -/
theorem filter_wf [DecidableEq α] {m : SMap α} (p : Nat × α → Bool) (h : mwf d m = true) :
    mwf d (m.filter p) = true := by
  have key : ∀ (m : SMap α) (lo : Nat), mwfFrom d lo m = true → mwfFrom d lo (m.filter p) = true := by
    intro m
    induction m with
    | nil => intro lo _; rfl
    | cons q m ih =>
      intro lo h
      simp only [mwfFrom, Bool.and_eq_true, decide_eq_true_eq] at h
      simp only [List.filter_cons]
      split
      · simp only [mwfFrom, Bool.and_eq_true, decide_eq_true_eq]
        exact ⟨h.1, ih _ h.2⟩
      · exact ih _ (mwfFrom_mono h.2 (by omega))
  exact key m 0 h

/-- Clearing a range keeps the canonical form. -/
theorem mclearRange_wf [DecidableEq α] {m : SMap α} (k n : Nat) (h : mwf d m = true) :
    mwf d (mclearRange m k n) = true := filter_wf _ h

/-- The empty map is canonical. -/
theorem mwf_nil [DecidableEq α] : mwf d ([] : SMap α) = true := rfl

/-- Updates of a map in a fold keep the canonical form. -/
theorem foldl_wf {β : Type} [DecidableEq α] (f : SMap α → β → SMap α) (hf : ∀ m b, mwf d m = true → mwf d (f m b) = true)
    (l : List β) {m : SMap α} (h : mwf d m = true) : mwf d (l.foldl f m) = true := by
  induction l generalizing m with
  | nil => exact h
  | cons b l ih => exact ih (hf m b h)

/-- A read of a key outside a range that is written. -/
theorem mget_msetRange_other [DecidableEq α] {m : SMap α} {k j : Nat} (l : List α) (h : mwf d m = true)
    (hj : j < k ∨ k + l.length ≤ j) : mget d (msetRange d m k l) j = mget d m j := by
  induction l generalizing m k with
  | nil => rfl
  | cons v vs ih =>
    simp only [List.length_cons] at hj
    rw [msetRange, ih (mset_wf k v h) (by omega), mget_mset_other h (by omega)]

/-- A read of a key inside a range that is written. -/
theorem mget_msetRange_in [DecidableEq α] {m : SMap α} {k j : Nat} (l : List α) (h : mwf d m = true)
    (hj : j < l.length) : mget d (msetRange d m k l) (k + j) = l[j] := by
  induction l generalizing m k j with
  | nil => simp at hj
  | cons v vs ih =>
    cases j with
    | zero =>
      rw [msetRange, mget_msetRange_other _ (mset_wf k v h) (by omega)]
      simp [mget_mset_same h]
    | succ j =>
      have := ih (m := mset d m k v) (k := k + 1) (j := j) (mset_wf k v h) (by simpa using hj)
      simpa [msetRange, Nat.add_assoc, Nat.add_comm 1 j] using this

end Sys2Proof
end

