-- ==== Sys2Proof/Laws/Frames.lean ====
section
/-! SUPPORT. What the shared operations leave alone: logging an event, completing a command and writing the studbook
change the log, the dictionary, the rings, the host reads in flight and what has been sent, and nothing else. -/

namespace Sys2Proof.Machine

open Sys2Proof

variable {s t u : State}

/-- `t` differs from `s` in the log, the dictionary, the rings, the started commands, the host reads in flight and what has been
sent at most. -/
def State.LogFrame (s t : State) : Prop :=
  t = { s with log := t.log, dict := t.dict, rings := t.rings, cmds := t.cmds, hostTx := t.hostTx, hrd := t.hrd,
               sideTx := t.sideTx }

/-- `t` differs from `s` in the studbook, the start record and what a log frame leaves open at most. -/
def State.StudFrame (s t : State) : Prop := State.LogFrame { s with stud := t.stud, start := t.start } t

theorem State.LogFrame.refl (s : State) : State.LogFrame s s := rfl

theorem State.LogFrame.trans (h : State.LogFrame s t) (k : State.LogFrame t u) : State.LogFrame s u := by
  unfold State.LogFrame at *; rw [k, h]

theorem State.LogFrame.sameMem (h : State.LogFrame s t) : s.sameMem t := by
  unfold State.LogFrame at h; rw [h]; exact ⟨rfl, rfl, rfl, rfl, rfl, rfl⟩

theorem State.LogFrame.cores (h : State.LogFrame s t) : t.cores = s.cores := by unfold State.LogFrame at h; rw [h]

theorem State.LogFrame.clusters (h : State.LogFrame s t) : t.clusters = s.clusters := by
  unfold State.LogFrame at h; rw [h]

theorem State.LogFrame.bays (h : State.LogFrame s t) : t.bays = s.bays := by unfold State.LogFrame at h; rw [h]

theorem State.LogFrame.grooms (h : State.LogFrame s t) : t.grooms = s.grooms := by unfold State.LogFrame at h; rw [h]

theorem State.LogFrame.parts (h : State.LogFrame s t) : t.parts = s.parts := by unfold State.LogFrame at h; rw [h]

theorem State.LogFrame.links (h : State.LogFrame s t) : t.links = s.links := by unfold State.LogFrame at h; rw [h]

theorem State.LogFrame.clk (h : State.LogFrame s t) : t.clk = s.clk := by unfold State.LogFrame at h; rw [h]

theorem State.LogFrame.stud (h : State.LogFrame s t) : t.stud = s.stud := by unfold State.LogFrame at h; rw [h]

theorem State.StudFrame.sameMem (h : State.StudFrame s t) : s.sameMem t := by
  unfold State.StudFrame State.LogFrame at h; rw [h]; exact ⟨rfl, rfl, rfl, rfl, rfl, rfl⟩

theorem State.StudFrame.clusters (h : State.StudFrame s t) : t.clusters = s.clusters := by
  unfold State.StudFrame State.LogFrame at h; rw [h]

theorem State.StudFrame.parts (h : State.StudFrame s t) : t.parts = s.parts := by
  unfold State.StudFrame State.LogFrame at h; rw [h]

/-- A fold of steps that keep a frame keeps it. -/
theorem State.LogFrame.foldl {β : Type} {f : State → β → State} (hf : ∀ s b, State.LogFrame s (f s b)) (l : List β) :
    ∀ s, State.LogFrame s (l.foldl f s) := by
  induction l with
  | nil => exact fun s => rfl
  | cons b l ih => exact fun s => (hf s b).trans (ih (f s b))

theorem State.odSet_frame (s : State) (k v : Nat) : State.LogFrame s (s.odSet k v) := rfl

theorem State.odAdd_frame (s : State) (k n : Nat) : State.LogFrame s (s.odAdd k n) := rfl

/-- A message to the card goes out, or is discarded and counted. -/
theorem State.toCard_frame (s : State) (m : HostMsg) : State.LogFrame s (s.toCard m) := by
  unfold State.toCard; split <;> rfl

theorem State.intr_frame (s : State) (r : Nat) : State.LogFrame s (s.intr r) := by
  unfold State.intr; dsimp only
  split
  · rfl
  · split
    · refine State.LogFrame.trans ?_ (State.toCard_frame _ _)
      rfl
    · rfl

theorem State.writeCpl_frame (s : State) (c : RingCmd) (status : Nat) (res : Results) :
    State.LogFrame s (s.writeCpl c status res) := by
  unfold State.writeCpl State.hostWrite; dsimp only
  refine State.LogFrame.trans ?_ ((State.toCard_frame _ _).trans (State.intr_frame _ _))
  rfl

theorem State.alertPort_frame (s : State) (port code : Nat) (seq : W32) :
    State.LogFrame s (s.alertPort port code seq) := by
  unfold State.alertPort; dsimp only
  split
  · split <;> rfl
  · rfl

theorem State.alert_frame (s : State) (code : Nat) (seq : W32) : State.LogFrame s (s.alert code seq) := by
  unfold State.alert; dsimp only
  split
  · refine State.LogFrame.trans ?_ (((State.alertPort_frame _ _ _ _).trans (State.alertPort_frame _ _ _ _)).trans
      (State.alertPort_frame _ _ _ _))
    rfl
  · rfl

theorem State.appendEv_frame (s : State) (code : Nat) (un : UnitId) (part : Option Nat) (lunit : Nat)
    (payload : List Nat) : State.LogFrame s (s.appendEv code un part lunit payload).1 := by
  unfold State.appendEv; dsimp only
  split
  · rfl
  · split
    · rfl
    · refine State.LogFrame.trans ?_ (State.alert_frame _ _ _)
      rfl

/-- Logging an event changes the log, the dictionary, the rings, the started commands and what has been sent. -/
theorem State.logEv_frame (s : State) (code : Nat) (un : UnitId) (part : Option Nat) (lunit : Nat)
    (payload : List Nat) : State.LogFrame s (s.logEv code un part lunit payload) := by
  have h := State.appendEv_frame s code un part lunit payload
  unfold State.logEv
  generalize s.appendEv code un part lunit payload = x at h
  obtain ⟨a, b⟩ := x
  cases b
  · exact h
  · exact h.trans (State.LogFrame.foldl (fun s c => State.writeCpl_frame s c _ _) _ _)

/-- Completing a command changes what logging an event changes. -/
theorem State.complete_frame (s : State) (c : RingCmd) (status : Nat) (res : Results) :
    State.LogFrame s (s.complete c status res) := by
  unfold State.complete; dsimp only
  split
  · refine (State.writeCpl_frame s c status res).trans (State.LogFrame.trans ?_ (State.logEv_frame _ _ _ _ _ _))
    rfl
  · exact State.writeCpl_frame _ _ _ _

/-- A log frame after a studbook frame. -/
theorem State.StudFrame.log (h : State.StudFrame s t) (k : State.LogFrame t u) : State.StudFrame s u := by
  unfold State.StudFrame State.LogFrame at *
  rw [k, h]

/-- Writing a studbook record changes the studbook, the start record and what logging an event changes. -/
theorem State.studPut_frame (s : State) (r : StudRec) : State.StudFrame s (s.studPut r) := by
  have base : ∀ (l : List StudRec) (n : Nat) (x : Start),
      State.StudFrame s ((({ s with stud := l, start := x } : State)).odSet odStudbookCount n) := fun _ _ _ => rfl
  unfold State.studPut; dsimp only
  split
  · exact base _ _ _
  · split
    · exact ((base _ _ _).log (State.logEv_frame _ _ _ _ _ _)).log (State.logEv_frame _ _ _ _ _ _)
    · exact (base _ _ _).log (State.logEv_frame _ _ _ _ _ _)

/-- Failing a unit changes what a studbook record changes. -/
theorem State.studFail_frame (s : State) (un : UnitId) (source detail : Nat) :
    State.StudFrame s (s.studFail un source detail) := by
  unfold State.studFail; dsimp only
  split
  · rfl
  · exact State.studPut_frame _ _

/-- Returning a unit changes what a studbook record changes. -/
theorem State.studReturn_frame (s : State) (un : UnitId) (source : Nat) :
    State.StudFrame s (s.studReturn un source) := by
  unfold State.studReturn
  split
  · rfl
  · exact State.studPut_frame _ _

/-! ### Units after a write -/

/-- A core that is written is read back, in a canonical state. -/
theorem State.core_setCore (h : s.wf = true) (c : CoreId) (x : Core) : (s.setCore c x).core c = x := by
  have hc : mwf zCore s.cores = true := by simp [State.wf, State.unitsWf] at h; simp [h]
  exact mget_mset_same hc

/-- Of two writes of one core the later stands, in a canonical state. -/
theorem State.setCore_setCore (h : s.wf = true) (c : CoreId) (x y : Core) :
    (s.setCore c x).setCore c y = s.setCore c y := by
  have hc : mwf zCore s.cores = true := by simp [State.wf, State.unitsWf] at h; simp [h]
  simp only [State.setCore, mset_mset hc]

/-- Other cores stay. -/
theorem State.core_setCore_other (h : s.wf = true) {c d : CoreId} (x : Core) (hd : d ≠ c) :
    (s.setCore c x).core d = s.core d := by
  have hc : mwf zCore s.cores = true := by simp [State.wf, State.unitsWf] at h; simp [h]
  exact mget_mset_other hc hd

/-- A site that is changed is read back, in a canonical state. -/
theorem State.cl_modCl (h : s.wf = true) (site : SiteId) (f : Cluster → Cluster) :
    (s.modCl site f).cl site = f (s.cl site) := by
  have hc : mwf zCl s.clusters = true := by simp [State.wf, State.unitsWf] at h; simp [h]
  exact mget_mset_same hc

/-- Other sites stay. -/
theorem State.cl_modCl_other (h : s.wf = true) {a b : SiteId} (f : Cluster → Cluster) (hb : b ≠ a) :
    (s.modCl a f).cl b = s.cl b := by
  have hc : mwf zCl s.clusters = true := by simp [State.wf, State.unitsWf] at h; simp [h]
  exact mget_mset_other hc hb

/-- A partition that is changed is read back, in a canonical state. -/
theorem State.part_modPart (h : s.wf = true) (p : Nat) (f : Part → Part) : (s.modPart p f).part p = f (s.part p) := by
  have hc : mwf zPart s.parts = true := by simp [State.wf, State.unitsWf] at h; simp [h]
  exact mget_mset_same hc

/-- Other partitions stay. -/
theorem State.part_modPart_other (h : s.wf = true) {p q : Nat} (f : Part → Part) (hq : q ≠ p) :
    (s.modPart p f).part q = s.part q := by
  have hc : mwf zPart s.parts = true := by simp [State.wf, State.unitsWf] at h; simp [h]
  exact mget_mset_other hc hq

/-- A link that is changed is read back, in a canonical state. -/
theorem State.link_modLink (h : s.wf = true) (k : Nat) (f : Link → Link) : (s.modLink k f).link k = f (s.link k) := by
  have hc : mwf zLink s.links = true := by simp [State.wf, State.unitsWf] at h; simp [h]
  exact mget_mset_same hc

/-- A bay that is changed is read back, in a canonical state. -/
theorem State.bay_modBay (h : s.wf = true) (b : Nat) (f : Bay → Bay) : (s.modBay b f).bay b = f (s.bay b) := by
  have hc : mwf zBay s.bays = true := by simp [State.wf, State.unitsWf] at h; simp [h]
  exact mget_mset_same hc

/-! ### Writes over a route -/

/-- A route that may write an entry runs the entry's rule: an accepted write gives its state with OD_OK, a refused one
leaves the state as it was but for the answer. -/
theorem State.keyWrite_may {route key : Nat} (h : s.mayWrite route key) (k : State → State × Nat) :
    ∃ typ n, s.keyWrite route key k =
      if (k s).2 = odOk then (k s).1.odFailRow odOk typ n else s.odFailRow (k s).2 typ n := by
  obtain ⟨ho, r, hr⟩ := h
  refine ⟨r.typ, odSize r.typ, ?_⟩
  have hrow : odRow (key / 256) (key % 256) = some r := by
    unfold State.odGuard at hr
    split at hr
    · cases hr
    · split at hr
      · cases hr
      · split at hr
        · split at hr <;> cases hr
        · next q hq => dsimp only at hr; split at hr <;> simp_all
  simp only [State.keyWrite, State.odScalarWrite, ho, hr, hrow]
  simp

end Sys2Proof.Machine
end

