-- ==== Sys2Proof/Laws/Keeps.lean ====
section
/-! SUPPORT. What the operations of the block keep: the queue, and the canonical form of every map. `Keeps r t` says so of
a state that comes from `r`; the lemmas here carry it through the ways a meaning is put together. -/

namespace Sys2Proof.Machine

open Sys2Proof

/-- The queue is that of `r`, and the maps are canonical if those of `r` are: of the parts of a state. -/
def KeepsC (r : State) (q : List Instr) (m0 : SMap Byte) (m1 : SMap Bool) (m2 : SMap Bool) (m3 : SMap Byte) (m4 : SMap Bool) (m5 : SMap Bool) (m6 : SMap
    Nat) (m7 : SMap Core) (m8 : SMap Cluster) (m9 : SMap Bay) (m10 : SMap Groom) (m11 : SMap Part) (m12 : SMap Ring)
    (m13 : SMap Link) : Prop :=
  q = r.pending ∧ (r.wf = true →
    Memory.wf m0 = true ∧ Memory.marksWf m1 = true ∧ Memory.marksWf m2 = true ∧ Memory.wf m3 = true ∧ Memory.marksWf
    m4 = true ∧ Memory.marksWf m5 = true ∧ mwf odDefault m6 = true ∧ mwf zCore m7 = true ∧ mwf zCl m8 = true ∧ mwf
    zBay m9 = true ∧ mwf zGroom m10 = true ∧ mwf zPart m11 = true ∧ mwf zRing m12 = true ∧ mwf zLink m13 = true)

/-- The queue of `t` is that of `r`, and what `t` holds is in canonical form if what `r` holds is. -/
def Keeps (r t : State) : Prop :=
  KeepsC r t.pending t.hbm t.hbmPoison t.hbmOvf t.cmem t.cmemPoison t.cmemOvf t.dict.val t.cores t.clusters t.bays
    t.grooms t.parts t.rings t.links

/-- What an outcome that is a next state keeps. -/
def KeepsO (r : State) (o : Host.Outcome State Fault Refusal) : Prop := ∀ t, o = .next t → Keeps r t

variable {r s t : State}

theorem State.wf_iff : s.wf = true ↔
    Memory.wf s.hbm = true ∧ Memory.marksWf s.hbmPoison = true ∧ Memory.marksWf s.hbmOvf = true ∧ Memory.wf s.cmem =
    true ∧ Memory.marksWf s.cmemPoison = true ∧ Memory.marksWf s.cmemOvf = true ∧ mwf odDefault s.dict.val = true ∧
    mwf zCore s.cores = true ∧ mwf zCl s.clusters = true ∧ mwf zBay s.bays = true ∧ mwf zGroom s.grooms = true ∧ mwf
    zPart s.parts = true ∧ mwf zRing s.rings = true ∧ mwf zLink s.links = true := by
  simp [State.wf, State.memWf, State.unitsWf, and_assoc]

theorem Keeps.refl (s : State) : Keeps s s := ⟨rfl, fun h => State.wf_iff.mp h⟩

theorem Keeps.queue (h : Keeps s t) : t.pending = s.pending := h.1

theorem Keeps.wf (h : Keeps s t) (hs : s.wf = true) : t.wf = true := State.wf_iff.mpr (h.2 hs)

theorem Keeps.fold (h : Keeps r t) :
    KeepsC r t.pending t.hbm t.hbmPoison t.hbmOvf t.cmem t.cmemPoison t.cmemOvf t.dict.val t.cores t.clusters t.bays
    t.grooms t.parts t.rings t.links := h

theorem Keeps.mk_iff {a0 a1 a2 a3 a4 a5 a6 a7 a8 a9 a10 a11 a12 a13 a14 a15 a16 a17 a18 a19 a20 a21 a22 a23 a24
    a25 a26 a27 a28 a29 a30 a31 a32 a33 a34 a35 a36 a37 a38 a39 a40 a41 a42 a43 a44 a45 a46 a47 a48 a49 a50 a51
    a52 a53 a54 a55 a56 a57 a58 a59 a60 a61 a62 a63 a64} :
    Keeps r (State.mk a0 a1 a2 a3 a4 a5 a6 a7 a8 a9 a10 a11 a12 a13 a14 a15 a16 a17 a18 a19 a20 a21 a22 a23 a24
    a25 a26 a27 a28 a29 a30 a31 a32 a33 a34 a35 a36 a37 a38 a39 a40 a41 a42 a43 a44 a45 a46 a47 a48 a49 a50 a51
    a52 a53 a54 a55 a56 a57 a58 a59 a60 a61 a62 a63 a64) ↔
      KeepsC r a0 a12 a13 a14 a9 a10 a11 a5.val a7 a8 a17 a18 a39 a40 a47 := Iff.rfl

theorem KeepsC.maps {m0 : SMap Byte} {m1 : SMap Bool} {m2 : SMap Bool} {m3 : SMap Byte} {m4 : SMap Bool} {m5 : SMap Bool} {m6 : SMap
    Nat} {m7 : SMap Core} {m8 : SMap Cluster} {m9 : SMap Bay} {m10 : SMap Groom} {m11 : SMap Part} {m12 : SMap Ring}
    {m13 : SMap Link} (h : Keeps r t)
    (h0 : Memory.wf t.hbm = true → Memory.wf m0 = true)
    (h1 : Memory.marksWf t.hbmPoison = true → Memory.marksWf m1 = true)
    (h2 : Memory.marksWf t.hbmOvf = true → Memory.marksWf m2 = true)
    (h3 : Memory.wf t.cmem = true → Memory.wf m3 = true)
    (h4 : Memory.marksWf t.cmemPoison = true → Memory.marksWf m4 = true)
    (h5 : Memory.marksWf t.cmemOvf = true → Memory.marksWf m5 = true)
    (h6 : mwf odDefault t.dict.val = true → mwf odDefault m6 = true)
    (h7 : mwf zCore t.cores = true → mwf zCore m7 = true)
    (h8 : mwf zCl t.clusters = true → mwf zCl m8 = true)
    (h9 : mwf zBay t.bays = true → mwf zBay m9 = true)
    (h10 : mwf zGroom t.grooms = true → mwf zGroom m10 = true)
    (h11 : mwf zPart t.parts = true → mwf zPart m11 = true)
    (h12 : mwf zRing t.rings = true → mwf zRing m12 = true)
    (h13 : mwf zLink t.links = true → mwf zLink m13 = true) :
    KeepsC r t.pending m0 m1 m2 m3 m4 m5 m6 m7 m8 m9 m10 m11 m12 m13 :=
  ⟨h.1, fun hz => by
    obtain ⟨k0, k1, k2, k3, k4, k5, k6, k7, k8, k9, k10, k11, k12, k13⟩ := h.2 hz
    exact ⟨h0 k0, h1 k1, h2 k2, h3 k3, h4 k4, h5 k5, h6 k6, h7 k7, h8 k8, h9 k9, h10 k10, h11 k11, h12 k12, h13 k13⟩⟩

theorem Memory.wf_msetRange {m : SMap Byte} {k : Nat} {l : List Byte} (h : Memory.wf m = true) :
    Memory.wf (msetRange zB m k l) = true := msetRange_wf k l h

theorem Memory.wf_clear {m : SMap Byte} {k n : Nat} (h : Memory.wf m = true) : Memory.wf (mclearRange m k n) = true :=
  mclearRange_wf k n h

theorem Memory.wf_nil : Memory.wf [] = true := rfl

theorem Memory.marksWf_mset {m : SMap Bool} {k : Nat} {v : Bool} (h : Memory.marksWf m = true) :
    Memory.marksWf (mset zF m k v) = true := mset_wf k v h

theorem Memory.marksWf_clear {m : SMap Bool} {k n : Nat} (h : Memory.marksWf m = true) :
    Memory.marksWf (mclearRange m k n) = true := mclearRange_wf k n h

theorem Memory.marksWf_nil : Memory.marksWf [] = true := rfl

theorem Memory.marksWf_ite {c : Prop} [Decidable c] {a b : SMap Bool} (ha : Memory.marksWf a = true)
    (hb : Memory.marksWf b = true) : Memory.marksWf (if c then a else b) = true := by split <;> assumption

theorem Memory.marksWf_foldl {β : Type} {f : SMap Bool → β → SMap Bool} {l : List β} {m : SMap Bool}
    (hf : ∀ m b, Memory.marksWf m = true → Memory.marksWf (f m b) = true) (h : Memory.marksWf m = true) :
    Memory.marksWf (l.foldl f m) = true := foldl_wf f hf l h

theorem markPoison_wf {m : SMap Bool} {g : Nat} {whole poison : Bool} (h : Memory.marksWf m = true) :
    Memory.marksWf (markPoison m g whole poison) = true := by
  unfold markPoison
  split
  · exact mset_wf _ _ h
  · split
    · exact mset_wf _ _ h
    · exact h

theorem markOvf_wf {m : SMap Bool} {g : Nat} {whole : Bool} (h : Memory.marksWf m = true) :
    Memory.marksWf (markOvf m g whole) = true := by
  unfold markOvf
  split
  · exact mset_wf _ _ h
  · exact h

theorem Keeps.ite {c : Prop} [Decidable c] {a b : State} (ha : Keeps r a) (hb : Keeps r b) :
    Keeps r (if c then a else b) := by split <;> assumption

theorem Keeps.ite1 {α : Type} {c : Prop} [Decidable c] {a b : State × α} (ha : Keeps r a.1) (hb : Keeps r b.1) :
    Keeps r (if c then a else b).1 := by split <;> assumption

theorem Keeps.pair {α : Type} {a : α} (h : Keeps r t) : Keeps r (t, a).1 := h

theorem KeepsO.next (h : Keeps r t) : KeepsO r (.next t) := fun _ e => by cases e; exact h

theorem KeepsO.ite {c : Prop} [Decidable c] {a b : Host.Outcome State Fault Refusal} (ha : KeepsO r a) (hb : KeepsO r b) :
    KeepsO r (if c then a else b) := by split <;> assumption

theorem Keeps.foldl {α : Type} {f : State → α → State} {l : List α} (hf : ∀ t x, Keeps r t → Keeps r (f t x))
    (h : Keeps r s) : Keeps r (l.foldl f s) := by
  induction l generalizing s with
  | nil => exact h
  | cons a l ih => exact ih (hf s a h)

theorem Keeps.foldl1 {α β : Type} {f : State × β → α → State × β} {l : List α} {x : State × β}
    (hf : ∀ x a, Keeps r x.1 → Keeps r (f x a).1) (h : Keeps r x.1) : Keeps r (l.foldl f x).1 := by
  induction l generalizing x with
  | nil => exact h
  | cons a l ih => exact ih (hf x a h)

theorem Keeps.fst {α : Type} {x : State × α} {a : α} (e : x = (t, a)) (h : Keeps r x.1) : Keeps r t := by
  subst e; exact h

end Sys2Proof.Machine
end

