-- ==== Sys2Proof/Laws/KeepsOps.lean ====
section
/-! SUPPORT. The operations and meanings of the shared operations, the object dictionary and the links keep the queue and the canonical
form of every map. -/

set_option maxRecDepth 8000

namespace Sys2Proof.Machine

open Sys2Proof

theorem State.setCore_keeps {z : State} (s : State) (c : CoreId) (x : Core) (hz : Keeps z s) : Keeps z
    (State.setCore s c x) := by
  unfold State.setCore
  repeat' (first
    | (with_reducible first | assumption | apply KeepsO.next | apply Keeps.ite | apply KeepsO.ite | apply Keeps.ite1)
    | dsimp only | (with_reducible refine Keeps.fst (by assumption) ?_) | split
    | (simp only [Keeps.mk_iff]; with_reducible apply Keeps.fold)
    | (simp only [Keeps.mk_iff]; with_reducible refine KeepsC.maps ?_ ?_ ?_ ?_ ?_ ?_ ?_ ?_ ?_ ?_ ?_ ?_ ?_ ?_ ?_ <;> intros)
    | with_reducible apply mset_wf)

theorem State.modCur_keeps {z : State} (s : State) (c : CoreId) (f : CoreSt → CoreSt) (hz : Keeps z s) : Keeps z
    (State.modCur s c f) := by
  unfold State.modCur; (try dsimp only)
  repeat' (first
    | (with_reducible first | assumption | apply State.setCore_keeps))

theorem State.modBoth_keeps {z : State} (s : State) (c : CoreId) (f : CoreSt → CoreSt) (hz : Keeps z s) : Keeps z
    (State.modBoth s c f) := by
  unfold State.modBoth; (try dsimp only)
  repeat' (first
    | (with_reducible first | assumption | apply State.setCore_keeps))

theorem State.setCl_keeps {z : State} (s : State) (site : SiteId) (x : Cluster) (hz : Keeps z s) : Keeps z
    (State.setCl s site x) := by
  unfold State.setCl
  repeat' (first
    | (with_reducible first | assumption | apply KeepsO.next | apply Keeps.ite | apply KeepsO.ite | apply Keeps.ite1)
    | dsimp only | (with_reducible refine Keeps.fst (by assumption) ?_) | split
    | (simp only [Keeps.mk_iff]; with_reducible apply Keeps.fold)
    | (simp only [Keeps.mk_iff]; with_reducible refine KeepsC.maps ?_ ?_ ?_ ?_ ?_ ?_ ?_ ?_ ?_ ?_ ?_ ?_ ?_ ?_ ?_ <;> intros)
    | with_reducible apply mset_wf)

theorem State.modCl_keeps {z : State} (s : State) (site : SiteId) (f : Cluster → Cluster) (hz : Keeps z s) : Keeps z
    (State.modCl s site f) := by
  unfold State.modCl
  repeat' (first
    | (with_reducible first | assumption | apply State.setCl_keeps))

theorem State.modBay_keeps {z : State} (s : State) (b : Nat) (f : Bay → Bay) (hz : Keeps z s) : Keeps z
    (State.modBay s b f) := by
  unfold State.modBay
  repeat' (first
    | (with_reducible first | assumption | apply KeepsO.next | apply Keeps.ite | apply KeepsO.ite | apply Keeps.ite1)
    | dsimp only | (with_reducible refine Keeps.fst (by assumption) ?_) | split
    | (simp only [Keeps.mk_iff]; with_reducible apply Keeps.fold)
    | (simp only [Keeps.mk_iff]; with_reducible refine KeepsC.maps ?_ ?_ ?_ ?_ ?_ ?_ ?_ ?_ ?_ ?_ ?_ ?_ ?_ ?_ ?_ <;> intros)
    | with_reducible apply mset_wf)

theorem State.modGroom_keeps {z : State} (s : State) (g : Nat) (f : Groom → Groom) (hz : Keeps z s) : Keeps z
    (State.modGroom s g f) := by
  unfold State.modGroom
  repeat' (first
    | (with_reducible first | assumption | apply KeepsO.next | apply Keeps.ite | apply KeepsO.ite | apply Keeps.ite1)
    | dsimp only | (with_reducible refine Keeps.fst (by assumption) ?_) | split
    | (simp only [Keeps.mk_iff]; with_reducible apply Keeps.fold)
    | (simp only [Keeps.mk_iff]; with_reducible refine KeepsC.maps ?_ ?_ ?_ ?_ ?_ ?_ ?_ ?_ ?_ ?_ ?_ ?_ ?_ ?_ ?_ <;> intros)
    | with_reducible apply mset_wf)

theorem State.modPart_keeps {z : State} (s : State) (p : Nat) (f : Part → Part) (hz : Keeps z s) : Keeps z
    (State.modPart s p f) := by
  unfold State.modPart
  repeat' (first
    | (with_reducible first | assumption | apply KeepsO.next | apply Keeps.ite | apply KeepsO.ite | apply Keeps.ite1)
    | dsimp only | (with_reducible refine Keeps.fst (by assumption) ?_) | split
    | (simp only [Keeps.mk_iff]; with_reducible apply Keeps.fold)
    | (simp only [Keeps.mk_iff]; with_reducible refine KeepsC.maps ?_ ?_ ?_ ?_ ?_ ?_ ?_ ?_ ?_ ?_ ?_ ?_ ?_ ?_ ?_ <;> intros)
    | with_reducible apply mset_wf)

theorem State.modJob_keeps {z : State} (s : State) (p : Nat) (f : Job → Job) (hz : Keeps z s) : Keeps z
    (State.modJob s p f) := by
  unfold State.modJob
  repeat' (first
    | (with_reducible first | assumption | apply State.modPart_keeps))

theorem State.modRing_keeps {z : State} (s : State) (r : Nat) (f : Ring → Ring) (hz : Keeps z s) : Keeps z
    (State.modRing s r f) := by
  unfold State.modRing
  repeat' (first
    | (with_reducible first | assumption | apply KeepsO.next | apply Keeps.ite | apply KeepsO.ite | apply Keeps.ite1)
    | dsimp only | (with_reducible refine Keeps.fst (by assumption) ?_) | split
    | (simp only [Keeps.mk_iff]; with_reducible apply Keeps.fold)
    | (simp only [Keeps.mk_iff]; with_reducible refine KeepsC.maps ?_ ?_ ?_ ?_ ?_ ?_ ?_ ?_ ?_ ?_ ?_ ?_ ?_ ?_ ?_ <;> intros)
    | with_reducible apply mset_wf)

theorem State.modLink_keeps {z : State} (s : State) (k : Nat) (f : Link → Link) (hz : Keeps z s) : Keeps z
    (State.modLink s k f) := by
  unfold State.modLink
  repeat' (first
    | (with_reducible first | assumption | apply KeepsO.next | apply Keeps.ite | apply KeepsO.ite | apply Keeps.ite1)
    | dsimp only | (with_reducible refine Keeps.fst (by assumption) ?_) | split
    | (simp only [Keeps.mk_iff]; with_reducible apply Keeps.fold)
    | (simp only [Keeps.mk_iff]; with_reducible refine KeepsC.maps ?_ ?_ ?_ ?_ ?_ ?_ ?_ ?_ ?_ ?_ ?_ ?_ ?_ ?_ ?_ <;> intros)
    | with_reducible apply mset_wf)

theorem State.odSet_keeps {z : State} (s : State) (k v : Nat) (hz : Keeps z s) : Keeps z (State.odSet s k v) := by
  unfold State.odSet; (try dsimp only)
  repeat' (first
    | (with_reducible first | assumption | apply KeepsO.next | apply Keeps.ite | apply KeepsO.ite | apply Keeps.ite1)
    | dsimp only | (with_reducible refine Keeps.fst (by assumption) ?_) | split
    | (simp only [Keeps.mk_iff]; with_reducible apply Keeps.fold)
    | (simp only [Keeps.mk_iff]; with_reducible refine KeepsC.maps ?_ ?_ ?_ ?_ ?_ ?_ ?_ ?_ ?_ ?_ ?_ ?_ ?_ ?_ ?_ <;> intros)
    | with_reducible apply mset_wf)

theorem State.odAdd_keeps {z : State} (s : State) (k n : Nat) (hz : Keeps z s) : Keeps z (State.odAdd s k n) := by
  unfold State.odAdd
  repeat' (first
    | (with_reducible first | assumption | apply State.odSet_keeps))

theorem State.odPutBit_keeps {z : State} (s : State) (k i : Nat) (v : Bool) (hz : Keeps z s) : Keeps z
    (State.odPutBit s k i v) := by
  unfold State.odPutBit; (try dsimp only)
  repeat' (first
    | (with_reducible first | assumption | apply State.odSet_keeps))

theorem State.useFree_keeps {z : State} (s : State) (hz : Keeps z s) : Keeps z (State.useFree s) := by
  unfold State.useFree
  repeat' (first
    | (with_reducible first | assumption | apply KeepsO.next | apply Keeps.ite | apply KeepsO.ite | apply Keeps.ite1)
    | dsimp only | (with_reducible refine Keeps.fst (by assumption) ?_) | split
    | (simp only [Keeps.mk_iff]; with_reducible apply Keeps.fold))

theorem State.hostLost_keeps {z : State} (s : State) (route : Nat) (hz : Keeps z s) : Keeps z (State.hostLost s
    route) := by
  unfold State.hostLost
  repeat' (first
    | (with_reducible first | assumption | apply State.route_keeps | apply State.odAdd_keeps | apply KeepsO.next | apply Keeps.ite))

theorem State.toCard_keeps {z : State} (s : State) (m : HostMsg) (hz : Keeps z s) : Keeps z (State.toCard s m) := by
  unfold State.toCard
  repeat' (first
    | (with_reducible first | assumption | apply State.odAdd_keeps | apply KeepsO.next | apply Keeps.ite | apply KeepsO.ite | apply Keeps.ite1)
    | dsimp only | (with_reducible refine Keeps.fst (by assumption) ?_) | split
    | (simp only [Keeps.mk_iff]; with_reducible apply Keeps.fold))

theorem State.hostWrite_keeps {z : State} (s : State) (addr data bytes : Nat) (hz : Keeps z s) : Keeps z
    (State.hostWrite s addr data bytes) := by
  unfold State.hostWrite
  repeat' (first
    | (with_reducible first | assumption | apply State.toCard_keeps))

theorem State.alertPort_keeps {z : State} (s : State) (port code : Nat) (seq : W32) (hz : Keeps z s) : Keeps z
    (State.alertPort s port code seq) := by
  unfold State.alertPort; (try dsimp only)
  repeat' (first
    | (with_reducible first | assumption | apply KeepsO.next | apply Keeps.ite | apply KeepsO.ite | apply Keeps.ite1)
    | dsimp only | (with_reducible refine Keeps.fst (by assumption) ?_) | split
    | (simp only [Keeps.mk_iff]; with_reducible apply Keeps.fold))

theorem State.alert_keeps {z : State} (s : State) (code : Nat) (seq : W32) (hz : Keeps z s) : Keeps z (State.alert s
    code seq) := by
  unfold State.alert; (try dsimp only)
  repeat' (first
    | (with_reducible first | assumption | apply State.alertPort_keeps | apply KeepsO.next | apply Keeps.ite | apply KeepsO.ite | apply Keeps.ite1)
    | dsimp only | (with_reducible refine Keeps.fst (by assumption) ?_) | split
    | (simp only [Keeps.mk_iff]; with_reducible apply Keeps.fold))

theorem State.appendEv_keeps {z : State} (s : State) (code : Nat) (un : UnitId) (part : Option Nat) (lunit : Nat)
    (payload : List Nat) (h : Keeps z s) : Keeps z (State.appendEv s code un part lunit payload).1 := by
  unfold State.appendEv
  generalize suppStep s.log.supp code un (s.clk.dt / 1000000000) = x
  obtain ⟨go, supp, l⟩ := x
  dsimp only
  refine Keeps.ite1 h (Keeps.ite1 ?_ ?_) <;> dsimp only
  · apply State.odAdd_keeps; simp only [Keeps.mk_iff]; exact h.fold
  · apply State.alert_keeps; simp only [Keeps.mk_iff]; exact h.fold

theorem State.intr_keeps {z : State} (s : State) (r : Nat) (hz : Keeps z s) : Keeps z (State.intr s r) := by
  unfold State.intr; (try dsimp only)
  repeat' (first
    | (with_reducible first | assumption | apply State.modRing_keeps | apply State.toCard_keeps | apply KeepsO.next | apply Keeps.ite))

theorem State.writeCpl_keeps {z : State} (s : State) (cmd : RingCmd) (status : Nat) (res : Results) (hz : Keeps z s)
    : Keeps z (State.writeCpl s cmd status res) := by
  unfold State.writeCpl; (try dsimp only)
  repeat' (first
    | (with_reducible first | assumption | apply State.hostWrite_keeps | apply State.intr_keeps | apply KeepsO.next | apply Keeps.ite | apply KeepsO.ite | apply Keeps.ite1)
    | dsimp only | (with_reducible refine Keeps.fst (by assumption) ?_) | split
    | (simp only [Keeps.mk_iff]; with_reducible apply Keeps.fold))

theorem State.logEv_keeps {z : State} (s : State) (code : Nat) (un : UnitId) (part : Option Nat) (lunit : Nat)
    (payload : List Nat) (hz : Keeps z s) : Keeps z (State.logEv s code un part lunit payload) := by
  unfold State.logEv
  repeat' (first
    | (with_reducible first | assumption | apply State.appendEv_keeps | apply State.writeCpl_keeps | apply KeepsO.next | apply Keeps.ite | apply KeepsO.ite | apply Keeps.ite1)
    | dsimp only | (with_reducible apply Keeps.foldl; (try intro _ _ _); (try dsimp only))
    | (with_reducible apply Keeps.foldl1; (try intro _ _ _); (try dsimp only))
    | (with_reducible refine Keeps.fst (by assumption) ?_) | split)

theorem State.alsoLog_keeps {z : State} (s : State) (r : EvRec) (p : Nat) (hz : Keeps z s) : Keeps z (State.alsoLog
    s r p) := by
  unfold State.alsoLog; (try dsimp only)
  repeat' (first
    | (with_reducible first | assumption | apply State.writeCpl_keeps | apply KeepsO.next | apply Keeps.ite | apply KeepsO.ite | apply Keeps.ite1)
    | dsimp only | (with_reducible apply Keeps.foldl; (try intro _ _ _); (try dsimp only))
    | (with_reducible apply Keeps.foldl1; (try intro _ _ _); (try dsimp only))
    | (with_reducible refine Keeps.fst (by assumption) ?_) | split
    | (simp only [Keeps.mk_iff]; with_reducible apply Keeps.fold))

theorem State.logMany_keeps {z : State} (s : State) (code : Nat) (un : UnitId) (ps : List Nat) (payload : List Nat)
    (hz : Keeps z s) : Keeps z (State.logMany s code un ps payload) := by
  unfold State.logMany; (try dsimp only)
  repeat' (first
    | (with_reducible first | assumption | apply State.logEv_keeps | apply State.alsoLog_keeps | apply KeepsO.next | apply Keeps.ite | apply KeepsO.ite | apply Keeps.ite1)
    | dsimp only | (with_reducible apply Keeps.foldl; (try intro _ _ _); (try dsimp only))
    | (with_reducible apply Keeps.foldl1; (try intro _ _ _); (try dsimp only))
    | (with_reducible refine Keeps.fst (by assumption) ?_) | split)

theorem State.hostRead_keeps {z : State} (s : State) (ring idx : Nat) (copy : Bool) (addr bytes : Nat) (hz : Keeps z
    s) : Keeps z (State.hostRead s ring idx copy addr bytes) := by
  unfold State.hostRead; (try dsimp only)
  repeat' (first
    | (with_reducible first | assumption | apply State.toCard_keeps | apply KeepsO.next | apply Keeps.ite | apply KeepsO.ite | apply Keeps.ite1)
    | dsimp only | (with_reducible refine Keeps.fst (by assumption) ?_) | split
    | (simp only [Keeps.mk_iff]; with_reducible apply Keeps.fold))

theorem State.dropFetch_keeps {z : State} (s : State) (ring : Nat) (hz : Keeps z s) : Keeps z (State.dropFetch s
    ring) := by
  unfold State.dropFetch; (try dsimp only)
  repeat' (first
    | (with_reducible first | assumption | apply KeepsO.next | apply Keeps.ite | apply KeepsO.ite | apply Keeps.ite1)
    | dsimp only | (with_reducible refine Keeps.fst (by assumption) ?_) | split
    | (simp only [Keeps.mk_iff]; with_reducible apply Keeps.fold))

theorem State.complete_keeps {z : State} (s : State) (cmd : RingCmd) (status : Nat) (res : Results) (hz : Keeps z s)
    : Keeps z (State.complete s cmd status res) := by
  unfold State.complete; (try dsimp only)
  repeat' (first
    | (with_reducible first | assumption | apply State.writeCpl_keeps | apply State.modRing_keeps | apply State.dropFetch_keeps | apply State.logEv_keeps | apply KeepsO.next | apply Keeps.ite))

theorem State.endArm_keeps {z : State} (s : State) (p status reason : Nat) (hz : Keeps z s) : Keeps z (State.endArm
    s p status reason) := by
  unfold State.endArm; (try dsimp only)
  repeat' (first
    | (with_reducible first | assumption | apply State.modJob_keeps | apply State.useFree_keeps | apply State.complete_keeps | apply KeepsO.next | apply Keeps.ite | apply KeepsO.ite | apply Keeps.ite1)
    | dsimp only | (with_reducible refine Keeps.fst (by assumption) ?_) | split)

theorem State.startCp_keeps {z : State} (s : State) (c : CoreId) (x : CoreSt) (p : CpPend) (hz : Keeps z s) : Keeps
    z (State.startCp s c x p) := by
  unfold State.startCp; (try dsimp only)
  repeat' (first
    | (with_reducible first | assumption | apply State.modBoth_keeps | apply KeepsO.next | apply Keeps.ite | apply KeepsO.ite | apply Keeps.ite1)
    | dsimp only | (with_reducible refine Keeps.fst (by assumption) ?_) | split
    | (simp only [Keeps.mk_iff]; with_reducible apply Keeps.fold))

theorem State.haltCore_keeps {z : State} (s : State) (c : CoreId) (x : CoreSt) (y : CoreSt) (hz : Keeps z s) : Keeps
    z (State.haltCore s c x y) := by
  unfold State.haltCore
  repeat' (first
    | (with_reducible first | assumption | apply State.startCp_keeps | apply State.setCore_keeps | apply KeepsO.next | apply Keeps.ite | apply KeepsO.ite | apply Keeps.ite1)
    | dsimp only | (with_reducible apply Keeps.foldl; (try intro _ _ _); (try dsimp only)))

theorem State.stopCores_keeps {z : State} (s : State) (p : Nat) (but : Option CoreId) (hz : Keeps z s) : Keeps z
    (State.stopCores s p but) := by
  unfold State.stopCores; (try dsimp only)
  repeat' (first
    | (with_reducible first | assumption | apply State.haltCore_keeps | apply KeepsO.next | apply Keeps.ite | apply KeepsO.ite | apply Keeps.ite1)
    | dsimp only | (with_reducible apply Keeps.foldl; (try intro _ _ _); (try dsimp only)))

theorem State.stepLost_keeps {z : State} (s : State) (p reason : Nat) (hz : Keeps z s) : Keeps z (State.stepLost s p
    reason) := by
  unfold State.stepLost; (try dsimp only)
  repeat' (first
    | (with_reducible first | assumption | apply State.stopCores_keeps | apply State.modJob_keeps | apply State.endArm_keeps | apply State.odAdd_keeps | apply State.logEv_keeps | apply KeepsO.next | apply Keeps.ite))

theorem State.coreFault_keeps {z : State} (s : State) (c : CoreId) (causes : List Cause) (hz : Keeps z s) : Keeps z
    (State.coreFault s c causes) := by
  unfold State.coreFault; (try dsimp only)
  repeat' (first
    | (with_reducible first | assumption | apply State.haltCore_keeps | apply State.odAdd_keeps | apply State.logEv_keeps | apply State.stopCores_keeps | apply State.modJob_keeps | apply State.endArm_keeps | apply KeepsO.next | apply Keeps.ite | apply KeepsO.ite | apply Keeps.ite1)
    | dsimp only | (with_reducible refine Keeps.fst (by assumption) ?_) | split)

theorem State.slotOp_keeps {z : State} (s : State) (c : CoreId) (slot w : Nat) (enc : Bool) (k : CoreSt → CoreSt →
    List Nat × CoreSt) (hz : Keeps z s) : Keeps z (State.slotOp s c slot w enc k) := by
  unfold State.slotOp; (try dsimp only)
  repeat' (first
    | (with_reducible first | assumption | apply State.setCore_keeps | apply KeepsO.next | apply Keeps.ite))

theorem State.incFlag_keeps {z : State} (s : State) (c : CoreId) (flag : Nat) (inc : W32) (hz : Keeps z s) : Keeps z
    (State.incFlag s c flag inc) := by
  unfold State.incFlag
  repeat' (first
    | (with_reducible first | assumption | apply State.modBoth_keeps))

theorem State.portDrop_keeps {z : State} (s : State) (site : SiteId) (hz : Keeps z s) : Keeps z (State.portDrop s
    site) := by
  unfold State.portDrop
  repeat' (first
    | (with_reducible first | assumption | apply State.odAdd_keeps | apply KeepsO.next | apply Keeps.ite))

theorem State.wakePort_keeps {z : State} (s : State) (site : SiteId) (hz : Keeps z s) : Keeps z (State.wakePort s
    site) := by
  unfold State.wakePort
  repeat' (first
    | (with_reducible first | assumption | apply State.modCl_keeps | apply KeepsO.next | apply Keeps.ite))

theorem State.landLater_keeps {z : State} (s : State) (site : SiteId) (a : Arrival) (hz : Keeps z s) : Keeps z
    (State.landLater s site a) := by
  unfold State.landLater
  repeat' (first
    | (with_reducible first | assumption | apply KeepsO.next | apply Keeps.ite | apply KeepsO.ite | apply Keeps.ite1)
    | dsimp only | (with_reducible refine Keeps.fst (by assumption) ?_) | split
    | (simp only [Keeps.mk_iff]; with_reducible apply Keeps.fold))

theorem State.unland_keeps {z : State} (s : State) (site : SiteId) (hz : Keeps z s) : Keeps z (State.unland s site)
    := by
  unfold State.unland; (try dsimp only)
  repeat' (first
    | (with_reducible first | assumption | apply KeepsO.next | apply Keeps.ite | apply KeepsO.ite | apply Keeps.ite1)
    | dsimp only | (with_reducible refine Keeps.fst (by assumption) ?_) | split
    | (simp only [Keeps.mk_iff]; with_reducible apply Keeps.fold))

theorem State.studTouch_keeps {z : State} (s : State) (hz : Keeps z s) : Keeps z (State.studTouch s) := by
  unfold State.studTouch; (try dsimp only)
  repeat' (first
    | (with_reducible first | assumption | apply KeepsO.next | apply Keeps.ite | apply KeepsO.ite | apply Keeps.ite1)
    | dsimp only | (with_reducible refine Keeps.fst (by assumption) ?_) | split
    | (simp only [Keeps.mk_iff]; with_reducible apply Keeps.fold))

theorem State.studPut_keeps {z : State} (s : State) (r : StudRec) (hz : Keeps z s) : Keeps z (State.studPut s r) := by
  unfold State.studPut; (try dsimp only)
  repeat' (first
    | (with_reducible first | assumption | apply State.studTouch_keeps | apply State.odSet_keeps | apply State.logEv_keeps | apply KeepsO.next | apply Keeps.ite | apply KeepsO.ite | apply Keeps.ite1)
    | dsimp only | (with_reducible refine Keeps.fst (by assumption) ?_) | split
    | (simp only [Keeps.mk_iff]; with_reducible apply Keeps.fold))

theorem State.studFail_keeps {z : State} (s : State) (un : UnitId) (source detail : Nat) (hz : Keeps z s) : Keeps z
    (State.studFail s un source detail) := by
  unfold State.studFail; (try dsimp only)
  repeat' (first
    | (with_reducible first | assumption | apply State.studPut_keeps | apply KeepsO.next | apply Keeps.ite))

theorem State.studHard_keeps {z : State} (s : State) (un : UnitId) (source detail : Nat) (hz : Keeps z s) : Keeps z
    (State.studHard s un source detail) := by
  unfold State.studHard; (try dsimp only)
  repeat' (first
    | (with_reducible first | assumption | apply State.studPut_keeps | apply KeepsO.next | apply Keeps.ite))

theorem State.studExternal_keeps {z : State} (s : State) (un : UnitId) (hz : Keeps z s) : Keeps z
    (State.studExternal s un) := by
  unfold State.studExternal; (try dsimp only)
  repeat' (first
    | (with_reducible first | assumption | apply State.studPut_keeps | apply KeepsO.next | apply Keeps.ite))

theorem State.studReturn_keeps {z : State} (s : State) (un : UnitId) (source : Nat) (hz : Keeps z s) : Keeps z
    (State.studReturn s un source) := by
  unfold State.studReturn
  repeat' (first
    | (with_reducible first | assumption | apply State.studPut_keeps | apply KeepsO.next | apply Keeps.ite | apply KeepsO.ite | apply Keeps.ite1)
    | dsimp only | (with_reducible refine Keeps.fst (by assumption) ?_) | split)

theorem State.setLogical_keeps {z : State} (s : State) (site : SiteId) (q : Nat) (hz : Keeps z s) : Keeps z
    (State.setLogical s site q) := by
  unfold State.setLogical
  repeat' (first
    | (with_reducible first | assumption | apply State.odSet_keeps))

theorem State.countOffered_keeps {z : State} (s : State) (hz : Keeps z s) : Keeps z (State.countOffered s) := by
  unfold State.countOffered
  repeat' (first
    | (with_reducible first | assumption | apply State.odSet_keeps))

theorem State.stopRun_keeps {z : State} (s : State) (site : SiteId) (hz : Keeps z s) : Keeps z (State.stopRun s
    site) := by
  unfold State.stopRun
  repeat' (first
    | (with_reducible first | assumption | apply State.modBoth_keeps | apply KeepsO.next | apply Keeps.ite | apply KeepsO.ite | apply Keeps.ite1)
    | dsimp only | (with_reducible apply Keeps.foldl; (try intro _ _ _); (try dsimp only)))

theorem State.checkFloors_keeps {z : State} (s : State) (hz : Keeps z s) : Keeps z (State.checkFloors s) := by
  unfold State.checkFloors; (try dsimp only)
  repeat' (first
    | (with_reducible first | assumption | apply State.odSet_keeps | apply State.logEv_keeps | apply KeepsO.next | apply Keeps.ite))

theorem State.loseOwner_keeps {z : State} (s : State) (site : SiteId) (reason : Nat) (hz : Keeps z s) : Keeps z
    (State.loseOwner s site reason) := by
  unfold State.loseOwner
  repeat' (first
    | (with_reducible first | assumption | apply State.stepLost_keeps | apply KeepsO.next | apply Keeps.ite | apply KeepsO.ite | apply Keeps.ite1)
    | dsimp only | (with_reducible refine Keeps.fst (by assumption) ?_) | split)

theorem State.abandonRun_keeps {z : State} (s : State) (site : SiteId) (hz : Keeps z s) : Keeps z (State.abandonRun
    s site) := by
  unfold State.abandonRun; (try dsimp only)
  repeat' (first
    | (with_reducible first | assumption | apply State.stopRun_keeps | apply KeepsO.next | apply Keeps.ite | apply KeepsO.ite | apply Keeps.ite1)
    | dsimp only | (with_reducible refine Keeps.fst (by assumption) ?_) | split
    | (simp only [Keeps.mk_iff]; with_reducible apply Keeps.fold))

theorem State.abandonUpcs_keeps {z : State} (s : State) (hz : Keeps z s) : Keeps z (State.abandonUpcs s) := by
  unfold State.abandonUpcs
  simp only [Keeps.mk_iff]
  exact Keeps.fold hz

theorem State.markLost_keeps {z : State} (s : State) (p : Nat) (hz : Keeps z s) : Keeps z (State.markLost s p) := by
  unfold State.markLost; (try dsimp only)
  repeat' (first
    | (with_reducible first | assumption | apply State.modPart_keeps | apply KeepsO.next | apply Keeps.ite))

theorem State.unmapPos_keeps {z : State} (s : State) (b : Nat) (l : List Nat) (hz : Keeps z s) : Keeps z
    (State.unmapPos s b l) := by
  unfold State.unmapPos
  repeat' (first
    | (with_reducible first | assumption | apply State.modBay_keeps))

theorem State.markBay_keeps {z : State} (s : State) (b : Nat) (hz : Keeps z s) : Keeps z (State.markBay s b) := by
  unfold State.markBay
  repeat' (first
    | (with_reducible first | assumption | apply State.markLost_keeps | apply State.unmapPos_keeps | apply KeepsO.next | apply Keeps.ite | apply KeepsO.ite | apply Keeps.ite1)
    | dsimp only | (with_reducible apply Keeps.foldl; (try intro _ _ _); (try dsimp only)))

theorem State.fenceSite_keeps {z : State} (s : State) (site : SiteId) (hz : Keeps z s) : Keeps z (State.fenceSite s
    site) := by
  unfold State.fenceSite; (try dsimp only)
  repeat' (first
    | (with_reducible first | assumption | apply State.modCl_keeps | apply State.abandonRun_keeps | apply State.setLogical_keeps | apply State.countOffered_keeps | apply State.checkFloors_keeps | apply State.markBay_keeps | apply KeepsO.next | apply Keeps.ite))

theorem State.siteFix_keeps {z : State} (s : State) (site : SiteId) (hz : Keeps z s) : Keeps z (State.siteFix s
    site) := by
  unfold State.siteFix; (try dsimp only)
  repeat' (first
    | (with_reducible first | assumption | apply State.modCl_keeps | apply State.logEv_keeps | apply KeepsO.next | apply Keeps.ite))

theorem State.countStretch_keeps {z : State} (s : State) (site : SiteId) (n : Nat) (hz : Keeps z s) : Keeps z
    (State.countStretch s site n) := by
  unfold State.countStretch; (try dsimp only)
  repeat' (first
    | (with_reducible first | assumption | apply State.odAdd_keeps | apply KeepsO.next | apply Keeps.ite))

theorem State.runSite_keeps {z : State} (s : State) (site : SiteId) (d : Nat) (hz : Keeps z s) : Keeps z
    (State.runSite s site d) := by
  unfold State.runSite; (try dsimp only)
  repeat' (first
    | (with_reducible first | assumption | apply State.setCl_keeps | apply State.useFree_keeps | apply State.countStretch_keeps | apply KeepsO.next | apply Keeps.ite))

theorem State.runTo_keeps {z : State} (s : State) (site : SiteId) (hz : Keeps z s) : Keeps z (State.runTo s site) :=
    by
  unfold State.runTo
  repeat' (first
    | (with_reducible first | assumption | apply State.runSite_keeps))

theorem State.runFree_keeps {z : State} (s : State) (site : SiteId) (hz : Keeps z s) : Keeps z (State.runFree s
    site) := by
  unfold State.runFree; (try dsimp only)
  repeat' (first
    | (with_reducible first | assumption | apply State.useFree_keeps | apply State.runTo_keeps | apply KeepsO.next | apply Keeps.ite | apply KeepsO.ite | apply Keeps.ite1)
    | dsimp only | (with_reducible refine Keeps.fst (by assumption) ?_) | split
    | (simp only [Keeps.mk_iff]; with_reducible apply Keeps.fold))

theorem State.runLevel_keeps {z : State} (s : State) (site : SiteId) (hz : Keeps z s) : Keeps z (State.runLevel s
    site).1 := by
  unfold State.runLevel
  have h := State.runFree_keeps s site hz
  generalize State.runFree s site = t at h ⊢
  refine Keeps.ite1 (State.runTo_keeps _ _ ?_) h
  simp only [Keeps.mk_iff]
  exact h.fold

theorem State.lastCycles_keeps {z : State} (s : State) (site : SiteId) (hz : Keeps z s) : Keeps z (State.lastCycles
    s site) := by
  unfold State.lastCycles
  repeat' (first
    | (with_reducible first | assumption | apply State.runTo_keeps | apply State.runLevel_keeps | apply KeepsO.next | apply Keeps.ite))

theorem State.modCrossQ_keeps {z : State} (s : State) (bay side link plane : Nat) (f : FlitQueue → FlitQueue) (hz :
    Keeps z s) : Keeps z (State.modCrossQ s bay side link plane f) := by
  unfold State.modCrossQ; (try dsimp only)
  repeat' (first
    | (with_reducible first | assumption | apply KeepsO.next | apply Keeps.ite | apply KeepsO.ite | apply Keeps.ite1)
    | dsimp only | (with_reducible refine Keeps.fst (by assumption) ?_) | split
    | (simp only [Keeps.mk_iff]; with_reducible apply Keeps.fold))

theorem State.modPortQ_keeps {z : State} (s : State) (site plane : Nat) (out : Bool) (f : FlitQueue → FlitQueue) (hz
    : Keeps z s) : Keeps z (State.modPortQ s site plane out f) := by
  unfold State.modPortQ; (try dsimp only)
  repeat' (first
    | (with_reducible first | assumption | apply KeepsO.next | apply Keeps.ite | apply KeepsO.ite | apply Keeps.ite1)
    | dsimp only | (with_reducible refine Keeps.fst (by assumption) ?_) | split
    | (simp only [Keeps.mk_iff]; with_reducible apply Keeps.fold))

theorem State.serveCross_keeps {z : State} (s : State) (r port plane : Nat) (hz : Keeps z s) : Keeps z
    (State.serveCross s r port plane) := by
  unfold State.serveCross; (try dsimp only)
  repeat' (first
    | (with_reducible first | assumption | apply State.modCrossQ_keeps | apply KeepsO.next | apply Keeps.ite | apply KeepsO.ite | apply Keeps.ite1)
    | dsimp only | (with_reducible refine Keeps.fst (by assumption) ?_) | split
    | (simp only [Keeps.mk_iff]; with_reducible apply Keeps.fold))

theorem State.servePlane_keeps {z : State} (s : State) (site plane : Nat) (hz : Keeps z s) : Keeps z
    (State.servePlane s site plane) := by
  unfold State.servePlane; (try dsimp only)
  repeat' (first
    | (with_reducible first | assumption | apply State.modPortQ_keeps | apply KeepsO.next | apply Keeps.ite | apply KeepsO.ite | apply Keeps.ite1)
    | dsimp only | (with_reducible refine Keeps.fst (by assumption) ?_) | split
    | (simp only [Keeps.mk_iff]; with_reducible apply Keeps.fold))

theorem State.servePort_keeps {z : State} (s : State) (site : SiteId) (hz : Keeps z s) : Keeps z (State.servePort s
    site) := by
  unfold State.servePort
  repeat' (first
    | (with_reducible first | assumption | apply State.servePlane_keeps | apply KeepsO.next | apply Keeps.ite | apply KeepsO.ite | apply Keeps.ite1)
    | dsimp only | (with_reducible refine Keeps.fst (by assumption) ?_) | split)

theorem State.sendOut_keeps {z : State} (s : State) (r port : Nat) (tag : BitVec 64) (reqHi : BitVec 20) (isRead :
    Bool) (hz : Keeps z s) : Keeps z (State.sendOut s r port tag reqHi isRead) := by
  unfold State.sendOut; (try dsimp only)
  repeat' (first
    | (with_reducible first | assumption | apply State.serveCross_keeps | apply KeepsO.next | apply Keeps.ite | apply KeepsO.ite | apply Keeps.ite1)
    | dsimp only | (with_reducible refine Keeps.fst (by assumption) ?_) | split
    | (simp only [Keeps.mk_iff]; with_reducible apply Keeps.fold))

theorem State.flushCross_keeps {z : State} (s : State) (x : Nat × Nat × Nat) (hz : Keeps z s) : Keeps z
    (State.flushCross s x) := by
  unfold State.flushCross; (try dsimp only)
  repeat' (first
    | (with_reducible first | assumption | apply State.modCrossQ_keeps | apply KeepsO.next | apply Keeps.ite | apply KeepsO.ite | apply Keeps.ite1)
    | dsimp only | (with_reducible apply Keeps.foldl; (try intro _ _ _); (try dsimp only))
    | (with_reducible apply Keeps.foldl1; (try intro _ _ _); (try dsimp only))
    | (with_reducible refine Keeps.fst (by assumption) ?_) | split
    | (simp only [Keeps.mk_iff]; with_reducible apply Keeps.fold))

theorem State.severAisle_keeps {z : State} (s : State) (b : Nat) (hz : Keeps z s) : Keeps z (State.severAisle s b)
    := by
  unfold State.severAisle; (try dsimp only)
  repeat' (first
    | (with_reducible first | assumption | apply State.flushCross_keeps | apply KeepsO.next | apply Keeps.ite | apply KeepsO.ite | apply Keeps.ite1)
    | dsimp only | (with_reducible apply Keeps.foldl; (try intro _ _ _); (try dsimp only))
    | (with_reducible apply Keeps.foldl1; (try intro _ _ _); (try dsimp only))
    | (with_reducible refine Keeps.fst (by assumption) ?_) | split
    | (simp only [Keeps.mk_iff]; with_reducible apply Keeps.fold))

theorem State.modReq_keeps {z : State} (s : State) (src : Nat) (num : BitVec 32) (f : MeshReq → MeshReq) (hz : Keeps
    z s) : Keeps z (State.modReq s src num f) := by
  unfold State.modReq; (try dsimp only)
  repeat' (first
    | (with_reducible first | assumption | apply KeepsO.next | apply Keeps.ite | apply KeepsO.ite | apply Keeps.ite1)
    | dsimp only | (with_reducible refine Keeps.fst (by assumption) ?_) | split
    | (simp only [Keeps.mk_iff]; with_reducible apply Keeps.fold))

theorem State.retryReq_keeps {z : State} (s : State) (src : Nat) (num : BitVec 32) (hz : Keeps z s) : Keeps z
    (State.retryReq s src num) := by
  unfold State.retryReq
  repeat' (first
    | (with_reducible first | assumption | apply State.odAdd_keeps | apply State.modReq_keeps))

theorem State.portTurn_keeps {z : State} (s : State) (site : SiteId) (hz : Keeps z s) : Keeps z (State.portTurn s
    site) := by
  unfold State.portTurn; (try dsimp only)
  repeat' (first
    | (with_reducible first | assumption | apply State.retryReq_keeps | apply State.wakePort_keeps | apply State.portDrop_keeps | apply State.modPortQ_keeps | apply State.servePort_keeps | apply KeepsO.next | apply Keeps.ite | apply KeepsO.ite | apply Keeps.ite1)
    | dsimp only | (with_reducible apply Keeps.foldl; (try intro _ _ _); (try dsimp only))
    | (with_reducible apply Keeps.foldl1; (try intro _ _ _); (try dsimp only))
    | (with_reducible refine Keeps.fst (by assumption) ?_) | split
    | (simp only [Keeps.mk_iff]; with_reducible apply Keeps.fold))

theorem State.keepReq_keeps {z : State} (s : State) (endpt src : Nat) (num : BitVec 32) (gran : Nat) (hz : Keeps z
    s) : Keeps z (State.keepReq s endpt src num gran) := by
  unfold State.keepReq; (try dsimp only)
  repeat' (first
    | (with_reducible first | assumption | apply KeepsO.next | apply Keeps.ite | apply KeepsO.ite | apply Keeps.ite1)
    | dsimp only | (with_reducible refine Keeps.fst (by assumption) ?_) | split
    | (simp only [Keeps.mk_iff]; with_reducible apply Keeps.fold))

theorem State.countSpares_keeps {z : State} (s : State) (b : Nat) (hz : Keeps z s) : Keeps z (State.countSpares s b)
    := by
  unfold State.countSpares; (try dsimp only)
  repeat' (first
    | (with_reducible first | assumption | apply State.odSet_keeps))

theorem State.setWires_keeps {z : State} (s : State) (x : Nat × Nat × Nat) (bad : List WireFail) (hz : Keeps z s) :
    Keeps z (State.setWires s x bad) := by
  unfold State.setWires; (try dsimp only)
  repeat' (first
    | (with_reducible first | assumption | apply State.studTouch_keeps | apply State.countSpares_keeps | apply KeepsO.next | apply Keeps.ite | apply KeepsO.ite | apply Keeps.ite1)
    | dsimp only | (with_reducible refine Keeps.fst (by assumption) ?_) | split
    | (simp only [Keeps.mk_iff]; with_reducible apply Keeps.fold))

theorem State.odAnswer_keeps {z : State} (s : State) (a : OdAns) (hz : Keeps z s) : Keeps z (State.odAnswer s a) := by
  unfold State.odAnswer; (try dsimp only)
  repeat' (first
    | (with_reducible first | assumption | apply KeepsO.next | apply Keeps.ite | apply KeepsO.ite | apply Keeps.ite1)
    | dsimp only | (with_reducible refine Keeps.fst (by assumption) ?_) | split
    | (simp only [Keeps.mk_iff]; with_reducible apply Keeps.fold))

theorem State.odFail_keeps {z : State} (s : State) (status : Nat) (hz : Keeps z s) : Keeps z (State.odFail s status)
    := by
  unfold State.odFail
  repeat' (first
    | (with_reducible first | assumption | apply State.odAnswer_keeps))

theorem State.octetsSet_keeps {z : State} (s : State) (k : Nat) (b : List Byte) (hz : Keeps z s) : Keeps z
    (State.octetsSet s k b) := by
  unfold State.octetsSet; (try dsimp only)
  repeat' (first
    | (with_reducible first | assumption | apply KeepsO.next | apply Keeps.ite | apply KeepsO.ite | apply Keeps.ite1)
    | dsimp only | (with_reducible refine Keeps.fst (by assumption) ?_) | split
    | (simp only [Keeps.mk_iff]; with_reducible apply Keeps.fold))

theorem State.odDeny_keeps {z : State} (s : State) (route : Nat) (hz : Keeps z s) : Keeps z (State.odDeny s route)
    := by
  unfold State.odDeny; (try dsimp only)
  repeat' (first
    | (with_reducible first | assumption | apply State.route_keeps | apply State.odAdd_keeps | apply State.octetsSet_keeps))

theorem State.odFailRow_keeps {z : State} (s : State) (status typ total : Nat) (hz : Keeps z s) : Keeps z
    (State.odFailRow s status typ total) := by
  unfold State.odFailRow
  repeat' (first
    | (with_reducible first | assumption | apply State.odAnswer_keeps))

theorem State.odNoRights_keeps {z : State} (s : State) (route n : Nat) (write : Bool) (hz : Keeps z s) : Keeps z
    (State.odNoRights s route n write) := by
  unfold State.odNoRights
  repeat' (first
    | (with_reducible first | assumption | apply State.odDeny_keeps | apply State.route_keeps | apply State.odAnswer_keeps))

theorem State.odScalarWrite_keeps {z : State} (s : State) (route : Nat) (dbg bad : Bool) (index sub offset len :
    Nat) (k : State → State × Nat) (hz : Keeps z s) (hk : ∀ t, Keeps z t → Keeps z (k t).1) : Keeps z
    (State.odScalarWrite s route dbg bad index sub offset len k) := by
  unfold State.odScalarWrite; (try dsimp only)
  repeat' (first
    | (with_reducible first | assumption | apply hk | apply State.route_keeps | apply State.hostLost_keeps | apply State.odFail_keeps | apply State.odNoRights_keeps | apply State.odFailRow_keeps | apply KeepsO.next | apply Keeps.ite | apply KeepsO.ite | apply Keeps.ite1)
    | dsimp only | (with_reducible refine Keeps.fst (by assumption) ?_) | split)

theorem State.keyWrite_keeps {z : State} (s : State) (route key : Nat) (k : State → State × Nat) (hz : Keeps z s)
    (hk : ∀ t, Keeps z t → Keeps z (k t).1) : Keeps z (State.keyWrite s route key k) := by
  unfold State.keyWrite
  repeat' (first
    | (with_reducible first | assumption | apply hk | apply State.odScalarWrite_keeps))

theorem State.linkOut_keeps {z : State} (s : State) (x : LinkTx) (hz : Keeps z s) : Keeps z (State.linkOut s x) := by
  unfold State.linkOut
  repeat' (first
    | (with_reducible first | assumption | apply KeepsO.next | apply Keeps.ite | apply KeepsO.ite | apply Keeps.ite1)
    | dsimp only | (with_reducible refine Keeps.fst (by assumption) ?_) | split
    | (simp only [Keeps.mk_iff]; with_reducible apply Keeps.fold))

theorem State.say_keeps {z : State} (s : State) (k : Nat) (m : LinkMsg) (hz : Keeps z s) : Keeps z (State.say s k m)
    := by
  unfold State.say
  repeat' (first
    | (with_reducible first | assumption | apply State.linkOut_keeps))

theorem State.sendNow_keeps {z : State} (s : State) (k cls bytes : Nat) (via : Option Transit) (m : LinkMsg) (hz :
    Keeps z s) : Keeps z (State.sendNow s k cls bytes via m) := by
  unfold State.sendNow; (try dsimp only)
  repeat' (first
    | (with_reducible first | assumption | apply State.modLink_keeps | apply State.linkOut_keeps))

theorem State.sendOn_keeps {z : State} (s : State) (k vc : Nat) (dl : Bool) (bytes : Nat) (via : Option Transit) (m
    : LinkMsg) (hz : Keeps z s) : Keeps z (State.sendOn s k vc dl bytes via m) := by
  unfold State.sendOn; (try dsimp only)
  repeat' (first
    | (with_reducible first | assumption | apply State.sendNow_keeps | apply State.modLink_keeps | apply KeepsO.next | apply Keeps.ite))

theorem State.flushOne_keeps {z : State} (sw : State × List LinkWait) (k : Nat) (w : LinkWait) (hz : Keeps z sw.1) :
    Keeps z (State.flushOne sw k w).1 := by
  unfold State.flushOne
  repeat' (first
    | (with_reducible first | assumption | apply State.sendNow_keeps | apply KeepsO.next | apply Keeps.ite | apply KeepsO.ite | apply Keeps.ite1))

theorem State.flushLink_keeps {z : State} (s : State) (k : Nat) (hz : Keeps z s) : Keeps z (State.flushLink s k) := by
  unfold State.flushLink; (try dsimp only)
  repeat' (first
    | (with_reducible first | assumption | apply State.flushOne_keeps | apply State.modLink_keeps | apply KeepsO.next | apply Keeps.ite | apply KeepsO.ite | apply Keeps.ite1)
    | dsimp only | (with_reducible apply Keeps.foldl; (try intro _ _ _); (try dsimp only))
    | (with_reducible apply Keeps.foldl1; (try intro _ _ _); (try dsimp only)))

theorem State.pumpHost_keeps {z : State} (s : State) (hz : Keeps z s) : Keeps z (State.pumpHost s) := by
  unfold State.pumpHost; (try dsimp only)
  repeat' (first
    | (with_reducible first | assumption | apply State.sendOn_keeps | apply KeepsO.next | apply Keeps.ite | apply KeepsO.ite | apply Keeps.ite1)
    | dsimp only | (with_reducible apply Keeps.foldl; (try intro _ _ _); (try dsimp only))
    | (with_reducible apply Keeps.foldl1; (try intro _ _ _); (try dsimp only))
    | (with_reducible refine Keeps.fst (by assumption) ?_) | split
    | (simp only [Keeps.mk_iff]; with_reducible apply Keeps.fold))

theorem State.sendFrom_keeps {z : State} (s : State) (die : Option Nat) (k vc : Nat) (dl : Bool) (bytes : Nat) (m :
    LinkMsg) (hz : Keeps z s) : Keeps z (State.sendFrom s die k vc dl bytes m) := by
  unfold State.sendFrom
  repeat' (first
    | (with_reducible first | assumption | apply State.odAdd_keeps | apply State.sendOn_keeps | apply KeepsO.next | apply Keeps.ite))

theorem State.fromLink_keeps {z : State} (s : State) (link : Option Nat) (f : State → State) (hz : Keeps z s) (hf :
    ∀ t, Keeps z t → Keeps z (f t)) : Keeps z (State.fromLink s link f) := by
  unfold State.fromLink
  repeat' (first
    | (with_reducible first | assumption | apply hf | apply State.odAdd_keeps | apply KeepsO.next | apply Keeps.ite | apply KeepsO.ite | apply Keeps.ite1)
    | dsimp only | (with_reducible refine Keeps.fst (by assumption) ?_) | split)

theorem State.routeOut_keeps {z : State} (s : State) (die : Option Nat) (dst vc : Nat) (dl : Bool) (bytes : Nat) (m
    : LinkMsg) (hz : Keeps z s) : Keeps z (State.routeOut s die dst vc dl bytes m) := by
  unfold State.routeOut
  repeat' (first
    | (with_reducible first | assumption | apply State.linkOut_keeps | apply State.sendFrom_keeps | apply KeepsO.next | apply Keeps.ite | apply KeepsO.ite | apply Keeps.ite1)
    | dsimp only | (with_reducible refine Keeps.fst (by assumption) ?_) | split)

theorem State.relay_keeps {z : State} (s : State) (link dst vc : Nat) (dl : Bool) (bytes hops : Nat) (m : LinkMsg)
    (hz : Keeps z s) : Keeps z (State.relay s link dst vc dl bytes hops m) := by
  unfold State.relay; (try dsimp only)
  repeat' (first
    | (with_reducible first | assumption | apply State.odAdd_keeps | apply State.routeOut_keeps | apply KeepsO.next | apply Keeps.ite))

theorem State.sendRouted_keeps {z : State} (s : State) (dst vc bytes : Nat) (m : LinkMsg) (hz : Keeps z s) : Keeps z
    (State.sendRouted s dst vc bytes m) := by
  unfold State.sendRouted
  repeat' (first
    | (with_reducible first | assumption | apply State.routeOut_keeps))

end Sys2Proof.Machine
end

