-- ==== Sys2Proof/Laws/KeepsSlots.lean ====
section
/-! SUPPORT. The operations and meanings of the slots of a core keep the queue and the canonical
form of every map. -/

set_option maxRecDepth 8000

namespace Sys2Proof.Machine

open Sys2Proof

theorem seqOp_keeps {z : State} (op : Nat) (c : CoreId) (f : SeqSlot) (s : State) (k : CoreSt → CoreSt → List Nat ×
    CoreSt) (hz : Keeps z s) : Keeps z (seqOp op c f s k) := by
  unfold seqOp
  repeat' (first
    | (with_reducible first | assumption | apply State.slotOp_keeps))

theorem seqArith_keeps {z : State} (op : Nat) (c : CoreId) (f : SeqSlot) (s : State) (g : W32 → W32 → W32) (hz :
    Keeps z s) : KeepsO z (seqArith op c f s g) := by
  unfold seqArith
  repeat' (first
    | (with_reducible first | assumption | apply seqOp_keeps | apply KeepsO.next))

theorem execSeqNop_keeps {z : State} (c : CoreId) (f : SeqSlot) (s : State) (hz : Keeps z s) : KeepsO z (execSeqNop
    c f s) := by
  unfold execSeqNop
  repeat' (first
    | (with_reducible first | assumption | apply seqOp_keeps | apply KeepsO.next))

theorem execMovi_keeps {z : State} (c : CoreId) (f : SeqSlot) (s : State) (hz : Keeps z s) : KeepsO z (execMovi c f
    s) := by
  unfold execMovi
  repeat' (first
    | (with_reducible first | assumption | apply seqArith_keeps))

theorem execOrhi_keeps {z : State} (c : CoreId) (f : SeqSlot) (s : State) (hz : Keeps z s) : KeepsO z (execOrhi c f
    s) := by
  unfold execOrhi
  repeat' (first
    | (with_reducible first | assumption | apply seqArith_keeps))

theorem execSeqAdd_keeps {z : State} (c : CoreId) (f : SeqSlot) (s : State) (hz : Keeps z s) : KeepsO z (execSeqAdd
    c f s) := by
  unfold execSeqAdd
  repeat' (first
    | (with_reducible first | assumption | apply seqArith_keeps))

theorem execSeqSub_keeps {z : State} (c : CoreId) (f : SeqSlot) (s : State) (hz : Keeps z s) : KeepsO z (execSeqSub
    c f s) := by
  unfold execSeqSub
  repeat' (first
    | (with_reducible first | assumption | apply seqArith_keeps))

theorem execAddi_keeps {z : State} (c : CoreId) (f : SeqSlot) (s : State) (hz : Keeps z s) : KeepsO z (execAddi c f
    s) := by
  unfold execAddi
  repeat' (first
    | (with_reducible first | assumption | apply seqArith_keeps))

theorem execSeqMul_keeps {z : State} (c : CoreId) (f : SeqSlot) (s : State) (hz : Keeps z s) : KeepsO z (execSeqMul
    c f s) := by
  unfold execSeqMul
  repeat' (first
    | (with_reducible first | assumption | apply seqArith_keeps))

theorem execSeqAnd_keeps {z : State} (c : CoreId) (f : SeqSlot) (s : State) (hz : Keeps z s) : KeepsO z (execSeqAnd
    c f s) := by
  unfold execSeqAnd
  repeat' (first
    | (with_reducible first | assumption | apply seqArith_keeps))

theorem execSeqOr_keeps {z : State} (c : CoreId) (f : SeqSlot) (s : State) (hz : Keeps z s) : KeepsO z (execSeqOr c
    f s) := by
  unfold execSeqOr
  repeat' (first
    | (with_reducible first | assumption | apply seqArith_keeps))

theorem execSeqXor_keeps {z : State} (c : CoreId) (f : SeqSlot) (s : State) (hz : Keeps z s) : KeepsO z (execSeqXor
    c f s) := by
  unfold execSeqXor
  repeat' (first
    | (with_reducible first | assumption | apply seqArith_keeps))

theorem execShli_keeps {z : State} (c : CoreId) (f : SeqSlot) (s : State) (hz : Keeps z s) : KeepsO z (execShli c f
    s) := by
  unfold execShli
  repeat' (first
    | (with_reducible first | assumption | apply seqArith_keeps))

theorem execShri_keeps {z : State} (c : CoreId) (f : SeqSlot) (s : State) (hz : Keeps z s) : KeepsO z (execShri c f
    s) := by
  unfold execShri
  repeat' (first
    | (with_reducible first | assumption | apply seqArith_keeps))

theorem execSrai_keeps {z : State} (c : CoreId) (f : SeqSlot) (s : State) (hz : Keeps z s) : KeepsO z (execSrai c f
    s) := by
  unfold execSrai
  repeat' (first
    | (with_reducible first | assumption | apply seqArith_keeps))

theorem execSlt_keeps {z : State} (c : CoreId) (f : SeqSlot) (s : State) (hz : Keeps z s) : KeepsO z (execSlt c f s)
    := by
  unfold execSlt
  repeat' (first
    | (with_reducible first | assumption | apply seqArith_keeps))

theorem execSltu_keeps {z : State} (c : CoreId) (f : SeqSlot) (s : State) (hz : Keeps z s) : KeepsO z (execSltu c f
    s) := by
  unfold execSltu
  repeat' (first
    | (with_reducible first | assumption | apply seqArith_keeps))

theorem branchOp_keeps {z : State} (op : Nat) (c : CoreId) (f : SeqSlot) (s : State) (taken : W32 → Bool) (hz :
    Keeps z s) : KeepsO z (branchOp op c f s taken) := by
  unfold branchOp; (try dsimp only)
  repeat' (first
    | (with_reducible first | assumption | apply seqOp_keeps | apply KeepsO.next))

theorem loopOp_keeps {z : State} (op : Nat) (c : CoreId) (f : SeqSlot) (s : State) (n : W32 → Nat) (hz : Keeps z s)
    : KeepsO z (loopOp op c f s n) := by
  unfold loopOp; (try dsimp only)
  repeat' (first
    | (with_reducible first | assumption | apply seqOp_keeps | apply KeepsO.next))

theorem execJump_keeps {z : State} (c : CoreId) (f : SeqSlot) (s : State) (hz : Keeps z s) : KeepsO z (execJump c f
    s) := by
  unfold execJump
  repeat' (first
    | (with_reducible first | assumption | apply branchOp_keeps))

theorem execBeqz_keeps {z : State} (c : CoreId) (f : SeqSlot) (s : State) (hz : Keeps z s) : KeepsO z (execBeqz c f
    s) := by
  unfold execBeqz
  repeat' (first
    | (with_reducible first | assumption | apply branchOp_keeps))

theorem execBnez_keeps {z : State} (c : CoreId) (f : SeqSlot) (s : State) (hz : Keeps z s) : KeepsO z (execBnez c f
    s) := by
  unfold execBnez
  repeat' (first
    | (with_reducible first | assumption | apply branchOp_keeps))

theorem execBltz_keeps {z : State} (c : CoreId) (f : SeqSlot) (s : State) (hz : Keeps z s) : KeepsO z (execBltz c f
    s) := by
  unfold execBltz
  repeat' (first
    | (with_reducible first | assumption | apply branchOp_keeps))

theorem execLoop_keeps {z : State} (c : CoreId) (f : SeqSlot) (s : State) (hz : Keeps z s) : KeepsO z (execLoop c f
    s) := by
  unfold execLoop
  repeat' (first
    | (with_reducible first | assumption | apply loopOp_keeps))

theorem execLoopi_keeps {z : State} (c : CoreId) (f : SeqSlot) (s : State) (hz : Keeps z s) : KeepsO z (execLoopi c
    f s) := by
  unfold execLoopi
  repeat' (first
    | (with_reducible first | assumption | apply loopOp_keeps))

theorem execRdc_keeps {z : State} (c : CoreId) (f : SeqSlot) (s : State) (hz : Keeps z s) : KeepsO z (execRdc c f s)
    := by
  unfold execRdc; (try dsimp only)
  repeat' (first
    | (with_reducible first | assumption | apply State.runFree_keeps | apply seqOp_keeps | apply KeepsO.next | apply Keeps.ite))

theorem execPost_keeps {z : State} (c : CoreId) (f : SeqSlot) (s : State) (hz : Keeps z s) : KeepsO z (execPost c f
    s) := by
  unfold execPost; (try dsimp only)
  repeat' (first
    | (with_reducible first | assumption | apply seqOp_keeps | apply KeepsO.next))

theorem execMrd_keeps {z : State} (c : CoreId) (f : SeqSlot) (s : State) (hz : Keeps z s) : KeepsO z (execMrd c f s)
    := by
  unfold execMrd; (try dsimp only)
  repeat' (first
    | (with_reducible first | assumption | apply seqOp_keeps | apply KeepsO.next))

theorem execMack_keeps {z : State} (c : CoreId) (f : SeqSlot) (s : State) (hz : Keeps z s) : KeepsO z (execMack c f
    s) := by
  unfold execMack; (try dsimp only)
  repeat' (first
    | (with_reducible first | assumption | apply seqOp_keeps | apply KeepsO.next))

theorem execSeqEnd_keeps {z : State} (c : CoreId) (f : SeqSlot) (s : State) (hz : Keeps z s) : KeepsO z (execSeqEnd
    c f s) := by
  unfold execSeqEnd
  repeat' (first
    | (with_reducible first | assumption | apply seqOp_keeps | apply KeepsO.next))

theorem execMxNop_keeps {z : State} (c : CoreId) (f : MxSlot) (s : State) (hz : Keeps z s) : KeepsO z (execMxNop c f
    s) := by
  unfold execMxNop
  repeat' (first
    | (with_reducible first | assumption | apply State.slotOp_keeps | apply KeepsO.next))

theorem execMxDload_keeps {z : State} (c : CoreId) (f : MxAddr) (s : State) (hz : Keeps z s) : KeepsO z (execMxDload
    c f s) := by
  unfold execMxDload; (try dsimp only)
  repeat' (first
    | (with_reducible first | assumption | apply State.slotOp_keeps | apply State.readRow_keeps | apply KeepsO.next))

theorem execMxLoad_keeps {z : State} (c : CoreId) (f : MxSlot) (s : State) (hz : Keeps z s) : KeepsO z (execMxLoad c
    f s) := by
  unfold execMxLoad; (try dsimp only)
  repeat' (first
    | (with_reducible first | assumption | apply State.slotOp_keeps | apply KeepsO.next))

theorem execMxSwap_keeps {z : State} (c : CoreId) (f : MxSlot) (s : State) (hz : Keeps z s) : KeepsO z (execMxSwap c
    f s) := by
  unfold execMxSwap; (try dsimp only)
  repeat' (first
    | (with_reducible first | assumption | apply State.slotOp_keeps | apply KeepsO.next))

theorem execMxStream_keeps {z : State} (c : CoreId) (f : MxSlot) (s : State) (hz : Keeps z s) : KeepsO z
    (execMxStream c f s) := by
  unfold execMxStream; (try dsimp only)
  repeat' (first
    | (with_reducible first | assumption | apply State.slotOp_keeps | apply KeepsO.next))

theorem execMxDrain_keeps {z : State} (c : CoreId) (f : MxSlot) (s : State) (hz : Keeps z s) : KeepsO z (execMxDrain
    c f s) := by
  unfold execMxDrain; (try dsimp only)
  repeat' (first
    | (with_reducible first | assumption | apply State.slotOp_keeps | apply State.replay_keeps | apply KeepsO.next))

theorem execShadowPlaneComplete_keeps {z : State} (c : CoreId) (s : State) (hz : Keeps z s) : KeepsO z
    (execShadowPlaneComplete c s) := by
  unfold execShadowPlaneComplete
  repeat' (first
    | (with_reducible first | assumption | apply State.modCur_keeps | apply KeepsO.next | apply Keeps.ite))

theorem execSwapTakesEffect_keeps {z : State} (c : CoreId) (s : State) (hz : Keeps z s) : KeepsO z
    (execSwapTakesEffect c s) := by
  unfold execSwapTakesEffect
  repeat' (first
    | (with_reducible first | assumption | apply State.modCur_keeps | apply KeepsO.next | apply Keeps.ite))

theorem execPassStepAccumulate_keeps {z : State} (c : CoreId) (s : State) (hz : Keeps z s) : KeepsO z
    (execPassStepAccumulate c s) := by
  unfold execPassStepAccumulate
  repeat' (first
    | (with_reducible first | assumption | apply State.modCur_keeps | apply KeepsO.next | apply Keeps.ite))

theorem execReplayHoldEnd_keeps {z : State} (c : CoreId) (s : State) (hz : Keeps z s) : KeepsO z (execReplayHoldEnd
    c s) := by
  unfold execReplayHoldEnd
  repeat' (first
    | (with_reducible first | assumption | apply State.replay_keeps | apply State.modBoth_keeps | apply State.odAdd_keeps | apply KeepsO.next | apply Keeps.ite | apply KeepsO.ite | apply Keeps.ite1)
    | dsimp only | (with_reducible refine Keeps.fst (by assumption) ?_) | split)

theorem execDrainRowOutput_keeps {z : State} (c : CoreId) (s : State) (hz : Keeps z s) : KeepsO z
    (execDrainRowOutput c s) := by
  unfold execDrainRowOutput
  repeat' (first
    | (with_reducible first | assumption | apply State.modCur_keeps | apply KeepsO.next | apply Keeps.ite))

theorem vxDirect_keeps {z : State} (op : Nat) (c : CoreId) (f : VxSlot) (s : State) (hz : Keeps z s) : KeepsO z
    (vxDirect op c f s) := by
  unfold vxDirect; (try dsimp only)
  repeat' (first
    | (with_reducible first | assumption | apply State.slotOp_keeps | apply KeepsO.next))

theorem execVxNop_keeps {z : State} (c : CoreId) (f : VxSlot) (s : State) (hz : Keeps z s) : KeepsO z (execVxNop c f
    s) := by
  unfold execVxNop
  repeat' (first
    | (with_reducible first | assumption | apply State.slotOp_keeps | apply KeepsO.next))

theorem execVxAdd_keeps {z : State} (c : CoreId) (f : VxSlot) (s : State) (hz : Keeps z s) : KeepsO z (execVxAdd c f
    s) := by
  unfold execVxAdd
  repeat' (first
    | (with_reducible first | assumption | apply vxDirect_keeps))

theorem execVxSub_keeps {z : State} (c : CoreId) (f : VxSlot) (s : State) (hz : Keeps z s) : KeepsO z (execVxSub c f
    s) := by
  unfold execVxSub
  repeat' (first
    | (with_reducible first | assumption | apply vxDirect_keeps))

theorem execVxMul_keeps {z : State} (c : CoreId) (f : VxSlot) (s : State) (hz : Keeps z s) : KeepsO z (execVxMul c f
    s) := by
  unfold execVxMul
  repeat' (first
    | (with_reducible first | assumption | apply vxDirect_keeps))

theorem execVxAddu_keeps {z : State} (c : CoreId) (f : VxSlot) (s : State) (hz : Keeps z s) : KeepsO z (execVxAddu c
    f s) := by
  unfold execVxAddu
  repeat' (first
    | (with_reducible first | assumption | apply vxDirect_keeps))

theorem execVxSubu_keeps {z : State} (c : CoreId) (f : VxSlot) (s : State) (hz : Keeps z s) : KeepsO z (execVxSubu c
    f s) := by
  unfold execVxSubu
  repeat' (first
    | (with_reducible first | assumption | apply vxDirect_keeps))

theorem execVxMulu_keeps {z : State} (c : CoreId) (f : VxSlot) (s : State) (hz : Keeps z s) : KeepsO z (execVxMulu c
    f s) := by
  unfold execVxMulu
  repeat' (first
    | (with_reducible first | assumption | apply vxDirect_keeps))

theorem execVxDiv_keeps {z : State} (c : CoreId) (f : VxSlot) (s : State) (hz : Keeps z s) : KeepsO z (execVxDiv c f
    s) := by
  unfold execVxDiv
  repeat' (first
    | (with_reducible first | assumption | apply vxDirect_keeps))

theorem execVxDivu_keeps {z : State} (c : CoreId) (f : VxSlot) (s : State) (hz : Keeps z s) : KeepsO z (execVxDivu c
    f s) := by
  unfold execVxDivu
  repeat' (first
    | (with_reducible first | assumption | apply vxDirect_keeps))

theorem execVxMin_keeps {z : State} (c : CoreId) (f : VxSlot) (s : State) (hz : Keeps z s) : KeepsO z (execVxMin c f
    s) := by
  unfold execVxMin
  repeat' (first
    | (with_reducible first | assumption | apply vxDirect_keeps))

theorem execVxMax_keeps {z : State} (c : CoreId) (f : VxSlot) (s : State) (hz : Keeps z s) : KeepsO z (execVxMax c f
    s) := by
  unfold execVxMax
  repeat' (first
    | (with_reducible first | assumption | apply vxDirect_keeps))

theorem execVxMinu_keeps {z : State} (c : CoreId) (f : VxSlot) (s : State) (hz : Keeps z s) : KeepsO z (execVxMinu c
    f s) := by
  unfold execVxMinu
  repeat' (first
    | (with_reducible first | assumption | apply vxDirect_keeps))

theorem execVxMaxu_keeps {z : State} (c : CoreId) (f : VxSlot) (s : State) (hz : Keeps z s) : KeepsO z (execVxMaxu c
    f s) := by
  unfold execVxMaxu
  repeat' (first
    | (with_reducible first | assumption | apply vxDirect_keeps))

theorem execVxAnd_keeps {z : State} (c : CoreId) (f : VxSlot) (s : State) (hz : Keeps z s) : KeepsO z (execVxAnd c f
    s) := by
  unfold execVxAnd
  repeat' (first
    | (with_reducible first | assumption | apply vxDirect_keeps))

theorem execVxOr_keeps {z : State} (c : CoreId) (f : VxSlot) (s : State) (hz : Keeps z s) : KeepsO z (execVxOr c f
    s) := by
  unfold execVxOr
  repeat' (first
    | (with_reducible first | assumption | apply vxDirect_keeps))

theorem execVxXor_keeps {z : State} (c : CoreId) (f : VxSlot) (s : State) (hz : Keeps z s) : KeepsO z (execVxXor c f
    s) := by
  unfold execVxXor
  repeat' (first
    | (with_reducible first | assumption | apply vxDirect_keeps))

theorem execVxAndn_keeps {z : State} (c : CoreId) (f : VxSlot) (s : State) (hz : Keeps z s) : KeepsO z (execVxAndn c
    f s) := by
  unfold execVxAndn
  repeat' (first
    | (with_reducible first | assumption | apply vxDirect_keeps))

theorem execVxShl_keeps {z : State} (c : CoreId) (f : VxSlot) (s : State) (hz : Keeps z s) : KeepsO z (execVxShl c f
    s) := by
  unfold execVxShl
  repeat' (first
    | (with_reducible first | assumption | apply vxDirect_keeps))

theorem execVxShr_keeps {z : State} (c : CoreId) (f : VxSlot) (s : State) (hz : Keeps z s) : KeepsO z (execVxShr c f
    s) := by
  unfold execVxShr
  repeat' (first
    | (with_reducible first | assumption | apply vxDirect_keeps))

theorem execVxSra_keeps {z : State} (c : CoreId) (f : VxSlot) (s : State) (hz : Keeps z s) : KeepsO z (execVxSra c f
    s) := by
  unfold execVxSra
  repeat' (first
    | (with_reducible first | assumption | apply vxDirect_keeps))

theorem execVxCmpeq_keeps {z : State} (c : CoreId) (f : VxSlot) (s : State) (hz : Keeps z s) : KeepsO z (execVxCmpeq
    c f s) := by
  unfold execVxCmpeq
  repeat' (first
    | (with_reducible first | assumption | apply vxDirect_keeps))

theorem execVxCmplt_keeps {z : State} (c : CoreId) (f : VxSlot) (s : State) (hz : Keeps z s) : KeepsO z (execVxCmplt
    c f s) := by
  unfold execVxCmplt
  repeat' (first
    | (with_reducible first | assumption | apply vxDirect_keeps))

theorem execVxCmple_keeps {z : State} (c : CoreId) (f : VxSlot) (s : State) (hz : Keeps z s) : KeepsO z (execVxCmple
    c f s) := by
  unfold execVxCmple
  repeat' (first
    | (with_reducible first | assumption | apply vxDirect_keeps))

theorem execVxCmpltu_keeps {z : State} (c : CoreId) (f : VxSlot) (s : State) (hz : Keeps z s) : KeepsO z
    (execVxCmpltu c f s) := by
  unfold execVxCmpltu
  repeat' (first
    | (with_reducible first | assumption | apply vxDirect_keeps))

theorem execVxSel_keeps {z : State} (c : CoreId) (f : VxSlot) (s : State) (hz : Keeps z s) : KeepsO z (execVxSel c f
    s) := by
  unfold execVxSel
  repeat' (first
    | (with_reducible first | assumption | apply vxDirect_keeps))

theorem execVxMov_keeps {z : State} (c : CoreId) (f : VxSlot) (s : State) (hz : Keeps z s) : KeepsO z (execVxMov c f
    s) := by
  unfold execVxMov
  repeat' (first
    | (with_reducible first | assumption | apply vxDirect_keeps))

theorem execVxMovhi_keeps {z : State} (c : CoreId) (f : VxSlot) (s : State) (hz : Keeps z s) : KeepsO z (execVxMovhi
    c f s) := by
  unfold execVxMovhi
  repeat' (first
    | (with_reducible first | assumption | apply vxDirect_keeps))

theorem execVxMset_keeps {z : State} (c : CoreId) (f : VxSlot) (s : State) (hz : Keeps z s) : KeepsO z (execVxMset c
    f s) := by
  unfold execVxMset
  repeat' (first
    | (with_reducible first | assumption | apply vxDirect_keeps))

theorem execVxMget_keeps {z : State} (c : CoreId) (f : VxSlot) (s : State) (hz : Keeps z s) : KeepsO z (execVxMget c
    f s) := by
  unfold execVxMget
  repeat' (first
    | (with_reducible first | assumption | apply vxDirect_keeps))

theorem execVxFadd_keeps {z : State} (c : CoreId) (f : VxSlot) (s : State) (hz : Keeps z s) : KeepsO z (execVxFadd c
    f s) := by
  unfold execVxFadd
  repeat' (first
    | (with_reducible first | assumption | apply vxDirect_keeps))

theorem execVxFsub_keeps {z : State} (c : CoreId) (f : VxSlot) (s : State) (hz : Keeps z s) : KeepsO z (execVxFsub c
    f s) := by
  unfold execVxFsub
  repeat' (first
    | (with_reducible first | assumption | apply vxDirect_keeps))

theorem execVxFmul_keeps {z : State} (c : CoreId) (f : VxSlot) (s : State) (hz : Keeps z s) : KeepsO z (execVxFmul c
    f s) := by
  unfold execVxFmul
  repeat' (first
    | (with_reducible first | assumption | apply vxDirect_keeps))

theorem execVxFma_keeps {z : State} (c : CoreId) (f : VxSlot) (s : State) (hz : Keeps z s) : KeepsO z (execVxFma c f
    s) := by
  unfold execVxFma
  repeat' (first
    | (with_reducible first | assumption | apply vxDirect_keeps))

theorem execVxFmin_keeps {z : State} (c : CoreId) (f : VxSlot) (s : State) (hz : Keeps z s) : KeepsO z (execVxFmin c
    f s) := by
  unfold execVxFmin
  repeat' (first
    | (with_reducible first | assumption | apply vxDirect_keeps))

theorem execVxFmax_keeps {z : State} (c : CoreId) (f : VxSlot) (s : State) (hz : Keeps z s) : KeepsO z (execVxFmax c
    f s) := by
  unfold execVxFmax
  repeat' (first
    | (with_reducible first | assumption | apply vxDirect_keeps))

theorem execVxFcmpeq_keeps {z : State} (c : CoreId) (f : VxSlot) (s : State) (hz : Keeps z s) : KeepsO z
    (execVxFcmpeq c f s) := by
  unfold execVxFcmpeq
  repeat' (first
    | (with_reducible first | assumption | apply vxDirect_keeps))

theorem execVxFcmplt_keeps {z : State} (c : CoreId) (f : VxSlot) (s : State) (hz : Keeps z s) : KeepsO z
    (execVxFcmplt c f s) := by
  unfold execVxFcmplt
  repeat' (first
    | (with_reducible first | assumption | apply vxDirect_keeps))

theorem execVxFcmple_keeps {z : State} (c : CoreId) (f : VxSlot) (s : State) (hz : Keeps z s) : KeepsO z
    (execVxFcmple c f s) := by
  unfold execVxFcmple
  repeat' (first
    | (with_reducible first | assumption | apply vxDirect_keeps))

theorem execVxFrcp_keeps {z : State} (c : CoreId) (f : VxSlot) (s : State) (hz : Keeps z s) : KeepsO z (execVxFrcp c
    f s) := by
  unfold execVxFrcp
  repeat' (first
    | (with_reducible first | assumption | apply vxDirect_keeps))

theorem execVxFrsq_keeps {z : State} (c : CoreId) (f : VxSlot) (s : State) (hz : Keeps z s) : KeepsO z (execVxFrsq c
    f s) := by
  unfold execVxFrsq
  repeat' (first
    | (with_reducible first | assumption | apply vxDirect_keeps))

theorem execVxFexp2_keeps {z : State} (c : CoreId) (f : VxSlot) (s : State) (hz : Keeps z s) : KeepsO z (execVxFexp2
    c f s) := by
  unfold execVxFexp2
  repeat' (first
    | (with_reducible first | assumption | apply vxDirect_keeps))

theorem execVxFlog2_keeps {z : State} (c : CoreId) (f : VxSlot) (s : State) (hz : Keeps z s) : KeepsO z (execVxFlog2
    c f s) := by
  unfold execVxFlog2
  repeat' (first
    | (with_reducible first | assumption | apply vxDirect_keeps))

theorem execVxCvt_keeps {z : State} (c : CoreId) (f : VxSlot) (s : State) (hz : Keeps z s) : KeepsO z (execVxCvt c f
    s) := by
  unfold execVxCvt
  repeat' (first
    | (with_reducible first | assumption | apply vxDirect_keeps))

theorem execVxLut_keeps {z : State} (c : CoreId) (f : VxSlot) (s : State) (hz : Keeps z s) : KeepsO z (execVxLut c f
    s) := by
  unfold execVxLut
  repeat' (first
    | (with_reducible first | assumption | apply vxDirect_keeps))

theorem execVxRsum_keeps {z : State} (c : CoreId) (f : VxSlot) (s : State) (hz : Keeps z s) : KeepsO z (execVxRsum c
    f s) := by
  unfold execVxRsum
  repeat' (first
    | (with_reducible first | assumption | apply vxDirect_keeps))

theorem execVxRmax_keeps {z : State} (c : CoreId) (f : VxSlot) (s : State) (hz : Keeps z s) : KeepsO z (execVxRmax c
    f s) := by
  unfold execVxRmax
  repeat' (first
    | (with_reducible first | assumption | apply vxDirect_keeps))

theorem execVxRmin_keeps {z : State} (c : CoreId) (f : VxSlot) (s : State) (hz : Keeps z s) : KeepsO z (execVxRmin c
    f s) := by
  unfold execVxRmin
  repeat' (first
    | (with_reducible first | assumption | apply vxDirect_keeps))

theorem execVxFrsum_keeps {z : State} (c : CoreId) (f : VxSlot) (s : State) (hz : Keeps z s) : KeepsO z (execVxFrsum
    c f s) := by
  unfold execVxFrsum
  repeat' (first
    | (with_reducible first | assumption | apply vxDirect_keeps))

theorem execVxFrmax_keeps {z : State} (c : CoreId) (f : VxSlot) (s : State) (hz : Keeps z s) : KeepsO z (execVxFrmax
    c f s) := by
  unfold execVxFrmax
  repeat' (first
    | (with_reducible first | assumption | apply vxDirect_keeps))

theorem execVxFrmin_keeps {z : State} (c : CoreId) (f : VxSlot) (s : State) (hz : Keeps z s) : KeepsO z (execVxFrmin
    c f s) := by
  unfold execVxFrmin
  repeat' (first
    | (with_reducible first | assumption | apply vxDirect_keeps))

theorem execVxStat_keeps {z : State} (c : CoreId) (f : VxSlot) (s : State) (hz : Keeps z s) : KeepsO z (execVxStat c
    f s) := by
  unfold execVxStat; (try dsimp only)
  repeat' (first
    | (with_reducible first | assumption | apply State.slotOp_keeps | apply KeepsO.next))

theorem execVxResultWrite_keeps {z : State} (c : CoreId) (s : State) (hz : Keeps z s) : KeepsO z (execVxResultWrite
    c s) := by
  unfold execVxResultWrite; (try dsimp only)
  repeat' (first
    | (with_reducible first | assumption | apply State.modCur_keeps | apply KeepsO.next | apply Keeps.ite))

theorem execVxPload_keeps {z : State} (c : CoreId) (f : VxAddr) (s : State) (hz : Keeps z s) : KeepsO z (execVxPload
    c f s) := by
  unfold execVxPload; (try dsimp only)
  repeat' (first
    | (with_reducible first | assumption | apply State.slotOp_keeps | apply KeepsO.next))

theorem execVxRun_keeps {z : State} (c : CoreId) (f : VxAddr) (s : State) (hz : Keeps z s) : KeepsO z (execVxRun c f
    s) := by
  unfold execVxRun; (try dsimp only)
  repeat' (first
    | (with_reducible first | assumption | apply State.slotOp_keeps | apply State.readRow_keeps | apply KeepsO.next))

theorem execRunDescriptorCheck_keeps {z : State} (c : CoreId) (s : State) (hz : Keeps z s) : KeepsO z
    (execRunDescriptorCheck c s) := by
  unfold execRunDescriptorCheck; (try dsimp only)
  repeat' (first
    | (with_reducible first | assumption | apply State.modCur_keeps | apply State.coreFault_keeps | apply KeepsO.next | apply Keeps.ite | apply KeepsO.ite | apply Keeps.ite1)
    | dsimp only | (with_reducible refine Keeps.fst (by assumption) ?_) | split)

theorem execRunIteration_keeps {z : State} (c : CoreId) (s : State) (hz : Keeps z s) : KeepsO z (execRunIteration c
    s) := by
  unfold execRunIteration
  repeat' (first
    | (with_reducible first | assumption | apply State.modCur_keeps | apply KeepsO.next | apply Keeps.ite))

theorem execRunComplete_keeps {z : State} (c : CoreId) (s : State) (hz : Keeps z s) : KeepsO z (execRunComplete c s)
    := by
  unfold execRunComplete
  repeat' (first
    | (with_reducible first | assumption | apply State.modCur_keeps | apply KeepsO.next | apply Keeps.ite))

theorem lsOp_keeps {z : State} (op : Nat) (vxReg : Bool) (c : CoreId) (f : LsSlot) (s : State) (k : Nat → CoreSt →
    CoreSt → CoreSt × Bool) (hz : Keeps z s) : KeepsO z (lsOp op vxReg c f s k) := by
  unfold lsOp; (try dsimp only)
  repeat' (first
    | (with_reducible first | assumption | apply State.slotOp_keeps | apply KeepsO.next))

theorem execLsNop_keeps {z : State} (c : CoreId) (f : LsSlot) (s : State) (hz : Keeps z s) : KeepsO z (execLsNop c f
    s) := by
  unfold execLsNop
  repeat' (first
    | (with_reducible first | assumption | apply State.slotOp_keeps | apply KeepsO.next))

theorem execLsLdv_keeps {z : State} (c : CoreId) (f : LsSlot) (s : State) (hz : Keeps z s) : KeepsO z (execLsLdv c f
    s) := by
  unfold execLsLdv
  repeat' (first
    | (with_reducible first | assumption | apply lsOp_keeps))

theorem execLsStv_keeps {z : State} (c : CoreId) (f : LsSlot) (s : State) (hz : Keeps z s) : KeepsO z (execLsStv c f
    s) := by
  unfold execLsStv; (try dsimp only)
  repeat' (first
    | (with_reducible first | assumption | apply lsOp_keeps))

theorem execLsLdw_keeps {z : State} (c : CoreId) (f : LsSlot) (s : State) (hz : Keeps z s) : KeepsO z (execLsLdw c f
    s) := by
  unfold execLsLdw; (try dsimp only)
  repeat' (first
    | (with_reducible first | assumption | apply lsOp_keeps))

theorem execLsStw_keeps {z : State} (c : CoreId) (f : LsSlot) (s : State) (hz : Keeps z s) : KeepsO z (execLsStw c f
    s) := by
  unfold execLsStw; (try dsimp only)
  repeat' (first
    | (with_reducible first | assumption | apply lsOp_keeps))

theorem execLsLdm_keeps {z : State} (c : CoreId) (f : LsSlot) (s : State) (hz : Keeps z s) : KeepsO z (execLsLdm c f
    s) := by
  unfold execLsLdm; (try dsimp only)
  repeat' (first
    | (with_reducible first | assumption | apply lsOp_keeps))

theorem execLsStm_keeps {z : State} (c : CoreId) (f : LsSlot) (s : State) (hz : Keeps z s) : KeepsO z (execLsStm c f
    s) := by
  unfold execLsStm; (try dsimp only)
  repeat' (first
    | (with_reducible first | assumption | apply lsOp_keeps))

end Sys2Proof.Machine
end

