-- ==== Sys2Proof/Laws/KeepsMemory.lean ====
section
/-! SUPPORT. The operations and meanings of the memories, the copies, the windows and the update engines keep the queue and the canonical
form of every map. -/

set_option maxRecDepth 8000

namespace Sys2Proof.Machine

open Sys2Proof

theorem State.mbTake_keeps {z : State} (s : State) (snd rcv : Nat) (hz : Keeps z s) : Keeps z (State.mbTake s snd
    rcv) := by
  unfold State.mbTake
  repeat' (first
    | (with_reducible first | assumption | apply KeepsO.next | apply Keeps.ite | apply KeepsO.ite | apply Keeps.ite1)
    | dsimp only | (with_reducible refine Keeps.fst (by assumption) ?_) | split
    | (simp only [Keeps.mk_iff]; with_reducible apply Keeps.fold))

theorem State.mbFree_keeps {z : State} (s : State) (snd rcv : Nat) (hz : Keeps z s) : Keeps z (State.mbFree s snd
    rcv) := by
  unfold State.mbFree
  repeat' (first
    | (with_reducible first | assumption | apply KeepsO.next | apply Keeps.ite | apply KeepsO.ite | apply Keeps.ite1)
    | dsimp only | (with_reducible refine Keeps.fst (by assumption) ?_) | split
    | (simp only [Keeps.mk_iff]; with_reducible apply Keeps.fold))

theorem State.mgmtPut_keeps {z : State} (s : State) (r part : Nat) (i : MbItem) (hz : Keeps z s) : Keeps z
    (State.mgmtPut s r part i) := by
  unfold State.mgmtPut
  repeat' (first
    | (with_reducible first | assumption | apply State.odAdd_keeps | apply KeepsO.next | apply Keeps.ite | apply KeepsO.ite | apply Keeps.ite1)
    | dsimp only | (with_reducible refine Keeps.fst (by assumption) ?_) | split
    | (simp only [Keeps.mk_iff]; with_reducible apply Keeps.fold))

theorem State.toHost_keeps {z : State} (s : State) (area : Option Nat) (i : MbItem) (hz : Keeps z s) : Keeps z
    (State.toHost s area i) := by
  unfold State.toHost; (try dsimp only)
  repeat' (first
    | (with_reducible first | assumption | apply State.modPart_keeps | apply State.hostWrite_keeps | apply KeepsO.next | apply Keeps.ite | apply KeepsO.ite | apply Keeps.ite1)
    | dsimp only | (with_reducible refine Keeps.fst (by assumption) ?_) | split
    | (simp only [Keeps.mk_iff]; with_reducible apply Keeps.fold))

theorem State.codeToHost_keeps {z : State} (s : State) (area : Option Nat) (code : W32) (hz : Keeps z s) : Keeps z
    (State.codeToHost s area code) := by
  unfold State.codeToHost
  repeat' (first
    | (with_reducible first | assumption | apply State.toHost_keeps))

theorem State.ackToCore_keeps {z : State} (s : State) (c : CoreId) (src : BitVec 16) (code : W32) (hz : Keeps z s) :
    Keeps z (State.ackToCore s c src code) := by
  unfold State.ackToCore
  repeat' (first
    | (with_reducible first | assumption | apply KeepsO.next | apply Keeps.ite | apply KeepsO.ite | apply Keeps.ite1)
    | dsimp only | (with_reducible refine Keeps.fst (by assumption) ?_) | split
    | (simp only [Keeps.mk_iff]; with_reducible apply Keeps.fold))

theorem State.retryHost_keeps {z : State} (s : State) (hz : Keeps z s) : Keeps z (State.retryHost s) := by
  unfold State.retryHost; (try dsimp only)
  repeat' (first
    | (with_reducible first | assumption | apply State.mbTake_keeps | apply State.mgmtPut_keeps | apply KeepsO.next | apply Keeps.ite | apply KeepsO.ite | apply Keeps.ite1)
    | dsimp only | (with_reducible apply Keeps.foldl; (try intro _ _ _); (try dsimp only))
    | (with_reducible apply Keeps.foldl1; (try intro _ _ _); (try dsimp only))
    | (with_reducible refine Keeps.fst (by assumption) ?_) | split
    | (simp only [Keeps.mk_iff]; with_reducible apply Keeps.fold))

theorem State.sendPost_keeps {z : State} (s : State) (c : CoreId) (imm : Nat) (i : MbItem) (hz : Keeps z s) : Keeps
    z (State.sendPost s c imm i) := by
  unfold State.sendPost; (try dsimp only)
  repeat' (first
    | (with_reducible first | assumption | apply State.odAdd_keeps | apply State.ackToCore_keeps | apply State.mbTake_keeps | apply State.toHost_keeps | apply KeepsO.next | apply Keeps.ite | apply KeepsO.ite | apply Keeps.ite1)
    | dsimp only | (with_reducible refine Keeps.fst (by assumption) ?_) | split
    | (simp only [Keeps.mk_iff]; with_reducible apply Keeps.fold))

theorem State.sendAck_keeps {z : State} (s : State) (c : CoreId) (src : BitVec 16) (code : W32) (hz : Keeps z s) :
    Keeps z (State.sendAck s c src code) := by
  unfold State.sendAck
  repeat' (first
    | (with_reducible first | assumption | apply State.mbFree_keeps | apply State.toHost_keeps | apply State.retryHost_keeps | apply KeepsO.next | apply Keeps.ite | apply KeepsO.ite | apply Keeps.ite1)
    | dsimp only | (with_reducible refine Keeps.fst (by assumption) ?_) | split
    | (simp only [Keeps.mk_iff]; with_reducible apply Keeps.fold))

theorem State.discardMail_keeps {z : State} (s : State) (m : Mail) (hz : Keeps z s) : Keeps z (State.discardMail s
    m) := by
  unfold State.discardMail
  repeat' (first
    | (with_reducible first | assumption | apply State.mbFree_keeps | apply State.codeToHost_keeps | apply State.retryHost_keeps | apply State.odAdd_keeps | apply State.ackToCore_keeps | apply KeepsO.next | apply Keeps.ite | apply KeepsO.ite | apply Keeps.ite1)
    | dsimp only | (with_reducible refine Keeps.fst (by assumption) ?_) | split)

theorem State.discardPart_keeps {z : State} (s : State) (p : Nat) (hz : Keeps z s) : Keeps z (State.discardPart s p)
    := by
  unfold State.discardPart; (try dsimp only)
  repeat' (first
    | (with_reducible first | assumption | apply State.modBoth_keeps | apply State.discardMail_keeps | apply State.codeToHost_keeps | apply KeepsO.next | apply Keeps.ite | apply KeepsO.ite | apply Keeps.ite1)
    | dsimp only | (with_reducible apply Keeps.foldl; (try intro _ _ _); (try dsimp only))
    | (with_reducible apply Keeps.foldl1; (try intro _ _ _); (try dsimp only))
    | (with_reducible refine Keeps.fst (by assumption) ?_) | split
    | (simp only [Keeps.mk_iff]; with_reducible apply Keeps.fold))

theorem State.mailIn_keeps {z : State} (s : State) (m : Mail) (hz : Keeps z s) : Keeps z (State.mailIn s m) := by
  unfold State.mailIn; (try dsimp only)
  repeat' (first
    | (with_reducible first | assumption | apply State.modBoth_keeps | apply State.incFlag_keeps | apply State.mbFree_keeps | apply KeepsO.next | apply Keeps.ite | apply KeepsO.ite | apply Keeps.ite1)
    | dsimp only | (with_reducible refine Keeps.fst (by assumption) ?_) | split)

theorem execMailboxArrival_keeps {z : State} (i : Nat) (s : State) (hz : Keeps z s) : KeepsO z (execMailboxArrival i
    s) := by
  unfold execMailboxArrival; (try dsimp only)
  repeat' (first
    | (with_reducible first | assumption | apply State.discardMail_keeps | apply State.wakePort_keeps | apply State.odAdd_keeps | apply State.portDrop_keeps | apply State.landLater_keeps | apply State.mailIn_keeps | apply KeepsO.next | apply Keeps.ite | apply KeepsO.ite | apply Keeps.ite1)
    | dsimp only | (with_reducible refine Keeps.fst (by assumption) ?_) | split
    | (simp only [Keeps.mk_iff]; with_reducible apply Keeps.fold))

theorem State.hostRecord_keeps {z : State} (s : State) (route : Nat) (w : BitVec 128) (ack : Bool) (hz : Keeps z s)
    : Keeps z (State.hostRecord s route w ack) := by
  unfold State.hostRecord; (try dsimp only)
  repeat' (first
    | (with_reducible first | assumption | apply State.route_keeps | apply State.odAdd_keeps | apply State.codeToHost_keeps | apply State.retryHost_keeps | apply KeepsO.next | apply Keeps.ite | apply KeepsO.ite | apply Keeps.ite1)
    | dsimp only | (with_reducible refine Keeps.fst (by assumption) ?_) | split
    | (simp only [Keeps.mk_iff]; with_reducible apply Keeps.fold))

theorem State.hostPostOp_keeps {z : State} (s : State) (route : Nat) (w : BitVec 128) (ack : Bool) (hz : Keeps z s)
    : Keeps z (State.hostPostOp s route w ack) := by
  unfold State.hostPostOp
  repeat' (first
    | (with_reducible first | assumption | apply State.hostLost_keeps | apply State.route_keeps | apply State.hostRecord_keeps | apply KeepsO.next | apply Keeps.ite))

theorem execHostPost_keeps {z : State} (route : Nat) (w : BitVec 128) (s : State) (hz : Keeps z s) : KeepsO z
    (execHostPost route w s) := by
  unfold execHostPost
  repeat' (first
    | (with_reducible first | assumption | apply State.hostPostOp_keeps | apply State.route_keeps | apply KeepsO.next))

theorem execHostAck_keeps {z : State} (route : Nat) (w : BitVec 128) (s : State) (hz : Keeps z s) : KeepsO z
    (execHostAck route w s) := by
  unfold execHostAck
  repeat' (first
    | (with_reducible first | assumption | apply State.hostPostOp_keeps | apply State.route_keeps | apply KeepsO.next))

theorem execSignalDelivery_keeps {z : State} (i : Nat) (s : State) (hz : Keeps z s) : KeepsO z (execSignalDelivery i
    s) := by
  unfold execSignalDelivery; (try dsimp only)
  repeat' (first
    | (with_reducible first | assumption | apply State.wakePort_keeps | apply State.odAdd_keeps | apply State.landLater_keeps | apply State.incFlag_keeps | apply State.portDrop_keeps | apply KeepsO.next | apply Keeps.ite | apply KeepsO.ite | apply Keeps.ite1)
    | dsimp only | (with_reducible refine Keeps.fst (by assumption) ?_) | split
    | (simp only [Keeps.mk_iff]; with_reducible apply Keeps.fold))

theorem State.hbmPut_keeps {z : State} (s : State) (key v : Nat) (whole poison : Bool) (hz : Keeps z s) : Keeps z
    (State.hbmPut s key v whole poison) := by
  unfold State.hbmPut
  repeat' (first
    | (with_reducible first | assumption | apply KeepsO.next | apply Keeps.ite | apply KeepsO.ite | apply Keeps.ite1)
    | dsimp only | (with_reducible refine Keeps.fst (by assumption) ?_) | split
    | (simp only [Keeps.mk_iff]; with_reducible apply Keeps.fold)
    | (simp only [Keeps.mk_iff]; with_reducible refine KeepsC.maps ?_ ?_ ?_ ?_ ?_ ?_ ?_ ?_ ?_ ?_ ?_ ?_ ?_ ?_ ?_ <;> intros)
    | (with_reducible first | apply mset_wf | apply mclearRange_wf | apply mwf_nil | apply filter_wf | apply Memory.wf_msetRange | apply Memory.wf_clear | apply Memory.wf_nil | apply Memory.marksWf_mset | apply Memory.marksWf_clear | apply Memory.marksWf_nil | apply Memory.marksWf_ite | apply markPoison_wf | apply markOvf_wf))

theorem State.cmemPut_keeps {z : State} (s : State) (key v : Nat) (whole poison : Bool) (hz : Keeps z s) : Keeps z
    (State.cmemPut s key v whole poison) := by
  unfold State.cmemPut
  repeat' (first
    | (with_reducible first | assumption | apply KeepsO.next | apply Keeps.ite | apply KeepsO.ite | apply Keeps.ite1)
    | dsimp only | (with_reducible refine Keeps.fst (by assumption) ?_) | split
    | (simp only [Keeps.mk_iff]; with_reducible apply Keeps.fold)
    | (simp only [Keeps.mk_iff]; with_reducible refine KeepsC.maps ?_ ?_ ?_ ?_ ?_ ?_ ?_ ?_ ?_ ?_ ?_ ?_ ?_ ?_ ?_ <;> intros)
    | (with_reducible first | apply mset_wf | apply mclearRange_wf | apply mwf_nil | apply filter_wf | apply Memory.wf_msetRange | apply Memory.wf_clear | apply Memory.wf_nil | apply Memory.marksWf_mset | apply Memory.marksWf_clear | apply Memory.marksWf_nil | apply Memory.marksWf_ite | apply markPoison_wf | apply markOvf_wf))

theorem State.unitWrite_keeps {z : State} (s : State) (p : Part) (sp a n i : Nat) (x : Nat × Bool) (xs : List (Nat ×
    Bool)) (hz : Keeps z s) : Keeps z (State.unitWrite s p sp a n i x xs) := by
  unfold State.unitWrite; (try dsimp only)
  repeat' (first
    | (with_reducible first | assumption | apply State.odAdd_keeps | apply State.hbmPut_keeps | apply State.portDrop_keeps | apply State.cmemPut_keeps | apply State.modBoth_keeps | apply KeepsO.next | apply Keeps.ite | apply KeepsO.ite | apply Keeps.ite1)
    | dsimp only | (with_reducible refine Keeps.fst (by assumption) ?_) | split)

theorem State.rangeWrite_keeps {z : State} (s : State) (p : Part) (sp a : Nat) (xs : List (Nat × Bool)) (hz : Keeps
    z s) : Keeps z (State.rangeWrite s p sp a xs) := by
  unfold State.rangeWrite; (try dsimp only)
  repeat' (first
    | (with_reducible first | assumption | apply State.unitWrite_keeps | apply State.odAdd_keeps | apply State.modBoth_keeps | apply KeepsO.next | apply Keeps.ite | apply KeepsO.ite | apply Keeps.ite1)
    | dsimp only | (with_reducible apply Keeps.foldl; (try intro _ _ _); (try dsimp only))
    | (with_reducible apply Keeps.foldl1; (try intro _ _ _); (try dsimp only))
    | (with_reducible refine Keeps.fst (by assumption) ?_) | split)

theorem State.addGranule_keeps {z : State} (s : State) (hbm : Bool) (key : Nat) (wp32 : Bool) (guard : Nat) (adds :
    List (Int × Bool)) (poison : Bool) (hz : Keeps z s) : Keeps z (State.addGranule s hbm key wp32 guard adds
    poison).1 := by
  unfold State.addGranule; (try dsimp only)
  repeat' (first
    | (with_reducible first | assumption | apply State.odAdd_keeps | apply State.portDrop_keeps | apply KeepsO.next | apply Keeps.ite | apply KeepsO.ite | apply Keeps.ite1)
    | dsimp only | (with_reducible refine Keeps.fst (by assumption) ?_) | split
    | (simp only [Keeps.mk_iff]; with_reducible apply Keeps.fold)
    | (simp only [Keeps.mk_iff]; with_reducible refine KeepsC.maps ?_ ?_ ?_ ?_ ?_ ?_ ?_ ?_ ?_ ?_ ?_ ?_ ?_ ?_ ?_ <;> intros)
    | (with_reducible first | apply mset_wf | apply mclearRange_wf | apply mwf_nil | apply filter_wf | apply Memory.wf_msetRange | apply Memory.wf_clear | apply Memory.wf_nil | apply Memory.marksWf_mset))

theorem State.coreEv_keeps {z : State} (s : State) (c : CoreId) (code row : Nat) (hz : Keeps z s) : Keeps z
    (State.coreEv s c code row) := by
  unfold State.coreEv
  repeat' (first
    | (with_reducible first | assumption | apply State.logEv_keeps))

theorem State.coreFix_keeps {z : State} (s : State) (c : CoreId) (code row : Nat) (hz : Keeps z s) : Keeps z
    (State.coreFix s c code row) := by
  unfold State.coreFix
  repeat' (first
    | (with_reducible first | assumption | apply State.coreEv_keeps | apply State.siteFix_keeps))

theorem State.leave_keeps {z : State} (s : State) (c : CoreId) (hz : Keeps z s) : Keeps z (State.leave s c) := by
  unfold State.leave; (try dsimp only)
  repeat' (first
    | (with_reducible first | assumption | apply State.modCur_keeps | apply State.startCp_keeps | apply State.sendPost_keeps | apply State.sendAck_keeps | apply KeepsO.next | apply Keeps.ite | apply KeepsO.ite | apply Keeps.ite1)
    | dsimp only | (with_reducible apply Keeps.foldl; (try intro _ _ _); (try dsimp only))
    | (with_reducible apply Keeps.foldl1; (try intro _ _ _); (try dsimp only))
    | (with_reducible refine Keeps.fst (by assumption) ?_) | split
    | (simp only [Keeps.mk_iff]; with_reducible apply Keeps.fold))

theorem State.beginCycle_keeps {z : State} (s : State) (c : CoreId) (own : List Cause) (hz : Keeps z s) : Keeps z
    (State.beginCycle s c own) := by
  unfold State.beginCycle; (try dsimp only)
  repeat' (first
    | (with_reducible first | assumption | apply State.setCore_keeps))

theorem State.issueBundle_keeps {z : State} (s : State) (c : CoreId) (hz : Keeps z s) : Keeps z (State.issueBundle s
    c) := by
  unfold State.issueBundle
  repeat' (first
    | (with_reducible first | assumption | apply State.modBoth_keeps | apply State.beginCycle_keeps | apply KeepsO.next | apply Keeps.ite))

theorem State.fetchBundle_keeps {z : State} (s : State) (c : CoreId) (found : Finding) (held : Bool) (hz : Keeps z
    s) : Keeps z (State.fetchBundle s c found held) := by
  unfold State.fetchBundle; (try dsimp only)
  repeat' (first
    | (with_reducible first | assumption | apply State.modBoth_keeps | apply State.odAdd_keeps | apply State.coreFix_keeps | apply State.beginCycle_keeps | apply State.coreFault_keeps | apply State.issueBundle_keeps | apply KeepsO.next | apply Keeps.ite | apply KeepsO.ite | apply Keeps.ite1)
    | dsimp only | (with_reducible refine Keeps.fst (by assumption) ?_) | split)

theorem State.nextCycle_keeps {z : State} (s : State) (c : CoreId) (found : Finding) (hz : Keeps z s) : Keeps z
    (State.nextCycle s c found) := by
  unfold State.nextCycle; (try dsimp only)
  repeat' (first
    | (with_reducible first | assumption | apply State.modBoth_keeps | apply State.fetchBundle_keeps | apply State.beginCycle_keeps | apply KeepsO.next | apply Keeps.ite))

theorem State.parity_keeps {z : State} (s : State) (c : CoreId) (find : FetchFind) (hz : Keeps z s) : Keeps z
    (State.parity s c find) := by
  unfold State.parity
  repeat' (first
    | (with_reducible first | assumption | apply State.modBoth_keeps | apply KeepsO.next | apply Keeps.ite))

theorem execImemFetch_keeps {z : State} (c : CoreId) (find : FetchFind) (s : State) (hz : Keeps z s) : KeepsO z
    (execImemFetch c find s) := by
  unfold execImemFetch; (try dsimp only)
  repeat' (first
    | (with_reducible first | assumption | apply State.coreFault_keeps | apply State.modBoth_keeps | apply State.fetchBundle_keeps | apply State.parity_keeps | apply State.setCore_keeps | apply State.leave_keeps | apply State.nextCycle_keeps | apply KeepsO.next | apply Keeps.ite))

theorem execLspReadCheck_keeps {z : State} (c : CoreId) (row : BitVec 12) (found : Finding) (s : State) (hz : Keeps
    z s) : KeepsO z (execLspReadCheck c row found s) := by
  unfold execLspReadCheck; (try dsimp only)
  repeat' (first
    | (with_reducible first | assumption | apply State.odAdd_keeps | apply State.modBoth_keeps | apply State.modCur_keeps | apply State.coreFix_keeps | apply State.coreEv_keeps | apply KeepsO.next | apply Keeps.ite | apply KeepsO.ite | apply Keeps.ite1)
    | dsimp only | (with_reducible refine Keeps.fst (by assumption) ?_) | split)

theorem execCoreHoldEnd_keeps {z : State} (c : CoreId) (s : State) (hz : Keeps z s) : KeepsO z (execCoreHoldEnd c s)
    := by
  unfold execCoreHoldEnd; (try dsimp only)
  repeat' (first
    | (with_reducible first | assumption | apply State.modBoth_keeps | apply State.odAdd_keeps | apply State.issueBundle_keeps | apply KeepsO.next | apply Keeps.ite | apply KeepsO.ite | apply Keeps.ite1)
    | dsimp only | (with_reducible refine Keeps.fst (by assumption) ?_) | split)

theorem execLspWriteback_keeps {z : State} (c : CoreId) (row : BitVec 12) (s : State) (hz : Keeps z s) : KeepsO z
    (execLspWriteback c row s) := by
  unfold execLspWriteback
  repeat' (first
    | (with_reducible first | assumption | apply State.modBoth_keeps | apply KeepsO.next))

theorem execPoisonDelivery_keeps {z : State} (c : CoreId) (s : State) (hz : Keeps z s) : KeepsO z
    (execPoisonDelivery c s) := by
  unfold execPoisonDelivery; (try dsimp only)
  repeat' (first
    | (with_reducible first | assumption | apply State.coreFault_keeps | apply KeepsO.next | apply Keeps.ite))

theorem execLspPatrolScrub_keeps {z : State} (c : CoreId) (row : BitVec 12) (found : Finding) (late : Bool) (s :
    State) (hz : Keeps z s) : KeepsO z (execLspPatrolScrub c row found late s) := by
  unfold execLspPatrolScrub; (try dsimp only)
  repeat' (first
    | (with_reducible first | assumption | apply State.odAdd_keeps | apply State.coreFix_keeps | apply State.modBoth_keeps | apply State.coreEv_keeps | apply KeepsO.next | apply Keeps.ite | apply KeepsO.ite | apply Keeps.ite1)
    | dsimp only | (with_reducible refine Keeps.fst (by assumption) ?_) | split)

theorem execLspLoadDelivery_keeps {z : State} (c : CoreId) (s : State) (hz : Keeps z s) : KeepsO z
    (execLspLoadDelivery c s) := by
  unfold execLspLoadDelivery; (try dsimp only)
  repeat' (first
    | (with_reducible first | assumption | apply State.modCur_keeps | apply KeepsO.next | apply Keeps.ite))

theorem State.fetchRun_keeps {z : State} (s : State) (site : SiteId) (kind : Nat) (hz : Keeps z s) : Keeps z
    (State.fetchRun s site kind) := by
  unfold State.fetchRun
  repeat' (first
    | (with_reducible first | assumption | apply State.modBoth_keeps | apply KeepsO.next | apply Keeps.ite | apply KeepsO.ite | apply Keeps.ite1)
    | dsimp only | (with_reducible apply Keeps.foldl; (try intro _ _ _); (try dsimp only)))

theorem State.keepBody_keeps {z : State} (s : State) (c : CoreId) (o : OvlSt) (l : List (Nat × Bool)) (hz : Keeps z
    s) : Keeps z (State.keepBody s c o l) := by
  unfold State.keepBody; (try dsimp only)
  repeat' (first
    | (with_reducible first | assumption | apply State.modJob_keeps | apply KeepsO.next | apply Keeps.ite))

theorem State.overlayFill_keeps {z : State} (s : State) (c : CoreId) (o : OvlSt) (body : List (Nat × Bool)) (h :
    Keeps z s) : Keeps z (State.overlayFill s c o body) := by
  unfold State.overlayFill
  refine Keeps.foldl ?_ h
  intro t i ht
  exact State.modBoth_keeps _ _ _ ht

theorem State.overlayIn_keeps {z : State} (s : State) (c : CoreId) (hz : Keeps z s) : Keeps z (State.overlayIn s c)
    := by
  unfold State.overlayIn; (try dsimp only)
  repeat' (first
    | (with_reducible first | assumption | apply State.keepBody_keeps | apply State.overlayFill_keeps | apply State.modBoth_keeps | apply State.modJob_keeps | apply State.incFlag_keeps | apply KeepsO.next | apply Keeps.ite | apply KeepsO.ite | apply Keeps.ite1)
    | dsimp only | (with_reducible refine Keeps.fst (by assumption) ?_) | split)

theorem execOverlayComplete_keeps {z : State} (c : CoreId) (s : State) (hz : Keeps z s) : KeepsO z
    (execOverlayComplete c s) := by
  unfold execOverlayComplete; (try dsimp only)
  repeat' (first
    | (with_reducible first | assumption | apply State.landLater_keeps | apply State.overlayIn_keeps | apply KeepsO.next | apply Keeps.ite))

theorem cpOp_keeps {z : State} (op : Nat) (c : CoreId) (f : CpSlot) (s : State) (full : CoreSt → Bool) (hz : Keeps z
    s) : KeepsO z (cpOp op c f s full) := by
  unfold cpOp; (try dsimp only)
  repeat' (first
    | (with_reducible first | assumption | apply State.slotOp_keeps | apply State.readRow_keeps | apply KeepsO.next))

theorem execCpNop_keeps {z : State} (c : CoreId) (f : CpSlot) (s : State) (hz : Keeps z s) : KeepsO z (execCpNop c f
    s) := by
  unfold execCpNop
  repeat' (first
    | (with_reducible first | assumption | apply State.slotOp_keeps | apply KeepsO.next))

theorem execCpIssue_keeps {z : State} (c : CoreId) (f : CpSlot) (s : State) (hz : Keeps z s) : KeepsO z (execCpIssue
    c f s) := by
  unfold execCpIssue
  repeat' (first
    | (with_reducible first | assumption | apply cpOp_keeps))

theorem execCpOvl_keeps {z : State} (c : CoreId) (f : CpSlot) (s : State) (hz : Keeps z s) : KeepsO z (execCpOvl c f
    s) := by
  unfold execCpOvl
  repeat' (first
    | (with_reducible first | assumption | apply cpOp_keeps))

theorem waitOp_keeps {z : State} (op : Nat) (c : CoreId) (f : FlSlot) (s : State) (target : CoreSt → W32) (sub :
    W32) (hz : Keeps z s) : Keeps z (waitOp op c f s target sub) := by
  unfold waitOp; (try dsimp only)
  repeat' (first
    | (with_reducible first | assumption | apply State.beginCycle_keeps | apply State.modCur_keeps | apply State.setCore_keeps | apply State.slotOp_keeps | apply KeepsO.next | apply Keeps.ite | apply KeepsO.ite | apply Keeps.ite1)
    | dsimp only | (with_reducible refine Keeps.fst (by assumption) ?_) | split)

theorem execFlNop_keeps {z : State} (c : CoreId) (f : FlSlot) (s : State) (hz : Keeps z s) : KeepsO z (execFlNop c f
    s) := by
  unfold execFlNop
  repeat' (first
    | (with_reducible first | assumption | apply State.slotOp_keeps | apply KeepsO.next))

theorem execFlWait_keeps {z : State} (c : CoreId) (f : FlSlot) (s : State) (hz : Keeps z s) : KeepsO z (execFlWait c
    f s) := by
  unfold execFlWait
  repeat' (first
    | (with_reducible first | assumption | apply waitOp_keeps | apply KeepsO.next))

theorem execFlWaitd_keeps {z : State} (c : CoreId) (f : FlSlot) (s : State) (hz : Keeps z s) : KeepsO z (execFlWaitd
    c f s) := by
  unfold execFlWaitd
  repeat' (first
    | (with_reducible first | assumption | apply waitOp_keeps | apply KeepsO.next))

theorem execFlWaits_keeps {z : State} (c : CoreId) (f : FlSlot) (s : State) (hz : Keeps z s) : KeepsO z (execFlWaits
    c f s) := by
  unfold execFlWaits
  repeat' (first
    | (with_reducible first | assumption | apply waitOp_keeps | apply KeepsO.next))

theorem execFlAdd_keeps {z : State} (c : CoreId) (f : FlSlot) (s : State) (hz : Keeps z s) : KeepsO z (execFlAdd c f
    s) := by
  unfold execFlAdd
  repeat' (first
    | (with_reducible first | assumption | apply State.slotOp_keeps | apply KeepsO.next))

theorem execFlSet_keeps {z : State} (c : CoreId) (f : FlSlot) (s : State) (hz : Keeps z s) : KeepsO z (execFlSet c f
    s) := by
  unfold execFlSet
  repeat' (first
    | (with_reducible first | assumption | apply State.slotOp_keeps | apply KeepsO.next))

theorem execFlSig_keeps {z : State} (c : CoreId) (f : FlSlot) (s : State) (hz : Keeps z s) : KeepsO z (execFlSig c f
    s) := by
  unfold execFlSig; (try dsimp only)
  repeat' (first
    | (with_reducible first | assumption | apply State.slotOp_keeps | apply KeepsO.next))

theorem execFlRead_keeps {z : State} (c : CoreId) (f : FlSlot) (s : State) (hz : Keeps z s) : KeepsO z (execFlRead c
    f s) := by
  unfold execFlRead
  repeat' (first
    | (with_reducible first | assumption | apply State.slotOp_keeps | apply KeepsO.next))

theorem execWaitLimit_keeps {z : State} (c : CoreId) (s : State) (hz : Keeps z s) : KeepsO z (execWaitLimit c s) := by
  unfold execWaitLimit
  repeat' (first
    | (with_reducible first | assumption | apply State.coreFault_keeps | apply KeepsO.next | apply Keeps.ite | apply KeepsO.ite | apply Keeps.ite1)
    | dsimp only | (with_reducible refine Keeps.fst (by assumption) ?_) | split)

theorem State.modCopy_keeps {z : State} (s : State) (n : Nat) (f : CopySt → CopySt) (hz : Keeps z s) : Keeps z
    (State.modCopy s n f) := by
  unfold State.modCopy
  repeat' (first
    | (with_reducible first | assumption | apply KeepsO.next | apply Keeps.ite | apply KeepsO.ite | apply Keeps.ite1)
    | dsimp only | (with_reducible refine Keeps.fst (by assumption) ?_) | split
    | (simp only [Keeps.mk_iff]; with_reducible apply Keeps.fold))

theorem State.copyRetry_keeps {z : State} (s : State) (x : CopySt) (hz : Keeps z s) : Keeps z (State.copyRetry s x)
    := by
  unfold State.copyRetry; (try dsimp only)
  repeat' (first
    | (with_reducible first | assumption | apply State.odAdd_keeps | apply State.modCopy_keeps | apply State.wakePort_keeps | apply KeepsO.next | apply Keeps.ite | apply KeepsO.ite | apply Keeps.ite1)
    | dsimp only | (with_reducible apply Keeps.foldl; (try intro _ _ _); (try dsimp only)))

theorem State.copyLand_keeps {z : State} (s : State) (n : Nat) (site : SiteId) (hz : Keeps z s) : Keeps z
    (State.copyLand s n site) := by
  unfold State.copyLand
  repeat' (first
    | (with_reducible first | assumption | apply State.landLater_keeps | apply KeepsO.next | apply Keeps.ite))

theorem State.copyDo_keeps {z : State} (s : State) (n opc : Nat) (k : State → Part → CopySt → CopyDesc → State) (hz
    : Keeps z s) (hk : ∀ t x0 x1 x2, Keeps z t → Keeps z (k t x0 x1 x2)) : Keeps z (State.copyDo s n opc k) := by
  unfold State.copyDo; (try dsimp only)
  repeat' (first
    | (with_reducible first | assumption | apply hk | apply State.copyRetry_keeps | apply State.copyLand_keeps | apply State.modCopy_keeps | apply KeepsO.next | apply Keeps.ite | apply KeepsO.ite | apply Keeps.ite1)
    | dsimp only | (with_reducible refine Keeps.fst (by assumption) ?_) | split)

theorem State.sendPkt_keeps {z : State} (s : State) (n : Nat) (kind : WinKind) (p : WinPkt) (hz : Keeps z s) : Keeps
    z (State.sendPkt s n kind p) := by
  unfold State.sendPkt; (try dsimp only)
  repeat' (first
    | (with_reducible first | assumption | apply State.sendRouted_keeps | apply State.modCopy_keeps | apply KeepsO.next | apply Keeps.ite | apply KeepsO.ite | apply Keeps.ite1)
    | dsimp only | (with_reducible refine Keeps.fst (by assumption) ?_) | split
    | (simp only [Keeps.mk_iff]; with_reducible apply Keeps.fold))

theorem State.sendWindow_keeps {z : State} (s : State) (p : Part) (x : CopySt) (d : CopyDesc) (kind : WinKind) (xs :
    List (Nat × Bool)) (eSrc : BitVec 16) (hz : Keeps z s) : Keeps z (State.sendWindow s p x d kind xs eSrc) := by
  unfold State.sendWindow; (try dsimp only)
  repeat' (first
    | (with_reducible first | assumption | apply State.sendPkt_keeps | apply KeepsO.next | apply Keeps.ite | apply KeepsO.ite | apply Keeps.ite1)
    | dsimp only | (with_reducible apply Keeps.foldl; (try intro _ _ _); (try dsimp only))
    | (with_reducible apply Keeps.foldl1; (try intro _ _ _); (try dsimp only))
    | (with_reducible refine Keeps.fst (by assumption) ?_) | split
    | (simp only [Keeps.mk_iff]; with_reducible apply Keeps.fold))

theorem State.copyMove_keeps {z : State} (s : State) (n : Nat) (hz : Keeps z s) : Keeps z (State.copyMove s n) := by
  unfold State.copyMove; (try dsimp only)
  repeat' (first
    | (with_reducible first | assumption | apply State.copyDo_keeps | apply State.sendWindow_keeps | apply State.rangeWrite_keeps | apply KeepsO.next | apply Keeps.ite | apply KeepsO.ite | apply Keeps.ite1)
    | dsimp only | (with_reducible refine Keeps.fst (by assumption) ?_) | split
    | (with_reducible intro _; intros; (try dsimp only)))

theorem execCopyMove_keeps {z : State} (n : Nat) (s : State) (hz : Keeps z s) : KeepsO z (execCopyMove n s) := by
  unfold execCopyMove
  repeat' (first
    | (with_reducible first | assumption | apply State.copyMove_keeps | apply KeepsO.next))

theorem State.copyZero_keeps {z : State} (s : State) (n : Nat) (hz : Keeps z s) : Keeps z (State.copyZero s n) := by
  unfold State.copyZero; (try dsimp only)
  repeat' (first
    | (with_reducible first | assumption | apply State.copyDo_keeps | apply State.sendWindow_keeps | apply State.rangeWrite_keeps | apply KeepsO.next | apply Keeps.ite | apply KeepsO.ite | apply Keeps.ite1)
    | dsimp only | (with_reducible refine Keeps.fst (by assumption) ?_) | split
    | (with_reducible intro _; intros; (try dsimp only)))

theorem execCopyZero_keeps {z : State} (n : Nat) (s : State) (hz : Keeps z s) : KeepsO z (execCopyZero n s) := by
  unfold execCopyZero
  repeat' (first
    | (with_reducible first | assumption | apply State.copyZero_keeps | apply KeepsO.next))

theorem State.copyMarks_keeps {z : State} (s : State) (n : Nat) (hz : Keeps z s) : Keeps z (State.copyMarks s n) := by
  unfold State.copyMarks
  repeat' (first
    | (with_reducible first | assumption | apply State.copyDo_keeps | apply State.rangeWrite_keeps | apply KeepsO.next | apply Keeps.ite | apply KeepsO.ite | apply Keeps.ite1)
    | dsimp only | (with_reducible refine Keeps.fst (by assumption) ?_) | split
    | (with_reducible intro _; intros; (try dsimp only)))

theorem execCopyMarks_keeps {z : State} (n : Nat) (s : State) (hz : Keeps z s) : KeepsO z (execCopyMarks n s) := by
  unfold execCopyMarks
  repeat' (first
    | (with_reducible first | assumption | apply State.copyMarks_keeps | apply KeepsO.next))

theorem State.copyAaddx_keeps {z : State} (s : State) (n : Nat) (hz : Keeps z s) : Keeps z (State.copyAaddx s n) := by
  unfold State.copyAaddx; (try dsimp only)
  repeat' (first
    | (with_reducible first | assumption | apply State.copyDo_keeps | apply State.sendWindow_keeps | apply State.modCopy_keeps | apply KeepsO.next | apply Keeps.ite | apply KeepsO.ite | apply Keeps.ite1)
    | dsimp only | (with_reducible refine Keeps.fst (by assumption) ?_) | split
    | (simp only [Keeps.mk_iff]; with_reducible apply Keeps.fold)
    | (with_reducible intro _; intros; (try dsimp only)))

theorem execCopyAaddx_keeps {z : State} (n : Nat) (s : State) (hz : Keeps z s) : KeepsO z (execCopyAaddx n s) := by
  unfold execCopyAaddx
  repeat' (first
    | (with_reducible first | assumption | apply State.copyAaddx_keeps | apply KeepsO.next))

theorem State.copyGo_keeps {z : State} (s : State) (n : Nat) (hz : Keeps z s) : Keeps z (State.copyGo s n) := by
  unfold State.copyGo
  repeat' (first
    | (with_reducible first | assumption | apply State.copyMove_keeps | apply State.copyAaddx_keeps | apply State.copyZero_keeps | apply State.copyMarks_keeps | apply KeepsO.next | apply Keeps.ite | apply KeepsO.ite | apply Keeps.ite1)
    | dsimp only | (with_reducible refine Keeps.fst (by assumption) ?_) | split)

theorem State.copyOverflow_keeps {z : State} (s : State) (n : Nat) (words : List Nat) (hz : Keeps z s) : Keeps z
    (State.copyOverflow s n words) := by
  unfold State.copyOverflow
  repeat' (first
    | (with_reducible first | assumption | apply State.modCopy_keeps | apply State.odAdd_keeps | apply State.logEv_keeps | apply KeepsO.next | apply Keeps.ite | apply KeepsO.ite | apply Keeps.ite1)
    | dsimp only | (with_reducible refine Keeps.fst (by assumption) ?_) | split)

theorem State.addNow_keeps {z : State} (s : State) (r : AddReq) (src : Nat) (num : BitVec 32) (hz : Keeps z s) :
    Keeps z (State.addNow s r src num) := by
  unfold State.addNow; (try dsimp only)
  repeat' (first
    | (with_reducible first | assumption | apply State.keepReq_keeps | apply State.odAdd_keeps | apply State.addGranule_keeps | apply State.modCopy_keeps | apply State.copyOverflow_keeps | apply KeepsO.next | apply Keeps.ite))

theorem State.dupGranule_keeps {z : State} (s : State) (kept : List MeshKept) (gran : Nat) (hz : Keeps z s) : Keeps
    z (State.dupGranule s kept gran) := by
  unfold State.dupGranule
  repeat' (first
    | (with_reducible first | assumption | apply State.odAdd_keeps | apply KeepsO.next | apply Keeps.ite))

theorem State.addAtPort_keeps {z : State} (s : State) (i : Nat) (r : AddReq) (src : Nat) (num : BitVec 32) (hz :
    Keeps z s) : Keeps z (State.addAtPort s i r src num) := by
  unfold State.addAtPort; (try dsimp only)
  repeat' (first
    | (with_reducible first | assumption | apply State.retryReq_keeps | apply State.wakePort_keeps | apply State.landLater_keeps | apply State.addNow_keeps | apply KeepsO.next | apply Keeps.ite | apply KeepsO.ite | apply Keeps.ite1)
    | dsimp only | (with_reducible refine Keeps.fst (by assumption) ?_) | split
    | (simp only [Keeps.mk_iff]; with_reducible apply Keeps.fold))

theorem execAaddxGranuleAdd_keeps {z : State} (k : AddRef) (s : State) (hz : Keeps z s) : KeepsO z
    (execAaddxGranuleAdd k s) := by
  unfold execAaddxGranuleAdd; (try dsimp only)
  repeat' (first
    | (with_reducible first | assumption | apply State.odAdd_keeps | apply State.dupGranule_keeps | apply State.addNow_keeps | apply State.addAtPort_keeps | apply KeepsO.next | apply Keeps.ite | apply KeepsO.ite | apply Keeps.ite1)
    | dsimp only | (with_reducible refine Keeps.fst (by assumption) ?_) | split
    | (simp only [Keeps.mk_iff]; with_reducible apply Keeps.fold))

theorem State.flagTo_keeps {z : State} (s : State) (src dst : CoreId) (flag inc : Nat) (hz : Keeps z s) : Keeps z
    (State.flagTo s src dst flag inc) := by
  unfold State.flagTo; (try dsimp only)
  repeat' (first
    | (with_reducible first | assumption | apply State.landLater_keeps | apply State.incFlag_keeps | apply State.portDrop_keeps | apply KeepsO.next | apply Keeps.ite | apply KeepsO.ite | apply Keeps.ite1)
    | dsimp only | (with_reducible refine Keeps.fst (by assumption) ?_) | split
    | (simp only [Keeps.mk_iff]; with_reducible apply Keeps.fold))

theorem execCopyComplete_keeps {z : State} (n : Nat) (s : State) (hz : Keeps z s) : KeepsO z (execCopyComplete n s)
    := by
  unfold execCopyComplete; (try dsimp only)
  repeat' (first
    | (with_reducible first | assumption | apply State.flagTo_keeps | apply KeepsO.next | apply Keeps.ite | apply KeepsO.ite | apply Keeps.ite1)
    | dsimp only | (with_reducible refine Keeps.fst (by assumption) ?_) | split
    | (simp only [Keeps.mk_iff]; with_reducible apply Keeps.fold))

theorem State.cmemFound_keeps {z : State} (s : State) (site : SiteId) (g : Nat) (found : Finding) (hz : Keeps z s) :
    Keeps z (State.cmemFound s site g found) := by
  unfold State.cmemFound; (try dsimp only)
  repeat' (first
    | (with_reducible first | assumption | apply State.logEv_keeps | apply State.odAdd_keeps | apply State.siteFix_keeps | apply KeepsO.next | apply Keeps.ite | apply KeepsO.ite | apply Keeps.ite1)
    | dsimp only | (with_reducible refine Keeps.fst (by assumption) ?_) | split
    | (simp only [Keeps.mk_iff]; with_reducible apply Keeps.fold)
    | (simp only [Keeps.mk_iff]; with_reducible refine KeepsC.maps ?_ ?_ ?_ ?_ ?_ ?_ ?_ ?_ ?_ ?_ ?_ ?_ ?_ ?_ ?_ <;> intros)
    | (with_reducible first | apply mset_wf | apply mclearRange_wf | apply mwf_nil | apply filter_wf | apply Memory.wf_msetRange | apply Memory.wf_clear | apply Memory.wf_nil | apply Memory.marksWf_mset))

theorem execCmemAccessCheck_keeps {z : State} (site : SiteId) (granule : Nat) (found : Finding) (s : State) (hz :
    Keeps z s) : KeepsO z (execCmemAccessCheck site granule found s) := by
  unfold execCmemAccessCheck
  repeat' (first
    | (with_reducible first | assumption | apply State.cmemFound_keeps | apply KeepsO.next))

theorem execCmemPatrolScrub_keeps {z : State} (site : SiteId) (granule : Nat) (found : Finding) (s : State) (hz :
    Keeps z s) : KeepsO z (execCmemPatrolScrub site granule found s) := by
  unfold execCmemPatrolScrub
  repeat' (first
    | (with_reducible first | assumption | apply State.cmemFound_keeps | apply KeepsO.next))

theorem State.fencePc_keeps {z : State} (s : State) (pc source : Nat) (hz : Keeps z s) : Keeps z (State.fencePc s pc
    source) := by
  unfold State.fencePc; (try dsimp only)
  repeat' (first
    | (with_reducible first | assumption | apply State.odPutBit_keeps | apply State.logMany_keeps | apply State.studFail_keeps | apply KeepsO.next | apply Keeps.ite))

theorem State.hbmBytes_keeps {z : State} (s : State) (key : Nat) (data : List Byte) (poison : Bool) (hz : Keeps z s)
    : Keeps z (State.hbmBytes s key data poison) := by
  unfold State.hbmBytes; (try dsimp only)
  repeat' (first
    | (with_reducible first | assumption | apply KeepsO.next | apply Keeps.ite | apply KeepsO.ite | apply Keeps.ite1)
    | dsimp only | (with_reducible apply Keeps.foldl; (try intro _ _ _); (try dsimp only))
    | (with_reducible apply Keeps.foldl1; (try intro _ _ _); (try dsimp only))
    | (with_reducible refine Keeps.fst (by assumption) ?_) | split
    | (simp only [Keeps.mk_iff]; with_reducible apply Keeps.fold)
    | (simp only [Keeps.mk_iff]; with_reducible refine KeepsC.maps ?_ ?_ ?_ ?_ ?_ ?_ ?_ ?_ ?_ ?_ ?_ ?_ ?_ ?_ ?_ <;> intros)
    | (with_reducible first | apply mset_wf | apply mclearRange_wf | apply mwf_nil | apply filter_wf | apply Memory.wf_msetRange | apply Memory.wf_clear | apply Memory.wf_nil | apply Memory.marksWf_mset | apply Memory.marksWf_clear | apply Memory.marksWf_nil | apply Memory.marksWf_ite | apply markPoison_wf | apply markOvf_wf)
    | (with_reducible apply Memory.marksWf_foldl; intro _ _ _))

theorem State.sysRepair_keeps {z : State} (s : State) (pc off : Nat) (hz : Keeps z s) : Keeps z (State.sysRepair s
    pc off) := by
  unfold State.sysRepair; (try dsimp only)
  repeat' (first
    | (with_reducible first | assumption | apply State.hbmBytes_keeps | apply KeepsO.next | apply Keeps.ite | apply KeepsO.ite | apply Keeps.ite1)
    | dsimp only | (with_reducible refine Keeps.fst (by assumption) ?_) | split
    | (simp only [Keeps.mk_iff]; with_reducible apply Keeps.fold))

theorem State.hbmBad_keeps {z : State} (s : State) (pc off : Nat) (hz : Keeps z s) : Keeps z (State.hbmBad s pc off)
    := by
  unfold State.hbmBad; (try dsimp only)
  repeat' (first
    | (with_reducible first | assumption | apply State.odAdd_keeps | apply State.logEv_keeps | apply State.sysRepair_keeps | apply State.fencePc_keeps | apply KeepsO.next | apply Keeps.ite | apply KeepsO.ite | apply Keeps.ite1)
    | dsimp only | (with_reducible refine Keeps.fst (by assumption) ?_) | split
    | (simp only [Keeps.mk_iff]; with_reducible apply Keeps.fold)
    | (simp only [Keeps.mk_iff]; with_reducible refine KeepsC.maps ?_ ?_ ?_ ?_ ?_ ?_ ?_ ?_ ?_ ?_ ?_ ?_ ?_ ?_ ?_ <;> intros)
    | (with_reducible first | apply mset_wf | apply mclearRange_wf | apply mwf_nil | apply filter_wf | apply Memory.wf_msetRange | apply Memory.wf_clear | apply Memory.wf_nil | apply Memory.marksWf_mset))

theorem State.laneFix_keeps {z : State} (s : State) (pc lane : Nat) (hz : Keeps z s) : Keeps z (State.laneFix s pc
    lane) := by
  unfold State.laneFix; (try dsimp only)
  repeat' (first
    | (with_reducible first | assumption | apply State.odSet_keeps | apply State.logMany_keeps | apply State.fencePc_keeps | apply KeepsO.next | apply Keeps.ite | apply KeepsO.ite | apply Keeps.ite1)
    | dsimp only | (with_reducible refine Keeps.fst (by assumption) ?_) | split
    | (simp only [Keeps.mk_iff]; with_reducible apply Keeps.fold))

theorem State.hbmParity_keeps {z : State} (s : State) (pc n : Nat) (hz : Keeps z s) : Keeps z (State.hbmParity s pc
    n) := by
  unfold State.hbmParity; (try dsimp only)
  repeat' (first
    | (with_reducible first | assumption | apply State.parity_keeps | apply KeepsO.next | apply Keeps.ite | apply KeepsO.ite | apply Keeps.ite1)
    | dsimp only | (with_reducible refine Keeps.fst (by assumption) ?_) | split
    | (simp only [Keeps.mk_iff]; with_reducible apply Keeps.fold))

theorem State.hbmFound_keeps {z : State} (s : State) (pc off : Nat) (found : Finding) (lane : Option Nat) (hz :
    Keeps z s) : Keeps z (State.hbmFound s pc off found lane) := by
  unfold State.hbmFound; (try dsimp only)
  repeat' (first
    | (with_reducible first | assumption | apply State.laneFix_keeps | apply State.odAdd_keeps | apply State.logEv_keeps | apply State.hbmBad_keeps | apply KeepsO.next | apply Keeps.ite | apply KeepsO.ite | apply Keeps.ite1)
    | dsimp only | (with_reducible refine Keeps.fst (by assumption) ?_) | split)

theorem State.reqOverflow_keeps {z : State} (s : State) (src : Nat) (words : List Nat) (hz : Keeps z s) : Keeps z
    (State.reqOverflow s src words) := by
  unfold State.reqOverflow; (try dsimp only)
  repeat' (first
    | (with_reducible first | assumption | apply State.odAdd_keeps | apply State.logEv_keeps))

theorem State.hbmChange_keeps {z : State} (s : State) (src pc off : Nat) (op : HbmOp) (found : Finding) (lane :
    Option Nat) (hz : Keeps z s) : Keeps z (State.hbmChange s src pc off op found lane) := by
  unfold State.hbmChange; (try dsimp only)
  repeat' (first
    | (with_reducible first | assumption | apply State.odAdd_keeps | apply State.hbmBytes_keeps | apply State.hbmFound_keeps | apply State.addGranule_keeps | apply State.reqOverflow_keeps | apply KeepsO.next | apply Keeps.ite | apply KeepsO.ite | apply Keeps.ite1)
    | dsimp only | (with_reducible refine Keeps.fst (by assumption) ?_) | split)

theorem execHbmRequest_keeps {z : State} (src : Nat) (num : BitVec 32) (pc off : Nat) (op : HbmOp) (ecc : EccFind)
    (parity : Nat) (s : State) (hz : Keeps z s) : KeepsO z (execHbmRequest src num pc off op ecc parity s) := by
  unfold execHbmRequest; (try dsimp only)
  repeat' (first
    | (with_reducible first | assumption | apply State.hbmParity_keeps | apply State.parity_keeps | apply State.hbmFound_keeps | apply State.odAdd_keeps | apply State.keepReq_keeps | apply State.hbmChange_keeps | apply KeepsO.next | apply Keeps.ite | apply KeepsO.ite | apply Keeps.ite1)
    | dsimp only | (with_reducible refine Keeps.fst (by assumption) ?_) | split
    | (simp only [Keeps.mk_iff]; with_reducible apply Keeps.fold))

theorem execHbmPatrolScrub_keeps {z : State} (pc off : Nat) (ecc : EccFind) (s : State) (hz : Keeps z s) : KeepsO z
    (execHbmPatrolScrub pc off ecc s) := by
  unfold execHbmPatrolScrub
  repeat' (first
    | (with_reducible first | assumption | apply State.hbmFound_keeps | apply KeepsO.next | apply Keeps.ite))

theorem execPcRejoin_keeps {z : State} (pc : Nat) (passed : Bool) (s : State) (hz : Keeps z s) : KeepsO z
    (execPcRejoin pc passed s) := by
  unfold execPcRejoin; (try dsimp only)
  repeat' (first
    | (with_reducible first | assumption | apply State.odPutBit_keeps | apply State.studReturn_keeps | apply State.logMany_keeps | apply KeepsO.next | apply Keeps.ite | apply KeepsO.ite | apply Keeps.ite1)
    | dsimp only | (with_reducible refine Keeps.fst (by assumption) ?_) | split
    | (simp only [Keeps.mk_iff]; with_reducible apply Keeps.fold))

theorem State.setWindow_keeps {z : State} (s : State) (h : Nat) (w : Option Window) (hz : Keeps z s) : Keeps z
    (State.setWindow s h w) := by
  unfold State.setWindow
  repeat' (first
    | (with_reducible first | assumption | apply KeepsO.next | apply Keeps.ite | apply KeepsO.ite | apply Keeps.ite1)
    | dsimp only | (with_reducible refine Keeps.fst (by assumption) ?_) | split
    | (simp only [Keeps.mk_iff]; with_reducible apply Keeps.fold))

theorem State.winAdd_keeps {z : State} (s : State) (part : Part) (w : Window) (p : WinPkt) (hz : Keeps z s) : Keeps
    z (State.winAdd s part w p).1 := by
  unfold State.winAdd; (try dsimp only)
  repeat' (first
    | (with_reducible first | assumption | apply State.odAdd_keeps | apply State.addGranule_keeps | apply KeepsO.next | apply Keeps.ite | apply KeepsO.ite | apply Keeps.ite1)
    | dsimp only | (with_reducible apply Keeps.foldl; (try intro _ _ _); (try dsimp only))
    | (with_reducible apply Keeps.foldl1; (try intro _ _ _); (try dsimp only)))

theorem State.winApply_keeps {z : State} (s : State) (kind : WinKind) (w : Window) (p : WinPkt) (hz : Keeps z s) :
    Keeps z (State.winApply s kind w p).1 := by
  unfold State.winApply; (try dsimp only)
  repeat' (first
    | (with_reducible first | assumption | apply State.winAdd_keeps | apply State.rangeWrite_keeps | apply KeepsO.next | apply Keeps.ite | apply KeepsO.ite | apply Keeps.ite1)
    | dsimp only | (with_reducible refine Keeps.fst (by assumption) ?_) | split)

theorem State.track_keeps {z : State} (s : State) (p : WinPkt) (dropped : Bool) (hz : Keeps z s) : Keeps z
    (State.track s p dropped) := by
  unfold State.track; (try dsimp only)
  repeat' (first
    | (with_reducible first | assumption | apply State.odAdd_keeps | apply KeepsO.next | apply Keeps.ite | apply KeepsO.ite | apply Keeps.ite1)
    | dsimp only | (with_reducible refine Keeps.fst (by assumption) ?_) | split
    | (simp only [Keeps.mk_iff]; with_reducible apply Keeps.fold))

theorem State.notify_keeps {z : State} (s : State) (p : WinPkt) (hz : Keeps z s) : Keeps z (State.notify s p) := by
  unfold State.notify; (try dsimp only)
  repeat' (first
    | (with_reducible first | assumption | apply State.flagTo_keeps | apply KeepsO.next | apply Keeps.ite | apply KeepsO.ite | apply Keeps.ite1)
    | dsimp only | (with_reducible refine Keeps.fst (by assumption) ?_) | split
    | (simp only [Keeps.mk_iff]; with_reducible apply Keeps.fold))

theorem State.sendDone_keeps {z : State} (s : State) (p : WinPkt) (ovf : Bool) (hz : Keeps z s) : Keeps z
    (State.sendDone s p ovf) := by
  unfold State.sendDone
  repeat' (first
    | (with_reducible first | assumption | apply State.sendRouted_keeps))

theorem State.winTake_keeps {z : State} (s : State) (kind : WinKind) (w : Window) (p : WinPkt) (hz : Keeps z s) :
    Keeps z (State.winTake s kind w p) := by
  unfold State.winTake; (try dsimp only)
  repeat' (first
    | (with_reducible first | assumption | apply State.winApply_keeps | apply State.track_keeps | apply State.notify_keeps | apply State.sendDone_keeps | apply KeepsO.next | apply Keeps.ite | apply KeepsO.ite | apply Keeps.ite1)
    | dsimp only | (with_reducible refine Keeps.fst (by assumption) ?_) | split
    | (simp only [Keeps.mk_iff]; with_reducible apply Keeps.fold))

theorem State.winAtPort_keeps {z : State} (s : State) (kind : WinKind) (w : Window) (p : WinPkt) (site : SiteId) (hz
    : Keeps z s) : Keeps z (State.winAtPort s kind w p site) := by
  unfold State.winAtPort; (try dsimp only)
  repeat' (first
    | (with_reducible first | assumption | apply State.odAdd_keeps | apply State.wakePort_keeps | apply State.landLater_keeps | apply State.winTake_keeps | apply KeepsO.next | apply Keeps.ite))

theorem State.winArrive_keeps {z : State} (s : State) (kind : WinKind) (p : WinPkt) (hz : Keeps z s) : Keeps z
    (State.winArrive s kind p) := by
  unfold State.winArrive; (try dsimp only)
  repeat' (first
    | (with_reducible first | assumption | apply State.odAdd_keeps | apply State.sendDone_keeps | apply State.winAtPort_keeps | apply State.winTake_keeps | apply State.track_keeps | apply KeepsO.next | apply Keeps.ite | apply KeepsO.ite | apply Keeps.ite1)
    | dsimp only | (with_reducible refine Keeps.fst (by assumption) ?_) | split)

theorem execWindowWriteArrival_keeps {z : State} (kind : WinKind) (p : WinPkt) (s : State) (hz : Keeps z s) : KeepsO
    z (execWindowWriteArrival kind p s) := by
  unfold execWindowWriteArrival
  repeat' (first
    | (with_reducible first | assumption | apply State.winArrive_keeps | apply KeepsO.next))

theorem State.winPacket_keeps {z : State} (s : State) (link : Option Nat) (kind : WinKind) (p : WinPkt) (hz : Keeps
    z s) : Keeps z (State.winPacket s link kind p) := by
  unfold State.winPacket
  repeat' (first
    | (with_reducible first | assumption | apply State.fromLink_keeps | apply State.odAdd_keeps | apply State.winArrive_keeps | apply KeepsO.next | apply Keeps.ite | apply KeepsO.ite | apply Keeps.ite1)
    | dsimp only | (with_reducible refine Keeps.fst (by assumption) ?_) | split
    | (with_reducible intro _; intros; (try dsimp only)))

theorem execWmove_keeps {z : State} (x : WinIn) (s : State) (hz : Keeps z s) : KeepsO z (execWmove x s) := by
  unfold execWmove
  repeat' (first
    | (with_reducible first | assumption | apply State.winPacket_keeps | apply KeepsO.next))

theorem execWaaddx_keeps {z : State} (x : WinIn) (s : State) (hz : Keeps z s) : KeepsO z (execWaaddx x s) := by
  unfold execWaaddx
  repeat' (first
    | (with_reducible first | assumption | apply State.winPacket_keeps | apply KeepsO.next))

theorem execWzero_keeps {z : State} (x : WinIn) (s : State) (hz : Keeps z s) : KeepsO z (execWzero x s) := by
  unfold execWzero
  repeat' (first
    | (with_reducible first | assumption | apply State.winPacket_keeps | apply KeepsO.next))

theorem execNotifyTrackerClose_keeps {z : State} (i : Nat) (s : State) (hz : Keeps z s) : KeepsO z
    (execNotifyTrackerClose i s) := by
  unfold execNotifyTrackerClose
  repeat' (first
    | (with_reducible first | assumption | apply KeepsO.next | apply Keeps.ite | apply KeepsO.ite | apply Keeps.ite1)
    | dsimp only | (with_reducible refine Keeps.fst (by assumption) ?_) | split
    | (simp only [Keeps.mk_iff]; with_reducible apply Keeps.fold))

theorem State.pktDone_keeps {z : State} (s : State) (r : OutReq) (hz : Keeps z s) : Keeps z (State.pktDone s r) := by
  unfold State.pktDone
  repeat' (first
    | (with_reducible first | assumption | apply State.modCopy_keeps | apply KeepsO.next | apply Keeps.ite | apply KeepsO.ite | apply Keeps.ite1)
    | dsimp only | (with_reducible refine Keeps.fst (by assumption) ?_) | split
    | (simp only [Keeps.mk_iff]; with_reducible apply Keeps.fold))

theorem execWdone_keeps {z : State} (d : DoneIn) (ovf : Bool) (s : State) (hz : Keeps z s) : KeepsO z (execWdone d
    ovf s) := by
  unfold execWdone; (try dsimp only)
  repeat' (first
    | (with_reducible first | assumption | apply State.fromLink_keeps | apply State.useFree_keeps | apply State.copyOverflow_keeps | apply State.pktDone_keeps | apply KeepsO.next | apply Keeps.ite | apply KeepsO.ite | apply Keeps.ite1)
    | dsimp only | (with_reducible refine Keeps.fst (by assumption) ?_) | split
    | (with_reducible intro _; intros; (try dsimp only)))

theorem execLinkRequestResend_keeps {z : State} (tag : BitVec 32) (s : State) (hz : Keeps z s) : KeepsO z
    (execLinkRequestResend tag s) := by
  unfold execLinkRequestResend; (try dsimp only)
  repeat' (first
    | (with_reducible first | assumption | apply State.odAdd_keeps | apply State.sendRouted_keeps | apply State.pktDone_keeps | apply State.logEv_keeps | apply KeepsO.next | apply Keeps.ite | apply KeepsO.ite | apply Keeps.ite1)
    | dsimp only | (with_reducible refine Keeps.fst (by assumption) ?_) | split
    | (simp only [Keeps.mk_iff]; with_reducible apply Keeps.fold))

theorem State.seenBy_keeps {z : State} (s : State) (own : List Nat) (hz : Keeps z s) : Keeps z (State.seenBy s own)
    := by
  unfold State.seenBy; (try dsimp only)
  repeat' (first
    | (with_reducible first | assumption | apply KeepsO.next | apply Keeps.ite | apply KeepsO.ite | apply Keeps.ite1)
    | dsimp only | (with_reducible refine Keeps.fst (by assumption) ?_) | split
    | (simp only [Keeps.mk_iff]; with_reducible apply Keeps.fold))

theorem State.seenFor_keeps {z : State} (s : State) (p : Part) (d : BitVec 1024) (n : Nat) (hz : Keeps z s) : Keeps
    z (State.seenFor s p d n) := by
  unfold State.seenFor
  repeat' (first
    | (with_reducible first | assumption | apply State.seenBy_keeps))

theorem State.updPut_keeps {z : State} (s vw : State) (p : Part) (o : UpdOut) (whole bad : Bool) (hz : Keeps z s) :
    Keeps z (State.updPut s vw p o whole bad) := by
  unfold State.updPut; (try dsimp only)
  repeat' (first
    | (with_reducible first | assumption | apply KeepsO.next | apply Keeps.ite | apply KeepsO.ite | apply Keeps.ite1)
    | dsimp only | (with_reducible refine Keeps.fst (by assumption) ?_) | split
    | (simp only [Keeps.mk_iff]; with_reducible apply Keeps.fold)
    | (simp only [Keeps.mk_iff]; with_reducible refine KeepsC.maps ?_ ?_ ?_ ?_ ?_ ?_ ?_ ?_ ?_ ?_ ?_ ?_ ?_ ?_ ?_ <;> intros)
    | (with_reducible first | apply mset_wf | apply mclearRange_wf | apply mwf_nil | apply filter_wf | apply Memory.wf_msetRange | apply Memory.wf_clear | apply Memory.wf_nil | apply Memory.marksWf_mset | apply Memory.marksWf_clear | apply Memory.marksWf_nil | apply Memory.marksWf_ite | apply markPoison_wf | apply markOvf_wf))

theorem State.updWrite_keeps {z : State} (s vw : State) (p : Part) (outs : List UpdOut) (hz : Keeps z s) : Keeps z
    (State.updWrite s vw p outs) := by
  unfold State.updWrite; (try dsimp only)
  repeat' (first
    | (with_reducible first | assumption | apply State.updPut_keeps | apply State.odAdd_keeps | apply KeepsO.next | apply Keeps.ite | apply KeepsO.ite | apply Keeps.ite1)
    | dsimp only | (with_reducible apply Keeps.foldl; (try intro _ _ _); (try dsimp only)))



theorem State.upcRefresh_keeps {z : State} (s : State) (hz : Keeps z s) : Keeps z (State.upcRefresh s) := by
  unfold State.upcRefresh; (try dsimp only)
  repeat' (first
    | (with_reducible first | assumption | apply State.odPutBit_keeps | apply State.odSet_keeps | apply KeepsO.next | apply Keeps.ite | apply KeepsO.ite | apply Keeps.ite1)
    | dsimp only | (with_reducible apply Keeps.foldl; (try intro _ _ _); (try dsimp only)))

theorem State.updCount_keeps {z : State} (s : State) (hz : Keeps z s) : Keeps z (State.updCount s) := by
  unfold State.updCount
  repeat' (first
    | (with_reducible first | assumption | apply State.odSet_keeps | apply KeepsO.next | apply Keeps.ite | apply KeepsO.ite | apply Keeps.ite1)
    | dsimp only | (with_reducible apply Keeps.foldl; (try intro _ _ _); (try dsimp only)))

theorem State.updSet_keeps {z : State} (s : State) (p stack uid ctr : Nat) (hz : Keeps z s) : Keeps z (State.updSet
    s p stack uid ctr) := by
  unfold State.updSet; (try dsimp only)
  repeat' (first
    | (with_reducible first | assumption | apply State.updCount_keeps | apply KeepsO.next | apply Keeps.ite | apply KeepsO.ite | apply Keeps.ite1)
    | dsimp only | (with_reducible refine Keeps.fst (by assumption) ?_) | split
    | (simp only [Keeps.mk_iff]; with_reducible apply Keeps.fold))

theorem State.updClear_keeps {z : State} (s : State) (p : Nat) (hz : Keeps z s) : Keeps z (State.updClear s p) := by
  unfold State.updClear
  repeat' (first
    | (with_reducible first | assumption | apply State.updCount_keeps | apply KeepsO.next | apply Keeps.ite | apply KeepsO.ite | apply Keeps.ite1)
    | dsimp only | (with_reducible refine Keeps.fst (by assumption) ?_) | split
    | (simp only [Keeps.mk_iff]; with_reducible apply Keeps.fold))

theorem State.jobAfterCommit_keeps {z : State} (s : State) (p status : Nat) (resync : Bool) (hz : Keeps z s) : Keeps
    z (State.jobAfterCommit s p status resync) := by
  unfold State.jobAfterCommit
  repeat' (first
    | (with_reducible first | assumption | apply State.modJob_keeps))

theorem State.sramPut_keeps {z : State} (s : State) (u : Nat) (bytes : List Byte) (hz : Keeps z s) : Keeps z
    (State.sramPut s u bytes) := by
  unfold State.sramPut
  repeat' (first
    | (with_reducible first | assumption | apply KeepsO.next | apply Keeps.ite | apply KeepsO.ite | apply Keeps.ite1)
    | dsimp only | (with_reducible refine Keeps.fst (by assumption) ?_) | split
    | (simp only [Keeps.mk_iff]; with_reducible apply Keeps.fold))

theorem State.sramClear_keeps {z : State} (s : State) (hz : Keeps z s) : Keeps z (State.sramClear s) := by
  unfold State.sramClear
  repeat' (first
    | (with_reducible first | assumption | apply KeepsO.next | apply Keeps.ite | apply KeepsO.ite | apply Keeps.ite1)
    | dsimp only | (with_reducible refine Keeps.fst (by assumption) ?_) | split
    | (simp only [Keeps.mk_iff]; with_reducible apply Keeps.fold))

theorem State.endCommit_keeps {z : State} (s : State) (p status : Nat) (res : Results) (hz : Keeps z s) : Keeps z
    (State.endCommit s p status res) := by
  unfold State.endCommit; (try dsimp only)
  repeat' (first
    | (with_reducible first | assumption | apply State.modPart_keeps | apply State.sramClear_keeps | apply State.jobAfterCommit_keeps | apply State.complete_keeps | apply KeepsO.next | apply Keeps.ite | apply KeepsO.ite | apply Keeps.ite1)
    | dsimp only | (with_reducible refine Keeps.fst (by assumption) ?_) | split)

theorem State.modCommit_keeps {z : State} (s : State) (p : Nat) (f : Commit → Commit) (hz : Keeps z s) : Keeps z
    (State.modCommit s p f) := by
  unfold State.modCommit
  repeat' (first
    | (with_reducible first | assumption | apply State.modPart_keeps))

theorem State.commitSr_keeps {z : State} (s : State) (p : Nat) (hz : Keeps z s) : Keeps z (State.commitSr s p) := by
  unfold State.commitSr; (try dsimp only)
  repeat' (first
    | (with_reducible first | assumption | apply State.modCommit_keeps | apply KeepsO.next | apply Keeps.ite | apply KeepsO.ite | apply Keeps.ite1)
    | dsimp only | (with_reducible refine Keeps.fst (by assumption) ?_) | split)

theorem State.commitStackLost_keeps {z : State} (s : State) (k : Nat) (hz : Keeps z s) : Keeps z
    (State.commitStackLost s k) := by
  unfold State.commitStackLost
  repeat' (first
    | (with_reducible first | assumption | apply State.endCommit_keeps | apply State.modCommit_keeps | apply State.commitSr_keeps | apply KeepsO.next | apply Keeps.ite | apply KeepsO.ite | apply Keeps.ite1)
    | dsimp only | (with_reducible apply Keeps.foldl; (try intro _ _ _); (try dsimp only))
    | (with_reducible apply Keeps.foldl1; (try intro _ _ _); (try dsimp only))
    | (with_reducible refine Keeps.fst (by assumption) ?_) | split)

theorem execStepCommit_keeps {z : State} (ring idx : Nat) (s : State) (hz : Keeps z s) : KeepsO z (execStepCommit
    ring idx s) := by
  unfold execStepCommit; (try dsimp only)
  repeat' (first
    | (with_reducible first | assumption | apply State.complete_keeps | apply State.modPart_keeps | apply KeepsO.next | apply Keeps.ite | apply KeepsO.ite | apply Keeps.ite1)
    | dsimp only | (with_reducible refine Keeps.fst (by assumption) ?_) | split
    | (simp only [Keeps.mk_iff]; with_reducible apply Keeps.fold))

theorem execGateCheck_keeps {z : State} (part : Nat) (s : State) (hz : Keeps z s) : KeepsO z (execGateCheck part s)
    := by
  unfold execGateCheck; (try dsimp only)
  repeat' (first
    | (with_reducible first | assumption | apply State.endCommit_keeps | apply State.logEv_keeps | apply State.odAdd_keeps | apply State.updSet_keeps | apply State.modCommit_keeps | apply KeepsO.next | apply Keeps.ite | apply KeepsO.ite | apply Keeps.ite1)
    | dsimp only | (with_reducible apply Keeps.foldl; (try intro _ _ _); (try dsimp only))
    | (with_reducible apply Keeps.foldl1; (try intro _ _ _); (try dsimp only))
    | (with_reducible refine Keeps.fst (by assumption) ?_) | split)

theorem State.staleEvents_keeps {z : State} (s vw : State) (p : Nat) (d : BitVec 1024) (k blk : Nat) (hz : Keeps z
    s) : Keeps z (State.staleEvents s vw p d k blk) := by
  unfold State.staleEvents; (try dsimp only)
  repeat' (first
    | (with_reducible first | assumption | apply State.odAdd_keeps | apply State.modCommit_keeps | apply State.logEv_keeps | apply KeepsO.next | apply Keeps.ite | apply KeepsO.ite | apply Keeps.ite1)
    | dsimp only | (with_reducible refine Keeps.fst (by assumption) ?_) | split
    | (simp only [Keeps.mk_iff]; with_reducible apply Keeps.fold))

theorem State.applyGroup_keeps {z : State} (s : State) (p : Nat) (c : Commit) (h : ShardSt) (hz : Keeps z s) : Keeps
    z (State.applyGroup s p c h) := by
  unfold State.applyGroup; (try dsimp only)
  repeat' (first
    | (with_reducible first | assumption | apply State.seenBy_keeps | apply State.staleEvents_keeps | apply State.sramPut_keeps | apply State.updWrite_keeps | apply State.modCommit_keeps | apply State.updSet_keeps | apply State.commitSr_keeps | apply KeepsO.next | apply Keeps.ite | apply KeepsO.ite | apply Keeps.ite1)
    | dsimp only | (with_reducible refine Keeps.fst (by assumption) ?_) | split)

theorem State.sramFind_keeps {z : State} (s : State) (u : Nat) (found : Finding) (hz : Keeps z s) : Keeps z
    (State.sramFind s u found).1 := by
  unfold State.sramFind
  repeat' (first
    | (with_reducible first | assumption | apply State.sramPut_keeps | apply State.odAdd_keeps | apply KeepsO.next | apply Keeps.ite | apply KeepsO.ite | apply Keeps.ite1)
    | dsimp only | (with_reducible refine Keeps.fst (by assumption) ?_) | split)

theorem execUpdateGroupApply_keeps {z : State} (part : Nat) (g : GroupFind) (s : State) (hz : Keeps z s) : KeepsO z
    (execUpdateGroupApply part g s) := by
  unfold execUpdateGroupApply; (try dsimp only)
  repeat' (first
    | (with_reducible first | assumption | apply State.applyGroup_keeps | apply State.sramFind_keeps | apply KeepsO.next | apply Keeps.ite | apply KeepsO.ite | apply Keeps.ite1)
    | dsimp only | (with_reducible refine Keeps.fst (by assumption) ?_) | split)

theorem State.commitEvents_keeps {z : State} (s : State) (p : Nat) (c : Commit) (hz : Keeps z s) : Keeps z
    (State.commitEvents s p c) := by
  unfold State.commitEvents; (try dsimp only)
  repeat' (first
    | (with_reducible first | assumption | apply State.odAdd_keeps | apply State.logEv_keeps | apply KeepsO.next | apply Keeps.ite | apply KeepsO.ite | apply Keeps.ite1)
    | dsimp only | (with_reducible apply Keeps.foldl; (try intro _ _ _); (try dsimp only))
    | (with_reducible apply Keeps.foldl1; (try intro _ _ _); (try dsimp only))
    | (with_reducible refine Keeps.fst (by assumption) ?_) | split)

theorem execCommitComplete_keeps {z : State} (part : Nat) (s : State) (hz : Keeps z s) : KeepsO z
    (execCommitComplete part s) := by
  unfold execCommitComplete; (try dsimp only)
  repeat' (first
    | (with_reducible first | assumption | apply State.commitEvents_keeps | apply State.odAdd_keeps | apply State.endCommit_keeps | apply KeepsO.next | apply Keeps.ite | apply KeepsO.ite | apply Keeps.ite1)
    | dsimp only | (with_reducible refine Keeps.fst (by assumption) ?_) | split)

theorem execCommitAfterReset_keeps {z : State} (part : Nat) (s : State) (hz : Keeps z s) : KeepsO z
    (execCommitAfterReset part s) := by
  unfold execCommitAfterReset; (try dsimp only)
  repeat' (first
    | (with_reducible first | assumption | apply State.commitEvents_keeps | apply State.odAdd_keeps | apply State.logEv_keeps | apply State.endCommit_keeps | apply KeepsO.next | apply Keeps.ite | apply KeepsO.ite | apply Keeps.ite1)
    | dsimp only | (with_reducible refine Keeps.fst (by assumption) ?_) | split)

theorem State.drainUpc_keeps {z : State} (s : State) (u cause : Nat) (hz : Keeps z s) : Keeps z (State.drainUpc s u
    cause) := by
  unfold State.drainUpc; (try dsimp only)
  repeat' (first
    | (with_reducible first | assumption | apply State.odSet_keeps | apply State.odPutBit_keeps | apply State.upcRefresh_keeps | apply State.logEv_keeps | apply State.checkFloors_keeps | apply KeepsO.next | apply Keeps.ite | apply KeepsO.ite | apply Keeps.ite1)
    | dsimp only | (with_reducible refine Keeps.fst (by assumption) ?_) | split
    | (simp only [Keeps.mk_iff]; with_reducible apply Keeps.fold))

theorem State.askDrain_keeps {z : State} (s : State) (u cause : Nat) (hz : Keeps z s) : Keeps z (State.askDrain s u
    cause) := by
  unfold State.askDrain
  repeat' (first
    | (with_reducible first | assumption | apply KeepsO.next | apply Keeps.ite | apply KeepsO.ite | apply Keeps.ite1)
    | dsimp only | (with_reducible refine Keeps.fst (by assumption) ?_) | split
    | (simp only [Keeps.mk_iff]; with_reducible apply Keeps.fold))

theorem State.drainReqWrite_keeps {z : State} (s : State) (mask : Nat) (hz : Keeps z s) : Keeps z
    (State.drainReqWrite s mask).1 := by
  unfold State.drainReqWrite; (try dsimp only)
  repeat' (first
    | (with_reducible first | assumption | apply State.odPutBit_keeps | apply State.askDrain_keeps | apply KeepsO.next | apply Keeps.ite | apply KeepsO.ite | apply Keeps.ite1)
    | dsimp only | (with_reducible apply Keeps.foldl; (try intro _ _ _); (try dsimp only)))

theorem execUpcDrainReq_keeps {z : State} (route : Nat) (mask : BitVec 8) (s : State) (hz : Keeps z s) : KeepsO z
    (execUpcDrainReq route mask s) := by
  unfold execUpcDrainReq
  repeat' (first
    | (with_reducible first | assumption | apply State.keyWrite_keeps | apply State.route_keeps | apply State.drainReqWrite_keeps | apply KeepsO.next | apply Keeps.ite | apply KeepsO.ite | apply Keeps.ite1)
    | dsimp only | (with_reducible refine Keeps.fst (by assumption) ?_) | split
    | (with_reducible intro _; intros; (try dsimp only)))

theorem execUpcDrain_keeps {z : State} (u : Nat) (s : State) (hz : Keeps z s) : KeepsO z (execUpcDrain u s) := by
  unfold execUpcDrain
  repeat' (first
    | (with_reducible first | assumption | apply State.drainUpc_keeps | apply KeepsO.next | apply Keeps.ite | apply KeepsO.ite | apply Keeps.ite1)
    | dsimp only | (with_reducible refine Keeps.fst (by assumption) ?_) | split)

theorem State.resumeCommits_keeps {z : State} (s : State) (u : Nat) (hit : List (Nat × List (Nat × Nat))) (hz :
    Keeps z s) : Keeps z (State.resumeCommits s u hit) := by
  unfold State.resumeCommits; (try dsimp only)
  repeat' (first
    | (with_reducible first | assumption | apply State.modCommit_keeps | apply State.logEv_keeps | apply State.odAdd_keeps | apply KeepsO.next | apply Keeps.ite | apply KeepsO.ite | apply Keeps.ite1)
    | dsimp only | (with_reducible apply Keeps.foldl; (try intro _ _ _); (try dsimp only))
    | (with_reducible apply Keeps.foldl1; (try intro _ _ _); (try dsimp only))
    | (with_reducible refine Keeps.fst (by assumption) ?_) | split)

theorem State.upcStops_keeps {z : State} (s : State) (u : Nat) (work : List (Nat × List (Nat × Nat))) (hz : Keeps z
    s) : Keeps z (State.upcStops s u work) := by
  unfold State.upcStops; (try dsimp only)
  repeat' (first
    | (with_reducible first | assumption | apply State.drainUpc_keeps | apply State.resumeCommits_keeps | apply KeepsO.next | apply Keeps.ite | apply KeepsO.ite | apply Keeps.ite1)
    | dsimp only | (with_reducible refine Keeps.fst (by assumption) ?_) | split
    | (simp only [Keeps.mk_iff]; with_reducible apply Keeps.fold))

theorem execUpcFault_keeps {z : State} (u : Nat) (s : State) (hz : Keeps z s) : KeepsO z (execUpcFault u s) := by
  unfold execUpcFault
  repeat' (first
    | (with_reducible first | assumption | apply State.upcStops_keeps | apply State.studFail_keeps | apply KeepsO.next | apply Keeps.ite | apply KeepsO.ite))

theorem execUpcReturn_keeps {z : State} (u : Nat) (s : State) (hz : Keeps z s) : KeepsO z (execUpcReturn u s) := by
  unfold execUpcReturn; (try dsimp only)
  repeat' (first
    | (with_reducible first | assumption | apply State.odSet_keeps | apply State.upcRefresh_keeps | apply State.logEv_keeps | apply KeepsO.next | apply Keeps.ite | apply KeepsO.ite | apply Keeps.ite1)
    | dsimp only | (with_reducible refine Keeps.fst (by assumption) ?_) | split
    | (simp only [Keeps.mk_iff]; with_reducible apply Keeps.fold))

theorem State.digSram_keeps {z : State} (s : State) (p : Nat) (v : BitVec 128) (hz : Keeps z s) : Keeps z
    (State.digSram s p v) := by
  unfold State.digSram
  repeat' (first
    | (with_reducible first | assumption | apply State.sramPut_keeps | apply KeepsO.next | apply Keeps.ite | apply KeepsO.ite | apply Keeps.ite1)
    | dsimp only | (with_reducible apply Keeps.foldl; (try intro _ _ _); (try dsimp only)))

theorem execDigestReq_keeps {z : State} (ring idx : Nat) (s : State) (hz : Keeps z s) : KeepsO z (execDigestReq ring
    idx s) := by
  unfold execDigestReq; (try dsimp only)
  repeat' (first
    | (with_reducible first | assumption | apply State.complete_keeps | apply State.modPart_keeps | apply State.digSram_keeps | apply KeepsO.next | apply Keeps.ite | apply KeepsO.ite | apply Keeps.ite1)
    | dsimp only | (with_reducible refine Keeps.fst (by assumption) ?_) | split
    | (simp only [Keeps.mk_iff]; with_reducible apply Keeps.fold))

theorem execDigestStart_keeps {z : State} (part : Nat) (s : State) (hz : Keeps z s) : KeepsO z (execDigestStart part
    s) := by
  unfold execDigestStart; (try dsimp only)
  repeat' (first
    | (with_reducible first | assumption | apply State.modPart_keeps | apply State.digSram_keeps | apply KeepsO.next | apply Keeps.ite | apply KeepsO.ite | apply Keeps.ite1)
    | dsimp only | (with_reducible refine Keeps.fst (by assumption) ?_) | split)

theorem State.digFinds_keeps {z : State} (s : State) (p : Nat) (l : List (Nat × Finding)) (hz : Keeps z s) : Keeps z
    (State.digFinds s p l) := by
  unfold State.digFinds
  repeat' (first
    | (with_reducible first | assumption | apply State.sramFind_keeps | apply KeepsO.next | apply Keeps.ite | apply KeepsO.ite | apply Keeps.ite1)
    | dsimp only | (with_reducible apply Keeps.foldl; (try intro _ _ _); (try dsimp only)))

theorem execDigestComplete_keeps {z : State} (d : DigestEnd) (s : State) (hz : Keeps z s) : KeepsO z
    (execDigestComplete d s) := by
  unfold execDigestComplete; (try dsimp only)
  repeat' (first
    | (with_reducible first | assumption | apply State.digFinds_keeps | apply State.modPart_keeps | apply State.sramClear_keeps | apply State.complete_keeps | apply KeepsO.next | apply Keeps.ite | apply KeepsO.ite | apply Keeps.ite1)
    | dsimp only | (with_reducible refine Keeps.fst (by assumption) ?_) | split)

end Sys2Proof.Machine
end

