-- ==== Sys2Proof/Laws/KeepsModule.lean ====
section
/-! SUPPORT. The operations and meanings of the partitions, the rings, the jobs, the mesh, the clocks, power and heat keep the queue and the canonical
form of every map. -/

set_option maxRecDepth 8000

namespace Sys2Proof.Machine

open Sys2Proof

theorem State.clearSite_keeps {z : State} (s : State) (site : SiteId) (hz : Keeps z s) : Keeps z (State.clearSite s
    site) := by
  unfold State.clearSite; (try dsimp only)
  repeat' (first
    | (with_reducible first | assumption | apply KeepsO.next | apply Keeps.ite | apply KeepsO.ite | apply Keeps.ite1)
    | dsimp only | (with_reducible refine Keeps.fst (by assumption) ?_) | split
    | (simp only [Keeps.mk_iff]; with_reducible apply Keeps.fold)
    | (simp only [Keeps.mk_iff]; with_reducible refine KeepsC.maps ?_ ?_ ?_ ?_ ?_ ?_ ?_ ?_ ?_ ?_ ?_ ?_ ?_ ?_ ?_ <;> intros)
    | (with_reducible first | apply mset_wf | apply mclearRange_wf | apply mwf_nil | apply filter_wf | apply Memory.wf_msetRange | apply Memory.wf_clear | apply Memory.wf_nil | apply Memory.marksWf_mset | apply Memory.marksWf_clear))

theorem State.railRefresh_keeps {z : State} (s : State) (b : Nat) (hz : Keeps z s) : Keeps z (State.railRefresh s b)
    := by
  unfold State.railRefresh; (try dsimp only)
  repeat' (first
    | (with_reducible first | assumption | apply State.odSet_keeps | apply KeepsO.next | apply Keeps.ite))

theorem State.railsAll_keeps {z : State} (s : State) (hz : Keeps z s) : Keeps z (State.railsAll s) := by
  unfold State.railsAll
  repeat' (first
    | (with_reducible first | assumption | apply State.railRefresh_keeps | apply KeepsO.next | apply Keeps.ite | apply KeepsO.ite | apply Keeps.ite1)
    | dsimp only | (with_reducible apply Keeps.foldl; (try intro _ _ _); (try dsimp only)))

theorem State.switchOff_keeps {z : State} (s : State) (site : SiteId) (hz : Keeps z s) : Keeps z (State.switchOff s
    site) := by
  unfold State.switchOff; (try dsimp only)
  repeat' (first
    | (with_reducible first | assumption | apply State.unland_keeps | apply State.lastCycles_keeps | apply State.clearSite_keeps | apply State.modCl_keeps | apply State.portTurn_keeps | apply State.modBay_keeps | apply State.railRefresh_keeps))

theorem State.fenceOff_keeps {z : State} (s : State) (site : SiteId) (reason : Nat) (hz : Keeps z s) : Keeps z
    (State.fenceOff s site reason) := by
  unfold State.fenceOff
  repeat' (first
    | (with_reducible first | assumption | apply State.loseOwner_keeps | apply State.fenceSite_keeps | apply State.switchOff_keeps))

theorem State.wantPower_keeps {z : State} (s : State) (site : SiteId) (hz : Keeps z s) : Keeps z (State.wantPower s
    site) := by
  unfold State.wantPower; (try dsimp only)
  repeat' (first
    | (with_reducible first | assumption | apply State.switchOff_keeps | apply State.modCl_keeps | apply State.modBay_keeps | apply KeepsO.next | apply Keeps.ite))

theorem State.withdraw_keeps {z : State} (s : State) (hz : Keeps z s) : Keeps z (State.withdraw s) := by
  unfold State.withdraw; (try dsimp only)
  repeat' (first
    | (with_reducible first | assumption | apply State.setLogical_keeps | apply State.modBay_keeps | apply State.countOffered_keeps | apply State.checkFloors_keeps | apply State.logEv_keeps | apply KeepsO.next | apply Keeps.ite | apply KeepsO.ite | apply Keeps.ite1)
    | dsimp only | (with_reducible apply Keeps.foldl; (try intro _ _ _); (try dsimp only))
    | (with_reducible apply Keeps.foldl1; (try intro _ _ _); (try dsimp only))
    | (with_reducible refine Keeps.fst (by assumption) ?_) | split)

theorem State.ownSite_keeps {z : State} (s : State) (site : SiteId) (p i : Nat) (hz : Keeps z s) : Keeps z
    (State.ownSite s site p i) := by
  unfold State.ownSite
  repeat' (first
    | (with_reducible first | assumption | apply State.abandonRun_keeps | apply State.modCl_keeps))

theorem State.releaseSite_keeps {z : State} (s : State) (site : SiteId) (hz : Keeps z s) : Keeps z
    (State.releaseSite s site) := by
  unfold State.releaseSite
  repeat' (first
    | (with_reducible first | assumption | apply State.abandonRun_keeps | apply State.switchOff_keeps | apply State.modCl_keeps))

theorem State.dropMail_keeps {z : State} (s : State) (site : SiteId) (hz : Keeps z s) : Keeps z (State.dropMail s
    site) := by
  unfold State.dropMail; (try dsimp only)
  repeat' (first
    | (with_reducible first | assumption | apply KeepsO.next | apply Keeps.ite | apply KeepsO.ite | apply Keeps.ite1)
    | dsimp only | (with_reducible refine Keeps.fst (by assumption) ?_) | split
    | (simp only [Keeps.mk_iff]; with_reducible apply Keeps.fold))

theorem State.moveWaits_keeps {z : State} (s : State) (p : Nat) (old new : List (Option SiteId)) (hz : Keeps z s) :
    Keeps z (State.moveWaits s p old new) := by
  unfold State.moveWaits; (try dsimp only)
  repeat' (first
    | (with_reducible first | assumption | apply State.codeToHost_keeps | apply KeepsO.next | apply Keeps.ite | apply KeepsO.ite | apply Keeps.ite1)
    | dsimp only | (with_reducible apply Keeps.foldl; (try intro _ _ _); (try dsimp only))
    | (with_reducible apply Keeps.foldl1; (try intro _ _ _); (try dsimp only))
    | (with_reducible refine Keeps.fst (by assumption) ?_) | split
    | (simp only [Keeps.mk_iff]; with_reducible apply Keeps.fold))

theorem State.spareMove_keeps {z : State} (s : State) (p i : Nat) (old new : SiteId) (hz : Keeps z s) : Keeps z
    (State.spareMove s p i old new) := by
  unfold State.spareMove; (try dsimp only)
  repeat' (first
    | (with_reducible first | assumption | apply State.releaseSite_keeps | apply State.setLogical_keeps | apply State.ownSite_keeps | apply State.modPart_keeps | apply State.dropMail_keeps | apply State.moveWaits_keeps | apply State.wantPower_keeps | apply State.checkFloors_keeps))

theorem State.bayMoves_keeps {z : State} (s : State) (p b : Nat) (hz : Keeps z s) : Keeps z (State.bayMoves s p b)
    := by
  unfold State.bayMoves; (try dsimp only)
  repeat' (first
    | (with_reducible first | assumption | apply State.spareMove_keeps | apply State.markBay_keeps | apply KeepsO.next | apply Keeps.ite | apply KeepsO.ite | apply Keeps.ite1)
    | dsimp only | (with_reducible apply Keeps.foldl; (try intro _ _ _); (try dsimp only))
    | (with_reducible apply Keeps.foldl1; (try intro _ _ _); (try dsimp only))
    | (with_reducible refine Keeps.fst (by assumption) ?_) | split)

theorem State.spareMoves_keeps {z : State} (s : State) (p : Nat) (hz : Keeps z s) : Keeps z (State.spareMoves s p)
    := by
  unfold State.spareMoves
  repeat' (first
    | (with_reducible first | assumption | apply State.bayMoves_keeps | apply KeepsO.next | apply Keeps.ite | apply KeepsO.ite | apply Keeps.ite1)
    | dsimp only | (with_reducible apply Keeps.foldl; (try intro _ _ _); (try dsimp only)))

theorem State.endCtrl_keeps {z : State} (s : State) (p status : Nat) (hz : Keeps z s) : Keeps z (State.endCtrl s p
    status) := by
  unfold State.endCtrl
  repeat' (first
    | (with_reducible first | assumption | apply State.modPart_keeps | apply State.odSet_keeps))

theorem State.updateDone_keeps {z : State} (s : State) (hz : Keeps z s) : Keeps z (State.updateDone s) := by
  unfold State.updateDone
  repeat' (first
    | (with_reducible first | assumption | apply State.odSet_keeps | apply State.logEv_keeps | apply KeepsO.next | apply Keeps.ite))

theorem State.moveUnit_keeps {z : State} (s : State) (u : Nat) (hz : Keeps z s) : Keeps z (State.moveUnit s u) := by
  unfold State.moveUnit; (try dsimp only)
  repeat' (first
    | (with_reducible first | assumption | apply State.updateDone_keeps | apply KeepsO.next | apply Keeps.ite | apply KeepsO.ite | apply Keeps.ite1)
    | dsimp only | (with_reducible refine Keeps.fst (by assumption) ?_) | split
    | (simp only [Keeps.mk_iff]; with_reducible apply Keeps.fold))

theorem State.partCtrlWrite_keeps {z : State} (s : State) (p code : Nat) (hz : Keeps z s) : Keeps z
    (State.partCtrlWrite s p code).1 := by
  unfold State.partCtrlWrite; (try dsimp only)
  repeat' (first
    | (with_reducible first | assumption | apply State.endCtrl_keeps | apply State.modPart_keeps | apply KeepsO.next | apply Keeps.ite | apply KeepsO.ite | apply Keeps.ite1))

theorem State.clearRecords_keeps {z : State} (s : State) (p : Nat) (hz : Keeps z s) : Keeps z (State.clearRecords s
    p) := by
  unfold State.clearRecords; (try dsimp only)
  repeat' (first
    | (with_reducible first | assumption | apply State.odSet_keeps | apply State.complete_keeps | apply State.modPart_keeps | apply State.updClear_keeps | apply KeepsO.next | apply Keeps.ite | apply KeepsO.ite | apply Keeps.ite1)
    | dsimp only | (with_reducible apply Keeps.foldl; (try intro _ _ _); (try dsimp only))
    | (with_reducible apply Keeps.foldl1; (try intro _ _ _); (try dsimp only))
    | (with_reducible refine Keeps.fst (by assumption) ?_) | split
    | (simp only [Keeps.mk_iff]; with_reducible apply Keeps.fold))

theorem State.zeroExtent_keeps {z : State} (s : State) (chans : List Nat) (base span : Nat) (hz : Keeps z s) : Keeps
    z (State.zeroExtent s chans base span) := by
  unfold State.zeroExtent; (try dsimp only)
  repeat' (first
    | (with_reducible first | assumption | apply KeepsO.next | apply Keeps.ite | apply KeepsO.ite | apply Keeps.ite1)
    | dsimp only | (with_reducible apply Keeps.foldl; (try intro _ _ _); (try dsimp only))
    | (with_reducible apply Keeps.foldl1; (try intro _ _ _); (try dsimp only))
    | (with_reducible refine Keeps.fst (by assumption) ?_) | split
    | (simp only [Keeps.mk_iff]; with_reducible apply Keeps.fold)
    | (simp only [Keeps.mk_iff]; with_reducible refine KeepsC.maps ?_ ?_ ?_ ?_ ?_ ?_ ?_ ?_ ?_ ?_ ?_ ?_ ?_ ?_ ?_ <;> intros)
    | (with_reducible first | apply mset_wf | apply mclearRange_wf | apply mwf_nil | apply filter_wf | apply Memory.wf_msetRange | apply Memory.wf_clear | apply Memory.wf_nil | apply Memory.marksWf_mset | apply Memory.marksWf_clear))

theorem State.composeMap_keeps {z : State} (s : State) (p : Nat) (hz : Keeps z s) : Keeps z (State.composeMap s p)
    := by
  unfold State.composeMap; (try dsimp only)
  repeat' (first
    | (with_reducible first | assumption | apply State.releaseSite_keeps | apply State.dropMail_keeps | apply State.moveWaits_keeps | apply State.clearRecords_keeps | apply State.zeroExtent_keeps | apply State.modPart_keeps | apply State.ownSite_keeps | apply State.wantPower_keeps | apply State.odSet_keeps | apply KeepsO.next | apply Keeps.ite | apply KeepsO.ite | apply Keeps.ite1)
    | dsimp only | (with_reducible apply Keeps.foldl; (try intro _ _ _); (try dsimp only))
    | (with_reducible apply Keeps.foldl1; (try intro _ _ _); (try dsimp only))
    | (with_reducible refine Keeps.fst (by assumption) ?_) | split
    | (simp only [Keeps.mk_iff]; with_reducible apply Keeps.fold))

theorem State.setMap_keeps {z : State} (s : State) (p code : Nat) (hz : Keeps z s) : Keeps z (State.setMap s p code)
    := by
  unfold State.setMap; (try dsimp only)
  repeat' (first
    | (with_reducible first | assumption | apply State.withdraw_keeps | apply State.endCtrl_keeps | apply State.composeMap_keeps | apply State.modPart_keeps | apply KeepsO.next | apply Keeps.ite))

theorem execCompose_keeps {z : State} (part : Nat) (s : State) (hz : Keeps z s) : KeepsO z (execCompose part s) := by
  unfold execCompose
  repeat' (first
    | (with_reducible first | assumption | apply State.setMap_keeps | apply KeepsO.next | apply Keeps.ite | apply KeepsO.ite))

theorem execRemap_keeps {z : State} (part : Nat) (s : State) (hz : Keeps z s) : KeepsO z (execRemap part s) := by
  unfold execRemap
  repeat' (first
    | (with_reducible first | assumption | apply State.setMap_keeps | apply KeepsO.next | apply Keeps.ite | apply KeepsO.ite))

theorem State.dropReads_keeps {z : State} (s : State) (p : Nat) (hz : Keeps z s) : Keeps z (State.dropReads s p) := by
  unfold State.dropReads; (try dsimp only)
  repeat' (first
    | (with_reducible first | assumption | apply KeepsO.next | apply Keeps.ite | apply KeepsO.ite | apply Keeps.ite1)
    | dsimp only | (with_reducible refine Keeps.fst (by assumption) ?_) | split
    | (simp only [Keeps.mk_iff]; with_reducible apply Keeps.fold))

theorem State.unmapLost_keeps {z : State} (s : State) (p : Nat) (hz : Keeps z s) : Keeps z (State.unmapLost s p) := by
  unfold State.unmapLost
  repeat' (first
    | (with_reducible first | assumption | apply State.unmapPos_keeps | apply KeepsO.next | apply Keeps.ite | apply KeepsO.ite | apply Keeps.ite1)
    | dsimp only | (with_reducible apply Keeps.foldl; (try intro _ _ _); (try dsimp only))
    | (with_reducible apply Keeps.foldl1; (try intro _ _ _); (try dsimp only))
    | (with_reducible refine Keeps.fst (by assumption) ?_) | split)

theorem execDissolve_keeps {z : State} (part : Nat) (s : State) (hz : Keeps z s) : KeepsO z (execDissolve part s) :=
    by
  unfold execDissolve; (try dsimp only)
  repeat' (first
    | (with_reducible first | assumption | apply State.unmapLost_keeps | apply State.moveWaits_keeps | apply State.releaseSite_keeps | apply State.dropMail_keeps | apply State.clearRecords_keeps | apply State.modRing_keeps | apply State.dropReads_keeps | apply State.modPart_keeps | apply State.odSet_keeps | apply State.railsAll_keeps | apply State.updateDone_keeps | apply KeepsO.next | apply Keeps.ite | apply KeepsO.ite | apply Keeps.ite1)
    | dsimp only | (with_reducible apply Keeps.foldl; (try intro _ _ _); (try dsimp only))
    | (with_reducible apply Keeps.foldl1; (try intro _ _ _); (try dsimp only))
    | (with_reducible refine Keeps.fst (by assumption) ?_) | split
    | (simp only [Keeps.mk_iff]; with_reducible apply Keeps.fold))

theorem execPartCtrlEnd_keeps {z : State} (part : Nat) (s : State) (hz : Keeps z s) : KeepsO z (execPartCtrlEnd part
    s) := by
  unfold execPartCtrlEnd; (try dsimp only)
  repeat' (first
    | (with_reducible first | assumption | apply State.logEv_keeps | apply State.endCtrl_keeps | apply KeepsO.next | apply Keeps.ite | apply KeepsO.ite | apply Keeps.ite1)
    | dsimp only | (with_reducible refine Keeps.fst (by assumption) ?_) | split
    | (simp only [Keeps.mk_iff]; with_reducible apply Keeps.fold))

theorem State.clearPosts_keeps {z : State} (s : State) (p : Nat) (hz : Keeps z s) : Keeps z (State.clearPosts s p)
    := by
  unfold State.clearPosts; (try dsimp only)
  repeat' (first
    | (with_reducible first | assumption | apply KeepsO.next | apply Keeps.ite | apply KeepsO.ite | apply Keeps.ite1)
    | dsimp only | (with_reducible refine Keeps.fst (by assumption) ?_) | split
    | (simp only [Keeps.mk_iff]; with_reducible apply Keeps.fold))

theorem State.dropCopies_keeps {z : State} (s : State) (p : Nat) (hz : Keeps z s) : Keeps z (State.dropCopies s p)
    := by
  unfold State.dropCopies; (try dsimp only)
  repeat' (first
    | (with_reducible first | assumption | apply KeepsO.next | apply Keeps.ite | apply KeepsO.ite | apply Keeps.ite1)
    | dsimp only | (with_reducible refine Keeps.fst (by assumption) ?_) | split
    | (simp only [Keeps.mk_iff]; with_reducible apply Keeps.fold))

theorem State.resetCommit_keeps {z : State} (s : State) (p : Nat) (hz : Keeps z s) : Keeps z (State.resetCommit s p)
    := by
  unfold State.resetCommit
  repeat' (first
    | (with_reducible first | assumption | apply State.modPart_keeps | apply State.modCommit_keeps | apply KeepsO.next | apply Keeps.ite | apply KeepsO.ite | apply Keeps.ite1)
    | dsimp only | (with_reducible refine Keeps.fst (by assumption) ?_) | split)

theorem State.dropGrant_keeps {z : State} (s : State) (p : Nat) (hz : Keeps z s) : Keeps z (State.dropGrant s p) := by
  unfold State.dropGrant
  repeat' (first
    | (with_reducible first | assumption | apply State.abandonRun_keeps | apply State.modCl_keeps | apply State.modPart_keeps | apply KeepsO.next | apply Keeps.ite | apply KeepsO.ite | apply Keeps.ite1)
    | dsimp only | (with_reducible apply Keeps.foldl; (try intro _ _ _); (try dsimp only))
    | (with_reducible apply Keeps.foldl1; (try intro _ _ _); (try dsimp only))
    | (with_reducible refine Keeps.fst (by assumption) ?_) | split)

theorem execPartitionReset_keeps {z : State} (part : Nat) (s : State) (hz : Keeps z s) : KeepsO z
    (execPartitionReset part s) := by
  unfold execPartitionReset; (try dsimp only)
  repeat' (first
    | (with_reducible first | assumption | apply State.modPart_keeps | apply State.unland_keeps | apply State.discardPart_keeps | apply State.dropReads_keeps | apply State.stepLost_keeps | apply State.resetCommit_keeps | apply State.sramClear_keeps | apply State.dropGrant_keeps | apply State.dropCopies_keeps | apply State.lastCycles_keeps | apply State.clearSite_keeps | apply State.modCl_keeps | apply State.portTurn_keeps | apply State.railRefresh_keeps | apply State.clearPosts_keeps | apply KeepsO.next | apply Keeps.ite | apply KeepsO.ite | apply Keeps.ite1)
    | dsimp only | (with_reducible apply Keeps.foldl; (try intro _ _ _); (try dsimp only))
    | (with_reducible apply Keeps.foldl1; (try intro _ _ _); (try dsimp only))
    | (with_reducible refine Keeps.fst (by assumption) ?_) | split
    | (simp only [Keeps.mk_iff]; with_reducible apply Keeps.fold))

theorem execPartitionResetComplete_keeps {z : State} (part : Nat) (s : State) (hz : Keeps z s) : KeepsO z
    (execPartitionResetComplete part s) := by
  unfold execPartitionResetComplete; (try dsimp only)
  repeat' (first
    | (with_reducible first | assumption | apply State.modCl_keeps | apply State.portTurn_keeps | apply State.modRing_keeps | apply State.modPart_keeps | apply State.odAdd_keeps | apply State.logEv_keeps | apply State.endCtrl_keeps | apply KeepsO.next | apply Keeps.ite | apply KeepsO.ite | apply Keeps.ite1)
    | dsimp only | (with_reducible apply Keeps.foldl; (try intro _ _ _); (try dsimp only))
    | (with_reducible apply Keeps.foldl1; (try intro _ _ _); (try dsimp only))
    | (with_reducible refine Keeps.fst (by assumption) ?_) | split)

theorem State.ringEnableOp_keeps {z : State} (s : State) (r : Nat) (hz : Keeps z s) : Keeps z (State.ringEnableOp s
    r).1 := by
  unfold State.ringEnableOp
  repeat' (first
    | (with_reducible first | assumption | apply State.modRing_keeps | apply KeepsO.next | apply Keeps.ite | apply KeepsO.ite | apply Keeps.ite1))

theorem State.ringDisableOp_keeps {z : State} (s : State) (r : Nat) (hz : Keeps z s) : Keeps z (State.ringDisableOp
    s r).1 := by
  unfold State.ringDisableOp
  repeat' (first
    | (with_reducible first | assumption | apply State.modRing_keeps | apply State.dropFetch_keeps | apply KeepsO.next | apply Keeps.ite | apply KeepsO.ite | apply Keeps.ite1))

theorem State.ringRestartOp_keeps {z : State} (s : State) (r : Nat) (hz : Keeps z s) : Keeps z (State.ringRestartOp
    s r).1 := by
  unfold State.ringRestartOp
  repeat' (first
    | (with_reducible first | assumption | apply State.modRing_keeps | apply KeepsO.next | apply Keeps.ite | apply KeepsO.ite | apply Keeps.ite1))

theorem execRingEnable_keeps {z : State} (ring : Nat) (s : State) (hz : Keeps z s) : KeepsO z (execRingEnable ring
    s) := by
  unfold execRingEnable
  repeat' (first
    | (with_reducible first | assumption | apply State.ringEnableOp_keeps | apply KeepsO.next))

theorem execRingDisable_keeps {z : State} (ring : Nat) (s : State) (hz : Keeps z s) : KeepsO z (execRingDisable ring
    s) := by
  unfold execRingDisable
  repeat' (first
    | (with_reducible first | assumption | apply State.ringDisableOp_keeps | apply KeepsO.next))

theorem execRingRestart_keeps {z : State} (ring : Nat) (s : State) (hz : Keeps z s) : KeepsO z (execRingRestart ring
    s) := by
  unfold execRingRestart
  repeat' (first
    | (with_reducible first | assumption | apply State.ringRestartOp_keeps | apply KeepsO.next))

theorem execDoorbell_keeps {z : State} (route : Nat) (w : BitVec 64) (s : State) (hz : Keeps z s) : KeepsO z
    (execDoorbell route w s) := by
  unfold execDoorbell; (try dsimp only)
  repeat' (first
    | (with_reducible first | assumption | apply State.route_keeps | apply State.hostLost_keeps | apply State.odAdd_keeps | apply State.modRing_keeps | apply KeepsO.next | apply Keeps.ite | apply KeepsO.ite))

theorem State.startCmd_keeps {z : State} (s : State) (ring : Nat) (desc : BitVec 512) (hz : Keeps z s) : Keeps z
    (State.startCmd s ring desc) := by
  unfold State.startCmd; (try dsimp only)
  repeat' (first
    | (with_reducible first | assumption | apply State.dropFetch_keeps | apply State.modRing_keeps | apply State.complete_keeps | apply KeepsO.next | apply Keeps.ite | apply KeepsO.ite | apply Keeps.ite1)
    | dsimp only | (with_reducible refine Keeps.fst (by assumption) ?_) | split
    | (simp only [Keeps.mk_iff]; with_reducible apply Keeps.fold))

theorem execCommandFetch_keeps {z : State} (ring : Nat) (start : Bool) (s : State) (hz : Keeps z s) : KeepsO z
    (execCommandFetch ring start s) := by
  unfold execCommandFetch; (try dsimp only)
  repeat' (first
    | (with_reducible first | assumption | apply State.hostRead_keeps | apply State.startCmd_keeps | apply KeepsO.next | apply Keeps.ite | apply KeepsO.ite | apply Keeps.ite1)
    | dsimp only | (with_reducible refine Keeps.fst (by assumption) ?_) | split)

theorem State.actCmd_keeps {z : State} (s : State) (c : RingCmd) (hz : Keeps z s) : Keeps z (State.actCmd s c) := by
  unfold State.actCmd
  repeat' (first
    | (with_reducible first | assumption | apply KeepsO.next | apply Keeps.ite | apply KeepsO.ite | apply Keeps.ite1)
    | dsimp only | (with_reducible refine Keeps.fst (by assumption) ?_) | split
    | (simp only [Keeps.mk_iff]; with_reducible apply Keeps.fold))

theorem State.readyNow_keeps {z : State} (s : State) (ring : Nat) (hz : Keeps z s) : Keeps z (State.readyNow s ring)
    := by
  unfold State.readyNow; (try dsimp only)
  repeat' (first
    | (with_reducible first | assumption | apply KeepsO.next | apply Keeps.ite | apply KeepsO.ite | apply Keeps.ite1)
    | dsimp only | (with_reducible refine Keeps.fst (by assumption) ?_) | split
    | (simp only [Keeps.mk_iff]; with_reducible apply Keeps.fold))

theorem execFence_keeps {z : State} (ring idx : Nat) (s : State) (hz : Keeps z s) : KeepsO z (execFence ring idx s)
    := by
  unfold execFence
  repeat' (first
    | (with_reducible first | assumption | apply State.complete_keeps | apply State.readyNow_keeps | apply KeepsO.next | apply Keeps.ite | apply KeepsO.ite | apply Keeps.ite1)
    | dsimp only | (with_reducible refine Keeps.fst (by assumption) ?_) | split)

theorem execEventWait_keeps {z : State} (ring idx : Nat) (s : State) (hz : Keeps z s) : KeepsO z (execEventWait ring
    idx s) := by
  unfold execEventWait
  repeat' (first
    | (with_reducible first | assumption | apply State.complete_keeps | apply State.actCmd_keeps | apply KeepsO.next | apply Keeps.ite | apply KeepsO.ite | apply Keeps.ite1)
    | dsimp only | (with_reducible refine Keeps.fst (by assumption) ?_) | split)

theorem execEventWaitTimeout_keeps {z : State} (ring idx : Nat) (s : State) (hz : Keeps z s) : KeepsO z
    (execEventWaitTimeout ring idx s) := by
  unfold execEventWaitTimeout; (try dsimp only)
  repeat' (first
    | (with_reducible first | assumption | apply State.complete_keeps | apply KeepsO.next | apply Keeps.ite | apply KeepsO.ite | apply Keeps.ite1)
    | dsimp only | (with_reducible refine Keeps.fst (by assumption) ?_) | split)

theorem State.loadJob_keeps {z : State} (s : State) (c : RingCmd) (manifest : List (BitVec 512)) (loader : Option
    Row) (hz : Keeps z s) : Keeps z (State.loadJob s c manifest loader) := by
  unfold State.loadJob; (try dsimp only)
  repeat' (first
    | (with_reducible first | assumption | apply State.modJob_keeps | apply State.moveUnit_keeps | apply State.complete_keeps))

theorem execJobLoad_keeps {z : State} (ring idx : Nat) (s : State) (hz : Keeps z s) : KeepsO z (execJobLoad ring idx
    s) := by
  unfold execJobLoad; (try dsimp only)
  repeat' (first
    | (with_reducible first | assumption | apply State.complete_keeps | apply State.odAdd_keeps | apply State.loadJob_keeps | apply KeepsO.next | apply Keeps.ite | apply KeepsO.ite | apply Keeps.ite1)
    | dsimp only | (with_reducible refine Keeps.fst (by assumption) ?_) | split)

theorem State.bootSite_keeps {z : State} (s : State) (p i : Nat) (site : SiteId) (hz : Keeps z s) : Keeps z
    (State.bootSite s p i site) := by
  unfold State.bootSite; (try dsimp only)
  repeat' (first
    | (with_reducible first | assumption | apply State.modBoth_keeps | apply KeepsO.next | apply Keeps.ite | apply KeepsO.ite | apply Keeps.ite1)
    | dsimp only | (with_reducible apply Keeps.foldl; (try intro _ _ _); (try dsimp only)))

theorem State.wipeSite_keeps {z : State} (s : State) (site : SiteId) (hz : Keeps z s) : Keeps z (State.wipeSite s
    site) := by
  unfold State.wipeSite; (try dsimp only)
  repeat' (first
    | (with_reducible first | assumption | apply State.modBoth_keeps | apply KeepsO.next | apply Keeps.ite | apply KeepsO.ite | apply Keeps.ite1)
    | dsimp only | (with_reducible apply Keeps.foldl; (try intro _ _ _); (try dsimp only))
    | (with_reducible apply Keeps.foldl1; (try intro _ _ _); (try dsimp only))
    | (with_reducible refine Keeps.fst (by assumption) ?_) | split
    | (simp only [Keeps.mk_iff]; with_reducible apply Keeps.fold)
    | (simp only [Keeps.mk_iff]; with_reducible refine KeepsC.maps ?_ ?_ ?_ ?_ ?_ ?_ ?_ ?_ ?_ ?_ ?_ ?_ ?_ ?_ ?_ <;> intros)
    | (with_reducible first | apply mset_wf | apply mclearRange_wf | apply mwf_nil | apply filter_wf | apply Memory.wf_msetRange | apply Memory.wf_clear | apply Memory.wf_nil | apply Memory.marksWf_mset | apply Memory.marksWf_clear))

theorem State.prepStep_keeps {z : State} (s : State) (p : Nat) (hz : Keeps z s) : Keeps z (State.prepStep s p) := by
  unfold State.prepStep; (try dsimp only)
  repeat' (first
    | (with_reducible first | assumption | apply State.spareMoves_keeps | apply State.wipeSite_keeps | apply State.modCl_keeps | apply State.bootSite_keeps | apply State.modJob_keeps | apply KeepsO.next | apply Keeps.ite | apply KeepsO.ite | apply Keeps.ite1)
    | dsimp only | (with_reducible apply Keeps.foldl; (try intro _ _ _); (try dsimp only))
    | (with_reducible apply Keeps.foldl1; (try intro _ _ _); (try dsimp only))
    | (with_reducible refine Keeps.fst (by assumption) ?_) | split)

theorem State.mapHints_keeps {z : State} (s : State) (f : Hint → Hint) (hz : Keeps z s) : Keeps z (State.mapHints s
    f) := by
  unfold State.mapHints
  repeat' (first
    | (with_reducible first | assumption | apply KeepsO.next | apply Keeps.ite | apply KeepsO.ite | apply Keeps.ite1)
    | dsimp only | (with_reducible refine Keeps.fst (by assumption) ?_) | split
    | (simp only [Keeps.mk_iff]; with_reducible apply Keeps.fold))

theorem State.wakePart_keeps {z : State} (s : State) (p : Nat) (hz : Keeps z s) : Keeps z (State.wakePart s p) := by
  unfold State.wakePart
  repeat' (first
    | (with_reducible first | assumption | apply State.modCl_keeps | apply KeepsO.next | apply Keeps.ite | apply KeepsO.ite | apply Keeps.ite1)
    | dsimp only | (with_reducible apply Keeps.foldl; (try intro _ _ _); (try dsimp only))
    | (with_reducible apply Keeps.foldl1; (try intro _ _ _); (try dsimp only))
    | (with_reducible refine Keeps.fst (by assumption) ?_) | split)

theorem State.armStep_keeps {z : State} (s : State) (c : RingCmd) (launch : Nat) (hz : Keeps z s) : Keeps z
    (State.armStep s c launch) := by
  unfold State.armStep; (try dsimp only)
  repeat' (first
    | (with_reducible first | assumption | apply State.complete_keeps | apply State.markLost_keeps | apply State.mapHints_keeps | apply State.wakePart_keeps | apply State.actCmd_keeps | apply State.modJob_keeps | apply State.prepStep_keeps | apply KeepsO.next | apply Keeps.ite))

theorem State.latePrep_keeps {z : State} (s : State) (ring idx : Nat) (hz : Keeps z s) : Keeps z (State.latePrep s
    ring idx) := by
  unfold State.latePrep; (try dsimp only)
  repeat' (first
    | (with_reducible first | assumption | apply State.prepStep_keeps | apply KeepsO.next | apply Keeps.ite | apply KeepsO.ite | apply Keeps.ite1)
    | dsimp only | (with_reducible refine Keeps.fst (by assumption) ?_) | split)

theorem execJobArm_keeps {z : State} (ring idx : Nat) (s : State) (hz : Keeps z s) : KeepsO z (execJobArm ring idx
    s) := by
  unfold execJobArm
  repeat' (first
    | (with_reducible first | assumption | apply State.armStep_keeps | apply State.latePrep_keeps | apply KeepsO.next | apply Keeps.ite | apply KeepsO.ite | apply Keeps.ite1)
    | dsimp only | (with_reducible refine Keeps.fst (by assumption) ?_) | split)

theorem execJobStart_keeps {z : State} (ring idx : Nat) (s : State) (hz : Keeps z s) : KeepsO z (execJobStart ring
    idx s) := by
  unfold execJobStart
  repeat' (first
    | (with_reducible first | assumption | apply State.armStep_keeps | apply State.latePrep_keeps | apply KeepsO.next | apply Keeps.ite | apply KeepsO.ite | apply Keeps.ite1)
    | dsimp only | (with_reducible refine Keeps.fst (by assumption) ?_) | split)

theorem State.launchStep_keeps {z : State} (s : State) (p : Nat) (hz : Keeps z s) : Keeps z (State.launchStep s p)
    := by
  unfold State.launchStep; (try dsimp only)
  repeat' (first
    | (with_reducible first | assumption | apply State.clearPosts_keeps | apply State.odAdd_keeps | apply State.modBoth_keeps | apply State.modJob_keeps | apply State.mapHints_keeps | apply State.retryHost_keeps | apply State.logEv_keeps | apply KeepsO.next | apply Keeps.ite | apply KeepsO.ite | apply Keeps.ite1)
    | dsimp only | (with_reducible apply Keeps.foldl; (try intro _ _ _); (try dsimp only))
    | (with_reducible apply Keeps.foldl1; (try intro _ _ _); (try dsimp only))
    | (with_reducible refine Keeps.fst (by assumption) ?_) | split
    | (simp only [Keeps.mk_iff]; with_reducible apply Keeps.fold))

theorem State.partTo_keeps {z : State} (s : State) (p ns : Nat) (hz : Keeps z s) : Keeps z (State.partTo s p ns) := by
  unfold State.partTo; (try dsimp only)
  repeat' (first
    | (with_reducible first | assumption | apply State.runTo_keeps | apply KeepsO.next | apply Keeps.ite | apply KeepsO.ite | apply Keeps.ite1)
    | dsimp only | (with_reducible apply Keeps.foldl; (try intro _ _ _); (try dsimp only))
    | (with_reducible apply Keeps.foldl1; (try intro _ _ _); (try dsimp only))
    | (with_reducible refine Keeps.fst (by assumption) ?_) | split
    | (simp only [Keeps.mk_iff]; with_reducible apply Keeps.fold))

theorem execLaunch_keeps {z : State} (part : Nat) (s : State) (hz : Keeps z s) : KeepsO z (execLaunch part s) := by
  unfold execLaunch; (try dsimp only)
  repeat' (first
    | (with_reducible first | assumption | apply State.partTo_keeps | apply State.launchStep_keeps | apply KeepsO.next | apply Keeps.ite | apply KeepsO.ite))

theorem execStepEnd_keeps {z : State} (part : Nat) (s : State) (hz : Keeps z s) : KeepsO z (execStepEnd part s) := by
  unfold execStepEnd; (try dsimp only)
  repeat' (first
    | (with_reducible first | assumption | apply State.modJob_keeps | apply State.endArm_keeps | apply KeepsO.next | apply Keeps.ite | apply KeepsO.ite))

theorem execJobHalt_keeps {z : State} (ring idx : Nat) (s : State) (hz : Keeps z s) : KeepsO z (execJobHalt ring idx
    s) := by
  unfold execJobHalt
  repeat' (first
    | (with_reducible first | assumption | apply State.stepLost_keeps | apply State.complete_keeps | apply KeepsO.next | apply Keeps.ite | apply KeepsO.ite | apply Keeps.ite1)
    | dsimp only | (with_reducible refine Keeps.fst (by assumption) ?_) | split)

theorem execJobRelease_keeps {z : State} (ring idx : Nat) (s : State) (hz : Keeps z s) : KeepsO z (execJobRelease
    ring idx s) := by
  unfold execJobRelease; (try dsimp only)
  repeat' (first
    | (with_reducible first | assumption | apply State.useFree_keeps | apply State.updClear_keeps | apply State.modJob_keeps | apply State.complete_keeps | apply KeepsO.next | apply Keeps.ite | apply KeepsO.ite | apply Keeps.ite1)
    | dsimp only | (with_reducible refine Keeps.fst (by assumption) ?_) | split)

theorem State.askCopy_keeps {z : State} (s : State) (ring idx addr n : Nat) (hz : Keeps z s) : Keeps z
    (State.askCopy s ring idx addr n) := by
  unfold State.askCopy
  repeat' (first
    | (with_reducible first | assumption | apply State.hostRead_keeps | apply KeepsO.next | apply Keeps.ite | apply KeepsO.ite | apply Keeps.ite1)
    | dsimp only | (with_reducible apply Keeps.foldl; (try intro _ _ _); (try dsimp only)))

theorem execHostCopyToHbm_keeps {z : State} (ring idx : Nat) (write : Bool) (s : State) (hz : Keeps z s) : KeepsO z
    (execHostCopyToHbm ring idx write s) := by
  unfold execHostCopyToHbm; (try dsimp only)
  repeat' (first
    | (with_reducible first | assumption | apply State.askCopy_keeps | apply State.rangeWrite_keeps | apply State.complete_keeps | apply KeepsO.next | apply Keeps.ite | apply KeepsO.ite | apply Keeps.ite1)
    | dsimp only | (with_reducible refine Keeps.fst (by assumption) ?_) | split
    | (simp only [Keeps.mk_iff]; with_reducible apply Keeps.fold))

theorem execHostCopyFromHbm_keeps {z : State} (ring idx : Nat) (s : State) (hz : Keeps z s) : KeepsO z
    (execHostCopyFromHbm ring idx s) := by
  unfold execHostCopyFromHbm; (try dsimp only)
  repeat' (first
    | (with_reducible first | assumption | apply State.hostWrite_keeps | apply State.complete_keeps | apply KeepsO.next | apply Keeps.ite | apply KeepsO.ite | apply Keeps.ite1)
    | dsimp only | (with_reducible apply Keeps.foldl; (try intro _ _ _); (try dsimp only))
    | (with_reducible apply Keeps.foldl1; (try intro _ _ _); (try dsimp only))
    | (with_reducible refine Keeps.fst (by assumption) ?_) | split)

theorem execWindowOpen_keeps {z : State} (ring idx : Nat) (s : State) (hz : Keeps z s) : KeepsO z (execWindowOpen
    ring idx s) := by
  unfold execWindowOpen; (try dsimp only)
  repeat' (first
    | (with_reducible first | assumption | apply State.complete_keeps | apply State.setWindow_keeps | apply State.odSet_keeps | apply KeepsO.next | apply Keeps.ite | apply KeepsO.ite | apply Keeps.ite1)
    | dsimp only | (with_reducible refine Keeps.fst (by assumption) ?_) | split)

theorem execRemoteReferenceEnter_keeps {z : State} (ring idx : Nat) (s : State) (hz : Keeps z s) : KeepsO z
    (execRemoteReferenceEnter ring idx s) := by
  unfold execRemoteReferenceEnter; (try dsimp only)
  repeat' (first
    | (with_reducible first | assumption | apply State.complete_keeps | apply State.modPart_keeps | apply KeepsO.next | apply Keeps.ite | apply KeepsO.ite | apply Keeps.ite1)
    | dsimp only | (with_reducible refine Keeps.fst (by assumption) ?_) | split)

theorem execWindowClose_keeps {z : State} (ring idx : Nat) (s : State) (hz : Keeps z s) : KeepsO z (execWindowClose
    ring idx s) := by
  unfold execWindowClose; (try dsimp only)
  repeat' (first
    | (with_reducible first | assumption | apply State.complete_keeps | apply State.setWindow_keeps | apply State.actCmd_keeps | apply KeepsO.next | apply Keeps.ite | apply KeepsO.ite | apply Keeps.ite1)
    | dsimp only | (with_reducible refine Keeps.fst (by assumption) ?_) | split)

theorem execWindowCloseComplete_keeps {z : State} (handle : Nat) (s : State) (hz : Keeps z s) : KeepsO z
    (execWindowCloseComplete handle s) := by
  unfold execWindowCloseComplete; (try dsimp only)
  repeat' (first
    | (with_reducible first | assumption | apply State.setWindow_keeps | apply State.odSet_keeps | apply State.complete_keeps | apply KeepsO.next | apply Keeps.ite | apply KeepsO.ite | apply Keeps.ite1)
    | dsimp only | (with_reducible refine Keeps.fst (by assumption) ?_) | split)

theorem execRemoteReferenceClear_keeps {z : State} (ring idx : Nat) (s : State) (hz : Keeps z s) : KeepsO z
    (execRemoteReferenceClear ring idx s) := by
  unfold execRemoteReferenceClear; (try dsimp only)
  repeat' (first
    | (with_reducible first | assumption | apply State.modPart_keeps | apply State.complete_keeps | apply KeepsO.next | apply Keeps.ite | apply KeepsO.ite | apply Keeps.ite1)
    | dsimp only | (with_reducible refine Keeps.fst (by assumption) ?_) | split)

theorem execHintLoad_keeps {z : State} (ring idx : Nat) (s : State) (hz : Keeps z s) : KeepsO z (execHintLoad ring
    idx s) := by
  unfold execHintLoad
  repeat' (first
    | (with_reducible first | assumption | apply State.complete_keeps | apply KeepsO.next | apply Keeps.ite | apply KeepsO.ite | apply Keeps.ite1)
    | dsimp only | (with_reducible refine Keeps.fst (by assumption) ?_) | split
    | (simp only [Keeps.mk_iff]; with_reducible apply Keeps.fold))

theorem State.lend_keeps {z : State} (s : State) (p : Nat) (hz : Keeps z s) : Keeps z (State.lend s p) := by
  unfold State.lend; (try dsimp only)
  repeat' (first
    | (with_reducible first | assumption | apply State.modCl_keeps | apply KeepsO.next | apply Keeps.ite | apply KeepsO.ite | apply Keeps.ite1)
    | dsimp only | (with_reducible apply Keeps.foldl; (try intro _ _ _); (try dsimp only))
    | (with_reducible apply Keeps.foldl1; (try intro _ _ _); (try dsimp only))
    | (with_reducible refine Keeps.fst (by assumption) ?_) | split)

theorem execFarrierGrant_keeps {z : State} (ring idx : Nat) (s : State) (hz : Keeps z s) : KeepsO z
    (execFarrierGrant ring idx s) := by
  unfold execFarrierGrant; (try dsimp only)
  repeat' (first
    | (with_reducible first | assumption | apply State.actCmd_keeps | apply State.modPart_keeps | apply State.lend_keeps | apply KeepsO.next | apply Keeps.ite | apply KeepsO.ite | apply Keeps.ite1)
    | dsimp only | (with_reducible refine Keeps.fst (by assumption) ?_) | split)

theorem execFarrierGrantEnd_keeps {z : State} (part : Nat) (s : State) (hz : Keeps z s) : KeepsO z
    (execFarrierGrantEnd part s) := by
  unfold execFarrierGrantEnd; (try dsimp only)
  repeat' (first
    | (with_reducible first | assumption | apply State.abandonRun_keeps | apply State.wipeSite_keeps | apply State.modCl_keeps | apply State.modPart_keeps | apply State.complete_keeps | apply KeepsO.next | apply Keeps.ite | apply KeepsO.ite | apply Keeps.ite1)
    | dsimp only | (with_reducible apply Keeps.foldl; (try intro _ _ _); (try dsimp only))
    | (with_reducible apply Keeps.foldl1; (try intro _ _ _); (try dsimp only))
    | (with_reducible refine Keeps.fst (by assumption) ?_) | split)

theorem State.setHop_keeps {z : State} (s : State) (h : Hop) (hz : Keeps z s) : Keeps z (State.setHop s h) := by
  unfold State.setHop; (try dsimp only)
  repeat' (first
    | (with_reducible first | assumption | apply KeepsO.next | apply Keeps.ite | apply KeepsO.ite | apply Keeps.ite1)
    | dsimp only | (with_reducible refine Keeps.fst (by assumption) ?_) | split
    | (simp only [Keeps.mk_iff]; with_reducible apply Keeps.fold))

theorem State.dropReq_keeps {z : State} (s : State) (src : Nat) (num : BitVec 32) (hz : Keeps z s) : Keeps z
    (State.dropReq s src num) := by
  unfold State.dropReq; (try dsimp only)
  repeat' (first
    | (with_reducible first | assumption | apply KeepsO.next | apply Keeps.ite | apply KeepsO.ite | apply Keeps.ite1)
    | dsimp only | (with_reducible refine Keeps.fst (by assumption) ?_) | split
    | (simp only [Keeps.mk_iff]; with_reducible apply Keeps.fold))

theorem State.noteHead_keeps {z : State} (s : State) (r : Nat) (t : BitVec 64) (reqHi : BitVec 20) (readFlits : Nat)
    (hz : Keeps z s) : Keeps z (State.noteHead s r t reqHi readFlits) := by
  unfold State.noteHead; (try dsimp only)
  repeat' (first
    | (with_reducible first | assumption | apply State.modPortQ_keeps | apply KeepsO.next | apply Keeps.ite | apply KeepsO.ite | apply Keeps.ite1)
    | dsimp only | (with_reducible refine Keeps.fst (by assumption) ?_) | split
    | (simp only [Keeps.mk_iff]; with_reducible apply Keeps.fold))

theorem State.waitPort_keeps {z : State} (s : State) (site code : Nat) (tag : BitVec 64) (reqHi : BitVec 20) (hz :
    Keeps z s) : Keeps z (State.waitPort s site code tag reqHi) := by
  unfold State.waitPort; (try dsimp only)
  repeat' (first
    | (with_reducible first | assumption | apply State.servePort_keeps | apply KeepsO.next | apply Keeps.ite | apply KeepsO.ite | apply Keeps.ite1)
    | dsimp only | (with_reducible refine Keeps.fst (by assumption) ?_) | split
    | (simp only [Keeps.mk_iff]; with_reducible apply Keeps.fold))

theorem State.arrive_keeps {z : State} (s : State) (r : Nat) (t : BitVec 64) (reqHi : BitVec 20) (hz : Keeps z s) :
    Keeps z (State.arrive s r t reqHi) := by
  unfold State.arrive; (try dsimp only)
  repeat' (first
    | (with_reducible first | assumption | apply State.setHop_keeps | apply State.dropReq_keeps | apply State.modPortQ_keeps | apply State.waitPort_keeps | apply KeepsO.next | apply Keeps.ite))

theorem State.unreach_keeps {z : State} (s : State) (t : BitVec 64) (isRead : Bool) (hz : Keeps z s) : Keeps z
    (State.unreach s t isRead) := by
  unfold State.unreach
  repeat' (first
    | (with_reducible first | assumption | apply State.setHop_keeps | apply State.odAdd_keeps | apply KeepsO.next | apply Keeps.ite))

theorem State.route_keeps {z : State} (s : State) (r : Nat) (t : BitVec 64) (reqHi : BitVec 20) (isRead : Bool) (hz
    : Keeps z s) : Keeps z (State.route s r t reqHi isRead) := by
  unfold State.route; (try dsimp only)
  repeat' (first
    | (with_reducible first | assumption | apply State.arrive_keeps | apply State.unreach_keeps | apply State.sendOut_keeps | apply State.setHop_keeps | apply KeepsO.next | apply Keeps.ite))

theorem execRouterHeadArrival_keeps {z : State} (site : SiteId) (h : Head) (readFlits : Nat) (s : State) (hz : Keeps
    z s) : KeepsO z (execRouterHeadArrival site h readFlits s) := by
  unfold execRouterHeadArrival; (try dsimp only)
  repeat' (first
    | (with_reducible first | assumption | apply State.odAdd_keeps | apply State.setHop_keeps | apply State.noteHead_keeps | apply State.route_keeps | apply KeepsO.next | apply Keeps.ite | apply KeepsO.ite))

theorem execEscapeMove_keeps {z : State} (site : SiteId) (h : Head) (s : State) (hz : Keeps z s) : KeepsO z
    (execEscapeMove site h s) := by
  unfold execEscapeMove; (try dsimp only)
  repeat' (first
    | (with_reducible first | assumption | apply State.odAdd_keeps | apply State.servePort_keeps | apply State.setHop_keeps | apply State.sendOut_keeps | apply KeepsO.next | apply Keeps.ite | apply KeepsO.ite | apply Keeps.ite1)
    | dsimp only | (with_reducible refine Keeps.fst (by assumption) ?_) | split
    | (simp only [Keeps.mk_iff]; with_reducible apply Keeps.fold))

theorem State.fenceSide_keeps {z : State} (s : State) (bay side link : Nat) (v : Bool) (hz : Keeps z s) : Keeps z
    (State.fenceSide s bay side link v) := by
  unfold State.fenceSide; (try dsimp only)
  repeat' (first
    | (with_reducible first | assumption | apply State.modBay_keeps | apply State.odPutBit_keeps))

theorem State.fenceCross_keeps {z : State} (s : State) (bay side link : Nat) (v : Bool) (hz : Keeps z s) : Keeps z
    (State.fenceCross s bay side link v) := by
  unfold State.fenceCross
  repeat' (first
    | (with_reducible first | assumption | apply State.fenceSide_keeps | apply KeepsO.next | apply Keeps.ite | apply KeepsO.ite | apply Keeps.ite1)
    | dsimp only | (with_reducible refine Keeps.fst (by assumption) ?_) | split)

theorem State.crossFail_keeps {z : State} (s : State) (bay side link : Nat) (hz : Keeps z s) : Keeps z
    (State.crossFail s bay side link) := by
  unfold State.crossFail; (try dsimp only)
  repeat' (first
    | (with_reducible first | assumption | apply State.fenceCross_keeps | apply State.flushCross_keeps | apply State.logEv_keeps | apply State.studFail_keeps | apply KeepsO.next | apply Keeps.ite | apply KeepsO.ite | apply Keeps.ite1)
    | dsimp only | (with_reducible refine Keeps.fst (by assumption) ?_) | split
    | (simp only [Keeps.mk_iff]; with_reducible apply Keeps.fold))

theorem execCrossingFlitReceive_keeps {z : State} (bay side link : Nat) (f : CrossFlit) (s : State) (hz : Keeps z s)
    : KeepsO z (execCrossingFlitReceive bay side link f s) := by
  unfold execCrossingFlitReceive; (try dsimp only)
  repeat' (first
    | (with_reducible first | assumption | apply State.modCrossQ_keeps | apply State.serveCross_keeps | apply State.odAdd_keeps | apply State.crossFail_keeps | apply KeepsO.next | apply Keeps.ite | apply KeepsO.ite | apply Keeps.ite1)
    | dsimp only | (with_reducible refine Keeps.fst (by assumption) ?_) | split)

theorem State.tryJoin_keeps {z : State} (s : State) (x : Nat × Nat × Nat) (bad : List WireFail) (hz : Keeps z s) :
    Keeps z (State.tryJoin s x bad) := by
  unfold State.tryJoin; (try dsimp only)
  repeat' (first
    | (with_reducible first | assumption | apply State.setWires_keeps | apply KeepsO.next | apply Keeps.ite | apply KeepsO.ite | apply Keeps.ite1)
    | dsimp only | (with_reducible refine Keeps.fst (by assumption) ?_) | split
    | (simp only [Keeps.mk_iff]; with_reducible apply Keeps.fold))

theorem execCrossingRejoin_keeps {z : State} (bay side link : Nat) (bad : List WireFail) (s : State) (hz : Keeps z
    s) : KeepsO z (execCrossingRejoin bay side link bad s) := by
  unfold execCrossingRejoin
  repeat' (first
    | (with_reducible first | assumption | apply State.tryJoin_keeps | apply KeepsO.next | apply Keeps.ite | apply KeepsO.ite))

theorem State.joinAll_keeps {z : State} (s : State) (hz : Keeps z s) : Keeps z (State.joinAll s) := by
  unfold State.joinAll; (try dsimp only)
  repeat' (first
    | (with_reducible first | assumption | apply State.fenceCross_keeps | apply State.studReturn_keeps | apply KeepsO.next | apply Keeps.ite | apply KeepsO.ite | apply Keeps.ite1)
    | dsimp only | (with_reducible apply Keeps.foldl; (try intro _ _ _); (try dsimp only))
    | (with_reducible apply Keeps.foldl1; (try intro _ _ _); (try dsimp only))
    | (with_reducible refine Keeps.fst (by assumption) ?_) | split
    | (simp only [Keeps.mk_iff]; with_reducible apply Keeps.fold))

theorem State.rerouteWaits_keeps {z : State} (s : State) (hz : Keeps z s) : Keeps z (State.rerouteWaits s) := by
  unfold State.rerouteWaits; (try dsimp only)
  repeat' (first
    | (with_reducible first | assumption | apply State.route_keeps | apply KeepsO.next | apply Keeps.ite | apply KeepsO.ite | apply Keeps.ite1)
    | dsimp only | (with_reducible apply Keeps.foldl; (try intro _ _ _); (try dsimp only))
    | (with_reducible apply Keeps.foldl1; (try intro _ _ _); (try dsimp only))
    | (with_reducible refine Keeps.fst (by assumption) ?_) | split
    | (simp only [Keeps.mk_iff]; with_reducible apply Keeps.fold))

theorem execRouteTableSwitch_keeps {z : State} (s : State) (hz : Keeps z s) : KeepsO z (execRouteTableSwitch s) := by
  unfold execRouteTableSwitch; (try dsimp only)
  repeat' (first
    | (with_reducible first | assumption | apply State.joinAll_keeps | apply State.odSet_keeps | apply State.logEv_keeps | apply State.rerouteWaits_keeps | apply KeepsO.next | apply Keeps.ite | apply KeepsO.ite | apply Keeps.ite1)
    | dsimp only | (with_reducible apply Keeps.foldl; (try intro _ _ _); (try dsimp only))
    | (with_reducible apply Keeps.foldl1; (try intro _ _ _); (try dsimp only))
    | (with_reducible refine Keeps.fst (by assumption) ?_) | split
    | (simp only [Keeps.mk_iff]; with_reducible apply Keeps.fold))

theorem State.backFrom_keeps {z : State} (s : State) (un : UnitId) (hz : Keeps z s) : Keeps z (State.backFrom s un)
    := by
  unfold State.backFrom
  repeat' (first
    | (with_reducible first | assumption | apply State.studReturn_keeps | apply KeepsO.next | apply Keeps.ite))

theorem State.stacksBack_keeps {z : State} (s : State) (bay : Nat) (hz : Keeps z s) : Keeps z (State.stacksBack s
    bay) := by
  unfold State.stacksBack; (try dsimp only)
  repeat' (first
    | (with_reducible first | assumption | apply State.backFrom_keeps | apply State.odPutBit_keeps | apply KeepsO.next | apply Keeps.ite | apply KeepsO.ite | apply Keeps.ite1)
    | dsimp only | (with_reducible apply Keeps.foldl; (try intro _ _ _); (try dsimp only)))

theorem State.holdCross_keeps {z : State} (s : State) (x : Nat × Nat × Nat) (hz : Keeps z s) : Keeps z
    (State.holdCross s x) := by
  unfold State.holdCross
  repeat' (first
    | (with_reducible first | assumption | apply State.fenceCross_keeps | apply State.flushCross_keeps | apply State.logEv_keeps))

theorem State.testAisle_keeps {z : State} (s : State) (bay : Nat) (bad : List WireFail) (hz : Keeps z s) : Keeps z
    (State.testAisle s bay bad) := by
  unfold State.testAisle; (try dsimp only)
  repeat' (first
    | (with_reducible first | assumption | apply State.tryJoin_keeps | apply State.holdCross_keeps | apply State.setWires_keeps | apply State.crossFail_keeps | apply KeepsO.next | apply Keeps.ite | apply KeepsO.ite | apply Keeps.ite1)
    | dsimp only | (with_reducible apply Keeps.foldl; (try intro _ _ _); (try dsimp only)))

theorem execAisleRejoin_keeps {z : State} (bay : Nat) (find : RejoinFind) (s : State) (hz : Keeps z s) : KeepsO z
    (execAisleRejoin bay find s) := by
  unfold execAisleRejoin; (try dsimp only)
  repeat' (first
    | (with_reducible first | assumption | apply State.modBay_keeps | apply State.modGroom_keeps | apply State.odPutBit_keeps | apply State.testAisle_keeps | apply State.stacksBack_keeps | apply State.backFrom_keeps | apply State.upcRefresh_keeps | apply KeepsO.next | apply Keeps.ite | apply KeepsO.ite))

theorem execRouterFault_keeps {z : State} (site : SiteId) (s : State) (hz : Keeps z s) : KeepsO z (execRouterFault
    site s) := by
  unfold execRouterFault; (try dsimp only)
  repeat' (first
    | (with_reducible first | assumption | apply State.modCl_keeps | apply State.odPutBit_keeps | apply State.logEv_keeps | apply State.studFail_keeps | apply State.fenceOff_keeps | apply KeepsO.next | apply Keeps.ite | apply KeepsO.ite | apply Keeps.ite1)
    | dsimp only | (with_reducible refine Keeps.fst (by assumption) ?_) | split
    | (simp only [Keeps.mk_iff]; with_reducible apply Keeps.fold))

theorem execClusterPortRequest_keeps {z : State} (site : SiteId) (r : PortReq) (s : State) (hz : Keeps z s) : KeepsO
    z (execClusterPortRequest site r s) := by
  unfold execClusterPortRequest; (try dsimp only)
  repeat' (first
    | (with_reducible first | assumption | apply State.odAdd_keeps | apply State.keepReq_keeps | apply State.waitPort_keeps | apply State.retryReq_keeps | apply State.wakePort_keeps | apply State.portDrop_keeps | apply KeepsO.next | apply Keeps.ite | apply KeepsO.ite | apply Keeps.ite1)
    | dsimp only | (with_reducible refine Keeps.fst (by assumption) ?_) | split)

theorem execRetryResend_keeps {z : State} (r : ReqName) (s : State) (hz : Keeps z s) : KeepsO z (execRetryResend r
    s) := by
  unfold execRetryResend
  repeat' (first
    | (with_reducible first | assumption | apply State.modReq_keeps | apply KeepsO.next))

theorem execMeshRequestTimeout_keeps {z : State} (r : ReqName) (s : State) (hz : Keeps z s) : KeepsO z
    (execMeshRequestTimeout r s) := by
  unfold execMeshRequestTimeout; (try dsimp only)
  repeat' (first
    | (with_reducible first | assumption | apply State.modReq_keeps | apply State.odAdd_keeps | apply State.dropReq_keeps | apply State.logEv_keeps | apply State.stepLost_keeps | apply KeepsO.next | apply Keeps.ite | apply KeepsO.ite | apply Keeps.ite1)
    | dsimp only | (with_reducible refine Keeps.fst (by assumption) ?_) | split)

theorem State.lockRef_keeps {z : State} (s : State) (hz : Keeps z s) : Keeps z (State.lockRef s) := by
  unfold State.lockRef; (try dsimp only)
  repeat' (first
    | (with_reducible first | assumption | apply KeepsO.next | apply Keeps.ite | apply KeepsO.ite | apply Keeps.ite1)
    | dsimp only | (with_reducible refine Keeps.fst (by assumption) ?_) | split
    | (simp only [Keeps.mk_iff]; with_reducible apply Keeps.fold))

theorem State.refUpdate_keeps {z : State} (s : State) (hz : Keeps z s) : Keeps z (State.refUpdate s) := by
  unfold State.refUpdate; (try dsimp only)
  repeat' (first
    | (with_reducible first | assumption | apply State.lockRef_keeps | apply State.logEv_keeps | apply KeepsO.next | apply Keeps.ite | apply KeepsO.ite | apply Keeps.ite1)
    | dsimp only | (with_reducible refine Keeps.fst (by assumption) ?_) | split
    | (simp only [Keeps.mk_iff]; with_reducible apply Keeps.fold))

theorem execReferenceLost_keeps {z : State} (isB : Bool) (s : State) (hz : Keeps z s) : KeepsO z (execReferenceLost
    isB s) := by
  unfold execReferenceLost; (try dsimp only)
  repeat' (first
    | (with_reducible first | assumption | apply State.refUpdate_keeps | apply KeepsO.next | apply Keeps.ite | apply KeepsO.ite | apply Keeps.ite1)
    | dsimp only | (with_reducible refine Keeps.fst (by assumption) ?_) | split
    | (simp only [Keeps.mk_iff]; with_reducible apply Keeps.fold))

theorem execReferenceGood_keeps {z : State} (isB : Bool) (s : State) (hz : Keeps z s) : KeepsO z (execReferenceGood
    isB s) := by
  unfold execReferenceGood; (try dsimp only)
  repeat' (first
    | (with_reducible first | assumption | apply State.refUpdate_keeps | apply KeepsO.next | apply Keeps.ite | apply KeepsO.ite | apply Keeps.ite1)
    | dsimp only | (with_reducible refine Keeps.fst (by assumption) ?_) | split
    | (simp only [Keeps.mk_iff]; with_reducible apply Keeps.fold))

theorem State.refSelWrite_keeps {z : State} (s : State) (v : Nat) (hz : Keeps z s) : Keeps z (State.refSelWrite s
    v).1 := by
  unfold State.refSelWrite
  repeat' (first
    | (with_reducible first | assumption | apply State.odSet_keeps | apply State.refUpdate_keeps | apply KeepsO.next | apply Keeps.ite | apply KeepsO.ite | apply Keeps.ite1))

theorem execRefclkSelectWrite_keeps {z : State} (route : Nat) (v : BitVec 8) (s : State) (hz : Keeps z s) : KeepsO z
    (execRefclkSelectWrite route v s) := by
  unfold execRefclkSelectWrite
  repeat' (first
    | (with_reducible first | assumption | apply State.keyWrite_keeps | apply State.route_keeps | apply State.refSelWrite_keeps | apply KeepsO.next | apply Keeps.ite | apply KeepsO.ite | apply Keeps.ite1)
    | dsimp only | (with_reducible refine Keeps.fst (by assumption) ?_) | split
    | (with_reducible intro _; intros; (try dsimp only)))

theorem State.spreadWrite_keeps {z : State} (s : State) (v : Nat) (hz : Keeps z s) : Keeps z (State.spreadWrite s
    v).1 := by
  unfold State.spreadWrite; (try dsimp only)
  repeat' (first
    | (with_reducible first | assumption | apply State.odSet_keeps | apply KeepsO.next | apply Keeps.ite | apply KeepsO.ite | apply Keeps.ite1)
    | dsimp only | (with_reducible refine Keeps.fst (by assumption) ?_) | split
    | (simp only [Keeps.mk_iff]; with_reducible apply Keeps.fold))

theorem execBeatSpreadWrite_keeps {z : State} (route : Nat) (v : BitVec 8) (s : State) (hz : Keeps z s) : KeepsO z
    (execBeatSpreadWrite route v s) := by
  unfold execBeatSpreadWrite
  repeat' (first
    | (with_reducible first | assumption | apply State.keyWrite_keeps | apply State.route_keeps | apply State.spreadWrite_keeps | apply KeepsO.next | apply Keeps.ite | apply KeepsO.ite | apply Keeps.ite1)
    | dsimp only | (with_reducible refine Keeps.fst (by assumption) ?_) | split
    | (with_reducible intro _; intros; (try dsimp only)))

theorem State.nodeLost_keeps {z : State} (s : State) (n : Nat) (hz : Keeps z s) : Keeps z (State.nodeLost s n) := by
  unfold State.nodeLost; (try dsimp only)
  repeat' (first
    | (with_reducible first | assumption | apply State.odPutBit_keeps | apply State.logEv_keeps | apply State.odSet_keeps | apply KeepsO.next | apply Keeps.ite))

theorem execBeatNodeLost_keeps {z : State} (node : Nat) (s : State) (hz : Keeps z s) : KeepsO z (execBeatNodeLost
    node s) := by
  unfold execBeatNodeLost
  repeat' (first
    | (with_reducible first | assumption | apply State.nodeLost_keeps | apply State.studFail_keeps | apply KeepsO.next | apply Keeps.ite))

theorem execClusterClockFault_keeps {z : State} (site : SiteId) (s : State) (hz : Keeps z s) : KeepsO z
    (execClusterClockFault site s) := by
  unfold execClusterClockFault; (try dsimp only)
  repeat' (first
    | (with_reducible first | assumption | apply State.logEv_keeps | apply State.studFail_keeps | apply State.fenceOff_keeps | apply KeepsO.next | apply Keeps.ite | apply KeepsO.ite))

theorem State.askPoint_keeps {z : State} (s : State) (site : SiteId) (hz : Keeps z s) : Keeps z (State.askPoint s
    site) := by
  unfold State.askPoint; (try dsimp only)
  repeat' (first
    | (with_reducible first | assumption | apply State.modCl_keeps | apply State.railRefresh_keeps | apply KeepsO.next | apply Keeps.ite | apply KeepsO.ite | apply Keeps.ite1)
    | dsimp only | (with_reducible refine Keeps.fst (by assumption) ?_) | split)

theorem State.startChange_keeps {z : State} (s : State) (site : SiteId) (hz : Keeps z s) : Keeps z
    (State.startChange s site) := by
  unfold State.startChange; (try dsimp only)
  repeat' (first
    | (with_reducible first | assumption | apply State.lastCycles_keeps | apply State.modCl_keeps | apply State.railRefresh_keeps | apply KeepsO.next | apply Keeps.ite))

theorem execOpPointChange_keeps {z : State} (site : SiteId) (s : State) (hz : Keeps z s) : KeepsO z
    (execOpPointChange site s) := by
  unfold execOpPointChange
  repeat' (first
    | (with_reducible first | assumption | apply State.startChange_keeps | apply KeepsO.next))

theorem State.land_keeps {z : State} (s : State) (a : Arrival) (hz : Keeps z s) : Keeps z (State.land s a) := by
  unfold State.land
  repeat' (first
    | (with_reducible first | assumption | apply State.incFlag_keeps | apply State.mailIn_keeps | apply State.copyGo_keeps | apply State.addNow_keeps | apply State.winArrive_keeps | apply State.overlayIn_keeps | apply KeepsO.next | apply Keeps.ite | apply KeepsO.ite | apply Keeps.ite1)
    | dsimp only | (with_reducible refine Keeps.fst (by assumption) ?_) | split)

theorem State.landAll_keeps {z : State} (s : State) (site : SiteId) (hz : Keeps z s) : Keeps z (State.landAll s
    site) := by
  unfold State.landAll; (try dsimp only)
  repeat' (first
    | (with_reducible first | assumption | apply State.land_keeps | apply KeepsO.next | apply Keeps.ite | apply KeepsO.ite | apply Keeps.ite1)
    | dsimp only | (with_reducible apply Keeps.foldl; (try intro _ _ _); (try dsimp only))
    | (with_reducible apply Keeps.foldl1; (try intro _ _ _); (try dsimp only))
    | (with_reducible refine Keeps.fst (by assumption) ?_) | split
    | (simp only [Keeps.mk_iff]; with_reducible apply Keeps.fold))

theorem execOpPointChangeComplete_keeps {z : State} (site : SiteId) (s : State) (hz : Keeps z s) : KeepsO z
    (execOpPointChangeComplete site s) := by
  unfold execOpPointChangeComplete; (try dsimp only)
  repeat' (first
    | (with_reducible first | assumption | apply State.lastCycles_keeps | apply State.modCl_keeps | apply State.odAdd_keeps | apply State.railRefresh_keeps | apply State.landAll_keeps | apply State.startChange_keeps | apply KeepsO.next | apply Keeps.ite | apply KeepsO.ite | apply Keeps.ite1)
    | dsimp only | (with_reducible refine Keeps.fst (by assumption) ?_) | split)

theorem execStretchRaise_keeps {z : State} (site : SiteId) (level : Nat) (s : State) (hz : Keeps z s) : KeepsO z
    (execStretchRaise site level s) := by
  unfold execStretchRaise
  repeat' (first
    | (with_reducible first | assumption | apply State.runFree_keeps | apply State.modCl_keeps | apply KeepsO.next | apply Keeps.ite))

theorem execStretchFall_keeps {z : State} (site : SiteId) (s : State) (hz : Keeps z s) : KeepsO z (execStretchFall
    site s) := by
  unfold execStretchFall
  have h := State.runLevel_keeps s site hz
  generalize State.runLevel s site = t at h ⊢
  obtain ⟨t, b⟩ := t
  exact KeepsO.next (Keeps.ite (Keeps.ite (State.modCl_keeps _ _ _ h) hz) hz)

theorem execStretchPersistent_keeps {z : State} (site : SiteId) (s : State) (hz : Keeps z s) : KeepsO z
    (execStretchPersistent site s) := by
  unfold execStretchPersistent; (try dsimp only)
  repeat' (first
    | (with_reducible first | assumption | apply State.logEv_keeps | apply State.modCl_keeps | apply State.askPoint_keeps | apply KeepsO.next | apply Keeps.ite | apply KeepsO.ite))

theorem execPersistentStretchLapse_keeps {z : State} (site : SiteId) (s : State) (hz : Keeps z s) : KeepsO z
    (execPersistentStretchLapse site s) := by
  unfold execPersistentStretchLapse
  repeat' (first
    | (with_reducible first | assumption | apply State.modCl_keeps | apply State.askPoint_keeps | apply KeepsO.next | apply Keeps.ite | apply KeepsO.ite | apply Keeps.ite1)
    | dsimp only | (with_reducible refine Keeps.fst (by assumption) ?_) | split)

theorem State.readMinV_keeps {z : State} (s : State) (key keyDt : Nat) (hz : Keeps z s) : Keeps z (State.readMinV s
    key keyDt) := by
  unfold State.readMinV; (try dsimp only)
  repeat' (first
    | (with_reducible first | assumption | apply State.useFree_keeps | apply State.odSet_keeps | apply KeepsO.next | apply Keeps.ite))

theorem State.bayMinV_keeps {z : State} (s : State) (b : Nat) (hz : Keeps z s) : Keeps z (State.bayMinV s b) := by
  unfold State.bayMinV
  repeat' (first
    | (with_reducible first | assumption | apply State.readMinV_keeps | apply KeepsO.next | apply Keeps.ite))

theorem State.toWord_keeps {z : State} (s : State) (ns : Nat) (site : SiteId) (hz : Keeps z s) : Keeps z
    (State.toWord s ns site) := by
  unfold State.toWord
  repeat' (first
    | (with_reducible first | assumption | apply State.runSite_keeps | apply State.modCl_keeps))

theorem State.wordAt_keeps {z : State} (s : State) (word : Option Nat) (site : SiteId) (hz : Keeps z s) : Keeps z
    (State.wordAt s word site) := by
  unfold State.wordAt; (try dsimp only)
  repeat' (first
    | (with_reducible first | assumption | apply State.modCl_keeps | apply State.readMinV_keeps | apply State.setCl_keeps | apply State.logEv_keeps | apply KeepsO.next | apply Keeps.ite | apply KeepsO.ite | apply Keeps.ite1)
    | dsimp only | (with_reducible refine Keeps.fst (by assumption) ?_) | split)

theorem State.drainPort_keeps {z : State} (s : State) (site : SiteId) (hz : Keeps z s) : Keeps z (State.drainPort s
    site) := by
  unfold State.drainPort
  repeat' (first
    | (with_reducible first | assumption | apply State.modPortQ_keeps | apply State.servePort_keeps | apply KeepsO.next | apply Keeps.ite))

theorem State.markIdle_keeps {z : State} (s : State) (site : SiteId) (hz : Keeps z s) : Keeps z (State.markIdle s
    site) := by
  unfold State.markIdle
  repeat' (first
    | (with_reducible first | assumption | apply State.modCl_keeps | apply KeepsO.next | apply Keeps.ite))

theorem State.takeOffset_keeps {z : State} (s : State) (o : Int) (hz : Keeps z s) : Keeps z (State.takeOffset s o)
    := by
  unfold State.takeOffset; (try dsimp only)
  repeat' (first
    | (with_reducible first | assumption | apply State.odSet_keeps | apply State.logEv_keeps | apply KeepsO.next | apply Keeps.ite | apply KeepsO.ite | apply Keeps.ite1)
    | dsimp only | (with_reducible refine Keeps.fst (by assumption) ?_) | split
    | (simp only [Keeps.mk_iff]; with_reducible apply Keeps.fold))

theorem State.slewMaster_keeps {z : State} (s : State) (hz : Keeps z s) : Keeps z (State.slewMaster s) := by
  unfold State.slewMaster
  repeat' (first
    | (with_reducible first | assumption | apply State.useFree_keeps | apply State.takeOffset_keeps | apply KeepsO.next | apply Keeps.ite))

theorem execTimeWord_keeps {z : State} (flips : BitVec 96) (s : State) (hz : Keeps z s) : KeepsO z (execTimeWord
    flips s) := by
  unfold execTimeWord; (try dsimp only)
  repeat' (first
    | (with_reducible first | assumption | apply State.toWord_keeps | apply State.slewMaster_keeps | apply State.odSet_keeps | apply State.odAdd_keeps | apply State.wordAt_keeps | apply State.markIdle_keeps | apply State.drainPort_keeps | apply State.bayMinV_keeps | apply State.railsAll_keeps | apply State.intr_keeps | apply State.pumpHost_keeps | apply KeepsO.next | apply Keeps.ite | apply KeepsO.ite | apply Keeps.ite1)
    | dsimp only | (with_reducible apply Keeps.foldl; (try intro _ _ _); (try dsimp only))
    | (with_reducible apply Keeps.foldl1; (try intro _ _ _); (try dsimp only))
    | (with_reducible refine Keeps.fst (by assumption) ?_) | split
    | (simp only [Keeps.mk_iff]; with_reducible apply Keeps.fold))

theorem State.toFabricTime_keeps {z : State} (s : State) (hz : Keeps z s) : Keeps z (State.toFabricTime s) := by
  unfold State.toFabricTime; (try dsimp only)
  repeat' (first
    | (with_reducible first | assumption | apply State.takeOffset_keeps | apply KeepsO.next | apply Keeps.ite | apply KeepsO.ite | apply Keeps.ite1)
    | dsimp only | (with_reducible refine Keeps.fst (by assumption) ?_) | split
    | (simp only [Keeps.mk_iff]; with_reducible apply Keeps.fold))

theorem State.dtStepWrite_keeps {z : State} (s : State) (v : Nat) (hz : Keeps z s) : Keeps z (State.dtStepWrite s
    v).1 := by
  unfold State.dtStepWrite
  repeat' (first
    | (with_reducible first | assumption | apply State.odSet_keeps | apply KeepsO.next | apply Keeps.ite | apply KeepsO.ite | apply Keeps.ite1))

theorem execDtStepReq_keeps {z : State} (route : Nat) (v : BitVec 8) (s : State) (hz : Keeps z s) : KeepsO z
    (execDtStepReq route v s) := by
  unfold execDtStepReq
  repeat' (first
    | (with_reducible first | assumption | apply State.keyWrite_keeps | apply State.route_keeps | apply State.dtStepWrite_keeps | apply KeepsO.next | apply Keeps.ite | apply KeepsO.ite | apply Keeps.ite1)
    | dsimp only | (with_reducible refine Keeps.fst (by assumption) ?_) | split
    | (with_reducible intro _; intros; (try dsimp only)))

theorem execDtMasterStep_keeps {z : State} (s : State) (hz : Keeps z s) : KeepsO z (execDtMasterStep s) := by
  unfold execDtMasterStep; (try dsimp only)
  repeat' (first
    | (with_reducible first | assumption | apply State.toFabricTime_keeps | apply State.odSet_keeps | apply State.logEv_keeps | apply KeepsO.next | apply Keeps.ite | apply KeepsO.ite))

theorem execFabricTimeSilence_keeps {z : State} (s : State) (hz : Keeps z s) : KeepsO z (execFabricTimeSilence s) :=
    by
  unfold execFabricTimeSilence; (try dsimp only)
  repeat' (first
    | (with_reducible first | assumption | apply State.odSet_keeps | apply KeepsO.next | apply Keeps.ite | apply KeepsO.ite | apply Keeps.ite1)
    | dsimp only | (with_reducible refine Keeps.fst (by assumption) ?_) | split
    | (simp only [Keeps.mk_iff]; with_reducible apply Keeps.fold))

theorem State.pmbRead_keeps {z : State} (s : State) (key : Nat) (answered : Bool) (hz : Keeps z s) : Keeps z
    (State.pmbRead s key answered) := by
  unfold State.pmbRead; (try dsimp only)
  repeat' (first
    | (with_reducible first | assumption | apply KeepsO.next | apply Keeps.ite | apply KeepsO.ite | apply Keeps.ite1)
    | dsimp only | (with_reducible refine Keeps.fst (by assumption) ?_) | split
    | (simp only [Keeps.mk_iff]; with_reducible apply Keeps.fold))

theorem State.pollConverter_keeps {z : State} (s : State) (k : Nat) (status : Option Bool) (hz : Keeps z s) : Keeps
    z (State.pollConverter s k status) := by
  unfold State.pollConverter; (try dsimp only)
  repeat' (first
    | (with_reducible first | assumption | apply State.pmbRead_keeps | apply State.logEv_keeps | apply KeepsO.next | apply Keeps.ite))

theorem execAisleConverterPoll_keeps {z : State} (status0 status1 : Option Bool) (s : State) (hz : Keeps z s) :
    KeepsO z (execAisleConverterPoll status0 status1 s) := by
  unfold execAisleConverterPoll
  repeat' (first
    | (with_reducible first | assumption | apply State.pollConverter_keeps | apply KeepsO.next | apply Keeps.ite))

theorem execLdoSliceFailed_keeps {z : State} (site : SiteId) (slice : Nat) (s : State) (hz : Keeps z s) : KeepsO z
    (execLdoSliceFailed site slice s) := by
  unfold execLdoSliceFailed; (try dsimp only)
  repeat' (first
    | (with_reducible first | assumption | apply State.odPutBit_keeps | apply State.logEv_keeps | apply State.studHard_keeps | apply State.studFail_keeps | apply State.fenceOff_keeps | apply State.abandonRun_keeps | apply State.switchOff_keeps | apply State.askPoint_keeps | apply KeepsO.next | apply Keeps.ite | apply KeepsO.ite))

theorem execClusterPark_keeps {z : State} (site : SiteId) (s : State) (hz : Keeps z s) : KeepsO z (execClusterPark
    site s) := by
  unfold execClusterPark; (try dsimp only)
  repeat' (first
    | (with_reducible first | assumption | apply State.lastCycles_keeps | apply State.modCl_keeps | apply State.portTurn_keeps | apply State.railRefresh_keeps | apply KeepsO.next | apply Keeps.ite | apply KeepsO.ite))

theorem State.startRun_keeps {z : State} (s : State) (site : SiteId) (hz : Keeps z s) : Keeps z (State.startRun s
    site) := by
  unfold State.startRun
  repeat' (first
    | (with_reducible first | assumption | apply State.fetchRun_keeps | apply KeepsO.next | apply Keeps.ite | apply KeepsO.ite | apply Keeps.ite1)
    | dsimp only | (with_reducible refine Keeps.fst (by assumption) ?_) | split)

theorem State.openPort_keeps {z : State} (s : State) (site : SiteId) (hz : Keeps z s) : Keeps z (State.openPort s
    site) := by
  unfold State.openPort; (try dsimp only)
  repeat' (first
    | (with_reducible first | assumption | apply State.portTurn_keeps | apply State.landAll_keeps | apply KeepsO.next | apply Keeps.ite))

theorem execClusterWake_keeps {z : State} (site : SiteId) (s : State) (hz : Keeps z s) : KeepsO z (execClusterWake
    site s) := by
  unfold execClusterWake; (try dsimp only)
  repeat' (first
    | (with_reducible first | assumption | apply State.runTo_keeps | apply State.modCl_keeps | apply State.railRefresh_keeps | apply State.openPort_keeps | apply State.startRun_keeps | apply KeepsO.next | apply Keeps.ite | apply KeepsO.ite))

theorem execPowerOnStage_keeps {z : State} (bay : Nat) (meanCurrent : Nat) (s : State) (hz : Keeps z s) : KeepsO z
    (execPowerOnStage bay meanCurrent s) := by
  unfold execPowerOnStage; (try dsimp only)
  repeat' (first
    | (with_reducible first | assumption | apply State.modBay_keeps | apply KeepsO.next | apply Keeps.ite | apply KeepsO.ite | apply Keeps.ite1)
    | dsimp only | (with_reducible refine Keeps.fst (by assumption) ?_) | split)

theorem execInrushSlowMode_keeps {z : State} (bay : Nat) (currents : List (SiteId × Nat)) (s : State) (hz : Keeps z
    s) : KeepsO z (execInrushSlowMode bay currents s) := by
  unfold execInrushSlowMode; (try dsimp only)
  repeat' (first
    | (with_reducible first | assumption | apply State.modCl_keeps | apply State.askPoint_keeps | apply State.modBay_keeps | apply State.odAdd_keeps | apply State.logEv_keeps | apply KeepsO.next | apply Keeps.ite | apply KeepsO.ite | apply Keeps.ite1)
    | dsimp only | (with_reducible apply Keeps.foldl; (try intro _ _ _); (try dsimp only))
    | (with_reducible apply Keeps.foldl1; (try intro _ _ _); (try dsimp only))
    | (with_reducible refine Keeps.fst (by assumption) ?_) | split)

theorem execInrushAssistEnd_keeps {z : State} (bay : Nat) (s : State) (hz : Keeps z s) : KeepsO z
    (execInrushAssistEnd bay s) := by
  unfold execInrushAssistEnd; (try dsimp only)
  repeat' (first
    | (with_reducible first | assumption | apply State.modCl_keeps | apply State.askPoint_keeps | apply State.modBay_keeps | apply KeepsO.next | apply Keeps.ite | apply KeepsO.ite | apply Keeps.ite1)
    | dsimp only | (with_reducible apply Keeps.foldl; (try intro _ _ _); (try dsimp only)))

theorem execHintDeferralEnd_keeps {z : State} (bay : Nat) (s : State) (hz : Keeps z s) : KeepsO z
    (execHintDeferralEnd bay s) := by
  unfold execHintDeferralEnd
  repeat' (first
    | (with_reducible first | assumption | apply State.modBay_keeps | apply KeepsO.next | apply Keeps.ite | apply KeepsO.ite | apply Keeps.ite1)
    | dsimp only | (with_reducible refine Keeps.fst (by assumption) ?_) | split)

theorem State.powerUp_keeps {z : State} (s : State) (site : SiteId) (hz : Keeps z s) : Keeps z (State.powerUp s
    site) := by
  unfold State.powerUp; (try dsimp only)
  repeat' (first
    | (with_reducible first | assumption | apply State.runTo_keeps | apply State.clearSite_keeps | apply State.modCl_keeps | apply State.railRefresh_keeps | apply State.openPort_keeps))

theorem execPowerOnComplete_keeps {z : State} (site : SiteId) (s : State) (hz : Keeps z s) : KeepsO z
    (execPowerOnComplete site s) := by
  unfold execPowerOnComplete; (try dsimp only)
  repeat' (first
    | (with_reducible first | assumption | apply State.modBay_keeps | apply State.powerUp_keeps | apply State.startRun_keeps | apply State.bootSite_keeps | apply KeepsO.next | apply Keeps.ite | apply KeepsO.ite | apply Keeps.ite1)
    | dsimp only | (with_reducible refine Keeps.fst (by assumption) ?_) | split)

theorem State.bayMean_keeps {z : State} (s : State) (bay mean1us : Nat) (hz : Keeps z s) : Keeps z (State.bayMean s
    bay mean1us) := by
  unfold State.bayMean; (try dsimp only)
  repeat' (first
    | (with_reducible first | assumption | apply State.modBay_keeps | apply State.odSet_keeps))

theorem execFastLoopSample_keeps {z : State} (bay mean1us energy10ms : Nat) (ask : FastAsk) (s : State) (hz : Keeps
    z s) : KeepsO z (execFastLoopSample bay mean1us energy10ms ask s) := by
  unfold execFastLoopSample; (try dsimp only)
  repeat' (first
    | (with_reducible first | assumption | apply State.bayMean_keeps | apply State.modBay_keeps | apply State.modCl_keeps | apply State.askPoint_keeps | apply State.odAdd_keeps | apply State.logEv_keeps | apply KeepsO.next | apply Keeps.ite | apply KeepsO.ite | apply Keeps.ite1)
    | dsimp only | (with_reducible apply Keeps.foldl; (try intro _ _ _); (try dsimp only)))

theorem State.charge_keeps {z : State} (s : State) (p dyn : Nat) (hz : Keeps z s) : Keeps z (State.charge s p dyn).1
    := by
  unfold State.charge; (try dsimp only)
  repeat' (first
    | (with_reducible first | assumption | apply State.useFree_keeps | apply State.modJob_keeps | apply KeepsO.next | apply Keeps.ite | apply KeepsO.ite | apply Keeps.ite1))

theorem execHintWindowStart_keeps {z : State} (i : Nat) (s : State) (hz : Keeps z s) : KeepsO z (execHintWindowStart
    i s) := by
  unfold execHintWindowStart
  repeat' (first
    | (with_reducible first | assumption | apply State.railsAll_keeps | apply KeepsO.next | apply Keeps.ite | apply KeepsO.ite | apply Keeps.ite1)
    | dsimp only | (with_reducible refine Keeps.fst (by assumption) ?_) | split
    | (simp only [Keeps.mk_iff]; with_reducible apply Keeps.fold))

theorem execHintWindowEnd_keeps {z : State} (i : Nat) (s : State) (hz : Keeps z s) : KeepsO z (execHintWindowEnd i
    s) := by
  unfold execHintWindowEnd
  repeat' (first
    | (with_reducible first | assumption | apply State.railsAll_keeps | apply KeepsO.next | apply Keeps.ite | apply KeepsO.ite | apply Keeps.ite1)
    | dsimp only | (with_reducible refine Keeps.fst (by assumption) ?_) | split
    | (simp only [Keeps.mk_iff]; with_reducible apply Keeps.fold))

theorem State.loseBay_keeps {z : State} (s : State) (b reason : Nat) (hz : Keeps z s) : Keeps z (State.loseBay s b
    reason) := by
  unfold State.loseBay
  repeat' (first
    | (with_reducible first | assumption | apply State.stepLost_keeps | apply KeepsO.next | apply Keeps.ite | apply KeepsO.ite | apply Keeps.ite1)
    | dsimp only | (with_reducible apply Keeps.foldl; (try intro _ _ _); (try dsimp only)))

theorem State.fenceBay_keeps {z : State} (s : State) (b : Nat) (hz : Keeps z s) : Keeps z (State.fenceBay s b) := by
  unfold State.fenceBay; (try dsimp only)
  repeat' (first
    | (with_reducible first | assumption | apply State.fenceSite_keeps | apply State.switchOff_keeps | apply State.studExternal_keeps | apply State.modBay_keeps | apply KeepsO.next | apply Keeps.ite | apply KeepsO.ite | apply Keeps.ite1)
    | dsimp only | (with_reducible apply Keeps.foldl; (try intro _ _ _); (try dsimp only)))

theorem State.railLoss_keeps {z : State} (s : State) (bay : Nat) (hz : Keeps z s) : Keeps z (State.railLoss s bay)
    := by
  unfold State.railLoss; (try dsimp only)
  repeat' (first
    | (with_reducible first | assumption | apply State.modBay_keeps | apply State.odPutBit_keeps | apply State.loseBay_keeps | apply State.fenceBay_keeps | apply State.logEv_keeps | apply KeepsO.next | apply Keeps.ite))

theorem execBayRailLost_keeps {z : State} (bay : Nat) (s : State) (hz : Keeps z s) : KeepsO z (execBayRailLost bay
    s) := by
  unfold execBayRailLost
  repeat' (first
    | (with_reducible first | assumption | apply State.railLoss_keeps | apply KeepsO.next))

theorem State.reenable_keeps {z : State} (s : State) (mask steady : Nat) (hz : Keeps z s) : Keeps z (State.reenable
    s mask steady).1 := by
  unfold State.reenable; (try dsimp only)
  repeat' (first
    | (with_reducible first | assumption | apply State.modBay_keeps | apply State.odPutBit_keeps | apply State.logEv_keeps | apply KeepsO.next | apply Keeps.ite | apply KeepsO.ite | apply Keeps.ite1)
    | dsimp only | (with_reducible apply Keeps.foldl; (try intro _ _ _); (try dsimp only)))

theorem State.freeReenable_keeps {z : State} (s : State) (mask : Nat) (hz : Keeps z s) : Keeps z (State.freeReenable
    s mask).1 := by
  unfold State.freeReenable
  repeat' (first
    | (with_reducible first | assumption | apply State.useFree_keeps | apply State.reenable_keeps))

theorem execBayReenable_keeps {z : State} (route : Nat) (r : RailMask) (s : State) (hz : Keeps z s) : KeepsO z
    (execBayReenable route r s) := by
  unfold execBayReenable
  repeat' (first
    | (with_reducible first | assumption | apply State.keyWrite_keeps | apply State.route_keeps | apply State.reenable_keeps | apply KeepsO.next | apply Keeps.ite | apply KeepsO.ite | apply Keeps.ite1)
    | dsimp only | (with_reducible refine Keeps.fst (by assumption) ?_) | split
    | (with_reducible intro _; intros; (try dsimp only)))

theorem State.readDevices_keeps {z : State} (s : State) (silent : List (Nat × Nat)) (hz : Keeps z s) : Keeps z
    (State.readDevices s silent) := by
  unfold State.readDevices; (try dsimp only)
  repeat' (first
    | (with_reducible first | assumption | apply State.pmbRead_keeps | apply State.railLoss_keeps | apply KeepsO.next | apply Keeps.ite | apply KeepsO.ite | apply Keeps.ite1)
    | dsimp only | (with_reducible apply Keeps.foldl; (try intro _ _ _); (try dsimp only)))

theorem State.energyLoop_keeps {z : State} (s : State) (modulePower : Nat) (acts : List (Nat × Activity)) (rest :
    Activity) (hz : Keeps z s) : Keeps z (State.energyLoop s modulePower acts rest) := by
  unfold State.energyLoop; (try dsimp only)
  repeat' (first
    | (with_reducible first | assumption | apply State.charge_keeps | apply State.useFree_keeps | apply State.odAdd_keeps | apply State.odSet_keeps | apply KeepsO.next | apply Keeps.ite | apply KeepsO.ite | apply Keeps.ite1)
    | dsimp only | (with_reducible apply Keeps.foldl; (try intro _ _ _); (try dsimp only))
    | (with_reducible apply Keeps.foldl1; (try intro _ _ _); (try dsimp only))
    | (with_reducible refine Keeps.fst (by assumption) ?_) | split
    | (simp only [Keeps.mk_iff]; with_reducible apply Keeps.fold)
    | (simp only [Keeps.mk_iff]; with_reducible refine KeepsC.maps ?_ ?_ ?_ ?_ ?_ ?_ ?_ ?_ ?_ ?_ ?_ ?_ ?_ ?_ ?_ <;> intros)
    | (with_reducible first | apply mset_wf | apply mclearRange_wf | apply mwf_nil | apply filter_wf | apply Memory.wf_msetRange | apply Memory.wf_clear | apply Memory.wf_nil | apply Memory.marksWf_mset | apply Memory.marksWf_clear | apply Memory.marksWf_nil | apply Memory.marksWf_ite | apply markPoison_wf | apply markOvf_wf)
    | (with_reducible apply Memory.marksWf_foldl; intro _ _ _) | (with_reducible apply foldl_wf; intro _ _ _))

theorem execSlowLoop_keeps {z : State} (poll : PmbPoll) (shares : List (Nat × Nat)) (limits : List Nat) (modulePower
    : Nat) (acts : List (Nat × Activity)) (rest : Activity) (s : State) (hz : Keeps z s) : KeepsO z (execSlowLoop
    poll shares limits modulePower acts rest s) := by
  unfold execSlowLoop; (try dsimp only)
  repeat' (first
    | (with_reducible first | assumption | apply State.readDevices_keeps | apply State.odSet_keeps | apply State.energyLoop_keeps | apply KeepsO.next | apply Keeps.ite | apply KeepsO.ite | apply Keeps.ite1)
    | dsimp only | (with_reducible apply Keeps.foldl; (try intro _ _ _); (try dsimp only)))

theorem State.loseStack_keeps {z : State} (s : State) (k : Nat) (hz : Keeps z s) : Keeps z (State.loseStack s k) := by
  unfold State.loseStack; (try dsimp only)
  repeat' (first
    | (with_reducible first | assumption | apply State.odPutBit_keeps | apply State.odSet_keeps | apply State.logMany_keeps | apply State.studExternal_keeps | apply State.commitStackLost_keeps | apply State.stepLost_keeps | apply State.logEv_keeps | apply KeepsO.next | apply Keeps.ite | apply KeepsO.ite | apply Keeps.ite1)
    | dsimp only | (with_reducible apply Keeps.foldl; (try intro _ _ _); (try dsimp only)))

theorem State.nodeUnfed_keeps {z : State} (s : State) (n : Nat) (hz : Keeps z s) : Keeps z (State.nodeUnfed s n) := by
  unfold State.nodeUnfed
  repeat' (first
    | (with_reducible first | assumption | apply State.modGroom_keeps | apply State.nodeLost_keeps | apply State.studExternal_keeps | apply State.refUpdate_keeps))

theorem execAisleFeedLost_keeps {z : State} (bay : Nat) (s : State) (hz : Keeps z s) : KeepsO z (execAisleFeedLost
    bay s) := by
  unfold execAisleFeedLost; (try dsimp only)
  repeat' (first
    | (with_reducible first | assumption | apply State.modBay_keeps | apply State.severAisle_keeps | apply State.odPutBit_keeps | apply State.loseBay_keeps | apply State.fenceBay_keeps | apply State.logEv_keeps | apply State.nodeUnfed_keeps | apply State.loseStack_keeps | apply State.upcStops_keeps | apply State.studExternal_keeps | apply State.abandonUpcs_keeps | apply State.upcRefresh_keeps | apply State.checkFloors_keeps | apply KeepsO.next | apply Keeps.ite | apply KeepsO.ite | apply Keeps.ite1)
    | dsimp only | (with_reducible apply Keeps.foldl; (try intro _ _ _); (try dsimp only)))

theorem State.allOff_keeps {z : State} (s : State) (hz : Keeps z s) : Keeps z (State.allOff s) := by
  unfold State.allOff; (try dsimp only)
  repeat' (first
    | (with_reducible first | assumption | apply State.abandonRun_keeps | apply State.switchOff_keeps | apply KeepsO.next | apply Keeps.ite | apply KeepsO.ite | apply Keeps.ite1)
    | dsimp only | (with_reducible apply Keeps.foldl; (try intro _ _ _); (try dsimp only))
    | (with_reducible refine Keeps.fst (by assumption) ?_)
    | (simp only [Keeps.mk_iff]; with_reducible apply Keeps.fold))

theorem State.trip_keeps {z : State} (s : State) (hz : Keeps z s) : Keeps z (State.trip s) := by
  unfold State.trip; (try dsimp only)
  repeat' (first
    | (with_reducible first | assumption | apply State.odSet_keeps | apply State.logEv_keeps | apply State.stepLost_keeps | apply State.allOff_keeps | apply KeepsO.next | apply Keeps.ite | apply KeepsO.ite | apply Keeps.ite1)
    | dsimp only | (with_reducible apply Keeps.foldl; (try intro _ _ _); (try dsimp only))
    | (with_reducible apply Keeps.foldl1; (try intro _ _ _); (try dsimp only))
    | (with_reducible refine Keeps.fst (by assumption) ?_) | split
    | (simp only [Keeps.mk_iff]; with_reducible apply Keeps.fold))

theorem State.bayHeat_keeps {z : State} (s : State) (b : Nat) (hz : Keeps z s) : Keeps z (State.bayHeat s b) := by
  unfold State.bayHeat; (try dsimp only)
  repeat' (first
    | (with_reducible first | assumption | apply State.modBay_keeps | apply State.logEv_keeps | apply State.loseBay_keeps | apply State.fenceBay_keeps | apply State.modCl_keeps | apply KeepsO.next | apply Keeps.ite | apply KeepsO.ite | apply Keeps.ite1)
    | dsimp only | (with_reducible apply Keeps.foldl; (try intro _ _ _); (try dsimp only)))

theorem State.pauseSite_keeps {z : State} (s : State) (site : SiteId) (hz : Keeps z s) : Keeps z (State.pauseSite s
    site) := by
  unfold State.pauseSite; (try dsimp only)
  repeat' (first
    | (with_reducible first | assumption | apply State.modCl_keeps | apply State.odAdd_keeps | apply State.lastCycles_keeps | apply State.portTurn_keeps | apply State.railRefresh_keeps | apply KeepsO.next | apply Keeps.ite | apply KeepsO.ite | apply Keeps.ite1)
    | dsimp only | (with_reducible refine Keeps.fst (by assumption) ?_) | split)

theorem State.resumeSite_keeps {z : State} (s : State) (site : SiteId) (since : Nat) (hz : Keeps z s) : Keeps z
    (State.resumeSite s site since) := by
  unfold State.resumeSite; (try dsimp only)
  repeat' (first
    | (with_reducible first | assumption | apply State.runTo_keeps | apply State.modCl_keeps | apply State.logEv_keeps | apply State.railRefresh_keeps | apply State.openPort_keeps))

theorem State.heatDown_keeps {z : State} (s : State) (site : SiteId) (hz : Keeps z s) : Keeps z (State.heatDown s
    site) := by
  unfold State.heatDown; (try dsimp only)
  repeat' (first
    | (with_reducible first | assumption | apply State.odAdd_keeps | apply State.logEv_keeps | apply State.modCl_keeps | apply State.askPoint_keeps | apply KeepsO.next | apply Keeps.ite))

theorem State.heatSite_keeps {z : State} (s : State) (site : SiteId) (c : Int) (hz : Keeps z s) : Keeps z
    (State.heatSite s site c) := by
  unfold State.heatSite; (try dsimp only)
  repeat' (first
    | (with_reducible first | assumption | apply State.modCl_keeps | apply State.resumeSite_keeps | apply State.pauseSite_keeps | apply State.heatDown_keeps | apply KeepsO.next | apply Keeps.ite | apply KeepsO.ite | apply Keeps.ite1)
    | dsimp only | (with_reducible refine Keeps.fst (by assumption) ?_) | split)

theorem State.bayCool_keeps {z : State} (s : State) (b sensor : Nat) (c : Int) (hz : Keeps z s) : Keeps z
    (State.bayCool s b sensor c) := by
  unfold State.bayCool; (try dsimp only)
  repeat' (first
    | (with_reducible first | assumption | apply State.modBay_keeps | apply KeepsO.next | apply Keeps.ite))

theorem State.bayTemp_keeps {z : State} (s : State) (b sensor : Nat) (c : Int) (hz : Keeps z s) : Keeps z
    (State.bayTemp s b sensor c) := by
  unfold State.bayTemp; (try dsimp only)
  repeat' (first
    | (with_reducible first | assumption | apply State.bayCool_keeps | apply State.modCl_keeps | apply State.bayHeat_keeps | apply State.heatSite_keeps | apply KeepsO.next | apply Keeps.ite))

theorem execThermalSample_keeps {z : State} (kind : Sensor) (unit : Nat) (celsius : Int) (s : State) (hz : Keeps z
    s) : KeepsO z (execThermalSample kind unit celsius s) := by
  unfold execThermalSample; (try dsimp only)
  repeat' (first
    | (with_reducible first | assumption | apply State.trip_keeps | apply State.odSet_keeps | apply State.bayTemp_keeps | apply KeepsO.next | apply Keeps.ite | apply KeepsO.ite | apply Keeps.ite1)
    | dsimp only | (with_reducible refine Keeps.fst (by assumption) ?_) | split
    | (simp only [Keeps.mk_iff]; with_reducible apply Keeps.fold))

theorem execThermalStepUp_keeps {z : State} (site : SiteId) (s : State) (hz : Keeps z s) : KeepsO z
    (execThermalStepUp site s) := by
  unfold execThermalStepUp; (try dsimp only)
  repeat' (first
    | (with_reducible first | assumption | apply State.modCl_keeps | apply State.askPoint_keeps | apply KeepsO.next | apply Keeps.ite | apply KeepsO.ite))

theorem execThermalSwitchOff_keeps {z : State} (site : SiteId) (s : State) (hz : Keeps z s) : KeepsO z
    (execThermalSwitchOff site s) := by
  unfold execThermalSwitchOff; (try dsimp only)
  repeat' (first
    | (with_reducible first | assumption | apply State.odAdd_keeps | apply State.logEv_keeps | apply State.fenceOff_keeps | apply State.studExternal_keeps | apply State.modCl_keeps | apply KeepsO.next | apply Keeps.ite | apply KeepsO.ite | apply Keeps.ite1)
    | dsimp only | (with_reducible refine Keeps.fst (by assumption) ?_) | split)

theorem execHbmTemperatureRead_keeps {z : State} (stack : Nat) (celsius : Int) (s : State) (hz : Keeps z s) : KeepsO
    z (execHbmTemperatureRead stack celsius s) := by
  unfold execHbmTemperatureRead; (try dsimp only)
  repeat' (first
    | (with_reducible first | assumption | apply State.odSet_keeps | apply State.logEv_keeps | apply State.trip_keeps | apply KeepsO.next | apply Keeps.ite | apply KeepsO.ite | apply Keeps.ite1)
    | dsimp only | (with_reducible refine Keeps.fst (by assumption) ?_) | split
    | (simp only [Keeps.mk_iff]; with_reducible apply Keeps.fold))

theorem State.minVWrite_keeps {z : State} (s : State) (k kDt : Nat) (hz : Keeps z s) : Keeps z (State.minVWrite s k
    kDt).1 := by
  unfold State.minVWrite; (try dsimp only)
  repeat' (first
    | (with_reducible first | assumption | apply State.odSet_keeps))

theorem execMinVReset_keeps {z : State} (route index sub : Nat) (s : State) (hz : Keeps z s) : KeepsO z
    (execMinVReset route index sub s) := by
  unfold execMinVReset
  repeat' (first
    | (with_reducible first | assumption | apply State.keyWrite_keeps | apply State.route_keeps | apply State.minVWrite_keeps | apply KeepsO.next | apply Keeps.ite | apply KeepsO.ite | apply Keeps.ite1)
    | dsimp only | (with_reducible refine Keeps.fst (by assumption) ?_) | split
    | (with_reducible intro _; intros; (try dsimp only)))

end Sys2Proof.Machine
end

