-- ==== Sys2Proof/Laws/KeepsHost.lean ====
section
/-! SUPPORT. The operations and meanings of the links, start-up, the firmware, closed access, the dictionary, the sidebands and the pins keep the queue and the canonical
form of every map. -/

set_option maxRecDepth 8000

namespace Sys2Proof.Machine

open Sys2Proof

theorem State.hostSide_keeps {z : State} (s : State) (hz : Keeps z s) : Keeps z (State.hostSide s) := by
  unfold State.hostSide
  repeat' (first
    | (with_reducible first | assumption | apply KeepsO.next | apply Keeps.ite | apply KeepsO.ite | apply Keeps.ite1)
    | dsimp only | (with_reducible refine Keeps.fst (by assumption) ?_) | split
    | (simp only [Keeps.mk_iff]; with_reducible apply Keeps.fold))

theorem State.linkDown_keeps {z : State} (s : State) (k st : Nat) (hz : Keeps z s) : Keeps z (State.linkDown s k st)
    := by
  unfold State.linkDown; (try dsimp only)
  repeat' (first
    | (with_reducible first | assumption | apply State.modLink_keeps | apply State.odSet_keeps | apply State.logEv_keeps | apply State.hostSide_keeps | apply KeepsO.next | apply Keeps.ite))

theorem State.studLane_keeps {z : State} (s : State) (k lane source : Nat) (hz : Keeps z s) : Keeps z
    (State.studLane s k lane source) := by
  unfold State.studLane; (try dsimp only)
  repeat' (first
    | (with_reducible first | assumption | apply State.studPut_keeps | apply KeepsO.next | apply Keeps.ite))

theorem State.laneFell_keeps {z : State} (s : State) (k lane source : Nat) (hz : Keeps z s) : Keeps z
    (State.laneFell s k lane source) := by
  unfold State.laneFell; (try dsimp only)
  repeat' (first
    | (with_reducible first | assumption | apply State.modLink_keeps | apply State.studLane_keeps))

theorem State.linkTrained_keeps {z : State} (s : State) (k : Nat) (good : Nat) (peer : Nat) (hz : Keeps z s) : Keeps
    z (State.linkTrained s k good peer) := by
  unfold State.linkTrained; (try dsimp only)
  repeat' (first
    | (with_reducible first | assumption | apply State.studReturn_keeps | apply State.laneFell_keeps | apply State.modLink_keeps | apply State.odSet_keeps | apply State.logEv_keeps | apply State.hostSide_keeps | apply State.flushLink_keeps | apply KeepsO.next | apply Keeps.ite | apply KeepsO.ite | apply Keeps.ite1)
    | dsimp only | (with_reducible apply Keeps.foldl; (try intro _ _ _); (try dsimp only)))

theorem execPortTrainingAttempt_keeps {z : State} (link : Nat) (ok : Bool) (good : BitVec 8) (peer : BitVec 16) (s :
    State) (hz : Keeps z s) : KeepsO z (execPortTrainingAttempt link ok good peer s) := by
  unfold execPortTrainingAttempt; (try dsimp only)
  repeat' (first
    | (with_reducible first | assumption | apply State.linkTrained_keeps | apply State.odSet_keeps | apply KeepsO.next | apply Keeps.ite | apply KeepsO.ite))

theorem State.sayReplay_keeps {z : State} (s : State) (k : Nat) (hz : Keeps z s) : Keeps z (State.sayReplay s k) := by
  unfold State.sayReplay; (try dsimp only)
  repeat' (first
    | (with_reducible first | assumption | apply State.linkOut_keeps))

theorem execPortRetrainComplete_keeps {z : State} (link : Nat) (ok : Bool) (s : State) (hz : Keeps z s) : KeepsO z
    (execPortRetrainComplete link ok s) := by
  unfold execPortRetrainComplete; (try dsimp only)
  repeat' (first
    | (with_reducible first | assumption | apply State.modLink_keeps | apply State.replay_keeps | apply State.odSet_keeps | apply State.hostSide_keeps | apply State.sayReplay_keeps | apply State.linkDown_keeps | apply KeepsO.next | apply Keeps.ite | apply KeepsO.ite))

theorem State.rejectFlit_keeps {z : State} (s : State) (k : Nat) (hz : Keeps z s) : Keeps z (State.rejectFlit s k)
    := by
  unfold State.rejectFlit; (try dsimp only)
  repeat' (first
    | (with_reducible first | assumption | apply State.modLink_keeps | apply State.say_keeps | apply KeepsO.next | apply Keeps.ite))

theorem State.packetIn_keeps {z : State} (s : State) (k : Nat) (f : Flit) (l : List Byte) (hz : Keeps z s) : Keeps z
    (State.packetIn s k f l) := by
  unfold State.packetIn
  repeat' (first
    | (with_reducible first | assumption | apply State.odAdd_keeps | apply KeepsO.next | apply Keeps.ite | apply KeepsO.ite | apply Keeps.ite1)
    | dsimp only | (with_reducible refine Keeps.fst (by assumption) ?_) | split
    | (simp only [Keeps.mk_iff]; with_reducible apply Keeps.fold))

theorem State.acceptFlit_keeps {z : State} (s : State) (k : Nat) (f : Flit) (hz : Keeps z s) : Keeps z
    (State.acceptFlit s k f) := by
  unfold State.acceptFlit; (try dsimp only)
  repeat' (first
    | (with_reducible first | assumption | apply State.modLink_keeps | apply State.packetIn_keeps | apply KeepsO.next | apply Keeps.ite | apply KeepsO.ite | apply Keeps.ite1)
    | dsimp only | (with_reducible refine Keeps.fst (by assumption) ?_) | split)

theorem State.takeFlit_keeps {z : State} (s : State) (k : Nat) (f : Flit) (hz : Keeps z s) : Keeps z (State.takeFlit
    s k f) := by
  unfold State.takeFlit; (try dsimp only)
  repeat' (first
    | (with_reducible first | assumption | apply State.rejectFlit_keeps | apply State.modLink_keeps | apply State.acceptFlit_keeps | apply State.say_keeps | apply KeepsO.next | apply Keeps.ite))

theorem State.laneSymbols_keeps {z : State} (s : State) (k : Nat) (symbols : List Nat) (hz : Keeps z s) : Keeps z
    (State.laneSymbols s k symbols) := by
  unfold State.laneSymbols; (try dsimp only)
  repeat' (first
    | (with_reducible first | assumption | apply State.modLink_keeps))

theorem State.laneSwap_keeps {z : State} (s : State) (k : Nat) (pair : BitVec 16) (hz : Keeps z s) : Keeps z
    (State.laneSwap s k pair) := by
  unfold State.laneSwap
  repeat' (first
    | (with_reducible first | assumption | apply State.modLink_keeps | apply State.odSet_keeps | apply KeepsO.next | apply Keeps.ite | apply KeepsO.ite | apply Keeps.ite1)
    | dsimp only | (with_reducible refine Keeps.fst (by assumption) ?_) | split)

theorem execFecPairReceive_keeps {z : State} (link : Nat) (find : FecFind) (uncorrectable : Nat) (flits : List
    (BitVec 2048)) (s : State) (hz : Keeps z s) : KeepsO z (execFecPairReceive link find uncorrectable flits s) :=
    by
  unfold execFecPairReceive; (try dsimp only)
  repeat' (first
    | (with_reducible first | assumption | apply State.odAdd_keeps | apply State.laneSymbols_keeps | apply State.rejectFlit_keeps | apply State.takeFlit_keeps | apply State.laneSwap_keeps | apply State.flushLink_keeps | apply State.pumpHost_keeps | apply KeepsO.next | apply Keeps.ite | apply KeepsO.ite | apply Keeps.ite1)
    | dsimp only | (with_reducible apply Keeps.foldl; (try intro _ _ _); (try dsimp only)))

theorem State.replay_keeps {z : State} (s : State) (k : Nat) (hz : Keeps z s) : Keeps z (State.replay s k) := by
  unfold State.replay; (try dsimp only)
  repeat' (first
    | (with_reducible first | assumption | apply State.modLink_keeps | apply State.odAdd_keeps | apply State.sayReplay_keeps | apply KeepsO.next | apply Keeps.ite))

theorem execLinkNakReplay_keeps {z : State} (link : Nat) (s : State) (hz : Keeps z s) : KeepsO z (execLinkNakReplay
    link s) := by
  unfold execLinkNakReplay; (try dsimp only)
  repeat' (first
    | (with_reducible first | assumption | apply State.replay_keeps | apply State.modLink_keeps | apply State.odSet_keeps | apply State.logEv_keeps | apply State.hostSide_keeps | apply KeepsO.next | apply Keeps.ite | apply KeepsO.ite))

theorem State.nameSwap_keeps {z : State} (s : State) (k : Nat) (hz : Keeps z s) : Keeps z (State.nameSwap s k) := by
  unfold State.nameSwap; (try dsimp only)
  repeat' (first
    | (with_reducible first | assumption | apply State.useFree_keeps | apply State.modLink_keeps | apply State.say_keeps))

theorem execLaneBad_keeps {z : State} (link lane : Nat) (signal : Bool) (s : State) (hz : Keeps z s) : KeepsO z
    (execLaneBad link lane signal s) := by
  unfold execLaneBad; (try dsimp only)
  repeat' (first
    | (with_reducible first | assumption | apply State.odPutBit_keeps | apply State.laneFell_keeps | apply State.logEv_keeps | apply State.odSet_keeps | apply State.linkDown_keeps | apply State.modLink_keeps | apply State.replay_keeps | apply State.nameSwap_keeps | apply KeepsO.next | apply Keeps.ite | apply KeepsO.ite))

theorem execLaneRetest_keeps {z : State} (link lane errors : Nat) (s : State) (hz : Keeps z s) : KeepsO z
    (execLaneRetest link lane errors s) := by
  unfold execLaneRetest; (try dsimp only)
  repeat' (first
    | (with_reducible first | assumption | apply State.studReturn_keeps | apply State.odPutBit_keeps | apply State.nameSwap_keeps | apply State.logEv_keeps | apply KeepsO.next | apply Keeps.ite | apply KeepsO.ite))

theorem State.portCtrl_keeps {z : State} (s : State) (k v : Nat) (hz : Keeps z s) : Keeps z (State.portCtrl s k v).1
    := by
  unfold State.portCtrl; (try dsimp only)
  repeat' (first
    | (with_reducible first | assumption | apply State.modLink_keeps | apply State.odSet_keeps | apply State.linkDown_keeps | apply KeepsO.next | apply Keeps.ite | apply KeepsO.ite | apply Keeps.ite1))

theorem execPortEnable_keeps {z : State} (route link : Nat) (s : State) (hz : Keeps z s) : KeepsO z (execPortEnable
    route link s) := by
  unfold execPortEnable
  repeat' (first
    | (with_reducible first | assumption | apply State.keyWrite_keeps | apply State.route_keeps | apply State.portCtrl_keeps | apply KeepsO.next | apply Keeps.ite | apply KeepsO.ite | apply Keeps.ite1)
    | dsimp only | (with_reducible refine Keeps.fst (by assumption) ?_) | split
    | (with_reducible intro _; intros; (try dsimp only)))

theorem execPortDisable_keeps {z : State} (route link : Nat) (s : State) (hz : Keeps z s) : KeepsO z
    (execPortDisable route link s) := by
  unfold execPortDisable
  repeat' (first
    | (with_reducible first | assumption | apply State.keyWrite_keeps | apply State.route_keeps | apply State.portCtrl_keeps | apply KeepsO.next | apply Keeps.ite | apply KeepsO.ite | apply Keeps.ite1)
    | dsimp only | (with_reducible refine Keeps.fst (by assumption) ?_) | split
    | (with_reducible intro _; intros; (try dsimp only)))

theorem execPortRetrain_keeps {z : State} (route link : Nat) (s : State) (hz : Keeps z s) : KeepsO z
    (execPortRetrain route link s) := by
  unfold execPortRetrain
  repeat' (first
    | (with_reducible first | assumption | apply State.keyWrite_keeps | apply State.route_keeps | apply State.portCtrl_keeps | apply KeepsO.next | apply Keeps.ite | apply KeepsO.ite | apply Keeps.ite1)
    | dsimp only | (with_reducible refine Keeps.fst (by assumption) ?_) | split
    | (with_reducible intro _; intros; (try dsimp only)))

theorem execRoutedPacketArrival_keeps {z : State} (link : Nat) (dst : BitVec 16) (typ hops ageUs : Nat) (dl : Bool)
    (body : PktBody) (s : State) (hz : Keeps z s) : KeepsO z (execRoutedPacketArrival link dst typ hops ageUs dl
    body s) := by
  unfold execRoutedPacketArrival; (try dsimp only)
  repeat' (first
    | (with_reducible first | assumption | apply State.odAdd_keeps | apply State.relay_keeps | apply KeepsO.next | apply Keeps.ite | apply KeepsO.ite | apply Keeps.ite1)
    | dsimp only | (with_reducible refine Keeps.fst (by assumption) ?_) | split)

theorem execLinkWaitDiscard_keeps {z : State} (link : Nat) (s : State) (hz : Keeps z s) : KeepsO z
    (execLinkWaitDiscard link s) := by
  unfold execLinkWaitDiscard
  repeat' (first
    | (with_reducible first | assumption | apply State.modLink_keeps | apply State.odAdd_keeps | apply KeepsO.next | apply Keeps.ite | apply KeepsO.ite | apply Keeps.ite1)
    | dsimp only | (with_reducible refine Keeps.fst (by assumption) ?_) | split)

theorem State.followMaster_keeps {z : State} (s : State) (m : TimeMsg) (hz : Keeps z s) : Keeps z
    (State.followMaster s m) := by
  unfold State.followMaster; (try dsimp only)
  repeat' (first
    | (with_reducible first | assumption | apply State.masterId_keeps | apply State.odSet_keeps | apply State.logEv_keeps | apply KeepsO.next | apply Keeps.ite))

theorem State.askId_keeps {z : State} (s : State) (k : Nat) (hz : Keeps z s) : Keeps z (State.askId s k) := by
  unfold State.askId; (try dsimp only)
  repeat' (first
    | (with_reducible first | assumption | apply State.sendFrom_keeps | apply KeepsO.next | apply Keeps.ite | apply KeepsO.ite | apply Keeps.ite1)
    | dsimp only | (with_reducible refine Keeps.fst (by assumption) ?_) | split
    | (simp only [Keeps.mk_iff]; with_reducible apply Keeps.fold))

theorem execTimeAnn_keeps {z : State} (link : Nat) (m : TimeMsg) (s : State) (hz : Keeps z s) : KeepsO z
    (execTimeAnn link m s) := by
  unfold execTimeAnn; (try dsimp only)
  repeat' (first
    | (with_reducible first | assumption | apply State.modLink_keeps | apply State.askId_keeps | apply State.followMaster_keeps | apply State.toFabricTime_keeps | apply State.logEv_keeps | apply State.takeOffset_keeps | apply KeepsO.next | apply Keeps.ite | apply KeepsO.ite | apply Keeps.ite1)
    | dsimp only | (with_reducible refine Keeps.fst (by assumption) ?_) | split
    | (simp only [Keeps.mk_iff]; with_reducible apply Keeps.fold))

theorem execTimeAnnSend_keeps {z : State} (link : Nat) (s : State) (hz : Keeps z s) : KeepsO z (execTimeAnnSend link
    s) := by
  unfold execTimeAnnSend; (try dsimp only)
  repeat' (first
    | (with_reducible first | assumption | apply State.sendOn_keeps | apply KeepsO.next | apply Keeps.ite | apply KeepsO.ite | apply Keeps.ite1)
    | dsimp only | (with_reducible refine Keeps.fst (by assumption) ?_) | split
    | (simp only [Keeps.mk_iff]; with_reducible apply Keeps.fold))

theorem execDelayReq_keeps {z : State} (link : Nat) (_m : TimeMsg) (s : State) (hz : Keeps z s) : KeepsO z
    (execDelayReq link _m s) := by
  unfold execDelayReq; (try dsimp only)
  repeat' (first
    | (with_reducible first | assumption | apply State.sendOn_keeps | apply KeepsO.next | apply Keeps.ite | apply KeepsO.ite))

theorem execDelayReqSend_keeps {z : State} (link : Nat) (s : State) (hz : Keeps z s) : KeepsO z (execDelayReqSend
    link s) := by
  unfold execDelayReqSend; (try dsimp only)
  repeat' (first
    | (with_reducible first | assumption | apply State.modLink_keeps | apply State.sendOn_keeps | apply KeepsO.next | apply Keeps.ite | apply KeepsO.ite))

theorem execDelayResp_keeps {z : State} (link : Nat) (m : TimeMsg) (s : State) (hz : Keeps z s) : KeepsO z
    (execDelayResp link m s) := by
  unfold execDelayResp; (try dsimp only)
  repeat' (first
    | (with_reducible first | assumption | apply State.modLink_keeps | apply KeepsO.next | apply Keeps.ite | apply KeepsO.ite))

theorem State.flood_keeps {z : State} (s : State) (src : Option Nat) (may : Nat → Bool) (m : MgmtMsg) (hz : Keeps z
    s) : Keeps z (State.flood s src may m) := by
  unfold State.flood
  repeat' (first
    | (with_reducible first | assumption | apply State.odAdd_keeps | apply State.sendFrom_keeps | apply KeepsO.next | apply Keeps.ite | apply KeepsO.ite | apply Keeps.ite1)
    | dsimp only | (with_reducible apply Keeps.foldl; (try intro _ _ _); (try dsimp only)))

theorem State.claim_keeps {z : State} (s : State) (hz : Keeps z s) : Keeps z (State.claim s) := by
  unfold State.claim; (try dsimp only)
  repeat' (first
    | (with_reducible first | assumption | apply State.flood_keeps | apply KeepsO.next | apply Keeps.ite | apply KeepsO.ite | apply Keeps.ite1)
    | dsimp only | (with_reducible refine Keeps.fst (by assumption) ?_) | split
    | (simp only [Keeps.mk_iff]; with_reducible apply Keeps.fold))

theorem execMasterSilent_keeps {z : State} (s : State) (hz : Keeps z s) : KeepsO z (execMasterSilent s) := by
  unfold execMasterSilent; (try dsimp only)
  repeat' (first
    | (with_reducible first | assumption | apply State.claim_keeps | apply KeepsO.next | apply Keeps.ite | apply KeepsO.ite | apply Keeps.ite1)
    | dsimp only | (with_reducible refine Keeps.fst (by assumption) ?_) | split
    | (simp only [Keeps.mk_iff]; with_reducible apply Keeps.fold))

theorem State.hearClaim_keeps {z : State} (s : State) (m : MgmtMsg) (hz : Keeps z s) : Keeps z (State.hearClaim s m)
    := by
  unfold State.hearClaim; (try dsimp only)
  repeat' (first
    | (with_reducible first | assumption | apply State.claim_keeps | apply KeepsO.next | apply Keeps.ite | apply KeepsO.ite | apply Keeps.ite1)
    | dsimp only | (with_reducible refine Keeps.fst (by assumption) ?_) | split
    | (simp only [Keeps.mk_iff]; with_reducible apply Keeps.fold))

theorem State.cutClaim_keeps {z : State} (s : State) (link : Nat) (m : MgmtMsg) (hz : Keeps z s) : Keeps z
    (State.cutClaim s link m) := by
  unfold State.cutClaim; (try dsimp only)
  repeat' (first
    | (with_reducible first | assumption | apply State.flood_keeps | apply State.odAdd_keeps | apply KeepsO.next | apply Keeps.ite | apply KeepsO.ite | apply Keeps.ite1)
    | dsimp only | (with_reducible refine Keeps.fst (by assumption) ?_) | split
    | (simp only [Keeps.mk_iff]; with_reducible apply Keeps.fold))

theorem execMasterClaim_keeps {z : State} (link : Nat) (m : MgmtMsg) (s : State) (hz : Keeps z s) : KeepsO z
    (execMasterClaim link m s) := by
  unfold execMasterClaim
  repeat' (first
    | (with_reducible first | assumption | apply State.odAdd_keeps | apply State.cutClaim_keeps | apply State.hearClaim_keeps | apply State.flood_keeps | apply KeepsO.next | apply Keeps.ite | apply KeepsO.ite | apply Keeps.ite1)
    | dsimp only | (with_reducible refine Keeps.fst (by assumption) ?_) | split)

theorem execMasterTakeOffice_keeps {z : State} (s : State) (hz : Keeps z s) : KeepsO z (execMasterTakeOffice s) := by
  unfold execMasterTakeOffice; (try dsimp only)
  repeat' (first
    | (with_reducible first | assumption | apply State.claim_keeps | apply State.odSet_keeps | apply State.logEv_keeps | apply KeepsO.next | apply Keeps.ite | apply KeepsO.ite | apply Keeps.ite1)
    | dsimp only | (with_reducible refine Keeps.fst (by assumption) ?_) | split
    | (simp only [Keeps.mk_iff]; with_reducible apply Keeps.fold))

theorem execConfiguredMasterReclaim_keeps {z : State} (s : State) (hz : Keeps z s) : KeepsO z
    (execConfiguredMasterReclaim s) := by
  unfold execConfiguredMasterReclaim
  repeat' (first
    | (with_reducible first | assumption | apply State.claim_keeps | apply KeepsO.next | apply Keeps.ite | apply KeepsO.ite | apply Keeps.ite1)
    | dsimp only | (with_reducible refine Keeps.fst (by assumption) ?_) | split)

theorem State.sendTable_keeps {z : State} (s : State) (hz : Keeps z s) : Keeps z (State.sendTable s) := by
  unfold State.sendTable; (try dsimp only)
  repeat' (first
    | (with_reducible first | assumption | apply State.sendRouted_keeps | apply KeepsO.next | apply Keeps.ite | apply KeepsO.ite | apply Keeps.ite1)
    | dsimp only | (with_reducible apply Keeps.foldl; (try intro _ _ _); (try dsimp only)))

theorem State.assignOut_keeps {z : State} (s : State) (die : Option Nat) (m : MgmtMsg) (hz : Keeps z s) : Keeps z
    (State.assignOut s die m) := by
  unfold State.assignOut
  repeat' (first
    | (with_reducible first | assumption | apply State.odAdd_keeps | apply State.relay_keeps | apply State.sendFrom_keeps | apply State.sendRouted_keeps | apply KeepsO.next | apply Keeps.ite))

theorem State.answerId_keeps {z : State} (s : State) (m : MgmtMsg) (hz : Keeps z s) : Keeps z (State.answerId s m)
    := by
  unfold State.answerId; (try dsimp only)
  repeat' (first
    | (with_reducible first | assumption | apply State.relay_keeps | apply State.assignOut_keeps | apply State.sendTable_keeps | apply KeepsO.next | apply Keeps.ite | apply KeepsO.ite | apply Keeps.ite1)
    | dsimp only | (with_reducible refine Keeps.fst (by assumption) ?_) | split
    | (simp only [Keeps.mk_iff]; with_reducible apply Keeps.fold))

theorem execIdReq_keeps {z : State} (link : Nat) (m : MgmtMsg) (s : State) (hz : Keeps z s) : KeepsO z (execIdReq
    link m s) := by
  unfold execIdReq; (try dsimp only)
  repeat' (first
    | (with_reducible first | assumption | apply State.odAdd_keeps | apply State.relay_keeps | apply State.answerId_keeps | apply KeepsO.next | apply Keeps.ite | apply KeepsO.ite | apply Keeps.ite1)
    | dsimp only | (with_reducible refine Keeps.fst (by assumption) ?_) | split)

theorem State.takeId_keeps {z : State} (s : State) (m : MgmtMsg) (hz : Keeps z s) : Keeps z (State.takeId s m) := by
  unfold State.takeId; (try dsimp only)
  repeat' (first
    | (with_reducible first | assumption | apply State.odSet_keeps | apply State.logEv_keeps | apply KeepsO.next | apply Keeps.ite | apply KeepsO.ite | apply Keeps.ite1)
    | dsimp only | (with_reducible refine Keeps.fst (by assumption) ?_) | split
    | (simp only [Keeps.mk_iff]; with_reducible apply Keeps.fold))

theorem execIdAssign_keeps {z : State} (link : Nat) (m : MgmtMsg) (s : State) (hz : Keeps z s) : KeepsO z
    (execIdAssign link m s) := by
  unfold execIdAssign; (try dsimp only)
  repeat' (first
    | (with_reducible first | assumption | apply State.odAdd_keeps | apply State.relay_keeps | apply State.takeId_keeps | apply State.assignOut_keeps | apply KeepsO.next | apply Keeps.ite | apply KeepsO.ite | apply Keeps.ite1)
    | dsimp only | (with_reducible refine Keeps.fst (by assumption) ?_) | split)

theorem execIdReqRepeat_keeps {z : State} (s : State) (hz : Keeps z s) : KeepsO z (execIdReqRepeat s) := by
  unfold execIdReqRepeat
  repeat' (first
    | (with_reducible first | assumption | apply State.askId_keeps | apply KeepsO.next | apply Keeps.ite | apply KeepsO.ite | apply Keeps.ite1)
    | dsimp only | (with_reducible refine Keeps.fst (by assumption) ?_) | split)

theorem execIdTable_keeps {z : State} (x : MgmtIn) (s : State) (hz : Keeps z s) : KeepsO z (execIdTable x s) := by
  unfold execIdTable; (try dsimp only)
  repeat' (first
    | (with_reducible first | assumption | apply State.fromLink_keeps | apply State.odAdd_keeps | apply KeepsO.next | apply Keeps.ite | apply KeepsO.ite | apply Keeps.ite1)
    | dsimp only | (with_reducible refine Keeps.fst (by assumption) ?_) | split
    | (simp only [Keeps.mk_iff]; with_reducible apply Keeps.fold)
    | (with_reducible first | apply mset_wf | apply mclearRange_wf | apply mwf_nil | apply filter_wf | apply Memory.wf_msetRange | apply Memory.wf_clear | apply Memory.wf_nil | apply Memory.marksWf_mset | apply Memory.marksWf_clear | apply Memory.marksWf_nil | apply Memory.marksWf_ite | apply markPoison_wf | apply markOvf_wf)
    | (with_reducible apply Memory.marksWf_foldl; intro _ _ _) | (with_reducible apply foldl_wf; intro _ _ _)
    | (with_reducible intro _; intros; (try dsimp only)))

theorem execIdTableSend_keeps {z : State} (s : State) (hz : Keeps z s) : KeepsO z (execIdTableSend s) := by
  unfold execIdTableSend
  repeat' (first
    | (with_reducible first | assumption | apply State.sendTable_keeps | apply KeepsO.next | apply Keeps.ite))

theorem execHrdData_keeps {z : State} (tag : BitVec 32) (data : List Byte) (s : State) (hz : Keeps z s) : KeepsO z
    (execHrdData tag data s) := by
  unfold execHrdData; (try dsimp only)
  repeat' (first
    | (with_reducible first | assumption | apply State.hostLost_keeps | apply KeepsO.next | apply Keeps.ite | apply KeepsO.ite | apply Keeps.ite1)
    | dsimp only | (with_reducible refine Keeps.fst (by assumption) ?_) | split
    | (simp only [Keeps.mk_iff]; with_reducible apply Keeps.fold))

theorem execHostPortReturn_keeps {z : State} (s : State) (hz : Keeps z s) : KeepsO z (execHostPortReturn s) := by
  unfold execHostPortReturn
  repeat' (first
    | (with_reducible first | assumption | apply KeepsO.next | apply Keeps.ite | apply KeepsO.ite | apply Keeps.ite1)
    | dsimp only | (with_reducible refine Keeps.fst (by assumption) ?_) | split
    | (simp only [Keeps.mk_iff]; with_reducible apply Keeps.fold))

theorem State.takeOffice_keeps {z : State} (s : State) (g : Nat) (hz : Keeps z s) : Keeps z (State.takeOffice s g)
    := by
  unfold State.takeOffice; (try dsimp only)
  repeat' (first
    | (with_reducible first | assumption | apply State.odSet_keeps | apply State.logEv_keeps | apply State.refUpdate_keeps | apply KeepsO.next | apply Keeps.ite | apply KeepsO.ite | apply Keeps.ite1)
    | dsimp only | (with_reducible refine Keeps.fst (by assumption) ?_) | split
    | (simp only [Keeps.mk_iff]; with_reducible apply Keeps.fold))

theorem State.reElect_keeps {z : State} (s : State) (hz : Keeps z s) : Keeps z (State.reElect s) := by
  unfold State.reElect
  repeat' (first
    | (with_reducible first | assumption | apply State.takeOffice_keeps | apply State.logEv_keeps | apply KeepsO.next | apply Keeps.ite | apply KeepsO.ite | apply Keeps.ite1)
    | dsimp only | (with_reducible refine Keeps.fst (by assumption) ?_) | split)

theorem State.announce_keeps {z : State} (s : State) (l : List Nat) (hz : Keeps z s) : Keeps z (State.announce s l)
    := by
  unfold State.announce
  repeat' (first
    | (with_reducible first | assumption | apply State.modGroom_keeps | apply KeepsO.next | apply Keeps.ite | apply KeepsO.ite | apply Keeps.ite1)
    | dsimp only | (with_reducible apply Keeps.foldl; (try intro _ _ _); (try dsimp only)))

theorem State.useMap_keeps {z : State} (s : State) (m : FuseMap) (hz : Keeps z s) : Keeps z (State.useMap s m) := by
  unfold State.useMap; (try dsimp only)
  repeat' (first
    | (with_reducible first | assumption | apply State.odSet_keeps | apply KeepsO.next | apply Keeps.ite | apply KeepsO.ite | apply Keeps.ite1)
    | dsimp only | (with_reducible refine Keeps.fst (by assumption) ?_) | split
    | (simp only [Keeps.mk_iff]; with_reducible apply Keeps.fold))

theorem State.takeMirror_keeps {z : State} (s : State) (f : FuseFind) (hz : Keeps z s) : Keeps z (State.takeMirror s
    f) := by
  unfold State.takeMirror; (try dsimp only)
  repeat' (first
    | (with_reducible first | assumption | apply State.studTouch_keeps | apply KeepsO.next | apply Keeps.ite | apply KeepsO.ite | apply Keeps.ite1)
    | dsimp only | (with_reducible refine Keeps.fst (by assumption) ?_) | split
    | (simp only [Keeps.mk_iff]; with_reducible apply Keeps.fold))

theorem State.chooseMap_keeps {z : State} (s : State) (f : FuseFind) (hz : Keeps z s) : Keeps z (State.chooseMap s
    f).1 := by
  unfold State.chooseMap; (try dsimp only)
  repeat' (first
    | (with_reducible first | assumption | apply State.useMap_keeps | apply State.odSet_keeps | apply State.takeMirror_keeps | apply State.logEv_keeps | apply KeepsO.next | apply Keeps.ite | apply KeepsO.ite | apply Keeps.ite1)
    | dsimp only | (with_reducible refine Keeps.fst (by assumption) ?_) | split)

theorem State.loadStored_keeps {z : State} (s : State) (f : StartFind) (hz : Keeps z s) : Keeps z (State.loadStored
    s f) := by
  unfold State.loadStored; (try dsimp only)
  repeat' (first
    | (with_reducible first | assumption | apply State.useFree_keeps | apply State.odSet_keeps | apply State.refUpdate_keeps | apply KeepsO.next | apply Keeps.ite | apply KeepsO.ite | apply Keeps.ite1)
    | dsimp only | (with_reducible apply Keeps.foldl; (try intro _ _ _); (try dsimp only))
    | (with_reducible apply Keeps.foldl1; (try intro _ _ _); (try dsimp only))
    | (with_reducible refine Keeps.fst (by assumption) ?_) | split
    | (simp only [Keeps.mk_iff]; with_reducible apply Keeps.fold)
    | (simp only [Keeps.mk_iff]; with_reducible refine KeepsC.maps ?_ ?_ ?_ ?_ ?_ ?_ ?_ ?_ ?_ ?_ ?_ ?_ ?_ ?_ ?_ <;> intros)
    | (with_reducible first | apply mset_wf | apply mclearRange_wf | apply mwf_nil | apply filter_wf | apply Memory.wf_msetRange | apply Memory.wf_clear | apply Memory.wf_nil | apply Memory.marksWf_mset | apply Memory.marksWf_clear | apply Memory.marksWf_nil | apply Memory.marksWf_ite | apply markPoison_wf | apply markOvf_wf)
    | (with_reducible apply Memory.marksWf_foldl; intro _ _ _) | (with_reducible apply foldl_wf; intro _ _ _))

theorem State.loadStud_keeps {z : State} (s : State) (f : StartFind) (hz : Keeps z s) : Keeps z (State.loadStud s f)
    := by
  unfold State.loadStud; (try dsimp only)
  repeat' (first
    | (with_reducible first | assumption | apply State.odSet_keeps | apply State.logEv_keeps | apply KeepsO.next | apply Keeps.ite | apply KeepsO.ite | apply Keeps.ite1)
    | dsimp only | (with_reducible refine Keeps.fst (by assumption) ?_) | split
    | (simp only [Keeps.mk_iff]; with_reducible apply Keeps.fold))

theorem State.startFail_keeps {z : State} (s : State) (all : Bool) (un : UnitId) (source : Nat) (retestsPass : Bool)
    (test : Nat) (hz : Keeps z s) : Keeps z (State.startFail s all un source retestsPass test) := by
  unfold State.startFail; (try dsimp only)
  repeat' (first
    | (with_reducible first | assumption | apply State.studPut_keeps | apply KeepsO.next | apply Keeps.ite))

theorem State.studFused_keeps {z : State} (s : State) (hz : Keeps z s) : Keeps z (State.studFused s) := by
  unfold State.studFused; (try dsimp only)
  repeat' (first
    | (with_reducible first | assumption | apply State.studPut_keeps | apply KeepsO.next | apply Keeps.ite | apply KeepsO.ite | apply Keeps.ite1)
    | dsimp only | (with_reducible apply Keeps.foldl; (try intro _ _ _); (try dsimp only)))

theorem State.testKind_keeps {z : State} (s : State) (f : StartFind) (all : Bool) (ut : Nat) (can : UnitId → Bool)
    (hz : Keeps z s) : Keeps z (State.testKind s f all ut can) := by
  unfold State.testKind
  repeat' (first
    | (with_reducible first | assumption | apply State.startFail_keeps | apply KeepsO.next | apply Keeps.ite | apply KeepsO.ite | apply Keeps.ite1)
    | dsimp only | (with_reducible apply Keeps.foldl; (try intro _ _ _); (try dsimp only)))

theorem State.returnKind_keeps {z : State} (s : State) (ut source : Nat) (can : UnitId → Bool) (hz : Keeps z s) :
    Keeps z (State.returnKind s ut source can) := by
  unfold State.returnKind
  repeat' (first
    | (with_reducible first | assumption | apply State.studReturn_keeps | apply KeepsO.next | apply Keeps.ite | apply KeepsO.ite | apply Keeps.ite1)
    | dsimp only | (with_reducible apply Keeps.foldl; (try intro _ _ _); (try dsimp only)))

theorem State.testGrooms_keeps {z : State} (s : State) (f : StartFind) (all : Bool) (hz : Keeps z s) : Keeps z
    (State.testGrooms s f all) := by
  unfold State.testGrooms; (try dsimp only)
  repeat' (first
    | (with_reducible first | assumption | apply State.testKind_keeps | apply State.returnKind_keeps | apply State.modGroom_keeps | apply State.reElect_keeps | apply KeepsO.next | apply Keeps.ite | apply KeepsO.ite | apply Keeps.ite1)
    | dsimp only | (with_reducible apply Keeps.foldl; (try intro _ _ _); (try dsimp only)))

theorem State.testNodes_keeps {z : State} (s : State) (f : StartFind) (all : Bool) (hz : Keeps z s) : Keeps z
    (State.testNodes s f all) := by
  unfold State.testNodes; (try dsimp only)
  repeat' (first
    | (with_reducible first | assumption | apply State.testKind_keeps | apply State.returnKind_keeps | apply State.nodeLost_keeps | apply KeepsO.next | apply Keeps.ite | apply KeepsO.ite | apply Keeps.ite1)
    | dsimp only | (with_reducible apply Keeps.foldl; (try intro _ _ _); (try dsimp only)))

theorem State.testRouters_keeps {z : State} (s : State) (f : StartFind) (all : Bool) (hz : Keeps z s) : Keeps z
    (State.testRouters s f all) := by
  unfold State.testRouters; (try dsimp only)
  repeat' (first
    | (with_reducible first | assumption | apply State.testKind_keeps | apply State.returnKind_keeps | apply State.odPutBit_keeps | apply State.modCl_keeps | apply KeepsO.next | apply Keeps.ite | apply KeepsO.ite | apply Keeps.ite1)
    | dsimp only | (with_reducible apply Keeps.foldl; (try intro _ _ _); (try dsimp only)))

theorem State.testCrossing_keeps {z : State} (s : State) (f : StartFind) (all : Bool) (x : Nat × Nat × Nat) (hz :
    Keeps z s) : Keeps z (State.testCrossing s f all x) := by
  unfold State.testCrossing; (try dsimp only)
  repeat' (first
    | (with_reducible first | assumption | apply State.setWires_keeps | apply State.logEv_keeps | apply State.startFail_keeps | apply State.studReturn_keeps | apply State.fenceCross_keeps | apply KeepsO.next | apply Keeps.ite))

theorem State.testCrossings_keeps {z : State} (s : State) (f : StartFind) (all : Bool) (hz : Keeps z s) : Keeps z
    (State.testCrossings s f all) := by
  unfold State.testCrossings
  repeat' (first
    | (with_reducible first | assumption | apply State.testCrossing_keeps | apply KeepsO.next | apply Keeps.ite | apply KeepsO.ite | apply Keeps.ite1)
    | dsimp only | (with_reducible apply Keeps.foldl; (try intro _ _ _); (try dsimp only)))

theorem State.upcService_keeps {z : State} (s : State) (hz : Keeps z s) : Keeps z (State.upcService s) := by
  unfold State.upcService
  repeat' (first
    | (with_reducible first | assumption | apply State.odSet_keeps | apply State.upcRefresh_keeps | apply KeepsO.next | apply Keeps.ite | apply KeepsO.ite | apply Keeps.ite1)
    | dsimp only | (with_reducible apply Keeps.foldl; (try intro _ _ _); (try dsimp only)))

theorem State.failUpcs_keeps {z : State} (s : State) (all : Bool) (source : Nat) (l : List TestFail) (hz : Keeps z
    s) : Keeps z (State.failUpcs s all source l) := by
  unfold State.failUpcs; (try dsimp only)
  repeat' (first
    | (with_reducible first | assumption | apply State.startFail_keeps | apply State.drainUpc_keeps | apply KeepsO.next | apply Keeps.ite | apply KeepsO.ite | apply Keeps.ite1)
    | dsimp only | (with_reducible apply Keeps.foldl; (try intro _ _ _); (try dsimp only)))

theorem State.testUpcs_keeps {z : State} (s : State) (f : StartFind) (all : Bool) (hz : Keeps z s) : Keeps z
    (State.testUpcs s f all) := by
  unfold State.testUpcs
  repeat' (first
    | (with_reducible first | assumption | apply State.upcService_keeps | apply State.failUpcs_keeps))

theorem State.setGraph_keeps {z : State} (s : State) (hz : Keeps z s) : Keeps z (State.setGraph s) := by
  unfold State.setGraph; (try dsimp only)
  repeat' (first
    | (with_reducible first | assumption | apply KeepsO.next | apply Keeps.ite | apply KeepsO.ite | apply Keeps.ite1)
    | dsimp only | (with_reducible refine Keeps.fst (by assumption) ?_) | split
    | (simp only [Keeps.mk_iff]; with_reducible apply Keeps.fold))

theorem State.masterId_keeps {z : State} (s : State) (f : StartFind) (hz : Keeps z s) : Keeps z (State.masterId s f)
    := by
  unfold State.masterId; (try dsimp only)
  repeat' (first
    | (with_reducible first | assumption | apply State.odSet_keeps | apply KeepsO.next | apply Keeps.ite | apply KeepsO.ite | apply Keeps.ite1)
    | dsimp only | (with_reducible refine Keeps.fst (by assumption) ?_) | split
    | (simp only [Keeps.mk_iff]; with_reducible apply Keeps.fold))

theorem State.joinTime_keeps {z : State} (s : State) (f : StartFind) (hz : Keeps z s) : Keeps z (State.joinTime s f)
    := by
  unfold State.joinTime; (try dsimp only)
  repeat' (first
    | (with_reducible first | assumption | apply State.toFabricTime_keeps | apply State.logEv_keeps | apply KeepsO.next | apply Keeps.ite | apply KeepsO.ite | apply Keeps.ite1)
    | dsimp only | (with_reducible refine Keeps.fst (by assumption) ?_) | split
    | (simp only [Keeps.mk_iff]; with_reducible apply Keeps.fold))

theorem State.pcService_keeps {z : State} (s : State) (hz : Keeps z s) : Keeps z (State.pcService s) := by
  unfold State.pcService
  repeat' (first
    | (with_reducible first | assumption | apply State.odSet_keeps | apply KeepsO.next | apply Keeps.ite | apply KeepsO.ite | apply Keeps.ite1)
    | dsimp only | (with_reducible apply Keeps.foldl; (try intro _ _ _); (try dsimp only)))

theorem State.testStacks_keeps {z : State} (s : State) (f : StartFind) (all : Bool) (hz : Keeps z s) : Keeps z
    (State.testStacks s f all) := by
  unfold State.testStacks; (try dsimp only)
  repeat' (first
    | (with_reducible first | assumption | apply State.testKind_keeps | apply State.returnKind_keeps | apply State.studExternal_keeps | apply State.logEv_keeps | apply State.odPutBit_keeps | apply State.odSet_keeps | apply KeepsO.next | apply Keeps.ite | apply KeepsO.ite | apply Keeps.ite1)
    | dsimp only | (with_reducible apply Keeps.foldl; (try intro _ _ _); (try dsimp only)))

theorem State.testPcs_keeps {z : State} (s : State) (f : StartFind) (all : Bool) (hz : Keeps z s) : Keeps z
    (State.testPcs s f all) := by
  unfold State.testPcs; (try dsimp only)
  repeat' (first
    | (with_reducible first | assumption | apply State.logEv_keeps | apply State.startFail_keeps | apply State.odPutBit_keeps | apply State.pcService_keeps | apply KeepsO.next | apply Keeps.ite | apply KeepsO.ite | apply Keeps.ite1)
    | dsimp only | (with_reducible apply Keeps.foldl; (try intro _ _ _); (try dsimp only)))

theorem State.testSlices_keeps {z : State} (s : State) (f : StartFind) (all : Bool) (hz : Keeps z s) : Keeps z
    (State.testSlices s f all) := by
  unfold State.testSlices; (try dsimp only)
  repeat' (first
    | (with_reducible first | assumption | apply State.odPutBit_keeps | apply State.startFail_keeps | apply State.logEv_keeps | apply KeepsO.next | apply Keeps.ite | apply KeepsO.ite | apply Keeps.ite1)
    | dsimp only | (with_reducible apply Keeps.foldl; (try intro _ _ _); (try dsimp only)))

theorem State.testSites_keeps {z : State} (s : State) (f : StartFind) (all : Bool) (hz : Keeps z s) : Keeps z
    (State.testSites s f all) := by
  unfold State.testSites
  repeat' (first
    | (with_reducible first | assumption | apply State.testKind_keeps))

theorem State.placeBay_keeps {z : State} (s : State) (b : Nat) (hz : Keeps z s) : Keeps z (State.placeBay s b) := by
  unfold State.placeBay; (try dsimp only)
  repeat' (first
    | (with_reducible first | assumption | apply State.modBay_keeps | apply State.setLogical_keeps | apply State.modCl_keeps | apply KeepsO.next | apply Keeps.ite | apply KeepsO.ite | apply Keeps.ite1)
    | dsimp only | (with_reducible apply Keeps.foldl; (try intro _ _ _); (try dsimp only)))

theorem State.place_keeps {z : State} (s : State) (hz : Keeps z s) : Keeps z (State.place s) := by
  unfold State.place
  repeat' (first
    | (with_reducible first | assumption | apply State.placeBay_keeps | apply State.countOffered_keeps | apply State.checkFloors_keeps | apply KeepsO.next | apply Keeps.ite | apply KeepsO.ite | apply Keeps.ite1)
    | dsimp only | (with_reducible apply Keeps.foldl; (try intro _ _ _); (try dsimp only)))

theorem State.testAnswers_keeps {z : State} (s : State) (f : StartFind) (hz : Keeps z s) : Keeps z
    (State.testAnswers s f) := by
  unfold State.testAnswers; (try dsimp only)
  repeat' (first
    | (with_reducible first | assumption | apply State.startFail_keeps | apply State.failUpcs_keeps | apply State.fenceSite_keeps | apply KeepsO.next | apply Keeps.ite | apply KeepsO.ite | apply Keeps.ite1)
    | dsimp only | (with_reducible apply Keeps.foldl; (try intro _ _ _); (try dsimp only)))

theorem State.returnUnits_keeps {z : State} (s : State) (hz : Keeps z s) : Keeps z (State.returnUnits s) := by
  unfold State.returnUnits; (try dsimp only)
  repeat' (first
    | (with_reducible first | assumption | apply State.studReturn_keeps | apply State.setLogical_keeps | apply State.modCl_keeps | apply State.odSet_keeps | apply State.logEv_keeps | apply State.upcRefresh_keeps | apply State.checkFloors_keeps | apply KeepsO.next | apply Keeps.ite | apply KeepsO.ite | apply Keeps.ite1)
    | dsimp only | (with_reducible apply Keeps.foldl; (try intro _ _ _); (try dsimp only)))

theorem State.visitAll_keeps {z : State} (s : State) (hz : Keeps z s) : Keeps z (State.visitAll s) := by
  unfold State.visitAll
  repeat' (first
    | (with_reducible first | assumption | apply State.odSet_keeps | apply KeepsO.next | apply Keeps.ite | apply KeepsO.ite | apply Keeps.ite1)
    | dsimp only | (with_reducible apply Keeps.foldl; (try intro _ _ _); (try dsimp only)))

theorem State.goReady_keeps {z : State} (s : State) (warm : Bool) (hz : Keeps z s) : Keeps z (State.goReady s warm)
    := by
  unfold State.goReady; (try dsimp only)
  repeat' (first
    | (with_reducible first | assumption | apply State.odSet_keeps | apply State.logEv_keeps | apply KeepsO.next | apply Keeps.ite))

theorem State.coldState_keeps {z : State} (s : State) (keepBays : Bool) (hz : Keeps z s) : Keeps z (State.coldState
    s keepBays) := by
  unfold State.coldState; (try dsimp only)
  repeat' (first
    | (with_reducible first | assumption | apply State.odSet_keeps | apply State.odPutBit_keeps | apply KeepsO.next | apply Keeps.ite | apply KeepsO.ite | apply Keeps.ite1)
    | dsimp only | (with_reducible apply Keeps.foldl; (try intro _ _ _); (try dsimp only))
    | (with_reducible apply Keeps.foldl1; (try intro _ _ _); (try dsimp only))
    | (with_reducible refine Keeps.fst (by assumption) ?_) | split
    | (simp only [Keeps.mk_iff]; with_reducible apply Keeps.fold) | exact rfl
    | (simp only [Keeps.mk_iff]; with_reducible refine KeepsC.maps ?_ ?_ ?_ ?_ ?_ ?_ ?_ ?_ ?_ ?_ ?_ ?_ ?_ ?_ ?_ <;> intros)
    | (with_reducible first | apply mset_wf | apply mclearRange_wf | apply mwf_nil | apply filter_wf | apply Memory.wf_msetRange | apply Memory.wf_clear | apply Memory.wf_nil | apply Memory.marksWf_mset | apply Memory.marksWf_clear | apply Memory.marksWf_nil | apply Memory.marksWf_ite | apply markPoison_wf | apply markOvf_wf)
    | (with_reducible apply Memory.marksWf_foldl; intro _ _ _) | (with_reducible apply foldl_wf; intro _ _ _))

theorem State.startTests_keeps {z : State} (s : State) (f : StartFind) (all : Bool) (hz : Keeps z s) : Keeps z
    (State.startTests s f all) := by
  unfold State.startTests; (try dsimp only)
  repeat' (first
    | (with_reducible first | assumption | apply State.testGrooms_keeps | apply State.testNodes_keeps | apply State.testRouters_keeps | apply State.reElect_keeps | apply State.testCrossings_keeps | apply State.setGraph_keeps | apply State.testUpcs_keeps | apply State.masterId_keeps | apply State.joinTime_keeps | apply State.testStacks_keeps | apply State.testPcs_keeps | apply State.modBay_keeps | apply State.testSlices_keeps | apply State.testSites_keeps | apply KeepsO.next | apply Keeps.ite | apply KeepsO.ite | apply Keeps.ite1)
    | dsimp only | (with_reducible apply Keeps.foldl; (try intro _ _ _); (try dsimp only))
    | (with_reducible apply Keeps.foldl1; (try intro _ _ _); (try dsimp only))
    | (with_reducible refine Keeps.fst (by assumption) ?_) | split
    | (simp only [Keeps.mk_iff]; with_reducible apply Keeps.fold))

theorem State.toReady_keeps {z : State} (s : State) (f : StartFind) (hz : Keeps z s) : Keeps z (State.toReady s f)
    := by
  unfold State.toReady
  repeat' (first
    | (with_reducible first | assumption | apply State.place_keeps | apply State.testAnswers_keeps | apply State.returnUnits_keeps | apply State.visitAll_keeps | apply State.goReady_keeps))

theorem State.startUp_keeps {z : State} (s : State) (f : StartFind) (hz : Keeps z s) : Keeps z (State.startUp s f)
    := by
  unfold State.startUp
  repeat' (first
    | (with_reducible first | assumption | apply State.studFused_keeps | apply State.startTests_keeps | apply State.toReady_keeps))

theorem State.degradedBoot_keeps {z : State} (s : State) (f : StartFind) (hz : Keeps z s) : Keeps z
    (State.degradedBoot s f) := by
  unfold State.degradedBoot; (try dsimp only)
  repeat' (first
    | (with_reducible first | assumption | apply State.logEv_keeps | apply State.useMap_keeps | apply State.startTests_keeps | apply State.odSet_keeps))

theorem State.elect_keeps {z : State} (s : State) (f : StartFind) (announced : List Nat) (hz : Keeps z s) : Keeps z
    (State.elect s f announced) := by
  unfold State.elect; (try dsimp only)
  repeat' (first
    | (with_reducible first | assumption | apply State.announce_keeps | apply State.takeOffice_keeps | apply State.loadStored_keeps | apply State.loadStud_keeps | apply State.chooseMap_keeps | apply State.logEv_keeps | apply State.odSet_keeps | apply State.startUp_keeps | apply State.degradedBoot_keeps | apply KeepsO.next | apply Keeps.ite | apply KeepsO.ite | apply Keeps.ite1)
    | dsimp only | (with_reducible refine Keeps.fst (by assumption) ?_) | split
    | (simp only [Keeps.mk_iff]; with_reducible apply Keeps.fold))

theorem State.coldStart_keeps {z : State} (s : State) (f : StartFind) (keepBays : Bool) (hz : Keeps z s) : Keeps z
    (State.coldStart s f keepBays) := by
  unfold State.coldStart; (try dsimp only)
  repeat' (first
    | (with_reducible first | assumption | apply State.coldState_keeps | apply State.refUpdate_keeps | apply State.elect_keeps | apply KeepsO.next | apply Keeps.ite | apply KeepsO.ite | apply Keeps.ite1)
    | dsimp only | (with_reducible refine Keeps.fst (by assumption) ?_) | split
    | (simp only [Keeps.mk_iff]; with_reducible apply Keeps.fold))

theorem execPowerGoodRise_keeps {z : State} (straps : BitVec 5) (find : StartFind) (s : State) (hz : Keeps z s) :
    KeepsO z (execPowerGoodRise straps find s) := by
  unfold execPowerGoodRise; (try dsimp only)
  repeat' (first
    | (with_reducible first | assumption | apply State.coldStart_keeps | apply KeepsO.next | apply Keeps.ite | apply KeepsO.ite | apply Keeps.ite1)
    | dsimp only | (with_reducible refine Keeps.fst (by assumption) ?_) | split
    | (simp only [Keeps.mk_iff]; with_reducible apply Keeps.fold))

theorem execHeartbeat_keeps {z : State} (acks : Nat) (s : State) (hz : Keeps z s) : KeepsO z (execHeartbeat acks s)
    := by
  unfold execHeartbeat; (try dsimp only)
  repeat' (first
    | (with_reducible first | assumption | apply KeepsO.next | apply Keeps.ite | apply KeepsO.ite | apply Keeps.ite1)
    | dsimp only | (with_reducible refine Keeps.fst (by assumption) ?_) | split
    | (simp only [Keeps.mk_iff]; with_reducible apply Keeps.fold))

theorem State.askBay_keeps {z : State} (s : State) (b : Nat) (hz : Keeps z s) : Keeps z (State.askBay s b) := by
  unfold State.askBay
  repeat' (first
    | (with_reducible first | assumption | apply State.askPoint_keeps | apply KeepsO.next | apply Keeps.ite | apply KeepsO.ite | apply Keeps.ite1)
    | dsimp only | (with_reducible apply Keeps.foldl; (try intro _ _ _); (try dsimp only)))

theorem execYardmasterTakeover_keeps {z : State} (confirmed : Nat) (s : State) (hz : Keeps z s) : KeepsO z
    (execYardmasterTakeover confirmed s) := by
  unfold execYardmasterTakeover; (try dsimp only)
  repeat' (first
    | (with_reducible first | assumption | apply State.modGroom_keeps | apply State.refUpdate_keeps | apply State.askBay_keeps | apply State.odSet_keeps | apply State.takeOffice_keeps | apply State.logEv_keeps | apply KeepsO.next | apply Keeps.ite | apply KeepsO.ite | apply Keeps.ite1)
    | dsimp only | (with_reducible refine Keeps.fst (by assumption) ?_) | split)

theorem execYardmasterAbdicate_keeps {z : State} (s : State) (hz : Keeps z s) : KeepsO z (execYardmasterAbdicate s)
    := by
  unfold execYardmasterAbdicate; (try dsimp only)
  repeat' (first
    | (with_reducible first | assumption | apply State.refUpdate_keeps | apply KeepsO.next | apply Keeps.ite | apply KeepsO.ite | apply Keeps.ite1)
    | dsimp only | (with_reducible refine Keeps.fst (by assumption) ?_) | split
    | (simp only [Keeps.mk_iff]; with_reducible apply Keeps.fold))

theorem execGroomRestart_keeps {z : State} (groom : Nat) (ok : Bool) (s : State) (hz : Keeps z s) : KeepsO z
    (execGroomRestart groom ok s) := by
  unfold execGroomRestart; (try dsimp only)
  repeat' (first
    | (with_reducible first | assumption | apply State.modGroom_keeps | apply State.logEv_keeps | apply State.askBay_keeps | apply State.railRefresh_keeps | apply State.studHard_keeps | apply State.loseBay_keeps | apply State.fenceBay_keeps | apply KeepsO.next | apply Keeps.ite | apply KeepsO.ite))

theorem State.warmFirm_keeps {z : State} (s : State) (hz : Keeps z s) : Keeps z (State.warmFirm s) := by
  unfold State.warmFirm; (try dsimp only)
  repeat' (first
    | (with_reducible first | assumption | apply State.modGroom_keeps | apply State.odSet_keeps | apply State.logEv_keeps | apply KeepsO.next | apply Keeps.ite | apply KeepsO.ite | apply Keeps.ite1)
    | dsimp only | (with_reducible refine Keeps.fst (by assumption) ?_) | split
    | (simp only [Keeps.mk_iff]; with_reducible apply Keeps.fold))

theorem State.warmState_keeps {z : State} (s : State) (hz : Keeps z s) : Keeps z (State.warmState s) := by
  unfold State.warmState; (try dsimp only)
  repeat' (first
    | (with_reducible first | assumption | apply State.allOff_keeps | apply State.odSet_keeps | apply KeepsO.next | apply Keeps.ite | apply KeepsO.ite | apply Keeps.ite1)
    | dsimp only | (with_reducible apply Keeps.foldl; (try intro _ _ _); (try dsimp only))
    | (with_reducible apply Keeps.foldl1; (try intro _ _ _); (try dsimp only))
    | (with_reducible refine Keeps.fst (by assumption) ?_) | split
    | (simp only [Keeps.mk_iff]; with_reducible apply Keeps.fold)
    | (simp only [Keeps.mk_iff]; with_reducible refine KeepsC.maps ?_ ?_ ?_ ?_ ?_ ?_ ?_ ?_ ?_ ?_ ?_ ?_ ?_ ?_ ?_ <;> intros)
    | (with_reducible first | apply mset_wf | apply mclearRange_wf | apply mwf_nil | apply filter_wf | apply Memory.wf_msetRange | apply Memory.wf_clear | apply Memory.wf_nil | apply Memory.marksWf_mset | apply Memory.marksWf_clear | apply Memory.marksWf_nil | apply Memory.marksWf_ite | apply markPoison_wf | apply markOvf_wf)
    | (with_reducible apply Memory.marksWf_foldl; intro _ _ _) | (with_reducible apply foldl_wf; intro _ _ _))

theorem State.warmStart_keeps {z : State} (s : State) (fuse : FuseFind) (imageGood : Bool) (hz : Keeps z s) : Keeps
    z (State.warmStart s fuse imageGood) := by
  unfold State.warmStart; (try dsimp only)
  repeat' (first
    | (with_reducible first | assumption | apply State.chooseMap_keeps | apply State.upcService_keeps | apply State.logEv_keeps | apply State.odSet_keeps | apply State.studFused_keeps | apply State.place_keeps | apply State.goReady_keeps | apply State.useMap_keeps | apply KeepsO.next | apply Keeps.ite | apply KeepsO.ite | apply Keeps.ite1)
    | dsimp only | (with_reducible refine Keeps.fst (by assumption) ?_) | split
    | (simp only [Keeps.mk_iff]; with_reducible apply Keeps.fold))

theorem State.warmElect_keeps {z : State} (s : State) (l : List Nat) (fuse : FuseFind) (imageGood : Bool) (hz :
    Keeps z s) : Keeps z (State.warmElect s l fuse imageGood) := by
  unfold State.warmElect; (try dsimp only)
  repeat' (first
    | (with_reducible first | assumption | apply State.odSet_keeps | apply State.reElect_keeps | apply State.warmStart_keeps | apply KeepsO.next | apply Keeps.ite | apply KeepsO.ite | apply Keeps.ite1)
    | dsimp only | (with_reducible refine Keeps.fst (by assumption) ?_) | split
    | (simp only [Keeps.mk_iff]; with_reducible apply Keeps.fold))

theorem State.warmReset_keeps {z : State} (s : State) (fuse : FuseFind) (imageGood : Bool) (hz : Keeps z s) : Keeps
    z (State.warmReset s fuse imageGood) := by
  unfold State.warmReset; (try dsimp only)
  repeat' (first
    | (with_reducible first | assumption | apply State.warmState_keeps | apply State.warmFirm_keeps | apply State.warmElect_keeps))

theorem execElectionRetry_keeps {z : State} (announced : List Nat) (s : State) (hz : Keeps z s) : KeepsO z
    (execElectionRetry announced s) := by
  unfold execElectionRetry; (try dsimp only)
  repeat' (first
    | (with_reducible first | assumption | apply State.announce_keeps | apply State.warmElect_keeps | apply State.elect_keeps | apply KeepsO.next | apply Keeps.ite | apply KeepsO.ite | apply Keeps.ite1)
    | dsimp only | (with_reducible refine Keeps.fst (by assumption) ?_) | split)

theorem State.resetWrite_keeps {z : State} (s : State) (v : Nat) (fuse : FuseFind) (imageGood : Bool) (hz : Keeps z
    s) : Keeps z (State.resetWrite s v fuse imageGood).1 := by
  unfold State.resetWrite; (try dsimp only)
  repeat' (first
    | (with_reducible first | assumption | apply State.warmReset_keeps | apply KeepsO.next | apply Keeps.ite | apply KeepsO.ite | apply Keeps.ite1)
    | dsimp only | (with_reducible refine Keeps.fst (by assumption) ?_) | split
    | (simp only [Keeps.mk_iff]; with_reducible apply Keeps.fold))

theorem State.freeReset_keeps {z : State} (s : State) (v : Nat) (hz : Keeps z s) : Keeps z (State.freeReset s v).1
    := by
  unfold State.freeReset
  repeat' (first
    | (with_reducible first | assumption | apply State.useFree_keeps | apply State.resetWrite_keeps | apply KeepsO.next | apply Keeps.ite | apply KeepsO.ite | apply Keeps.ite1))

theorem execModuleReset_keeps {z : State} (route : Nat) (w : ResetIn) (s : State) (hz : Keeps z s) : KeepsO z
    (execModuleReset route w s) := by
  unfold execModuleReset
  repeat' (first
    | (with_reducible first | assumption | apply State.keyWrite_keeps | apply State.route_keeps | apply State.resetWrite_keeps | apply KeepsO.next | apply Keeps.ite | apply KeepsO.ite | apply Keeps.ite1)
    | dsimp only | (with_reducible refine Keeps.fst (by assumption) ?_) | split
    | (with_reducible intro _; intros; (try dsimp only)))

theorem State.storeSt_keeps {z : State} (s : State) (hz : Keeps z s) : Keeps z (State.storeSt s) := by
  unfold State.storeSt; (try dsimp only)
  repeat' (first
    | (with_reducible first | assumption | apply KeepsO.next | apply Keeps.ite | apply KeepsO.ite | apply Keeps.ite1)
    | dsimp only | (with_reducible refine Keeps.fst (by assumption) ?_) | split
    | (simp only [Keeps.mk_iff]; with_reducible apply Keeps.fold))

theorem execServiceTimeWrite_keeps {z : State} (s : State) (hz : Keeps z s) : KeepsO z (execServiceTimeWrite s) := by
  unfold execServiceTimeWrite
  repeat' (first
    | (with_reducible first | assumption | apply State.storeSt_keeps | apply KeepsO.next | apply Keeps.ite))

theorem execStudbookCopyWrite_keeps {z : State} (s : State) (hz : Keeps z s) : KeepsO z (execStudbookCopyWrite s) :=
    by
  unfold execStudbookCopyWrite; (try dsimp only)
  repeat' (first
    | (with_reducible first | assumption | apply State.storeSt_keeps | apply KeepsO.next | apply Keeps.ite | apply KeepsO.ite | apply Keeps.ite1)
    | dsimp only | (with_reducible refine Keeps.fst (by assumption) ?_) | split
    | (simp only [Keeps.mk_iff]; with_reducible apply Keeps.fold))

theorem execStoredEntryCopyWrite_keeps {z : State} (index sub : Nat) (s : State) (hz : Keeps z s) : KeepsO z
    (execStoredEntryCopyWrite index sub s) := by
  unfold execStoredEntryCopyWrite; (try dsimp only)
  repeat' (first
    | (with_reducible first | assumption | apply KeepsO.next | apply Keeps.ite | apply KeepsO.ite | apply Keeps.ite1)
    | dsimp only | (with_reducible refine Keeps.fst (by assumption) ?_) | split
    | (simp only [Keeps.mk_iff]; with_reducible apply Keeps.fold))

theorem State.ackWrite_keeps {z : State} (s : State) (v : Nat) (hz : Keeps z s) : Keeps z (State.ackWrite s v).1 := by
  unfold State.ackWrite; (try dsimp only)
  repeat' (first
    | (with_reducible first | assumption | apply State.studTouch_keeps | apply State.useMap_keeps | apply State.odSet_keeps | apply State.studFused_keeps | apply State.logEv_keeps | apply State.upcService_keeps | apply State.pcService_keeps | apply State.toReady_keeps | apply KeepsO.next | apply Keeps.ite | apply KeepsO.ite | apply Keeps.ite1)
    | dsimp only | (with_reducible refine Keeps.fst (by assumption) ?_) | split
    | (simp only [Keeps.mk_iff]; with_reducible apply Keeps.fold))

theorem execDegradedAckF_keeps {z : State} (route : Nat) (s : State) (hz : Keeps z s) : KeepsO z (execDegradedAckF
    route s) := by
  unfold execDegradedAckF
  repeat' (first
    | (with_reducible first | assumption | apply State.keyWrite_keeps | apply State.route_keeps | apply State.ackWrite_keeps | apply KeepsO.next | apply Keeps.ite | apply KeepsO.ite | apply Keeps.ite1)
    | dsimp only | (with_reducible refine Keeps.fst (by assumption) ?_) | split
    | (with_reducible intro _; intros; (try dsimp only)))

theorem execDegradedAckS_keeps {z : State} (route : Nat) (s : State) (hz : Keeps z s) : KeepsO z (execDegradedAckS
    route s) := by
  unfold execDegradedAckS
  repeat' (first
    | (with_reducible first | assumption | apply State.keyWrite_keeps | apply State.route_keeps | apply State.ackWrite_keeps | apply KeepsO.next | apply Keeps.ite | apply KeepsO.ite | apply Keeps.ite1)
    | dsimp only | (with_reducible refine Keeps.fst (by assumption) ?_) | split
    | (with_reducible intro _; intros; (try dsimp only)))

theorem State.fwStageOp_keeps {z : State} (s : State) (h : ImgHdr) (hz : Keeps z s) : Keeps z (State.fwStageOp s
    h).1 := by
  unfold State.fwStageOp; (try dsimp only)
  repeat' (first
    | (with_reducible first | assumption | apply State.odSet_keeps | apply KeepsO.next | apply Keeps.ite | apply KeepsO.ite | apply Keeps.ite1)
    | dsimp only | (with_reducible refine Keeps.fst (by assumption) ?_) | split
    | (simp only [Keeps.mk_iff]; with_reducible apply Keeps.fold))

theorem State.tackWriting_keeps {z : State} (s : State) (h : ImgHdr) (hz : Keeps z s) : Keeps z (State.tackWriting s
    h) := by
  unfold State.tackWriting; (try dsimp only)
  repeat' (first
    | (with_reducible first | assumption | apply KeepsO.next | apply Keeps.ite | apply KeepsO.ite | apply Keeps.ite1)
    | dsimp only | (with_reducible refine Keeps.fst (by assumption) ?_) | split
    | (simp only [Keeps.mk_iff]; with_reducible apply Keeps.fold))

theorem State.writeTack_keeps {z : State} (s : State) (h : ImgHdr) (hz : Keeps z s) : Keeps z (State.writeTack s h)
    := by
  unfold State.writeTack; (try dsimp only)
  repeat' (first
    | (with_reducible first | assumption | apply State.odSet_keeps | apply KeepsO.next | apply Keeps.ite | apply KeepsO.ite | apply Keeps.ite1)
    | dsimp only | (with_reducible apply Keeps.foldl; (try intro _ _ _); (try dsimp only))
    | (with_reducible apply Keeps.foldl1; (try intro _ _ _); (try dsimp only))
    | (with_reducible refine Keeps.fst (by assumption) ?_) | split
    | (simp only [Keeps.mk_iff]; with_reducible apply Keeps.fold))

theorem State.recoverApply_keeps {z : State} (s : State) (h : ImgHdr) (hz : Keeps z s) : Keeps z (State.recoverApply
    s h) := by
  unfold State.recoverApply; (try dsimp only)
  repeat' (first
    | (with_reducible first | assumption | apply State.writeTack_keeps | apply State.coldStart_keeps | apply State.tackWriting_keeps | apply State.odSet_keeps | apply State.logEv_keeps | apply KeepsO.next | apply Keeps.ite | apply KeepsO.ite | apply Keeps.ite1)
    | dsimp only | (with_reducible refine Keeps.fst (by assumption) ?_) | split)

theorem State.fwApplyOp_keeps {z : State} (s : State) (hz : Keeps z s) : Keeps z (State.fwApplyOp s).1 := by
  unfold State.fwApplyOp
  repeat' (first
    | (with_reducible first | assumption | apply State.recoverApply_keeps | apply State.odSet_keeps | apply State.tackWriting_keeps | apply KeepsO.next | apply Keeps.ite | apply KeepsO.ite | apply Keeps.ite1)
    | dsimp only | (with_reducible refine Keeps.fst (by assumption) ?_) | split)

theorem State.fwAbortOp_keeps {z : State} (s : State) (hz : Keeps z s) : Keeps z (State.fwAbortOp s).1 := by
  unfold State.fwAbortOp; (try dsimp only)
  repeat' (first
    | (with_reducible first | assumption | apply State.odSet_keeps | apply KeepsO.next | apply Keeps.ite | apply KeepsO.ite | apply Keeps.ite1)
    | dsimp only | (with_reducible refine Keeps.fst (by assumption) ?_) | split
    | (simp only [Keeps.mk_iff]; with_reducible apply Keeps.fold))

theorem State.fwCtrl_keeps {z : State} (s : State) (v : Nat) (hz : Keeps z s) : Keeps z (State.fwCtrl s v).1 := by
  unfold State.fwCtrl
  repeat' (first
    | (with_reducible first | assumption | apply State.fwStageOp_keeps | apply State.fwApplyOp_keeps | apply State.fwAbortOp_keeps | apply KeepsO.next | apply Keeps.ite | apply KeepsO.ite | apply Keeps.ite1))

theorem execFwStage_keeps {z : State} (route : Nat) (h : ImgHdr) (s : State) (hz : Keeps z s) : KeepsO z
    (execFwStage route h s) := by
  unfold execFwStage
  repeat' (first
    | (with_reducible first | assumption | apply State.keyWrite_keeps | apply State.route_keeps | apply State.fwStageOp_keeps | apply KeepsO.next | apply Keeps.ite | apply KeepsO.ite | apply Keeps.ite1)
    | dsimp only | (with_reducible refine Keeps.fst (by assumption) ?_) | split
    | (with_reducible intro _; intros; (try dsimp only)))

theorem State.tackWritten_keeps {z : State} (s : State) (hz : Keeps z s) : Keeps z (State.tackWritten s) := by
  unfold State.tackWritten; (try dsimp only)
  repeat' (first
    | (with_reducible first | assumption | apply State.writeTack_keeps | apply State.odSet_keeps | apply State.warmReset_keeps | apply KeepsO.next | apply Keeps.ite | apply KeepsO.ite | apply Keeps.ite1)
    | dsimp only | (with_reducible refine Keeps.fst (by assumption) ?_) | split
    | (simp only [Keeps.mk_iff]; with_reducible apply Keeps.fold))

theorem execFwStageVerified_keeps {z : State} (s : State) (hz : Keeps z s) : KeepsO z (execFwStageVerified s) := by
  unfold execFwStageVerified; (try dsimp only)
  repeat' (first
    | (with_reducible first | assumption | apply State.tackWritten_keeps | apply State.odSet_keeps | apply State.logEv_keeps | apply KeepsO.next | apply Keeps.ite | apply KeepsO.ite | apply Keeps.ite1)
    | dsimp only | (with_reducible refine Keeps.fst (by assumption) ?_) | split
    | (simp only [Keeps.mk_iff]; with_reducible apply Keeps.fold))

theorem execFwApply_keeps {z : State} (route : Nat) (s : State) (hz : Keeps z s) : KeepsO z (execFwApply route s) :=
    by
  unfold execFwApply
  repeat' (first
    | (with_reducible first | assumption | apply State.keyWrite_keeps | apply State.route_keeps | apply State.fwApplyOp_keeps | apply KeepsO.next))

theorem execFwAbort_keeps {z : State} (route : Nat) (s : State) (hz : Keeps z s) : KeepsO z (execFwAbort route s) :=
    by
  unfold execFwAbort
  repeat' (first
    | (with_reducible first | assumption | apply State.keyWrite_keeps | apply State.route_keeps | apply State.fwAbortOp_keeps | apply KeepsO.next))

theorem State.groomAway_keeps {z : State} (s : State) (g : Nat) (hz : Keeps z s) : Keeps z (State.groomAway s g) := by
  unfold State.groomAway; (try dsimp only)
  repeat' (first
    | (with_reducible first | assumption | apply State.modGroom_keeps | apply State.askBay_keeps | apply KeepsO.next | apply Keeps.ite | apply KeepsO.ite | apply Keeps.ite1)
    | dsimp only | (with_reducible refine Keeps.fst (by assumption) ?_) | split
    | (simp only [Keeps.mk_iff]; with_reducible apply Keeps.fold))

theorem State.groomBack_keeps {z : State} (s : State) (g : Nat) (hz : Keeps z s) : Keeps z (State.groomBack s g) := by
  unfold State.groomBack; (try dsimp only)
  repeat' (first
    | (with_reducible first | assumption | apply State.updateDone_keeps | apply State.modGroom_keeps | apply State.moveUnit_keeps | apply State.askBay_keeps | apply State.railRefresh_keeps | apply KeepsO.next | apply Keeps.ite | apply KeepsO.ite | apply Keeps.ite1)
    | dsimp only | (with_reducible refine Keeps.fst (by assumption) ?_) | split
    | (simp only [Keeps.mk_iff]; with_reducible apply Keeps.fold))

theorem execFwUnitSwitch_keeps {z : State} (unit : Nat) (s : State) (hz : Keeps z s) : KeepsO z (execFwUnitSwitch
    unit s) := by
  unfold execFwUnitSwitch; (try dsimp only)
  repeat' (first
    | (with_reducible first | assumption | apply State.groomBack_keeps | apply State.updateDone_keeps | apply State.odSet_keeps | apply State.moveUnit_keeps | apply State.groomAway_keeps | apply KeepsO.next | apply Keeps.ite | apply KeepsO.ite | apply Keeps.ite1)
    | dsimp only | (with_reducible refine Keeps.fst (by assumption) ?_) | split
    | (simp only [Keeps.mk_iff]; with_reducible apply Keeps.fold))

theorem State.usePkg_keeps {z : State} (s : State) (h : ImgHdr) (status : Nat) (hz : Keeps z s) : Keeps z
    (State.usePkg s h status) := by
  unfold State.usePkg; (try dsimp only)
  repeat' (first
    | (with_reducible first | assumption | apply State.odSet_keeps | apply State.logEv_keeps | apply KeepsO.next | apply Keeps.ite | apply KeepsO.ite | apply Keeps.ite1)
    | dsimp only | (with_reducible refine Keeps.fst (by assumption) ?_) | split
    | (simp only [Keeps.mk_iff]; with_reducible apply Keeps.fold))

theorem State.farStageOp_keeps {z : State} (s : State) (h : ImgHdr) (hz : Keeps z s) : Keeps z (State.farStageOp s
    h).1 := by
  unfold State.farStageOp; (try dsimp only)
  repeat' (first
    | (with_reducible first | assumption | apply State.usePkg_keeps | apply State.odSet_keeps | apply KeepsO.next | apply Keeps.ite))

theorem State.farCtrl_keeps {z : State} (s : State) (v : Nat) (hz : Keeps z s) : Keeps z (State.farCtrl s v).1 := by
  unfold State.farCtrl
  repeat' (first
    | (with_reducible first | assumption | apply State.farStageOp_keeps | apply State.usePkg_keeps | apply KeepsO.next | apply Keeps.ite | apply KeepsO.ite | apply Keeps.ite1))

theorem execFarrierStage_keeps {z : State} (route : Nat) (h : ImgHdr) (s : State) (hz : Keeps z s) : KeepsO z
    (execFarrierStage route h s) := by
  unfold execFarrierStage
  repeat' (first
    | (with_reducible first | assumption | apply State.keyWrite_keeps | apply State.route_keeps | apply State.farStageOp_keeps | apply KeepsO.next | apply Keeps.ite | apply KeepsO.ite | apply Keeps.ite1)
    | dsimp only | (with_reducible refine Keeps.fst (by assumption) ?_) | split
    | (with_reducible intro _; intros; (try dsimp only)))

theorem execFarrierRevert_keeps {z : State} (route : Nat) (s : State) (hz : Keeps z s) : KeepsO z (execFarrierRevert
    route s) := by
  unfold execFarrierRevert
  repeat' (first
    | (with_reducible first | assumption | apply State.keyWrite_keeps | apply State.route_keeps | apply State.farCtrl_keeps | apply KeepsO.next | apply Keeps.ite | apply KeepsO.ite | apply Keeps.ite1)
    | dsimp only | (with_reducible refine Keeps.fst (by assumption) ?_) | split
    | (with_reducible intro _; intros; (try dsimp only)))

theorem execFarrierRunStart_keeps {z : State} (isUpc : Bool) (unit : Nat) (s : State) (hz : Keeps z s) : KeepsO z
    (execFarrierRunStart isUpc unit s) := by
  unfold execFarrierRunStart; (try dsimp only)
  repeat' (first
    | (with_reducible first | assumption | apply State.wantPower_keeps | apply State.modCl_keeps | apply State.fetchRun_keeps | apply State.odAdd_keeps | apply KeepsO.next | apply Keeps.ite | apply KeepsO.ite | apply Keeps.ite1)
    | dsimp only | (with_reducible refine Keeps.fst (by assumption) ?_) | split
    | (simp only [Keeps.mk_iff]; with_reducible apply Keeps.fold))

theorem State.passUnit_keeps {z : State} (s : State) (r : StudRec) (known : Bool) (hz : Keeps z s) : Keeps z
    (State.passUnit s r known) := by
  unfold State.passUnit; (try dsimp only)
  repeat' (first
    | (with_reducible first | assumption | apply State.studPut_keeps | apply State.studReturn_keeps | apply KeepsO.next | apply Keeps.ite))

theorem State.dropRun_keeps {z : State} (s : State) (isUpc : Bool) (unit : Nat) (hz : Keeps z s) : Keeps z
    (State.dropRun s isUpc unit) := by
  unfold State.dropRun; (try dsimp only)
  repeat' (first
    | (with_reducible first | assumption | apply State.stopRun_keeps | apply KeepsO.next | apply Keeps.ite | apply KeepsO.ite | apply Keeps.ite1)
    | dsimp only | (with_reducible refine Keeps.fst (by assumption) ?_) | split
    | (simp only [Keeps.mk_iff]; with_reducible apply Keeps.fold))

theorem State.afterRun_keeps {z : State} (s : State) (x : SiteId) (visited : Bool) (hz : Keeps z s) : Keeps z
    (State.afterRun s x visited) := by
  unfold State.afterRun; (try dsimp only)
  repeat' (first
    | (with_reducible first | assumption | apply State.switchOff_keeps | apply State.wipeSite_keeps | apply State.modCl_keeps | apply State.modPart_keeps | apply State.lend_keeps | apply KeepsO.next | apply Keeps.ite | apply KeepsO.ite | apply Keeps.ite1)
    | dsimp only | (with_reducible refine Keeps.fst (by assumption) ?_) | split)

theorem State.rejoinSite_keeps {z : State} (s : State) (x : SiteId) (hz : Keeps z s) : Keeps z (State.rejoinSite s
    x) := by
  unfold State.rejoinSite; (try dsimp only)
  repeat' (first
    | (with_reducible first | assumption | apply State.setLogical_keeps | apply State.modCl_keeps | apply State.abandonRun_keeps | apply State.countOffered_keeps | apply State.checkFloors_keeps | apply KeepsO.next | apply Keeps.ite | apply KeepsO.ite | apply Keeps.ite1)
    | dsimp only | (with_reducible refine Keeps.fst (by assumption) ?_) | split)

theorem State.passSite_keeps {z : State} (s : State) (x : SiteId) (known : Bool) (hz : Keeps z s) : Keeps z
    (State.passSite s x known) := by
  unfold State.passSite; (try dsimp only)
  repeat' (first
    | (with_reducible first | assumption | apply State.passUnit_keeps | apply State.rejoinSite_keeps | apply State.odSet_keeps | apply State.modCl_keeps | apply State.afterRun_keeps | apply KeepsO.next | apply Keeps.ite | apply KeepsO.ite | apply Keeps.ite1)
    | dsimp only | (with_reducible apply Keeps.foldl; (try intro _ _ _); (try dsimp only)))

theorem State.failSite_keeps {z : State} (s : State) (x : SiteId) (known : Bool) (test : Nat) (hz : Keeps z s) :
    Keeps z (State.failSite s x known test) := by
  unfold State.failSite; (try dsimp only)
  repeat' (first
    | (with_reducible first | assumption | apply State.studHard_keeps | apply State.studFail_keeps | apply State.fenceSite_keeps | apply State.abandonRun_keeps | apply State.switchOff_keeps | apply State.lend_keeps | apply KeepsO.next | apply Keeps.ite | apply KeepsO.ite | apply Keeps.ite1)
    | dsimp only | (with_reducible apply Keeps.foldl; (try intro _ _ _); (try dsimp only))
    | (with_reducible apply Keeps.foldl1; (try intro _ _ _); (try dsimp only))
    | (with_reducible refine Keeps.fst (by assumption) ?_) | split)

theorem State.passUpc_keeps {z : State} (s : State) (u : Nat) (known : Bool) (hz : Keeps z s) : Keeps z
    (State.passUpc s u known) := by
  unfold State.passUpc; (try dsimp only)
  repeat' (first
    | (with_reducible first | assumption | apply State.passUnit_keeps | apply KeepsO.next | apply Keeps.ite | apply KeepsO.ite | apply Keeps.ite1)
    | dsimp only | (with_reducible refine Keeps.fst (by assumption) ?_) | split
    | (simp only [Keeps.mk_iff]; with_reducible apply Keeps.fold))

theorem State.failUpc_keeps {z : State} (s : State) (u : Nat) (known : Bool) (test : Nat) (hz : Keeps z s) : Keeps z
    (State.failUpc s u known test) := by
  unfold State.failUpc; (try dsimp only)
  repeat' (first
    | (with_reducible first | assumption | apply State.studHard_keeps | apply State.studFail_keeps | apply State.askDrain_keeps | apply KeepsO.next | apply Keeps.ite | apply KeepsO.ite | apply Keeps.ite1)
    | dsimp only | (with_reducible refine Keeps.fst (by assumption) ?_) | split
    | (simp only [Keeps.mk_iff]; with_reducible apply Keeps.fold))

theorem State.suspectEv_keeps {z : State} (s : State) (isUpc : Bool) (unit test cause : Nat) (hz : Keeps z s) :
    Keeps z (State.suspectEv s isUpc unit test cause) := by
  unfold State.suspectEv; (try dsimp only)
  repeat' (first
    | (with_reducible first | assumption | apply State.odAdd_keeps | apply State.logEv_keeps))

theorem State.endSuspect_keeps {z : State} (s : State) (r : FarRun) (test cause : Nat) (hz : Keeps z s) : Keeps z
    (State.endSuspect s r test cause) := by
  unfold State.endSuspect; (try dsimp only)
  repeat' (first
    | (with_reducible first | assumption | apply State.dropRun_keeps | apply State.suspectEv_keeps | apply State.failUpc_keeps | apply State.failSite_keeps | apply KeepsO.next | apply Keeps.ite))

theorem execFarrierRunEnd_keeps {z : State} (isUpc : Bool) (unit : Nat) (digest : BitVec 256) (faulted : Bool) (test
    : Nat) (s : State) (hz : Keeps z s) : KeepsO z (execFarrierRunEnd isUpc unit digest faulted test s) := by
  unfold execFarrierRunEnd; (try dsimp only)
  repeat' (first
    | (with_reducible first | assumption | apply State.dropRun_keeps | apply State.passUpc_keeps | apply State.passSite_keeps | apply State.endSuspect_keeps | apply KeepsO.next | apply Keeps.ite | apply KeepsO.ite | apply Keeps.ite1)
    | dsimp only | (with_reducible refine Keeps.fst (by assumption) ?_) | split)

theorem execFarrierRunTimeout_keeps {z : State} (isUpc : Bool) (unit : Nat) (s : State) (hz : Keeps z s) : KeepsO z
    (execFarrierRunTimeout isUpc unit s) := by
  unfold execFarrierRunTimeout; (try dsimp only)
  repeat' (first
    | (with_reducible first | assumption | apply State.useFree_keeps | apply State.endSuspect_keeps | apply KeepsO.next | apply Keeps.ite | apply KeepsO.ite | apply Keeps.ite1)
    | dsimp only | (with_reducible refine Keeps.fst (by assumption) ?_) | split)

theorem execFarrierOverdue_keeps {z : State} (site : SiteId) (s : State) (hz : Keeps z s) : KeepsO z
    (execFarrierOverdue site s) := by
  unfold execFarrierOverdue; (try dsimp only)
  repeat' (first
    | (with_reducible first | assumption | apply State.logEv_keeps | apply KeepsO.next | apply Keeps.ite | apply KeepsO.ite | apply Keeps.ite1)
    | dsimp only | (with_reducible refine Keeps.fst (by assumption) ?_) | split
    | (simp only [Keeps.mk_iff]; with_reducible apply Keeps.fold))

theorem execAttestationCertificateIssued_keeps {z : State} (s : State) (hz : Keeps z s) : KeepsO z
    (execAttestationCertificateIssued s) := by
  unfold execAttestationCertificateIssued; (try dsimp only)
  repeat' (first
    | (with_reducible first | assumption | apply KeepsO.next | apply Keeps.ite | apply KeepsO.ite | apply Keeps.ite1)
    | dsimp only | (with_reducible refine Keeps.fst (by assumption) ?_) | split
    | (simp only [Keeps.mk_iff]; with_reducible apply Keeps.fold))

theorem State.quoteWrite_keeps {z : State} (s : State) (slot v : Nat) (hz : Keeps z s) : Keeps z (State.quoteWrite s
    slot v).1 := by
  unfold State.quoteWrite; (try dsimp only)
  repeat' (first
    | (with_reducible first | assumption | apply State.odSet_keeps | apply KeepsO.next | apply Keeps.ite | apply KeepsO.ite | apply Keeps.ite1)
    | dsimp only | (with_reducible refine Keeps.fst (by assumption) ?_) | split
    | (simp only [Keeps.mk_iff]; with_reducible apply Keeps.fold))

theorem execQuoteCtrl_keeps {z : State} (route : Nat) (v : BitVec 8) (s : State) (hz : Keeps z s) : KeepsO z
    (execQuoteCtrl route v s) := by
  unfold execQuoteCtrl; (try dsimp only)
  repeat' (first
    | (with_reducible first | assumption | apply State.route_keeps | apply State.keyWrite_keeps | apply State.quoteWrite_keeps | apply KeepsO.next | apply Keeps.ite | apply KeepsO.ite | apply Keeps.ite1)
    | dsimp only | (with_reducible refine Keeps.fst (by assumption) ?_) | split
    | (with_reducible intro _; intros; (try dsimp only)))

theorem execQuoteSign_keeps {z : State} (s : State) (hz : Keeps z s) : KeepsO z (execQuoteSign s) := by
  unfold execQuoteSign; (try dsimp only)
  repeat' (first
    | (with_reducible first | assumption | apply State.odSet_keeps | apply State.octetsSet_keeps | apply State.logEv_keeps | apply KeepsO.next | apply Keeps.ite | apply KeepsO.ite | apply Keeps.ite1)
    | dsimp only | (with_reducible refine Keeps.fst (by assumption) ?_) | split
    | (simp only [Keeps.mk_iff]; with_reducible apply Keeps.fold))

theorem State.setSel_keeps {z : State} (s : State) (route k v : Nat) (hz : Keeps z s) : Keeps z (State.setSel s
    route k v) := by
  unfold State.setSel; (try dsimp only)
  repeat' (first
    | (with_reducible first | assumption | apply State.route_keeps | apply KeepsO.next | apply Keeps.ite | apply KeepsO.ite | apply Keeps.ite1)
    | dsimp only | (with_reducible refine Keeps.fst (by assumption) ?_) | split
    | (simp only [Keeps.mk_iff]; with_reducible apply Keeps.fold))

theorem State.newChallenge_keeps {z : State} (s : State) (hz : Keeps z s) : Keeps z (State.newChallenge s) := by
  unfold State.newChallenge; (try dsimp only)
  repeat' (first
    | (with_reducible first | assumption | apply KeepsO.next | apply Keeps.ite | apply KeepsO.ite | apply Keeps.ite1)
    | dsimp only | (with_reducible refine Keeps.fst (by assumption) ?_) | split
    | (simp only [Keeps.mk_iff]; with_reducible apply Keeps.fold))

theorem execAuthChallenge_keeps {z : State} (route : Nat) (s : State) (hz : Keeps z s) : KeepsO z (execAuthChallenge
    route s) := by
  unfold execAuthChallenge; (try dsimp only)
  repeat' (first
    | (with_reducible first | assumption | apply State.route_keeps | apply State.hostLost_keeps | apply State.odFail_keeps | apply State.odNoRights_keeps | apply State.newChallenge_keeps | apply State.odAnswer_keeps | apply KeepsO.next | apply Keeps.ite | apply KeepsO.ite | apply Keeps.ite1)
    | dsimp only | (with_reducible refine Keeps.fst (by assumption) ?_) | split)

theorem State.authStatus_keeps {z : State} (s : State) (v : Nat) (hz : Keeps z s) : Keeps z (State.authStatus s v)
    := by
  unfold State.authStatus
  repeat' (first
    | (with_reducible first | assumption | apply State.odSet_keeps))

theorem State.authCheck_keeps {z : State} (s : State) (route : Nat) (pw : Bool) (hz : Keeps z s) : Keeps z
    (State.authCheck s route pw) := by
  unfold State.authCheck; (try dsimp only)
  repeat' (first
    | (with_reducible first | assumption | apply State.route_keeps | apply State.authStatus_keeps | apply State.odSet_keeps | apply State.logEv_keeps | apply KeepsO.next | apply Keeps.ite | apply KeepsO.ite | apply Keeps.ite1)
    | dsimp only | (with_reducible refine Keeps.fst (by assumption) ?_) | split
    | (simp only [Keeps.mk_iff]; with_reducible apply Keeps.fold))

theorem State.authWrite_keeps {z : State} (s : State) (route v : Nat) (hz : Keeps z s) : Keeps z (State.authWrite s
    route v).1 := by
  unfold State.authWrite
  repeat' (first
    | (with_reducible first | assumption | apply State.authCheck_keeps | apply State.route_keeps | apply KeepsO.next | apply Keeps.ite | apply KeepsO.ite | apply Keeps.ite1))

theorem execAuthCheckSignature_keeps {z : State} (route : Nat) (s : State) (hz : Keeps z s) : KeepsO z
    (execAuthCheckSignature route s) := by
  unfold execAuthCheckSignature
  repeat' (first
    | (with_reducible first | assumption | apply State.keyWrite_keeps | apply State.route_keeps | apply State.authWrite_keeps | apply KeepsO.next | apply Keeps.ite | apply KeepsO.ite | apply Keeps.ite1)
    | dsimp only | (with_reducible refine Keeps.fst (by assumption) ?_) | split
    | (with_reducible intro _; intros; (try dsimp only)))

theorem execAuthCheckPassword_keeps {z : State} (route : Nat) (s : State) (hz : Keeps z s) : KeepsO z
    (execAuthCheckPassword route s) := by
  unfold execAuthCheckPassword
  repeat' (first
    | (with_reducible first | assumption | apply State.keyWrite_keeps | apply State.route_keeps | apply State.authWrite_keeps | apply KeepsO.next | apply Keeps.ite | apply KeepsO.ite | apply Keeps.ite1)
    | dsimp only | (with_reducible refine Keeps.fst (by assumption) ?_) | split
    | (with_reducible intro _; intros; (try dsimp only)))

theorem State.unlock_keeps {z : State} (s : State) (route op : Nat) (pw : Bool) (hz : Keeps z s) : Keeps z
    (State.unlock s route op pw) := by
  unfold State.unlock; (try dsimp only)
  repeat' (first
    | (with_reducible first | assumption | apply State.route_keeps | apply State.authStatus_keeps | apply State.logEv_keeps | apply KeepsO.next | apply Keeps.ite | apply KeepsO.ite | apply Keeps.ite1)
    | dsimp only | (with_reducible refine Keeps.fst (by assumption) ?_) | split
    | (simp only [Keeps.mk_iff]; with_reducible apply Keeps.fold))

theorem execUnlockTest_keeps {z : State} (route : Nat) (password : Bool) (s : State) (hz : Keeps z s) : KeepsO z
    (execUnlockTest route password s) := by
  unfold execUnlockTest
  repeat' (first
    | (with_reducible first | assumption | apply State.unlock_keeps | apply State.route_keeps | apply KeepsO.next))

theorem execUnlockObserve_keeps {z : State} (route : Nat) (password : Bool) (s : State) (hz : Keeps z s) : KeepsO z
    (execUnlockObserve route password s) := by
  unfold execUnlockObserve
  repeat' (first
    | (with_reducible first | assumption | apply State.unlock_keeps | apply State.route_keeps | apply KeepsO.next))

theorem execUnlockFull_keeps {z : State} (route : Nat) (password : Bool) (s : State) (hz : Keeps z s) : KeepsO z
    (execUnlockFull route password s) := by
  unfold execUnlockFull
  repeat' (first
    | (with_reducible first | assumption | apply State.unlock_keeps | apply State.route_keeps | apply KeepsO.next))

theorem State.eraseOwner_keeps {z : State} (s : State) (hz : Keeps z s) : Keeps z (State.eraseOwner s) := by
  unfold State.eraseOwner; (try dsimp only)
  repeat' (first
    | (with_reducible first | assumption | apply KeepsO.next | apply Keeps.ite | apply KeepsO.ite | apply Keeps.ite1)
    | dsimp only | (with_reducible refine Keeps.fst (by assumption) ?_) | split
    | (simp only [Keeps.mk_iff]; with_reducible apply Keeps.fold))

theorem State.lifeTo_keeps {z : State} (s : State) (new : Nat) (hz : Keeps z s) : Keeps z (State.lifeTo s new) := by
  unfold State.lifeTo; (try dsimp only)
  repeat' (first
    | (with_reducible first | assumption | apply State.odSet_keeps | apply State.authStatus_keeps | apply State.logEv_keeps | apply KeepsO.next | apply Keeps.ite | apply KeepsO.ite | apply Keeps.ite1)
    | dsimp only | (with_reducible refine Keeps.fst (by assumption) ?_) | split
    | (simp only [Keeps.mk_iff]; with_reducible apply Keeps.fold))

theorem State.newOwner_keeps {z : State} (s : State) (epoch : Nat) (arg : List Byte) (hz : Keeps z s) : Keeps z
    (State.newOwner s epoch arg) := by
  unfold State.newOwner; (try dsimp only)
  repeat' (first
    | (with_reducible first | assumption | apply State.odSet_keeps | apply KeepsO.next | apply Keeps.ite | apply KeepsO.ite | apply Keeps.ite1)
    | dsimp only | (with_reducible refine Keeps.fst (by assumption) ?_) | split
    | (simp only [Keeps.mk_iff]; with_reducible apply Keeps.fold))

theorem State.lifeOp_keeps {z : State} (s : State) (route op : Nat) (k : State → State) (hz : Keeps z s) (hk : ∀ t,
    Keeps z t → Keeps z (k t)) : Keeps z (State.lifeOp s route op k) := by
  unfold State.lifeOp; (try dsimp only)
  repeat' (first
    | (with_reducible first | assumption | apply hk | apply State.route_keeps | apply State.authStatus_keeps | apply KeepsO.next | apply Keeps.ite | apply KeepsO.ite | apply Keeps.ite1)
    | dsimp only | (with_reducible refine Keeps.fst (by assumption) ?_) | split
    | (simp only [Keeps.mk_iff]; with_reducible apply Keeps.fold))

theorem execLifecycleField_keeps {z : State} (route : Nat) (s : State) (hz : Keeps z s) : KeepsO z
    (execLifecycleField route s) := by
  unfold execLifecycleField; (try dsimp only)
  repeat' (first
    | (with_reducible first | assumption | apply State.lifeOp_keeps | apply State.route_keeps | apply State.lifeTo_keeps | apply KeepsO.next | apply Keeps.ite | apply KeepsO.ite | apply Keeps.ite1)
    | dsimp only | (with_reducible refine Keeps.fst (by assumption) ?_) | split
    | (simp only [Keeps.mk_iff]; with_reducible apply Keeps.fold)
    | (with_reducible intro _; intros; (try dsimp only)))

theorem execLifecycleTransfer_keeps {z : State} (route : Nat) (s : State) (hz : Keeps z s) : KeepsO z
    (execLifecycleTransfer route s) := by
  unfold execLifecycleTransfer
  repeat' (first
    | (with_reducible first | assumption | apply State.lifeOp_keeps | apply State.route_keeps | apply State.newOwner_keeps | apply State.eraseOwner_keeps | apply State.lifeTo_keeps | apply KeepsO.next | apply Keeps.ite | apply KeepsO.ite | apply Keeps.ite1)
    | dsimp only | (with_reducible refine Keeps.fst (by assumption) ?_) | split
    | (with_reducible intro _; intros; (try dsimp only)))

theorem execLifecycleRetire_keeps {z : State} (route : Nat) (s : State) (hz : Keeps z s) : KeepsO z
    (execLifecycleRetire route s) := by
  unfold execLifecycleRetire
  repeat' (first
    | (with_reducible first | assumption | apply State.lifeOp_keeps | apply State.route_keeps | apply State.eraseOwner_keeps | apply State.lifeTo_keeps | apply KeepsO.next | apply Keeps.ite | apply KeepsO.ite | apply Keeps.ite1)
    | dsimp only | (with_reducible refine Keeps.fst (by assumption) ?_) | split
    | (with_reducible intro _; intros; (try dsimp only)))

theorem execLifecycleClaim_keeps {z : State} (route : Nat) (s : State) (hz : Keeps z s) : KeepsO z
    (execLifecycleClaim route s) := by
  unfold execLifecycleClaim; (try dsimp only)
  repeat' (first
    | (with_reducible first | assumption | apply State.route_keeps | apply State.lifeOp_keeps | apply State.newOwner_keeps | apply State.lifeTo_keeps | apply KeepsO.next | apply Keeps.ite | apply KeepsO.ite | apply Keeps.ite1)
    | dsimp only | (with_reducible refine Keeps.fst (by assumption) ?_) | split
    | (simp only [Keeps.mk_iff]; with_reducible apply Keeps.fold)
    | (with_reducible intro _; intros; (try dsimp only)))

theorem State.fusePw_keeps {z : State} (s : State) (d : BitVec 256) (hz : Keeps z s) : Keeps z (State.fusePw s d) :=
    by
  unfold State.fusePw; (try dsimp only)
  repeat' (first
    | (with_reducible first | assumption | apply KeepsO.next | apply Keeps.ite | apply KeepsO.ite | apply Keeps.ite1)
    | dsimp only | (with_reducible refine Keeps.fst (by assumption) ?_) | split
    | (simp only [Keeps.mk_iff]; with_reducible apply Keeps.fold))

theorem execPwDigestWrite_keeps {z : State} (route : Nat) (digest : BitVec 256) (maxScope : Nat) (s : State) (hz :
    Keeps z s) : KeepsO z (execPwDigestWrite route digest maxScope s) := by
  unfold execPwDigestWrite
  repeat' (first
    | (with_reducible first | assumption | apply State.route_keeps | apply State.hostLost_keeps | apply State.odFail_keeps | apply State.odNoRights_keeps | apply State.odFailRow_keeps | apply State.fusePw_keeps | apply State.odSet_keeps | apply KeepsO.next | apply Keeps.ite | apply KeepsO.ite | apply Keeps.ite1)
    | dsimp only | (with_reducible refine Keeps.fst (by assumption) ?_) | split)

theorem State.putIn_keeps {z : State} (s : State) (k lo hi v : Nat) (hz : Keeps z s) : Keeps z (State.putIn s k lo
    hi v).1 := by
  unfold State.putIn
  repeat' (first
    | (with_reducible first | assumption | apply State.odSet_keeps | apply KeepsO.next | apply Keeps.ite | apply KeepsO.ite | apply Keeps.ite1))

theorem State.ringWrite_keeps {z : State} (s : State) (n b v : Nat) (hz : Keeps z s) : Keeps z (State.ringWrite s n
    b v).1 := by
  unfold State.ringWrite; (try dsimp only)
  repeat' (first
    | (with_reducible first | assumption | apply State.modRing_keeps | apply State.ringEnableOp_keeps | apply State.ringDisableOp_keeps | apply State.ringRestartOp_keeps | apply KeepsO.next | apply Keeps.ite | apply KeepsO.ite | apply Keeps.ite1))

theorem State.ceilWrite_keeps {z : State} (s : State) (p v : Nat) (hz : Keeps z s) : Keeps z (State.ceilWrite s p
    v).1 := by
  unfold State.ceilWrite; (try dsimp only)
  repeat' (first
    | (with_reducible first | assumption | apply State.odSet_keeps | apply State.askPoint_keeps | apply KeepsO.next | apply Keeps.ite | apply KeepsO.ite | apply Keeps.ite1)
    | dsimp only | (with_reducible apply Keeps.foldl; (try intro _ _ _); (try dsimp only)))

theorem State.floorWrite_keeps {z : State} (s : State) (k hi v : Nat) (hz : Keeps z s) : Keeps z (State.floorWrite s
    k hi v).1 := by
  unfold State.floorWrite
  repeat' (first
    | (with_reducible first | assumption | apply State.odSet_keeps | apply State.checkFloors_keeps | apply KeepsO.next | apply Keeps.ite | apply KeepsO.ite | apply Keeps.ite1))

theorem State.selWrite_keeps {z : State} (s : State) (route b k v : Nat) (hz : Keeps z s) : Keeps z (State.selWrite
    s route b k v).1 := by
  unfold State.selWrite
  repeat' (first
    | (with_reducible first | assumption | apply State.setSel_keeps | apply State.route_keeps | apply KeepsO.next | apply Keeps.ite | apply KeepsO.ite | apply Keeps.ite1))

theorem State.actWrite_keeps {z : State} (s : State) (route b k n sub v : Nat) (hz : Keeps z s) (x : State × Nat)
    (hx : State.actWrite s route b k n sub v = some x) : Keeps z x.1 := by
  have hs : ∀ {y : State × Nat}, Keeps z y.1 → some y = some x → Keeps z x.1 := fun h e => by cases e; exact h
  have hi : ∀ {c : Prop} [Decidable c] {p q : Option (State × Nat)}, (p = some x → Keeps z x.1) →
      (q = some x → Keeps z x.1) → (if c then p else q) = some x → Keeps z x.1 := fun h1 h2 e => by
    split at e
    · exact h1 e
    · exact h2 e
  revert hx
  unfold State.actWrite
  refine hi (hs (State.drainReqWrite_keeps _ _ hz)) ?_
  refine hi (hs (State.partCtrlWrite_keeps _ _ _ hz)) ?_
  refine hi (hs (State.ceilWrite_keeps _ _ _ hz)) ?_
  refine hi (hs (State.portCtrl_keeps _ _ _ hz)) ?_
  refine hi (hs (State.refSelWrite_keeps _ _ hz)) ?_
  refine hi (hs (State.spreadWrite_keeps _ _ hz)) ?_
  refine hi (hs (State.dtStepWrite_keeps _ _ hz)) ?_
  refine hi (hs (State.freeReenable_keeps _ _ hz)) ?_
  refine hi (fun e => ?_) ?_
  · rw [Option.map_eq_some_iff] at e
    obtain ⟨a, _, rfl⟩ := e
    exact State.minVWrite_keeps _ _ _ hz
  refine hi (hs (State.freeReset_keeps _ _ hz)) ?_
  refine hi (hs (State.ackWrite_keeps _ _ hz)) ?_
  refine hi (hs (State.fwCtrl_keeps _ _ hz)) ?_
  refine hi (hs (State.farCtrl_keeps _ _ hz)) ?_
  refine hi (hs (State.authWrite_keeps _ _ _ hz)) ?_
  refine hi (hs (State.quoteWrite_keeps _ _ _ hz)) ?_
  refine hi (hs (State.floorWrite_keeps _ _ _ _ hz)) ?_
  refine hi (hs (State.floorWrite_keeps _ _ _ _ hz)) ?_
  refine hi (hs (Keeps.ite1 (State.odSet_keeps _ _ _ hz) hz)) ?_
  refine hi (hs (Keeps.ite1 ?_ hz)) ?_
  · simp only [Keeps.mk_iff]; exact hz.fold
  refine hi (hs (State.ringWrite_keeps _ _ _ _ hz)) ?_
  refine hi (hs (State.selWrite_keeps _ _ _ _ _ hz)) ?_
  intro e; cases e

theorem State.odPut_keeps {z : State} (s : State) (route : Nat) (r : OdRow) (index sub v : Nat) (hz : Keeps z s) :
    Keeps z (State.odPut s route r index sub v).1 := by
  unfold State.odPut
  dsimp only
  split
  · exact State.actWrite_keeps _ _ _ _ _ _ _ hz _ ‹_›
  · exact State.putIn_keeps _ _ _ _ _ hz

theorem State.odPutBytes_keeps {z : State} (s : State) (route : Nat) (r : OdRow) (index sub off : Nat) (d : List
    Byte) (hz : Keeps z s) : Keeps z (State.odPutBytes s route r index sub off d).1 := by
  unfold State.odPutBytes; (try dsimp only)
  repeat' (first
    | (with_reducible first | assumption | apply State.route_keeps | apply State.octetsSet_keeps | apply State.fusePw_keeps | apply KeepsO.next | apply Keeps.ite | apply KeepsO.ite | apply Keeps.ite1)
    | dsimp only | (with_reducible refine Keeps.fst (by assumption) ?_) | split
    | (simp only [Keeps.mk_iff]; with_reducible apply Keeps.fold))

theorem State.odSub0_keeps {z : State} (s : State) (r : OdReq) (n : Nat) (write : Bool) (hz : Keeps z s) : Keeps z
    (State.odSub0 s r n write) := by
  unfold State.odSub0; (try dsimp only)
  repeat' (first
    | (with_reducible first | assumption | apply State.route_keeps | apply State.odFail_keeps | apply State.odNoRights_keeps | apply State.odFailRow_keeps | apply State.odAnswer_keeps | apply KeepsO.next | apply Keeps.ite))

theorem State.readBytes_keeps {z : State} (s : State) (typ : Nat) (l : List Byte) (off n : Nat) (ok : Bool) (hz :
    Keeps z s) : Keeps z (State.readBytes s typ l off n ok) := by
  unfold State.readBytes
  repeat' (first
    | (with_reducible first | assumption | apply State.odFailRow_keeps | apply State.odAnswer_keeps | apply KeepsO.next | apply Keeps.ite))

theorem State.alertSeen_keeps {z : State} (s : State) (route : Nat) (l : List EvRec) (hz : Keeps z s) : Keeps z
    (State.alertSeen s route l) := by
  unfold State.alertSeen; (try dsimp only)
  repeat' (first
    | (with_reducible first | assumption | apply State.route_keeps | apply KeepsO.next | apply Keeps.ite | apply KeepsO.ite | apply Keeps.ite1)
    | dsimp only | (with_reducible refine Keeps.fst (by assumption) ?_) | split
    | (simp only [Keeps.mk_iff]; with_reducible apply Keeps.fold))

theorem State.readRow_keeps {z : State} (s : State) (r : OdReq) (row : OdRow) (hz : Keeps z s) : Keeps z
    (State.readRow s r row) := by
  unfold State.readRow; (try dsimp only)
  repeat' (first
    | (with_reducible first | assumption | apply State.odFailRow_keeps | apply State.odAnswer_keeps | apply State.route_keeps | apply State.newChallenge_keeps | apply State.readBytes_keeps | apply State.alertSeen_keeps | apply KeepsO.next | apply Keeps.ite))

theorem State.odReadOp_keeps {z : State} (s : State) (r : OdReq) (hz : Keeps z s) : Keeps z (State.odReadOp s r) := by
  unfold State.odReadOp; (try dsimp only)
  repeat' (first
    | (with_reducible first | assumption | apply State.route_keeps | apply State.hostLost_keeps | apply State.odFail_keeps | apply State.odSub0_keeps | apply State.odNoRights_keeps | apply State.readBytes_keeps | apply State.readRow_keeps | apply KeepsO.next | apply Keeps.ite | apply KeepsO.ite | apply Keeps.ite1)
    | dsimp only | (with_reducible refine Keeps.fst (by assumption) ?_) | split)

theorem State.ownerWrite_keeps {z : State} (s : State) (r : OdReq) (hz : Keeps z s) : Keeps z (State.ownerWrite s r)
    := by
  unfold State.ownerWrite; (try dsimp only)
  repeat' (first
    | (with_reducible first | assumption | apply State.route_keeps | apply State.odFail_keeps | apply State.odNoRights_keeps | apply State.odFailRow_keeps | apply KeepsO.next | apply Keeps.ite | apply KeepsO.ite | apply Keeps.ite1)
    | dsimp only | (with_reducible refine Keeps.fst (by assumption) ?_) | split
    | (simp only [Keeps.mk_iff]; with_reducible apply Keeps.fold))

theorem State.writeRow_keeps {z : State} (s : State) (r : OdReq) (row : OdRow) (has : Nat) (hz : Keeps z s) : Keeps
    z (State.writeRow s r row has) := by
  unfold State.writeRow; (try dsimp only)
  repeat' (first
    | (with_reducible first | assumption | apply State.route_keeps | apply State.odFailRow_keeps | apply State.odPut_keeps | apply State.odPutBytes_keeps | apply KeepsO.next | apply Keeps.ite))

theorem State.odWriteOp_keeps {z : State} (s : State) (r : OdReq) (hz : Keeps z s) : Keeps z (State.odWriteOp s r)
    := by
  unfold State.odWriteOp; (try dsimp only)
  repeat' (first
    | (with_reducible first | assumption | apply State.route_keeps | apply State.hostLost_keeps | apply State.odFail_keeps | apply State.odSub0_keeps | apply State.ownerWrite_keeps | apply State.odNoRights_keeps | apply State.writeRow_keeps | apply KeepsO.next | apply Keeps.ite | apply KeepsO.ite | apply Keeps.ite1)
    | dsimp only | (with_reducible refine Keeps.fst (by assumption) ?_) | split)

theorem execOdRead_keeps {z : State} (r : OdReq) (s : State) (hz : Keeps z s) : KeepsO z (execOdRead r s) := by
  unfold execOdRead
  repeat' (first
    | (with_reducible first | assumption | apply State.odReadOp_keeps | apply KeepsO.next))

theorem execOdWrite_keeps {z : State} (r : OdReq) (s : State) (hz : Keeps z s) : KeepsO z (execOdWrite r s) := by
  unfold execOdWrite
  repeat' (first
    | (with_reducible first | assumption | apply State.odWriteOp_keeps | apply KeepsO.next))

theorem execRegisterWrite_keeps {z : State} (r : OdReq) (s : State) (hz : Keeps z s) : KeepsO z (execRegisterWrite r
    s) := by
  unfold execRegisterWrite
  repeat' (first
    | (with_reducible first | assumption | apply State.odWriteOp_keeps | apply KeepsO.next | apply Keeps.ite))

theorem State.sideAnswer_keeps {z : State} (s : State) (route : Nat) (udp : Datagram) (b : List Byte) (hz : Keeps z
    s) : Keeps z (State.sideAnswer s route udp b) := by
  unfold State.sideAnswer; (try dsimp only)
  repeat' (first
    | (with_reducible first | assumption | apply State.route_keeps | apply KeepsO.next | apply Keeps.ite | apply KeepsO.ite | apply Keeps.ite1)
    | dsimp only | (with_reducible refine Keeps.fst (by assumption) ?_) | split
    | (simp only [Keeps.mk_iff]; with_reducible apply Keeps.fold))

theorem State.frameApply_keeps {z : State} (s : State) (route : Nat) (f : List Byte) (udp : Datagram) (hz : Keeps z
    s) : Keeps z (State.frameApply s route f udp) := by
  unfold State.frameApply; (try dsimp only)
  repeat' (first
    | (with_reducible first | assumption | apply State.route_keeps | apply State.odWriteOp_keeps | apply State.odReadOp_keeps | apply State.sideAnswer_keeps | apply KeepsO.next | apply Keeps.ite | apply KeepsO.ite | apply Keeps.ite1)
    | dsimp only | (with_reducible refine Keeps.fst (by assumption) ?_) | split
    | (simp only [Keeps.mk_iff]; with_reducible apply Keeps.fold))

theorem execSidebandFrame_keeps {z : State} (route : Nat) (f : SideIn) (s : State) (hz : Keeps z s) : KeepsO z
    (execSidebandFrame route f s) := by
  unfold execSidebandFrame
  repeat' (first
    | (with_reducible first | assumption | apply State.route_keeps | apply State.odAdd_keeps | apply State.sideAnswer_keeps | apply State.frameApply_keeps | apply KeepsO.next | apply Keeps.ite | apply KeepsO.ite | apply Keeps.ite1)
    | dsimp only | (with_reducible refine Keeps.fst (by assumption) ?_) | split)

theorem execI3cPrivateRead_keeps {z : State} (port : Nat) (s : State) (hz : Keeps z s) : KeepsO z
    (execI3cPrivateRead port s) := by
  unfold execI3cPrivateRead
  repeat' (first
    | (with_reducible first | assumption | apply KeepsO.next | apply Keeps.ite | apply KeepsO.ite | apply Keeps.ite1)
    | dsimp only | (with_reducible refine Keeps.fst (by assumption) ?_) | split
    | (simp only [Keeps.mk_iff]; with_reducible apply Keeps.fold))

theorem execI3cAddressAssign_keeps {z : State} (port : Nat) (setdasa : Bool) (static : BitVec 7) (dynamic : BitVec
    7) (s : State) (hz : Keeps z s) : KeepsO z (execI3cAddressAssign port setdasa static dynamic s) := by
  unfold execI3cAddressAssign; (try dsimp only)
  repeat' (first
    | (with_reducible first | assumption | apply KeepsO.next | apply Keeps.ite | apply KeepsO.ite | apply Keeps.ite1)
    | dsimp only | (with_reducible refine Keeps.fst (by assumption) ?_) | split
    | (simp only [Keeps.mk_iff]; with_reducible apply Keeps.fold))

theorem execArpRequest_keeps {z : State} (target : BitVec 32) (srcMac : BitVec 48) (srcIp : BitVec 32) (s : State)
    (hz : Keeps z s) : KeepsO z (execArpRequest target srcMac srcIp s) := by
  unfold execArpRequest
  repeat' (first
    | (with_reducible first | assumption | apply KeepsO.next | apply Keeps.ite | apply KeepsO.ite | apply Keeps.ite1)
    | dsimp only | (with_reducible refine Keeps.fst (by assumption) ?_) | split
    | (simp only [Keeps.mk_iff]; with_reducible apply Keeps.fold))

theorem execIcmpEcho_keeps {z : State} (target : BitVec 32) (srcIp : BitVec 32) (payload : List Byte) (s : State)
    (hz : Keeps z s) : KeepsO z (execIcmpEcho target srcIp payload s) := by
  unfold execIcmpEcho
  repeat' (first
    | (with_reducible first | assumption | apply KeepsO.next | apply Keeps.ite | apply KeepsO.ite | apply Keeps.ite1)
    | dsimp only | (with_reducible refine Keeps.fst (by assumption) ?_) | split
    | (simp only [Keeps.mk_iff]; with_reducible apply Keeps.fold))

theorem State.convOff_keeps {z : State} (s : State) (hz : Keeps z s) : Keeps z (State.convOff s) := by
  unfold State.convOff
  repeat' (first
    | (with_reducible first | assumption | apply State.modBay_keeps | apply KeepsO.next | apply Keeps.ite | apply KeepsO.ite | apply Keeps.ite1)
    | dsimp only | (with_reducible apply Keeps.foldl; (try intro _ _ _); (try dsimp only)))

theorem execPwrgoodFall_keeps {z : State} (s : State) (hz : Keeps z s) : KeepsO z (execPwrgoodFall s) := by
  unfold execPwrgoodFall; (try dsimp only)
  repeat' (first
    | (with_reducible first | assumption | apply State.allOff_keeps | apply State.convOff_keeps | apply KeepsO.next | apply Keeps.ite | apply KeepsO.ite | apply Keeps.ite1)
    | dsimp only | (with_reducible refine Keeps.fst (by assumption) ?_) | split
    | (simp only [Keeps.mk_iff]; with_reducible apply Keeps.fold))

theorem execResetNAssert_keeps {z : State} (lowNs : Nat) (s : State) (hz : Keeps z s) : KeepsO z (execResetNAssert
    lowNs s) := by
  unfold execResetNAssert; (try dsimp only)
  repeat' (first
    | (with_reducible first | assumption | apply State.modGroom_keeps | apply State.allOff_keeps | apply State.convOff_keeps | apply KeepsO.next | apply Keeps.ite | apply KeepsO.ite | apply Keeps.ite1)
    | dsimp only | (with_reducible apply Keeps.foldl; (try intro _ _ _); (try dsimp only))
    | (with_reducible apply Keeps.foldl1; (try intro _ _ _); (try dsimp only))
    | (with_reducible refine Keeps.fst (by assumption) ?_) | split
    | (simp only [Keeps.mk_iff]; with_reducible apply Keeps.fold))

theorem execResetNRelease_keeps {z : State} (find : StartFind) (s : State) (hz : Keeps z s) : KeepsO z
    (execResetNRelease find s) := by
  unfold execResetNRelease; (try dsimp only)
  repeat' (first
    | (with_reducible first | assumption | apply State.coldStart_keeps | apply KeepsO.next | apply Keeps.ite | apply KeepsO.ite | apply Keeps.ite1)
    | dsimp only | (with_reducible refine Keeps.fst (by assumption) ?_) | split
    | (simp only [Keeps.mk_iff]; with_reducible apply Keeps.fold))

theorem State.dieLost_keeps {z : State} (s : State) (k : Nat) (hz : Keeps z s) : Keeps z (State.dieLost s k) := by
  unfold State.dieLost; (try dsimp only)
  repeat' (first
    | (with_reducible first | assumption | apply State.linkDown_keeps | apply State.nodeUnfed_keeps | apply KeepsO.next | apply Keeps.ite | apply KeepsO.ite | apply Keeps.ite1)
    | dsimp only | (with_reducible apply Keeps.foldl; (try intro _ _ _); (try dsimp only)))

theorem State.moduleStop_keeps {z : State} (s : State) (hz : Keeps z s) : Keeps z (State.moduleStop s) := by
  unfold State.moduleStop; (try dsimp only)
  repeat' (first
    | (with_reducible first | assumption | apply State.stepLost_keeps | apply State.allOff_keeps | apply KeepsO.next | apply Keeps.ite | apply KeepsO.ite | apply Keeps.ite1)
    | dsimp only | (with_reducible apply Keeps.foldl; (try intro _ _ _); (try dsimp only))
    | (with_reducible apply Keeps.foldl1; (try intro _ _ _); (try dsimp only))
    | (with_reducible refine Keeps.fst (by assumption) ?_) | split
    | (simp only [Keeps.mk_iff]; with_reducible apply Keeps.fold))

theorem execSupplyLost_keeps {z : State} (kind : Nat) (unit : Nat) (s : State) (hz : Keeps z s) : KeepsO z
    (execSupplyLost kind unit s) := by
  unfold execSupplyLost; (try dsimp only)
  repeat' (first
    | (with_reducible first | assumption | apply State.loseStack_keeps | apply State.dieLost_keeps | apply State.moduleStop_keeps | apply KeepsO.next | apply Keeps.ite | apply KeepsO.ite | apply Keeps.ite1)
    | dsimp only | (with_reducible refine Keeps.fst (by assumption) ?_) | split
    | (simp only [Keeps.mk_iff]; with_reducible apply Keeps.fold))

end Sys2Proof.Machine
end

