-- ==== Sys2Proof/Laws/Lsp.lean ====
section
/-! SUPPORT. Everything that the reads of the scratchpad do to a core. -/

namespace Sys2Proof.Machine

open Sys2Proof

/-- An access to a bank changes the record of bank uses only. -/
theorem CoreSt.useBank_eq (c : CoreSt) (n b : Nat) (w : Bool) : ∃ bs, (c.useBank n b w).1 = { c with banks := bs } := by
  unfold CoreSt.useBank; dsimp only; split
  · exact ⟨c.banks, rfl⟩
  · exact ⟨_, rfl⟩

/-- A row read adds one read in flight and a bank use, and nothing else. -/
theorem CoreSt.readRow_eq (c : CoreSt) (bpc slot rank row : Nat) (dst : LoadDst) :
    ∃ bs, (c.readRow bpc slot rank row dst).1 = { c with
      reads := c.reads ++ [⟨c.now, rank, bpc, slot, row, (c.viewRow c.now row).1, (c.viewRow c.now row).2, dst⟩]
      banks := bs } := by
  obtain ⟨bs, h⟩ := CoreSt.useBank_eq c c.now (bankOf row) false
  refine ⟨bs, ?_⟩
  unfold CoreSt.readRow
  dsimp only
  rw [h]

/-- A row read gives the row as it stands, earlier writes of the cycle included. -/
theorem CoreSt.readRow_data (c : CoreSt) (bpc slot rank row : Nat) (dst : LoadDst) :
    (c.readRow bpc slot rank row dst).2.1 = (c.viewRow c.now row).1 := rfl

/-- A row read conflicts when its bank has been read in the cycle. -/
theorem CoreSt.readRow_bad (c : CoreSt) (bpc slot rank row : Nat) (dst : LoadDst) :
    (c.readRow bpc slot rank row dst).2.2 = c.banks.contains ⟨c.now, bankOf row, false⟩ := rfl

/-- Row reads change the reads in flight and the bank uses only. -/
theorem CoreSt.readRows_eq (bpc slot : Nat) (rows : List Nat) : ∀ (c : CoreSt),
    ∃ r bs, (c.readRows bpc slot rows).1 = { c with reads := r, banks := bs } := by
  induction rows with
  | nil => intro c; exact ⟨c.reads, c.banks, rfl⟩
  | cons a l ih =>
     intro c
     obtain ⟨b1, h1⟩ := CoreSt.readRow_eq c bpc slot 0 a .none
     obtain ⟨r2, b2, h2⟩ := ih (c.readRow bpc slot 0 a .none).1
     refine ⟨r2, b2, ?_⟩
     simp only [CoreSt.readRows]
     rw [h2, h1]

/-- Row reads give the rows as they stand. -/
theorem CoreSt.readRows_data (bpc slot : Nat) (rows : List Nat) : ∀ (c : CoreSt),
    (c.readRows bpc slot rows).2.1 = rows.map fun k => (c.viewRow c.now k).1 := by
  induction rows with
  | nil => intro c; rfl
  | cons a l ih =>
     intro c
     obtain ⟨b1, h1⟩ := CoreSt.readRow_eq c bpc slot 0 a .none
     simp only [CoreSt.readRows, List.map_cons]
     rw [ih, h1]; rfl

/-- The reads of an array load change the reads in flight and the bank uses only. -/
theorem CoreSt.loadRead_eq (c : CoreSt) (l : MxLoadSt) : ∃ r b, (c.loadRead l).1 = { c with reads := r, banks := b } := by
  obtain ⟨r1, b1, h1⟩ := CoreSt.readRows_eq l.bpc 0 l.rows.1 c
  obtain ⟨r2, b2, h2⟩ := CoreSt.readRows_eq l.bpc 0 l.rows.2 (c.readRows l.bpc 0 l.rows.1).1
  refine ⟨r2, b2, ?_⟩
  unfold CoreSt.loadRead
  dsimp only
  rw [h2, h1]

end Sys2Proof.Machine
end

