-- ==== Sys2Proof/Laws/Slots.lean ====
section
/-! SUPPORT. Everything a slot operation does on a core that issues: it writes the core, or it notes a cause. -/

namespace Sys2Proof.Machine

open Sys2Proof

variable {s : State} {c : CoreId} {x : Core} {slot w code : Nat} {enc : Bool} {y : CoreSt}
  {k : CoreSt → CoreSt → List Nat × CoreSt}

/-- An issuing core has no cause due. -/
theorem State.issues_dueCauses (h : s.issues c x slot w) : x.cur.dueCauses = [] := by
  simp [CoreSt.dueCauses, h.2.2.1]

/-- The bundle of an issuing core holds the slot's word, which has not issued yet. -/
theorem State.issues_slotDue (h : s.issues c x slot w) : x.cur.slotDue slot w = true := by
  simp [CoreSt.slotDue, h.2.2.2.1, h.2.2.2.2]

/-- A slot operation whose effect raises no cause writes the core and nothing else. -/
theorem State.slotOp_pass (h : s.issues c x slot w) (he : enc = true) (hk : k x.beg x.cur = ([], y)) :
    s.slotOp c slot w enc k = s.putCur c x slot y := by
  simp [State.slotOp, State.putCur, h.1, h.2.1, State.issues_slotDue h, he, hk]

/-- A slot operation that raises a cause notes it, and has no other effect. -/
theorem State.slotOp_fault (h : s.issues c x slot w) (he : enc = true) (hk : k x.beg x.cur = ([code], y)) :
    s.slotOp c slot w enc k = s.noteCause c x code slot := by
  simp [State.slotOp, State.noteCause, State.putCur, h.1, h.2.1, State.issues_slotDue h, he, hk]

/-- A broken encoding notes cause 0x01. -/
theorem State.slotOp_broken (h : s.issues c x slot w) (he : enc = false) :
    s.slotOp c slot w enc k = s.noteCause c x 0x01 slot := by
  simp [State.slotOp, State.noteCause, State.putCur, h.1, h.2.1, State.issues_slotDue h, he]

/-- A core that may not issue, and one whose slot does not hold the word or has issued, ignores it. -/
theorem State.slotOp_idle (h : ((s.core c).ready && (s.core c).cur.slotDue slot w) = false) :
    s.slotOp c slot w enc k = s := by
  simp [State.slotOp, h]

end Sys2Proof.Machine
end

