-- ==== Sys2Proof/Laws/State.lean ====
section
/-! SUPPORT. One lemma for each field under each update of the state, so that no later proof unfolds a record. -/

namespace Sys2Proof.Machine

open Sys2Proof

@[simp] theorem State.setCore_pending (s : State) (c : CoreId) (x : Core) : (s.setCore c x).pending = s.pending := rfl
@[simp] theorem State.setCore_clk (s : State) (c : CoreId) (x : Core) : (s.setCore c x).clk = s.clk := rfl
@[simp] theorem State.setCore_st (s : State) (c : CoreId) (x : Core) : (s.setCore c x).st = s.st := rfl
@[simp] theorem State.setCore_fresh (s : State) (c : CoreId) (x : Core) : (s.setCore c x).fresh = s.fresh := rfl
@[simp] theorem State.setCore_start (s : State) (c : CoreId) (x : Core) : (s.setCore c x).start = s.start := rfl
@[simp] theorem State.setCore_dict (s : State) (c : CoreId) (x : Core) : (s.setCore c x).dict = s.dict := rfl
@[simp] theorem State.setCore_log (s : State) (c : CoreId) (x : Core) : (s.setCore c x).log = s.log := rfl
@[simp] theorem State.setCore_cores (s : State) (c : CoreId) (x : Core) : (s.setCore c x).cores = mset zCore s.cores c x := rfl
@[simp] theorem State.setCore_clusters (s : State) (c : CoreId) (x : Core) : (s.setCore c x).clusters = s.clusters := rfl
@[simp] theorem State.setCore_cmem (s : State) (c : CoreId) (x : Core) : (s.setCore c x).cmem = s.cmem := rfl
@[simp] theorem State.setCore_cmemPoison (s : State) (c : CoreId) (x : Core) : (s.setCore c x).cmemPoison = s.cmemPoison := rfl
@[simp] theorem State.setCore_cmemOvf (s : State) (c : CoreId) (x : Core) : (s.setCore c x).cmemOvf = s.cmemOvf := rfl
@[simp] theorem State.setCore_hbm (s : State) (c : CoreId) (x : Core) : (s.setCore c x).hbm = s.hbm := rfl
@[simp] theorem State.setCore_hbmPoison (s : State) (c : CoreId) (x : Core) : (s.setCore c x).hbmPoison = s.hbmPoison := rfl
@[simp] theorem State.setCore_hbmOvf (s : State) (c : CoreId) (x : Core) : (s.setCore c x).hbmOvf = s.hbmOvf := rfl
@[simp] theorem State.setCore_hbmData (s : State) (c : CoreId) (x : Core) : (s.setCore c x).hbmData = s.hbmData := rfl
@[simp] theorem State.setCore_health (s : State) (c : CoreId) (x : Core) : (s.setCore c x).health = s.health := rfl
@[simp] theorem State.setCore_bays (s : State) (c : CoreId) (x : Core) : (s.setCore c x).bays = s.bays := rfl
@[simp] theorem State.setCore_grooms (s : State) (c : CoreId) (x : Core) : (s.setCore c x).grooms = s.grooms := rfl
@[simp] theorem State.setCore_copies (s : State) (c : CoreId) (x : Core) : (s.setCore c x).copies = s.copies := rfl
@[simp] theorem State.setCore_nextCopy (s : State) (c : CoreId) (x : Core) : (s.setCore c x).nextCopy = s.nextCopy := rfl
@[simp] theorem State.setCore_adds (s : State) (c : CoreId) (x : Core) : (s.setCore c x).adds = s.adds := rfl
@[simp] theorem State.setCore_signals (s : State) (c : CoreId) (x : Core) : (s.setCore c x).signals = s.signals := rfl
@[simp] theorem State.setCore_landing (s : State) (c : CoreId) (x : Core) : (s.setCore c x).landing = s.landing := rfl
@[simp] theorem State.setCore_mails (s : State) (c : CoreId) (x : Core) : (s.setCore c x).mails = s.mails := rfl
@[simp] theorem State.setCore_posts (s : State) (c : CoreId) (x : Core) : (s.setCore c x).posts = s.posts := rfl
@[simp] theorem State.setCore_hostWait (s : State) (c : CoreId) (x : Core) : (s.setCore c x).hostWait = s.hostWait := rfl
@[simp] theorem State.setCore_hpCnt (s : State) (c : CoreId) (x : Core) : (s.setCore c x).hpCnt = s.hpCnt := rfl
@[simp] theorem State.setCore_windows (s : State) (c : CoreId) (x : Core) : (s.setCore c x).windows = s.windows := rfl
@[simp] theorem State.setCore_trackers (s : State) (c : CoreId) (x : Core) : (s.setCore c x).trackers = s.trackers := rfl
@[simp] theorem State.setCore_untracked (s : State) (c : CoreId) (x : Core) : (s.setCore c x).untracked = s.untracked := rfl
@[simp] theorem State.setCore_keptWin (s : State) (c : CoreId) (x : Core) : (s.setCore c x).keptWin = s.keptWin := rfl
@[simp] theorem State.setCore_nextCid (s : State) (c : CoreId) (x : Core) : (s.setCore c x).nextCid = s.nextCid := rfl
@[simp] theorem State.setCore_nextTag (s : State) (c : CoreId) (x : Core) : (s.setCore c x).nextTag = s.nextTag := rfl
@[simp] theorem State.setCore_outReqs (s : State) (c : CoreId) (x : Core) : (s.setCore c x).outReqs = s.outReqs := rfl
@[simp] theorem State.setCore_mesh (s : State) (c : CoreId) (x : Core) : (s.setCore c x).mesh = s.mesh := rfl
@[simp] theorem State.setCore_mgmt (s : State) (c : CoreId) (x : Core) : (s.setCore c x).mgmt = s.mgmt := rfl
@[simp] theorem State.setCore_coreSteer (s : State) (c : CoreId) (x : Core) : (s.setCore c x).coreSteer = s.coreSteer := rfl
@[simp] theorem State.setCore_upcSram (s : State) (c : CoreId) (x : Core) : (s.setCore c x).upcSram = s.upcSram := rfl
@[simp] theorem State.setCore_parts (s : State) (c : CoreId) (x : Core) : (s.setCore c x).parts = s.parts := rfl
@[simp] theorem State.setCore_rings (s : State) (c : CoreId) (x : Core) : (s.setCore c x).rings = s.rings := rfl
@[simp] theorem State.setCore_cmds (s : State) (c : CoreId) (x : Core) : (s.setCore c x).cmds = s.cmds := rfl
@[simp] theorem State.setCore_hints (s : State) (c : CoreId) (x : Core) : (s.setCore c x).hints = s.hints := rfl
@[simp] theorem State.setCore_upd (s : State) (c : CoreId) (x : Core) : (s.setCore c x).upd = s.upd := rfl
@[simp] theorem State.setCore_stuck (s : State) (c : CoreId) (x : Core) : (s.setCore c x).stuck = s.stuck := rfl
@[simp] theorem State.setCore_upcWait (s : State) (c : CoreId) (x : Core) : (s.setCore c x).upcWait = s.upcWait := rfl
@[simp] theorem State.setCore_upcPassed (s : State) (c : CoreId) (x : Core) : (s.setCore c x).upcPassed = s.upcPassed := rfl
@[simp] theorem State.setCore_links (s : State) (c : CoreId) (x : Core) : (s.setCore c x).links = s.links := rfl
@[simp] theorem State.setCore_hostPort (s : State) (c : CoreId) (x : Core) : (s.setCore c x).hostPort = s.hostPort := rfl
@[simp] theorem State.setCore_routes (s : State) (c : CoreId) (x : Core) : (s.setCore c x).routes = s.routes := rfl
@[simp] theorem State.setCore_fabric (s : State) (c : CoreId) (x : Core) : (s.setCore c x).fabric = s.fabric := rfl
@[simp] theorem State.setCore_hostTx (s : State) (c : CoreId) (x : Core) : (s.setCore c x).hostTx = s.hostTx := rfl
@[simp] theorem State.setCore_hrd (s : State) (c : CoreId) (x : Core) : (s.setCore c x).hrd = s.hrd := rfl
@[simp] theorem State.setCore_hostDone (s : State) (c : CoreId) (x : Core) : (s.setCore c x).hostDone = s.hostDone := rfl
@[simp] theorem State.setCore_linkTx (s : State) (c : CoreId) (x : Core) : (s.setCore c x).linkTx = s.linkTx := rfl
@[simp] theorem State.setCore_linkRx (s : State) (c : CoreId) (x : Core) : (s.setCore c x).linkRx = s.linkRx := rfl
@[simp] theorem State.setCore_sideTx (s : State) (c : CoreId) (x : Core) : (s.setCore c x).sideTx = s.sideTx := rfl
@[simp] theorem State.setCore_fuse (s : State) (c : CoreId) (x : Core) : (s.setCore c x).fuse = s.fuse := rfl
@[simp] theorem State.setCore_fused (s : State) (c : CoreId) (x : Core) : (s.setCore c x).fused = s.fused := rfl
@[simp] theorem State.setCore_mirror (s : State) (c : CoreId) (x : Core) : (s.setCore c x).mirror = s.mirror := rfl
@[simp] theorem State.setCore_stud (s : State) (c : CoreId) (x : Core) : (s.setCore c x).stud = s.stud := rfl
@[simp] theorem State.setCore_firm (s : State) (c : CoreId) (x : Core) : (s.setCore c x).firm = s.firm := rfl
@[simp] theorem State.setCore_sec (s : State) (c : CoreId) (x : Core) : (s.setCore c x).sec = s.sec := rfl
@[simp] theorem State.setCore_side (s : State) (c : CoreId) (x : Core) : (s.setCore c x).side = s.side := rfl
@[simp] theorem State.setCore_thermTrip (s : State) (c : CoreId) (x : Core) : (s.setCore c x).thermTrip = s.thermTrip := rfl

@[simp] theorem State.setCl_pending (s : State) (k : SiteId) (x : Cluster) : (s.setCl k x).pending = s.pending := rfl
@[simp] theorem State.setCl_clk (s : State) (k : SiteId) (x : Cluster) : (s.setCl k x).clk = s.clk := rfl
@[simp] theorem State.setCl_st (s : State) (k : SiteId) (x : Cluster) : (s.setCl k x).st = s.st := rfl
@[simp] theorem State.setCl_fresh (s : State) (k : SiteId) (x : Cluster) : (s.setCl k x).fresh = s.fresh := rfl
@[simp] theorem State.setCl_start (s : State) (k : SiteId) (x : Cluster) : (s.setCl k x).start = s.start := rfl
@[simp] theorem State.setCl_dict (s : State) (k : SiteId) (x : Cluster) : (s.setCl k x).dict = s.dict := rfl
@[simp] theorem State.setCl_log (s : State) (k : SiteId) (x : Cluster) : (s.setCl k x).log = s.log := rfl
@[simp] theorem State.setCl_cores (s : State) (k : SiteId) (x : Cluster) : (s.setCl k x).cores = s.cores := rfl
@[simp] theorem State.setCl_clusters (s : State) (k : SiteId) (x : Cluster) : (s.setCl k x).clusters = mset zCl s.clusters k x := rfl
@[simp] theorem State.setCl_cmem (s : State) (k : SiteId) (x : Cluster) : (s.setCl k x).cmem = s.cmem := rfl
@[simp] theorem State.setCl_cmemPoison (s : State) (k : SiteId) (x : Cluster) : (s.setCl k x).cmemPoison = s.cmemPoison := rfl
@[simp] theorem State.setCl_cmemOvf (s : State) (k : SiteId) (x : Cluster) : (s.setCl k x).cmemOvf = s.cmemOvf := rfl
@[simp] theorem State.setCl_hbm (s : State) (k : SiteId) (x : Cluster) : (s.setCl k x).hbm = s.hbm := rfl
@[simp] theorem State.setCl_hbmPoison (s : State) (k : SiteId) (x : Cluster) : (s.setCl k x).hbmPoison = s.hbmPoison := rfl
@[simp] theorem State.setCl_hbmOvf (s : State) (k : SiteId) (x : Cluster) : (s.setCl k x).hbmOvf = s.hbmOvf := rfl
@[simp] theorem State.setCl_hbmData (s : State) (k : SiteId) (x : Cluster) : (s.setCl k x).hbmData = s.hbmData := rfl
@[simp] theorem State.setCl_health (s : State) (k : SiteId) (x : Cluster) : (s.setCl k x).health = s.health := rfl
@[simp] theorem State.setCl_bays (s : State) (k : SiteId) (x : Cluster) : (s.setCl k x).bays = s.bays := rfl
@[simp] theorem State.setCl_grooms (s : State) (k : SiteId) (x : Cluster) : (s.setCl k x).grooms = s.grooms := rfl
@[simp] theorem State.setCl_copies (s : State) (k : SiteId) (x : Cluster) : (s.setCl k x).copies = s.copies := rfl
@[simp] theorem State.setCl_nextCopy (s : State) (k : SiteId) (x : Cluster) : (s.setCl k x).nextCopy = s.nextCopy := rfl
@[simp] theorem State.setCl_adds (s : State) (k : SiteId) (x : Cluster) : (s.setCl k x).adds = s.adds := rfl
@[simp] theorem State.setCl_signals (s : State) (k : SiteId) (x : Cluster) : (s.setCl k x).signals = s.signals := rfl
@[simp] theorem State.setCl_landing (s : State) (k : SiteId) (x : Cluster) : (s.setCl k x).landing = s.landing := rfl
@[simp] theorem State.setCl_mails (s : State) (k : SiteId) (x : Cluster) : (s.setCl k x).mails = s.mails := rfl
@[simp] theorem State.setCl_posts (s : State) (k : SiteId) (x : Cluster) : (s.setCl k x).posts = s.posts := rfl
@[simp] theorem State.setCl_hostWait (s : State) (k : SiteId) (x : Cluster) : (s.setCl k x).hostWait = s.hostWait := rfl
@[simp] theorem State.setCl_hpCnt (s : State) (k : SiteId) (x : Cluster) : (s.setCl k x).hpCnt = s.hpCnt := rfl
@[simp] theorem State.setCl_windows (s : State) (k : SiteId) (x : Cluster) : (s.setCl k x).windows = s.windows := rfl
@[simp] theorem State.setCl_trackers (s : State) (k : SiteId) (x : Cluster) : (s.setCl k x).trackers = s.trackers := rfl
@[simp] theorem State.setCl_untracked (s : State) (k : SiteId) (x : Cluster) : (s.setCl k x).untracked = s.untracked := rfl
@[simp] theorem State.setCl_keptWin (s : State) (k : SiteId) (x : Cluster) : (s.setCl k x).keptWin = s.keptWin := rfl
@[simp] theorem State.setCl_nextCid (s : State) (k : SiteId) (x : Cluster) : (s.setCl k x).nextCid = s.nextCid := rfl
@[simp] theorem State.setCl_nextTag (s : State) (k : SiteId) (x : Cluster) : (s.setCl k x).nextTag = s.nextTag := rfl
@[simp] theorem State.setCl_outReqs (s : State) (k : SiteId) (x : Cluster) : (s.setCl k x).outReqs = s.outReqs := rfl
@[simp] theorem State.setCl_mesh (s : State) (k : SiteId) (x : Cluster) : (s.setCl k x).mesh = s.mesh := rfl
@[simp] theorem State.setCl_mgmt (s : State) (k : SiteId) (x : Cluster) : (s.setCl k x).mgmt = s.mgmt := rfl
@[simp] theorem State.setCl_coreSteer (s : State) (k : SiteId) (x : Cluster) : (s.setCl k x).coreSteer = s.coreSteer := rfl
@[simp] theorem State.setCl_upcSram (s : State) (k : SiteId) (x : Cluster) : (s.setCl k x).upcSram = s.upcSram := rfl
@[simp] theorem State.setCl_parts (s : State) (k : SiteId) (x : Cluster) : (s.setCl k x).parts = s.parts := rfl
@[simp] theorem State.setCl_rings (s : State) (k : SiteId) (x : Cluster) : (s.setCl k x).rings = s.rings := rfl
@[simp] theorem State.setCl_cmds (s : State) (k : SiteId) (x : Cluster) : (s.setCl k x).cmds = s.cmds := rfl
@[simp] theorem State.setCl_hints (s : State) (k : SiteId) (x : Cluster) : (s.setCl k x).hints = s.hints := rfl
@[simp] theorem State.setCl_upd (s : State) (k : SiteId) (x : Cluster) : (s.setCl k x).upd = s.upd := rfl
@[simp] theorem State.setCl_stuck (s : State) (k : SiteId) (x : Cluster) : (s.setCl k x).stuck = s.stuck := rfl
@[simp] theorem State.setCl_upcWait (s : State) (k : SiteId) (x : Cluster) : (s.setCl k x).upcWait = s.upcWait := rfl
@[simp] theorem State.setCl_upcPassed (s : State) (k : SiteId) (x : Cluster) : (s.setCl k x).upcPassed = s.upcPassed := rfl
@[simp] theorem State.setCl_links (s : State) (k : SiteId) (x : Cluster) : (s.setCl k x).links = s.links := rfl
@[simp] theorem State.setCl_hostPort (s : State) (k : SiteId) (x : Cluster) : (s.setCl k x).hostPort = s.hostPort := rfl
@[simp] theorem State.setCl_routes (s : State) (k : SiteId) (x : Cluster) : (s.setCl k x).routes = s.routes := rfl
@[simp] theorem State.setCl_fabric (s : State) (k : SiteId) (x : Cluster) : (s.setCl k x).fabric = s.fabric := rfl
@[simp] theorem State.setCl_hostTx (s : State) (k : SiteId) (x : Cluster) : (s.setCl k x).hostTx = s.hostTx := rfl
@[simp] theorem State.setCl_hrd (s : State) (k : SiteId) (x : Cluster) : (s.setCl k x).hrd = s.hrd := rfl
@[simp] theorem State.setCl_hostDone (s : State) (k : SiteId) (x : Cluster) : (s.setCl k x).hostDone = s.hostDone := rfl
@[simp] theorem State.setCl_linkTx (s : State) (k : SiteId) (x : Cluster) : (s.setCl k x).linkTx = s.linkTx := rfl
@[simp] theorem State.setCl_linkRx (s : State) (k : SiteId) (x : Cluster) : (s.setCl k x).linkRx = s.linkRx := rfl
@[simp] theorem State.setCl_sideTx (s : State) (k : SiteId) (x : Cluster) : (s.setCl k x).sideTx = s.sideTx := rfl
@[simp] theorem State.setCl_fuse (s : State) (k : SiteId) (x : Cluster) : (s.setCl k x).fuse = s.fuse := rfl
@[simp] theorem State.setCl_fused (s : State) (k : SiteId) (x : Cluster) : (s.setCl k x).fused = s.fused := rfl
@[simp] theorem State.setCl_mirror (s : State) (k : SiteId) (x : Cluster) : (s.setCl k x).mirror = s.mirror := rfl
@[simp] theorem State.setCl_stud (s : State) (k : SiteId) (x : Cluster) : (s.setCl k x).stud = s.stud := rfl
@[simp] theorem State.setCl_firm (s : State) (k : SiteId) (x : Cluster) : (s.setCl k x).firm = s.firm := rfl
@[simp] theorem State.setCl_sec (s : State) (k : SiteId) (x : Cluster) : (s.setCl k x).sec = s.sec := rfl
@[simp] theorem State.setCl_side (s : State) (k : SiteId) (x : Cluster) : (s.setCl k x).side = s.side := rfl
@[simp] theorem State.setCl_thermTrip (s : State) (k : SiteId) (x : Cluster) : (s.setCl k x).thermTrip = s.thermTrip := rfl

@[simp] theorem State.modBay_pending (s : State) (b : Nat) (f : Bay → Bay) : (s.modBay b f).pending = s.pending := rfl
@[simp] theorem State.modBay_clk (s : State) (b : Nat) (f : Bay → Bay) : (s.modBay b f).clk = s.clk := rfl
@[simp] theorem State.modBay_st (s : State) (b : Nat) (f : Bay → Bay) : (s.modBay b f).st = s.st := rfl
@[simp] theorem State.modBay_fresh (s : State) (b : Nat) (f : Bay → Bay) : (s.modBay b f).fresh = s.fresh := rfl
@[simp] theorem State.modBay_start (s : State) (b : Nat) (f : Bay → Bay) : (s.modBay b f).start = s.start := rfl
@[simp] theorem State.modBay_dict (s : State) (b : Nat) (f : Bay → Bay) : (s.modBay b f).dict = s.dict := rfl
@[simp] theorem State.modBay_log (s : State) (b : Nat) (f : Bay → Bay) : (s.modBay b f).log = s.log := rfl
@[simp] theorem State.modBay_cores (s : State) (b : Nat) (f : Bay → Bay) : (s.modBay b f).cores = s.cores := rfl
@[simp] theorem State.modBay_clusters (s : State) (b : Nat) (f : Bay → Bay) : (s.modBay b f).clusters = s.clusters := rfl
@[simp] theorem State.modBay_cmem (s : State) (b : Nat) (f : Bay → Bay) : (s.modBay b f).cmem = s.cmem := rfl
@[simp] theorem State.modBay_cmemPoison (s : State) (b : Nat) (f : Bay → Bay) : (s.modBay b f).cmemPoison = s.cmemPoison := rfl
@[simp] theorem State.modBay_cmemOvf (s : State) (b : Nat) (f : Bay → Bay) : (s.modBay b f).cmemOvf = s.cmemOvf := rfl
@[simp] theorem State.modBay_hbm (s : State) (b : Nat) (f : Bay → Bay) : (s.modBay b f).hbm = s.hbm := rfl
@[simp] theorem State.modBay_hbmPoison (s : State) (b : Nat) (f : Bay → Bay) : (s.modBay b f).hbmPoison = s.hbmPoison := rfl
@[simp] theorem State.modBay_hbmOvf (s : State) (b : Nat) (f : Bay → Bay) : (s.modBay b f).hbmOvf = s.hbmOvf := rfl
@[simp] theorem State.modBay_hbmData (s : State) (b : Nat) (f : Bay → Bay) : (s.modBay b f).hbmData = s.hbmData := rfl
@[simp] theorem State.modBay_health (s : State) (b : Nat) (f : Bay → Bay) : (s.modBay b f).health = s.health := rfl
@[simp] theorem State.modBay_bays (s : State) (b : Nat) (f : Bay → Bay) : (s.modBay b f).bays = mset zBay s.bays b (f (s.bay b)) := rfl
@[simp] theorem State.modBay_grooms (s : State) (b : Nat) (f : Bay → Bay) : (s.modBay b f).grooms = s.grooms := rfl
@[simp] theorem State.modBay_copies (s : State) (b : Nat) (f : Bay → Bay) : (s.modBay b f).copies = s.copies := rfl
@[simp] theorem State.modBay_nextCopy (s : State) (b : Nat) (f : Bay → Bay) : (s.modBay b f).nextCopy = s.nextCopy := rfl
@[simp] theorem State.modBay_adds (s : State) (b : Nat) (f : Bay → Bay) : (s.modBay b f).adds = s.adds := rfl
@[simp] theorem State.modBay_signals (s : State) (b : Nat) (f : Bay → Bay) : (s.modBay b f).signals = s.signals := rfl
@[simp] theorem State.modBay_landing (s : State) (b : Nat) (f : Bay → Bay) : (s.modBay b f).landing = s.landing := rfl
@[simp] theorem State.modBay_mails (s : State) (b : Nat) (f : Bay → Bay) : (s.modBay b f).mails = s.mails := rfl
@[simp] theorem State.modBay_posts (s : State) (b : Nat) (f : Bay → Bay) : (s.modBay b f).posts = s.posts := rfl
@[simp] theorem State.modBay_hostWait (s : State) (b : Nat) (f : Bay → Bay) : (s.modBay b f).hostWait = s.hostWait := rfl
@[simp] theorem State.modBay_hpCnt (s : State) (b : Nat) (f : Bay → Bay) : (s.modBay b f).hpCnt = s.hpCnt := rfl
@[simp] theorem State.modBay_windows (s : State) (b : Nat) (f : Bay → Bay) : (s.modBay b f).windows = s.windows := rfl
@[simp] theorem State.modBay_trackers (s : State) (b : Nat) (f : Bay → Bay) : (s.modBay b f).trackers = s.trackers := rfl
@[simp] theorem State.modBay_untracked (s : State) (b : Nat) (f : Bay → Bay) : (s.modBay b f).untracked = s.untracked := rfl
@[simp] theorem State.modBay_keptWin (s : State) (b : Nat) (f : Bay → Bay) : (s.modBay b f).keptWin = s.keptWin := rfl
@[simp] theorem State.modBay_nextCid (s : State) (b : Nat) (f : Bay → Bay) : (s.modBay b f).nextCid = s.nextCid := rfl
@[simp] theorem State.modBay_nextTag (s : State) (b : Nat) (f : Bay → Bay) : (s.modBay b f).nextTag = s.nextTag := rfl
@[simp] theorem State.modBay_outReqs (s : State) (b : Nat) (f : Bay → Bay) : (s.modBay b f).outReqs = s.outReqs := rfl
@[simp] theorem State.modBay_mesh (s : State) (b : Nat) (f : Bay → Bay) : (s.modBay b f).mesh = s.mesh := rfl
@[simp] theorem State.modBay_mgmt (s : State) (b : Nat) (f : Bay → Bay) : (s.modBay b f).mgmt = s.mgmt := rfl
@[simp] theorem State.modBay_coreSteer (s : State) (b : Nat) (f : Bay → Bay) : (s.modBay b f).coreSteer = s.coreSteer := rfl
@[simp] theorem State.modBay_upcSram (s : State) (b : Nat) (f : Bay → Bay) : (s.modBay b f).upcSram = s.upcSram := rfl
@[simp] theorem State.modBay_parts (s : State) (b : Nat) (f : Bay → Bay) : (s.modBay b f).parts = s.parts := rfl
@[simp] theorem State.modBay_rings (s : State) (b : Nat) (f : Bay → Bay) : (s.modBay b f).rings = s.rings := rfl
@[simp] theorem State.modBay_cmds (s : State) (b : Nat) (f : Bay → Bay) : (s.modBay b f).cmds = s.cmds := rfl
@[simp] theorem State.modBay_hints (s : State) (b : Nat) (f : Bay → Bay) : (s.modBay b f).hints = s.hints := rfl
@[simp] theorem State.modBay_upd (s : State) (b : Nat) (f : Bay → Bay) : (s.modBay b f).upd = s.upd := rfl
@[simp] theorem State.modBay_stuck (s : State) (b : Nat) (f : Bay → Bay) : (s.modBay b f).stuck = s.stuck := rfl
@[simp] theorem State.modBay_upcWait (s : State) (b : Nat) (f : Bay → Bay) : (s.modBay b f).upcWait = s.upcWait := rfl
@[simp] theorem State.modBay_upcPassed (s : State) (b : Nat) (f : Bay → Bay) : (s.modBay b f).upcPassed = s.upcPassed := rfl
@[simp] theorem State.modBay_links (s : State) (b : Nat) (f : Bay → Bay) : (s.modBay b f).links = s.links := rfl
@[simp] theorem State.modBay_hostPort (s : State) (b : Nat) (f : Bay → Bay) : (s.modBay b f).hostPort = s.hostPort := rfl
@[simp] theorem State.modBay_routes (s : State) (b : Nat) (f : Bay → Bay) : (s.modBay b f).routes = s.routes := rfl
@[simp] theorem State.modBay_fabric (s : State) (b : Nat) (f : Bay → Bay) : (s.modBay b f).fabric = s.fabric := rfl
@[simp] theorem State.modBay_hostTx (s : State) (b : Nat) (f : Bay → Bay) : (s.modBay b f).hostTx = s.hostTx := rfl
@[simp] theorem State.modBay_hrd (s : State) (b : Nat) (f : Bay → Bay) : (s.modBay b f).hrd = s.hrd := rfl
@[simp] theorem State.modBay_hostDone (s : State) (b : Nat) (f : Bay → Bay) : (s.modBay b f).hostDone = s.hostDone := rfl
@[simp] theorem State.modBay_linkTx (s : State) (b : Nat) (f : Bay → Bay) : (s.modBay b f).linkTx = s.linkTx := rfl
@[simp] theorem State.modBay_linkRx (s : State) (b : Nat) (f : Bay → Bay) : (s.modBay b f).linkRx = s.linkRx := rfl
@[simp] theorem State.modBay_sideTx (s : State) (b : Nat) (f : Bay → Bay) : (s.modBay b f).sideTx = s.sideTx := rfl
@[simp] theorem State.modBay_fuse (s : State) (b : Nat) (f : Bay → Bay) : (s.modBay b f).fuse = s.fuse := rfl
@[simp] theorem State.modBay_fused (s : State) (b : Nat) (f : Bay → Bay) : (s.modBay b f).fused = s.fused := rfl
@[simp] theorem State.modBay_mirror (s : State) (b : Nat) (f : Bay → Bay) : (s.modBay b f).mirror = s.mirror := rfl
@[simp] theorem State.modBay_stud (s : State) (b : Nat) (f : Bay → Bay) : (s.modBay b f).stud = s.stud := rfl
@[simp] theorem State.modBay_firm (s : State) (b : Nat) (f : Bay → Bay) : (s.modBay b f).firm = s.firm := rfl
@[simp] theorem State.modBay_sec (s : State) (b : Nat) (f : Bay → Bay) : (s.modBay b f).sec = s.sec := rfl
@[simp] theorem State.modBay_side (s : State) (b : Nat) (f : Bay → Bay) : (s.modBay b f).side = s.side := rfl
@[simp] theorem State.modBay_thermTrip (s : State) (b : Nat) (f : Bay → Bay) : (s.modBay b f).thermTrip = s.thermTrip := rfl

@[simp] theorem State.modGroom_pending (s : State) (g : Nat) (f : Groom → Groom) : (s.modGroom g f).pending = s.pending := rfl
@[simp] theorem State.modGroom_clk (s : State) (g : Nat) (f : Groom → Groom) : (s.modGroom g f).clk = s.clk := rfl
@[simp] theorem State.modGroom_st (s : State) (g : Nat) (f : Groom → Groom) : (s.modGroom g f).st = s.st := rfl
@[simp] theorem State.modGroom_fresh (s : State) (g : Nat) (f : Groom → Groom) : (s.modGroom g f).fresh = s.fresh := rfl
@[simp] theorem State.modGroom_start (s : State) (g : Nat) (f : Groom → Groom) : (s.modGroom g f).start = s.start := rfl
@[simp] theorem State.modGroom_dict (s : State) (g : Nat) (f : Groom → Groom) : (s.modGroom g f).dict = s.dict := rfl
@[simp] theorem State.modGroom_log (s : State) (g : Nat) (f : Groom → Groom) : (s.modGroom g f).log = s.log := rfl
@[simp] theorem State.modGroom_cores (s : State) (g : Nat) (f : Groom → Groom) : (s.modGroom g f).cores = s.cores := rfl
@[simp] theorem State.modGroom_clusters (s : State) (g : Nat) (f : Groom → Groom) : (s.modGroom g f).clusters = s.clusters := rfl
@[simp] theorem State.modGroom_cmem (s : State) (g : Nat) (f : Groom → Groom) : (s.modGroom g f).cmem = s.cmem := rfl
@[simp] theorem State.modGroom_cmemPoison (s : State) (g : Nat) (f : Groom → Groom) : (s.modGroom g f).cmemPoison = s.cmemPoison := rfl
@[simp] theorem State.modGroom_cmemOvf (s : State) (g : Nat) (f : Groom → Groom) : (s.modGroom g f).cmemOvf = s.cmemOvf := rfl
@[simp] theorem State.modGroom_hbm (s : State) (g : Nat) (f : Groom → Groom) : (s.modGroom g f).hbm = s.hbm := rfl
@[simp] theorem State.modGroom_hbmPoison (s : State) (g : Nat) (f : Groom → Groom) : (s.modGroom g f).hbmPoison = s.hbmPoison := rfl
@[simp] theorem State.modGroom_hbmOvf (s : State) (g : Nat) (f : Groom → Groom) : (s.modGroom g f).hbmOvf = s.hbmOvf := rfl
@[simp] theorem State.modGroom_hbmData (s : State) (g : Nat) (f : Groom → Groom) : (s.modGroom g f).hbmData = s.hbmData := rfl
@[simp] theorem State.modGroom_health (s : State) (g : Nat) (f : Groom → Groom) : (s.modGroom g f).health = s.health := rfl
@[simp] theorem State.modGroom_bays (s : State) (g : Nat) (f : Groom → Groom) : (s.modGroom g f).bays = s.bays := rfl
@[simp] theorem State.modGroom_grooms (s : State) (g : Nat) (f : Groom → Groom) : (s.modGroom g f).grooms = mset zGroom s.grooms g (f (s.groom g)) := rfl
@[simp] theorem State.modGroom_copies (s : State) (g : Nat) (f : Groom → Groom) : (s.modGroom g f).copies = s.copies := rfl
@[simp] theorem State.modGroom_nextCopy (s : State) (g : Nat) (f : Groom → Groom) : (s.modGroom g f).nextCopy = s.nextCopy := rfl
@[simp] theorem State.modGroom_adds (s : State) (g : Nat) (f : Groom → Groom) : (s.modGroom g f).adds = s.adds := rfl
@[simp] theorem State.modGroom_signals (s : State) (g : Nat) (f : Groom → Groom) : (s.modGroom g f).signals = s.signals := rfl
@[simp] theorem State.modGroom_landing (s : State) (g : Nat) (f : Groom → Groom) : (s.modGroom g f).landing = s.landing := rfl
@[simp] theorem State.modGroom_mails (s : State) (g : Nat) (f : Groom → Groom) : (s.modGroom g f).mails = s.mails := rfl
@[simp] theorem State.modGroom_posts (s : State) (g : Nat) (f : Groom → Groom) : (s.modGroom g f).posts = s.posts := rfl
@[simp] theorem State.modGroom_hostWait (s : State) (g : Nat) (f : Groom → Groom) : (s.modGroom g f).hostWait = s.hostWait := rfl
@[simp] theorem State.modGroom_hpCnt (s : State) (g : Nat) (f : Groom → Groom) : (s.modGroom g f).hpCnt = s.hpCnt := rfl
@[simp] theorem State.modGroom_windows (s : State) (g : Nat) (f : Groom → Groom) : (s.modGroom g f).windows = s.windows := rfl
@[simp] theorem State.modGroom_trackers (s : State) (g : Nat) (f : Groom → Groom) : (s.modGroom g f).trackers = s.trackers := rfl
@[simp] theorem State.modGroom_untracked (s : State) (g : Nat) (f : Groom → Groom) : (s.modGroom g f).untracked = s.untracked := rfl
@[simp] theorem State.modGroom_keptWin (s : State) (g : Nat) (f : Groom → Groom) : (s.modGroom g f).keptWin = s.keptWin := rfl
@[simp] theorem State.modGroom_nextCid (s : State) (g : Nat) (f : Groom → Groom) : (s.modGroom g f).nextCid = s.nextCid := rfl
@[simp] theorem State.modGroom_nextTag (s : State) (g : Nat) (f : Groom → Groom) : (s.modGroom g f).nextTag = s.nextTag := rfl
@[simp] theorem State.modGroom_outReqs (s : State) (g : Nat) (f : Groom → Groom) : (s.modGroom g f).outReqs = s.outReqs := rfl
@[simp] theorem State.modGroom_mesh (s : State) (g : Nat) (f : Groom → Groom) : (s.modGroom g f).mesh = s.mesh := rfl
@[simp] theorem State.modGroom_mgmt (s : State) (g : Nat) (f : Groom → Groom) : (s.modGroom g f).mgmt = s.mgmt := rfl
@[simp] theorem State.modGroom_coreSteer (s : State) (g : Nat) (f : Groom → Groom) : (s.modGroom g f).coreSteer = s.coreSteer := rfl
@[simp] theorem State.modGroom_upcSram (s : State) (g : Nat) (f : Groom → Groom) : (s.modGroom g f).upcSram = s.upcSram := rfl
@[simp] theorem State.modGroom_parts (s : State) (g : Nat) (f : Groom → Groom) : (s.modGroom g f).parts = s.parts := rfl
@[simp] theorem State.modGroom_rings (s : State) (g : Nat) (f : Groom → Groom) : (s.modGroom g f).rings = s.rings := rfl
@[simp] theorem State.modGroom_cmds (s : State) (g : Nat) (f : Groom → Groom) : (s.modGroom g f).cmds = s.cmds := rfl
@[simp] theorem State.modGroom_hints (s : State) (g : Nat) (f : Groom → Groom) : (s.modGroom g f).hints = s.hints := rfl
@[simp] theorem State.modGroom_upd (s : State) (g : Nat) (f : Groom → Groom) : (s.modGroom g f).upd = s.upd := rfl
@[simp] theorem State.modGroom_stuck (s : State) (g : Nat) (f : Groom → Groom) : (s.modGroom g f).stuck = s.stuck := rfl
@[simp] theorem State.modGroom_upcWait (s : State) (g : Nat) (f : Groom → Groom) : (s.modGroom g f).upcWait = s.upcWait := rfl
@[simp] theorem State.modGroom_upcPassed (s : State) (g : Nat) (f : Groom → Groom) : (s.modGroom g f).upcPassed = s.upcPassed := rfl
@[simp] theorem State.modGroom_links (s : State) (g : Nat) (f : Groom → Groom) : (s.modGroom g f).links = s.links := rfl
@[simp] theorem State.modGroom_hostPort (s : State) (g : Nat) (f : Groom → Groom) : (s.modGroom g f).hostPort = s.hostPort := rfl
@[simp] theorem State.modGroom_routes (s : State) (g : Nat) (f : Groom → Groom) : (s.modGroom g f).routes = s.routes := rfl
@[simp] theorem State.modGroom_fabric (s : State) (g : Nat) (f : Groom → Groom) : (s.modGroom g f).fabric = s.fabric := rfl
@[simp] theorem State.modGroom_hostTx (s : State) (g : Nat) (f : Groom → Groom) : (s.modGroom g f).hostTx = s.hostTx := rfl
@[simp] theorem State.modGroom_hrd (s : State) (g : Nat) (f : Groom → Groom) : (s.modGroom g f).hrd = s.hrd := rfl
@[simp] theorem State.modGroom_hostDone (s : State) (g : Nat) (f : Groom → Groom) : (s.modGroom g f).hostDone = s.hostDone := rfl
@[simp] theorem State.modGroom_linkTx (s : State) (g : Nat) (f : Groom → Groom) : (s.modGroom g f).linkTx = s.linkTx := rfl
@[simp] theorem State.modGroom_linkRx (s : State) (g : Nat) (f : Groom → Groom) : (s.modGroom g f).linkRx = s.linkRx := rfl
@[simp] theorem State.modGroom_sideTx (s : State) (g : Nat) (f : Groom → Groom) : (s.modGroom g f).sideTx = s.sideTx := rfl
@[simp] theorem State.modGroom_fuse (s : State) (g : Nat) (f : Groom → Groom) : (s.modGroom g f).fuse = s.fuse := rfl
@[simp] theorem State.modGroom_fused (s : State) (g : Nat) (f : Groom → Groom) : (s.modGroom g f).fused = s.fused := rfl
@[simp] theorem State.modGroom_mirror (s : State) (g : Nat) (f : Groom → Groom) : (s.modGroom g f).mirror = s.mirror := rfl
@[simp] theorem State.modGroom_stud (s : State) (g : Nat) (f : Groom → Groom) : (s.modGroom g f).stud = s.stud := rfl
@[simp] theorem State.modGroom_firm (s : State) (g : Nat) (f : Groom → Groom) : (s.modGroom g f).firm = s.firm := rfl
@[simp] theorem State.modGroom_sec (s : State) (g : Nat) (f : Groom → Groom) : (s.modGroom g f).sec = s.sec := rfl
@[simp] theorem State.modGroom_side (s : State) (g : Nat) (f : Groom → Groom) : (s.modGroom g f).side = s.side := rfl
@[simp] theorem State.modGroom_thermTrip (s : State) (g : Nat) (f : Groom → Groom) : (s.modGroom g f).thermTrip = s.thermTrip := rfl

@[simp] theorem State.modPart_pending (s : State) (p : Nat) (f : Part → Part) : (s.modPart p f).pending = s.pending := rfl
@[simp] theorem State.modPart_clk (s : State) (p : Nat) (f : Part → Part) : (s.modPart p f).clk = s.clk := rfl
@[simp] theorem State.modPart_st (s : State) (p : Nat) (f : Part → Part) : (s.modPart p f).st = s.st := rfl
@[simp] theorem State.modPart_fresh (s : State) (p : Nat) (f : Part → Part) : (s.modPart p f).fresh = s.fresh := rfl
@[simp] theorem State.modPart_start (s : State) (p : Nat) (f : Part → Part) : (s.modPart p f).start = s.start := rfl
@[simp] theorem State.modPart_dict (s : State) (p : Nat) (f : Part → Part) : (s.modPart p f).dict = s.dict := rfl
@[simp] theorem State.modPart_log (s : State) (p : Nat) (f : Part → Part) : (s.modPart p f).log = s.log := rfl
@[simp] theorem State.modPart_cores (s : State) (p : Nat) (f : Part → Part) : (s.modPart p f).cores = s.cores := rfl
@[simp] theorem State.modPart_clusters (s : State) (p : Nat) (f : Part → Part) : (s.modPart p f).clusters = s.clusters := rfl
@[simp] theorem State.modPart_cmem (s : State) (p : Nat) (f : Part → Part) : (s.modPart p f).cmem = s.cmem := rfl
@[simp] theorem State.modPart_cmemPoison (s : State) (p : Nat) (f : Part → Part) : (s.modPart p f).cmemPoison = s.cmemPoison := rfl
@[simp] theorem State.modPart_cmemOvf (s : State) (p : Nat) (f : Part → Part) : (s.modPart p f).cmemOvf = s.cmemOvf := rfl
@[simp] theorem State.modPart_hbm (s : State) (p : Nat) (f : Part → Part) : (s.modPart p f).hbm = s.hbm := rfl
@[simp] theorem State.modPart_hbmPoison (s : State) (p : Nat) (f : Part → Part) : (s.modPart p f).hbmPoison = s.hbmPoison := rfl
@[simp] theorem State.modPart_hbmOvf (s : State) (p : Nat) (f : Part → Part) : (s.modPart p f).hbmOvf = s.hbmOvf := rfl
@[simp] theorem State.modPart_hbmData (s : State) (p : Nat) (f : Part → Part) : (s.modPart p f).hbmData = s.hbmData := rfl
@[simp] theorem State.modPart_health (s : State) (p : Nat) (f : Part → Part) : (s.modPart p f).health = s.health := rfl
@[simp] theorem State.modPart_bays (s : State) (p : Nat) (f : Part → Part) : (s.modPart p f).bays = s.bays := rfl
@[simp] theorem State.modPart_grooms (s : State) (p : Nat) (f : Part → Part) : (s.modPart p f).grooms = s.grooms := rfl
@[simp] theorem State.modPart_copies (s : State) (p : Nat) (f : Part → Part) : (s.modPart p f).copies = s.copies := rfl
@[simp] theorem State.modPart_nextCopy (s : State) (p : Nat) (f : Part → Part) : (s.modPart p f).nextCopy = s.nextCopy := rfl
@[simp] theorem State.modPart_adds (s : State) (p : Nat) (f : Part → Part) : (s.modPart p f).adds = s.adds := rfl
@[simp] theorem State.modPart_signals (s : State) (p : Nat) (f : Part → Part) : (s.modPart p f).signals = s.signals := rfl
@[simp] theorem State.modPart_landing (s : State) (p : Nat) (f : Part → Part) : (s.modPart p f).landing = s.landing := rfl
@[simp] theorem State.modPart_mails (s : State) (p : Nat) (f : Part → Part) : (s.modPart p f).mails = s.mails := rfl
@[simp] theorem State.modPart_posts (s : State) (p : Nat) (f : Part → Part) : (s.modPart p f).posts = s.posts := rfl
@[simp] theorem State.modPart_hostWait (s : State) (p : Nat) (f : Part → Part) : (s.modPart p f).hostWait = s.hostWait := rfl
@[simp] theorem State.modPart_hpCnt (s : State) (p : Nat) (f : Part → Part) : (s.modPart p f).hpCnt = s.hpCnt := rfl
@[simp] theorem State.modPart_windows (s : State) (p : Nat) (f : Part → Part) : (s.modPart p f).windows = s.windows := rfl
@[simp] theorem State.modPart_trackers (s : State) (p : Nat) (f : Part → Part) : (s.modPart p f).trackers = s.trackers := rfl
@[simp] theorem State.modPart_untracked (s : State) (p : Nat) (f : Part → Part) : (s.modPart p f).untracked = s.untracked := rfl
@[simp] theorem State.modPart_keptWin (s : State) (p : Nat) (f : Part → Part) : (s.modPart p f).keptWin = s.keptWin := rfl
@[simp] theorem State.modPart_nextCid (s : State) (p : Nat) (f : Part → Part) : (s.modPart p f).nextCid = s.nextCid := rfl
@[simp] theorem State.modPart_nextTag (s : State) (p : Nat) (f : Part → Part) : (s.modPart p f).nextTag = s.nextTag := rfl
@[simp] theorem State.modPart_outReqs (s : State) (p : Nat) (f : Part → Part) : (s.modPart p f).outReqs = s.outReqs := rfl
@[simp] theorem State.modPart_mesh (s : State) (p : Nat) (f : Part → Part) : (s.modPart p f).mesh = s.mesh := rfl
@[simp] theorem State.modPart_mgmt (s : State) (p : Nat) (f : Part → Part) : (s.modPart p f).mgmt = s.mgmt := rfl
@[simp] theorem State.modPart_coreSteer (s : State) (p : Nat) (f : Part → Part) : (s.modPart p f).coreSteer = s.coreSteer := rfl
@[simp] theorem State.modPart_upcSram (s : State) (p : Nat) (f : Part → Part) : (s.modPart p f).upcSram = s.upcSram := rfl
@[simp] theorem State.modPart_parts (s : State) (p : Nat) (f : Part → Part) : (s.modPart p f).parts = mset zPart s.parts p (f (s.part p)) := rfl
@[simp] theorem State.modPart_rings (s : State) (p : Nat) (f : Part → Part) : (s.modPart p f).rings = s.rings := rfl
@[simp] theorem State.modPart_cmds (s : State) (p : Nat) (f : Part → Part) : (s.modPart p f).cmds = s.cmds := rfl
@[simp] theorem State.modPart_hints (s : State) (p : Nat) (f : Part → Part) : (s.modPart p f).hints = s.hints := rfl
@[simp] theorem State.modPart_upd (s : State) (p : Nat) (f : Part → Part) : (s.modPart p f).upd = s.upd := rfl
@[simp] theorem State.modPart_stuck (s : State) (p : Nat) (f : Part → Part) : (s.modPart p f).stuck = s.stuck := rfl
@[simp] theorem State.modPart_upcWait (s : State) (p : Nat) (f : Part → Part) : (s.modPart p f).upcWait = s.upcWait := rfl
@[simp] theorem State.modPart_upcPassed (s : State) (p : Nat) (f : Part → Part) : (s.modPart p f).upcPassed = s.upcPassed := rfl
@[simp] theorem State.modPart_links (s : State) (p : Nat) (f : Part → Part) : (s.modPart p f).links = s.links := rfl
@[simp] theorem State.modPart_hostPort (s : State) (p : Nat) (f : Part → Part) : (s.modPart p f).hostPort = s.hostPort := rfl
@[simp] theorem State.modPart_routes (s : State) (p : Nat) (f : Part → Part) : (s.modPart p f).routes = s.routes := rfl
@[simp] theorem State.modPart_fabric (s : State) (p : Nat) (f : Part → Part) : (s.modPart p f).fabric = s.fabric := rfl
@[simp] theorem State.modPart_hostTx (s : State) (p : Nat) (f : Part → Part) : (s.modPart p f).hostTx = s.hostTx := rfl
@[simp] theorem State.modPart_hrd (s : State) (p : Nat) (f : Part → Part) : (s.modPart p f).hrd = s.hrd := rfl
@[simp] theorem State.modPart_hostDone (s : State) (p : Nat) (f : Part → Part) : (s.modPart p f).hostDone = s.hostDone := rfl
@[simp] theorem State.modPart_linkTx (s : State) (p : Nat) (f : Part → Part) : (s.modPart p f).linkTx = s.linkTx := rfl
@[simp] theorem State.modPart_linkRx (s : State) (p : Nat) (f : Part → Part) : (s.modPart p f).linkRx = s.linkRx := rfl
@[simp] theorem State.modPart_sideTx (s : State) (p : Nat) (f : Part → Part) : (s.modPart p f).sideTx = s.sideTx := rfl
@[simp] theorem State.modPart_fuse (s : State) (p : Nat) (f : Part → Part) : (s.modPart p f).fuse = s.fuse := rfl
@[simp] theorem State.modPart_fused (s : State) (p : Nat) (f : Part → Part) : (s.modPart p f).fused = s.fused := rfl
@[simp] theorem State.modPart_mirror (s : State) (p : Nat) (f : Part → Part) : (s.modPart p f).mirror = s.mirror := rfl
@[simp] theorem State.modPart_stud (s : State) (p : Nat) (f : Part → Part) : (s.modPart p f).stud = s.stud := rfl
@[simp] theorem State.modPart_firm (s : State) (p : Nat) (f : Part → Part) : (s.modPart p f).firm = s.firm := rfl
@[simp] theorem State.modPart_sec (s : State) (p : Nat) (f : Part → Part) : (s.modPart p f).sec = s.sec := rfl
@[simp] theorem State.modPart_side (s : State) (p : Nat) (f : Part → Part) : (s.modPart p f).side = s.side := rfl
@[simp] theorem State.modPart_thermTrip (s : State) (p : Nat) (f : Part → Part) : (s.modPart p f).thermTrip = s.thermTrip := rfl

@[simp] theorem State.modRing_pending (s : State) (r : Nat) (f : Ring → Ring) : (s.modRing r f).pending = s.pending := rfl
@[simp] theorem State.modRing_clk (s : State) (r : Nat) (f : Ring → Ring) : (s.modRing r f).clk = s.clk := rfl
@[simp] theorem State.modRing_st (s : State) (r : Nat) (f : Ring → Ring) : (s.modRing r f).st = s.st := rfl
@[simp] theorem State.modRing_fresh (s : State) (r : Nat) (f : Ring → Ring) : (s.modRing r f).fresh = s.fresh := rfl
@[simp] theorem State.modRing_start (s : State) (r : Nat) (f : Ring → Ring) : (s.modRing r f).start = s.start := rfl
@[simp] theorem State.modRing_dict (s : State) (r : Nat) (f : Ring → Ring) : (s.modRing r f).dict = s.dict := rfl
@[simp] theorem State.modRing_log (s : State) (r : Nat) (f : Ring → Ring) : (s.modRing r f).log = s.log := rfl
@[simp] theorem State.modRing_cores (s : State) (r : Nat) (f : Ring → Ring) : (s.modRing r f).cores = s.cores := rfl
@[simp] theorem State.modRing_clusters (s : State) (r : Nat) (f : Ring → Ring) : (s.modRing r f).clusters = s.clusters := rfl
@[simp] theorem State.modRing_cmem (s : State) (r : Nat) (f : Ring → Ring) : (s.modRing r f).cmem = s.cmem := rfl
@[simp] theorem State.modRing_cmemPoison (s : State) (r : Nat) (f : Ring → Ring) : (s.modRing r f).cmemPoison = s.cmemPoison := rfl
@[simp] theorem State.modRing_cmemOvf (s : State) (r : Nat) (f : Ring → Ring) : (s.modRing r f).cmemOvf = s.cmemOvf := rfl
@[simp] theorem State.modRing_hbm (s : State) (r : Nat) (f : Ring → Ring) : (s.modRing r f).hbm = s.hbm := rfl
@[simp] theorem State.modRing_hbmPoison (s : State) (r : Nat) (f : Ring → Ring) : (s.modRing r f).hbmPoison = s.hbmPoison := rfl
@[simp] theorem State.modRing_hbmOvf (s : State) (r : Nat) (f : Ring → Ring) : (s.modRing r f).hbmOvf = s.hbmOvf := rfl
@[simp] theorem State.modRing_hbmData (s : State) (r : Nat) (f : Ring → Ring) : (s.modRing r f).hbmData = s.hbmData := rfl
@[simp] theorem State.modRing_health (s : State) (r : Nat) (f : Ring → Ring) : (s.modRing r f).health = s.health := rfl
@[simp] theorem State.modRing_bays (s : State) (r : Nat) (f : Ring → Ring) : (s.modRing r f).bays = s.bays := rfl
@[simp] theorem State.modRing_grooms (s : State) (r : Nat) (f : Ring → Ring) : (s.modRing r f).grooms = s.grooms := rfl
@[simp] theorem State.modRing_copies (s : State) (r : Nat) (f : Ring → Ring) : (s.modRing r f).copies = s.copies := rfl
@[simp] theorem State.modRing_nextCopy (s : State) (r : Nat) (f : Ring → Ring) : (s.modRing r f).nextCopy = s.nextCopy := rfl
@[simp] theorem State.modRing_adds (s : State) (r : Nat) (f : Ring → Ring) : (s.modRing r f).adds = s.adds := rfl
@[simp] theorem State.modRing_signals (s : State) (r : Nat) (f : Ring → Ring) : (s.modRing r f).signals = s.signals := rfl
@[simp] theorem State.modRing_landing (s : State) (r : Nat) (f : Ring → Ring) : (s.modRing r f).landing = s.landing := rfl
@[simp] theorem State.modRing_mails (s : State) (r : Nat) (f : Ring → Ring) : (s.modRing r f).mails = s.mails := rfl
@[simp] theorem State.modRing_posts (s : State) (r : Nat) (f : Ring → Ring) : (s.modRing r f).posts = s.posts := rfl
@[simp] theorem State.modRing_hostWait (s : State) (r : Nat) (f : Ring → Ring) : (s.modRing r f).hostWait = s.hostWait := rfl
@[simp] theorem State.modRing_hpCnt (s : State) (r : Nat) (f : Ring → Ring) : (s.modRing r f).hpCnt = s.hpCnt := rfl
@[simp] theorem State.modRing_windows (s : State) (r : Nat) (f : Ring → Ring) : (s.modRing r f).windows = s.windows := rfl
@[simp] theorem State.modRing_trackers (s : State) (r : Nat) (f : Ring → Ring) : (s.modRing r f).trackers = s.trackers := rfl
@[simp] theorem State.modRing_untracked (s : State) (r : Nat) (f : Ring → Ring) : (s.modRing r f).untracked = s.untracked := rfl
@[simp] theorem State.modRing_keptWin (s : State) (r : Nat) (f : Ring → Ring) : (s.modRing r f).keptWin = s.keptWin := rfl
@[simp] theorem State.modRing_nextCid (s : State) (r : Nat) (f : Ring → Ring) : (s.modRing r f).nextCid = s.nextCid := rfl
@[simp] theorem State.modRing_nextTag (s : State) (r : Nat) (f : Ring → Ring) : (s.modRing r f).nextTag = s.nextTag := rfl
@[simp] theorem State.modRing_outReqs (s : State) (r : Nat) (f : Ring → Ring) : (s.modRing r f).outReqs = s.outReqs := rfl
@[simp] theorem State.modRing_mesh (s : State) (r : Nat) (f : Ring → Ring) : (s.modRing r f).mesh = s.mesh := rfl
@[simp] theorem State.modRing_mgmt (s : State) (r : Nat) (f : Ring → Ring) : (s.modRing r f).mgmt = s.mgmt := rfl
@[simp] theorem State.modRing_coreSteer (s : State) (r : Nat) (f : Ring → Ring) : (s.modRing r f).coreSteer = s.coreSteer := rfl
@[simp] theorem State.modRing_upcSram (s : State) (r : Nat) (f : Ring → Ring) : (s.modRing r f).upcSram = s.upcSram := rfl
@[simp] theorem State.modRing_parts (s : State) (r : Nat) (f : Ring → Ring) : (s.modRing r f).parts = s.parts := rfl
@[simp] theorem State.modRing_rings (s : State) (r : Nat) (f : Ring → Ring) : (s.modRing r f).rings = mset zRing s.rings r (f (s.ring r)) := rfl
@[simp] theorem State.modRing_cmds (s : State) (r : Nat) (f : Ring → Ring) : (s.modRing r f).cmds = s.cmds := rfl
@[simp] theorem State.modRing_hints (s : State) (r : Nat) (f : Ring → Ring) : (s.modRing r f).hints = s.hints := rfl
@[simp] theorem State.modRing_upd (s : State) (r : Nat) (f : Ring → Ring) : (s.modRing r f).upd = s.upd := rfl
@[simp] theorem State.modRing_stuck (s : State) (r : Nat) (f : Ring → Ring) : (s.modRing r f).stuck = s.stuck := rfl
@[simp] theorem State.modRing_upcWait (s : State) (r : Nat) (f : Ring → Ring) : (s.modRing r f).upcWait = s.upcWait := rfl
@[simp] theorem State.modRing_upcPassed (s : State) (r : Nat) (f : Ring → Ring) : (s.modRing r f).upcPassed = s.upcPassed := rfl
@[simp] theorem State.modRing_links (s : State) (r : Nat) (f : Ring → Ring) : (s.modRing r f).links = s.links := rfl
@[simp] theorem State.modRing_hostPort (s : State) (r : Nat) (f : Ring → Ring) : (s.modRing r f).hostPort = s.hostPort := rfl
@[simp] theorem State.modRing_routes (s : State) (r : Nat) (f : Ring → Ring) : (s.modRing r f).routes = s.routes := rfl
@[simp] theorem State.modRing_fabric (s : State) (r : Nat) (f : Ring → Ring) : (s.modRing r f).fabric = s.fabric := rfl
@[simp] theorem State.modRing_hostTx (s : State) (r : Nat) (f : Ring → Ring) : (s.modRing r f).hostTx = s.hostTx := rfl
@[simp] theorem State.modRing_hrd (s : State) (r : Nat) (f : Ring → Ring) : (s.modRing r f).hrd = s.hrd := rfl
@[simp] theorem State.modRing_hostDone (s : State) (r : Nat) (f : Ring → Ring) : (s.modRing r f).hostDone = s.hostDone := rfl
@[simp] theorem State.modRing_linkTx (s : State) (r : Nat) (f : Ring → Ring) : (s.modRing r f).linkTx = s.linkTx := rfl
@[simp] theorem State.modRing_linkRx (s : State) (r : Nat) (f : Ring → Ring) : (s.modRing r f).linkRx = s.linkRx := rfl
@[simp] theorem State.modRing_sideTx (s : State) (r : Nat) (f : Ring → Ring) : (s.modRing r f).sideTx = s.sideTx := rfl
@[simp] theorem State.modRing_fuse (s : State) (r : Nat) (f : Ring → Ring) : (s.modRing r f).fuse = s.fuse := rfl
@[simp] theorem State.modRing_fused (s : State) (r : Nat) (f : Ring → Ring) : (s.modRing r f).fused = s.fused := rfl
@[simp] theorem State.modRing_mirror (s : State) (r : Nat) (f : Ring → Ring) : (s.modRing r f).mirror = s.mirror := rfl
@[simp] theorem State.modRing_stud (s : State) (r : Nat) (f : Ring → Ring) : (s.modRing r f).stud = s.stud := rfl
@[simp] theorem State.modRing_firm (s : State) (r : Nat) (f : Ring → Ring) : (s.modRing r f).firm = s.firm := rfl
@[simp] theorem State.modRing_sec (s : State) (r : Nat) (f : Ring → Ring) : (s.modRing r f).sec = s.sec := rfl
@[simp] theorem State.modRing_side (s : State) (r : Nat) (f : Ring → Ring) : (s.modRing r f).side = s.side := rfl
@[simp] theorem State.modRing_thermTrip (s : State) (r : Nat) (f : Ring → Ring) : (s.modRing r f).thermTrip = s.thermTrip := rfl

@[simp] theorem State.modLink_pending (s : State) (k : Nat) (f : Link → Link) : (s.modLink k f).pending = s.pending := rfl
@[simp] theorem State.modLink_clk (s : State) (k : Nat) (f : Link → Link) : (s.modLink k f).clk = s.clk := rfl
@[simp] theorem State.modLink_st (s : State) (k : Nat) (f : Link → Link) : (s.modLink k f).st = s.st := rfl
@[simp] theorem State.modLink_fresh (s : State) (k : Nat) (f : Link → Link) : (s.modLink k f).fresh = s.fresh := rfl
@[simp] theorem State.modLink_start (s : State) (k : Nat) (f : Link → Link) : (s.modLink k f).start = s.start := rfl
@[simp] theorem State.modLink_dict (s : State) (k : Nat) (f : Link → Link) : (s.modLink k f).dict = s.dict := rfl
@[simp] theorem State.modLink_log (s : State) (k : Nat) (f : Link → Link) : (s.modLink k f).log = s.log := rfl
@[simp] theorem State.modLink_cores (s : State) (k : Nat) (f : Link → Link) : (s.modLink k f).cores = s.cores := rfl
@[simp] theorem State.modLink_clusters (s : State) (k : Nat) (f : Link → Link) : (s.modLink k f).clusters = s.clusters := rfl
@[simp] theorem State.modLink_cmem (s : State) (k : Nat) (f : Link → Link) : (s.modLink k f).cmem = s.cmem := rfl
@[simp] theorem State.modLink_cmemPoison (s : State) (k : Nat) (f : Link → Link) : (s.modLink k f).cmemPoison = s.cmemPoison := rfl
@[simp] theorem State.modLink_cmemOvf (s : State) (k : Nat) (f : Link → Link) : (s.modLink k f).cmemOvf = s.cmemOvf := rfl
@[simp] theorem State.modLink_hbm (s : State) (k : Nat) (f : Link → Link) : (s.modLink k f).hbm = s.hbm := rfl
@[simp] theorem State.modLink_hbmPoison (s : State) (k : Nat) (f : Link → Link) : (s.modLink k f).hbmPoison = s.hbmPoison := rfl
@[simp] theorem State.modLink_hbmOvf (s : State) (k : Nat) (f : Link → Link) : (s.modLink k f).hbmOvf = s.hbmOvf := rfl
@[simp] theorem State.modLink_hbmData (s : State) (k : Nat) (f : Link → Link) : (s.modLink k f).hbmData = s.hbmData := rfl
@[simp] theorem State.modLink_health (s : State) (k : Nat) (f : Link → Link) : (s.modLink k f).health = s.health := rfl
@[simp] theorem State.modLink_bays (s : State) (k : Nat) (f : Link → Link) : (s.modLink k f).bays = s.bays := rfl
@[simp] theorem State.modLink_grooms (s : State) (k : Nat) (f : Link → Link) : (s.modLink k f).grooms = s.grooms := rfl
@[simp] theorem State.modLink_copies (s : State) (k : Nat) (f : Link → Link) : (s.modLink k f).copies = s.copies := rfl
@[simp] theorem State.modLink_nextCopy (s : State) (k : Nat) (f : Link → Link) : (s.modLink k f).nextCopy = s.nextCopy := rfl
@[simp] theorem State.modLink_adds (s : State) (k : Nat) (f : Link → Link) : (s.modLink k f).adds = s.adds := rfl
@[simp] theorem State.modLink_signals (s : State) (k : Nat) (f : Link → Link) : (s.modLink k f).signals = s.signals := rfl
@[simp] theorem State.modLink_landing (s : State) (k : Nat) (f : Link → Link) : (s.modLink k f).landing = s.landing := rfl
@[simp] theorem State.modLink_mails (s : State) (k : Nat) (f : Link → Link) : (s.modLink k f).mails = s.mails := rfl
@[simp] theorem State.modLink_posts (s : State) (k : Nat) (f : Link → Link) : (s.modLink k f).posts = s.posts := rfl
@[simp] theorem State.modLink_hostWait (s : State) (k : Nat) (f : Link → Link) : (s.modLink k f).hostWait = s.hostWait := rfl
@[simp] theorem State.modLink_hpCnt (s : State) (k : Nat) (f : Link → Link) : (s.modLink k f).hpCnt = s.hpCnt := rfl
@[simp] theorem State.modLink_windows (s : State) (k : Nat) (f : Link → Link) : (s.modLink k f).windows = s.windows := rfl
@[simp] theorem State.modLink_trackers (s : State) (k : Nat) (f : Link → Link) : (s.modLink k f).trackers = s.trackers := rfl
@[simp] theorem State.modLink_untracked (s : State) (k : Nat) (f : Link → Link) : (s.modLink k f).untracked = s.untracked := rfl
@[simp] theorem State.modLink_keptWin (s : State) (k : Nat) (f : Link → Link) : (s.modLink k f).keptWin = s.keptWin := rfl
@[simp] theorem State.modLink_nextCid (s : State) (k : Nat) (f : Link → Link) : (s.modLink k f).nextCid = s.nextCid := rfl
@[simp] theorem State.modLink_nextTag (s : State) (k : Nat) (f : Link → Link) : (s.modLink k f).nextTag = s.nextTag := rfl
@[simp] theorem State.modLink_outReqs (s : State) (k : Nat) (f : Link → Link) : (s.modLink k f).outReqs = s.outReqs := rfl
@[simp] theorem State.modLink_mesh (s : State) (k : Nat) (f : Link → Link) : (s.modLink k f).mesh = s.mesh := rfl
@[simp] theorem State.modLink_mgmt (s : State) (k : Nat) (f : Link → Link) : (s.modLink k f).mgmt = s.mgmt := rfl
@[simp] theorem State.modLink_coreSteer (s : State) (k : Nat) (f : Link → Link) : (s.modLink k f).coreSteer = s.coreSteer := rfl
@[simp] theorem State.modLink_upcSram (s : State) (k : Nat) (f : Link → Link) : (s.modLink k f).upcSram = s.upcSram := rfl
@[simp] theorem State.modLink_parts (s : State) (k : Nat) (f : Link → Link) : (s.modLink k f).parts = s.parts := rfl
@[simp] theorem State.modLink_rings (s : State) (k : Nat) (f : Link → Link) : (s.modLink k f).rings = s.rings := rfl
@[simp] theorem State.modLink_cmds (s : State) (k : Nat) (f : Link → Link) : (s.modLink k f).cmds = s.cmds := rfl
@[simp] theorem State.modLink_hints (s : State) (k : Nat) (f : Link → Link) : (s.modLink k f).hints = s.hints := rfl
@[simp] theorem State.modLink_upd (s : State) (k : Nat) (f : Link → Link) : (s.modLink k f).upd = s.upd := rfl
@[simp] theorem State.modLink_stuck (s : State) (k : Nat) (f : Link → Link) : (s.modLink k f).stuck = s.stuck := rfl
@[simp] theorem State.modLink_upcWait (s : State) (k : Nat) (f : Link → Link) : (s.modLink k f).upcWait = s.upcWait := rfl
@[simp] theorem State.modLink_upcPassed (s : State) (k : Nat) (f : Link → Link) : (s.modLink k f).upcPassed = s.upcPassed := rfl
@[simp] theorem State.modLink_links (s : State) (k : Nat) (f : Link → Link) : (s.modLink k f).links = mset zLink s.links k (f (s.link k)) := rfl
@[simp] theorem State.modLink_hostPort (s : State) (k : Nat) (f : Link → Link) : (s.modLink k f).hostPort = s.hostPort := rfl
@[simp] theorem State.modLink_routes (s : State) (k : Nat) (f : Link → Link) : (s.modLink k f).routes = s.routes := rfl
@[simp] theorem State.modLink_fabric (s : State) (k : Nat) (f : Link → Link) : (s.modLink k f).fabric = s.fabric := rfl
@[simp] theorem State.modLink_hostTx (s : State) (k : Nat) (f : Link → Link) : (s.modLink k f).hostTx = s.hostTx := rfl
@[simp] theorem State.modLink_hrd (s : State) (k : Nat) (f : Link → Link) : (s.modLink k f).hrd = s.hrd := rfl
@[simp] theorem State.modLink_hostDone (s : State) (k : Nat) (f : Link → Link) : (s.modLink k f).hostDone = s.hostDone := rfl
@[simp] theorem State.modLink_linkTx (s : State) (k : Nat) (f : Link → Link) : (s.modLink k f).linkTx = s.linkTx := rfl
@[simp] theorem State.modLink_linkRx (s : State) (k : Nat) (f : Link → Link) : (s.modLink k f).linkRx = s.linkRx := rfl
@[simp] theorem State.modLink_sideTx (s : State) (k : Nat) (f : Link → Link) : (s.modLink k f).sideTx = s.sideTx := rfl
@[simp] theorem State.modLink_fuse (s : State) (k : Nat) (f : Link → Link) : (s.modLink k f).fuse = s.fuse := rfl
@[simp] theorem State.modLink_fused (s : State) (k : Nat) (f : Link → Link) : (s.modLink k f).fused = s.fused := rfl
@[simp] theorem State.modLink_mirror (s : State) (k : Nat) (f : Link → Link) : (s.modLink k f).mirror = s.mirror := rfl
@[simp] theorem State.modLink_stud (s : State) (k : Nat) (f : Link → Link) : (s.modLink k f).stud = s.stud := rfl
@[simp] theorem State.modLink_firm (s : State) (k : Nat) (f : Link → Link) : (s.modLink k f).firm = s.firm := rfl
@[simp] theorem State.modLink_sec (s : State) (k : Nat) (f : Link → Link) : (s.modLink k f).sec = s.sec := rfl
@[simp] theorem State.modLink_side (s : State) (k : Nat) (f : Link → Link) : (s.modLink k f).side = s.side := rfl
@[simp] theorem State.modLink_thermTrip (s : State) (k : Nat) (f : Link → Link) : (s.modLink k f).thermTrip = s.thermTrip := rfl

@[simp] theorem State.odSet_pending (s : State) (k v : Nat) : (s.odSet k v).pending = s.pending := rfl
@[simp] theorem State.odSet_clk (s : State) (k v : Nat) : (s.odSet k v).clk = s.clk := rfl
@[simp] theorem State.odSet_st (s : State) (k v : Nat) : (s.odSet k v).st = s.st := rfl
@[simp] theorem State.odSet_fresh (s : State) (k v : Nat) : (s.odSet k v).fresh = s.fresh := rfl
@[simp] theorem State.odSet_start (s : State) (k v : Nat) : (s.odSet k v).start = s.start := rfl
@[simp] theorem State.odSet_dict (s : State) (k v : Nat) : (s.odSet k v).dict = { s.dict with val := mset odDefault s.dict.val k v } := rfl
@[simp] theorem State.odSet_log (s : State) (k v : Nat) : (s.odSet k v).log = s.log := rfl
@[simp] theorem State.odSet_cores (s : State) (k v : Nat) : (s.odSet k v).cores = s.cores := rfl
@[simp] theorem State.odSet_clusters (s : State) (k v : Nat) : (s.odSet k v).clusters = s.clusters := rfl
@[simp] theorem State.odSet_cmem (s : State) (k v : Nat) : (s.odSet k v).cmem = s.cmem := rfl
@[simp] theorem State.odSet_cmemPoison (s : State) (k v : Nat) : (s.odSet k v).cmemPoison = s.cmemPoison := rfl
@[simp] theorem State.odSet_cmemOvf (s : State) (k v : Nat) : (s.odSet k v).cmemOvf = s.cmemOvf := rfl
@[simp] theorem State.odSet_hbm (s : State) (k v : Nat) : (s.odSet k v).hbm = s.hbm := rfl
@[simp] theorem State.odSet_hbmPoison (s : State) (k v : Nat) : (s.odSet k v).hbmPoison = s.hbmPoison := rfl
@[simp] theorem State.odSet_hbmOvf (s : State) (k v : Nat) : (s.odSet k v).hbmOvf = s.hbmOvf := rfl
@[simp] theorem State.odSet_hbmData (s : State) (k v : Nat) : (s.odSet k v).hbmData = s.hbmData := rfl
@[simp] theorem State.odSet_health (s : State) (k v : Nat) : (s.odSet k v).health = s.health := rfl
@[simp] theorem State.odSet_bays (s : State) (k v : Nat) : (s.odSet k v).bays = s.bays := rfl
@[simp] theorem State.odSet_grooms (s : State) (k v : Nat) : (s.odSet k v).grooms = s.grooms := rfl
@[simp] theorem State.odSet_copies (s : State) (k v : Nat) : (s.odSet k v).copies = s.copies := rfl
@[simp] theorem State.odSet_nextCopy (s : State) (k v : Nat) : (s.odSet k v).nextCopy = s.nextCopy := rfl
@[simp] theorem State.odSet_adds (s : State) (k v : Nat) : (s.odSet k v).adds = s.adds := rfl
@[simp] theorem State.odSet_signals (s : State) (k v : Nat) : (s.odSet k v).signals = s.signals := rfl
@[simp] theorem State.odSet_landing (s : State) (k v : Nat) : (s.odSet k v).landing = s.landing := rfl
@[simp] theorem State.odSet_mails (s : State) (k v : Nat) : (s.odSet k v).mails = s.mails := rfl
@[simp] theorem State.odSet_posts (s : State) (k v : Nat) : (s.odSet k v).posts = s.posts := rfl
@[simp] theorem State.odSet_hostWait (s : State) (k v : Nat) : (s.odSet k v).hostWait = s.hostWait := rfl
@[simp] theorem State.odSet_hpCnt (s : State) (k v : Nat) : (s.odSet k v).hpCnt = s.hpCnt := rfl
@[simp] theorem State.odSet_windows (s : State) (k v : Nat) : (s.odSet k v).windows = s.windows := rfl
@[simp] theorem State.odSet_trackers (s : State) (k v : Nat) : (s.odSet k v).trackers = s.trackers := rfl
@[simp] theorem State.odSet_untracked (s : State) (k v : Nat) : (s.odSet k v).untracked = s.untracked := rfl
@[simp] theorem State.odSet_keptWin (s : State) (k v : Nat) : (s.odSet k v).keptWin = s.keptWin := rfl
@[simp] theorem State.odSet_nextCid (s : State) (k v : Nat) : (s.odSet k v).nextCid = s.nextCid := rfl
@[simp] theorem State.odSet_nextTag (s : State) (k v : Nat) : (s.odSet k v).nextTag = s.nextTag := rfl
@[simp] theorem State.odSet_outReqs (s : State) (k v : Nat) : (s.odSet k v).outReqs = s.outReqs := rfl
@[simp] theorem State.odSet_mesh (s : State) (k v : Nat) : (s.odSet k v).mesh = s.mesh := rfl
@[simp] theorem State.odSet_mgmt (s : State) (k v : Nat) : (s.odSet k v).mgmt = s.mgmt := rfl
@[simp] theorem State.odSet_coreSteer (s : State) (k v : Nat) : (s.odSet k v).coreSteer = s.coreSteer := rfl
@[simp] theorem State.odSet_upcSram (s : State) (k v : Nat) : (s.odSet k v).upcSram = s.upcSram := rfl
@[simp] theorem State.odSet_parts (s : State) (k v : Nat) : (s.odSet k v).parts = s.parts := rfl
@[simp] theorem State.odSet_rings (s : State) (k v : Nat) : (s.odSet k v).rings = s.rings := rfl
@[simp] theorem State.odSet_cmds (s : State) (k v : Nat) : (s.odSet k v).cmds = s.cmds := rfl
@[simp] theorem State.odSet_hints (s : State) (k v : Nat) : (s.odSet k v).hints = s.hints := rfl
@[simp] theorem State.odSet_upd (s : State) (k v : Nat) : (s.odSet k v).upd = s.upd := rfl
@[simp] theorem State.odSet_stuck (s : State) (k v : Nat) : (s.odSet k v).stuck = s.stuck := rfl
@[simp] theorem State.odSet_upcWait (s : State) (k v : Nat) : (s.odSet k v).upcWait = s.upcWait := rfl
@[simp] theorem State.odSet_upcPassed (s : State) (k v : Nat) : (s.odSet k v).upcPassed = s.upcPassed := rfl
@[simp] theorem State.odSet_links (s : State) (k v : Nat) : (s.odSet k v).links = s.links := rfl
@[simp] theorem State.odSet_hostPort (s : State) (k v : Nat) : (s.odSet k v).hostPort = s.hostPort := rfl
@[simp] theorem State.odSet_routes (s : State) (k v : Nat) : (s.odSet k v).routes = s.routes := rfl
@[simp] theorem State.odSet_fabric (s : State) (k v : Nat) : (s.odSet k v).fabric = s.fabric := rfl
@[simp] theorem State.odSet_hostTx (s : State) (k v : Nat) : (s.odSet k v).hostTx = s.hostTx := rfl
@[simp] theorem State.odSet_hrd (s : State) (k v : Nat) : (s.odSet k v).hrd = s.hrd := rfl
@[simp] theorem State.odSet_hostDone (s : State) (k v : Nat) : (s.odSet k v).hostDone = s.hostDone := rfl
@[simp] theorem State.odSet_linkTx (s : State) (k v : Nat) : (s.odSet k v).linkTx = s.linkTx := rfl
@[simp] theorem State.odSet_linkRx (s : State) (k v : Nat) : (s.odSet k v).linkRx = s.linkRx := rfl
@[simp] theorem State.odSet_sideTx (s : State) (k v : Nat) : (s.odSet k v).sideTx = s.sideTx := rfl
@[simp] theorem State.odSet_fuse (s : State) (k v : Nat) : (s.odSet k v).fuse = s.fuse := rfl
@[simp] theorem State.odSet_fused (s : State) (k v : Nat) : (s.odSet k v).fused = s.fused := rfl
@[simp] theorem State.odSet_mirror (s : State) (k v : Nat) : (s.odSet k v).mirror = s.mirror := rfl
@[simp] theorem State.odSet_stud (s : State) (k v : Nat) : (s.odSet k v).stud = s.stud := rfl
@[simp] theorem State.odSet_firm (s : State) (k v : Nat) : (s.odSet k v).firm = s.firm := rfl
@[simp] theorem State.odSet_sec (s : State) (k v : Nat) : (s.odSet k v).sec = s.sec := rfl
@[simp] theorem State.odSet_side (s : State) (k v : Nat) : (s.odSet k v).side = s.side := rfl
@[simp] theorem State.odSet_thermTrip (s : State) (k v : Nat) : (s.odSet k v).thermTrip = s.thermTrip := rfl

@[simp] theorem State.useFree_pending (s : State) : (s.useFree).pending = s.pending := rfl
@[simp] theorem State.useFree_clk (s : State) : (s.useFree).clk = s.clk := rfl
@[simp] theorem State.useFree_st (s : State) : (s.useFree).st = s.st := rfl
@[simp] theorem State.useFree_fresh (s : State) : (s.useFree).fresh = s.fresh + 1 := rfl
@[simp] theorem State.useFree_start (s : State) : (s.useFree).start = s.start := rfl
@[simp] theorem State.useFree_dict (s : State) : (s.useFree).dict = s.dict := rfl
@[simp] theorem State.useFree_log (s : State) : (s.useFree).log = s.log := rfl
@[simp] theorem State.useFree_cores (s : State) : (s.useFree).cores = s.cores := rfl
@[simp] theorem State.useFree_clusters (s : State) : (s.useFree).clusters = s.clusters := rfl
@[simp] theorem State.useFree_cmem (s : State) : (s.useFree).cmem = s.cmem := rfl
@[simp] theorem State.useFree_cmemPoison (s : State) : (s.useFree).cmemPoison = s.cmemPoison := rfl
@[simp] theorem State.useFree_cmemOvf (s : State) : (s.useFree).cmemOvf = s.cmemOvf := rfl
@[simp] theorem State.useFree_hbm (s : State) : (s.useFree).hbm = s.hbm := rfl
@[simp] theorem State.useFree_hbmPoison (s : State) : (s.useFree).hbmPoison = s.hbmPoison := rfl
@[simp] theorem State.useFree_hbmOvf (s : State) : (s.useFree).hbmOvf = s.hbmOvf := rfl
@[simp] theorem State.useFree_hbmData (s : State) : (s.useFree).hbmData = s.hbmData := rfl
@[simp] theorem State.useFree_health (s : State) : (s.useFree).health = s.health := rfl
@[simp] theorem State.useFree_bays (s : State) : (s.useFree).bays = s.bays := rfl
@[simp] theorem State.useFree_grooms (s : State) : (s.useFree).grooms = s.grooms := rfl
@[simp] theorem State.useFree_copies (s : State) : (s.useFree).copies = s.copies := rfl
@[simp] theorem State.useFree_nextCopy (s : State) : (s.useFree).nextCopy = s.nextCopy := rfl
@[simp] theorem State.useFree_adds (s : State) : (s.useFree).adds = s.adds := rfl
@[simp] theorem State.useFree_signals (s : State) : (s.useFree).signals = s.signals := rfl
@[simp] theorem State.useFree_landing (s : State) : (s.useFree).landing = s.landing := rfl
@[simp] theorem State.useFree_mails (s : State) : (s.useFree).mails = s.mails := rfl
@[simp] theorem State.useFree_posts (s : State) : (s.useFree).posts = s.posts := rfl
@[simp] theorem State.useFree_hostWait (s : State) : (s.useFree).hostWait = s.hostWait := rfl
@[simp] theorem State.useFree_hpCnt (s : State) : (s.useFree).hpCnt = s.hpCnt := rfl
@[simp] theorem State.useFree_windows (s : State) : (s.useFree).windows = s.windows := rfl
@[simp] theorem State.useFree_trackers (s : State) : (s.useFree).trackers = s.trackers := rfl
@[simp] theorem State.useFree_untracked (s : State) : (s.useFree).untracked = s.untracked := rfl
@[simp] theorem State.useFree_keptWin (s : State) : (s.useFree).keptWin = s.keptWin := rfl
@[simp] theorem State.useFree_nextCid (s : State) : (s.useFree).nextCid = s.nextCid := rfl
@[simp] theorem State.useFree_nextTag (s : State) : (s.useFree).nextTag = s.nextTag := rfl
@[simp] theorem State.useFree_outReqs (s : State) : (s.useFree).outReqs = s.outReqs := rfl
@[simp] theorem State.useFree_mesh (s : State) : (s.useFree).mesh = s.mesh := rfl
@[simp] theorem State.useFree_mgmt (s : State) : (s.useFree).mgmt = s.mgmt := rfl
@[simp] theorem State.useFree_coreSteer (s : State) : (s.useFree).coreSteer = s.coreSteer := rfl
@[simp] theorem State.useFree_upcSram (s : State) : (s.useFree).upcSram = s.upcSram := rfl
@[simp] theorem State.useFree_parts (s : State) : (s.useFree).parts = s.parts := rfl
@[simp] theorem State.useFree_rings (s : State) : (s.useFree).rings = s.rings := rfl
@[simp] theorem State.useFree_cmds (s : State) : (s.useFree).cmds = s.cmds := rfl
@[simp] theorem State.useFree_hints (s : State) : (s.useFree).hints = s.hints := rfl
@[simp] theorem State.useFree_upd (s : State) : (s.useFree).upd = s.upd := rfl
@[simp] theorem State.useFree_stuck (s : State) : (s.useFree).stuck = s.stuck := rfl
@[simp] theorem State.useFree_upcWait (s : State) : (s.useFree).upcWait = s.upcWait := rfl
@[simp] theorem State.useFree_upcPassed (s : State) : (s.useFree).upcPassed = s.upcPassed := rfl
@[simp] theorem State.useFree_links (s : State) : (s.useFree).links = s.links := rfl
@[simp] theorem State.useFree_hostPort (s : State) : (s.useFree).hostPort = s.hostPort := rfl
@[simp] theorem State.useFree_routes (s : State) : (s.useFree).routes = s.routes := rfl
@[simp] theorem State.useFree_fabric (s : State) : (s.useFree).fabric = s.fabric := rfl
@[simp] theorem State.useFree_hostTx (s : State) : (s.useFree).hostTx = s.hostTx := rfl
@[simp] theorem State.useFree_hrd (s : State) : (s.useFree).hrd = s.hrd := rfl
@[simp] theorem State.useFree_hostDone (s : State) : (s.useFree).hostDone = s.hostDone := rfl
@[simp] theorem State.useFree_linkTx (s : State) : (s.useFree).linkTx = s.linkTx := rfl
@[simp] theorem State.useFree_linkRx (s : State) : (s.useFree).linkRx = s.linkRx := rfl
@[simp] theorem State.useFree_sideTx (s : State) : (s.useFree).sideTx = s.sideTx := rfl
@[simp] theorem State.useFree_fuse (s : State) : (s.useFree).fuse = s.fuse := rfl
@[simp] theorem State.useFree_fused (s : State) : (s.useFree).fused = s.fused := rfl
@[simp] theorem State.useFree_mirror (s : State) : (s.useFree).mirror = s.mirror := rfl
@[simp] theorem State.useFree_stud (s : State) : (s.useFree).stud = s.stud := rfl
@[simp] theorem State.useFree_firm (s : State) : (s.useFree).firm = s.firm := rfl
@[simp] theorem State.useFree_sec (s : State) : (s.useFree).sec = s.sec := rfl
@[simp] theorem State.useFree_side (s : State) : (s.useFree).side = s.side := rfl
@[simp] theorem State.useFree_thermTrip (s : State) : (s.useFree).thermTrip = s.thermTrip := rfl

@[simp] theorem State.modCur_pending (s : State) (c : CoreId) (f : CoreSt → CoreSt) : (s.modCur c f).pending = s.pending := rfl
@[simp] theorem State.modCur_clk (s : State) (c : CoreId) (f : CoreSt → CoreSt) : (s.modCur c f).clk = s.clk := rfl
@[simp] theorem State.modCur_st (s : State) (c : CoreId) (f : CoreSt → CoreSt) : (s.modCur c f).st = s.st := rfl
@[simp] theorem State.modCur_fresh (s : State) (c : CoreId) (f : CoreSt → CoreSt) : (s.modCur c f).fresh = s.fresh := rfl
@[simp] theorem State.modCur_start (s : State) (c : CoreId) (f : CoreSt → CoreSt) : (s.modCur c f).start = s.start := rfl
@[simp] theorem State.modCur_dict (s : State) (c : CoreId) (f : CoreSt → CoreSt) : (s.modCur c f).dict = s.dict := rfl
@[simp] theorem State.modCur_log (s : State) (c : CoreId) (f : CoreSt → CoreSt) : (s.modCur c f).log = s.log := rfl
@[simp] theorem State.modCur_clusters (s : State) (c : CoreId) (f : CoreSt → CoreSt) : (s.modCur c f).clusters = s.clusters := rfl
@[simp] theorem State.modCur_cmem (s : State) (c : CoreId) (f : CoreSt → CoreSt) : (s.modCur c f).cmem = s.cmem := rfl
@[simp] theorem State.modCur_cmemPoison (s : State) (c : CoreId) (f : CoreSt → CoreSt) : (s.modCur c f).cmemPoison = s.cmemPoison := rfl
@[simp] theorem State.modCur_cmemOvf (s : State) (c : CoreId) (f : CoreSt → CoreSt) : (s.modCur c f).cmemOvf = s.cmemOvf := rfl
@[simp] theorem State.modCur_hbm (s : State) (c : CoreId) (f : CoreSt → CoreSt) : (s.modCur c f).hbm = s.hbm := rfl
@[simp] theorem State.modCur_hbmPoison (s : State) (c : CoreId) (f : CoreSt → CoreSt) : (s.modCur c f).hbmPoison = s.hbmPoison := rfl
@[simp] theorem State.modCur_hbmOvf (s : State) (c : CoreId) (f : CoreSt → CoreSt) : (s.modCur c f).hbmOvf = s.hbmOvf := rfl
@[simp] theorem State.modCur_hbmData (s : State) (c : CoreId) (f : CoreSt → CoreSt) : (s.modCur c f).hbmData = s.hbmData := rfl
@[simp] theorem State.modCur_health (s : State) (c : CoreId) (f : CoreSt → CoreSt) : (s.modCur c f).health = s.health := rfl
@[simp] theorem State.modCur_bays (s : State) (c : CoreId) (f : CoreSt → CoreSt) : (s.modCur c f).bays = s.bays := rfl
@[simp] theorem State.modCur_grooms (s : State) (c : CoreId) (f : CoreSt → CoreSt) : (s.modCur c f).grooms = s.grooms := rfl
@[simp] theorem State.modCur_copies (s : State) (c : CoreId) (f : CoreSt → CoreSt) : (s.modCur c f).copies = s.copies := rfl
@[simp] theorem State.modCur_nextCopy (s : State) (c : CoreId) (f : CoreSt → CoreSt) : (s.modCur c f).nextCopy = s.nextCopy := rfl
@[simp] theorem State.modCur_adds (s : State) (c : CoreId) (f : CoreSt → CoreSt) : (s.modCur c f).adds = s.adds := rfl
@[simp] theorem State.modCur_signals (s : State) (c : CoreId) (f : CoreSt → CoreSt) : (s.modCur c f).signals = s.signals := rfl
@[simp] theorem State.modCur_landing (s : State) (c : CoreId) (f : CoreSt → CoreSt) : (s.modCur c f).landing = s.landing := rfl
@[simp] theorem State.modCur_mails (s : State) (c : CoreId) (f : CoreSt → CoreSt) : (s.modCur c f).mails = s.mails := rfl
@[simp] theorem State.modCur_posts (s : State) (c : CoreId) (f : CoreSt → CoreSt) : (s.modCur c f).posts = s.posts := rfl
@[simp] theorem State.modCur_hostWait (s : State) (c : CoreId) (f : CoreSt → CoreSt) : (s.modCur c f).hostWait = s.hostWait := rfl
@[simp] theorem State.modCur_hpCnt (s : State) (c : CoreId) (f : CoreSt → CoreSt) : (s.modCur c f).hpCnt = s.hpCnt := rfl
@[simp] theorem State.modCur_windows (s : State) (c : CoreId) (f : CoreSt → CoreSt) : (s.modCur c f).windows = s.windows := rfl
@[simp] theorem State.modCur_trackers (s : State) (c : CoreId) (f : CoreSt → CoreSt) : (s.modCur c f).trackers = s.trackers := rfl
@[simp] theorem State.modCur_untracked (s : State) (c : CoreId) (f : CoreSt → CoreSt) : (s.modCur c f).untracked = s.untracked := rfl
@[simp] theorem State.modCur_keptWin (s : State) (c : CoreId) (f : CoreSt → CoreSt) : (s.modCur c f).keptWin = s.keptWin := rfl
@[simp] theorem State.modCur_nextCid (s : State) (c : CoreId) (f : CoreSt → CoreSt) : (s.modCur c f).nextCid = s.nextCid := rfl
@[simp] theorem State.modCur_nextTag (s : State) (c : CoreId) (f : CoreSt → CoreSt) : (s.modCur c f).nextTag = s.nextTag := rfl
@[simp] theorem State.modCur_outReqs (s : State) (c : CoreId) (f : CoreSt → CoreSt) : (s.modCur c f).outReqs = s.outReqs := rfl
@[simp] theorem State.modCur_mesh (s : State) (c : CoreId) (f : CoreSt → CoreSt) : (s.modCur c f).mesh = s.mesh := rfl
@[simp] theorem State.modCur_mgmt (s : State) (c : CoreId) (f : CoreSt → CoreSt) : (s.modCur c f).mgmt = s.mgmt := rfl
@[simp] theorem State.modCur_coreSteer (s : State) (c : CoreId) (f : CoreSt → CoreSt) : (s.modCur c f).coreSteer = s.coreSteer := rfl
@[simp] theorem State.modCur_upcSram (s : State) (c : CoreId) (f : CoreSt → CoreSt) : (s.modCur c f).upcSram = s.upcSram := rfl
@[simp] theorem State.modCur_parts (s : State) (c : CoreId) (f : CoreSt → CoreSt) : (s.modCur c f).parts = s.parts := rfl
@[simp] theorem State.modCur_rings (s : State) (c : CoreId) (f : CoreSt → CoreSt) : (s.modCur c f).rings = s.rings := rfl
@[simp] theorem State.modCur_cmds (s : State) (c : CoreId) (f : CoreSt → CoreSt) : (s.modCur c f).cmds = s.cmds := rfl
@[simp] theorem State.modCur_hints (s : State) (c : CoreId) (f : CoreSt → CoreSt) : (s.modCur c f).hints = s.hints := rfl
@[simp] theorem State.modCur_upd (s : State) (c : CoreId) (f : CoreSt → CoreSt) : (s.modCur c f).upd = s.upd := rfl
@[simp] theorem State.modCur_stuck (s : State) (c : CoreId) (f : CoreSt → CoreSt) : (s.modCur c f).stuck = s.stuck := rfl
@[simp] theorem State.modCur_upcWait (s : State) (c : CoreId) (f : CoreSt → CoreSt) : (s.modCur c f).upcWait = s.upcWait := rfl
@[simp] theorem State.modCur_upcPassed (s : State) (c : CoreId) (f : CoreSt → CoreSt) : (s.modCur c f).upcPassed = s.upcPassed := rfl
@[simp] theorem State.modCur_links (s : State) (c : CoreId) (f : CoreSt → CoreSt) : (s.modCur c f).links = s.links := rfl
@[simp] theorem State.modCur_hostPort (s : State) (c : CoreId) (f : CoreSt → CoreSt) : (s.modCur c f).hostPort = s.hostPort := rfl
@[simp] theorem State.modCur_routes (s : State) (c : CoreId) (f : CoreSt → CoreSt) : (s.modCur c f).routes = s.routes := rfl
@[simp] theorem State.modCur_fabric (s : State) (c : CoreId) (f : CoreSt → CoreSt) : (s.modCur c f).fabric = s.fabric := rfl
@[simp] theorem State.modCur_hostTx (s : State) (c : CoreId) (f : CoreSt → CoreSt) : (s.modCur c f).hostTx = s.hostTx := rfl
@[simp] theorem State.modCur_hrd (s : State) (c : CoreId) (f : CoreSt → CoreSt) : (s.modCur c f).hrd = s.hrd := rfl
@[simp] theorem State.modCur_hostDone (s : State) (c : CoreId) (f : CoreSt → CoreSt) : (s.modCur c f).hostDone = s.hostDone := rfl
@[simp] theorem State.modCur_linkTx (s : State) (c : CoreId) (f : CoreSt → CoreSt) : (s.modCur c f).linkTx = s.linkTx := rfl
@[simp] theorem State.modCur_linkRx (s : State) (c : CoreId) (f : CoreSt → CoreSt) : (s.modCur c f).linkRx = s.linkRx := rfl
@[simp] theorem State.modCur_sideTx (s : State) (c : CoreId) (f : CoreSt → CoreSt) : (s.modCur c f).sideTx = s.sideTx := rfl
@[simp] theorem State.modCur_fuse (s : State) (c : CoreId) (f : CoreSt → CoreSt) : (s.modCur c f).fuse = s.fuse := rfl
@[simp] theorem State.modCur_fused (s : State) (c : CoreId) (f : CoreSt → CoreSt) : (s.modCur c f).fused = s.fused := rfl
@[simp] theorem State.modCur_mirror (s : State) (c : CoreId) (f : CoreSt → CoreSt) : (s.modCur c f).mirror = s.mirror := rfl
@[simp] theorem State.modCur_stud (s : State) (c : CoreId) (f : CoreSt → CoreSt) : (s.modCur c f).stud = s.stud := rfl
@[simp] theorem State.modCur_firm (s : State) (c : CoreId) (f : CoreSt → CoreSt) : (s.modCur c f).firm = s.firm := rfl
@[simp] theorem State.modCur_sec (s : State) (c : CoreId) (f : CoreSt → CoreSt) : (s.modCur c f).sec = s.sec := rfl
@[simp] theorem State.modCur_side (s : State) (c : CoreId) (f : CoreSt → CoreSt) : (s.modCur c f).side = s.side := rfl
@[simp] theorem State.modCur_thermTrip (s : State) (c : CoreId) (f : CoreSt → CoreSt) : (s.modCur c f).thermTrip = s.thermTrip := rfl

@[simp] theorem State.modBoth_pending (s : State) (c : CoreId) (f : CoreSt → CoreSt) : (s.modBoth c f).pending = s.pending := rfl
@[simp] theorem State.modBoth_clk (s : State) (c : CoreId) (f : CoreSt → CoreSt) : (s.modBoth c f).clk = s.clk := rfl
@[simp] theorem State.modBoth_st (s : State) (c : CoreId) (f : CoreSt → CoreSt) : (s.modBoth c f).st = s.st := rfl
@[simp] theorem State.modBoth_fresh (s : State) (c : CoreId) (f : CoreSt → CoreSt) : (s.modBoth c f).fresh = s.fresh := rfl
@[simp] theorem State.modBoth_start (s : State) (c : CoreId) (f : CoreSt → CoreSt) : (s.modBoth c f).start = s.start := rfl
@[simp] theorem State.modBoth_dict (s : State) (c : CoreId) (f : CoreSt → CoreSt) : (s.modBoth c f).dict = s.dict := rfl
@[simp] theorem State.modBoth_log (s : State) (c : CoreId) (f : CoreSt → CoreSt) : (s.modBoth c f).log = s.log := rfl
@[simp] theorem State.modBoth_clusters (s : State) (c : CoreId) (f : CoreSt → CoreSt) : (s.modBoth c f).clusters = s.clusters := rfl
@[simp] theorem State.modBoth_cmem (s : State) (c : CoreId) (f : CoreSt → CoreSt) : (s.modBoth c f).cmem = s.cmem := rfl
@[simp] theorem State.modBoth_cmemPoison (s : State) (c : CoreId) (f : CoreSt → CoreSt) : (s.modBoth c f).cmemPoison = s.cmemPoison := rfl
@[simp] theorem State.modBoth_cmemOvf (s : State) (c : CoreId) (f : CoreSt → CoreSt) : (s.modBoth c f).cmemOvf = s.cmemOvf := rfl
@[simp] theorem State.modBoth_hbm (s : State) (c : CoreId) (f : CoreSt → CoreSt) : (s.modBoth c f).hbm = s.hbm := rfl
@[simp] theorem State.modBoth_hbmPoison (s : State) (c : CoreId) (f : CoreSt → CoreSt) : (s.modBoth c f).hbmPoison = s.hbmPoison := rfl
@[simp] theorem State.modBoth_hbmOvf (s : State) (c : CoreId) (f : CoreSt → CoreSt) : (s.modBoth c f).hbmOvf = s.hbmOvf := rfl
@[simp] theorem State.modBoth_hbmData (s : State) (c : CoreId) (f : CoreSt → CoreSt) : (s.modBoth c f).hbmData = s.hbmData := rfl
@[simp] theorem State.modBoth_health (s : State) (c : CoreId) (f : CoreSt → CoreSt) : (s.modBoth c f).health = s.health := rfl
@[simp] theorem State.modBoth_bays (s : State) (c : CoreId) (f : CoreSt → CoreSt) : (s.modBoth c f).bays = s.bays := rfl
@[simp] theorem State.modBoth_grooms (s : State) (c : CoreId) (f : CoreSt → CoreSt) : (s.modBoth c f).grooms = s.grooms := rfl
@[simp] theorem State.modBoth_copies (s : State) (c : CoreId) (f : CoreSt → CoreSt) : (s.modBoth c f).copies = s.copies := rfl
@[simp] theorem State.modBoth_nextCopy (s : State) (c : CoreId) (f : CoreSt → CoreSt) : (s.modBoth c f).nextCopy = s.nextCopy := rfl
@[simp] theorem State.modBoth_adds (s : State) (c : CoreId) (f : CoreSt → CoreSt) : (s.modBoth c f).adds = s.adds := rfl
@[simp] theorem State.modBoth_signals (s : State) (c : CoreId) (f : CoreSt → CoreSt) : (s.modBoth c f).signals = s.signals := rfl
@[simp] theorem State.modBoth_landing (s : State) (c : CoreId) (f : CoreSt → CoreSt) : (s.modBoth c f).landing = s.landing := rfl
@[simp] theorem State.modBoth_mails (s : State) (c : CoreId) (f : CoreSt → CoreSt) : (s.modBoth c f).mails = s.mails := rfl
@[simp] theorem State.modBoth_posts (s : State) (c : CoreId) (f : CoreSt → CoreSt) : (s.modBoth c f).posts = s.posts := rfl
@[simp] theorem State.modBoth_hostWait (s : State) (c : CoreId) (f : CoreSt → CoreSt) : (s.modBoth c f).hostWait = s.hostWait := rfl
@[simp] theorem State.modBoth_hpCnt (s : State) (c : CoreId) (f : CoreSt → CoreSt) : (s.modBoth c f).hpCnt = s.hpCnt := rfl
@[simp] theorem State.modBoth_windows (s : State) (c : CoreId) (f : CoreSt → CoreSt) : (s.modBoth c f).windows = s.windows := rfl
@[simp] theorem State.modBoth_trackers (s : State) (c : CoreId) (f : CoreSt → CoreSt) : (s.modBoth c f).trackers = s.trackers := rfl
@[simp] theorem State.modBoth_untracked (s : State) (c : CoreId) (f : CoreSt → CoreSt) : (s.modBoth c f).untracked = s.untracked := rfl
@[simp] theorem State.modBoth_keptWin (s : State) (c : CoreId) (f : CoreSt → CoreSt) : (s.modBoth c f).keptWin = s.keptWin := rfl
@[simp] theorem State.modBoth_nextCid (s : State) (c : CoreId) (f : CoreSt → CoreSt) : (s.modBoth c f).nextCid = s.nextCid := rfl
@[simp] theorem State.modBoth_nextTag (s : State) (c : CoreId) (f : CoreSt → CoreSt) : (s.modBoth c f).nextTag = s.nextTag := rfl
@[simp] theorem State.modBoth_outReqs (s : State) (c : CoreId) (f : CoreSt → CoreSt) : (s.modBoth c f).outReqs = s.outReqs := rfl
@[simp] theorem State.modBoth_mesh (s : State) (c : CoreId) (f : CoreSt → CoreSt) : (s.modBoth c f).mesh = s.mesh := rfl
@[simp] theorem State.modBoth_mgmt (s : State) (c : CoreId) (f : CoreSt → CoreSt) : (s.modBoth c f).mgmt = s.mgmt := rfl
@[simp] theorem State.modBoth_coreSteer (s : State) (c : CoreId) (f : CoreSt → CoreSt) : (s.modBoth c f).coreSteer = s.coreSteer := rfl
@[simp] theorem State.modBoth_upcSram (s : State) (c : CoreId) (f : CoreSt → CoreSt) : (s.modBoth c f).upcSram = s.upcSram := rfl
@[simp] theorem State.modBoth_parts (s : State) (c : CoreId) (f : CoreSt → CoreSt) : (s.modBoth c f).parts = s.parts := rfl
@[simp] theorem State.modBoth_rings (s : State) (c : CoreId) (f : CoreSt → CoreSt) : (s.modBoth c f).rings = s.rings := rfl
@[simp] theorem State.modBoth_cmds (s : State) (c : CoreId) (f : CoreSt → CoreSt) : (s.modBoth c f).cmds = s.cmds := rfl
@[simp] theorem State.modBoth_hints (s : State) (c : CoreId) (f : CoreSt → CoreSt) : (s.modBoth c f).hints = s.hints := rfl
@[simp] theorem State.modBoth_upd (s : State) (c : CoreId) (f : CoreSt → CoreSt) : (s.modBoth c f).upd = s.upd := rfl
@[simp] theorem State.modBoth_stuck (s : State) (c : CoreId) (f : CoreSt → CoreSt) : (s.modBoth c f).stuck = s.stuck := rfl
@[simp] theorem State.modBoth_upcWait (s : State) (c : CoreId) (f : CoreSt → CoreSt) : (s.modBoth c f).upcWait = s.upcWait := rfl
@[simp] theorem State.modBoth_upcPassed (s : State) (c : CoreId) (f : CoreSt → CoreSt) : (s.modBoth c f).upcPassed = s.upcPassed := rfl
@[simp] theorem State.modBoth_links (s : State) (c : CoreId) (f : CoreSt → CoreSt) : (s.modBoth c f).links = s.links := rfl
@[simp] theorem State.modBoth_hostPort (s : State) (c : CoreId) (f : CoreSt → CoreSt) : (s.modBoth c f).hostPort = s.hostPort := rfl
@[simp] theorem State.modBoth_routes (s : State) (c : CoreId) (f : CoreSt → CoreSt) : (s.modBoth c f).routes = s.routes := rfl
@[simp] theorem State.modBoth_fabric (s : State) (c : CoreId) (f : CoreSt → CoreSt) : (s.modBoth c f).fabric = s.fabric := rfl
@[simp] theorem State.modBoth_hostTx (s : State) (c : CoreId) (f : CoreSt → CoreSt) : (s.modBoth c f).hostTx = s.hostTx := rfl
@[simp] theorem State.modBoth_hrd (s : State) (c : CoreId) (f : CoreSt → CoreSt) : (s.modBoth c f).hrd = s.hrd := rfl
@[simp] theorem State.modBoth_hostDone (s : State) (c : CoreId) (f : CoreSt → CoreSt) : (s.modBoth c f).hostDone = s.hostDone := rfl
@[simp] theorem State.modBoth_linkTx (s : State) (c : CoreId) (f : CoreSt → CoreSt) : (s.modBoth c f).linkTx = s.linkTx := rfl
@[simp] theorem State.modBoth_linkRx (s : State) (c : CoreId) (f : CoreSt → CoreSt) : (s.modBoth c f).linkRx = s.linkRx := rfl
@[simp] theorem State.modBoth_sideTx (s : State) (c : CoreId) (f : CoreSt → CoreSt) : (s.modBoth c f).sideTx = s.sideTx := rfl
@[simp] theorem State.modBoth_fuse (s : State) (c : CoreId) (f : CoreSt → CoreSt) : (s.modBoth c f).fuse = s.fuse := rfl
@[simp] theorem State.modBoth_fused (s : State) (c : CoreId) (f : CoreSt → CoreSt) : (s.modBoth c f).fused = s.fused := rfl
@[simp] theorem State.modBoth_mirror (s : State) (c : CoreId) (f : CoreSt → CoreSt) : (s.modBoth c f).mirror = s.mirror := rfl
@[simp] theorem State.modBoth_stud (s : State) (c : CoreId) (f : CoreSt → CoreSt) : (s.modBoth c f).stud = s.stud := rfl
@[simp] theorem State.modBoth_firm (s : State) (c : CoreId) (f : CoreSt → CoreSt) : (s.modBoth c f).firm = s.firm := rfl
@[simp] theorem State.modBoth_sec (s : State) (c : CoreId) (f : CoreSt → CoreSt) : (s.modBoth c f).sec = s.sec := rfl
@[simp] theorem State.modBoth_side (s : State) (c : CoreId) (f : CoreSt → CoreSt) : (s.modBoth c f).side = s.side := rfl
@[simp] theorem State.modBoth_thermTrip (s : State) (c : CoreId) (f : CoreSt → CoreSt) : (s.modBoth c f).thermTrip = s.thermTrip := rfl

@[simp] theorem State.modCl_pending (s : State) (k : SiteId) (f : Cluster → Cluster) : (s.modCl k f).pending = s.pending := rfl
@[simp] theorem State.modCl_clk (s : State) (k : SiteId) (f : Cluster → Cluster) : (s.modCl k f).clk = s.clk := rfl
@[simp] theorem State.modCl_st (s : State) (k : SiteId) (f : Cluster → Cluster) : (s.modCl k f).st = s.st := rfl
@[simp] theorem State.modCl_fresh (s : State) (k : SiteId) (f : Cluster → Cluster) : (s.modCl k f).fresh = s.fresh := rfl
@[simp] theorem State.modCl_start (s : State) (k : SiteId) (f : Cluster → Cluster) : (s.modCl k f).start = s.start := rfl
@[simp] theorem State.modCl_dict (s : State) (k : SiteId) (f : Cluster → Cluster) : (s.modCl k f).dict = s.dict := rfl
@[simp] theorem State.modCl_log (s : State) (k : SiteId) (f : Cluster → Cluster) : (s.modCl k f).log = s.log := rfl
@[simp] theorem State.modCl_cores (s : State) (k : SiteId) (f : Cluster → Cluster) : (s.modCl k f).cores = s.cores := rfl
@[simp] theorem State.modCl_cmem (s : State) (k : SiteId) (f : Cluster → Cluster) : (s.modCl k f).cmem = s.cmem := rfl
@[simp] theorem State.modCl_cmemPoison (s : State) (k : SiteId) (f : Cluster → Cluster) : (s.modCl k f).cmemPoison = s.cmemPoison := rfl
@[simp] theorem State.modCl_cmemOvf (s : State) (k : SiteId) (f : Cluster → Cluster) : (s.modCl k f).cmemOvf = s.cmemOvf := rfl
@[simp] theorem State.modCl_hbm (s : State) (k : SiteId) (f : Cluster → Cluster) : (s.modCl k f).hbm = s.hbm := rfl
@[simp] theorem State.modCl_hbmPoison (s : State) (k : SiteId) (f : Cluster → Cluster) : (s.modCl k f).hbmPoison = s.hbmPoison := rfl
@[simp] theorem State.modCl_hbmOvf (s : State) (k : SiteId) (f : Cluster → Cluster) : (s.modCl k f).hbmOvf = s.hbmOvf := rfl
@[simp] theorem State.modCl_hbmData (s : State) (k : SiteId) (f : Cluster → Cluster) : (s.modCl k f).hbmData = s.hbmData := rfl
@[simp] theorem State.modCl_health (s : State) (k : SiteId) (f : Cluster → Cluster) : (s.modCl k f).health = s.health := rfl
@[simp] theorem State.modCl_bays (s : State) (k : SiteId) (f : Cluster → Cluster) : (s.modCl k f).bays = s.bays := rfl
@[simp] theorem State.modCl_grooms (s : State) (k : SiteId) (f : Cluster → Cluster) : (s.modCl k f).grooms = s.grooms := rfl
@[simp] theorem State.modCl_copies (s : State) (k : SiteId) (f : Cluster → Cluster) : (s.modCl k f).copies = s.copies := rfl
@[simp] theorem State.modCl_nextCopy (s : State) (k : SiteId) (f : Cluster → Cluster) : (s.modCl k f).nextCopy = s.nextCopy := rfl
@[simp] theorem State.modCl_adds (s : State) (k : SiteId) (f : Cluster → Cluster) : (s.modCl k f).adds = s.adds := rfl
@[simp] theorem State.modCl_signals (s : State) (k : SiteId) (f : Cluster → Cluster) : (s.modCl k f).signals = s.signals := rfl
@[simp] theorem State.modCl_landing (s : State) (k : SiteId) (f : Cluster → Cluster) : (s.modCl k f).landing = s.landing := rfl
@[simp] theorem State.modCl_mails (s : State) (k : SiteId) (f : Cluster → Cluster) : (s.modCl k f).mails = s.mails := rfl
@[simp] theorem State.modCl_posts (s : State) (k : SiteId) (f : Cluster → Cluster) : (s.modCl k f).posts = s.posts := rfl
@[simp] theorem State.modCl_hostWait (s : State) (k : SiteId) (f : Cluster → Cluster) : (s.modCl k f).hostWait = s.hostWait := rfl
@[simp] theorem State.modCl_hpCnt (s : State) (k : SiteId) (f : Cluster → Cluster) : (s.modCl k f).hpCnt = s.hpCnt := rfl
@[simp] theorem State.modCl_windows (s : State) (k : SiteId) (f : Cluster → Cluster) : (s.modCl k f).windows = s.windows := rfl
@[simp] theorem State.modCl_trackers (s : State) (k : SiteId) (f : Cluster → Cluster) : (s.modCl k f).trackers = s.trackers := rfl
@[simp] theorem State.modCl_untracked (s : State) (k : SiteId) (f : Cluster → Cluster) : (s.modCl k f).untracked = s.untracked := rfl
@[simp] theorem State.modCl_keptWin (s : State) (k : SiteId) (f : Cluster → Cluster) : (s.modCl k f).keptWin = s.keptWin := rfl
@[simp] theorem State.modCl_nextCid (s : State) (k : SiteId) (f : Cluster → Cluster) : (s.modCl k f).nextCid = s.nextCid := rfl
@[simp] theorem State.modCl_nextTag (s : State) (k : SiteId) (f : Cluster → Cluster) : (s.modCl k f).nextTag = s.nextTag := rfl
@[simp] theorem State.modCl_outReqs (s : State) (k : SiteId) (f : Cluster → Cluster) : (s.modCl k f).outReqs = s.outReqs := rfl
@[simp] theorem State.modCl_mesh (s : State) (k : SiteId) (f : Cluster → Cluster) : (s.modCl k f).mesh = s.mesh := rfl
@[simp] theorem State.modCl_mgmt (s : State) (k : SiteId) (f : Cluster → Cluster) : (s.modCl k f).mgmt = s.mgmt := rfl
@[simp] theorem State.modCl_coreSteer (s : State) (k : SiteId) (f : Cluster → Cluster) : (s.modCl k f).coreSteer = s.coreSteer := rfl
@[simp] theorem State.modCl_upcSram (s : State) (k : SiteId) (f : Cluster → Cluster) : (s.modCl k f).upcSram = s.upcSram := rfl
@[simp] theorem State.modCl_parts (s : State) (k : SiteId) (f : Cluster → Cluster) : (s.modCl k f).parts = s.parts := rfl
@[simp] theorem State.modCl_rings (s : State) (k : SiteId) (f : Cluster → Cluster) : (s.modCl k f).rings = s.rings := rfl
@[simp] theorem State.modCl_cmds (s : State) (k : SiteId) (f : Cluster → Cluster) : (s.modCl k f).cmds = s.cmds := rfl
@[simp] theorem State.modCl_hints (s : State) (k : SiteId) (f : Cluster → Cluster) : (s.modCl k f).hints = s.hints := rfl
@[simp] theorem State.modCl_upd (s : State) (k : SiteId) (f : Cluster → Cluster) : (s.modCl k f).upd = s.upd := rfl
@[simp] theorem State.modCl_stuck (s : State) (k : SiteId) (f : Cluster → Cluster) : (s.modCl k f).stuck = s.stuck := rfl
@[simp] theorem State.modCl_upcWait (s : State) (k : SiteId) (f : Cluster → Cluster) : (s.modCl k f).upcWait = s.upcWait := rfl
@[simp] theorem State.modCl_upcPassed (s : State) (k : SiteId) (f : Cluster → Cluster) : (s.modCl k f).upcPassed = s.upcPassed := rfl
@[simp] theorem State.modCl_links (s : State) (k : SiteId) (f : Cluster → Cluster) : (s.modCl k f).links = s.links := rfl
@[simp] theorem State.modCl_hostPort (s : State) (k : SiteId) (f : Cluster → Cluster) : (s.modCl k f).hostPort = s.hostPort := rfl
@[simp] theorem State.modCl_routes (s : State) (k : SiteId) (f : Cluster → Cluster) : (s.modCl k f).routes = s.routes := rfl
@[simp] theorem State.modCl_fabric (s : State) (k : SiteId) (f : Cluster → Cluster) : (s.modCl k f).fabric = s.fabric := rfl
@[simp] theorem State.modCl_hostTx (s : State) (k : SiteId) (f : Cluster → Cluster) : (s.modCl k f).hostTx = s.hostTx := rfl
@[simp] theorem State.modCl_hrd (s : State) (k : SiteId) (f : Cluster → Cluster) : (s.modCl k f).hrd = s.hrd := rfl
@[simp] theorem State.modCl_hostDone (s : State) (k : SiteId) (f : Cluster → Cluster) : (s.modCl k f).hostDone = s.hostDone := rfl
@[simp] theorem State.modCl_linkTx (s : State) (k : SiteId) (f : Cluster → Cluster) : (s.modCl k f).linkTx = s.linkTx := rfl
@[simp] theorem State.modCl_linkRx (s : State) (k : SiteId) (f : Cluster → Cluster) : (s.modCl k f).linkRx = s.linkRx := rfl
@[simp] theorem State.modCl_sideTx (s : State) (k : SiteId) (f : Cluster → Cluster) : (s.modCl k f).sideTx = s.sideTx := rfl
@[simp] theorem State.modCl_fuse (s : State) (k : SiteId) (f : Cluster → Cluster) : (s.modCl k f).fuse = s.fuse := rfl
@[simp] theorem State.modCl_fused (s : State) (k : SiteId) (f : Cluster → Cluster) : (s.modCl k f).fused = s.fused := rfl
@[simp] theorem State.modCl_mirror (s : State) (k : SiteId) (f : Cluster → Cluster) : (s.modCl k f).mirror = s.mirror := rfl
@[simp] theorem State.modCl_stud (s : State) (k : SiteId) (f : Cluster → Cluster) : (s.modCl k f).stud = s.stud := rfl
@[simp] theorem State.modCl_firm (s : State) (k : SiteId) (f : Cluster → Cluster) : (s.modCl k f).firm = s.firm := rfl
@[simp] theorem State.modCl_sec (s : State) (k : SiteId) (f : Cluster → Cluster) : (s.modCl k f).sec = s.sec := rfl
@[simp] theorem State.modCl_side (s : State) (k : SiteId) (f : Cluster → Cluster) : (s.modCl k f).side = s.side := rfl
@[simp] theorem State.modCl_thermTrip (s : State) (k : SiteId) (f : Cluster → Cluster) : (s.modCl k f).thermTrip = s.thermTrip := rfl

@[simp] theorem State.modJob_pending (s : State) (p : Nat) (f : Job → Job) : (s.modJob p f).pending = s.pending := rfl
@[simp] theorem State.modJob_clk (s : State) (p : Nat) (f : Job → Job) : (s.modJob p f).clk = s.clk := rfl
@[simp] theorem State.modJob_st (s : State) (p : Nat) (f : Job → Job) : (s.modJob p f).st = s.st := rfl
@[simp] theorem State.modJob_fresh (s : State) (p : Nat) (f : Job → Job) : (s.modJob p f).fresh = s.fresh := rfl
@[simp] theorem State.modJob_start (s : State) (p : Nat) (f : Job → Job) : (s.modJob p f).start = s.start := rfl
@[simp] theorem State.modJob_dict (s : State) (p : Nat) (f : Job → Job) : (s.modJob p f).dict = s.dict := rfl
@[simp] theorem State.modJob_log (s : State) (p : Nat) (f : Job → Job) : (s.modJob p f).log = s.log := rfl
@[simp] theorem State.modJob_cores (s : State) (p : Nat) (f : Job → Job) : (s.modJob p f).cores = s.cores := rfl
@[simp] theorem State.modJob_clusters (s : State) (p : Nat) (f : Job → Job) : (s.modJob p f).clusters = s.clusters := rfl
@[simp] theorem State.modJob_cmem (s : State) (p : Nat) (f : Job → Job) : (s.modJob p f).cmem = s.cmem := rfl
@[simp] theorem State.modJob_cmemPoison (s : State) (p : Nat) (f : Job → Job) : (s.modJob p f).cmemPoison = s.cmemPoison := rfl
@[simp] theorem State.modJob_cmemOvf (s : State) (p : Nat) (f : Job → Job) : (s.modJob p f).cmemOvf = s.cmemOvf := rfl
@[simp] theorem State.modJob_hbm (s : State) (p : Nat) (f : Job → Job) : (s.modJob p f).hbm = s.hbm := rfl
@[simp] theorem State.modJob_hbmPoison (s : State) (p : Nat) (f : Job → Job) : (s.modJob p f).hbmPoison = s.hbmPoison := rfl
@[simp] theorem State.modJob_hbmOvf (s : State) (p : Nat) (f : Job → Job) : (s.modJob p f).hbmOvf = s.hbmOvf := rfl
@[simp] theorem State.modJob_hbmData (s : State) (p : Nat) (f : Job → Job) : (s.modJob p f).hbmData = s.hbmData := rfl
@[simp] theorem State.modJob_health (s : State) (p : Nat) (f : Job → Job) : (s.modJob p f).health = s.health := rfl
@[simp] theorem State.modJob_bays (s : State) (p : Nat) (f : Job → Job) : (s.modJob p f).bays = s.bays := rfl
@[simp] theorem State.modJob_grooms (s : State) (p : Nat) (f : Job → Job) : (s.modJob p f).grooms = s.grooms := rfl
@[simp] theorem State.modJob_copies (s : State) (p : Nat) (f : Job → Job) : (s.modJob p f).copies = s.copies := rfl
@[simp] theorem State.modJob_nextCopy (s : State) (p : Nat) (f : Job → Job) : (s.modJob p f).nextCopy = s.nextCopy := rfl
@[simp] theorem State.modJob_adds (s : State) (p : Nat) (f : Job → Job) : (s.modJob p f).adds = s.adds := rfl
@[simp] theorem State.modJob_signals (s : State) (p : Nat) (f : Job → Job) : (s.modJob p f).signals = s.signals := rfl
@[simp] theorem State.modJob_landing (s : State) (p : Nat) (f : Job → Job) : (s.modJob p f).landing = s.landing := rfl
@[simp] theorem State.modJob_mails (s : State) (p : Nat) (f : Job → Job) : (s.modJob p f).mails = s.mails := rfl
@[simp] theorem State.modJob_posts (s : State) (p : Nat) (f : Job → Job) : (s.modJob p f).posts = s.posts := rfl
@[simp] theorem State.modJob_hostWait (s : State) (p : Nat) (f : Job → Job) : (s.modJob p f).hostWait = s.hostWait := rfl
@[simp] theorem State.modJob_hpCnt (s : State) (p : Nat) (f : Job → Job) : (s.modJob p f).hpCnt = s.hpCnt := rfl
@[simp] theorem State.modJob_windows (s : State) (p : Nat) (f : Job → Job) : (s.modJob p f).windows = s.windows := rfl
@[simp] theorem State.modJob_trackers (s : State) (p : Nat) (f : Job → Job) : (s.modJob p f).trackers = s.trackers := rfl
@[simp] theorem State.modJob_untracked (s : State) (p : Nat) (f : Job → Job) : (s.modJob p f).untracked = s.untracked := rfl
@[simp] theorem State.modJob_keptWin (s : State) (p : Nat) (f : Job → Job) : (s.modJob p f).keptWin = s.keptWin := rfl
@[simp] theorem State.modJob_nextCid (s : State) (p : Nat) (f : Job → Job) : (s.modJob p f).nextCid = s.nextCid := rfl
@[simp] theorem State.modJob_nextTag (s : State) (p : Nat) (f : Job → Job) : (s.modJob p f).nextTag = s.nextTag := rfl
@[simp] theorem State.modJob_outReqs (s : State) (p : Nat) (f : Job → Job) : (s.modJob p f).outReqs = s.outReqs := rfl
@[simp] theorem State.modJob_mesh (s : State) (p : Nat) (f : Job → Job) : (s.modJob p f).mesh = s.mesh := rfl
@[simp] theorem State.modJob_mgmt (s : State) (p : Nat) (f : Job → Job) : (s.modJob p f).mgmt = s.mgmt := rfl
@[simp] theorem State.modJob_coreSteer (s : State) (p : Nat) (f : Job → Job) : (s.modJob p f).coreSteer = s.coreSteer := rfl
@[simp] theorem State.modJob_upcSram (s : State) (p : Nat) (f : Job → Job) : (s.modJob p f).upcSram = s.upcSram := rfl
@[simp] theorem State.modJob_rings (s : State) (p : Nat) (f : Job → Job) : (s.modJob p f).rings = s.rings := rfl
@[simp] theorem State.modJob_cmds (s : State) (p : Nat) (f : Job → Job) : (s.modJob p f).cmds = s.cmds := rfl
@[simp] theorem State.modJob_hints (s : State) (p : Nat) (f : Job → Job) : (s.modJob p f).hints = s.hints := rfl
@[simp] theorem State.modJob_upd (s : State) (p : Nat) (f : Job → Job) : (s.modJob p f).upd = s.upd := rfl
@[simp] theorem State.modJob_stuck (s : State) (p : Nat) (f : Job → Job) : (s.modJob p f).stuck = s.stuck := rfl
@[simp] theorem State.modJob_upcWait (s : State) (p : Nat) (f : Job → Job) : (s.modJob p f).upcWait = s.upcWait := rfl
@[simp] theorem State.modJob_upcPassed (s : State) (p : Nat) (f : Job → Job) : (s.modJob p f).upcPassed = s.upcPassed := rfl
@[simp] theorem State.modJob_links (s : State) (p : Nat) (f : Job → Job) : (s.modJob p f).links = s.links := rfl
@[simp] theorem State.modJob_hostPort (s : State) (p : Nat) (f : Job → Job) : (s.modJob p f).hostPort = s.hostPort := rfl
@[simp] theorem State.modJob_routes (s : State) (p : Nat) (f : Job → Job) : (s.modJob p f).routes = s.routes := rfl
@[simp] theorem State.modJob_fabric (s : State) (p : Nat) (f : Job → Job) : (s.modJob p f).fabric = s.fabric := rfl
@[simp] theorem State.modJob_hostTx (s : State) (p : Nat) (f : Job → Job) : (s.modJob p f).hostTx = s.hostTx := rfl
@[simp] theorem State.modJob_hrd (s : State) (p : Nat) (f : Job → Job) : (s.modJob p f).hrd = s.hrd := rfl
@[simp] theorem State.modJob_hostDone (s : State) (p : Nat) (f : Job → Job) : (s.modJob p f).hostDone = s.hostDone := rfl
@[simp] theorem State.modJob_linkTx (s : State) (p : Nat) (f : Job → Job) : (s.modJob p f).linkTx = s.linkTx := rfl
@[simp] theorem State.modJob_linkRx (s : State) (p : Nat) (f : Job → Job) : (s.modJob p f).linkRx = s.linkRx := rfl
@[simp] theorem State.modJob_sideTx (s : State) (p : Nat) (f : Job → Job) : (s.modJob p f).sideTx = s.sideTx := rfl
@[simp] theorem State.modJob_fuse (s : State) (p : Nat) (f : Job → Job) : (s.modJob p f).fuse = s.fuse := rfl
@[simp] theorem State.modJob_fused (s : State) (p : Nat) (f : Job → Job) : (s.modJob p f).fused = s.fused := rfl
@[simp] theorem State.modJob_mirror (s : State) (p : Nat) (f : Job → Job) : (s.modJob p f).mirror = s.mirror := rfl
@[simp] theorem State.modJob_stud (s : State) (p : Nat) (f : Job → Job) : (s.modJob p f).stud = s.stud := rfl
@[simp] theorem State.modJob_firm (s : State) (p : Nat) (f : Job → Job) : (s.modJob p f).firm = s.firm := rfl
@[simp] theorem State.modJob_sec (s : State) (p : Nat) (f : Job → Job) : (s.modJob p f).sec = s.sec := rfl
@[simp] theorem State.modJob_side (s : State) (p : Nat) (f : Job → Job) : (s.modJob p f).side = s.side := rfl
@[simp] theorem State.modJob_thermTrip (s : State) (p : Nat) (f : Job → Job) : (s.modJob p f).thermTrip = s.thermTrip := rfl

@[simp] theorem State.odAdd_pending (s : State) (k n : Nat) : (s.odAdd k n).pending = s.pending := rfl
@[simp] theorem State.odAdd_clk (s : State) (k n : Nat) : (s.odAdd k n).clk = s.clk := rfl
@[simp] theorem State.odAdd_st (s : State) (k n : Nat) : (s.odAdd k n).st = s.st := rfl
@[simp] theorem State.odAdd_fresh (s : State) (k n : Nat) : (s.odAdd k n).fresh = s.fresh := rfl
@[simp] theorem State.odAdd_start (s : State) (k n : Nat) : (s.odAdd k n).start = s.start := rfl
@[simp] theorem State.odAdd_log (s : State) (k n : Nat) : (s.odAdd k n).log = s.log := rfl
@[simp] theorem State.odAdd_cores (s : State) (k n : Nat) : (s.odAdd k n).cores = s.cores := rfl
@[simp] theorem State.odAdd_clusters (s : State) (k n : Nat) : (s.odAdd k n).clusters = s.clusters := rfl
@[simp] theorem State.odAdd_cmem (s : State) (k n : Nat) : (s.odAdd k n).cmem = s.cmem := rfl
@[simp] theorem State.odAdd_cmemPoison (s : State) (k n : Nat) : (s.odAdd k n).cmemPoison = s.cmemPoison := rfl
@[simp] theorem State.odAdd_cmemOvf (s : State) (k n : Nat) : (s.odAdd k n).cmemOvf = s.cmemOvf := rfl
@[simp] theorem State.odAdd_hbm (s : State) (k n : Nat) : (s.odAdd k n).hbm = s.hbm := rfl
@[simp] theorem State.odAdd_hbmPoison (s : State) (k n : Nat) : (s.odAdd k n).hbmPoison = s.hbmPoison := rfl
@[simp] theorem State.odAdd_hbmOvf (s : State) (k n : Nat) : (s.odAdd k n).hbmOvf = s.hbmOvf := rfl
@[simp] theorem State.odAdd_hbmData (s : State) (k n : Nat) : (s.odAdd k n).hbmData = s.hbmData := rfl
@[simp] theorem State.odAdd_health (s : State) (k n : Nat) : (s.odAdd k n).health = s.health := rfl
@[simp] theorem State.odAdd_bays (s : State) (k n : Nat) : (s.odAdd k n).bays = s.bays := rfl
@[simp] theorem State.odAdd_grooms (s : State) (k n : Nat) : (s.odAdd k n).grooms = s.grooms := rfl
@[simp] theorem State.odAdd_copies (s : State) (k n : Nat) : (s.odAdd k n).copies = s.copies := rfl
@[simp] theorem State.odAdd_nextCopy (s : State) (k n : Nat) : (s.odAdd k n).nextCopy = s.nextCopy := rfl
@[simp] theorem State.odAdd_adds (s : State) (k n : Nat) : (s.odAdd k n).adds = s.adds := rfl
@[simp] theorem State.odAdd_signals (s : State) (k n : Nat) : (s.odAdd k n).signals = s.signals := rfl
@[simp] theorem State.odAdd_landing (s : State) (k n : Nat) : (s.odAdd k n).landing = s.landing := rfl
@[simp] theorem State.odAdd_mails (s : State) (k n : Nat) : (s.odAdd k n).mails = s.mails := rfl
@[simp] theorem State.odAdd_posts (s : State) (k n : Nat) : (s.odAdd k n).posts = s.posts := rfl
@[simp] theorem State.odAdd_hostWait (s : State) (k n : Nat) : (s.odAdd k n).hostWait = s.hostWait := rfl
@[simp] theorem State.odAdd_hpCnt (s : State) (k n : Nat) : (s.odAdd k n).hpCnt = s.hpCnt := rfl
@[simp] theorem State.odAdd_windows (s : State) (k n : Nat) : (s.odAdd k n).windows = s.windows := rfl
@[simp] theorem State.odAdd_trackers (s : State) (k n : Nat) : (s.odAdd k n).trackers = s.trackers := rfl
@[simp] theorem State.odAdd_untracked (s : State) (k n : Nat) : (s.odAdd k n).untracked = s.untracked := rfl
@[simp] theorem State.odAdd_keptWin (s : State) (k n : Nat) : (s.odAdd k n).keptWin = s.keptWin := rfl
@[simp] theorem State.odAdd_nextCid (s : State) (k n : Nat) : (s.odAdd k n).nextCid = s.nextCid := rfl
@[simp] theorem State.odAdd_nextTag (s : State) (k n : Nat) : (s.odAdd k n).nextTag = s.nextTag := rfl
@[simp] theorem State.odAdd_outReqs (s : State) (k n : Nat) : (s.odAdd k n).outReqs = s.outReqs := rfl
@[simp] theorem State.odAdd_mesh (s : State) (k n : Nat) : (s.odAdd k n).mesh = s.mesh := rfl
@[simp] theorem State.odAdd_mgmt (s : State) (k n : Nat) : (s.odAdd k n).mgmt = s.mgmt := rfl
@[simp] theorem State.odAdd_coreSteer (s : State) (k n : Nat) : (s.odAdd k n).coreSteer = s.coreSteer := rfl
@[simp] theorem State.odAdd_upcSram (s : State) (k n : Nat) : (s.odAdd k n).upcSram = s.upcSram := rfl
@[simp] theorem State.odAdd_parts (s : State) (k n : Nat) : (s.odAdd k n).parts = s.parts := rfl
@[simp] theorem State.odAdd_rings (s : State) (k n : Nat) : (s.odAdd k n).rings = s.rings := rfl
@[simp] theorem State.odAdd_cmds (s : State) (k n : Nat) : (s.odAdd k n).cmds = s.cmds := rfl
@[simp] theorem State.odAdd_hints (s : State) (k n : Nat) : (s.odAdd k n).hints = s.hints := rfl
@[simp] theorem State.odAdd_upd (s : State) (k n : Nat) : (s.odAdd k n).upd = s.upd := rfl
@[simp] theorem State.odAdd_stuck (s : State) (k n : Nat) : (s.odAdd k n).stuck = s.stuck := rfl
@[simp] theorem State.odAdd_upcWait (s : State) (k n : Nat) : (s.odAdd k n).upcWait = s.upcWait := rfl
@[simp] theorem State.odAdd_upcPassed (s : State) (k n : Nat) : (s.odAdd k n).upcPassed = s.upcPassed := rfl
@[simp] theorem State.odAdd_links (s : State) (k n : Nat) : (s.odAdd k n).links = s.links := rfl
@[simp] theorem State.odAdd_hostPort (s : State) (k n : Nat) : (s.odAdd k n).hostPort = s.hostPort := rfl
@[simp] theorem State.odAdd_routes (s : State) (k n : Nat) : (s.odAdd k n).routes = s.routes := rfl
@[simp] theorem State.odAdd_fabric (s : State) (k n : Nat) : (s.odAdd k n).fabric = s.fabric := rfl
@[simp] theorem State.odAdd_hostTx (s : State) (k n : Nat) : (s.odAdd k n).hostTx = s.hostTx := rfl
@[simp] theorem State.odAdd_hrd (s : State) (k n : Nat) : (s.odAdd k n).hrd = s.hrd := rfl
@[simp] theorem State.odAdd_hostDone (s : State) (k n : Nat) : (s.odAdd k n).hostDone = s.hostDone := rfl
@[simp] theorem State.odAdd_linkTx (s : State) (k n : Nat) : (s.odAdd k n).linkTx = s.linkTx := rfl
@[simp] theorem State.odAdd_linkRx (s : State) (k n : Nat) : (s.odAdd k n).linkRx = s.linkRx := rfl
@[simp] theorem State.odAdd_sideTx (s : State) (k n : Nat) : (s.odAdd k n).sideTx = s.sideTx := rfl
@[simp] theorem State.odAdd_fuse (s : State) (k n : Nat) : (s.odAdd k n).fuse = s.fuse := rfl
@[simp] theorem State.odAdd_fused (s : State) (k n : Nat) : (s.odAdd k n).fused = s.fused := rfl
@[simp] theorem State.odAdd_mirror (s : State) (k n : Nat) : (s.odAdd k n).mirror = s.mirror := rfl
@[simp] theorem State.odAdd_stud (s : State) (k n : Nat) : (s.odAdd k n).stud = s.stud := rfl
@[simp] theorem State.odAdd_firm (s : State) (k n : Nat) : (s.odAdd k n).firm = s.firm := rfl
@[simp] theorem State.odAdd_sec (s : State) (k n : Nat) : (s.odAdd k n).sec = s.sec := rfl
@[simp] theorem State.odAdd_side (s : State) (k n : Nat) : (s.odAdd k n).side = s.side := rfl
@[simp] theorem State.odAdd_thermTrip (s : State) (k n : Nat) : (s.odAdd k n).thermTrip = s.thermTrip := rfl

@[simp] theorem State.odPutBit_pending (s : State) (k i : Nat) (v : Bool) : (s.odPutBit k i v).pending = s.pending := rfl
@[simp] theorem State.odPutBit_clk (s : State) (k i : Nat) (v : Bool) : (s.odPutBit k i v).clk = s.clk := rfl
@[simp] theorem State.odPutBit_st (s : State) (k i : Nat) (v : Bool) : (s.odPutBit k i v).st = s.st := rfl
@[simp] theorem State.odPutBit_fresh (s : State) (k i : Nat) (v : Bool) : (s.odPutBit k i v).fresh = s.fresh := rfl
@[simp] theorem State.odPutBit_start (s : State) (k i : Nat) (v : Bool) : (s.odPutBit k i v).start = s.start := rfl
@[simp] theorem State.odPutBit_log (s : State) (k i : Nat) (v : Bool) : (s.odPutBit k i v).log = s.log := rfl
@[simp] theorem State.odPutBit_cores (s : State) (k i : Nat) (v : Bool) : (s.odPutBit k i v).cores = s.cores := rfl
@[simp] theorem State.odPutBit_clusters (s : State) (k i : Nat) (v : Bool) : (s.odPutBit k i v).clusters = s.clusters := rfl
@[simp] theorem State.odPutBit_cmem (s : State) (k i : Nat) (v : Bool) : (s.odPutBit k i v).cmem = s.cmem := rfl
@[simp] theorem State.odPutBit_cmemPoison (s : State) (k i : Nat) (v : Bool) : (s.odPutBit k i v).cmemPoison = s.cmemPoison := rfl
@[simp] theorem State.odPutBit_cmemOvf (s : State) (k i : Nat) (v : Bool) : (s.odPutBit k i v).cmemOvf = s.cmemOvf := rfl
@[simp] theorem State.odPutBit_hbm (s : State) (k i : Nat) (v : Bool) : (s.odPutBit k i v).hbm = s.hbm := rfl
@[simp] theorem State.odPutBit_hbmPoison (s : State) (k i : Nat) (v : Bool) : (s.odPutBit k i v).hbmPoison = s.hbmPoison := rfl
@[simp] theorem State.odPutBit_hbmOvf (s : State) (k i : Nat) (v : Bool) : (s.odPutBit k i v).hbmOvf = s.hbmOvf := rfl
@[simp] theorem State.odPutBit_hbmData (s : State) (k i : Nat) (v : Bool) : (s.odPutBit k i v).hbmData = s.hbmData := rfl
@[simp] theorem State.odPutBit_health (s : State) (k i : Nat) (v : Bool) : (s.odPutBit k i v).health = s.health := rfl
@[simp] theorem State.odPutBit_bays (s : State) (k i : Nat) (v : Bool) : (s.odPutBit k i v).bays = s.bays := rfl
@[simp] theorem State.odPutBit_grooms (s : State) (k i : Nat) (v : Bool) : (s.odPutBit k i v).grooms = s.grooms := rfl
@[simp] theorem State.odPutBit_copies (s : State) (k i : Nat) (v : Bool) : (s.odPutBit k i v).copies = s.copies := rfl
@[simp] theorem State.odPutBit_nextCopy (s : State) (k i : Nat) (v : Bool) : (s.odPutBit k i v).nextCopy = s.nextCopy := rfl
@[simp] theorem State.odPutBit_adds (s : State) (k i : Nat) (v : Bool) : (s.odPutBit k i v).adds = s.adds := rfl
@[simp] theorem State.odPutBit_signals (s : State) (k i : Nat) (v : Bool) : (s.odPutBit k i v).signals = s.signals := rfl
@[simp] theorem State.odPutBit_landing (s : State) (k i : Nat) (v : Bool) : (s.odPutBit k i v).landing = s.landing := rfl
@[simp] theorem State.odPutBit_mails (s : State) (k i : Nat) (v : Bool) : (s.odPutBit k i v).mails = s.mails := rfl
@[simp] theorem State.odPutBit_posts (s : State) (k i : Nat) (v : Bool) : (s.odPutBit k i v).posts = s.posts := rfl
@[simp] theorem State.odPutBit_hostWait (s : State) (k i : Nat) (v : Bool) : (s.odPutBit k i v).hostWait = s.hostWait := rfl
@[simp] theorem State.odPutBit_hpCnt (s : State) (k i : Nat) (v : Bool) : (s.odPutBit k i v).hpCnt = s.hpCnt := rfl
@[simp] theorem State.odPutBit_windows (s : State) (k i : Nat) (v : Bool) : (s.odPutBit k i v).windows = s.windows := rfl
@[simp] theorem State.odPutBit_trackers (s : State) (k i : Nat) (v : Bool) : (s.odPutBit k i v).trackers = s.trackers := rfl
@[simp] theorem State.odPutBit_untracked (s : State) (k i : Nat) (v : Bool) : (s.odPutBit k i v).untracked = s.untracked := rfl
@[simp] theorem State.odPutBit_keptWin (s : State) (k i : Nat) (v : Bool) : (s.odPutBit k i v).keptWin = s.keptWin := rfl
@[simp] theorem State.odPutBit_nextCid (s : State) (k i : Nat) (v : Bool) : (s.odPutBit k i v).nextCid = s.nextCid := rfl
@[simp] theorem State.odPutBit_nextTag (s : State) (k i : Nat) (v : Bool) : (s.odPutBit k i v).nextTag = s.nextTag := rfl
@[simp] theorem State.odPutBit_outReqs (s : State) (k i : Nat) (v : Bool) : (s.odPutBit k i v).outReqs = s.outReqs := rfl
@[simp] theorem State.odPutBit_mesh (s : State) (k i : Nat) (v : Bool) : (s.odPutBit k i v).mesh = s.mesh := rfl
@[simp] theorem State.odPutBit_mgmt (s : State) (k i : Nat) (v : Bool) : (s.odPutBit k i v).mgmt = s.mgmt := rfl
@[simp] theorem State.odPutBit_coreSteer (s : State) (k i : Nat) (v : Bool) : (s.odPutBit k i v).coreSteer = s.coreSteer := rfl
@[simp] theorem State.odPutBit_upcSram (s : State) (k i : Nat) (v : Bool) : (s.odPutBit k i v).upcSram = s.upcSram := rfl
@[simp] theorem State.odPutBit_parts (s : State) (k i : Nat) (v : Bool) : (s.odPutBit k i v).parts = s.parts := rfl
@[simp] theorem State.odPutBit_rings (s : State) (k i : Nat) (v : Bool) : (s.odPutBit k i v).rings = s.rings := rfl
@[simp] theorem State.odPutBit_cmds (s : State) (k i : Nat) (v : Bool) : (s.odPutBit k i v).cmds = s.cmds := rfl
@[simp] theorem State.odPutBit_hints (s : State) (k i : Nat) (v : Bool) : (s.odPutBit k i v).hints = s.hints := rfl
@[simp] theorem State.odPutBit_upd (s : State) (k i : Nat) (v : Bool) : (s.odPutBit k i v).upd = s.upd := rfl
@[simp] theorem State.odPutBit_stuck (s : State) (k i : Nat) (v : Bool) : (s.odPutBit k i v).stuck = s.stuck := rfl
@[simp] theorem State.odPutBit_upcWait (s : State) (k i : Nat) (v : Bool) : (s.odPutBit k i v).upcWait = s.upcWait := rfl
@[simp] theorem State.odPutBit_upcPassed (s : State) (k i : Nat) (v : Bool) : (s.odPutBit k i v).upcPassed = s.upcPassed := rfl
@[simp] theorem State.odPutBit_links (s : State) (k i : Nat) (v : Bool) : (s.odPutBit k i v).links = s.links := rfl
@[simp] theorem State.odPutBit_hostPort (s : State) (k i : Nat) (v : Bool) : (s.odPutBit k i v).hostPort = s.hostPort := rfl
@[simp] theorem State.odPutBit_routes (s : State) (k i : Nat) (v : Bool) : (s.odPutBit k i v).routes = s.routes := rfl
@[simp] theorem State.odPutBit_fabric (s : State) (k i : Nat) (v : Bool) : (s.odPutBit k i v).fabric = s.fabric := rfl
@[simp] theorem State.odPutBit_hostTx (s : State) (k i : Nat) (v : Bool) : (s.odPutBit k i v).hostTx = s.hostTx := rfl
@[simp] theorem State.odPutBit_hrd (s : State) (k i : Nat) (v : Bool) : (s.odPutBit k i v).hrd = s.hrd := rfl
@[simp] theorem State.odPutBit_hostDone (s : State) (k i : Nat) (v : Bool) : (s.odPutBit k i v).hostDone = s.hostDone := rfl
@[simp] theorem State.odPutBit_linkTx (s : State) (k i : Nat) (v : Bool) : (s.odPutBit k i v).linkTx = s.linkTx := rfl
@[simp] theorem State.odPutBit_linkRx (s : State) (k i : Nat) (v : Bool) : (s.odPutBit k i v).linkRx = s.linkRx := rfl
@[simp] theorem State.odPutBit_sideTx (s : State) (k i : Nat) (v : Bool) : (s.odPutBit k i v).sideTx = s.sideTx := rfl
@[simp] theorem State.odPutBit_fuse (s : State) (k i : Nat) (v : Bool) : (s.odPutBit k i v).fuse = s.fuse := rfl
@[simp] theorem State.odPutBit_fused (s : State) (k i : Nat) (v : Bool) : (s.odPutBit k i v).fused = s.fused := rfl
@[simp] theorem State.odPutBit_mirror (s : State) (k i : Nat) (v : Bool) : (s.odPutBit k i v).mirror = s.mirror := rfl
@[simp] theorem State.odPutBit_stud (s : State) (k i : Nat) (v : Bool) : (s.odPutBit k i v).stud = s.stud := rfl
@[simp] theorem State.odPutBit_firm (s : State) (k i : Nat) (v : Bool) : (s.odPutBit k i v).firm = s.firm := rfl
@[simp] theorem State.odPutBit_sec (s : State) (k i : Nat) (v : Bool) : (s.odPutBit k i v).sec = s.sec := rfl
@[simp] theorem State.odPutBit_side (s : State) (k i : Nat) (v : Bool) : (s.odPutBit k i v).side = s.side := rfl
@[simp] theorem State.odPutBit_thermTrip (s : State) (k i : Nat) (v : Bool) : (s.odPutBit k i v).thermTrip = s.thermTrip := rfl

@[simp] theorem State.toCard_pending (s : State) (m : HostMsg) : (s.toCard m).pending = s.pending := by
  unfold State.toCard; split <;> rfl
@[simp] theorem State.toCard_clk (s : State) (m : HostMsg) : (s.toCard m).clk = s.clk := by
  unfold State.toCard; split <;> rfl
@[simp] theorem State.toCard_st (s : State) (m : HostMsg) : (s.toCard m).st = s.st := by
  unfold State.toCard; split <;> rfl
@[simp] theorem State.toCard_fresh (s : State) (m : HostMsg) : (s.toCard m).fresh = s.fresh := by
  unfold State.toCard; split <;> rfl
@[simp] theorem State.toCard_start (s : State) (m : HostMsg) : (s.toCard m).start = s.start := by
  unfold State.toCard; split <;> rfl
@[simp] theorem State.toCard_log (s : State) (m : HostMsg) : (s.toCard m).log = s.log := by
  unfold State.toCard; split <;> rfl
@[simp] theorem State.toCard_cores (s : State) (m : HostMsg) : (s.toCard m).cores = s.cores := by
  unfold State.toCard; split <;> rfl
@[simp] theorem State.toCard_clusters (s : State) (m : HostMsg) : (s.toCard m).clusters = s.clusters := by
  unfold State.toCard; split <;> rfl
@[simp] theorem State.toCard_cmem (s : State) (m : HostMsg) : (s.toCard m).cmem = s.cmem := by
  unfold State.toCard; split <;> rfl
@[simp] theorem State.toCard_cmemPoison (s : State) (m : HostMsg) : (s.toCard m).cmemPoison = s.cmemPoison := by
  unfold State.toCard; split <;> rfl
@[simp] theorem State.toCard_cmemOvf (s : State) (m : HostMsg) : (s.toCard m).cmemOvf = s.cmemOvf := by
  unfold State.toCard; split <;> rfl
@[simp] theorem State.toCard_hbm (s : State) (m : HostMsg) : (s.toCard m).hbm = s.hbm := by
  unfold State.toCard; split <;> rfl
@[simp] theorem State.toCard_hbmPoison (s : State) (m : HostMsg) : (s.toCard m).hbmPoison = s.hbmPoison := by
  unfold State.toCard; split <;> rfl
@[simp] theorem State.toCard_hbmOvf (s : State) (m : HostMsg) : (s.toCard m).hbmOvf = s.hbmOvf := by
  unfold State.toCard; split <;> rfl
@[simp] theorem State.toCard_hbmData (s : State) (m : HostMsg) : (s.toCard m).hbmData = s.hbmData := by
  unfold State.toCard; split <;> rfl
@[simp] theorem State.toCard_health (s : State) (m : HostMsg) : (s.toCard m).health = s.health := by
  unfold State.toCard; split <;> rfl
@[simp] theorem State.toCard_bays (s : State) (m : HostMsg) : (s.toCard m).bays = s.bays := by
  unfold State.toCard; split <;> rfl
@[simp] theorem State.toCard_grooms (s : State) (m : HostMsg) : (s.toCard m).grooms = s.grooms := by
  unfold State.toCard; split <;> rfl
@[simp] theorem State.toCard_copies (s : State) (m : HostMsg) : (s.toCard m).copies = s.copies := by
  unfold State.toCard; split <;> rfl
@[simp] theorem State.toCard_nextCopy (s : State) (m : HostMsg) : (s.toCard m).nextCopy = s.nextCopy := by
  unfold State.toCard; split <;> rfl
@[simp] theorem State.toCard_adds (s : State) (m : HostMsg) : (s.toCard m).adds = s.adds := by
  unfold State.toCard; split <;> rfl
@[simp] theorem State.toCard_signals (s : State) (m : HostMsg) : (s.toCard m).signals = s.signals := by
  unfold State.toCard; split <;> rfl
@[simp] theorem State.toCard_landing (s : State) (m : HostMsg) : (s.toCard m).landing = s.landing := by
  unfold State.toCard; split <;> rfl
@[simp] theorem State.toCard_mails (s : State) (m : HostMsg) : (s.toCard m).mails = s.mails := by
  unfold State.toCard; split <;> rfl
@[simp] theorem State.toCard_posts (s : State) (m : HostMsg) : (s.toCard m).posts = s.posts := by
  unfold State.toCard; split <;> rfl
@[simp] theorem State.toCard_hostWait (s : State) (m : HostMsg) : (s.toCard m).hostWait = s.hostWait := by
  unfold State.toCard; split <;> rfl
@[simp] theorem State.toCard_hpCnt (s : State) (m : HostMsg) : (s.toCard m).hpCnt = s.hpCnt := by
  unfold State.toCard; split <;> rfl
@[simp] theorem State.toCard_windows (s : State) (m : HostMsg) : (s.toCard m).windows = s.windows := by
  unfold State.toCard; split <;> rfl
@[simp] theorem State.toCard_trackers (s : State) (m : HostMsg) : (s.toCard m).trackers = s.trackers := by
  unfold State.toCard; split <;> rfl
@[simp] theorem State.toCard_untracked (s : State) (m : HostMsg) : (s.toCard m).untracked = s.untracked := by
  unfold State.toCard; split <;> rfl
@[simp] theorem State.toCard_keptWin (s : State) (m : HostMsg) : (s.toCard m).keptWin = s.keptWin := by
  unfold State.toCard; split <;> rfl
@[simp] theorem State.toCard_nextCid (s : State) (m : HostMsg) : (s.toCard m).nextCid = s.nextCid := by
  unfold State.toCard; split <;> rfl
@[simp] theorem State.toCard_nextTag (s : State) (m : HostMsg) : (s.toCard m).nextTag = s.nextTag := by
  unfold State.toCard; split <;> rfl
@[simp] theorem State.toCard_outReqs (s : State) (m : HostMsg) : (s.toCard m).outReqs = s.outReqs := by
  unfold State.toCard; split <;> rfl
@[simp] theorem State.toCard_mesh (s : State) (m : HostMsg) : (s.toCard m).mesh = s.mesh := by
  unfold State.toCard; split <;> rfl
@[simp] theorem State.toCard_mgmt (s : State) (m : HostMsg) : (s.toCard m).mgmt = s.mgmt := by
  unfold State.toCard; split <;> rfl
@[simp] theorem State.toCard_coreSteer (s : State) (m : HostMsg) : (s.toCard m).coreSteer = s.coreSteer := by
  unfold State.toCard; split <;> rfl
@[simp] theorem State.toCard_upcSram (s : State) (m : HostMsg) : (s.toCard m).upcSram = s.upcSram := by
  unfold State.toCard; split <;> rfl
@[simp] theorem State.toCard_parts (s : State) (m : HostMsg) : (s.toCard m).parts = s.parts := by
  unfold State.toCard; split <;> rfl
@[simp] theorem State.toCard_rings (s : State) (m : HostMsg) : (s.toCard m).rings = s.rings := by
  unfold State.toCard; split <;> rfl
@[simp] theorem State.toCard_cmds (s : State) (m : HostMsg) : (s.toCard m).cmds = s.cmds := by
  unfold State.toCard; split <;> rfl
@[simp] theorem State.toCard_hints (s : State) (m : HostMsg) : (s.toCard m).hints = s.hints := by
  unfold State.toCard; split <;> rfl
@[simp] theorem State.toCard_upd (s : State) (m : HostMsg) : (s.toCard m).upd = s.upd := by
  unfold State.toCard; split <;> rfl
@[simp] theorem State.toCard_stuck (s : State) (m : HostMsg) : (s.toCard m).stuck = s.stuck := by
  unfold State.toCard; split <;> rfl
@[simp] theorem State.toCard_upcWait (s : State) (m : HostMsg) : (s.toCard m).upcWait = s.upcWait := by
  unfold State.toCard; split <;> rfl
@[simp] theorem State.toCard_upcPassed (s : State) (m : HostMsg) : (s.toCard m).upcPassed = s.upcPassed := by
  unfold State.toCard; split <;> rfl
@[simp] theorem State.toCard_links (s : State) (m : HostMsg) : (s.toCard m).links = s.links := by
  unfold State.toCard; split <;> rfl
@[simp] theorem State.toCard_hostPort (s : State) (m : HostMsg) : (s.toCard m).hostPort = s.hostPort := by
  unfold State.toCard; split <;> rfl
@[simp] theorem State.toCard_routes (s : State) (m : HostMsg) : (s.toCard m).routes = s.routes := by
  unfold State.toCard; split <;> rfl
@[simp] theorem State.toCard_fabric (s : State) (m : HostMsg) : (s.toCard m).fabric = s.fabric := by
  unfold State.toCard; split <;> rfl
@[simp] theorem State.toCard_hrd (s : State) (m : HostMsg) : (s.toCard m).hrd = s.hrd := by
  unfold State.toCard; split <;> rfl
@[simp] theorem State.toCard_hostDone (s : State) (m : HostMsg) : (s.toCard m).hostDone = s.hostDone := by
  unfold State.toCard; split <;> rfl
@[simp] theorem State.toCard_linkTx (s : State) (m : HostMsg) : (s.toCard m).linkTx = s.linkTx := by
  unfold State.toCard; split <;> rfl
@[simp] theorem State.toCard_linkRx (s : State) (m : HostMsg) : (s.toCard m).linkRx = s.linkRx := by
  unfold State.toCard; split <;> rfl
@[simp] theorem State.toCard_sideTx (s : State) (m : HostMsg) : (s.toCard m).sideTx = s.sideTx := by
  unfold State.toCard; split <;> rfl
@[simp] theorem State.toCard_fuse (s : State) (m : HostMsg) : (s.toCard m).fuse = s.fuse := by
  unfold State.toCard; split <;> rfl
@[simp] theorem State.toCard_fused (s : State) (m : HostMsg) : (s.toCard m).fused = s.fused := by
  unfold State.toCard; split <;> rfl
@[simp] theorem State.toCard_mirror (s : State) (m : HostMsg) : (s.toCard m).mirror = s.mirror := by
  unfold State.toCard; split <;> rfl
@[simp] theorem State.toCard_stud (s : State) (m : HostMsg) : (s.toCard m).stud = s.stud := by
  unfold State.toCard; split <;> rfl
@[simp] theorem State.toCard_firm (s : State) (m : HostMsg) : (s.toCard m).firm = s.firm := by
  unfold State.toCard; split <;> rfl
@[simp] theorem State.toCard_sec (s : State) (m : HostMsg) : (s.toCard m).sec = s.sec := by
  unfold State.toCard; split <;> rfl
@[simp] theorem State.toCard_side (s : State) (m : HostMsg) : (s.toCard m).side = s.side := by
  unfold State.toCard; split <;> rfl
@[simp] theorem State.toCard_thermTrip (s : State) (m : HostMsg) : (s.toCard m).thermTrip = s.thermTrip := by
  unfold State.toCard; split <;> rfl
@[simp] theorem State.toCard_hostTx (s : State) (m : HostMsg) :
    (s.toCard m).hostTx = if s.dieCutOff (linkDie s.hostPort) then s.hostTx else s.hostTx ++ [m] := by
  unfold State.toCard; split <;> rfl
@[simp] theorem State.toCard_dict (s : State) (m : HostMsg) :
    (s.toCard m).dict = if s.dieCutOff (linkDie s.hostPort) then (s.odAdd odMeshUnreachDropCount 1).dict else s.dict := by
  unfold State.toCard; split <;> rfl

end Sys2Proof.Machine
end

