-- ==== Sys2Proof/Tests/Slice0.lean ====
section
/-! SUPPORT. Tests of the model: an ill-formed command for each check of WellFormed, commands on small states with
results worked out from the spec, and for every statement with hypotheses a state and operands that meet them. -/

namespace Sys2Proof.Tests

set_option Elab.async false

open Sys2Proof Sys2Proof.Machine

/-! ### Ill-formed commands -/

/-- A window packet of one granule. -/
def pkt0 : WinPkt :=
  { dst := 0, src := 7, tag := 5, hops := 0, ageUs := 0, handle := 3, pfmt := false, guard := 0, ngr := 0, eSrc := 0,
    eDst := 0, offset := 0, key := 9, pmap := 0, cid := 0, npkt := 0, data := [] }
/-- An access to 0x1000:0x01 by the host port. -/
def req0 : OdReq :=
  { route := 0, dbg := false, index := 0x1000, sub := 1, offset := 0, len := 4, data := [], badForm := false }

theorem test_core_out_of_range : (Instr.waitLimit 9216).wellFormed = false ∧ (Instr.waitLimit 9215).wellFormed = true := by decide
theorem test_site_out_of_range : (Instr.clusterPark 576).wellFormed = false ∧ (Instr.clusterPark 575).wellFormed = true := by decide
theorem test_bay_out_of_range : (Instr.bayRailLost 16).wellFormed = false ∧ (Instr.bayRailLost 15).wellFormed = true := by decide
theorem test_stack_out_of_range : (Instr.hbmTemperatureRead 16 20).wellFormed = false ∧
    (Instr.hbmTemperatureRead 15 20).wellFormed = true := by decide
theorem test_pc_out_of_range : (Instr.pcRejoin 512 true).wellFormed = false ∧ (Instr.pcRejoin 511 true).wellFormed = true := by decide
theorem test_offset_out_of_range : (Instr.hbmPatrolScrub 0 1500000000 ⟨.ok, none⟩).wellFormed = false ∧
    (Instr.hbmPatrolScrub 0 1499999999 ⟨.ok, none⟩).wellFormed = true := by decide
theorem test_granule_out_of_range : (Instr.cmemAccessCheck 0 131072 .ok).wellFormed = false ∧
    (Instr.cmemAccessCheck 0 131071 .ok).wellFormed = true := by decide
theorem test_partition_out_of_range : (Instr.compose 32).wellFormed = false ∧ (Instr.compose 31).wellFormed = true := by decide
theorem test_ring_out_of_range : (Instr.ringEnable 4096).wellFormed = false ∧ (Instr.ringEnable 4095).wellFormed = true := by decide
theorem test_command_index_out_of_range : (Instr.fence 0 4294967296).wellFormed = false ∧
    (Instr.fence 0 4294967295).wellFormed = true := by decide
theorem test_route_out_of_range : (Instr.fwApply 37).wellFormed = false ∧ (Instr.fwApply 36).wellFormed = true := by decide
theorem test_link_out_of_range : (Instr.linkNakReplay 36).wellFormed = false ∧ (Instr.linkNakReplay 35).wellFormed = true := by decide
theorem test_lane_out_of_range : (Instr.laneBad 33 4 true).wellFormed = false ∧ (Instr.laneBad 33 3 true).wellFormed = true ∧
    (Instr.laneBad 34 7 true).wellFormed = true ∧ (Instr.laneBad 34 8 true).wellFormed = false := by decide
theorem test_crossing_out_of_range : (Instr.crossingRejoin 0 2 9 []).wellFormed = false ∧
    (Instr.crossingRejoin 0 1 4 []).wellFormed = false ∧ (Instr.crossingRejoin 0 1 3 []).wellFormed = true := by decide
theorem test_chiplet_out_of_range : (Instr.upcDrain 8).wellFormed = false ∧ (Instr.upcDrain 7).wellFormed = true := by decide
theorem test_node_out_of_range : (Instr.beatNodeLost 20).wellFormed = false ∧ (Instr.beatNodeLost 19).wellFormed = true := by decide
theorem test_level_out_of_range : (Instr.stretchRaise 0 4).wellFormed = false ∧ (Instr.stretchRaise 0 3).wellFormed = true := by decide
theorem test_slice_out_of_range : (Instr.ldoSliceFailed 0 24).wellFormed = false ∧
    (Instr.ldoSliceFailed 0 23).wellFormed = true := by decide
theorem test_i3c_port_out_of_range : (Instr.i3cPrivateRead 2).wellFormed = false ∧ (Instr.i3cPrivateRead 1).wellFormed = true := by decide
theorem test_thermal_unit_out_of_range : (Instr.thermalSample .aisle 16 20).wellFormed = false ∧
    (Instr.thermalSample .cluster 16 20).wellFormed = true ∧ (Instr.thermalSample .cluster 576 20).wellFormed = false ∧
    (Instr.thermalSample .upc 8 20).wellFormed = false ∧ (Instr.thermalSample .linkDie 4 20).wellFormed = false := by decide
theorem test_fetch_finding_out_of_range : (Instr.imemFetch 0 ⟨.ok, [16], []⟩).wellFormed = false ∧
    (Instr.imemFetch 0 ⟨.ok, [], [64]⟩).wellFormed = false ∧ (Instr.imemFetch 0 ⟨.ok, [15], [63]⟩).wellFormed = true := by decide
theorem test_estimate_out_of_range : (Instr.fastLoopSample 0 0 0 ⟨[(576, 1)], 0⟩).wellFormed = false ∧
    (Instr.inrushSlowMode 0 [(576, 1)]).wellFormed = false ∧ (Instr.inrushSlowMode 0 [(575, 1)]).wellFormed = true := by decide
theorem test_digest_finding_out_of_range : (Instr.digestComplete ⟨0, [(8, .ok)]⟩).wellFormed = false ∧
    (Instr.digestComplete ⟨0, [(7, .ok)]⟩).wellFormed = true := by decide
theorem test_farrier_unit_out_of_range : (Instr.farrierRunStart true 8).wellFormed = false ∧
    (Instr.farrierRunStart false 8).wellFormed = true ∧ (Instr.farrierRunStart false 576).wellFormed = false := by decide
theorem test_switch_unit_out_of_range : (Instr.fwUnitSwitch 60).wellFormed = false ∧ (Instr.fwUnitSwitch 59).wellFormed = true := by decide
theorem test_supply_out_of_range : (Instr.supplyLost 0 8).wellFormed = false ∧ (Instr.supplyLost 1 4).wellFormed = false ∧
    (Instr.supplyLost 2 1).wellFormed = false ∧ (Instr.supplyLost 4 0).wellFormed = false ∧
    (Instr.supplyLost 0 7).wellFormed = true ∧ (Instr.supplyLost 3 0).wellFormed = true := by decide
theorem test_window_data_out_of_shape : (Instr.wmove ⟨none, { pkt0 with data := [1] }⟩).wellFormed = false ∧
    (Instr.wmove ⟨none, pkt0⟩).wellFormed = true := by decide
theorem test_access_out_of_range : (Instr.odRead { req0 with index := 65536 }).wellFormed = false ∧
    (Instr.odRead { req0 with sub := 256 }).wellFormed = false ∧ (Instr.odRead req0).wellFormed = true := by decide
theorem test_hbm_write_too_long : (Instr.hbmRequest 0 0 0 0 (.write (List.replicate 65 0) false) ⟨.ok, .none⟩ 0).wellFormed = false ∧
    (Instr.hbmRequest 0 0 0 0 (.write (List.replicate 64 0) false) ⟨.ok, .none⟩ 0).wellFormed = true := by decide
theorem test_sideband_frame_too_long : (Instr.sidebandFrame 35 ⟨List.replicate 2068 0, ⟨0, 0, 0⟩⟩).wellFormed = false := by decide +kernel

/-! ### Small states -/

/-- A core that runs, at bundle 8, with nothing in flight. -/
def run0 : CoreSt := { CoreSt.zero with phase := .running, started := true, bpc := 8, pc := 8 }
/-- A module whose core 0 is `x` since its cycle began. -/
def withCore (x : CoreSt) : State := State.reset.setCore 0 ⟨x, x⟩
/-- The slot of a slot command and its word by the tables of R70, R133, R169, R178, R181 and R191. -/
def slotOf : Instr → Nat × Nat
  | .mxNop _ f => (0, mxSlotWord 0 f) | .mxLoad _ f => (0, mxSlotWord 2 f) | .mxSwap _ f => (0, mxSlotWord 3 f)
  | .mxStream _ f => (0, mxSlotWord 4 f) | .mxDrain _ f => (0, mxSlotWord 5 f) | .mxDload _ f => (0, mxAddrWord 1 f)
  | .vxNop _ f => (1, vxWord 0x00 f) | .vxAdd _ f => (1, vxWord 0x01 f) | .vxSub _ f => (1, vxWord 0x02 f)
  | .vxMul _ f => (1, vxWord 0x03 f) | .vxAddu _ f => (1, vxWord 0x04 f) | .vxSubu _ f => (1, vxWord 0x05 f)
  | .vxMulu _ f => (1, vxWord 0x06 f) | .vxDiv _ f => (1, vxWord 0x07 f) | .vxDivu _ f => (1, vxWord 0x08 f)
  | .vxMin _ f => (1, vxWord 0x09 f) | .vxMax _ f => (1, vxWord 0x0A f) | .vxMinu _ f => (1, vxWord 0x0B f)
  | .vxMaxu _ f => (1, vxWord 0x0C f) | .vxAnd _ f => (1, vxWord 0x0D f) | .vxOr _ f => (1, vxWord 0x0E f)
  | .vxXor _ f => (1, vxWord 0x0F f) | .vxAndn _ f => (1, vxWord 0x10 f) | .vxShl _ f => (1, vxWord 0x11 f)
  | .vxShr _ f => (1, vxWord 0x12 f) | .vxSra _ f => (1, vxWord 0x13 f) | .vxCmpeq _ f => (1, vxWord 0x14 f)
  | .vxCmplt _ f => (1, vxWord 0x15 f) | .vxCmple _ f => (1, vxWord 0x16 f) | .vxCmpltu _ f => (1, vxWord 0x17 f)
  | .vxSel _ f => (1, vxWord 0x18 f) | .vxMov _ f => (1, vxWord 0x19 f) | .vxMovhi _ f => (1, vxWord 0x1A f)
  | .vxMset _ f => (1, vxWord 0x1B f) | .vxMget _ f => (1, vxWord 0x1C f) | .vxFadd _ f => (1, vxWord 0x20 f)
  | .vxFsub _ f => (1, vxWord 0x21 f) | .vxFmul _ f => (1, vxWord 0x22 f) | .vxFma _ f => (1, vxWord 0x23 f)
  | .vxFmin _ f => (1, vxWord 0x24 f) | .vxFmax _ f => (1, vxWord 0x25 f) | .vxFcmpeq _ f => (1, vxWord 0x26 f)
  | .vxFcmplt _ f => (1, vxWord 0x27 f) | .vxFcmple _ f => (1, vxWord 0x28 f) | .vxFrcp _ f => (1, vxWord 0x29 f)
  | .vxFrsq _ f => (1, vxWord 0x2A f) | .vxFexp2 _ f => (1, vxWord 0x2B f) | .vxFlog2 _ f => (1, vxWord 0x2C f)
  | .vxCvt _ f => (1, vxWord 0x30 f) | .vxLut _ f => (1, vxWord 0x31 f) | .vxRsum _ f => (1, vxWord 0x38 f)
  | .vxRmax _ f => (1, vxWord 0x39 f) | .vxRmin _ f => (1, vxWord 0x3A f) | .vxFrsum _ f => (1, vxWord 0x3B f)
  | .vxFrmax _ f => (1, vxWord 0x3C f) | .vxFrmin _ f => (1, vxWord 0x3D f) | .vxStat _ f => (1, vxWord 0x3E f)
  | .vxPload _ f => (1, vxAddrWord 0x2E f) | .vxRun _ f => (1, vxAddrWord 0x2F f)
  | .seqNop _ f => (2, seqWord 0x00 f) | .movi _ f => (2, seqWord 0x01 f) | .orhi _ f => (2, seqWord 0x02 f)
  | .seqAdd _ f => (2, seqWord 0x03 f) | .seqSub _ f => (2, seqWord 0x04 f) | .addi _ f => (2, seqWord 0x05 f)
  | .seqMul _ f => (2, seqWord 0x06 f) | .seqAnd _ f => (2, seqWord 0x07 f) | .seqOr _ f => (2, seqWord 0x08 f)
  | .seqXor _ f => (2, seqWord 0x09 f) | .shli _ f => (2, seqWord 0x0A f) | .shri _ f => (2, seqWord 0x0B f)
  | .srai _ f => (2, seqWord 0x0C f) | .slt _ f => (2, seqWord 0x0D f) | .sltu _ f => (2, seqWord 0x0E f)
  | .jump _ f => (2, seqWord 0x10 f) | .beqz _ f => (2, seqWord 0x11 f) | .bnez _ f => (2, seqWord 0x12 f)
  | .bltz _ f => (2, seqWord 0x13 f) | .loop _ f => (2, seqWord 0x14 f) | .loopi _ f => (2, seqWord 0x15 f)
  | .rdc _ f => (2, seqWord 0x18 f) | .post _ f => (2, seqWord 0x19 f) | .mrd _ f => (2, seqWord 0x1A f)
  | .mack _ f => (2, seqWord 0x1B f) | .seqEnd _ f => (2, seqWord 0x1F f) | .lsNop _ f => (lsSlot f, lsWord 0 f)
  | .lsLdv _ f => (lsSlot f, lsWord 1 f) | .lsStv _ f => (lsSlot f, lsWord 2 f)
  | .lsLdw _ f => (lsSlot f, lsWord 3 f) | .lsStw _ f => (lsSlot f, lsWord 4 f)
  | .lsLdm _ f => (lsSlot f, lsWord 5 f) | .lsStm _ f => (lsSlot f, lsWord 6 f) | .cpNop _ f => (5, cpWord 0 f)
  | .cpIssue _ f => (5, cpWord 1 f) | .cpOvl _ f => (5, cpWord 2 f) | .flNop _ f => (6, flWord 0 f)
  | .flWait _ f => (6, flWord 1 f) | .flWaitd _ f => (6, flWord 2 f) | .flWaits _ f => (6, flWord 3 f)
  | .flAdd _ f => (6, flWord 4 f) | .flSet _ f => (6, flWord 5 f) | .flSig _ f => (6, flWord 6 f)
  | .flRead _ f => (6, flWord 7 f)
  | _ => (7, 0)
/-- A core whose fetched bundle holds the slot of a command, and NOP in the other slots. -/
def holding (i : Instr) (x : CoreSt) : CoreSt :=
  { x with bundle := BitVec.ofNat 256 ((slotOf i).2 <<< (slotAt (slotOf i).1).1) }
/-- A module whose site 0 has power and an open port, and core 0 is `x`. -/
def lit (x : CoreSt) : State := (withCore x).modCl 0 fun y => { y with power := .on, port := .opened }
/-- A slot command that the fetched bundle of core 0 holds, on a powered site. -/
def issue (i : Instr) (x : CoreSt) : Host.Outcome State Fault Refusal := exec i (lit (holding i x))
/-- A SEQ slot by its fields. -/
def seq (sd sa sb : BitVec 4) (tgt : BitVec 11) (imm : BitVec 16) : SeqSlot := ⟨sd, sa, sb, 0, tgt, imm⟩
/-- A scalar register of core 0 after a command, and 0x55 where the command does not answer a next state. -/
def sAfter (i : Instr) (x : CoreSt) (r : Nat) : W32 :=
  match issue i x with
  | .next t => (t.cur 0).s r
  | _ => 0x55
/-- The cause that a command raises on core 0, noted or already struck. -/
def faultAfter (i : Instr) (x : CoreSt) : Option Nat :=
  match issue i x with
  | .next t => if (t.cur 0).phase = .faulted then (t.cur 0).fault.map (·.1) else (t.cur 0).causes.head?.map (·.1)
  | _ => none
/-- A running core with S1 and S2. -/
def regs (a b : W32) : CoreSt := (run0.setS 1 1 a).setS 2 1 b

/-! ### The SEQ slot: results by R170 to R172 -/

theorem test_movi_sign_extends : sAfter (.movi 0 (seq 3 0 0 0 0x8000)) run0 3 = 0xFFFF8000 := by decide +kernel
theorem test_orhi_upper_half : sAfter (.orhi 0 (seq 3 1 0 0 0xABCD)) (regs 0x1234 0) 3 = 0xABCD1234 := by decide +kernel
theorem test_add_wraps : sAfter (.seqAdd 0 (seq 3 1 2 0 0)) (regs 0xFFFFFFFF 2) 3 = 1 := by decide +kernel
theorem test_sub_operand_order : sAfter (.seqSub 0 (seq 3 1 2 0 0)) (regs 5 7) 3 = 0xFFFFFFFE := by decide +kernel
theorem test_addi_sign_extends : sAfter (.addi 0 (seq 1 1 0 0 0xFFFF)) (regs 5 0) 1 = 4 := by decide +kernel
theorem test_mul_wraps : sAfter (.seqMul 0 (seq 3 1 2 0 0)) (regs 0x10000 0x10003) 3 = 0x30000 := by decide +kernel
theorem test_and : sAfter (.seqAnd 0 (seq 3 1 2 0 0)) (regs 0xF0F0 0xFF00) 3 = 0xF000 := by decide +kernel
theorem test_or : sAfter (.seqOr 0 (seq 3 1 2 0 0)) (regs 0xF0F0 0x0F00) 3 = 0xFFF0 := by decide +kernel
theorem test_xor : sAfter (.seqXor 0 (seq 3 1 2 0 0)) (regs 0xF0F0 0xFF00) 3 = 0x0FF0 := by decide +kernel
theorem test_shli : sAfter (.shli 0 (seq 3 1 0 0 31)) (regs 3 0) 3 = 0x80000000 := by decide +kernel
theorem test_shri : sAfter (.shri 0 (seq 3 1 0 0 31)) (regs 0x80000000 0) 3 = 1 := by decide +kernel
theorem test_srai_keeps_sign : sAfter (.srai 0 (seq 3 1 0 0 4)) (regs 0x80000000 0) 3 = 0xF8000000 := by decide +kernel
theorem test_slt_signed : sAfter (.slt 0 (seq 3 1 2 0 0)) (regs 0xFFFFFFFF 0) 3 = 1 := by decide +kernel
theorem test_sltu_unsigned : sAfter (.sltu 0 (seq 3 1 2 0 0)) (regs 0xFFFFFFFF 0) 3 = 0 := by decide +kernel
theorem test_s0_ignores_writes : sAfter (.movi 0 (seq 0 0 0 0 7)) run0 0 = 0 := by decide +kernel
theorem test_shift_of_32_is_reserved : faultAfter (.shli 0 (seq 3 1 0 0 32)) (regs 1 0) = some 0x01 := by decide +kernel
theorem test_unused_field_faults : faultAfter (.movi 0 (seq 3 0 1 0 7)) run0 = some 0x01 := by decide +kernel
theorem test_branch_in_delay_bundle_faults :
    faultAfter (.jump 0 (seq 0 0 0 3 0)) { run0 with branch := some (1, 9) } = some 0x08 := by decide +kernel
theorem test_fifth_loop_faults : faultAfter (.loopi 0 (seq 0 0 0 20 3))
    { run0 with loops := List.replicate 4 ⟨0, 100, 5⟩ } = some 0x08 := by decide +kernel
theorem test_loop_of_zero_iterations_faults : faultAfter (.loop 0 (seq 0 1 0 20 0)) (regs 0 0) = some 0x08 := by decide +kernel
theorem test_end_in_delay_bundle_faults :
    faultAfter (.seqEnd 0 (seq 0 0 0 0 0)) { run0 with branch := some (0, 9) } = some 0x08 := by decide +kernel
theorem test_rdc_core_index : sAfter (.rdc 0 (seq 3 0 0 0 8)) run0 3 = 0 := by decide +kernel
theorem test_rdc_latches_high_half :
    sAfter (.rdc 0 (seq 3 0 0 0 0)) { run0 with cyc := 0x500000007 } 3 = 7 := by decide +kernel

/-! ### Witnesses: the SEQ slot -/

/-- A slot that each code of R170 allows: SD where it is used, SA where it is used. -/
def slotFor (op : Nat) : SeqSlot :=
  if op = 0x10 ∨ op = 0x15 then seq 0 0 0 12 0
  else if 0x11 ≤ op ∧ op ≤ 0x14 then seq 0 1 0 12 0
  else if op = 0x1B then seq 0 1 0 0 3
  else if op = 0x19 then seq 3 1 2 0 0x4000
  else if op = 0x1A then seq 12 0 0 0 3
  else if op = 0x00 ∨ op = 0x1F then seq 0 0 0 0 0
  else if op = 0x18 then seq 3 0 0 0 10
  else seq 15 0 0 0 0

/-- A slot command that may issue from core 0 in state `x`, with its word in the fetched bundle. -/
abbrev Issues (i : Instr) (x : CoreSt) : Prop :=
  (withCore (holding i x)).issues 0 ⟨holding i x, holding i x⟩ (slotOf i).1 (slotOf i).2
/-- Every SEQ operation that writes SD issues, with a legal encoding and sound registers. -/
theorem wit_ScalarArithmeticWritesSD : ∀ r ∈ seqRules, Issues (r.1 0 (slotFor r.2.1)) (regs 1 0) ∧
    slotOf (r.1 0 (slotFor r.2.1)) = (2, seqWord r.2.1 (slotFor r.2.1)) ∧ seqEncOk r.2.1 (slotFor r.2.1) = true ∧
    (regs 1 0).sBad (slotFor r.2.1).sa.toNat = false ∧ (regs 1 0).sBad (slotFor r.2.1).sb.toNat = false := by
  intro r h
  unfold Issues State.issues
  simp only [seqRules, List.mem_cons, List.not_mem_nil, or_false] at h
  rcases h with rfl | rfl | rfl | rfl | rfl | rfl | rfl | rfl | rfl | rfl | rfl | rfl | rfl | rfl <;> decide +kernel
theorem wit_BrokenEncodingFaultsCore : ∀ r ∈ seqRules, seqEncOk r.2.1 (seq 3 0 0 1 0) = false ∧
    Issues (r.1 0 (seq 3 0 0 1 0)) (regs 1 0) := by
  intro r h
  unfold Issues State.issues
  simp only [seqRules, List.mem_cons, List.not_mem_nil, or_false] at h
  rcases h with rfl | rfl | rfl | rfl | rfl | rfl | rfl | rfl | rfl | rfl | rfl | rfl | rfl | rfl <;> decide +kernel
/-- The branches: a slot each allows, a taken and an untaken operand, a delay bundle, the last two bundles of a loop. -/
theorem wit_branches : (∀ r ∈ [0x10, 0x11, 0x12, 0x13], seqEncOk r (slotFor r) = true) ∧
    ({ run0 with branch := some (0, 3) } : CoreSt).branch.isSome = true ∧ run0.branch = none ∧
    (regs 0x80000000 0).s 1 ≠ 0 ∧ ((regs 0x80000000 0).s 1).toInt < 0 ∧ (regs 0 0).s 1 = 0 ∧
    (let x : CoreSt := { run0 with loops := [⟨4, 9, 1⟩] }
     (∃ l ∈ x.loops, l.first ≤ x.bpc ∧ x.bpc ≤ l.last ∧ l.last ≤ x.bpc + 1)) ∧
    (let x : CoreSt := { run0 with loops := [⟨4, 10, 1⟩] }
     (∀ l ∈ x.loops, ¬ (l.first ≤ x.bpc ∧ x.bpc ≤ l.last ∧ l.last ≤ x.bpc + 1))) := by decide +kernel
theorem wit_loops : (∀ r ∈ [0x14, 0x15], seqEncOk r (slotFor r) = true) ∧ (regs 1 0).s 1 = 1 ∧
    (seq 0 1 0 9 0).tgt.toNat = run0.bpc + 1 ∧ (seq 0 1 0 8 0).tgt.toNat < run0.bpc + 1 ∧
    (List.replicate 3 (⟨0, 100, 5⟩ : LoopSt)).length < 4 ∧ (seq 0 0 0 9 0).imm.toNat + 1 = 1 ∧ (regs 0 0).s 1 = 0 := by decide +kernel
/-- A core with a message in channel 3, and one that has read it. -/
def mail3 : CoreSt := { run0 with mb := mset (fun _ => []) [] 3 [⟨7, 8, 9, false⟩] }
def read3 : CoreSt := { run0 with mbLast := mset (fun _ => MbLast.none) [] 3 (.msg 9) }
theorem wit_CountersMailboxesAndEnd : (∀ r ∈ [0x00, 0x18, 0x19, 0x1A, 0x1B, 0x1F], seqEncOk r (slotFor r) = true) ∧
    (List.range 11).all (fun i => seqEncOk 0x18 (seq 3 0 0 0 (BitVec.ofNat 16 i))) = true ∧
    (regs 1 0).sBad 3 = false ∧ mget (fun _ => []) mail3.mb 3 = [⟨7, 8, 9, false⟩] ∧ mget (fun _ => []) run0.mb 3 = [] ∧
    mget (fun _ => MbLast.none) read3.mbLast 3 = .msg 9 ∧ mget (fun _ => MbLast.none) run0.mbLast 3 = .none := by decide +kernel
theorem test_mrd_reads_message : sAfter (.mrd 0 (seq 12 0 0 0 3)) mail3 12 = 7 ∧ sAfter (.mrd 0 (seq 12 0 0 0 3)) mail3 14 = 8 ∧
    sAfter (.mrd 0 (seq 12 0 0 0 3)) mail3 15 = 9 := by decide +kernel
/-- Each of the slots above issues in each of the cores above. -/
theorem wit_seq_issues : (∀ x ∈ [run0, { run0 with branch := some (0, 3) }, { run0 with loops := [⟨4, 9, 1⟩] },
      { run0 with loops := List.replicate 4 ⟨0, 100, 5⟩ }, regs 0x80000000 0, mail3, read3],
    ∀ i ∈ [Instr.jump 0 (slotFor 0x10), .beqz 0 (slotFor 0x11), .bnez 0 (slotFor 0x12), .bltz 0 (slotFor 0x13),
      .loop 0 (slotFor 0x14), .loopi 0 (slotFor 0x15), .seqNop 0 (slotFor 0), .post 0 (slotFor 0x19), .mrd 0 (slotFor 0x1A),
      .mack 0 (slotFor 0x1B), .seqEnd 0 (slotFor 0x1F)], Issues i x) ∧
    (∀ k ∈ List.range 11, Issues (.rdc 0 (seq 3 0 0 0 (BitVec.ofNat 16 k))) run0) := by
  unfold Issues State.issues; decide +kernel
/-- The slot of a bundle issues once, and only the word that the bundle holds (R165, R166). -/
theorem test_slot_issues_once : (match issue (.addi 0 (seq 1 1 0 0 1)) (regs 5 0) with
    | .next t => (match exec (.addi 0 (seq 1 1 0 0 1)) t with | .next u => (u.cur 0).s 1 | _ => 0)
    | _ => 0) = 6 ∧
    (match exec (.addi 0 (seq 1 1 0 0 2)) (withCore (holding (.addi 0 (seq 1 1 0 0 1)) (regs 5 0))) with
    | .next t => (t.cur 0).s 1 | _ => 0) = 5 := by decide +kernel

/-! ### The VX slot: results by R136 to R143 -/

/-- A compute-form slot: V3 from V1, V2 and V4 at a lane width, all lanes. -/
def vx (lw : BitVec 2) (vb vc : BitVec 4) (md : BitVec 3) (imb : Bool) (imm : BitVec 16) : VxSlot :=
  ⟨lw, 0, 3, 1, vb, vc, md, imb, false, imm⟩
/-- A core with V1, V2 and V4 in their first lane. -/
def vecs (a b d : Nat) : CoreSt :=
  { run0 with vreg := mset zV (mset zV (mset zV [] 1 (BitVec.ofNat 2048 a)) 2 (BitVec.ofNat 2048 b)) 4 (BitVec.ofNat 2048 d) }
/-- The first 32 bits that a VX command leaves in flight, with its flags. -/
def vxAfter (i : Instr) (x : CoreSt) : Option (Nat × BitVec 3) :=
  match issue i x with
  | .next t => (t.cur 0).vpend.head?.map fun p => (fld p.data 0 32, p.flags)
  | _ => none

theorem test_vx_add_saturates : vxAfter (.vxAdd 0 (vx 2 2 0 0 false 0)) (vecs 100 100 0) = some (127, 1) := by decide +kernel
theorem test_vx_sub_saturates : vxAfter (.vxSub 0 (vx 1 2 0 0 false 0)) (vecs 0x8000 1 0) = some (0x8000, 1) := by decide +kernel
theorem test_vx_mul_signed : vxAfter (.vxMul 0 (vx 0 2 0 0 false 0)) (vecs 0xFFFFFFFF 7 0) = some (0xFFFFFFF9, 0) := by decide +kernel
theorem test_vx_addu_saturates : vxAfter (.vxAddu 0 (vx 2 2 0 0 false 0)) (vecs 200 100 0) = some (255, 1) := by decide +kernel
theorem test_vx_subu_floor : vxAfter (.vxSubu 0 (vx 2 2 0 0 false 0)) (vecs 1 2 0) = some (0, 1) := by decide +kernel
theorem test_vx_mulu : vxAfter (.vxMulu 0 (vx 2 2 0 0 false 0)) (vecs 16 15 0) = some (240, 0) := by decide +kernel
theorem test_vx_div_toward_zero : vxElem 0x07 32 0xFFFFFFF9 2 0 = (0xFFFFFFFD, 0) := by decide +kernel
theorem test_vx_div_overflow_and_zero : vxElem 0x07 8 0x80 0xFF 0 = (0x7F, 1) ∧ vxElem 0x07 8 0xFF 0 0 = (0x80, 2) ∧
    vxElem 0x07 8 0 0 0 = (0, 2) := by decide +kernel
theorem test_vx_divu_zero : vxElem 0x08 16 5 0 0 = (0xFFFF, 2) ∧ vxElem 0x08 16 7 2 0 = (3, 0) := by decide +kernel
theorem test_vx_min_max : vxElem 0x09 8 0xFF 1 0 = (0xFF, 0) ∧ vxElem 0x0A 8 0xFF 1 0 = (1, 0) ∧
    vxElem 0x0B 8 0xFF 1 0 = (1, 0) ∧ vxElem 0x0C 8 0xFF 1 0 = (0xFF, 0) := by decide +kernel
theorem test_vx_logic : vxElem 0x0D 8 0xCC 0xAA 0 = (0x88, 0) ∧ vxElem 0x0E 8 0xCC 0xAA 0 = (0xEE, 0) ∧
    vxElem 0x0F 8 0xCC 0xAA 0 = (0x66, 0) ∧ vxElem 0x10 8 0xCC 0xAA 0 = (0x44, 0) := by decide +kernel
theorem test_vx_shifts_past_width : vxElem 0x11 16 1 16 0 = (0, 0) ∧ vxElem 0x12 16 0x8000 15 0 = (1, 0) ∧
    vxElem 0x13 16 0x8000 99 0 = (0xFFFF, 0) := by decide +kernel
theorem test_vx_compares : vxElem 0x14 8 3 3 0 = (0xFF, 0) ∧ vxElem 0x15 8 0x80 0 0 = (0xFF, 0) ∧
    vxElem 0x16 8 1 0 0 = (0, 0) ∧ vxElem 0x17 8 0x80 0 0 = (0, 0) := by decide +kernel
theorem test_vx_sel_mov : vxElem 0x18 8 0xFF 0x00 0x0F = (0x0F, 0) ∧ vxElem 0x19 8 1 2 3 = (2, 0) := by decide +kernel
theorem test_vx_movhi : vxAfter (.vxMovhi 0 { vx 0 0 0 0 false 0x1234 with va := 0 }) run0 = some (0x12340000, 0) := by decide +kernel
theorem test_vx_mset_sets_mask_bit : (match issue (.vxMset 0 { vx 0 0 0 1 false 0 with vd := 0 }) (vecs 5 0 0) with
    | .next t => (t.cur 0).vpend.map fun p => (p.md, p.mbits)
    | _ => []) = [(some 1, 1)] := by decide +kernel
theorem test_vx_mget_lane : vxAfter (.vxMget 0 { vx 0 0 0 1 false 0 with va := 0 }) { run0 with mask := mset zM [] 1 1 } =
    some (0xFFFFFFFF, 0) := by decide +kernel
theorem test_vx_fadd_inf_minus_inf : vxElem 0x20 32 0x7F800000 0xFF800000 0 = (0x7FC00000, 4) := by decide +kernel
theorem test_vx_fsub_bf16 : vxElem 0x21 16 0x3F80 0x3F80 0 = (0, 0) := by decide +kernel
theorem test_vx_fmul_inf_zero : vxElem 0x22 32 0x7F800000 0 0 = (0x7FC00000, 4) ∧
    vxElem 0x22 32 0x40000000 0x40400000 0 = (0x40C00000, 0) := by decide +kernel
theorem test_vx_fma_nan_addend_is_not_invalid : vxElem 0x23 32 0x7F800000 0 0x7FC00001 = (0x7FC00000, 0) := by decide +kernel
theorem test_vx_fmin_fmax_zeros : vxElem 0x24 32 0 0x80000000 0 = (0x80000000, 0) ∧
    vxElem 0x25 32 0x80000000 0 0 = (0, 0) ∧ vxElem 0x25 32 0x7FC00001 0 0 = (0x7FC00000, 0) := by decide +kernel
theorem test_vx_fcmp : vxElem 0x26 32 0 0x80000000 0 = (0xFFFFFFFF, 0) ∧ vxElem 0x27 32 0x7FC00000 0 0 = (0, 0) ∧
    vxElem 0x28 32 0xBF800000 0x3F800000 0 = (0xFFFFFFFF, 0) := by decide +kernel
theorem test_vx_frcp : vxElem 0x29 32 0x40000000 0 0 = (0x3F000000, 0) ∧ vxElem 0x29 32 0x80000000 0 0 = (0xFF800000, 0) := by decide +kernel
theorem test_vx_frsq : vxElem 0x2A 32 0x40800000 0 0 = (0x3F000000, 0) ∧ vxElem 0x2A 32 0xBF800000 0 0 = (0x7FC00000, 4) := by decide +kernel
theorem test_vx_fexp2 : vxElem 0x2B 32 0x40400000 0 0 = (0x41000000, 0) ∧ vxElem 0x2B 32 0xFF800000 0 0 = (0, 0) := by decide +kernel
theorem test_vx_flog2 : vxElem 0x2C 32 0x41000000 0 0 = (0x40400000, 0) ∧ vxElem 0x2C 32 0x80000000 0 0 = (0xFF800000, 0) := by decide +kernel
theorem test_vx_cvt_float_to_int_saturates :
    vxAfter (.vxCvt 0 (vx 0 0 0 0 false 0x14)) (vecs 0x4F800000 0 0) = some (0x7FFFFFFF, 1) := by decide +kernel
theorem test_vx_cvt_bf16_rounds_even : vxAfter (.vxCvt 0 (vx 0 0 0 0 false 0)) (vecs 0x3F808000 0 0) = some (0x3F80, 0) := by decide +kernel
theorem test_vx_lut_index : vxAfter (.vxLut 0 (vx 0 0 0 0 false 0x204)) { vecs 0x120 0 0 with lut := mset zW [] (512 + 0x12) 9 } =
    some (9, 0) := by decide +kernel
theorem test_vx_rsum_every_element : vxAfter (.vxRsum 0 (vx 0 0 0 0 false 0)) (vecs (2 ^ 64 * 5 + 2) 0 0) = some (7, 0) := by decide +kernel
theorem test_vx_rmax_rmin : vxAfter (.vxRmax 0 (vx 0 0 0 0 false 0)) (vecs 9 0 0) = some (9, 0) ∧
    vxAfter (.vxRmin 0 (vx 0 0 0 0 false 0)) (vecs 0xFFFFFFFE 0 0) = some (0xFFFFFFFE, 0) := by decide +kernel
theorem test_vx_frsum_rounds_once : vxAfter (.vxFrsum 0 (vx 0 0 0 0 false 0)) (vecs (2 ^ 32 * 0x40000000 + 0x3F800000) 0 0) =
    some (0x40400000, 0) := by decide +kernel
theorem test_vx_frmax_frmin : vxAfter (.vxFrmax 0 (vx 0 0 0 0 false 0)) (vecs 0x3F800000 0 0) = some (0x3F800000, 0) ∧
    vxAfter (.vxFrmin 0 (vx 0 0 0 0 false 0)) (vecs 0xBF800000 0 0) = some (0xBF800000, 0) := by decide +kernel

/-! ### Witnesses: the VX slot -/

/-- A slot that each code of R136 allows at width 32. -/
def vxFor (op : Nat) : VxSlot :=
  if op = 0x00 then ⟨0, 0, 0, 0, 0, 0, 0, false, false, 0⟩
  else if op = 0x3E then ⟨0, 0, 3, 0, 0, 0, 0, false, false, 1⟩
  else if op = 0x1B then ⟨0, 0, 0, 1, 0, 0, 1, false, false, 0⟩
  else ⟨0, 0, 3, 0, 0, 0, 0, false, false, 0⟩
theorem wit_VectorOperationsIssue : vxRules.all (fun r => vxEncOk r.2 (lwBits (vxFor r.2).lw.toNat) (vxFor r.2)) = true ∧
    vxEncOk 0x00 (lwBits (vxFor 0).lw.toNat) (vxFor 0) = true ∧ run0.vxBusy = false := by decide +kernel
theorem wit_StatReadsStickyFlags : vxEncOk 0x3E (lwBits (vxFor 0x3E).lw.toNat) (vxFor 0x3E) = true ∧ run0.vxBusy = false ∧
    ((vecs 1 2 3).vsrc.mask 0).getLsbD 63 = true := by decide +kernel
/-- Every width, with the last element, an enabled and a masked lane, and the first and last code. -/
theorem wit_ElementsGoToTheirLanes : (∀ w ∈ [8, 16, 32], 2048 / w - 1 < 2048 / w) ∧ (0x01 ≤ 0x2C) ∧
    ((vecs 1 2 3).vsrc.mask 0).getLsbD (63 / (32 / 32)) = true ∧ ((vecs 1 2 3).vsrc.mask 1).getLsbD (255 / (32 / 8)) = false ∧
    (vx 0 2 4 0 false 0).imb = false := by decide +kernel
/-- A result in range, one below and one above, signed and unsigned (R137). -/
theorem wit_IntegerArithmeticSaturates : (∀ w ∈ [8, 16, 32], (0 : Nat) < 2 ^ w) ∧
    (let b := laneBounds 8 true; b.1 ≤ laneInt 8 true 0x80 + 0 ∧ laneInt 8 true 0x7F + 0 ≤ b.2 ∧
      laneInt 8 true 0x80 + laneInt 8 true 0xFF < b.1 ∧ b.2 < laneInt 8 true 0x7F + 1) ∧
    (let b := laneBounds 8 false; laneInt 8 false 0 - laneInt 8 false 1 < b.1 ∧ b.2 < laneInt 8 false 0xFF + 1) := by decide +kernel
/-- A core that a run occupies. -/
def runs0 : CoreSt := { run0 with run := some ⟨0, 8, 0, false, 0, 0, [], []⟩ }
theorem wit_vx_issues : (∀ r ∈ vxRules, slotOf (r.1 0 (vxFor r.2)) = (1, vxWord r.2 (vxFor r.2)) ∧
    Issues (r.1 0 (vxFor r.2)) run0 ∧ Issues (r.1 0 (vxFor r.2)) runs0) ∧ runs0.vxBusy = true ∧
    Issues (.vxNop 0 (vxFor 0)) run0 ∧ Issues (.vxStat 0 (vxFor 0x3E)) run0 := by
  refine ⟨?_, by decide +kernel, by unfold Issues State.issues; decide +kernel, by unfold Issues State.issues; decide +kernel⟩
  intro r h
  unfold Issues State.issues
  simp only [vxRules, List.mem_cons, List.not_mem_nil, or_false] at h
  repeat (rcases h with rfl | h; · decide +kernel)

/-! ### Witnesses: the array -/

/-- Cycle 100 of a running core. -/
def run1 : CoreSt := { run0 with cyc := 100 }
/-- A WS load descriptor of BF16 at row 0, an OS pass of one step at rows 0 and 9, and a drain to BF16 at row 0. -/
def dLoad : Row := 1 + 1 <<< 4 + 100 <<< 40
def dPass : Row := 1 + 9 <<< 28 + 20 <<< 40 + 27 <<< 52
def dDrain : Row := 2
/-- The last load was 16 cycles ago and the last swap two. -/
def mxL : CoreSt := { run1 with mx := { Mxe.zero with
  desc := mset zR [] 5 dLoad, lastLoad := some (84, 16), lastSwap := some 98, shTag := ⟨1, 0, 0, dLoad⟩ } }
/-- The last stream ended a cycle ago, the last drain of each bank 32 cycles after its issue; bank 1 is open. -/
def mxS : CoreSt := { run1 with mx := { Mxe.zero with
  desc := mset zR [] 5 dPass, lastStream := some (98, 1), drainA := some (68, 1), drainB := some (68, 1),
  bank1 := { Bank.zero with isOpen := true, kind := some false } } }
/-- Bank 0 is open, its last stream and the last drain are through. -/
def mxD : CoreSt := { run1 with mx := { Mxe.zero with
  desc := mset zR [] 5 dDrain, streamA := some (90, 0), lastDrain := some (68, 1),
  bank0 := { Bank.zero with isOpen := true, kind := some false } } }

theorem wit_ArrayLoadsIssue_load :
    mxPassZero ⟨5, false, false, false, false, false, 0, 0, 0⟩ = true ∧ dLoadOk (mget zR mxL.mx.desc 5) 0 = true ∧
    loadTop (mget zR mxL.mx.desc 5) ≤ 4095 ∧ (∀ p t, mxL.mx.lastLoad = some (p, t) → p + t ≤ mxL.now) ∧
    (∀ p, mxL.mx.lastSwap = some p → p + 2 ≤ mxL.now) ∧
    (mxL.loadRead (loadStart (mget zR mxL.mx.desc 5) 0 mxL.now mxL.bpc)).2.2 = false := by
  refine ⟨by decide, by decide +kernel, by decide +kernel, ?_, ?_, by decide +kernel⟩
  · rintro p t h; cases h; decide
  · rintro p h; cases h; decide
/-- A pass of the same mode, format and selection whose last step is read in the swap's own cycle. -/
theorem wit_ArrayLoadsIssue_swap :
    let p : PassSt := { issued := 100, bpc := 8, desc := dLoad, sa := 0, sb := 0, bank := false, clr := true, neg := false,
                        dual := false, neg2 := false, next := 1, ea := 0, eb := 0, steps := [], done := [], req := none, pre0 := Bank.zero, pre1 := Bank.zero }
    dMode p.desc ≠ 0 ∧ mxL.now ≤ p.issued + dLen p.desc ∧ compatible mxL.mx.shTag p.desc p.sa = true := by decide +kernel
theorem wit_ArrayLoadsIssue_dload : run1.readFree 4095 := by unfold CoreSt.readFree; decide +kernel
theorem wit_StreamIssues_opens :
    let d := mget zR mxS.mx.desc 5
    dStreamOk d 0 0 = true ∧ streamTop d 0 0 ≤ 4095 ∧ (∀ p l, mxS.mx.lastStream = some (p, l) → p + l + 1 ≤ mxS.now) ∧
    mxS.mx.takesPass mxS.now true (mxInt (dFmtA d)) false ∧ mxS.mx.takesPass mxS.now true (mxInt (dFmtA d)) true ∧
    (mxS.passRead
      { issued := 100, bpc := 8, desc := d, sa := 0, sb := 0, bank := false, clr := true, neg := false,
        dual := true, neg2 := true, next := 0, ea := 0, eb := 0, steps := [], done := [], req := none, pre0 := mxS.mx.bank0, pre1 := mxS.mx.bank1 }).2.2 = false := by
  refine ⟨by decide +kernel, by decide +kernel, ?_, ⟨?_, by decide⟩, ⟨?_, by decide⟩, by decide +kernel⟩
  · rintro p l h; cases h; decide
  · rintro p l h; cases h; decide
  · rintro p l h; cases h; decide
theorem wit_StreamIssues_adds : mxS.mx.takesPass mxS.now false false true := by
  refine ⟨?_, by decide +kernel⟩
  rintro p l h; cases h; decide
theorem wit_StreamIssues_plane : compatible ⟨1, 0, 0, dLoad⟩ dLoad 0 = true ∧ dMode dLoad ≠ 0 := by decide +kernel
theorem wit_DrainIssues :
    fusionOk dDrain = true ∧ drainTop dDrain ≤ 4095 ∧ (mxD.mx.bankOf false).isOpen = true ∧
    (∀ p l, mxD.mx.streamA = some (p, l) → p + l + 10 ≤ mxD.now) ∧
    (∀ p l, mxD.mx.lastDrain = some (p, l) → p + 32 * l ≤ mxD.now) ∧
    (mxD.readRows 8 0 (rowsFrom (fAddrScale dDrain) 4)).2.2 = false := by
  refine ⟨by decide +kernel, by decide +kernel, by decide, ?_, ?_, by decide +kernel⟩
  · rintro p l h; cases h; decide
  · rintro p l h; cases h; decide
/-- The drain of an open tile leaves the bank closed and its drain in flight. -/
theorem test_drain_closes_tile : (match issue (.mxDrain 0 ⟨5, false, false, false, false, false, 0, 0, 0⟩) mxD with
    | .next t => ((t.cur 0).mx.bank0.isOpen, (t.cur 0).mx.drains.length)
    | _ => (true, 0)) = (false, 1) := by decide +kernel
theorem test_stream_without_open_tile_faults :
    faultAfter (.mxStream 0 ⟨5, false, false, false, false, false, 0, 0, 0⟩) mxS = some 0x03 := by decide +kernel
theorem test_stream_one_cycle_early_faults :
    faultAfter (.mxStream 0 ⟨5, false, true, false, false, false, 0, 0, 0⟩) { mxS with cyc := 99 } = some 0x03 := by decide +kernel
theorem test_stream_opens_tile : (match issue (.mxStream 0 ⟨5, false, true, false, false, false, 0, 0, 0⟩) mxS with
    | .next t => ((t.cur 0).mx.bank0.isOpen, (t.cur 0).mx.bank0.log.length, (t.cur 0).mx.passes.length)
    | _ => (false, 0, 0)) = (true, 1, 1) := by decide +kernel
theorem test_load_names_shadow_plane : (match issue (.mxLoad 0 ⟨5, false, false, false, false, false, 0, 0, 0⟩) mxL with
    | .next t => ((t.cur 0).mx.shTag.mode, (t.cur 0).mx.loads.length)
    | _ => (0, 0)) = (1, 1) := by decide +kernel
theorem test_swap_before_load_is_through_faults : faultAfter (.mxSwap 0 ⟨0, false, false, false, false, false, 0, 0, 0⟩)
    { mxL with cyc := 99 } = some 0x03 := by decide +kernel
/-- A step of one product 3 * 2^1 into accumulator 33 of a bank whose least significant bit is 2^0 (W = 49). -/
theorem test_step_adds_product : (mget zA (Bank.zero.addAll true [(33, [FV.fin false 3 1])]).accs 33).val = -6 := by decide +kernel
theorem wit_AccumulatorsAddExactProducts : mwf zA Bank.zero.accs = true ∧ ([33, 34] : List Nat).Nodup ∧
    (mget zA Bank.zero.accs 33).st = .finite := by decide +kernel

/-- A load five cycles past its end, a swap seven cycles old, a drain at its first row, a step that is due. -/
def mxE : CoreSt := { run1 with mx := { Mxe.zero with
  loads := [{ issued := 79, bpc := 8, cycles := 16, addr := 0, bsv := 0, next := 16, plane := { Plane.zero with tag := ⟨1, 0, 0, dLoad⟩ } }],
  swaps := [93],
  drains := [{ start := 88, bpc := 8, desc := dDrain, next := 0, scale := 0, bias := 0, accs := [], eLsb := 0, bsoEntries := 0 }],
  passes := [{ issued := 80, bpc := 8, desc := dPass, sa := 0, sb := 0, bank := false, clr := true, neg := false,
               dual := false, neg2 := false, next := 1, ea := 0, eb := 0, steps := [⟨80, 0, 0, 0, 0, 0, none⟩], done := [], req := none, pre0 := Bank.zero, pre1 := Bank.zero }] } }
theorem wit_ArrayEventsTakeEffect : mxE.goes ∧ (∀ l ∈ mxE.mx.loads, l.issued + l.cycles + 5 ≤ mxE.now) ∧
    (∀ w ∈ mxE.mx.swaps, w + 7 ≤ mxE.now) ∧ (dueStep mxE.now mxE.mx.passes).isSome = true ∧
    (∀ d ∈ mxE.mx.drains, d.start + 12 + d.next ≤ mxE.now) ∧ run1.causes = [] ∧
    ({ run1 with freeze := .replay 10 } : CoreSt).freeze = .replay 10 := by
  unfold CoreSt.goes; decide +kernel
theorem test_plane_load_completes : (match exec (.shadowPlaneComplete 0) (withCore mxE) with
    | .next t => ((t.cur 0).mx.shadow.tag.mode, (t.cur 0).mx.loads.length)
    | _ => (0, 9)) = (1, 0) := by decide +kernel
theorem test_drain_row_writes : (match exec (.drainRowOutput 0) (withCore mxE) with
    | .next t => ((t.cur 0).writes.map fun w => (w.row, w.full), (t.cur 0).mx.drains.map (·.next))
    | _ => ([], [])) = ([(0, true), (1, true)], [1]) := by decide +kernel
/-- The MX slots of these tests issue; the wait for a bank, a row of a load on its way and no load are at their bounds. -/
theorem wit_mx_issues : (∀ y ∈ [(Instr.mxNop 0 ⟨0, false, false, false, false, false, 0, 0, 0⟩, run1),
      (.mxDload 0 ⟨5, 0, 4095⟩, run1), (.mxLoad 0 ⟨5, false, false, false, false, false, 0, 0, 0⟩, mxL),
      (.mxSwap 0 ⟨0, false, false, false, false, false, 0, 0, 0⟩, mxL),
      (.mxStream 0 ⟨5, false, true, false, true, true, 0, 0, 0⟩, mxS),
      (.mxStream 0 ⟨5, true, false, false, false, false, 0, 0, 0⟩, mxS),
      (.mxDrain 0 ⟨5, false, false, false, false, false, 0, 0, 0⟩, mxD)], Issues y.1 y.2) ∧
    mxSlotWord 0 ⟨0, false, false, false, false, false, 0, 0, 0⟩ = 0 ∧
    (mxD.accumulateAll.mx.bankOf false).sticky = false ∧ fScale dDrain < 2 := by
  unfold Issues State.issues; decide +kernel
/-- A load of 16 cycles issued at 94 writes cell rows 0 and 1 in cycle 100, one at 78 writes none any more (R77). -/
def mxRow (issued : Nat) : CoreSt := { run1 with mx := { Mxe.zero with
  loads := [{ issued := issued, bpc := 8, cycles := 16, addr := 0, bsv := 0, next := 16,
              plane := { Plane.zero with cells := [(3, 7), (64, 9)] } }] } }
theorem test_plane_rows_arrive : (mget (fun _ => (0 : BitVec 16)) (mxRow 94).shadowRows.mx.shadow.cells 3,
    mget (fun _ => (0 : BitVec 16)) (mxRow 94).shadowRows.mx.shadow.cells 64,
    mget (fun _ => (0 : BitVec 16)) (mxRow 78).shadowRows.mx.shadow.cells 3) = (7, 0, 0) := by decide +kernel
theorem wit_plane_rows : mwf (fun _ => (0 : BitVec 16)) (mxRow 94).mx.shadow.cells = true ∧ 94 + 6 ≤ (mxRow 94).now ∧
    (mxRow 94).now < 94 + 6 + 16 ∧ 78 + 6 + 16 ≤ (mxRow 78).now ∧ 63 < 64 * ((mxRow 94).now - 94 - 6) + 64 := by decide +kernel
/-- A tile whose sticky bit stands, with no pass in its log, is run again and holds the core. -/
def mxStk : CoreSt := { mxD with mx := { mxD.mx with bank0 := { mxD.mx.bank0 with sticky := true } } }
theorem wit_DrainIssues_replay :
    (replayLoop (fun row => (mxStk.accumulateAll.viewRow 100 row).1) 6
      { mxStk.accumulateAll.mx.bankOf false with sticky := true } 0).2.1 ≠ 0 ∧
    (∀ l ∈ (mxStk.accumulateAll.mx.bankOf false).log, ∀ row ∈ l.rows, (mxStk.accumulateAll.viewRow 100 row).2 = false) := by
  decide +kernel

/-! ### Witnesses: lane programs and what takes effect -/

/-- A run descriptor: width 32, program 1, one operation, 64 elements, no stream; and a program of NOPs. -/
def dRun : Row := 3 + 1 <<< 6 + 63 <<< 14
/-- A run that is six cycles old, one that is checked and due, one at the end of its length. -/
def vr (checked : Bool) (trun iter : Nat) (issued : Nat) : CoreSt := { run1 with run := some ⟨issued, 8, dRun, checked, trun, iter, [], []⟩ }

theorem wit_LaneProgramsIssue : 4080 + 15 ≤ 4095 ∧ run1.run = none ∧
    (run1.readRows 8 1 (rowsFrom 4080 4)).2.2 = false ∧ run1.vxBusy = false ∧ run1.readFree 4095 ∧
    (vr true 26 0 100).vxBusy = true := by unfold CoreSt.readFree; decide +kernel
theorem test_pload_past_the_end_faults : faultAfter (.vxPload 0 ⟨1, 0, 4081⟩) run1 = some 0x06 := by decide +kernel
theorem test_direct_operation_in_a_run_faults : faultAfter (.vxAdd 0 (vx 0 2 0 0 false 0)) (vr true 26 0 100) = some 0x04 := by decide +kernel
theorem test_run_while_running_faults : faultAfter (.vxRun 0 ⟨0, 0, 9⟩) (vr true 26 0 100) = some 0x04 := by decide +kernel
theorem wit_RunsTakeTheirCourse : (vr false 0 0 94).goes ∧ (vr false 0 0 94).causes = [] ∧ runOk dRun 0 = true ∧
    runOk (dRun + 1 <<< 31) 0 = false ∧ 0 < runIters dRun ∧ 80 + 12 + runTin dRun + 0 * runI dRun + runNops dRun - 1 ≤ run1.now ∧
    76 + runLen dRun ≤ run1.now + 1 ∧ runLen dRun = 25 := by unfold CoreSt.goes; decide +kernel
theorem test_run_check_sets_its_length : (match exec (.runDescriptorCheck 0) (withCore (vr false 0 0 94)) with
    | .next t => (t.cur 0).run.map fun r => (r.checked, r.trun)
    | _ => none) = some (true, 25) := by decide +kernel
theorem test_run_completes : (match exec (.runComplete 0) (withCore (vr true 25 1 76)) with
    | .next t => (t.cur 0).run.isNone
    | _ => false) = true := by decide +kernel

/-- A result of ADD that is due in this cycle, and a load of word 3 six cycles old. -/
def due0 : CoreSt := { run1 with vpend := [⟨100, 99, 8, some 3, 5, 0xFF, none, 0, 0, 1, none⟩] }
def ldw (dst : LoadDst) : CoreSt := { run1 with reads := [⟨94, 4, 8, 3, 2, 7 <<< 96, false, dst⟩] }
theorem wit_RegisterWritesTakeEffect : due0.goes ∧ (due0.vpend.filter fun y => decide (y.due ≤ due0.now)) = due0.vpend ∧
    (∀ y ∈ due0.reads, due0.now < y.issued + 6) ∧ (ldw (.scalar 5 3)).goes ∧ (ldw (.scalar 5 3)).causes = [] ∧
    ((ldw (.scalar 5 3)).reads.filter fun y => decide (y.issued + 6 ≤ run1.now)) = (ldw (.scalar 5 3)).reads ∧
    (∀ y ∈ (ldw (.scalar 5 3)).vpend, run1.now < y.due) ∧ (∀ y ∈ (ldw (.scalar 5 3)).sranks, y.1 ≠ 5) := by
  unfold CoreSt.goes; decide +kernel
theorem test_result_merges_under_lanes : (match exec (.vxResultWrite 0) (withCore { due0 with vreg := mset zV [] 3 0xAA00 }) with
    | .next t => (((t.cur 0).v 3), (t.cur 0).vstat)
    | _ => (0, 0)) = (0xAA05, 1) := by decide +kernel
theorem test_load_delivers_word : sAfter (.lspLoadDelivery 0) (ldw (.scalar 5 3)) 5 = 7 := by decide +kernel
theorem test_load_delivers_mask_quarter : (match exec (.lspLoadDelivery 0) (withCore (ldw (.mask 2 1))) with
    | .next t => (t.cur 0).m 2
    | _ => 0) = (7 : W64) <<< 32 := by decide +kernel
theorem test_load_delivers_vector_part : (match exec (.lspLoadDelivery 0) (withCore (ldw (.vpart 2 7))) with
    | .next t => (t.cur 0).v 2
    | _ => 0) = (7 : VReg) <<< (7 * 256 + 96) := by decide +kernel

/-! ### Witnesses: LS, CP and FL -/

/-- An LS slot of port 0 by its fields. -/
def ls (reg : BitVec 4) (cnt : BitVec 2) (part wsel : BitVec 3) (sa : BitVec 4) (addr : BitVec 12) : LsSlot :=
  ⟨false, reg, cnt, part, wsel, sa, 0, addr⟩
/-- A core that has used the read side of bank 63 in this cycle. -/
def busy63 : CoreSt := { run1 with banks := [⟨100, 63, false⟩] }
theorem wit_LoadsIssue : lsEncOk 0 (ls 0 0 0 0 0 0) = true ∧ lsEncOk 1 (ls 3 3 0 0 0 4088) = true ∧
    lsEncOk 1 (ls 3 3 1 0 0 4088) = false ∧ 4088 + 2 ^ 3 ≤ 4096 ∧ lsEncOk 3 (ls 3 0 0 7 0 4095) = true ∧
    lsEncOk 5 (ls 7 0 0 3 0 4095) = true ∧ run1.vxBusy = false ∧ run1.readFree 4095 ∧ ¬ busy63.readFree 4095 ∧
    4095 < 4095 + (regs 1 0).s 1 := by unfold CoreSt.readFree; decide +kernel
theorem test_ldw_beyond_lsp_faults : faultAfter (.lsLdw 0 (ls 3 0 0 7 1 4095)) (regs 1 0) = some 0x06 := by decide +kernel
theorem test_ldw_bank_conflict : faultAfter (.lsLdw 0 (ls 3 0 0 7 0 4095)) busy63 = some 0x07 := by decide +kernel
theorem wit_StoresIssue : lsEncOk 2 (ls 3 3 0 0 0 4088) = true ∧ lsEncOk 4 (ls 3 0 0 7 0 4095) = true ∧
    lsEncOk 6 (ls 7 0 0 3 0 4095) = true ∧
    (∀ i < 8, run1.banks.contains ⟨100, bankOf (4088 + i), true⟩ = false) ∧
    (∀ i < 2, run1.banks.contains ⟨100 + 1 + i, bankOf 4095, true⟩ = false) := by decide +kernel
theorem test_stw_stores_its_word : (match issue (.lsStw 0 (ls 1 0 0 7 0 9)) (regs 0xABCD 0) with
    | .next t => (t.cur 0).writes.map fun w => (w.row, w.full, w.data)
    | _ => []) = [(9, false, (0xABCD : Row) <<< 224)] := by decide +kernel
theorem test_stv_stores_its_part : (match issue (.lsStv 0 (ls 1 0 2 0 0 9)) (vecs (5 <<< 512) 0 0) with
    | .next t => (t.cur 0).writes.map fun w => (w.row, w.full, w.data)
    | _ => []) = [(9, true, 5)] := by decide +kernel
theorem test_stm_stores_its_quarter : (match issue (.lsStm 0 (ls 1 0 0 3 0 9)) { run0 with mask := mset zM [] 1 5 } with
    | .next t => (t.cur 0).writes.map fun w => (w.row, w.full, w.data)
    | _ => []) = [(9, false, (5 : Row) <<< 192)] := by decide +kernel
/-- A full-row write and a partial one of cycle 97, as the cycles from 97 on see them (R190). -/
def wr (full : Bool) : LspWrite := ⟨97, 4, full, 9, 0xFF, false⟩
theorem test_reads_see_writes : ({ run1 with writes := [wr true] } : CoreSt).viewRow 98 4 = (9, false) ∧
    ({ run1 with writes := [wr true] } : CoreSt).viewRow 97 4 = (0, false) ∧
    ({ run1 with writes := [wr false] } : CoreSt).viewRow 99 4 = (0, false) ∧
    ({ run1 with writes := [wr false] } : CoreSt).viewRow 100 4 = (9, false) := by decide +kernel
theorem wit_ReadsSeeEarlierWrites : ({ run1 with writes := [] ++ [wr true] } : CoreSt).writes = [] ++ [wr true] ∧
    (wr true).issued < 98 ∧ 97 ≤ (wr true).issued ∧ 99 < (wr false).issued + 3 ∧ (wr false).issued + 3 ≤ 100 := by decide +kernel

/-- Seven and eight copies outstanding on engine 2 of core 0, one and two overlays. -/
def cpN (n : Nat) : State := { withCore (holding (.cpIssue 0 ⟨2, 0, 9⟩) run1) with copies := (List.range n).map fun i => ⟨i, 0, 0, 2, 8, 0, false, 0, [], false, 0, 0⟩ }
def ovN (n : Nat) : CoreSt := { run1 with ovls := List.replicate n ⟨0, 16, 3, 1, 0, 0, false, false⟩ }
theorem wit_CopyAndOverlayIssue : cpEncOk 1 ⟨2, 0, 9⟩ = true ∧ cpEncOk 2 ⟨0, 0, 9⟩ = true ∧ cpEncOk 0 ⟨0, 0, 0⟩ = true ∧
    ((cpN 7).copies.filter fun y => y.core == 0 && y.eng == 2).length < 8 ∧
    8 ≤ ((cpN 8).copies.filter fun y => y.core == 0 && y.eng == 2).length ∧
    ((ovN 1).ovls.filter fun y => !y.boot).length < 2 ∧ 2 ≤ ((ovN 2).ovls.filter fun y => !y.boot).length ∧
    run1.readFree 9 ∧ State.reset.portTakes 0 = false := by unfold CoreSt.readFree; decide +kernel
theorem test_ninth_copy_faults : (match exec (.cpIssue 0 ⟨2, 0, 9⟩) (cpN 8) with
    | .next t => (t.cur 0).causes.head?.map (·.1)
    | _ => none) = some 0x0A := by decide +kernel
theorem test_third_overlay_faults : faultAfter (.cpOvl 0 ⟨0, 0, 9⟩) (ovN 2) = some 0x0A := by decide +kernel
/-- An overlay of one bundle at a site whose port is open and takes it. -/
def ovSt : State := (withCore { run1 with ovls := [⟨5, 1, 3, 2, 0, 0, false, false⟩] }).modCl 0 fun x => { x with port := .opened, power := .on }
theorem wit_overlay : ovSt.wf = true ∧ ovSt.portTakes 0 = true := by decide +kernel
theorem test_overlay_raises_flag : (match exec (.overlayComplete 0) ovSt with
    | .next t => ((t.cur 0).fInc, (t.cur 0).ovls.length)
    | _ => ([], 9)) = ([(3, 2)], 0) := by decide +kernel

/-- Flag 7 stands at `v`. -/
def flag7 (v : W32) : CoreSt := { regs 5 0x10000 with flags := mset zW [] 7 v }
/-- Flag 7 stands at `v`, and a bundle with a wait stands before its cycle. -/
def gate7 (v : W32) : CoreSt := { flag7 v with freeze := .gate }
/-- The flag of core 0 after a command, its wait and its waiting cycles. -/
def flAfter (i : Instr) (x : CoreSt) : W32 × Freeze × W64 :=
  match issue i x with
  | .next t => ((t.cur 0).f 7, (t.cur 0).freeze, (t.cur 0).waitCyc)
  | _ => (0, .none, 0)
theorem test_fl_add_wraps : (flAfter (.flAdd 0 ⟨7, 2⟩) (flag7 0xFFFFFFFF)).1 = 1 := by decide +kernel
theorem test_fl_set : (flAfter (.flSet 0 ⟨7, 0x3FFF⟩) (flag7 9)).1 = 0x3FFF := by decide +kernel
/-- An increment from outside comes behind the core's own SET of the cycle, and the cycle does not see it (R160, R184). -/
theorem test_increment_comes_behind_set :
    (((lit { flag7 9 with acted := [] }).incFlag 0 7 2).cur 0).f 7 = 9 ∧
    (((lit { flag7 9 with acted := [] }).incFlag 0 7 2).cur 0).fInc = [(7, 2)] := by decide +kernel
theorem test_fl_wait_reached : flAfter (.flWait 0 ⟨7, 5⟩) (gate7 5) = (5, .none, 0) := by decide +kernel
theorem test_fl_waitd_subtracts : flAfter (.flWaitd 0 ⟨7, 5⟩) (gate7 6) = (1, .none, 0) := by decide +kernel
theorem test_fl_waits_by_register : flAfter (.flWaits 0 ⟨7, 1⟩) (gate7 5) = (5, .none, 0) := by decide +kernel
theorem test_fl_wait_not_reached : (flAfter (.flWait 0 ⟨7, 6⟩) (gate7 5)).2.2 = 1 := by decide +kernel
theorem test_fl_read : sAfter (.flRead 0 ⟨7, 3⟩) (flag7 9) 3 = 9 := by decide +kernel
theorem test_fl_sig_outside_partition_faults : faultAfter (.flSig 0 ⟨7, 0x11⟩) (flag7 0) = some 0x0C := by decide +kernel
theorem wit_FlagsAndWaits : flEncOk 0 ⟨0, 0⟩ = true ∧ flEncOk 7 ⟨63, 15⟩ = true ∧ flEncOk 3 ⟨63, 15⟩ = true ∧ flEncOk 3 ⟨0, 16⟩ = false ∧
    (gate7 5).phase = .running ∧ (gate7 5).started = true ∧ (gate7 5).freeze = .gate ∧ (gate7 5).fBad 7 = false ∧
    (flag7 5).freeze = .none ∧ ({ gate7 5 with freeze := .wait 0 0 } : CoreSt).freeze = .wait 0 0 ∧
    (flag7 5).fBad 7 = false ∧ ({ flag7 5 with fPar := mset zF [] 7 true } : CoreSt).fBad 7 = true ∧
    ((flag7 5).f 7 - 5).toNat < 2 ^ 31 ∧ 2 ^ 31 ≤ ((flag7 5).f 7 - 6).toNat ∧ (flag7 5).s 2 = 0x10000 ∧
    ((flag7 5).s 2).toNat % 65536 < 1 ∧ 16 ≤ (16 : BitVec 14).toNat ∧ (15 : BitVec 14).toNat < 16 := by decide +kernel
/-- A core in the wait of a bundle since 0 with a limit of 4,000 ns, at 4,001 ns. -/
def waitLong (limit : Nat) : State :=
  let s := lit { run1 with freeze := .wait 0 limit }
  { s with clk := { s.clk with dt := 4001 } }
theorem wit_wait_limit : ((waitLong 4000).cur 0).freeze = .wait 0 4000 ∧ 0 + 4000 < (waitLong 4000).clk.dt ∧
    (waitLong 4001).clk.dt ≤ 0 + 4001 := by decide +kernel
theorem test_wait_limit_faults : (match exec (.waitLimit 0) (waitLong 4000) with
    | .next t => (t.cur 0).fault.map (·.1)
    | _ => none) = some 0x0E := by decide +kernel
theorem wit_other_issues : (∀ y ∈ [(Instr.vxPload 0 ⟨1, 0, 4080⟩, run1), (.vxRun 0 ⟨0, 0, 4095⟩, run1),
      (.vxRun 0 ⟨0, 0, 4095⟩, vr true 26 0 100), (.lsNop 0 (ls 0 0 0 0 0 0), run1), (.lsLdv 0 (ls 3 3 0 0 0 4088), run1),
      (.lsLdw 0 (ls 3 0 0 7 0 4095), run1), (.lsLdw 0 (ls 3 0 0 7 0 4095), busy63), (.lsLdw 0 (ls 3 0 0 7 1 4095), regs 1 0),
      (.lsLdm 0 (ls 7 0 0 3 0 4095), run1), (.lsStv 0 (ls 3 3 0 0 0 4088), run1), (.lsStw 0 (ls 3 0 0 7 0 4095), run1),
      (.lsStm 0 (ls 7 0 0 3 0 4095), run1), (.cpNop 0 ⟨0, 0, 0⟩, run1), (.cpIssue 0 ⟨2, 0, 9⟩, run1), (.cpOvl 0 ⟨0, 0, 9⟩, ovN 1),
      (.cpOvl 0 ⟨0, 0, 9⟩, ovN 2), (.flNop 0 ⟨0, 0⟩, run1), (.flAdd 0 ⟨7, 2⟩, flag7 1), (.flSet 0 ⟨7, 2⟩, flag7 1),
      (.flRead 0 ⟨7, 3⟩, flag7 1), (.flSig 0 ⟨7, 0x12⟩, flag7 1), (.flWait 0 ⟨7, 5⟩, flag7 5)], Issues y.1 y.2) ∧
    (lit (holding (.flWait 0 ⟨7, 5⟩) (gate7 5))).cclk 0 = true ∧
    ((lit (holding (.flWait 0 ⟨7, 5⟩) (gate7 5))).cur 0).slotWord 6 = flWord 1 ⟨7, 5⟩ := by
  unfold Issues State.issues; decide +kernel

/-! ### Witnesses: the core cycle, the checks and the causes of a fault -/

/-- A bundle of NOPs. -/
def nops : Row := 0
/-- A core whose present cycle has a failed check. -/
def failed : CoreSt := { run1 with causes := [(0x01, 8, 2)] }
theorem wit_FetchBeginsTheNextCycle : (lit run1).wf = true ∧ (lit run1).cclk 0 = true ∧ (withCore run1).cclk 0 = false ∧
    mwf zF run1.sPar = true ∧ mwf zF run1.fPar = true ∧
    failed.active = true ∧ failed.causes ≠ [] ∧ fld nops 252 4 = 0 ∧ 1 ≤ fld ((1 : Row) <<< 252) 252 4 ∧
    badSlots ((1 : Row) <<< 252) = [] ∧
    run1.freeze = .none ∧ run1.branch = none ∧ run1.loops = [] ∧ badSlots nops = [] ∧
    ({ run1 with started := false, pc := 2047 } : CoreSt).pc < 2048 ∧ mget zF run1.imemPoison 2047 = false := by decide +kernel
theorem test_fetch_goes_on : (match exec (.imemFetch 0 ⟨.ok, [], []⟩) (lit run1) with
    | .next t => ((t.cur 0).cyc, (t.cur 0).bpc, (t.cur 0).phase)
    | _ => (0, 0, .off)) = (101, 9, .running) := by decide +kernel
/-- A core of a powered site whose bundle breaks the encoding of MOVI. -/
def brk : CoreSt := holding (.movi 0 (seq 3 0 0 1 0)) run1
theorem wit_broken_encoding_strikes : (lit brk).issues 0 ⟨brk, brk⟩ 2 (seqWord 1 (seq 3 0 0 1 0)) ∧
    seqEncOk 1 (seq 3 0 0 1 0) = false ∧ (lit brk).wf = true ∧ (lit brk).cclk 0 = true ∧
    (((lit brk).noteCause 0 ⟨brk, brk⟩ 0x01 2).cur 0).slotsDone = true := by unfold State.issues; decide +kernel
/-- The cycle of a bundle goes on once its slots have issued, and not before (R166). -/
theorem wit_slots_done : run1.slotsDone = true ∧ (holding (.movi 0 (seq 3 0 0 0 1)) run1).slotsDone = false ∧
    ((holding (.movi 0 (seq 3 0 0 0 1)) run1).actedBy 2).slotsDone = true ∧ failed.slotsDone = true := by decide +kernel
theorem test_failed_check_ends_the_cycle : (match exec (.imemFetch 0 ⟨.ok, [], []⟩) (lit failed) with
    | .next t => (t.cur 0).fault
    | _ => none) = some (0x01, 8, 2) := by decide +kernel
theorem test_fetched_wait_stands_before_its_cycle :
    (match exec (.imemFetch 0 ⟨.ok, [], []⟩) (lit { run1 with imem := [(9, (1 : Row) <<< 252)] }) with
    | .next t => ((t.cur 0).freeze, (t.cur 0).bpc, (t.cur 0).cyc)
    | _ => (.none, 0, 0)) = (.gate, 9, 101) := by decide +kernel
theorem test_fetch_past_the_last_bundle_faults : (match exec (.imemFetch 0 ⟨.ok, [], []⟩) (lit { run1 with bpc := 2047 }) with
    | .next t => (t.cur 0).phase
    | _ => .off) = .faulted := by decide +kernel
theorem test_fetch_of_poison_faults :
    (match exec (.imemFetch 0 ⟨.uncorrectable, [], []⟩) (lit run1) with
    | .next t => (t.cur 0).fault.map (·.1)
    | _ => none) = some 0x0D := by decide +kernel
theorem test_parity_error_marks_its_register : (match exec (.imemFetch 0 ⟨.ok, [3], [63]⟩) (lit run1) with
    | .next t => ((t.cur 0).sPar, (t.cur 0).fPar)
    | _ => ([], [])) = ([(3, true)], [(63, true)]) := by decide +kernel
theorem test_fetch_held_core_stands : (match exec (.imemFetch 0 ⟨.ok, [], []⟩) (lit { run1 with freeze := .hold 3 }) with
    | .next t => ((t.cur 0).cyc, (t.cur 0).bpc)
    | _ => (0, 0)) = (100, 8) := by decide +kernel
/-- The two delay bundles, the target, the last bundle of a loop with and without iterations left (R171, R172). -/
theorem test_bundles_follow : ({ run1 with branch := some (1, 50) } : CoreSt).advancePc.pc = 9 ∧
    ({ run1 with branch := some (0, 50) } : CoreSt).advancePc.pc = 50 ∧
    ({ run1 with loops := [⟨6, 8, 1⟩] } : CoreSt).advancePc.pc = 6 ∧
    ({ run1 with loops := [⟨6, 8, 0⟩] } : CoreSt).advancePc.pc = 9 ∧
    ({ run1 with branch := some (0, 50), loops := [⟨6, 8, 1⟩] } : CoreSt).advancePc.loops = [⟨6, 8, 1⟩] ∧
    ({ run1 with branch := some (1, 50), loops := [⟨6, 8, 0⟩] } : CoreSt).advancePc.loops = [] := by decide +kernel
theorem wit_BundlesFollow : (0 : Nat) < (⟨6, 8, 1⟩ : LoopSt).left ∧ (⟨6, 8, 0⟩ : LoopSt).left = 0 ∧
    (⟨6, 8, 1⟩ : LoopSt).last = run1.bpc ∧ (⟨6, 9, 1⟩ : LoopSt).last ≠ run1.bpc ∧
    ({ run1 with branch := some (2, 50) } : CoreSt).branch = some (0 + 2, 50) := by decide

/-- A read of row 4095 at its syndrome stage. -/
def chk : CoreSt := { run1 with reads := [⟨97, 4, 8, 3, 4095, 0, false, .none⟩] }
theorem wit_ScratchpadChecks : chk.active = true ∧ chk.atCheck 4095 = true ∧ (lit chk).wf = true ∧ mwf zF chk.lspPoison = true ∧
    run1.causes = [] ∧ ({ run1 with freeze := .hold 3 } : CoreSt).freeze = .hold 3 ∧
    ({ run1 with freeze := .fetchHold 2 } : CoreSt).freeze = .fetchHold 2 := by decide +kernel
theorem test_symbol_error_holds_three_cycles : (match exec (.lspReadCheck 0 4095 .symbol) (lit chk) with
    | .next t => ((t.cur 0).freeze, (t.cur 0).wback)
    | _ => (.none, [])) = (.hold 3, [4095]) := by decide +kernel
theorem test_uncorrectable_row_poisons_granule : (match exec (.lspReadCheck 0 4095 .uncorrectable) (lit chk) with
    | .next t => ((t.cur 0).lspPoison.map (·.1))
    | _ => []) = [4094, 4095] := by decide +kernel
theorem test_hold_end_counts : (match exec (.coreHoldEnd 0) (lit { run1 with freeze := .hold 3 }) with
    | .next t => ((t.cur 0).freeze, (t.cur 0).holdCyc, t.od odHoldCycTotal)
    | _ => (.replay 0, 0, 0)) = (.none, 3, 3) := by decide +kernel
theorem test_writeback_clears_row : (match exec (.lspWriteback 0 4095) (lit { run1 with wback := [4095] }) with
    | .next t => (t.cur 0).wback
    | _ => [1]) = [] := by decide +kernel
theorem test_patrol_counts_fix : (match exec (.lspPatrolScrub 0 3 .bit true) (lit run1) with
    | .next t => (t.od odLspBitFixCount, t.od odScrubLateCount)
    | _ => (0, 0)) = (1, 1) := by decide +kernel
/-- Poison is due in a core whose scalar S1 was 5 when the cycle began. -/
def poisoned : State := (lit (regs 5 0)).modCur 0 fun x => (x.setS 1 1 9).setS 2 1 3 |> fun y => { y with causes := [(0x0D, 8, 3)] }
theorem wit_PoisonFaultsTheCore : (poisoned.cur 0).goes ∧ (poisoned.cur 0).causes = [(0x0D, 8, 3)] ∧ poisoned.wf = true := by
  unfold CoreSt.goes; decide +kernel
theorem test_poison_undoes_the_cycle : (match exec (.poisonDelivery 0) poisoned with
    | .next t => ((t.cur 0).phase, (t.cur 0).s 1, (t.cur 0).s 2)
    | _ => (.off, 0, 0)) = (.faulted, 5, 0) := by decide +kernel
theorem test_causes_ranked : (firstCause [⟨1, 0, 0⟩, ⟨7, 0, 1⟩, ⟨0x0E, 0, 2⟩]).map (·.code) = some 7 ∧
    (firstCause [⟨3, 0, 0⟩, ⟨0x0D, 0, 1⟩]).map (·.code) = some 0x0D ∧
    (firstCause [⟨9, 0, 0⟩, ⟨2, 0, 1⟩]).map (·.code) = some 2 := by decide
/-- Partition 0 holds site 0, its job runs, and its JOB_ARM of ring 5 waits. -/
def armed : State :=
  let s := (lit run1).modCl 0 fun y => { y with owner := some (0, 0) }
  let s := s.modPart 0 fun x =>
    { x with composed := true, sites := [some 0], chans := [0, 1], span := 2 ^ 20,
             job := { x.job with st := .running, armCmd := some (5, 0) } }
  { s with cmds := [⟨5, 0, 0, 2, 0, true, none⟩] }
theorem wit_CausesAreRanked : ([⟨7, 8, 0⟩] : List Cause) ≠ [] ∧ armed.wf = true ∧ armed.ownerOf 0 = some (0, 0) ∧
    (armed.part 0).job.st = .running ∧ (armed.part 0).job.armCmd = some (5, 0) ∧ (armed.cmd 5 0).isSome = true ∧
    (∀ y ∈ armed.cmds, fld y.desc 0 8 ≠ 0x22) := by decide +kernel
/-- Some host message holds a completion word of a status, in bits [39:32] of its record (R313). -/
def cplStatus (t : State) : List Nat :=
  t.hostTx.filterMap fun m => match m with
    | .hwr _ d 64 => some (d / 2 ^ 32 % 256)
    | _ => none
theorem test_fault_ends_the_job : ((armed.coreFault 0 [⟨7, 8, 0⟩, ⟨1, 8, 2⟩]).part 0).job.st = .faulted ∧
    ((armed.coreFault 0 [⟨7, 8, 0⟩, ⟨1, 8, 2⟩]).part 0).job.reason = 7 ∧
    (armed.coreFault 0 [⟨7, 8, 0⟩, ⟨1, 8, 2⟩]).cmds = [] := by decide +kernel

/-! ### Witnesses: copies and memory -/

/-- A started module: READY, its supplies up, host port A UP, its grooms in service. -/
def ready0 : State :=
  let s := (armed.odSet odStartState 0x0A).odSet (odAt odPortState 34) 2
  let s := (List.range 20).foldl (fun (s : State) g => s.modGroom g fun x => { x with inService := true }) s
  { s with start := { s.start with pwrgood := true, coldStarted := true, acting := true }, clk := { s.clk with locked := true, goodA := true } }
/-- The job of partition 0 in a state, and a started command of ring 5 with a descriptor. -/
def jobIn (s : State) (st : JobState) : State := s.modJob 0 fun j => { j with st := st }
def cmdIn (s : State) (d : Nat) : State := { s with cmds := [⟨5, 0, 0, BitVec.ofNat 512 d, 0, false, none⟩] }

/-- Copy 0 of core 0 and partition 0 with a descriptor. -/
def withCopy (d : Row) (acted : Bool) : State :=
  { armed with copies := [⟨0, 0, 0, 0, 8, d, acted, 0, [], false, 0, 0⟩] }
/-- A copy descriptor: operation, spaces, length in units, flag and increment, source and destination (R215). -/
def cpd (opc ssp dsp units src dst : Nat) : Row :=
  BitVec.ofNat 256 (opc * 2 ^ 4 + ssp * 2 ^ 8 + dsp * 2 ^ 11 + (units - 1) * 2 ^ 16 + 3 * 2 ^ 36 + 2 * 2 ^ 42 + src * 2 ^ 128 + dst * 2 ^ 192)
/-- HBM of partition 0 holds 7 at its first byte. -/
def hbm7 (s : State) : State := { s with hbm := mset zB s.hbm ((s.part 0).hbmAt 0) 7 }
theorem wit_CopiesMoveTheirBytes_lsp : (withCopy (cpd 0 2 0 2 0 4094) false).wf = true ∧
    (let s := withCopy (cpd 0 2 0 2 0 4094) false
     ∀ x ∈ s.copyOf 0, s.copyMay x = true ∧ (copyDesc x.desc).opc = 0 ∧ (copyDesc x.desc).dsp = 0 ∧
      (s.part x.part).siteOf (adCluster (copyDesc x.desc).dst) = some 0 ∧ (copyDesc x.desc).dst % 4096 + (copyDesc x.desc).units = 4096) ∧
    (withCopy (cpd 0 2 0 2 0 4094) false).portDrops 0 = false ∧
    mwf zR ((withCopy (cpd 0 2 0 2 0 4094) false).cur 0).lsp = true := by decide +kernel
theorem wit_CopiesMoveTheirBytes_other :
    (∀ x ∈ (withCopy (cpd 0 2 2 1 0 64) false).copyOf 0, (withCopy (cpd 0 2 2 1 0 64) false).copyMay x = true ∧
      (copyDesc x.desc).dsp = 2 ∧ (copyDesc x.desc).units = 1) ∧
    armed.hbmOut ((armed.part 0).hbmAt 64) = false ∧
    (∀ x ∈ (withCopy (cpd 2 0 1 2 0 64) false).copyOf 0, (copyDesc x.desc).opc = 2 ∧ (copyDesc x.desc).dsp = 1 ∧
      (copyDesc x.desc).dst % 64 = 0 ∧ (copyDesc x.desc).units % 2 = 0) ∧
    (∀ x ∈ (withCopy (cpd 0 2 2 1 0 64) true).copyOf 0, (withCopy (cpd 0 2 2 1 0 64) true).copyMay x = false) := by decide +kernel
theorem test_move_hbm_to_lsp : (match exec (.copyMove 0) (hbm7 (withCopy (cpd 0 2 0 2 0 4094) false)) with
    | .next t => (mget zR (t.cur 0).lsp 4094, mget zR (t.cur 0).lsp 4095)
    | _ => (0, 0)) = (7, 0) := by decide +kernel
theorem test_move_hbm_to_hbm_interleaves : (match exec (.copyMove 0) (hbm7 (withCopy (cpd 0 2 2 1 0 256) false)) with
    | .next t => (mget zB t.hbm (2 ^ 31), mget zB t.hbm 0)
    | _ => (0, 0)) = (7, 7) := by decide +kernel
theorem test_zero_clears_cmem : (match exec (.copyZero 0) { withCopy (cpd 2 0 1 2 0 64) false with cmem := [(63, 1), (64, 2), (128, 3)] } with
    | .next t => t.cmem
    | _ => []) = [(63, 1), (128, 3)] := by decide +kernel
/-- A WP32 AADDX of one granule from LSP row 0 to HBM, and its add on the way. -/
theorem wit_AddsMarksAndCompletions :
    (∀ x ∈ (withCopy (cpd 1 0 2 2 0 0) false).copyOf 0, (withCopy (cpd 1 0 2 2 0 0) false).copyMay x = true ∧
      (copyDesc x.desc).opc = 1 ∧ (copyDesc x.desc).dsp ≠ 3) ∧
    (∀ x ∈ (withCopy (cpd 3 1 0 4 0 9) false).copyOf 0, (withCopy (cpd 3 1 0 4 0 9) false).copyMay x = true ∧
      (copyDesc x.desc).opc = 3 ∧ (copyDesc x.desc).units ≤ 2 ^ 20) ∧
    (∀ x ∈ (withCopy (cpd 0 2 2 1 0 64) true).copyOf 0, x.acted = true ∧ x.adds = 0 ∧ x.pkts = [] ∧
      (copyDesc x.desc).tinc = 0) ∧ (armed.cl 0).port = .opened ∧
    ({ armed with adds := [⟨0, true, 64, true, 12, List.replicate 16 (1, false), false⟩] } : State).adds.length = 1 ∧
    armed.hbmOut 64 = false := by decide +kernel
theorem test_aaddx_sends_one_add : (match exec (.copyAaddx 0) (withCopy (cpd 1 0 2 2 0 0) false) with
    | .next t => t.adds.length
    | _ => 0) = 1 := by decide +kernel
theorem test_adder_adds : (match exec (.aaddxGranuleAdd ⟨0, 9, 4⟩)
      { armed with hbm := [(64, 0xFF)], adds := [⟨0, true, 64, true, 12, List.replicate 16 (1, false), false⟩] } with
    | .next t => ((mgetRange zB t.hbm 64 5), t.hbmOvf)
    | _ => ([], [])) = ([0, 1, 0, 0, 1], []) := by decide +kernel
theorem test_marks_are_counted : (match exec (.copyMarks 0) { withCopy (cpd 3 1 0 4 0 9) false with cmemPoison := [(1, true)] } with
    | .next t => mget zR (t.cur 0).lsp 9
    | _ => 0) = BitVec.ofNat 256 (2 ^ 32 + 64 * 2 ^ 64) := by decide +kernel
theorem test_copy_completes : (match exec (.copyComplete 0) (withCopy (cpd 0 2 2 1 0 64) true) with
    | .next t => ((t.cur 0).fInc, t.copies.length)
    | _ => ([], 9)) = ([(3, 2)], 0) := by decide +kernel

/-- In range, on both bounds, one beyond, and an addend beyond 2^(63 - 12) - 2 (R242, R244). -/
theorem test_wide_partials : wpAdd 32 0 5 (-7, false) = (-2, false) ∧ wpAdd 32 0 (2 ^ 31 - 2) (1, false) = (2 ^ 31 - 2, true) ∧
    wpAdd 64 12 0 (2 ^ 51 - 2, false) = (2 ^ 51 - 2, false) ∧ wpAdd 64 12 0 (2 ^ 51 - 1, false) = (2 ^ 63 - 2, true) ∧
    wpAdd 64 12 5 (-(2 ^ 51) + 1, false) = (-(2 ^ 63) + 2, true) ∧ wpAdd 32 0 (2 ^ 31 - 1) (1, false) = (2 ^ 31 - 1, false) ∧
    wpAdd 32 0 (2 ^ 31 - 1) (-(2 ^ 31) + 1, true) = (-(2 ^ 31), false) := by decide +kernel
theorem wit_WidePartialsAddExactly : (12 : Nat) ≤ 12 ∧ (2 : Int) ^ 63 - 2 ≤ 2 ^ (64 - 1) - 2 ∧
    (2 : Int) ^ (64 - 1 - 12) - 2 < 2 ^ 51 - 1 ∧ (List.replicate 16 ((1, false) : Int × Bool)).length = 512 / wpBits true ∧
    (List.replicate 8 ((1, false) : Int × Bool)).length = 512 / wpBits false := by decide +kernel

/-- An endpoint of stack 0 has applied request 4 of source 9. -/
def kept1 : State := armed.keepReq (endStack 0) 9 4 0
theorem wit_MemoryTiersAreChecked : armed.wf = true ∧ armed.hbmOut (hbmKey 511 0) = false ∧
    (armed.odSet (odAt odPcFenced 15) (2 ^ 31)).hbmOut (hbmKey 511 0) = true ∧
    armed.isDup (endStack 0) 9 4 = false ∧ kept1.isDup (endStack 0) 9 4 = true ∧
    armed.pcOut 511 = false ∧
    (let s := armed.odSet (odAt odPcFenced 15) (2 ^ 31)
     s.wf = true ∧ s.odBit odHbmStacksLost 15 = false ∧ s.odBit (odAt odPcFenced 15) 31 = true ∧ (∀ r ∈ s.stud, r.un ≠ unPc 511)) := by
  decide +kernel
theorem test_cmem_poison_mark : (match exec (.cmemAccessCheck 1 131071 .uncorrectable) armed with
    | .next t => (t.cmemPoison, t.od odCmemUncorrectableCount)
    | _ => ([], 0)) = ([(262143, true)], 1) := by decide +kernel
theorem test_hbm_read_answers : (match exec (.hbmRequest 9 4 1 65 .read ⟨.ok, none⟩ 0) { armed with hbm := [(2 ^ 31 + 64, 3)] } with
    | .next t => t.hbmData.map fun d => (d.1.take 2, d.1.length, d.2)
    | _ => none) = some ([3, 0], 64, false) := by decide +kernel
theorem test_hbm_repeat_is_counted : (match exec (.hbmRequest 9 4 1 64 (.write [1] false) ⟨.ok, none⟩ 0) kept1 with
    | .next t => (t.hbm, t.od odMeshDuplicateCount)
    | _ => ([], 0)) = ([], 1) := by decide +kernel
theorem test_pc_rejoins : (match exec (.pcRejoin 511 true) (armed.odSet (odAt odPcFenced 15) (2 ^ 31)) with
    | .next t => t.pcOut 511
    | _ => true) = false := by decide +kernel

/-! ### Witnesses: windows, messages and signals -/

/-- Window 3 of partition 0 over its CMEM, from peer 7 with key 9 and all rights. -/
def win0 : Window := ⟨0, false, 0, 128, 7, 7, 9, 0, 0, 0, none⟩
def withWin (w : Window) : State := armed.setWindow 3 (some w)
/-- A write of one granule to its second half. -/
def pk : WinPkt := { pkt0 with offset := 64, data := List.replicate 64 5 }
theorem wit_WindowWritesAreChecked : (withWin win0).wf = true ∧ (withWin win0).window 3 = some win0 ∧
    (∀ q ∈ (withWin win0).keptWin, ¬ (q.1 = pk.src ∧ q.2.1 = pk.tag)) ∧
    (armed.part 0).siteOf (adCluster (win0.base + pk.offset)) = some 0 ∧ armed.portDrops 0 = false ∧
    (win0.base + pk.offset) % 64 = 0 ∧ pk.data.length % 64 = 0 ∧ (win0.base + pk.offset) % 2 ^ 23 + pk.data.length ≤ 2 ^ 23 := by
  decide +kernel
theorem wit_window_takes : win0.takes (withWin win0) .wmove pk := by unfold Window.takes; decide +kernel
/-- No window, a closing one, another key, no right, one byte too far, a partition under reset. -/
theorem wit_window_fails : armed.winFails .wmove pk odWindowDropClosed ∧
    (withWin { win0 with closing := some (1, 2) }).winFails .wmove pk odWindowDropClosed ∧
    (withWin { win0 with key := 8 }).winFails .wmove pk odWindowDropAuth ∧
    (withWin { win0 with rights := 0 }).winFails .wmove pk odWindowDropRights ∧
    (withWin { win0 with size := 127 }).winFails .wmove pk odWindowDropRange ∧
    ((withWin win0).modPart 0 fun x => { x with resetAt := some 0 }).winFails .wmove pk odWindowDropReset := by
  refine ⟨?_, ?_, ?_, ?_, ?_, ?_⟩
  · show odWindowDropClosed = odWindowDropClosed; rfl
  · exact Or.inl ⟨by decide +kernel, rfl⟩
  · exact Or.inr (Or.inl ⟨by decide +kernel, Or.inr (by decide +kernel), rfl⟩)
  · exact Or.inr (Or.inr (Or.inl ⟨by decide +kernel, by decide +kernel, by decide +kernel, by decide +kernel, rfl⟩))
  · exact Or.inr (Or.inr (Or.inr (Or.inl ⟨by decide +kernel, by decide +kernel, by decide +kernel, by decide +kernel,
      by decide +kernel, rfl⟩)))
  · exact Or.inr (Or.inr (Or.inr (Or.inr ⟨by decide +kernel, by decide +kernel, by decide +kernel, by decide +kernel,
      by decide +kernel, by decide +kernel, rfl⟩)))
theorem wit_window_repeat_and_age : ((7, 5, 0) : BitVec 16 × BitVec 32 × Nat) ∈ ({ withWin win0 with keptWin := [(7, 5, 0)] } : State).keptWin ∧
    (withWin win0).clk.dt < 0 + 100000000 ∧ pk.hops < 32 ∧ ((withWin win0).clk.dt / 1000 + 8192 - pk.ageUs) % 8192 ≤ 5000 ∧
    ({ withWin win0 with clk := { armed.clk with dt := 5000000 } } : State).clk.dt / 1000 = 5000 := by decide +kernel
theorem test_wmove_writes_its_bytes : (match exec (.windowWriteArrival .wmove pk) (withWin win0) with
    | .next t => (mget zB t.cmem 63, mget zB t.cmem 64, mget zB t.cmem 127, mget zB t.cmem 128, t.keptWin.length)
    | _ => (1, 0, 0, 1, 0)) = (0, 5, 5, 0, 1) := by decide +kernel
theorem test_window_counts_first_failure : (match exec (.windowWriteArrival .wzero pk) (withWin { win0 with key := 8, rights := 0 }) with
    | .next t => (t.od odWindowDropAuth, t.od odWindowDropRights)
    | _ => (0, 0)) = (1, 0) := by decide +kernel
/-- A tracker of a copy whose last packet came at 0, 100 ms ago and a nanosecond less. -/
def trk (dt : Nat) : State := { armed with trackers := [⟨7, 1, 2, 3, 1, false, 0⟩], clk := { armed.clk with dt := dt } }
theorem wit_tracker : (trk 100000000).trackers.length = 1 ∧ 0 + 100000000 ≤ (trk 100000000).clk.dt ∧
    (trk 99999999).clk.dt < 0 + 100000000 := by decide
theorem test_tracker_closes : (match exec (.notifyTrackerClose 0) (trk 100000000), exec (.notifyTrackerClose 0) (trk 99999999) with
    | .next t, .next u => (t.trackers.length, u.trackers.length)
    | _, _ => (9, 9)) = (0, 1) := by decide +kernel

/-- A message for channel 2 of core 0, and signals to it from its own cluster and from another, its port in each state. -/
def mailAt (p : PortSt) : State :=
  { armed.modCl 0 fun x => { x with port := p } with
    mails := [⟨0, 2, ⟨7, 8, 9, false⟩, ⟨0, 0⟩⟩, ⟨0, 3, ⟨7, 8, 0, false⟩, ⟨2, 9⟩⟩],
    signals := [⟨5, 0, 3, 4, ⟨0, 0⟩⟩, ⟨20, 0, 3, 4, ⟨64, 0⟩⟩, ⟨5, 0, 3, 4, ⟨1, 9⟩⟩] }
/-- CCLK of the cluster has stopped for a change of its point. -/
def stopAt (s : State) : State := s.modCl 0 fun x => { x with change := some (3, false) }
theorem wit_MessagesAndSignalsArrive : (mailAt .opened).mails.length = 2 ∧ ((mailAt .opened).cl 0).port = .opened ∧
    ((mailAt .hold).cl 0).port = .hold ∧ ((mailAt .park).cl 0).port = .park ∧ ((mailAt .dark).cl 0).port = .dark ∧
    (mailAt .opened).clk.dt < 9 ∧ 0 ≤ (mailAt .opened).clk.dt ∧ (mailAt .opened).ownerOf 0 = some (0, 0) ∧
    ((mailAt .opened).part 0).resetAt = none ∧ (((mailAt .opened).modPart 0 fun x => { x with resetAt := some 1 }).part 0).resetAt.isSome = true ∧
    (mailAt .opened).stopped 0 = false ∧ (stopAt (mailAt .opened)).stopped 0 = true ∧
    ((stopAt (mailAt .opened)).cl 0).port = .opened ∧ (20 : Nat) / 16 ≠ 0 / 16 ∧
    (mailAt .hold).mailFrom ⟨0, 2, ⟨7, 8, 9, false⟩, ⟨0, 0⟩⟩ ≠ some 1 ∧
    (mailAt .opened).routerStopped 0 = false ∧
    ((mailAt .dark).modCl 0 fun x => { x with routerFaulty := true }).routerStopped 0 = true := by decide +kernel
theorem test_mail_waits_out_its_retry : (match exec (.mailboxArrival 0) (mailAt .hold), exec (.signalDelivery 1) (mailAt .hold) with
    | .next t, .next u => (t.mails.map (·.retry), t.od odMeshRetryCount, u.signals.map (·.retry))
    | _, _ => ([], 0, [])) = ([⟨1, 1000⟩, ⟨2, 9⟩], 1, [⟨0, 0⟩, ⟨64, 64000⟩, ⟨1, 9⟩]) := by decide +kernel
/-- What arrives in a change stop takes effect in its order once CCLK restarts (R387). -/
theorem test_arrivals_land_in_order : (match exec (.signalDelivery 0) (stopAt (mailAt .opened)) with
    | .next t => (t.landing.map (·.1), (t.cur 0).fInc, t.signals.length)
    | _ => ([], [], 9)) = ([0], [], 2) := by decide +kernel
theorem test_message_arrives : (match exec (.mailboxArrival 0) (mailAt .opened) with
    | .next t => ((t.cur 0).fInc, mget (fun _ => []) (t.cur 0).mb 2, t.mails.length)
    | _ => ([], [], 9)) = ([(62, 1)], [⟨7, 8, 9, false⟩], 1) := by decide +kernel
theorem test_signal_adds : (match exec (.signalDelivery 0) (mailAt .opened) with
    | .next t => ((t.cur 0).fInc, t.signals.length)
    | _ => ([], 9)) = ([(3, 4)], 2) := by decide +kernel
/-- Post and acknowledgement records of the host of partition 0 to core 0 of its cluster 0 (R334, R339). -/
def rec (ack cls : Nat) : BitVec 128 := BitVec.ofNat 128 (5 + 6 * 2 ^ 64 + cls * 2 ^ 110 + ack * 2 ^ 112)
theorem wit_host_records : (rec 0 2).extractLsb' 110 2 = 2 ∧ (rec 0 2).getLsbD 109 = false ∧ (rec 0 2).extractLsb' 112 16 = 0 ∧
    (rec 1 2).extractLsb' 112 16 = 1 ∧ (armed.part 0).sites[fld (rec 0 2) 100 9]? = some (some 0) ∧ armed.hostWait = [] ∧
    armed.mbHeld (mbHu 0) 0 < 4 ∧ ({ armed with posts := mset zN [] (mbKey 0 (mbHu 0)) 1 } : State).mbHeld 0 (mbHu 0) ≠ 0 ∧
    (rec 0 1).extractLsb' 110 2 = 1 := by decide +kernel
theorem test_host_post_takes_a_place : (match exec (.hostPost 1 (rec 0 2)) ready0 with
    | .next t => (t.mbHeld (mbHu 0) 0, t.mails.map fun m => (m.dst, m.item.pointer, m.item.tag))
    | _ => (0, [])) = (1, [(0, 5, 6)]) := by decide +kernel
theorem test_host_ack_sets_off : (match exec (.hostAck 1 (rec 1 2)) { ready0 with posts := mset zN [] (mbKey 0 (mbHu 0)) 1 } with
    | .next t => t.mails.map fun m => (m.dst, m.item.ack, m.item.tag)
    | _ => []) = [(0, true, 6)] := by decide +kernel
/-- A copy from CMEM of the partition into its LSP, at a port in each state (R363, R364). -/
def copyAt (p : PortSt) : State := (withCopy (cpd 0 1 2 2 0 0) false).modCl 0 fun x => { x with port := p }
/-- A copy of core 1024, of another cluster, whose source lies behind a port that answers RETRY. -/
def copyFar (p : PortSt) : State :=
  let s := { copyAt p with copies := [⟨0, 1024, 0, 0, 8, cpd 0 1 2 2 0 0, false, 0, [], false, 0, 0⟩] }
  s.modCl 64 fun x => { x with power := .on, port := .opened }
theorem wit_copy_retries : (copyFar .hold).wf = true ∧ (∀ x ∈ (copyFar .hold).copyOf 0, (copyFar .hold).copyReady x = true ∧
      (copyFar .hold).copyRetries x = [0] ∧ (copyDesc x.desc).opc = 0) ∧
    (∀ x ∈ (copyFar .park).copyOf 0, (copyFar .park).copyReady x = true ∧ (copyFar .park).copyRetries x = [0]) ∧
    (∀ x ∈ (withCopy (cpd 0 2 2 1 0 64) true).copyOf 0, (withCopy (cpd 0 2 2 1 0 64) true).copyReady x = false) := by decide +kernel
theorem test_copy_retry_waits_and_wakes : (match exec (.copyMove 0) (copyFar .park) with
    | .next t => (t.copies.map fun y => (y.acted, y.retryUs, y.retryAt), (t.cl 0).waking, t.od odMeshRetryCount)
    | _ => ([], false, 0)) = ([(false, 1, 1000)], true, 1) := by decide +kernel
theorem wit_adds_and_flags : (({ armed with adds := [⟨0, true, 64, true, 12, List.replicate 16 (1, false), false⟩] } : State).isDup
      (addEnd true 64) 9 4 = false) ∧ kept1.isDup (addEnd true 64) 9 4 = true ∧ (armed.cl 0).port = .opened ∧
    armed.stopped 0 = false ∧ (armed.cur 0).active = true ∧ (armed.cur 1).active = false ∧
    (copyDesc (cpd 0 2 2 1 0 64 + 2 ^ 62)).tinc ≠ 0 ∧ (armed.part 0).siteOf 0 = some 0 := by decide +kernel
/-- Link 0 is UP, and the routers at its die run or have stopped. -/
def linked (down : Bool) : State :=
  let s := (withWin win0).odSet (odAt odPortState 0) 2
  (dieSites (linkDie 0)).foldl (fun (s : State) k => s.modCl k fun x => { x with routerFaulty := down }) s
theorem wit_window_links : (linked false).wf = true ∧ (linked false).linkUp 0 = true ∧ (linked false).dieCutOff (linkDie 0) = false ∧
    (linked true).linkUp 0 = true ∧ (linked true).dieCutOff (linkDie 0) = true ∧ (linked true).linkUp 1 = false ∧
    (linked false).pktDiscard pk.hops pk.ageUs = none ∧ 32 ≤ ({ pk with hops := 32 } : WinPkt).hops ∧
    5000 < ((linked false).ageNow + 8192 - 3191 % 8192) % 8192 := by decide +kernel
theorem wit_window_serves : (linked false).linkServes (some 0) ∧ (linked false).linkServes none ∧
    (linked false).brings (.wmove, .wmove) pk (.wmove ⟨some 0, pk⟩) := by
  have h : (linked false).linkServes (some 0) := by
    rintro k h; cases h; decide +kernel
  exact ⟨h, (by rintro k h; cases h), Or.inr ⟨some 0, rfl, h, by decide +kernel⟩⟩
theorem test_window_packet_of_a_cut_off_die : (match exec (.wmove ⟨some 0, pk⟩) (linked true) with
    | .next t => (t.od odLinkIsolatedDropCount, t.cmem)
    | _ => (0, [])) = (1, []) := by decide +kernel
/-- A post of the board host to the yardmaster (R334, R340). -/
def recYard : BitVec 128 := BitVec.ofNat 128 (5 + 6 * 2 ^ 64)
theorem wit_host_posts : ready0.up = true ∧ ready0.hostUp = true ∧ ready0.hostWait = [] ∧ recYard.extractLsb' 110 2 = 0 ∧
    fld recYard 104 6 = 0 ∧ fld recYard 96 8 = 0 ∧ mbMgmtOk 0 = true ∧ mgmtChan 0 srcHp 100 = some 0 ∧
    ready0.mbHeld mbHp (mbMgmt 0) < 4 ∧ (16 * 0 + fld (rec 0 2) 96 4) < 20000 ∧ armed.hostUp = false ∧
    armed.linkUp 34 = false ∧ (mailAt .opened).stopped 0 = false ∧
    ((mailAt .opened).modCl 0 fun x => { x with change := some (5, false) }).stopped 0 = true ∧
    (((mailAt .opened).modPart 0 fun x => { x with resetAt := some 0 }).part 0).resetAt.isSome = true ∧
    (mailAt .opened).ownerOf 0 = some (0, 0) := by decide +kernel
theorem test_board_host_posts_to_the_yardmaster : (match exec (.hostPost 0 recYard) ready0 with
    | .next t => (t.mbHeld mbHp (mbMgmt 0), (mget (fun _ => []) t.mgmt 0).map (·.tag))
    | _ => (0, [])) = (1, [6]) := by decide +kernel

/-! ### Witnesses: commits, update chiplets and digests -/

/-- A RESYNC of UID 0x12 to step 5, and an SGDM of UID 0x13 for step 5 that checks its counter, each of one element. -/
def uResync : Nat := 6 + 6 * 2 ^ 4 + 0x12 * 2 ^ 8 + 5 * 2 ^ 32
def uSgdm : Nat := 6 + 1 * 2 ^ 7 + 0x13 * 2 ^ 8 + 5 * 2 ^ 32 + 1024 * 2 ^ 256 + 2048 * 2 ^ 320
/-- The state with a descriptor at address 4096 of the space of partition 0 and a STEP_COMMIT of one descriptor for step 5. -/
def commitSt (d : Nat) (st : JobState) (step : W32) : State :=
  let s := (cmdIn ready0 (4 + 5 * 2 ^ 64 + 4096 * 2 ^ 96)).modJob 0 fun j => { j with st := st, step := step }
  { s with hbm := msetRange zB s.hbm ((s.part 0).hbmAt 4096) (leBytes 128 d) }
/-- A commit of one descriptor in a phase, its shard on stack 0. -/
def inCommit (d : Nat) (ph : CommitPhase) (fin aft : Bool) : State :=
  (commitSt d .stepPending 5).modPart 0 fun x =>
    { x with commit := some ⟨5, 0, ph, [BitVec.ofNat 1024 d], [⟨0, 0, 0, 0, fin⟩], [], [], false, false, [], [], aft, 0⟩ }
theorem wit_CommitsPassTheGate_command :
    (commitSt uSgdm .stepPending 5).wf = true ∧ ((commitSt uSgdm .stepPending 5).cmdOf 5 0 0x04).isSome = true ∧
    uListOk ((commitSt uSgdm .stepPending 5).part 0).hbmSize [BitVec.ofNat 1024 uSgdm] = true ∧
    (∀ c ∈ (commitSt uSgdm .stepPending 5).cmds, (commitSt uSgdm .stepPending 5).commitList c = [BitVec.ofNat 1024 uSgdm] ∧
      fld c.desc 64 32 = ((commitSt uSgdm .stepPending 5).part 0).job.step.toNat) ∧
    (commitSt uSgdm .stepPending 5).commitRoom 0 [BitVec.ofNat 1024 uSgdm] = true ∧ uRule (BitVec.ofNat 1024 uSgdm) ≠ 6 := by decide +kernel
/-- A run occupies UPC 0, whose stacks are the first two. -/
def upcRuns (s : State) : State := { s with firm := { s.firm with runs := [⟨true, 0, false, 0, ImgHdr.basePkg⟩] } }
theorem wit_commit_waits_for_a_run : (upcRuns (commitSt uSgdm .stepPending 5)).wf = true ∧
    (upcRuns (commitSt uSgdm .stepPending 5)).commitRuns 0 [BitVec.ofNat 1024 uSgdm] = true ∧
    (commitSt uSgdm .stepPending 5).commitRuns 0 [BitVec.ofNat 1024 uSgdm] = false ∧
    ((commitSt uSgdm .stepPending 5).part 0).commit = none ∧
    (upcRuns (inCommit uSgdm .apply false false)).upcFor 0 0 = some 0 ∧
    (upcRuns (inCommit uSgdm .apply false false)).upcInRun 0 = true ∧ (inCommit uSgdm .apply false false).upcInRun 0 = false ∧
    uRule (BitVec.ofNat 1024 uSgdm) = 0 := by decide +kernel
theorem test_commit_waits_for_a_run : (match exec (.stepCommit 5 0) (upcRuns (commitSt uSgdm .stepPending 5)) with
    | .next t => (cplStatus t, (t.part 0).commit.isNone, t.cmds.length)
    | _ => ([], false, 0)) = ([], true, 1) := by decide +kernel
theorem wit_CommitsPassTheGate_gate : ((inCommit uSgdm .gate false false).part 0).commit.isSome = true ∧
    (inCommit uSgdm .gate false false).odBit odHbmStacksLost 0 = false ∧
    (inCommit uSgdm .gate false false).disagree 0 (BitVec.ofNat 1024 uSgdm) ≠ [] ∧
    (inCommit uResync .gate false false).disagree 0 (BitVec.ofNat 1024 uResync) = [] := by decide +kernel
theorem test_commit_stands_at_the_gate : (match exec (.stepCommit 5 0) (commitSt uSgdm .stepPending 5) with
    | .next t => (t.part 0).commit.map fun c => (decide (c.phase = .gate), c.shards.length)
    | _ => none) = some (true, 1) := by decide +kernel
theorem test_commit_of_halted_job : (match exec (.stepCommit 5 0) (commitSt uSgdm .halted 5) with
    | .next t => (cplStatus t, (t.part 0).commit.isNone)
    | _ => ([], false)) = ([csStepLost], true) := by decide +kernel
theorem test_commit_for_another_step : (match exec (.stepCommit 5 0) (commitSt uSgdm .stepPending 6) with
    | .next t => cplStatus t
    | _ => []) = [csStateIllegal] := by decide +kernel
theorem test_gate_shuts_on_one_counter : (match exec (.gateCheck 0) (inCommit uSgdm .gate false false) with
    | .next t => ((t.part 0).commit.isNone, t.od odStepMismatchCount, t.upd)
    | _ => (false, 0, [])) = (true, 1, []) := by decide +kernel
theorem test_gate_opens : (match exec (.gateCheck 0) (inCommit uResync .gate false false) with
    | .next t => (t.part 0).commit.map (decide <| ·.phase = .apply)
    | _ => none) = some true := by decide +kernel
theorem wit_CommitsApplyAndEnd :
    (∀ m ∈ ((inCommit uResync .apply false false).part 0).commit,
      (m.shards.find? fun h => h.stack == 0 && (inCommit uResync .apply false false).shardReady m h).isSome = true ∧ m.done = false) ∧
    (∀ m ∈ ((inCommit uResync .apply true false).part 0).commit, m.done = true ∧ m.afterReset = false ∧ m.torn = [] ∧
      m.poisoned = [] ∧ m.stale = [] ∧ ((inCommit uResync .apply true false).cmd m.ring m.idx).isSome = true) ∧
    (∀ m ∈ ((inCommit uResync .apply true true).part 0).commit, m.done = true ∧ m.afterReset = true) ∧
    ((inCommit uResync .apply true true).part 0).resetAt = none ∧ ((inCommit uResync .apply true false).part 0).job.st = .stepPending := by
  decide +kernel
theorem test_resync_sets_counter : (match exec (.updateGroupApply 0 ⟨0, .ok⟩) (inCommit uResync .apply false false) with
    | .next t => (t.updCtr 0 0 0x12, (t.part 0).commit.map (·.done))
    | _ => (0, none)) = (5, some true) := by decide +kernel
theorem test_sgdm_of_zero_gradient_steps_counter : (match exec (.updateGroupApply 0 ⟨0, .ok⟩) (inCommit uSgdm .apply false false) with
    | .next t => t.updCtr 0 0 0x13
    | _ => 0) = 6 := by decide +kernel
theorem test_commit_completes : (match exec (.commitComplete 0) (inCommit uSgdm .apply true false) with
    | .next t => (cplStatus t, (t.part 0).job.st, t.od odCommitCount)
    | _ => ([], .empty, 0)) = ([csOk], .loaded, 1) := by decide +kernel

/-- A drain waits; a UPC stands drained and has passed; a digest of one byte entry runs and waits. -/
def drainSt : State := { ready0 with upcWait := [(7, 2)] }
def drained : State := { (ready0.odSet (odAt odUpcState 7) 1) with upcPassed := [(7, true)] }
def digRow : Row := 8
def digestSt (started poison : Bool) : State :=
  (cmdIn ready0 0x30).modPart 0 fun x => { x with digests := [⟨5, 0, started, [digRow], 7, poison⟩] }
theorem wit_UpdateChipletsAndDigests :
    (drainSt.upcWait.find? fun x => x.1 == 7) = some (7, 2) ∧ drainSt.upcBusy 7 = false ∧ ready0.upcServes 7 = true ∧
    (inCommit uSgdm .apply false false).upcBusy 0 = true ∧
    drained.od (odAt odUpcState 7) = 1 ∧ drained.odBit odUpcEnabled 7 = true ∧ mget zF drained.upcPassed 7 = true ∧
    drained.unitOut (unUpc 7) = false ∧ drained.stacksBusy 7 = false ∧ digOk (ready0.part 0).hbmSize digRow = true ∧
    ((digestSt true true).cmd 5 0).isSome = true ∧ ((digestSt false false).part 0).commit = none ∧
    (digestSt false false).digRuns 0 = false ∧ (upcRuns (digestSt false false)).digRuns 0 = true ∧
    (digestSt true true).upcServes 0 = true ∧ (0 : Nat) ∈ ((digestSt true true).part 0).stacks := by decide +kernel
theorem test_chiplet_returns : (match exec (.upcReturn 7) drained with
    | .next t => (t.od (odAt odUpcState 7), t.odBit odUpcDrained 7)
    | _ => (9, true)) = (0, false) := by decide +kernel
theorem test_digest_completes : (match exec (.digestComplete ⟨0, [(0, .bit), (7, .ok)]⟩) (digestSt true true), exec (.digestComplete ⟨0, []⟩) (digestSt true false) with
    | .next t, .next u => (cplStatus t, cplStatus u, (t.part 0).digests.length, t.od (odAt odUpcSramCorrectedCount 0))
    | _, _ => ([], [], 9, 9)) = ([csPoisonConsumed], [csOk], 0, 1) := by decide +kernel
theorem test_digest_starts : (match exec (.digestStart 0) (digestSt false false) with
    | .next t => (t.part 0).digests.map (·.started)
    | _ => []) = [true] := by decide +kernel

/-! ### Witnesses: rings, partitions and jobs -/

/-- Ring 5 of partition 0, enabled, with one command posted beyond those it has fetched. -/
def ring5 (en st : Bool) : State :=
  { (ready0.modRing 5 fun x => { x with part := 0, enabled := en, stopped := st, prod := 8, cons := 7, log2 := 6, stopIdx := 3 }) with cmds := [] }
/-- A doorbell of ring 5 that moves PROD to a value. -/
def bell (prod : Nat) : BitVec 64 := BitVec.ofNat 64 (5 + prod * 2 ^ 32)
theorem wit_RingsServeCommands : (ring5 true false).wf = true ∧ (ring5 true false).up = true ∧ (ring5 true false).hostUp = true ∧
    fld (bell 71) 0 12 = 5 ∧ fld (bell 71) 12 20 = 0 ∧ ((71 : W32) - 8).toNat < 2 ^ 31 ∧ ((71 : W32) - 7).toNat ≤ 2 ^ 6 ∧
    2 ^ 6 < ((72 : W32) - 7).toNat ∧ 2 ^ 31 ≤ ((7 : W32) - 8).toNat ∧ (ring5 true false).mayFetch 5 = true ∧
    (ring5 true true).mayFetch 5 = false ∧ (ring5 true false).mayStart 5 0x21 = true ∧
    (ring5 true false).startStatus 5 0x21 = csOk ∧ (ring5 true false).startStatus 5 0x7F = csArgInvalid ∧ opKnown 0x7F = false ∧
    ((cmdIn ready0 0x21).cmdOf 5 0 0x21).isSome = true ∧ ((cmdIn ready0 0x22).cmdOf 5 0 0x22).isSome = true ∧
    fld (BitVec.ofNat 512 (0x22 + 2 * 2 ^ 160)) 160 32 ≠ 0 := by decide +kernel
theorem test_doorbell_bounds : (match exec (.doorbell 0 (bell 71)) (ring5 true false), exec (.doorbell 0 (bell 72)) (ring5 true false) with
    | .next t, .next u => ((t.ring 5).prod, (u.ring 5).prod, u.od odDoorbellIgnoredCount)
    | _, _ => (0, 0, 0)) = (71, 8, 1) := by decide +kernel
theorem test_doorbell_of_another_partition : (match exec (.doorbell 2 (bell 71)) (ring5 true false) with
    | .next t => t.od odHostClassDropCount
    | _ => 0) = 1 := by decide +kernel
/-- The card has returned the command that ring 5 reads (R306, R473). -/
def got (d : Nat) : State := { ring5 true false with hrd := ⟨1, [⟨0, 5, 7, false, 64, some (leBytes 64 d)⟩]⟩ }
theorem wit_command_fetch : (got 0x21).mayFetch 5 = true ∧ (got 0x21).fetched 5 = some 0x21 ∧ (got 0x21).mayStart 5 0x21 = true ∧
    (got 0x21).startStatus 5 0x21 = csOk ∧ (got 0x7F).startStatus 5 0x7F ≠ csOk ∧ (ring5 true false).fetchOf 5 = none ∧
    ({ ring5 true false with hrd := ⟨1, [⟨0, 5, 7, false, 64, none⟩]⟩ } : State).fetchOf 5 ≠ none ∧
    ({ ring5 true false with hrd := ⟨1, [⟨0, 5, 7, false, 64, none⟩]⟩ } : State).fetched 5 = none ∧
    (ring5 true false).dieCutOff (linkDie (ring5 true false).hostPort) = false := by decide +kernel
/-- Slot i mod size of the ring is read with an HRD_REQ (R306, R473): index 7 of 64 at 64 * 7. -/
theorem test_fetch_reads_its_slot : (match exec (.commandFetch 5 false) (ring5 true false) with
    | .next t => (t.hostTx, t.hrd.reqs.length, (t.ring 5).cons)
    | _ => ([], 9, 0)) = ([.hrd 0 448 64], 1, 7) := by decide +kernel
theorem test_fetch_starts_fence : (match exec (.commandFetch 5 true) (got 0x21) with
    | .next t => (t.cmds.map fun c => (c.ring, c.idx), (t.ring 5).cons)
    | _ => ([], 0)) = ([(5, 7)], 8) := by decide +kernel
theorem test_fetch_of_unknown_op_completes : (match exec (.commandFetch 5 true) (got 0x7F) with
    | .next t => (cplStatus t, t.cmds.length)
    | _ => ([], 9)) = ([csArgInvalid], 0) := by decide +kernel
theorem test_fence_completes : (match exec (.fence 5 0) (cmdIn ready0 0x21) with
    | .next t => (cplStatus t, t.cmds.length)
    | _ => ([], 9)) = ([csOk], 0) := by decide +kernel
theorem test_event_wait_waits : (match exec (.eventWait 5 0) (cmdIn ready0 0x22) with
    | .next t => t.cmds.map (·.acted)
    | _ => []) = [true] := by decide +kernel
/-- An EVENT_WAIT of 2 microseconds at 2,000 ns. -/
theorem test_event_wait_times_out : (match exec (.eventWaitTimeout 5 0)
      { cmdIn ready0 (0x22 + 2 * 2 ^ 160) with clk := { ready0.clk with dt := 2000 } } with
    | .next t => cplStatus t
    | _ => []) = [csTimeout] := by decide +kernel
theorem test_ring_restart : (match exec (.ringRestart 5) (ring5 true true) with
    | .next t => ((t.ring 5).stopped, (t.ring 5).cons)
    | _ => (true, 0)) = (false, 3) := by decide +kernel

/-- Partition 1 asks for half-bay 1 and stack 0; its control is COMPOSE. -/
def composeSt (mib : Nat) : State :=
  let s := ((ready0.odSet (odAt odPartHalfBays 1) 2).odSet (odAt odPartStackSet 1) 1).odSet (odAt odPartSpanMib 1) mib
  let s := (List.range 16).foldl (fun (s : State) i => s.odSet (odSite odSiteLogical (16 + i)) (16 + i)) s
  s.modPart 1 fun x => { x with ctrl := some (1, 0) }

theorem wit_PartitionsAreControlled_compose : ((composeSt 2).part 1).ctrl = some (1, 0) ∧ (composeSt 2).composeStatus 1 = csOk ∧
    (composeSt 3).composeStatus 1 = csArgInvalid := by decide +kernel
/-- A control of partition 0 with a code and a phase. -/
def ctrlSt (k ph : Nat) : State := ready0.modPart 0 fun x => { x with ctrl := some (k, ph), resetAt := if k = 3 ∧ ph = 1 then some 0 else none }
theorem wit_PartitionsAreControlled : (ctrlSt 4 0).wf = true ∧ ((ctrlSt 4 0).part 0).ctrl = some (4, 0) ∧
    ((ctrlSt 3 0).part 0).ctrl = some (3, 0) ∧ ((ctrlSt 3 0).part 0).job.st = .running ∧
    ((ctrlSt 3 1).part 0).resetAt.isSome = true ∧ ((ctrlSt 1 1).part 0).ctrl = some (1, 1) ∧
    some 0 ∈ ((ctrlSt 4 0).part 0).sites := by decide +kernel
theorem test_dissolve_gives_up : (match exec (.dissolve 0) (ctrlSt 4 0) with
    | .next t => ((t.part 0).composed, (t.cl 0).owner, (t.cl 0).power)
    | _ => (true, none, .on)) = (false, none, .off) := by decide +kernel
theorem test_control_ends : (match exec (.partCtrlEnd 0) (ctrlSt 1 1) with
    | .next t => ((t.part 0).ctrl, t.od (odAt odPartCtrlStatus 0))
    | _ => (some (9, 9), 9)) = (none, csOk) := by decide +kernel

/-- JOB_LOAD of JOB_ID 9 with a manifest at 0 whose 16 entries boot one bundle from address 0 (R177, R317). -/
def loadSt (kind : Byte) : State :=
  let s := cmdIn (jobIn ready0 .empty) (1 + 9 * 2 ^ 64)
  { s with hbm := (List.range 16).foldl (fun m i => mset zB m ((s.part 0).hbmAt (64 * i)) kind) s.hbm }
/-- JOB_ARM of step 5 at a time. -/
def armSt (dt : Nat) : State := cmdIn (jobIn ready0 .loaded) (2 + 5 * 2 ^ 64 + dt * 2 ^ 96)
theorem wit_JobsRunTheirSteps_load : (loadSt 4).wf = true ∧ ((loadSt 4).cmdOf 5 0 0x01).isSome = true ∧
    0 + 64 ≤ ((loadSt 4).part 0).hbmSize ∧ 0 + 1024 * ((loadSt 4).part 0).clusters ≤ ((loadSt 4).part 0).hbmSize ∧
    fld (BitVec.ofNat 256 ((loadSt 4).unitRead ((loadSt 4).part 0) 2 0 0).1) 0 32 ≠ 0x0804A55B ∧
    ((List.range (16 * ((loadSt 4).part 0).clusters)).map ((loadSt 4).manifestEntry ((loadSt 4).part 0) 0)).all
      (fun e => !e.2 && entryOk ((loadSt 4).part 0) e.1) = true ∧
    entryOk ((loadSt 5).part 0) ((loadSt 5).manifestEntry ((loadSt 5).part 0) 0 0).1 = false := by decide +kernel
theorem test_job_load : (match exec (.jobLoad 5 0) (loadSt 4) with
    | .next t => ((t.part 0).job.st, (t.part 0).job.jobId, cplStatus t)
    | _ => (.empty, 0, [])) = (.loaded, 9, [csOk]) := by decide +kernel
theorem test_job_load_of_broken_manifest : (match exec (.jobLoad 5 0) (loadSt 5) with
    | .next t => ((t.part 0).job.st, cplStatus t)
    | _ => (.loaded, [])) = (.empty, [csArgInvalid]) := by decide +kernel
theorem wit_JobsRunTheirSteps_arm : ((armSt 20000).cmdOf 5 0 0x02).isSome = true ∧ (armSt 20000).unmapped 0 = 0 ∧
    (∀ c ∈ (armSt 20000).cmds, (armSt 20000).clk.dt + 20000 ≤ fld c.desc 96 64) ∧
    (∀ c ∈ (armSt 19999).cmds, fld c.desc 96 64 < (armSt 19999).clk.dt + 20000) ∧
    ((cmdIn (jobIn ready0 .loaded) 3).cmdOf 5 0 0x03).isSome = true ∧ ((cmdIn ready0 5).cmdOf 5 0 0x05).isSome = true ∧
    ((cmdIn (jobIn ready0 .loaded) 6).cmdOf 5 0 0x06).isSome = true ∧ (ready0.part 0).digests = [] := by decide +kernel
theorem test_arm_too_early_is_refused : (match exec (.jobArm 5 0) (armSt 19999) with
    | .next t => (cplStatus t, (t.part 0).job.st)
    | _ => ([], .empty)) = ([csArgInvalid], .loaded) := by decide +kernel
theorem test_arm_at_20000_ns : (match exec (.jobArm 5 0) (armSt 20000) with
    | .next t => ((t.part 0).job.st, (t.part 0).job.step, (t.part 0).job.launchDt)
    | _ => (.empty, 0, 0)) = (.armed, 5, 20000) := by decide +kernel
/-- An armed job at its launch, and a running one whose cores have all ended. -/
def launchSt : State := jobIn ready0 .armed |>.modJob 0 fun j => { j with prep := true, step := 5, launchDt := 0 }
def endSt : State :=
  (List.range 16).foldl (fun (s : State) k => s.modBoth k fun x => { x with phase := .ended }) ready0
theorem wit_JobsRunTheirSteps_run : (launchSt.part 0).job.st = .armed ∧ launchSt.bootDone 0 = true ∧
    (launchSt.part 0).job.launchAt ≤ launchSt.clk.dt ∧ (endSt.part 0).job.st = .running ∧
    (∀ k ∈ endSt.partCores 0, (endSt.cur k).quiet = true) ∧ endSt.copies = [] ∧ (endSt.part 0).job.armCmd = some (5, 0) ∧
    (endSt.cmd 5 0).isSome = true := by decide +kernel
theorem test_launch_gives_step : (match exec (.launch 0) launchSt with
    | .next t => ((t.part 0).job.st, (t.cur 15).s 1, (t.cur 15).phase)
    | _ => (.empty, 0, .off)) = (.running, 5, .running) := by decide +kernel
theorem test_step_ends : (match exec (.stepEnd 0) endSt with
    | .next t => ((t.part 0).job.st, t.cmds.length)
    | _ => (.empty, 9)) = (.stepPending, 0) := by decide +kernel
theorem test_halt_loses_step : (match exec (.jobHalt 5 0) (cmdIn ready0 5) with
    | .next t => ((t.part 0).job.st, (t.part 0).job.reason)
    | _ => (.empty, 0)) = (.halted, 4) := by decide +kernel
/-- A window that closes for command 0 of ring 5, a grant whose time is over. -/
def closing : State := (cmdIn ready0 (0x12 + 3 * 2 ^ 65)).setWindow 3 (some { win0 with closing := some (5, 0) })
def openWin : State := (cmdIn ready0 (0x12 + 3 * 2 ^ 65)).setWindow 3 (some win0)
def granted : State := (cmdIn ready0 0x31).modPart 0 fun x => { x with grant := some ⟨5, 0, 0, 1, []⟩ }
theorem wit_JobDataCommandsComplete : ((cmdIn ready0 0x10).cmdOf 5 0 0x10).isSome = true ∧
    (BitVec.ofNat 512 (0x10 + 2 ^ 96)).getLsbD 96 = true ∧ ((cmdIn ready0 0x11).cmdOf 5 0 0x11).isSome = true ∧
    (ready0.freeHandle).isSome = true ∧ (BitVec.ofNat 512 (0x11 + 2 ^ 64)).getLsbD 64 = true ∧ ready0.hasPath 7 = false ∧
    (openWin.window 3).isSome = true ∧ ((closing.window 3).bind (·.closing)) = some (5, 0) ∧ (closing.cmd 5 0).isSome = true ∧
    ((cmdIn ready0 0x20).cmdOf 5 0 0x20).isSome = true ∧ (granted.part 0).grant.isSome = true ∧ (granted.cmd 5 0).isSome = true := by
  decide +kernel
/-- A COPY of one granule to address 256, before and after the card has returned its data (R326, R473). -/
def copyIn (data : Option (List Byte)) : State :=
  { cmdIn ready0 (0x10 + 256 * 2 ^ 192) with hrd := ⟨1, [⟨0, 5, 0, true, 64, data⟩]⟩ }
theorem wit_host_copy : ((copyIn none).cmdOf 5 0 0x10).isSome = true ∧ (copyIn none).copyData 5 0 ≠ [] ∧
    (∀ q ∈ (copyIn (some (List.replicate 64 3))).copyData 5 0, q.data ≠ none) ∧
    (cmdIn ready0 (0x10 + 256 * 2 ^ 192)).copyData 5 0 = [] ∧ ready0.hostUp = true := by decide +kernel
theorem test_host_copy_reads_first : (match exec (.hostCopyToHbm 5 0 false) (cmdIn ready0 (0x10 + 256 * 2 ^ 192)) with
    | .next t => (t.hrd.reqs.map (·.bytes), t.cmds.length)
    | _ => ([], 0)) = ([64], 1) := by decide +kernel
theorem test_host_copy_to_hbm : (match exec (.hostCopyToHbm 5 0 true) (copyIn (some (List.replicate 64 3))) with
    | .next t => (mget zB t.hbm (2 ^ 31), mget zB t.hbm (2 ^ 31 + 63), mget zB t.hbm (2 ^ 31 + 64), cplStatus t)
    | _ => (0, 0, 1, [])) = (3, 3, 0, [csOk]) := by decide +kernel
theorem test_host_copy_from_hbm : (match exec (.hostCopyFromHbm 5 0) (hbm7 (cmdIn ready0 (0x10 + 2 ^ 96 + 0x40 * 2 ^ 128))) with
    | .next t => t.hostTx.head?
    | _ => none) = some (.hwr 0x40 7 64) := by decide +kernel
theorem test_window_open_takes_lowest_handle : (match exec (.windowOpen 5 0) (cmdIn ready0 (0x11 + 7 * 2 ^ 80 + 9 * 2 ^ 96 + 64 * 2 ^ 224)) with
    | .next t => (t.window 0).map fun w => (w.peer, w.key, w.size)
    | _ => none) = some (7, 9, 64) := by decide +kernel
theorem test_window_closes : (match exec (.windowClose 5 0) openWin, exec (.windowCloseComplete 3) closing with
    | .next t, .next u => ((t.window 3).map (·.closing), (u.window 3).isNone, cplStatus u)
    | _, _ => (none, false, [])) = (some (some (5, 0)), true, [csOk]) := by decide +kernel
theorem test_reference_without_path : (match exec (.remoteReferenceEnter 5 0) (cmdIn ready0 (0x11 + 2 ^ 64 + 7 * 2 ^ 80)) with
    | .next t => cplStatus t
    | _ => []) = [csLinkDown] := by decide +kernel
/-- A HINT_LOAD whose start has placed its window of 30 µs, 20 µs into the step that runs. -/
def hintSt : State := { ready0 with cmds := [⟨5, 0, 0, 0x20, 0, false,
  ready0.hintOf 0 (BitVec.ofNat 512 (0x20 + 1 * 2 ^ 64 + 20 * 2 ^ 96 + 30 * 2 ^ 128))⟩] }
theorem test_hint_is_recorded : (match exec (.hintLoad 5 0) hintSt with
    | .next t => t.hints.map fun h => (h.cls, h.offsetUs, h.durUs, h.start)
    | _ => []) = [(1, 20, 30, some 20000)] := by decide +kernel
theorem test_grant_ends : (match exec (.farrierGrantEnd 0) granted with
    | .next t => ((t.part 0).grant.isNone, cplStatus t)
    | _ => (false, [])) = (true, [csOk]) := by decide +kernel

/-! ### Witnesses: the block, the mesh and cluster ports -/

/-- Whether a route may write a scalar entry, as a test. -/
def canWrite (s : State) (route key : Nat) : Bool :=
  s.routeOpen route && match s.odGuard route false false (key / 256) (key % 256) with
    | .ok (some (_, 2)) => true
    | _ => false
theorem mayWrite_of {s : State} {route key : Nat} (h : canWrite s route key = true) : s.mayWrite route key := by
  unfold canWrite at h
  rw [Bool.and_eq_true] at h
  refine ⟨h.1, ?_⟩
  have h2 := h.2
  split at h2
  · exact ⟨_, by assumption⟩
  · cases h2
/-- A queue with one command that waits. -/
def queued : State := { ready0 with pending := [.stretchRaise 0 2] }
theorem wit_StepRunsFrontCommand : queued.pending = .stretchRaise 0 2 :: [] ∧ ready0.pending = [] := by decide +kernel
theorem wit_EveryStepKeepsCanonicalForm : State.reset.wf = true ∧ queued.wf = true ∧
    (match step queued with | .next t => t.pending.length | _ => 9) = 0 := by decide +kernel
theorem wit_RegisterWriteIsWhatReadFinds : queued.wf = true ∧ odAt odPortState 1 ≠ odAt odPortState 0 := by decide +kernel
/-- The head of a read for a channel of position `dst`; of the escape network; of a reserved code. -/
def head (dst : Nat) : BitVec 64 := BitVec.ofNat 64 (dst % 36 + dst / 36 * 2 ^ 6)
def headEsc (dst : Nat) : BitVec 64 := BitVec.ofNat 64 (dst % 36 + dst / 36 * 2 ^ 6 + 2 ^ 28)
def headBad (dst : Nat) : BitVec 64 := BitVec.ofNat 64 (dst % 36 + dst / 36 * 2 ^ 6 + 7 * 2 ^ 10)
/-- Bays whose aisle is down. -/
def aisle1 : State := ready0.modBay 1 fun x => { x with aisleDown := true }
def aisle5 : State := ready0.modBay 5 fun x => { x with aisleDown := true }
theorem wit_MeshRoutesHeads_heads : ready0.wf = true ∧ tagBad (headBad 1) = true ∧ tagBad (head 1) = false ∧
    ready0.tagAged (head 1) = false ∧ tagDst (head (sitePos 0)) = sitePos 0 ∧ tagDst (head 1) ≠ sitePos 0 ∧
    (head 1).getLsbD 28 = false ∧ (headEsc 1).getLsbD 28 = true ∧ tagBad (headEsc 1) = false ∧
    ready0.headOk (sitePos 0) (head 1) 0 4 = true ∧ ready0.headOk (sitePos 0) (head 1) 1 4 = false ∧
    ready0.routerStopped 0 = false ∧ (aisle1 : State).routerStopped 36 = true ∧
    (ready0.mesh.active.primary (sitePos 0) 1).isSome = true ∧ (ready0.mesh.active.escape (sitePos 0) 1 false).isSome = true ∧
    aisle1.routerStopped (posSite (crossPos 1 3 0)) = true ∧ ready0.routerStopped (posSite (crossPos 1 3 0)) = false ∧
    (ready0.cl 0).port = .opened := by decide +kernel
theorem wit_MeshRoutesHeads_taken : ready0.routerTakes 0 ∧ ready0.routerTakes 575 := by
  unfold State.routerTakes; decide +kernel
/-- The bay of the controller of stack 0 has left the tables. -/
def cutOff : State := { ready0 with mesh := { ready0.mesh with active := ⟨[stackSite 0 / 36], [], []⟩ } }
def headAx : BitVec 64 := head (sitePos (stackSite 0)) + 2 ^ 10
theorem wit_MeshRoutesHeads_unreached : cutOff.mesh.active.primary (sitePos 300) (sitePos (stackSite 0)) = none ∧
    tagDst headAx = sitePos (stackSite 0) ∧ tagDst headAx ≠ sitePos 300 ∧ fld headAx 29 2 = 0 ∧ fld headAx 10 3 = 1 ∧
    isController (tagDst headAx) = true ∧ tagBad headAx = false ∧ cutOff.tagAged headAx = false ∧
    cutOff.headOk (sitePos 300) headAx 0 4 = true ∧ cutOff.routerStopped 300 = false ∧
    (ready0.clk.dt / 1000 % 2048 + 2048 - fld (head 1 + 1000 * 2 ^ 35) 35 11) % 2048 = 1048 ∧
    ready0.tagAged (head 1 + 1000 * 2 ^ 35) = true ∧ tagBad (head 1 + 1000 * 2 ^ 35) = false := by decide +kernel
theorem test_head_is_answered_with_poison : (match exec (.routerHeadArrival 300 ⟨headAx, 0⟩ 4) cutOff with
    | .next t => t.mesh.hop
    | _ => none) = some .answerPoison := by decide +kernel
/-- Crossing 0 between bays 0 and 1, whose flit for bay 1 has failed three times; and the crossing fenced. -/
def failing0 (n : Nat) : State :=
  { ready0 with mesh := { ready0.mesh with queues := mset zQ [] (crossKey 0 1 0 0) ⟨[⟨head 9, 0, n, 0⟩], 1, 0, true, []⟩ } }
def fenced0 : State := ready0.modBay 0 fun x => { x with fenceE := [0] }
theorem wit_MeshRoutesHeads_crossings : crossingOk 0 1 3 = true ∧ crossingOk 0 1 4 = false ∧ crossingOk 0 2 8 = true ∧
    ready0.crossFenced 0 1 0 = false ∧ fenced0.crossFenced 0 1 0 = true ∧ crossingOk 1 3 0 = true ∧ crossName 1 3 0 = (0, 1, 0) ∧
    (baySide 1 3).getD 1 = 0 ∧ ((failing0 3).crossQ 0 1 0 0).flits = ⟨head 9, 0, 3, 0⟩ :: [] ∧ (ready0.bay 1).aisleDown = false ∧
    ready0.crossFenced 1 3 0 = false ∧ 4 ≤ 3 + 1 ∧ ¬ 4 ≤ 2 + 1 ∧ (failing0 2).recentReplays (0, 1, 0) = 0 ∧
    fenced0.crossTested (0, 1, 0) = true ∧ fenced0.mesh.joining = [] ∧
    fenced0.unitHard (unCrossing 0 1 0) = false ∧ wiresOk (fenced0.setWires (0, 1, 0) []).mesh.wires (0, 1, 0) = true := by
  decide +kernel
/-- A control word that holds the check of its flit, and one that does not (R353). -/
theorem wit_flit_checks (payload : BitVec 2048) (tag : BitVec 64) : ∃ good bad : BitVec 64,
    flitCheck payload tag good = good.extractLsb' 0 32 ∧ good.extractLsb' 32 20 = 0 ∧ good.extractLsb' 52 7 = 0 ∧
    good.extractLsb' 59 5 = 0 ∧
    flitCheck payload tag bad ≠ bad.extractLsb' 0 32 := by
  have n (c : BitVec 32) : (0#32 ++ c).toNat = c.toNat := by
    rw [show (0#32 ++ c).toNat = _ from BitVec.toNat_append ..]; simp
  have hi (c : BitVec 32) (k : Nat) : (0#32 ++ c).extractLsb' 32 k = 0 := by
    apply BitVec.eq_of_toNat_eq
    rw [BitVec.extractLsb'_toNat, n, Nat.shiftRight_eq_div_pow]
    have := c.isLt
    rw [Nat.div_eq_of_lt this]; simp
  have lo (c : BitVec 32) : (0#32 ++ c).extractLsb' 0 32 = c := by
    apply BitVec.eq_of_toNat_eq
    rw [BitVec.extractLsb'_toNat, n]; simpa using c.isLt
  have e (c : BitVec 32) : flitCheck payload tag (0#32 ++ c) = flitCheck payload tag 0 := by
    unfold flitCheck fld; rw [show (0#32 ++ c).extractLsb' 32 32 = 0#32 from hi c 32]; rfl
  have far (c : BitVec 32) (j k : Nat) : (0#32 ++ c).extractLsb' (32 + j) k = 0 := by
    apply BitVec.eq_of_toNat_eq
    rw [BitVec.extractLsb'_toNat, n, Nat.shiftRight_eq_div_pow, Nat.pow_add, ← Nat.div_div_eq_div_mul]
    rw [Nat.div_eq_of_lt c.isLt]; simp
  refine ⟨0#32 ++ flitCheck payload tag 0, 0#32 ++ (~~~ flitCheck payload tag 0), ?_, ?_, ?_, ?_, ?_⟩
  · rw [e, lo]
  · exact hi _ 20
  · exact far _ 20 7
  · exact far _ 27 5
  · rw [e, lo]; intro h
    have := congrArg (·.getLsbD 0) h
    simp at this
/-- A group with three failed wires of its 16 and a group with two, which its spare wires mend (R348, R349). -/
def wires (n : Nat) : List WireFail := (List.range n).map fun i => ⟨0, 1, 0, true, 0, 5, i⟩
theorem test_wire_groups : wiresOk (wires 2) (0, 1, 0) = true ∧ wiresOk (wires 3) (0, 1, 0) = false ∧ isBridge 0 1 = false ∧
    isBridge 1 1 = true ∧ spareWires (wires 2) (0, 1, 0) = 2 := by decide +kernel
theorem test_crossing_joins_at_the_next_switch : (match exec (.crossingRejoin 0 1 0 []) fenced0 with
    | .next t => (t.crossFenced 0 1 0, t.mesh.joining, match exec .routeTableSwitch t with
        | .next u => (u.crossFenced 0 1 0, u.od odMeshRouteEpoch) | _ => (true, 0))
    | _ => (false, [], true, 0)) = (true, [(0, 1, 0)], false, 1) := by decide +kernel
theorem wit_MeshRoutesHeads_graph : aisle5.graphChange.isSome = true ∧ ready0.graphChange = none ∧ aisle5.yardActs = true ∧
    ({ ready0 with start := { ready0.start with acting := false } } : State).yardActs = false ∧
    (aisle5.bay 5).aisleDown = true ∧ (ready0.cl 575).routerFaulty = false ∧
    ({ fenced0 with mesh := { fenced0.mesh with joining := [(0, 1, 0)] } } : State).graphChange.isSome = true := by
  decide +kernel
/-- A head at the router of bay 0 that faces bay 1 waits for the crossing. -/
def waiting : State := { ready0 with mesh := { ready0.mesh with waits := [⟨8, 1, head 9, 0, 1, false, false⟩] } }
theorem wit_MeshRoutesHeads_escape : (ready0.mesh.active.primary (sitePos 0) (tagDst (head 1))) = some 1 ∧
    (ready0.mesh.active.escape (sitePos 0) (tagDst (head 1)) false).isSome = true ∧
    ready0.linkOpen (sitePos 0) 1 = true ∧ leavesBay (sitePos 0) 1 = false ∧ aisle1.linkOpen (sitePos 8) 1 = false ∧
    leavesBay (sitePos 8) 1 = true ∧ waiting.mesh.waits.any (waitsAt (sitePos 8) (head 9) 0) = true ∧
    (waiting.mesh.active.primary (sitePos 8) (tagDst (head 9))) = some 1 ∧
    (waiting.mesh.active.escape (sitePos 8) (tagDst (head 9)) false).isSome = true ∧
    (ready0.waitPort 1 4 (head 1) 0).mesh.waits.any (waitsAt (sitePos 1) (head 1) 0) = true ∧ tagDst (head 1) = sitePos 1 := by
  decide +kernel
/-- A request of source port 0, number 7, for site 1 of bay 0 from partition 0: fresh, waiting to retry, resent three times. -/
def reqs (r : Nat) (us : Nat) (w : Bool) (d : Nat) : State :=
  { ready0 with mesh := { ready0.mesh with reqs := [⟨0, 7, 0, 1, 0, r, us, w, 0⟩] }, clk := { ready0.clk with dt := d } }
def head7 : BitVec 64 := head 1 + 7 * 2 ^ 47
/-- A cluster port. -/
def port (s : State) (p : PortSt) : State := s.modCl 1 fun x => { x with port := p }
theorem wit_ClusterPortsAnswerRequests : (reqs 3 64 false 1000000).wf = true ∧
    ((port ready0 .opened).cl 1).port = .opened ∧ ((port ready0 .hold).cl 1).port = .hold ∧
    ((port ready0 .park).cl 1).port = .park ∧ ((port ready0 .reset).cl 1).port = .reset ∧
    ((port ready0 .dark).cl 1).port = .dark ∧ tagBad head7 = false ∧ fld head7 29 2 = 0 ∧ fld head7 10 3 = 0 ∧
    tagDst head7 = sitePos 1 ∧ tagPort head7 = 0 ∧ tagNum head7 0 = 7 ∧ ready0.routerStopped 1 = false ∧
    (ready0.keepReq (endPort 1) 0 7 0).isDup (endPort 1) 0 7 = true ∧ ready0.isDup (endPort 1) 0 7 = false ∧
    (reqs 0 1 true 1000).mesh.reqs.any (fun q => q.num == 7 && q.retryWait && decide (q.sentDt + 1000 * q.retryUs ≤ 1000)) = true ∧
    (reqs 0 1 true 999).mesh.reqs.all (fun q => decide (999 < q.sentDt + 1000 * q.retryUs)) = true ∧
    (reqs 2 1 false 1000000).reqOf 0 7 = some ⟨0, 7, 0, 1, 0, 2, 1, false, 0⟩ ∧
    (reqs 3 1 false 1000000).reqOf 0 7 = some ⟨0, 7, 0, 1, 0, 3, 1, false, 0⟩ ∧
    (reqs 3 1 true 0).reqOf 0 7 = some ⟨0, 7, 0, 1, 0, 3, 1, true, 0⟩ ∧
    ready0.reqOf 0 7 = none ∧ ((reqs 3 1 false 0).part 0).job.st = .running := by decide +kernel
theorem test_retry_doubles_to_64 : (match exec (.clusterPortRequest 1 ⟨head7, 0, true⟩) (port (reqs 0 32 false 0) .hold),
      exec (.clusterPortRequest 1 ⟨head7, 0, true⟩) (port (reqs 0 64 false 0) .hold) with
    | .next t, .next u => (t.mesh.reqs.map (·.retryUs), u.mesh.reqs.map (·.retryUs))
    | _, _ => ([], [])) = ([64], [64]) := by decide +kernel
theorem test_third_resend_is_the_last : (match exec (.meshRequestTimeout ⟨0, 7⟩) (reqs 2 1 false 1000000),
      exec (.meshRequestTimeout ⟨0, 7⟩) (reqs 3 1 false 1000000) with
    | .next t, .next u => (t.mesh.reqs.map (·.resends), u.mesh.reqs.length, (u.part 0).job.st)
    | _, _ => ([], 9, .empty)) = ([3], 0, .halted) := by decide +kernel
/-! ### Witnesses: references, device time and operating points -/

/-- Device time 0x10000 ns past a time message, on time; a step request while no job is on its way. -/
def timed (dt : Nat) : State :=
  { ready0 with fabric := { ready0.fabric with lastTimeDt := some 0 }, clk := { ready0.clk with dt := dt } }
def stepping (st : JobState) : State := (jobIn (timed 100) st).odSet odDtStepReq 1
theorem wit_ReferencesAndFabricTime : ready0.wf = true ∧ (ready0.clk.locked = true) ∧
    ready0.odBit odBeatNodesDown 19 = false ∧ (ready0.cl 0).fenced = false ∧ (ready0.cl 0).power ≠ .off ∧
    (stepping .loaded).od odDtStepReq = 1 ∧ (stepping .loaded).fabric.lastTimeDt.isSome = true ∧
    (List.range 32).all (fun p => ((stepping .loaded).part p).job.st != .armed &&
      ((stepping .loaded).part p).job.st != .running) = true ∧
    (ready0.odSet odRefclkSelect 2).wf = true ∧
    ((stepping .running).part 0).job.st = .running ∧ (timed 49999999).clk.dt < 0 + 50000000 ∧
    (timed 50000000).fabric.lastTimeDt = some 0 := by decide +kernel
theorem wit_ReferencesAndFabricTime_writes : ready0.mayWrite 0 odRefclkSelect ∧ ready0.mayWrite 0 odBeatSpread ∧
    ready0.mayWrite 0 odDtStepReq :=
  ⟨mayWrite_of (by decide +kernel), mayWrite_of (by decide +kernel), mayWrite_of (by decide +kernel)⟩
theorem test_lost_reference_gives_the_other : (match exec (.referenceLost false) { ready0 with
      clk := { ready0.clk with goodA := true, goodB := true } } with
    | .next t => (t.clk.goodA, t.clk.selB, t.clk.holdover)
    | _ => (true, false, true)) = (false, true, false) := by decide +kernel
theorem test_refclk_select_of_3_is_out_of_range : (match exec (.refclkSelectWrite 0 3) ready0,
      exec (.refclkSelectWrite 0 2) ready0 with
    | .next t, .next u => (t.dict.ans.map (·.status), u.od odRefclkSelect)
    | _, _ => (none, 0)) = (some odRange, 2) := by decide +kernel
/-- Site 0 with a ceiling, with a change under way, at a stretch level, with a persistent request to 100 ns. -/
def ceil (n : Nat) : State := ready0.odSet (odAt odPartPointCeil 0) n
def at0 (f : Cluster → Cluster) : State := ready0.modCl 0 f
/-- An upward change of site 0 while its rail's setpoint stands at `mv`; a change during which a signal has arrived. -/
def rail (mv : Nat) (up : Bool) : State :=
  (at0 fun x => { x with change := some (0, up) }).odSet (odAt odBayRailSetpointMv 0) mv
def landed : State :=
  { at0 fun x => { x with change := some (0, false) } with landing := [(0, .signal ⟨4, 0, 3, 2, ⟨0, 0⟩⟩)] }
/-- A bay rail asks for 700 to 950 mV, whatever the voltages of the points are (R409). -/
theorem railMv_range (s : State) (b : Nat) : 700 ≤ s.railMv b ∧ s.railMv b ≤ 950 := by
  unfold State.railMv; dsimp only
  split <;> omega
theorem wit_PointsStretchAndTimeWords_rails :
    (rail 0 true).od (odAt odBayRailSetpointMv 0) < (rail 0 true).railMv (0 / 36) ∧
    ¬ (rail 2000 true).od (odAt odBayRailSetpointMv 0) < (rail 2000 true).railMv (0 / 36) := by
  have h1 : (rail 0 true).od (odAt odBayRailSetpointMv 0) = 0 := by decide +kernel
  have h2 : (rail 2000 true).od (odAt odBayRailSetpointMv 0) = 2000 := by decide +kernel
  have l := railMv_range (rail 0 true) (0 / 36)
  have u := railMv_range (rail 2000 true) (0 / 36)
  omega
theorem wit_PointsStretchAndTimeWords_lands : (landed.cl 0).change = some (0, false) ∧
    landed.landing = (0, .signal ⟨4, 16 * 0, 3, 2, ⟨0, 0⟩⟩) :: [] := by decide +kernel
theorem wit_PointsStretchAndTimeWords : ((ceil 3).cl 0).power = .on ∧ ((ceil 3).cl 0).change = none ∧
    (ceil 3).desired 0 = 3 ∧ ((ceil 3).cl 0).point = 0 ∧ (ceil 3).launchHold 0 = false ∧ (ceil 3).hintHolds 0 = false ∧
    ((at0 fun x => { x with change := some (3, false) }).cl 0).change = some (3, false) ∧
    ((rail 0 true).cl 0).change = some (0, true) ∧
    ready0.cclk 0 = true ∧ (ready0.cl 0).stretch < 3 ∧ ((at0 fun x => { x with stretch := 3 }).cl 0).stretch = 3 ∧
    (at0 fun x => { x with stretch := 3 }).cclk 0 = true ∧
    ((at0 fun x => { x with persistReq := some (1, 0) }).cl 0).persistReq = some (1, 0) ∧
    ((at0 fun x => { x with persistReq := some (1, 1) }).cl 0).persistReq = some (1, 1) ∧
    { ready0 with clk := { ready0.clk with locked := false } }.clk.locked = false := by decide +kernel
/-- Site 0 counts, its counter `e` units behind the word of 1,000 ns that follows device time 0. -/
def behind (e : Int) : State := at0 fun x => { x with counted := true, cnt := (e : Int).toNat }
theorem wit_PointsStretchAndTimeWords_words : ready0.clk.locked = true ∧ ready0.cclk 0 = true ∧ ready0.inRun 0 = false ∧
    (ready0.cl 0).counted = false ∧ ((behind 0).cl 0).counted = true ∧ ((behind 0).cl 0).cntStop = false ∧
    ready0.cclk 600 = false ∧ (let x := (at0 fun x => { x with counted := true, cntStop := true, cnt := 2 ^ 30 }).cl 0
      x.counted = true ∧ x.cntStop = true ∧ 2 ^ 24 * (0 + x.ran + 63) < x.cnt ∧ x.cnt ≤ 2 ^ 24 * (0 + x.ran + 64)) ∧
    { ready0 with firm := { ready0.firm with runs := [⟨false, 0, false, 0, ImgHdr.basePkg⟩] } }.inRun 0 = true := by
  decide +kernel
/-- Site 0 at level 3 for `n` cycles, in the last ns before a time word: the free moment is that ns. -/
def edge (n : Nat) : State :=
  let s := at0 fun x => { x with stretch := 3, levelCyc := n, ran := 999 }
  { s with clk := { s.clk with sub := 999 } }
theorem edge_moment (s : State) (h : s.leftNs = 1) : s.runFree 0 = s.useFree.runTo 0 := by
  unfold State.runFree
  rw [h, show max 1 1 = 1 from rfl, Nat.mod_one]; rfl
/-- Eight cycles at the level have passed; or the time word comes before they have. -/
theorem wit_PointsStretchAndTimeWords_falls : ((edge 8).runFree 0).levelNs 0 = 0 ∧
    ((edge 0).runFree 0).leftNs ≤ ((edge 0).runFree 0).levelNs 0 ∧ ((edge 0).runFree 0).levelNs 0 ≠ 0 := by
  rw [edge_moment _ (by decide +kernel), edge_moment _ (by decide +kernel)]; decide +kernel
/-- Site 0 once it has come to that moment. -/
def edged : State := (edge 8).useFree.runTo 0
theorem edge_completes : (edge 8).runLevel 0 = (({ edged with clk := { edged.clk with sub := edged.clk.sub } } : State).runTo 0, true) := by
  unfold State.runLevel; dsimp only
  rw [edge_moment _ (by decide +kernel), ← edged, show edged.levelNs 0 = 0 by decide +kernel]
  simp
theorem test_stretch_level_falls_by_one : (match exec (.stretchFall 0) (edge 8) with
    | .next t => (t.cl 0).stretch
    | _ => 9) = 2 := by
  rw [show exec (.stretchFall 0) (edge 8) = execStretchFall 0 (edge 8) from rfl]
  unfold execStretchFall
  rw [if_pos (by decide +kernel), edge_completes]
  decide +kernel
/-- The word of 1,000 ns passes its CRC-8, and with one bit wrong it does not (R395). -/
theorem wit_time_words : (let w := timeWord 1000 (1000 * 2064384 / 1000000) 0 false false
    wordGood w = true ∧ wordGood (w ^^^ 1) = false ∧ wordGood (w ^^^ 1 <<< 95) = false ∧ fld w 0 64 = 1000) := by decide +kernel

/-! ### Witnesses: power and heat -/

/-- Device time `d` in a state; bay 0's sequencer at a stage with a failing time; a bay that waits for a site. -/
def atDt (s : State) (d : Nat) : State := { s with clk := { s.clk with dt := d } }
def bay0 (f : Bay → Bay) : State := ready0.modBay 0 f
def seqAt (q : PowerSeq) : State := bay0 fun x => { x with seq := some q }
/-- A hint of partition 0 whose window begins at 100 ns and lasts 50 µs. -/
def hint0 (on : Bool) (d : Nat) : State := { atDt ready0 d with hints := [⟨0, 3, 0, 50, some 100, none, on⟩] }
theorem wit_PowerIsSequencedAndCapped_park : ready0.odBit (odSite odLdoSlicesFailed 0) 23 = false ∧
    (ready0.cl 0).owner.isSome = true ∧ (ready0.cl 0).port = .opened ∧ (ready0.cl 0).change = none ∧ (ready0.cl 0).power = .on ∧
    (jobIn (atDt ready0 1000000) .loaded).busySite 0 = false ∧
    ((jobIn (atDt ready0 1000000) .loaded).cl 0).idleSince + 1000 * (jobIn ready0 .loaded).od odParkIdleUs = 1000000 ∧
    ((at0 fun x => { x with power := .parked, waking := true, port := .park }).cl 0).power = .parked := by decide +kernel
theorem wit_PowerIsSequencedAndCapped_stage :
    ((bay0 fun x => { x with want := [3] }).bay 0).nextSeq = some ⟨3, 0, 0, false, none, false⟩ ∧
    (bay0 fun x => { x with want := [3] }).bayUp 0 = true ∧ ((seqAt ⟨3, 7, 0, true, none, false⟩).bay 0).nextSeq =
      some ⟨3, 7, 0, true, none, false⟩ ∧ (hint0 true 200).hintDefers 0 = true ∧ ready0.hintDefers 0 = false ∧
    ((hint0 true 200).modBay 0 fun x => { x with want := [3] }).bayUp 0 = true ∧
    ready0.od (odAt odBayCurrentLimitA 0) < ready0.od (odAt odBayCurrentLimitA 0) + 24 := by decide +kernel
theorem wit_PowerIsSequencedAndCapped_slow :
    ((seqAt ⟨3, 2, 200000, false, none, false⟩).bay 0).seq = some ⟨3, 2, 200000, false, none, false⟩ ∧
    ((seqAt ⟨3, 2, 199750, false, none, false⟩).bay 0).seq = some ⟨3, 2, 199750, false, none, false⟩ ∧
    (seqAt ⟨3, 0, 0, false, some 0, false⟩).hintDefers 0 = false ∧
    ((hint0 true 9999999).modBay 0 fun x => { x with seq := some ⟨3, 0, 0, false, some 0, false⟩ }).hintDefers 0 = true ∧
    ((bay0 fun x => { x with assist := [1, 2], assistUntil := 1 }).bay 0).assistUntil = 1 ∧
    (ready0.bay 0).assistUntil ≤ ready0.clk.dt ∧ ((seqAt ⟨3, 8, 0, false, none, false⟩).bay (3 / 36)).seq.isSome = true := by
  decide +kernel
theorem wit_PowerIsSequencedAndCapped_loops : ready0.up = true ∧ (ready0.groom 0).down = false ∧
    ready0.od (odAt odBayLimitEff 0) < ready0.od (odAt odBayLimitEff 0) + 1 ∧ (ready0.bay 0).fastActAt = none ∧
    ([0, 1] : List Nat).Nodup ∧ ready0.cclk 0 = true ∧ (ready0.cl 0).point < 5 ∧
    ((bay0 fun x => { x with fastActAt := some 0 }).bay 0).fastActAt = some 0 ∧
    ((atDt ready0 99999).modBay 0 fun x => { x with fastRelAt := 1 }).clk.dt = 99999 ∧
    (List.range 16).foldl (fun a b => a + ([] : List Nat).getD b 0 * ready0.od (odAt odBayRailSetpointMv b)) (1000 * 18000) = 18000000 ∧
    ready0.shareHeld 0 = false ∧ (hint0 true 200).shareHeld 0 = true ∧ ready0.yardActs = true ∧
    (ready0.part 0).job.st = .running ∧ (ready0.part 0).job.loadDt ≤ ready0.clk.loopDt := by decide +kernel
/-- Where an LSP access costs energy, activity makes the factor a quotient; the factor of some quotients as an F32 (R436). -/
theorem wit_PowerIsSequencedAndCapped_energy (h : Config.energyCoef 0 ≠ 0) : activityEnergy ⟨[], 1, 0, 0, 0, 0⟩ ≠ 0 := by
  simpa [activityEnergy] using h
theorem test_energy_factor : calFactor 1 1 = 0x3F800000 ∧ calFactor 3 4 = 0x3F400000 ∧ calFactor 3 2 = 0x3FC00000 ∧
    calFactor 1 3 = 0x3F000000 ∧ calFactor 5 2 = 0x40000000 ∧ calScale 0x3F800000 = 2 ^ 24 ∧
    calScale 0x3F400000 = 3 * 2 ^ 22 ∧ calScale 0x40000000 = 2 ^ 25 := by decide +kernel
/-- Two running sites of a bay, and the currents that put the second first; of equal ones the lower comes first. -/
theorem test_highest_current_first :
    let s := ready0.modCl 1 fun x => { x with power := .on }
    s.topSites 0 [(1, 5), (0, 3)] = [1, 0] ∧ s.topSites 0 [(1, 5), (0, 5)] = [0, 1] := by decide +kernel
theorem wit_PowerIsSequencedAndCapped_hints : (hint0 false 99).hints[0]? = some ⟨0, 3, 0, 50, some 100, none, false⟩ ∧
    (hint0 false 99).clk.dt < 100 ∧ 100 ≤ (hint0 false 100).clk.dt ∧ (hint0 true 50099).clk.dt < 100 + 1000 * 50 ∧
    100 + 1000 * 50 ≤ (hint0 true 50100).clk.dt ∧ (hint0 false 100).clk.dt < 100 + 1000 * 50 ∧
    (hint0 false 50100).hints[0]? = some ⟨0, 3, 0, 50, some 100, none, false⟩ := by decide +kernel
theorem test_window_that_is_over_does_not_start : (match exec (.hintWindowStart 0) (hint0 false 50100) with
    | .next t => t.hints.map (·.active)
    | _ => []) = [false] := by decide +kernel
theorem test_window_of_hint_ends_at_its_time : (match exec (.hintWindowEnd 0) (hint0 true 50099) with
    | .next t => t.hints.length
    | _ => 9) = 1 := by decide +kernel
theorem test_slow_mode_after_200_us : (match exec (.inrushSlowMode 0 []) (seqAt ⟨3, 2, 199750, false, none, false⟩),
      exec (.inrushSlowMode 0 []) (seqAt ⟨3, 2, 200000, false, none, false⟩) with
    | .next t, .next u => ((t.bay 0).seq.map (·.slow), (u.bay 0).seq.map (·.slow))
    | _, _ => (none, none)) = (some false, some true) := by decide +kernel
theorem wit_RailsFeedsAndHeatAct : (ready0.bay 15).railLost = false ∧ (ready0.bay 0).aisleDown = false ∧
    ready0.inBay 0 0 = true ∧ (ready0.part 0).job.st = .running ∧ stackBay (stackBay 0) < 16 ∧ ready0.start.pwrgood = true ∧
    ready0.thermTrip = false ∧ (ready0.bay 0).thermOff = false ∧ (ready0.cl 0).power = .on ∧ (ready0.cl 0).heatAt = 0 ∧
    ((at0 fun x => { x with power := .paused, pauseAt := some 0 }).cl 0).pauseAt.isSome = true ∧
    (atDt (at0 fun x => { x with heatReq := 1, liftAt := 1 }) 10000000).siteTemp 0 ≤ 95 ∧
    95 < (ready0.odSet (odSite odClusterTempC 0) 96).siteTemp 0 ∧
    (atDt (at0 fun x => { x with power := .paused, pauseAt := some 0 }) 50000001).clk.dt = 50000001 ∧
    mget zF ready0.health.halved 0 = false ∧
    mget zF { ready0 with health := { ready0.health with halved := mset zF [] 0 true } }.health.halved 0 = true := by
  decide +kernel
theorem wit_RailsFeedsAndHeatAct_writes : ready0.mayWrite 0 odBayReenable ∧
    (minVDtKey (odKey 0x2010 6)).isSome = true ∧ (minVDtKey (odKey 0x210F 36)).isSome = true ∧
    minVDtKey (odKey 0x2020 6) = none ∧ ready0.mayWrite 0 (odKey 0x2010 6) :=
  ⟨mayWrite_of (by decide +kernel), by decide, by decide, by decide, mayWrite_of (by decide +kernel)⟩
theorem test_refresh_doubles_at_85 : (match exec (.hbmTemperatureRead 0 84) ready0, exec (.hbmTemperatureRead 0 85) ready0 with
    | .next t, .next u => (t.od (odAt odRefreshDoubled 0), u.od (odAt odRefreshDoubled 0))
    | _, _ => (9, 9)) = (0, 1) := by decide +kernel
/-- The converter group of bay 3 has failed two reads in a row: a third makes it count as off (R584). -/
def silent2 : State := { ready0 with start := { ready0.start with pmbMiss := mset zN [] (pmbKey 0 0x43) 2 } }
theorem wit_power_devices : ready0.fuseBad (unSlice 0 23) = false ∧ silent2.pmbOff (pmbKey 0 0x43) = true ∧
    ready0.pmbOff (pmbKey 0 0x43) = false ∧ ((3 : Nat) < 16 ∧ (0, 0x40 + 3) ∈ [((0 : Nat), (0x43 : Nat))]) ∧
    (at0 fun x => { x with power := .parked, waking := true, port := .park }).inRun 0 = false ∧
    ((seqAt ⟨0, 8, 0, false, none, false⟩).cl 0).fenced = false := by decide +kernel

/-! ### Witnesses: links and the fabric -/

/-- Link 0 is UP in a state; a DATA flit of a number; a link by its fields. -/
def onLink (s : State) : State := s.odSet (odAt odPortState 0) 2
/-- The bytes of a number whose part above byte m is known. -/
theorem leBytes_append (m n x : Nat) : leBytes (m + n) x = leBytes m x ++ leBytes n (x / 256 ^ m) := by
  induction m generalizing x with
  | zero => simp [leBytes]
  | succ m ih => rw [Nat.succ_add, leBytes, leBytes, ih, Nat.div_div_eq_div_mul, Nat.pow_succ']; rfl
theorem leBytes_low (m a b : Nat) : leBytes m (a + 256 ^ m * b) = leBytes m a := by
  induction m generalizing a with
  | zero => rfl
  | succ m ih =>
    have h : (a + 256 ^ (m + 1) * b) / 256 = a / 256 + 256 ^ m * b := by
      rw [Nat.pow_succ', Nat.mul_assoc, Nat.add_mul_div_left _ _ (by decide)]
    have h' : BitVec.ofNat 8 (a + 256 ^ (m + 1) * b) = BitVec.ofNat 8 a := by
      apply BitVec.eq_of_toNat_eq
      simp only [BitVec.toNat_ofNat, Nat.pow_succ', Nat.mul_assoc]
      exact Nat.add_mul_mod_self_left _ _ _
    rw [leBytes, leBytes, h, h', ih]
theorem leBytes_length (m x : Nat) : (leBytes m x).length = m := by
  induction m generalizing x with
  | zero => rfl
  | succ m ih => rw [leBytes, List.length_cons, ih]
/-- A flit of given first 252 bytes that holds the CRC-32 of them (R446). -/
def sealFlit (x : BitVec 2016) : BitVec 2048 := crc32 (leBytes 252 x.toNat) ++ x
theorem sealFlit_toNat (x : BitVec 2016) :
    (sealFlit x).toNat = x.toNat + 256 ^ 252 * (crc32 (leBytes 252 x.toNat)).toNat := by
  rw [show (256 : Nat) ^ 252 = 2 ^ 2016 from by rw [show (256 : Nat) = 2 ^ 8 from rfl, ← Nat.pow_mul], sealFlit,
    show (crc32 (leBytes 252 x.toNat) ++ x).toNat = _ from BitVec.toNat_append .., Nat.shiftLeft_eq, Nat.mul_comm,
    ← Nat.two_pow_add_eq_or_of_lt x.isLt, Nat.add_comm]
theorem sealFlit_bytes (x : BitVec 2016) :
    leBytes 256 (sealFlit x).toNat = leBytes 252 x.toNat ++ leBytes 4 (crc32 (leBytes 252 x.toNat)).toNat := by
  rw [sealFlit_toNat, show (256 : Nat) = 252 + 4 from rfl, leBytes_append, leBytes_low, Nat.add_mul_div_left _ _ (by decide)]
  congr 2
  rw [Nat.div_eq_of_lt]; · simp
  exact Nat.lt_of_lt_of_eq x.isLt (by rw [show (252 + 4 : Nat) = 2 ^ 8 from rfl, ← Nat.pow_mul])
theorem sealFlit_good (x : BitVec 2016) : (flitOf (sealFlit x)).crcGood = true := by
  have l := leBytes_length 252 x.toNat
  simp only [flitOf, sealFlit_bytes]
  rw [List.take_left' l, List.drop_left' l]; simp
theorem sealFlit_data (x : BitVec 2016) :
    ((leBytes 256 (sealFlit x).toNat).drop 8).take 244 = (leBytes 252 x.toNat).drop 8 := by
  have l := leBytes_length 252 x.toNat
  rw [sealFlit_bytes, List.drop_append_of_le_length (by omega), List.take_left' (by simp [l])]
theorem sealFlit_fld (x : BitVec 2016) (a n : Nat) (h : a + n ≤ 2016) : fld (sealFlit x) a n = fld x a n := by
  refine congrArg BitVec.toNat (BitVec.eq_of_getLsbD_eq fun i hi => ?_)
  have : a + i < 2016 := by omega
  simp only [BitVec.getLsbD_extractLsb', sealFlit]
  rw [show (crc32 (leBytes 252 x.toNat) ++ x).getLsbD (a + i) = _ from BitVec.getLsbD_append ..]; simp [this]
theorem sealFlit_bit (x : BitVec 2016) (a : Nat) (h : a < 2016) : (sealFlit x).getLsbD a = x.getLsbD a := by
  rw [sealFlit, show (crc32 (leBytes 252 x.toNat) ++ x).getLsbD a = _ from BitVec.getLsbD_append ..]; simp [h]
/-- The header fields of such a flit (R446). -/
theorem sealFlit_flit (x : BitVec 2016) : flitOf (sealFlit x) = ⟨true, fld x 0 2, fld x 2 2, x.getLsbD 4, x.getLsbD 5,
    x.getLsbD 6, fld x 7 12, fld x 19 12, x.getLsbD 31, fld x 32 2, x.getLsbD 34, fld x 35 10, fld x 45 8, fld x 53 11,
    (leBytes 252 x.toNat).drop 8⟩ := by
  have g := sealFlit_good x
  simp only [flitOf] at g
  simp (discharger := omega) only [flitOf, g, sealFlit_fld, sealFlit_bit, sealFlit_data]
def link0 (f : Link → Link) : State := (onLink ready0).modLink 0 f
theorem wit_LinksCarryFlits : (onLink ready0).wf = true ∧ ready0.linkUp 0 = false ∧ (onLink ready0).linkUp 0 = true ∧
    ((onLink ready0).link 0).nakSent = false ∧ ((onLink ready0).link 0).rxNext = 0 := by decide +kernel
/-- DATA flits of the numbers 0 and 1, a flit of the reserved FK code and one that is no DATA flit; each with its CRC. -/
theorem wit_LinksCarryFlits_flits :
    (let f := flitOf (sealFlit 1); flitBad f = false ∧ f.fk = 1 ∧ f.seq = 0) ∧
    (let f := flitOf (sealFlit 129); flitBad f = false ∧ f.fk = 1 ∧ f.seq = 1) ∧
    flitBad (flitOf (sealFlit 3)) = true ∧ (let f := flitOf (sealFlit 0); flitBad f = false ∧ f.fk ≠ 1) := by
  simp only [sealFlit_flit]; decide +kernel
/-- A packet of 48 bytes in one flit: a WDONE, and one with a reserved field that is not zero; a pair header with the pattern
and count 5. -/
theorem wit_LinksCarryFlits_packets (typ : Nat) (h : typ = 4 ∨ typ = 36) :
    let f := flitOf (sealFlit (BitVec.ofNat 2016 (1 + 2 ^ 5 + 2 ^ 6 + 47 * 2 ^ 45 + typ * 2 ^ 64)))
    flitBad f = false ∧ f.fk = 1 ∧ f.seq = 0 ∧ f.sop = true ∧ f.eop = true ∧
    headerOk (BitVec.ofNat 384 (ofLe ((f.data.take (f.vlen + 1)).take 48))) = decide (typ = 4) := by
  rcases h with rfl | rfl <;> (simp only [sealFlit_flit]; decide +kernel)
theorem wit_LinksCarryFlits_pairs : (let h : BitVec 40 := 0x5A3C960005
    fld h 16 24 = 0x5A3C96 ∧ h.extractLsb' 0 16 = 5#16 ∧ fld (0 : BitVec 40) 16 24 ≠ 0x5A3C96) ∧
    ((5#16 : BitVec 16) - 5#16).toNat < 32768 ∧ 32768 ≤ ((5#16 : BitVec 16) - 6#16).toNat ∧
    ((link0 fun x => { x with swap := some 5 }).link 0).swap = some 5 := by decide +kernel
/-- The DATA flit of number 5, sent `n` times. -/
def tx (n : Nat) : TxFlit := ⟨5, n, 2, true, true, [1]⟩
theorem wit_LinksCarryFlits_replay : ((onLink ready0).link 0).nakIn = false ∧ ((onLink ready0).link 0).replay = [] ∧
    ((link0 fun x => { x with nakIn := true, replay := [tx 8] }).link 0).replay = [tx 8] ∧
    ((link0 fun x => { x with nakIn := true, replay := [tx 7] }).link 0).replay = [tx 7] ∧
    (atDt (link0 fun x => { x with replay := [tx 7] }) 5000).clk.dt = 5000 ∧
    ((onLink ready0).link 0).retraining = false ∧ ((link0 fun x => { x with retraining := true }).link 0).retraining = true ∧
    (link0 fun x => { x with nakIn := true, replay := [tx 7] }).linkUp 0 = true := by decide +kernel
theorem wit_LinksCarryFlits_lanes : ready0.up = true ∧ (ready0.link 0).enabled = true ∧ ready0.od (odAt odPortState 0) = 0 ∧
    linkWidth 0 0x0F = 4 ∧ linkWidth 0 0x07 = 0 ∧ linkWidth 30 0x03 = 2 ∧ ((link0 fun x => { x with enabled := false }).link 0).enabled = false ∧
    7 < linkLanes 0 ∧ (onLink ready0).odBit (odAt odLanesGood 0) 7 = false ∧
    ((onLink ready0).odSet (odAt odLanesGood 0) 0xFF).odBit (odAt odLanesGood 0) 7 = true ∧
    (onLink ready0).laneBad4 0 7 = false ∧ (link0 fun x => { x with badLanes := [(7, [0, 0, 0, 0])] }).laneBad4 0 7 = true ∧
    (link0 fun x => { x with badLanes := [(7, [0, 0, 0, 86400000000000])] }).laneBad4 0 7 = false ∧
    (link0 fun x => { x with laneErr := [(7, 0, 11201)] }).laneOver 0 7 = true ∧
    (link0 fun x => { x with laneErr := [(7, 0, 11200)] }).laneOver 0 7 = false ∧
    (onLink ready0).od (odAt odPortWidth 0) < linkWidth 0 0xFF ∧
    linkWidth 0 (ready0.lanesFit 0 0x0F) = 4 ∧ linkWidth 0 (ready0.lanesFit 0 0x07) = 0 ∧ ready0.fuseBad (unLane 0 7) = false ∧
    ready0.studOf (unLane 0 7) = none ∧ ((ready0.studHard (unLane 0 7) 5 0).studOf (unLane 0 7)).map (·.cls) = some clsHard ∧
    (ready0.studHard (unLane 0 1) 5 0).lanesFit 0 0x0F = 0x0D := by decide +kernel
theorem test_eighth_send_retrains : (match exec (.linkNakReplay 0) (link0 fun x => { x with nakIn := true, replay := [tx 8] }),
      exec (.linkNakReplay 0) (link0 fun x => { x with nakIn := true, replay := [tx 7] }) with
    | .next t, .next u => (t.od (odAt odPortState 0), u.od (odAt odPortState 0), (u.link 0).replay)
    | _, _ => (9, 9, [])) = (1, 2, [tx 8]) := by decide +kernel
/-- Device 9 is reached over link 0; a packet waits there since time 0; a request 7 is out since time 0. -/
def routed : State :=
  { ((onLink ready0).odSet odDeviceIdValid 1).odSet odDeviceId 4 with routes := mset (fun _ => 0xFFFFFF) [] 9 0xFFFFC0 }
/-- Link die 0 has lost its path to the mesh: the aisles of bays 0 and 1 are down; and link 7, at die 1, is UP. -/
def cut0 (s : State) : State :=
  (List.range 2).foldl (fun s b => s.modBay b fun x => { x with aisleDown := true }) (s.odSet (odAt odPortState 7) 2)
/-- The rest of a packet with nothing in it; with a reserved bit; to the direct neighbours only. -/
def body0 : PktBody := ⟨0, 0, 0, 0, 0, []⟩
def bodyBad : PktBody := { body0 with low := 1 }
def bodyNbr : PktBody := { body0 with mid := 2 }
def linkWaits (d : Nat) : State := atDt (link0 fun x => { x with wait := [⟨0, 2, 48, none, .forward ⟨9, 1, 3, 0, body0⟩⟩] }) d
def outReq (n d : Nat) : State := { atDt routed d with outReqs := [⟨7, 0, .wmove, pkt0, 0, n⟩] }
theorem wit_LinksRoutePackets_ports : ready0.mayWrite 0 (odAt odPortCtrl 35) ∧ (ready0.link 35).enabled = true ∧
    ((link0 fun x => { x with enabled := false }).link 0).enabled = false :=
  ⟨mayWrite_of (by decide +kernel), by decide +kernel, by decide +kernel⟩
theorem wit_LinksRoutePackets_packets : routed.wf = true ∧ routed.linkUp 0 = true ∧
    5000 < (routed.ageNow + 8192 - 3191 % 8192) % 8192 ∧ routed.pktDiscard 31 3192 = none ∧ routed.dieCutOff (linkDie 0) = false ∧
    routed.od odDeviceIdValid = 1 ∧ routed.od odDeviceId = (4 : BitVec 16).toNat ∧ routed.od odDeviceId ≠ (9 : BitVec 16).toNat ∧
    routed.routeSlots 9 ≠ [] ∧ routed.pickSlot 9 (typeVc 1) false 48 = some (0, 0) ∧ (onLink ready0).od odDeviceIdValid = 0 ∧
    (cut0 routed).wf = true ∧ (cut0 routed).dieCutOff (linkDie 0) = true ∧ (cut0 routed).dieCutOff (linkDie 7) = false ∧
    linkDie 0 ≠ linkDie 7 ∧ (cut0 routed).linkUp 7 = true ∧ (cut0 routed).linkUp 0 = true ∧
    (cut0 routed).pickSlot 9 (typeVc 1) false 48 = some (0, 0) ∧
    ((cut0 routed).odSet (odAt odPortState 0) 0).pickSlot 9 (typeVc 1) false 48 = some (0, 0) ∧
    { cut0 routed with routes := mset (fun _ => 0xFFFFFF) [] 9 0xFFFFC7 }.pickSlot 9 (typeVc 1) false 48 = some (0, 7) := by
  decide +kernel
theorem wit_LinksRoutePackets_bodies : pktClean body0 1 = true ∧ pktClean bodyBad 1 = false ∧ pktClean bodyNbr 8 = true ∧
    pktClean bodyBad 8 = false ∧ fld bodyNbr.mid 1 2 ≠ 0 ∧ fld body0.mid 1 2 = 0 ∧ routed.linkUp 34 = true ∧
    headerOk (BitVec.ofNat 384 (RoutedPkt.header ⟨9, 12, 1, 0, body0⟩)) = true ∧ routed.pktDiscard 30 3192 = none ∧
    routed.routeSlots 8 = [] ∧ routed.od odDeviceId ≠ (8 : BitVec 16).toNat := by decide +kernel
/-- A read of two bytes of host memory, of tag 0, waits for its data. -/
def reads : State := { ready0 with hrd := ⟨1, [⟨0, 5, 0, false, 2, none⟩, ⟨1, 5, 1, false, 2, some [0, 0]⟩]⟩ }
theorem wit_LinksRoutePackets_reads : reads.hostUp = true ∧ reads.hrd.reqs.any (fun q => q.tag == 0 && q.data == none && q.bytes == 2) = true ∧
    reads.hrd.reqs.any (fun q => q.tag == 1 && q.data != none) = true := by decide +kernel
theorem wit_LinksRoutePackets_waits : ((linkWaits 0).link 0).wait ≠ [] ∧
    ((linkWaits 999999).link 0).wait.all (fun w => decide (999999 < w.since + 1000000)) = true ∧
    ((linkWaits 1000000).link 0).wait.any (fun w => decide (w.since + 1000000 ≤ 1000000)) = true ∧
    (outReq 1 9999999).outReqs.find? (fun x => x.tag == 7) = some ⟨7, 0, .wmove, pkt0, 0, 1⟩ ∧
    (outReq 3 10000000).outReqs.find? (fun x => x.tag == 7) = some ⟨7, 0, .wmove, pkt0, 0, 3⟩ ∧
    (outReq 2 10000000).outReqs.find? (fun x => x.tag == 7) = some ⟨7, 0, .wmove, pkt0, 0, 2⟩ ∧
    ready0.outReqs = [] ∧ ready0.hostUp = true ∧ State.reset.hostUp = false ∧
    { atDt ready0 1000000000 with hostPort := 35 }.hostPort ≠ 34 ∧ ready0.linkUp 34 = true ∧
    (ready0.link 34).upSince + 1000000000 ≤ (atDt ready0 1000000000).clk.dt ∧ State.reset.linkUp 34 = false := by decide +kernel
theorem test_packet_of_30_hops_goes_on_and_of_31_does_not :
    (match exec (.routedPacketArrival 0 9 1 30 0 false body0) routed, exec (.routedPacketArrival 0 9 1 31 0 false body0) routed with
    | .next t, .next u => (t.linkTx.map (fun x => (x.link, x.msg)) ++ (t.link 0).wait.map (fun w => (some 0, w.msg)),
        u.od odLinkDropHopsCount)
    | _, _ => ([], 0)) = ([(some 0, .forward ⟨9, 1, 31, 0, body0⟩)], 1) := by decide +kernel
/-- A time message of master 3 and term 1 at time `f`; a management message of term 2 for device 9. -/
def ann0 (f : Int) : TimeMsg := ⟨3, 4, true, true, 0, 1, 1, f, 0⟩
def msg0 : MgmtMsg :=
  { dst := 9, src := 4, tag := 1, hops := 31, ageUs := 0, idv := true, nbr := true, flood := false, term := 2,
    serial := 77, ident := 5, idf := false, status := 0, rlink := 0, relay := 9, tver := 1, tpart := 0, tnpart := 0, entries := [] }
/-- Link 0 is UP and the module follows, or holds the office, at term 0. -/
def master (on : Bool) : State := { onLink ready0 with fabric := { ready0.fabric with isMaster := on, inFabric := true } }
theorem wit_FabricTimeIsFollowed : (master true).wf = true ∧ (master true).linkUp 0 = true ∧ ready0.linkUp 33 = false ∧
    (master true).outranked (ann0 0) = true ∧
    ((master true).odSet odFabricTerm 2).outranked (ann0 0) = false ∧ (master false).fabric.isMaster = false ∧
    bestAnn ((master false).modLink 0 fun x => { x with lastAnn := some (0, ann0 0) }).annLinks = some (0, ann0 0) ∧
    bestAnn ((((master false).odSet (odAt odPortState 1) 2).modLink 1 fun x => { x with lastAnn := some (0, ann0 0) }).modLink 0
      fun x => { x with lastAnn := some (0, { ann0 0 with term := 0 }) }).annLinks = some (1, ann0 0) ∧
    ((master false).dtFine - (ann0 (-lockOff - 1)).ft - ((master false).link 0).delay) = lockOff + 1 ∧
    ((master false).dtFine - (ann0 (-lockOn)).ft - ((master false).link 0).delay) = lockOn ∧ (master false).freeNode = false ∧
    (onLink ready0).fabric.inFabric = false ∧ ((onLink ready0).odSet odStartState 9).ready = false := by decide +kernel
/-- Eligible, with an ID, silent since time 0; with a claim of term 1 at time 0; with a lock since time 0. -/
def eligible (role d : Nat) : State :=
  atDt ((((master false).odSet odFabricRole role).odSet odDeviceIdValid 1).odSet odDeviceId 9) d
def claiming (d : Nat) : State := { eligible 1 d with fabric := { (eligible 1 d).fabric with claim := some (1, 0) } }
def following (d : Nat) : State :=
  { (eligible 2 d).odSet odFabricLock 1 with fabric := { (eligible 2 d).fabric with lockSince := some 0 } }
theorem wit_FabricMasterAndIds_claims : (eligible 1 50000000).wf = true ∧ (eligible 1 50000000).fabric.inFabric = true ∧
    (eligible 1 50000000).fabric.isMaster = false ∧ (eligible 1 50000000).od odFabricRole = 1 ∧
    (eligible 1 50000000).od odDeviceIdValid = 1 ∧ (eligible 1 50000000).fabric.claim = none ∧
    (eligible 1 0).pktDiscard msg0.hops msg0.ageUs = none ∧ (eligible 1 0).fabric.seen.contains (2, 5) = false ∧
    (claiming 0).fabric.claim = some (1, 0) ∧ claimBeats (msg0.term, msg0.ident, msg0.idf) ((claiming 0).ownClaim 1) = true ∧
    claimBeats (0, msg0.ident, msg0.idf) ((claiming 0).ownClaim 1) = false ∧ msg0.hops = 31 ∧
    (eligible 1 50000000).fabric.heard.any (fun h => claimBeats h ((eligible 1 50000000).ownClaim 1)) = false ∧
    { eligible 1 0 with fabric := { (eligible 1 0).fabric with heard := some (2, 5, false) } }.fabric.heard.any
      (fun h => claimBeats h ((eligible 1 0).ownClaim 1)) = true ∧
    ((eligible 1 0).odSet (odAt odPortState 1) 2).devLinks = [0, 1] ∧ linkDie 1 = linkDie 0 ∧
    ((ann0 0).mseq - (ann0 0).mseq).toNat = 0 ∧ ((2 : BitVec 16) - (ann0 0).mseq).toNat = 1 ∧
    (((master false).modLink 0 fun x => { x with lastAnn := some (0, ann0 0) }).link 0).lastAnn.isSome = true ∧
    (eligible 1 0).fabric.seenCut.contains (linkDie 0, 2, 5) = false ∧ (eligible 1 0).pktDiscard 30 0 = none ∧
    (following 1000000000).od odFabricRole = 2 ∧ (following 1000000000).od odFabricLock ≠ 0 ∧
    (following 1000000000).fabric.lockSince = some 0 ∧ (following 1000000000).fabric.claim = none ∧
    (eligible 1 0).linkUp 0 = true ∧ (eligible 1 0).dieCutOff (linkDie 0) = false ∧ (eligible 1 50000000).devLinks = [0] ∧
    (cut0 (eligible 1 0)).linkUp 0 = true ∧ (cut0 (eligible 1 0)).dieCutOff (linkDie 0) = true := by decide +kernel
/-- The master of IDs, serial 77 holding ID 5. -/
def idMaster : State :=
  { (eligible 1 0).odSet odFabricMasterId 9 with fabric := { (master true).fabric with ids := [(77, 5)] } }
theorem wit_FabricMasterAndIds_ids : idMaster.fabric.isMaster = true ∧ idMaster.od odFabricMasterId = idMaster.od odDeviceId ∧
    idMaster.grantId msg0 = .ok 5 ∧ idMaster.grantId { msg0 with serial := 78, idf := true, ident := 6 } = .ok 6 ∧
    (eligible 1 0).od odFabricMasterId ≠ (eligible 1 0).od odDeviceId ∧ msg0.nbr = true ∧
    (master false).od odDeviceIdValid = 0 ∧ msg0.relay.toNat = (eligible 1 0).od odDeviceId ∧
    { master false with fabric := { (master false).fabric with idRetry := some 0 } }.fabric.idRetry = some 0 ∧
    ((master false).modLink 0 fun x => { x with lastAnn := some (0, ann0 0) }).devLinks = [0] ∧ (ann0 0).idv = true ∧
    (eligible 1 0).od odFabricRole ≠ 0 ∧ msg0.dst.toNat = (eligible 1 0).od odDeviceId ∧ (eligible 1 0).fabric.parts = [] ∧
    { routed with fabric := { idMaster.fabric with ids := [(77, 9)] } }.fabric.isMaster = true ∧ (9 : BitVec 16).toNat ≠ routed.od odDeviceId ∧
    routed.routeSlots 9 = [(0, 0)] ∧ routed.dieCutOff (linkDie 0) = false ∧ routed.dieCutOff (linkDie msg0.rlink) = false ∧
    (eligible 1 0).od odFabricMasterId < 65536 ∧ msg0.tnpart = 0 ∧ msg0.tpart = 0 ∧ msg0.status = 0 := by decide +kernel
theorem wit_FabricMasterAndIds_serial : { msg0 with serial := Config.serial }.serial = Config.serial ∧
    { msg0 with serial := Config.serial + 1 }.serial ≠ Config.serial := ⟨rfl, by simp⟩
theorem test_take_office_after_2_ms : (match exec .masterTakeOffice (claiming 1999999), exec .masterTakeOffice (claiming 2000000) with
    | .next t, .next u => (t.fabric.isMaster, u.fabric.isMaster, u.od odFabricTerm, u.od odFabricMasterId)
    | _, _ => (true, false, 0, 0)) = (false, true, 1, 9) := by decide +kernel
theorem test_known_serial_gets_its_id : (match exec (.idReq 0 { msg0 with relay := 0 }) idMaster with
    | .next t => t.fabric.ids
    | _ => []) = [(77, 5)] := by decide +kernel

/-! ### Witnesses: start-up, firmware, identity, the dictionary and the sidebands -/

/-- Findings with every groom, every copy good and nothing bad. -/
def find0 : StartFind :=
  { refA := true, refB := true, fabric := none, romGrooms := List.range 20, fuse := ⟨true, true, true, true⟩
    studAValid := true, studBValid := true, storedAValid := true, storedBValid := true, stAValid := true, stBValid := true
    imageVerified := true, badWires := [], fails := [] }
/-- The started module with its findings, at a start state and a device time; with ten short acknowledgements. -/
def found (st d : Nat) : State :=
  let s := atDt (ready0.odSet odStartState st) d
  { s with start := { s.start with find := some find0 } }
def startWith (f : Start → Start) : State := { ready0 with start := f ready0.start }
theorem wit_StartsResetsAndPins_pins : ready0.start.pwrgood = true ∧ State.reset.start.pwrgood = false ∧
    State.reset.start.resetN = true ∧ (startWith fun x => { x with resetN := false }).start.resetN = false ∧
    (startWith fun x => { x with resetN := false }).start.supplies.isEmpty = true ∧
    (startWith fun x => { x with resetN := false, supplies := [(supAisle, 0)] }).start.supplies.any (fun x => x.1 == supAisle) = true ∧
    ready0.start.supplies.contains (1, 3) = false ∧ State.reset.up = false ∧ ready0.up = true ∧
    ready0.fuse.fstacks.contains (2 * 7 + 1) = true ∧ (ready0.part 0).job.st = .running ∧ State.reset.wf = true := by decide +kernel
theorem wit_StartsResetsAndPins_elections : (found 0x0D 0).start.find = some find0 ∧ (found 0x0D 0).up = true ∧
    (found 0x0D 0).od odStartState = 0x0D ∧ ready0.od odStartState ≠ 0x0D ∧ ready0.start.acting = true ∧
    (ready0.odSet odYardmaster 5 |>.modGroom 5 fun x => { x with inService := true }).groomServes 5 = true ∧
    (startWith fun x => { x with acting := false }).start.acting = false ∧
    ({ atDt ready0 10000000 with grooms := [] } : State).deputy = none ∧
    ((atDt ready0 10000000).modGroom 0 (fun x => { x with inService := true }) |>.modGroom 1 fun x => { x with inService := true }).deputy.isSome = true ∧
    10 ≤ (startWith fun x => { x with fewAcks := 10 }).start.fewAcks ∧ ready0.start.fewAcks < 10 := by decide +kernel
theorem wit_StartsResetsAndPins_grooms : (ready0.groom 19).hard = false ∧ ready0.groomFed 19 = true ∧
    19 ≠ ready0.od odYardmaster ∧ ready0.inBay 0 0 = true ∧
    (ready0.modGroom 19 fun x => { x with fails := [0] }).groomFed 19 = true ∧
    ((ready0.modGroom 19 fun x => { x with fails := [0] }).groom 19).fails.any (fun d => decide (ready0.st < d + 86400)) = true ∧
    (startWith fun x => { x with studPend := true }).start.studPend = true ∧ ready0.start.studPend = false ∧
    storedKey (odKey 0x2000 0x0A) = true ∧ storedKey (odKey 0x1000 0x01) = false := by decide +kernel
theorem wit_StartsResetsAndPins_writes : ready0.mayWrite 0 odModuleReset ∧ (found 0x0B 0).mayWrite 0 odDegradedAck ∧
    (found 0x0B 0).od odStartState = 0x0B ∧ ready0.od odStartState = 0x0A :=
  ⟨mayWrite_of (by decide +kernel), mayWrite_of (by decide +kernel), by decide +kernel, by decide +kernel⟩
theorem test_fuses_of_one_copy_decide : fuseDecides ⟨true, false, false, false⟩ = true ∧
    fuseDecides ⟨true, true, false, false⟩ = false := by decide
/-- Both studbook copies hold a mirror of the map in use. -/
def mirrored : State := startWith fun x =>
  let c := { x.studA with mirror := some ⟨ready0.fuse, 0⟩ }
  { x with studA := c, studB := c }
/-- The findings of a warm reset that its election left in NO_QUORUM; a reset while the image is written; an image that is not
the one asked for; a groom cut off, one away for the switch, one that failed a restart a day ago. -/
def warm0 : State :=
  let s := ready0.odSet odStartState 0x0D
  { s with start := { s.start with warm := some (⟨true, true, true, true⟩, true) } }
def awayAt (g : Nat) : State := { ready0 with firm := { ready0.firm with away := some g } }
theorem wit_StartsResetsAndPins_warm : warm0.start.warm = some (⟨true, true, true, true⟩, true) ∧ warm0.up = true ∧
    warm0.od odStartState = 0x0D ∧ 11 ≤ ((warm0.electors (List.range 20)).filter fun g =>
      !(warm0.groom g).hard && !warm0.groomCut g).length ∧ (warm0.electors (List.range 10)).length < 11 ∧
    warm0.tackOk = true ∧ { warm0 with firm := { warm0.firm with tackVerified := false } }.tackOk = false ∧
    (found 0x0D 0).start.warm = none ∧ (ready0.odSet odFwUpdateStatus 4).od odFwUpdateStatus = 4 ∧
    (ready0.odSet odFwUpdateStatus 4).od odStartState = 0x0A ∧ ready0.od odFwUpdateStatus ≠ 4 := by decide +kernel
theorem wit_StartsResetsAndPins_gone : ready0.groomCut 19 = false ∧ ready0.firm.away ≠ some 19 ∧
    (awayAt 3).groomReturns 3 = true ∧ (awayAt 3).firm.away = some 3 ∧
    (ready0.modCl (groomSite 3) fun x => { x with routerFaulty := true }).groomCut 3 = true ∧
    ready0.clk.locked = true ∧ (startWith fun x => { x with acting := false }).start.acting = false ∧
    ({ ready0 with st := 86400 } |>.modGroom 19 fun x => { x with fails := [0] }).st = 0 + 86400 := by decide +kernel
/-- What a start needs to choose: a verified image, and a mirror or none. -/
theorem wit_StartsResetsAndPins_image : ready0.startImage find0 ∧ ¬ ready0.startImage { find0 with imageVerified := false } := by
  unfold State.startImage; decide +kernel
theorem wit_StartsResetsAndPins_choice : ready0.startMirror find0 = none ∧ mirrored.startMirror find0 ≠ none ∧ ready0.mirror = none ∧
    { ready0 with mirror := some ⟨ready0.fuse, 0⟩ }.mirror ≠ none ∧ fuseDecides ⟨true, true, false, true⟩ = false ∧
    (11 : Nat) ≤ (groomRank.filter find0.romGrooms.contains).length ∧
    11 ≤ ((found 0x0D 0).electors find0.romGrooms).length ∧ (groomRank.filter (List.range 10).contains).length < 11 := by
  decide +kernel
theorem test_few_acks_count : (match exec (.heartbeat 9) (ready0.modGroom (ready0.od odYardmaster) fun x => { x with inService := true }),
      exec (.heartbeat 10) (startWith fun x => { x with fewAcks := 9 }) with
    | .next t, .next u => (t.start.fewAcks, u.start.acting)
    | _, _ => (0, false)) = (1, true) := by decide +kernel

/-- An image for version 3 that asks for peers of version 1, a package of 1 ms; the update at a status with it staged. -/
def img0 : ImgHdr := { ImgHdr.none with magic := 0x5746494D, ver := 3, minPeer := 1, bodyLen := 4096 }
def pkg0 : ImgHdr := { ImgHdr.basePkg with magic := 0x57464152, bodyLen := 4096, runMs := 1 }
def staged (st ver : Nat) : State :=
  let s := ready0.odSet odFwUpdateStatus st
  { s with firm := { s.firm with staged := some img0, running := { s.firm.running with ver := BitVec.ofNat 32 ver } } }
/-- That a signature verifies is uninterpreted (log 10): the rest of what an image and a package need holds together. -/
theorem wit_FirmwareAndFarrier_images : ready0.wf = true ∧ ready0.mayWrite 0 odFwUpdateCtrl ∧ ready0.mayWrite 0 odFarrierCtrl ∧
    ((staged 2 1).signerSlot img0 (imgBits img0) ≠ none → (staged 2 1).imageOk img0 = true) ∧
    (ready0.signerSlot pkg0 (pkgBits pkg0) ≠ none → ready0.pkgOk pkg0 = true) ∧
    (staged 2 1).imageOk { img0 with magic := 0 } = false ∧ ready0.pkgOk { pkg0 with magic := 0 } = false := by
  refine ⟨by decide +kernel, mayWrite_of (by decide +kernel), mayWrite_of (by decide +kernel), ?_, ?_, ?_, ?_⟩
  · intro h
    rw [State.imageOk, Option.isSome_iff_ne_none.mpr h, Bool.and_true]
    decide +kernel
  · intro h
    rw [State.pkgOk, Option.isSome_iff_ne_none.mpr h, Bool.and_true]
    decide +kernel
  · unfold State.imageOk; rfl
  · unfold State.pkgOk; rfl
theorem wit_FirmwareAndFarrier_update : (staged 2 1).firm.staged = some img0 ∧ (staged 2 1).od odFwUpdateStatus = 2 ∧
    (staged 2 1).od odStartState ≠ 0x0C ∧ (staged 2 0).firm.running.ver < img0.minPeer ∧
    ¬ (staged 2 1).firm.running.ver < img0.minPeer ∧ (staged 1 1).od odFwUpdateStatus = 1 ∧ (staged 0 1).od odFwUpdateStatus = 0 ∧
    ((staged 2 1).odSet odStartState 0x0C).od odStartState = 0x0C ∧
    (staged 5 1).maySwitch 15 = true ∧ 15 ≠ (staged 5 1).od odYardmaster ∧ (staged 0 1).maySwitch 15 = false ∧
    (found 0x0C 0).start.find = some find0 ∧ 11 ≤ ((found 0x0C 0).electors find0.romGrooms).length ∧
    fuseDecides find0.fuse = true := by decide +kernel
/-- The image is in the tack room, not read back yet, with a MODULE_RESET waiting and none; groom 15 away for its switch. -/
def writing (reset : Bool) : State :=
  let s := ready0.odSet odFwUpdateStatus 4
  { s with start := { s.start with resetPend := if reset then some (⟨true, true, true, true⟩, true) else none } }
def switching (g : Nat) : State :=
  let s := (staged 5 1).modGroom g fun x => { x with down := true }
  { s with firm := { s.firm with away := some g } }
theorem wit_FirmwareAndFarrier_written : (writing true).firm.staged = none ∧ (writing true).start.resetPend ≠ none ∧
    (writing true).od odFwUpdateStatus = 4 ∧ (writing false).start.resetPend = none ∧ (staged 4 1).firm.staged ≠ none := by
  decide +kernel
theorem wit_FirmwareAndFarrier_switches : (staged 5 1).firm.away = none ∧ (switching 15).firm.away = some 15 ∧
    ((switching 15).groom 15).inService = true ∧ (switching 15).unitsPending.contains 15 = true ∧
    (switching 15).groomReturns 15 = true ∧
    ((switching 15).modBay 15 fun x => { x with aisleDown := true }).groomReturns 15 = false ∧
    (switching 15).firm.away ≠ some 14 ∧ (switching 15).unitsPending ≠ [] ∧ (staged 5 1).unitsPending.length ≠ 1 ∧
    (let s := staged 5 1
     { s with firm := { s.firm with newUnits := (s.unitsPending).drop 1 } } : State).unitsPending.length = 1 := by
  decide +kernel
theorem test_groom_is_down_while_it_switches : (match exec (.fwUnitSwitch 15) (staged 5 1) with
    | .next t => ((t.groom 15).down, t.firm.newUnits, match exec (.fwUnitSwitch 15) t with
        | .next u => ((u.groom 15).down, u.firm.newUnits, u.firm.away)
        | _ => (true, [], none))
    | _ => (false, [9], true, [], none)) = (true, [], false, [15], none) := by decide +kernel
/-- A run of a site and one of an update chiplet, begun at time 0 with a package of 1 ms. -/
def running (known : Bool) (d : Nat) : State :=
  let s := atDt ready0 d
  { s with firm := { s.firm with runs := [⟨false, 0, known, 0, pkg0⟩, ⟨true, 7, known, 0, pkg0⟩] } }
theorem wit_FirmwareAndFarrier_runs : (running false 0).ready = true ∧ ready0.firm.pkg.tests.getLsbD 0 = true ∧
    ready0.firm.pkg.tests.getLsbD 1 = true ∧ ready0.upcIdle 7 = true ∧ ready0.upcIdle 8 = false ∧ ready0.siteNext 0 = false ∧
    ready0.runOf false 575 = none ∧ (running false 0).runOf false 0 = some ⟨false, 0, false, 0, pkg0⟩ ∧
    (running true 0).runOf true 7 = some ⟨true, 7, true, 0, pkg0⟩ ∧ (0 : BitVec 256) = pkg0.answer ∧
    (1 : BitVec 256) ≠ pkg0.answer ∧ (running false 1000001).clk.dt = 0 + 1000000 * pkg0.runMs + 1 ∧
    ready0.odBit odUpcEnabled 7 = true ∧ ready0.od (odAt odUpcState 7) = 0 := by decide +kernel
theorem wit_FirmwareAndFarrier_overdue : (ready0.odSet (odSite odSiteLogical 0) 0).siteUsable 0 = true ∧ ready0.ready = true ∧
    { ready0 with st := 86400 }.lastVisit 0 + 86400 ≤ 86400 ∧ ready0.st < ready0.lastVisit 0 + 86400 ∧
    mget zN ready0.firm.overdueAt 0 = 0 := by decide +kernel
theorem test_apply_for_old_peers_is_refused : (match exec (.fwApply 0) (staged 2 0) with
    | .next t => t.od odFwUpdateStatus
    | _ => 0) = 7 := by decide +kernel
/-- The module in a lifecycle state with no partition, a challenge at time 0, and an accepted op. -/
def owned (lc : Nat) : State :=
  let s := (ready0.odSet odLifecycle lc).modPart 0 fun x => { x with composed := false }
  { s with sec := { s.sec with challenge := some (5, 0) } }
def accepted (lc op : Nat) (pw : Bool) : State :=
  { owned lc with sec := { (owned lc).sec with accepted := some (op, 0, pw) } }
def quoting (lc : Nat) : State := { owned lc with sec := { (owned lc).sec with quoteQueue := [(33, [1])] } }
theorem wit_IdentityAndAccess_quotes : (owned 3).wf = true ∧ (owned 3).ready = true ∧ (owned 3).od odLifecycle = 3 ∧
    mget zN (owned 3).sec.atkIssued ((owned 3).od odOwnerEpoch) = 0 ∧ (owned 0).od odLifecycle = 0 ∧
    (owned 4).od odLifecycle = 4 ∧ (owned 3).od (quoteKey odQuoteStatus (quoteSlot 32)) = 0 ∧ quoteSlot 32 = 33 ∧
    (owned 3).sec.quoteQueue = [] ∧ (quoting 4).sec.quoteQueue = (33, [1]) :: [] ∧ (quoting 3).atkCertNow = [] ∧
    (quoting 3).up = true := by decide +kernel
theorem wit_IdentityAndAccess_writes : (owned 3).mayWrite 0 (quoteKey odQuoteCtrl (quoteSlot 0)) ∧
    (owned 3).mayWrite 0 odAuthCtrl ∧ (owned 3).mayWrite 0 odPwDigest ∧ (owned 3).pwOpen = true ∧ (owned 1).pwOpen = false ∧
    (owned 3).routeOpen 0 = true ∧ State.reset.routeOpen 0 = false :=
  ⟨mayWrite_of (by decide +kernel), mayWrite_of (by decide +kernel), mayWrite_of (by decide +kernel), by decide +kernel,
   by decide +kernel, by decide +kernel, by decide +kernel⟩
theorem wit_IdentityAndAccess_ops : (accepted 3 1 false).sec.accepted = some (1, 0, false) ∧
    (accepted 3 0x11 false).lifeBusy = false ∧ (quoting 3).lifeBusy = true ∧ ready0.lifeBusy = true ∧
    (owned 3).authPermits 0 1 false = true ∧ (owned 2).authPermits 0 0x10 false = true ∧
    (owned 3).authPermits 0 1 true = false ∧ (owned 3).od odAuthFailCount < 16 ∧
    ((owned 3).odSet odAuthFailCount 16).od odAuthFailCount = 16 ∧ (owned 3).sec.challenge = some (5, 0) ∧
    (match (owned 3).odGuard 0 false false 0x1140 1 with | .ok (some _) => true | _ => false) = true ∧
    (owned 3).clk.dt ≤ 0 + 60000000000 ∧ (owned 3).sec.lastRefused = none ∧ (owned 3).sec.accepted = none ∧
    ((owned 1).setSel 0 odAuthOp 0x20).sel 0 odAuthOp = 0x20 ∧ (owned 1).proofHolds 0 0x20 false = true ∧
    (owned 3).proofHolds 0 1 false = false ∧ (owned 1).od odLifecycle = 1 ∧ (owned 1).lifeBusy = false := by decide +kernel
/-- A password of eight bytes whose digest is fused opens its scope: the proof holds by the digest's own rule (R551). -/
theorem wit_IdentityAndAccess_password (op : Nat) :
    let s : State := { owned 3 with
      dict := { (owned 3).dict with authProof := mset (fun _ => []) [] 0 [1, 2, 3, 4, 5, 6, 7, 8] }
      sec := { (owned 3).sec with pwDigest := some (BitVec.ofNat 256
        (Config.shake256 32 (leBytes 16 Config.pwSalt.toNat ++ [1, 2, 3, 4, 5, 6, 7, 8]))) } }
    s.proofHolds 0 op true = true := by
  have h : mget (fun _ => []) (mset (fun _ => []) [] 0 ([1, 2, 3, 4, 5, 6, 7, 8] : List Byte)) 0 = [1, 2, 3, 4, 5, 6, 7, 8] := by
    decide
  simp only [State.proofHolds, State.authProof, h, if_true]
  simp
theorem test_challenge_of_other_op_keeps_accepted : (match exec (.unlockTest 0 false) (accepted 3 1 false),
      exec (.unlockTest 0 false) (accepted 3 2 false) with
    | .next t, .next u => (t.sec.proofScope, t.od odAuthStatus, u.sec.accepted)
    | _, _ => (0, 0, none)) = (1, 2, some (2, 0, false)) := by decide +kernel
theorem test_claim_starts_epoch_0 : (match exec (.lifecycleClaim 0) (accepted 1 0x20 false) with
    | .next t => (t.od odLifecycle, t.od odOwnerEpoch)
    | _ => (0, 9)) = (2, 0) := by decide +kernel

/-- A READ frame of 4 bytes at 0x1000:0x01 with its check sequence; with a bad one; the module with both I3C ports open. -/
def hdr0 : List Byte := leBytes 16 (1 + 0x1000 * 2 ^ 32 + 1 * 2 ^ 48 + 4 * 2 ^ 96)
def frame0 : List Byte := hdr0 ++ leBytes 4 (crc32 hdr0).toNat
def frameBad : List Byte := hdr0 ++ [0, 0, 0, 0]
/-- A datagram to the UDP port of the sideband from address 7, port 9 (R569). -/
def udp0 : Datagram := ⟨7, 9, BitVec.ofNat 16 (ready0.od odSbUdpPort)⟩
def eth0 : State := (ready0.odSet odSbEthEnable 1).odSet odSbIpv4Addr 7
def kept0 (d : Nat) : State := { atDt eth0 d with side := ⟨[⟨35, 0, frame0, [1], 0⟩], [], mset (fun _ => none) [] 33 (some 5)⟩ }
theorem wit_DictionaryAndSidebands_reads : ready0.wf = true ∧ State.reset.routeOpen req0.route = false ∧
    ready0.routeOpen req0.route = true ∧ req0.badForm = false ∧ { req0 with badForm := true }.badForm = true ∧
    req0.sub ≠ 0 ∧ req0.index < 0xC000 ∧ req0.len ≤ routeLimit req0.route ∧ 1024 ≤ routeLimit 33 ∧ ¬ 1025 ≤ routeLimit 33 ∧
    (ready0.odGuard 0 false false 0x1000 1).isOk = true ∧ (ready0.odGuard 0 false false 0x0FFF 1).isOk = false ∧
    (match ready0.odGuard 0 false false 0x3800 1 with
     | .ok (some (row, h)) => odScalar row.typ && decide (h < 2)
     | _ => false) = true ∧
    (match ready0.odGuard 0 false false 0x2000 0x0A with
     | .ok (some (row, h)) => odScalar row.typ && decide (2 ≤ h)
     | _ => false) = true ∧
    (match ready0.odGuard 5 false false 0x2000 0x0A with | .ok none => true | _ => false) = true := by decide +kernel
theorem wit_DictionaryAndSidebands_writes :
    (match ready0.odGuard 0 false false 0x2000 0x0A with
     | .ok (some (row, _)) => decide ((ready0.odPut 0 row 0x2000 0x0A 10).2 = odOk) &&
         decide ((ready0.odPut 0 row 0x2000 0x0A 9).2 ≠ odOk)
     | _ => false) = true ∧
    ready0.odServed 0xC000 1 = true ∧ ready0.odRight (ownerRow 0xC000 1) 0 false 0xC000 1 = 2 ∧ ready0.ownerBytes = 0 ∧
    ready0.plainEntry { req0 with index := 0x2000, sub := 0x0A } = true ∧ ready0.plainEntry { req0 with index := 0x0FFF } = false := by
  decide +kernel
theorem wit_DictionaryAndSidebands_frames : eth0.routeOpen 35 = true ∧ (kept0 0).portAddressed 33 = true ∧
    ready0.portAddressed 33 = false ∧ ready0.portAddressed 35 = true ∧ frameGood frame0 = true ∧ frameGood frameBad = false ∧
    frameBits frame0 4 1 = 0 ∧ (kept0 999999999).side.kept.find? (fun x => x.route == 35 && x.bytes == frame0 &&
      KeptReq.live 999999999 x) = some ⟨35, 0, frame0, [1], 0⟩ ∧
    (kept0 1000000000).side.kept.all (fun x => decide (x.dt + 1000000000 ≤ 1000000000)) = true ∧
    mget (fun _ => none) (kept0 0).side.last 33 = none ∧
    mget (fun _ => none) { (kept0 0).side with last := mset (fun _ => none) [] 33 (some [1]) }.last 33 = some [1] ∧
    ready0.routeOpen 34 = true ∧ ready0.i3cStatic 1 = 0x48 ∧ ready0.i3cStatic 0 ≠ 0x48 := by decide +kernel
theorem wit_DictionaryAndSidebands_ethernet : (7 : BitVec 32).toNat = eth0.od odSbIpv4Addr ∧
    (1 : BitVec 32).toNat ≠ eth0.od odSbIpv4Addr ∧ ([0] : List Byte).length ≤ 1472 ∧ eth0.udpTaken 35 udp0 = true ∧
    (eth0.odSet odSbEthPeer 8).udpTaken 35 udp0 = false ∧ eth0.udpTaken 35 { udp0 with dstPort := 0 } = false := by decide +kernel
/-- Both host ports are cut off from the mesh: a host access draws no answer and is counted (R54, R442). -/
theorem wit_DictionaryAndSidebands_cut_off : (let s := (cut0 ready0).modBay 14 fun x => { x with aisleDown := true }
    let s := s.modBay 15 fun x => { x with aisleDown := true }
    s.routeOpen 0 = false ∧ s.up = true ∧ s.linkUp 34 = true) ∧ (ready0.odSet (odAt odPortState 34) 0).linkUp 34 = false ∧
    (ready0.odSet (odAt odPortState 34) 0).linkUp 35 = false := by decide +kernel
theorem wit_DictionaryAndSidebands_closed : State.reset.up = false ∧
    (startWith fun x => { x with acting := false }).yardActs = false ∧
    (startWith fun x => { x with acting := false }).od odStartState ≠ 0x0D ∧
    (ready0.odSet odStartState 0x0C).od odStartState = 0x0C ∧ (ready0.odSet odStartState 0x0C).routeOpen 36 = false ∧
    (ready0.odSet odStartState 0x0C).routeOpen 0 = true ∧ (33 : Nat) > 32 := by decide +kernel
theorem test_access_by_a_cut_off_host_port_is_counted : (match exec (.odRead req0) ((cut0 ready0).modBay 15 fun x => { x with aisleDown := true }) with
    | .next t => (t.od odLinkIsolatedDropCount, t.dict.ans.isSome)
    | _ => (9, true)) = (1, false) := by decide +kernel
theorem test_bad_frame_is_counted : (match exec (.sidebandFrame 35 ⟨frameBad, udp0⟩) eth0 with
    | .next t => (t.od odSbFrameErrorCount, t.sideTx.length)
    | _ => (0, 9)) = (1, 0) := by decide +kernel
theorem test_frame_read_answers : (match exec (.sidebandFrame 35 ⟨frame0, udp0⟩) eth0 with
    | .next t => (t.sideTx.length, t.side.kept.length, t.dict.ans.map (·.status))
    | _ => (0, 0, none)) = (1, 1, some odOk) := by decide +kernel
theorem test_frame_seen_again_is_answered_as_before : (match exec (.sidebandFrame 35 ⟨frame0, udp0⟩) (kept0 999999999) with
    | .next t => t.sideTx
    | _ => []) = [.udp 7 9 [1]] := by decide +kernel
theorem test_write_below_range : (match exec (.odWrite { req0 with index := 0x2000, sub := 0x0A, data := [9, 0, 0, 0] }) ready0,
      exec (.odWrite { req0 with index := 0x2000, sub := 0x0A, data := [10, 0, 0, 0] }) ready0 with
    | .next t, .next u => (t.dict.ans.map (·.status), t.od odParkIdleUs, u.dict.ans.map (·.status), u.od odParkIdleUs)
    | _, _ => (none, 0, none, 0)) = (some odRange, 1000, some odOk, 10) := by decide +kernel
theorem test_i3c_setdasa_needs_the_static_address : (match exec (.i3cAddressAssign 1 true 0x40 9) ready0,
      exec (.i3cAddressAssign 1 true 0x48 9) ready0 with
    | .next t, .next u => (t.portAddressed 34, u.portAddressed 34)
    | _, _ => (true, false)) = (false, true) := by decide +kernel

/-! ### Witnesses: core slots, runs, overlays and checks in the cases that stop or wait -/

/-- A parity error in the register that SA names (R517). -/
def marked : CoreSt := { regs 1 2 with sPar := mset zF [] 1 true }
theorem wit_ScalarArithmeticWritesSD_parity : marked.sBad (seq 3 1 2 0 0).sa.toNat = true ∧
    (withCore (holding (.seqAdd 0 (seq 3 1 2 0 0)) marked)).issues 0
      ⟨holding (.seqAdd 0 (seq 3 1 2 0 0)) marked, holding (.seqAdd 0 (seq 3 1 2 0 0)) marked⟩ 2 (seqWord 3 (seq 3 1 2 0 0)) ∧
    seqEncOk 3 (seq 3 1 2 0 0) = true := by
  unfold State.issues; decide +kernel
theorem test_operation_on_a_marked_register_faults : faultAfter (.seqAdd 0 (seq 3 1 2 0 0)) marked = some 0x0D ∧
    faultAfter (.seqAdd 0 (seq 3 2 2 0 0)) marked = none := by decide +kernel
theorem wit_BrokenEncodingFaultsCore_tables : brk.tabs = [] := by decide +kernel
/-- RDC of the device time in a COUNTED cluster, in a farrier run of it, and in one that is DIRECT, whatever the free moment
of the µs is (R396). -/
theorem wit_CountersMailboxesAndEnd_device_time :
    (lit (holding (.rdc 0 (seq 3 0 0 0 6)) run0)).inRun 0 = false ∧ ((lit run0).cl 0).counted = false ∧
    { lit run0 with firm := { (lit run0).firm with runs := [⟨false, 0, false, 0, ImgHdr.basePkg⟩] } }.inRun 0 = true ∧
    (((lit run0).modCl 0 fun x => { x with counted := true }).cl 0).counted = true := by decide +kernel
theorem wit_CountersMailboxesAndEnd_moment : ∃ s : State, ((s.runFree 0).cl 0).counted = true ∧ (s.runFree 0).inRun 0 = false := by
  refine ⟨{ (lit run0).modCl 0 fun x => { x with counted := true, cntStop := true, cnt := 2 ^ 60, ran := 999 } with
    clk := { (lit run0).clk with sub := 999 } }, ?_, ?_⟩ <;>
  · rw [State.runFree, Nat.max_eq_left (by decide +kernel), Nat.mod_one]; decide +kernel
theorem wit_RunsTakeTheirCourse_bundle : (withCore (vr false 0 0 94) |>.core 0).bundleDone = true ∧
    ((withCore (holding (.movi 0 (seq 3 0 0 0 1)) (vr false 0 0 94))).core 0).bundleDone = false ∧
    runOk 0 0 = false ∧ (vr false 0 0 94).tabs = [] := by decide +kernel
/-- A run with a bad descriptor that is due for its check while a slot of its bundle has not issued; and once none is left. -/
theorem test_bad_run_waits_for_its_bundle :
    let x : CoreSt := { run1 with run := some ⟨94, 8, 0, false, 0, 0, [], []⟩ }
    (match exec (.runDescriptorCheck 0) (lit (holding (.movi 0 (seq 3 0 0 0 1)) x)), exec (.runDescriptorCheck 0) (lit x) with
    | .next t, .next u => ((t.cur 0).phase, (u.cur 0).fault)
    | _, _ => (.idle, none)) = (.running, some (0x04, 8, 1)) := by decide +kernel
/-- The overlay of `ovSt` while its cluster stands in a change of point; and one of the loader of a job. -/
def loading (body : Bool) : State :=
  let s := ovSt.modCur 0 fun x => { x with ovls := [⟨0, 1, 0, 0, 64, 0, true, false⟩] }
  (s.modCl 0 fun x => { x with owner := some (0, 0) }).modPart 0 fun p =>
    { p with job := { p.job with loader := some 5, bodies := if body then [(0, [(7, false)])] else [] } }
theorem wit_CopyAndOverlayIssue_lands : (stopAt ovSt).stopped 0 = true ∧ ((stopAt ovSt).cl 0).port = .opened ∧
    ((stopAt ovSt).cur 0).ovls ≠ [] ∧ (stopAt ovSt).wf = true ∧ ovSt.stopped 0 = false ∧
    ((ovSt.modCl 0 fun x => { x with port := .hold }).cl 0).port ≠ .opened ∧ (ovSt.cur 0).active = true := by decide +kernel
theorem wit_CopyAndOverlayIssue_bodies : ((loading true).part (((loading true).ownerOf 0).map (·.1) |>.getD 255)).job.loader.isSome = true ∧
    ((loading true).part 0).job.bodies.find? (fun y => y.1 == 0 / 576) = some (0, [(7, false)]) ∧
    (loading false).ovlData 0 ⟨0, 1, 0, 0, 64, 0, true, false⟩ = [((loading false).unitRead ((loading false).part 0) 2 64 0)] ∧
    ((loading true).cur 0).ovls = [⟨0, 1, 0, 0, 64, 0, true, false⟩] ∧ (loading true).stopped 0 = false := by decide +kernel
theorem test_cores_of_a_bay_take_one_body : (match exec (.overlayComplete 0) (loading true) with
    | .next t => (mget zR (t.cur 0).imem 0, (t.cur 0).ovls.length)
    | _ => (0, 9)) = (7, 0) := by decide +kernel
theorem wit_ScratchpadChecks_shared : ({ chk with symHeld := true, freeze := .none } : CoreSt).symHeld = true ∧
    chk.symHeld = false ∧ (∀ n, chk.freeze ≠ .replay n) := by
  refine ⟨rfl, by decide +kernel, fun n => ?_⟩
  rw [show chk.freeze = .none by decide +kernel]; simp
theorem test_second_symbol_error_shares_the_hold :
    (match exec (.lspReadCheck 0 4095 .symbol) (lit { chk with symHeld := true }) with
    | .next t => (t.cur 0).freeze
    | _ => .gate) = .none := by decide +kernel
theorem wit_PoisonFaultsTheCore_bundle : (poisoned.core 0).bundleDone = true ∧
    ((lit (holding (.movi 0 (seq 3 0 0 0 1)) { run1 with causes := [(0x0D, 8, 3)] })).core 0).bundleDone = false ∧
    (∀ y ∈ ([(0x0D, 8, 4), (1, 8, 2)] : List (Nat × Nat × Nat)), y.1 = 0x0D → 3 ≤ y.2.2) := by decide +kernel


/-! ### Witnesses: copies, adds, windows and messages that wait or land later -/

theorem wit_CopiesMoveTheirBytes_lands : (∀ x ∈ (stopAt (copyAt .opened)).copyOf 0,
      (stopAt (copyAt .opened)).copyReady x = true ∧ (stopAt (copyAt .opened)).copyRetries x = [] ∧
      (stopAt (copyAt .opened)).copyStops x = [0]) ∧ ((stopAt (copyAt .opened)).copyOf 0).isSome = true := by decide +kernel
/-- An add of copy 0 on the way to granule 64 of the CMEM of site 0, or to HBM, its port in a state; its request at the port
waits, or its granule is kept already. -/
def adding (hbm : Bool) (core : CoreId) (p : PortSt) : State :=
  { (withCopy (cpd 1 0 1 2 0 64) true).modCl 0 fun x => { x with port := p } with
    copies := [⟨0, core, 0, 0, 8, cpd 1 0 1 2 0 64, true, 1, [], false, 0, 0⟩]
    adds := [⟨0, hbm, 64, true, 12, List.replicate 16 (1, false), true⟩] }
def addWaits : State :=
  { adding false 1024 .opened with mesh := { armed.mesh with reqs := [⟨9, 4, 0, 0, 0, 0, 1, true, 0⟩] } }
theorem wit_AddsMarksAndCompletions_adds : armed.adds[0]? = none ∧ (adding false 1024 .hold).adds[0]?.isSome = true ∧
    (addWaits.reqOf 9 4).any (·.retryWait) = true ∧ ((adding false 0 .hold).reqOf 9 4).any (·.retryWait) = false ∧
    (((adding false 0 .opened).keepReq (addEnd false 64) 9 4 64).keptOf (addEnd false 64) 9 4).any (fun x => x.gran == 64) = true ∧
    ((adding false 0 .opened).keptOf (addEnd false 64) 9 4).any (fun x => x.gran == 64) = false ∧ 64 / 2 ^ 23 = 0 ∧
    ((adding false 0 .park).copyOf 0).any (fun x => x.core / 16 == 0) = true ∧
    ((adding false 1024 .park).copyOf 0).any (fun x => x.core / 16 == 0) = false ∧
    (stopAt (adding false 1024 .opened)).stopped 0 = true ∧ (adding false 1024 .opened).stopped 0 = false ∧
    ((adding false 1024 .opened).cl 0).port = .opened ∧ (adding true 0 .opened).hbmOut 64 = false := by decide +kernel
theorem test_add_at_a_parked_port_waits : (match exec (.aaddxGranuleAdd ⟨0, 9, 4⟩) (adding false 1024 .park) with
    | .next t => (t.adds.length, (t.cl 0).waking, t.od odMeshRetryCount, t.cmem)
    | _ => (0, false, 0, [])) = (1, true, 1, []) := by decide +kernel
theorem test_poisoned_add_marks_its_granule : (match exec (.aaddxGranuleAdd ⟨0, 9, 4⟩) (adding false 1024 .opened) with
    | .next t => (t.cmemPoison, t.od odCopyPoisonCarriedCount, t.adds.length)
    | _ => ([], 0, 9)) = ([(1, true)], 1, 0) := by decide +kernel
theorem test_granules_of_one_request_are_kept_apart :
    (match exec (.aaddxGranuleAdd ⟨0, 9, 4⟩) ((adding false 1024 .opened).keepReq (addEnd false 128) 9 4 128),
      exec (.aaddxGranuleAdd ⟨0, 9, 4⟩) ((adding false 1024 .opened).keepReq (addEnd false 64) 9 4 64) with
    | .next t, .next u => (mget zB t.cmem 64, t.od odMeshDuplicateCount, mget zB u.cmem 64, u.od odMeshDuplicateCount)
    | _, _ => (0, 9, 9, 0)) = (1, 0, 0, 1) := by decide +kernel
def paused0 : State := (withCopy (cpd 0 2 2 1 0 64) true).modCl 0 fun x => { x with power := .paused }
theorem wit_AddsMarksAndCompletions_paused : (paused0.cl 0).power = .paused ∧ (armed.cl 0).power ≠ .paused ∧
    (∀ x ∈ paused0.copyOf 0, x.acted = true ∧ x.adds = 0 ∧ x.pkts = [] ∧ x.core / 16 = 0) := by decide +kernel
theorem test_copy_of_a_paused_cluster_waits : (match exec (.copyComplete 0) paused0 with
    | .next t => t.copies.length
    | _ => 9) = 1 := by decide +kernel
/-- The window's port on hold, of a parked cluster, and in a change stop. -/
theorem wit_WindowWritesAreChecked_ports : (((withWin win0).modCl 0 fun x => { x with port := .park }).cl 0).port = .park ∧
    (stopAt (withWin win0)).stopped 0 = true ∧ ((stopAt (withWin win0)).cl 0).port ≠ .hold ∧
    ((stopAt (withWin win0)).cl 0).port ≠ .park ∧ win0.hbm = false ∧ (withWin win0).stopped 0 = false := by decide +kernel
theorem test_window_write_lands_after_the_stop : (match exec (.windowWriteArrival .wmove pk) (stopAt (withWin win0)) with
    | .next t => (t.landing, t.cmem)
    | _ => ([], [(0, 1)])) = ([(0, .window .wmove pk)], []) := by decide +kernel
theorem test_window_write_draws_retry : (match exec (.windowWriteArrival .wmove pk)
      ((withWin win0).modCl 0 fun x => { x with port := .park }) with
    | .next t => (t.landing.length, (t.cl 0).waking, t.od odMeshRetryCount)
    | _ => (0, false, 0)) = (1, true, 1) := by decide +kernel
/-- The router that faces groom 0 has stopped; a host port is UP at a die that is cut off. -/
theorem wit_MessagesAndSignalsArrive_cut : ready0.mgmtCut 0x10 = false ∧ mbMgmtOk 0x10 = true ∧
    (ready0.modCl (groomSite 0) fun x => { x with routerFaulty := true }).mgmtCut 0x10 = true ∧
    (let s := (cut0 ready0).modBay 14 fun x => { x with aisleDown := true }
     let s := s.modBay 15 fun x => { x with aisleDown := true }
     s.hostUp = false ∧ s.linkUp 34 = true ∧ s.up = true) ∧
    (mailAt .hold).mailFrom ⟨0, 3, ⟨7, 8, 0x8000, false⟩, ⟨2, 9⟩⟩ = some 0 := by
  decide +kernel

/-! ### Witnesses: digests, rings, partitions and jobs -/

/-- A DIGEST_REQ of one entry at address 0 of the partition, whose list holds a legal entry, an illegal one, and one that is
poisoned. -/
def digReq (e : Nat) (poison : Bool) : State :=
  let s := cmdIn ready0 0x30
  { s with hbm := msetRange zB s.hbm ((s.part 0).hbmAt 0) (leBytes 32 e)
           hbmPoison := if poison then [((s.part 0).hbmAt 0 / 64, true)] else [] }
theorem wit_UpdateChipletsAndDigests_requests : ((digReq 8 false).cmdOf 5 0 0x30).isSome = true ∧
    ((digReq 8 false).unitRead ((digReq 8 false).part 0) 2 0 0) = (8, false) ∧ digOk (ready0.part 0).hbmSize 8 = true ∧
    digOk (ready0.part 0).hbmSize (1 <<< 255) = false ∧ ((digReq 8 true).unitRead ((digReq 8 true).part 0) 2 0 0).2 = true ∧
    (upcRuns (digReq 8 false)).digRuns 0 = true ∧ ((digReq 8 false).part 0).commit = none := by decide +kernel
theorem wit_UpdateChipletsAndDigests_drains : ready0.mayWrite 0 odUpcDrainReq ∧ ready0.odBit odUpcEnabled 7 = true ∧
    ready0.od (odAt odUpcState 7) = 0 := ⟨mayWrite_of (by decide +kernel), by decide +kernel, by decide +kernel⟩
theorem test_poisoned_digest_list : (match exec (.digestReq 5 0) (digReq 8 true), exec (.digestReq 5 0) (digReq (2 ^ 255) false),
      exec (.digestReq 5 0) (upcRuns (digReq 8 false)) with
    | .next t, .next u, .next v => (cplStatus t, cplStatus u, (v.part 0).digests.map (·.started))
    | _, _, _ => ([], [], [])) = ([csPoisonConsumed], [csArgInvalid], [false]) := by decide +kernel
/-- An event of code 0x4001 at time 3 stands in the log; ring 5 waits for it, and for another. -/
def logged (code : Nat) : State :=
  let s := (cmdIn ready0 (0x22 + code * 2 ^ 64 + 0xFFFF * 2 ^ 80)).modRing 5 fun x => { x with cls := 0 }
  { s with log := { s.log with recs := [⟨0x4001, unModule, some 0, false, 0, 3, 0, 0, 0, noLunit, []⟩] } }
theorem wit_RingsServeCommands_waits : (∀ c ∈ (logged 0x4001).cmds, ∃ e ∈ (logged 0x4001).watched c,
      waitMatches (logged 0x4001) c e.code e.dt e.part = true) ∧
    (∀ c ∈ (logged 0x4002).cmds, ∀ e ∈ (logged 0x4002).watched c, waitMatches (logged 0x4002) c e.code e.dt e.part = false) ∧
    ((logged 0x4001).cmdOf 5 0 0x22).isSome = true ∧ ((logged 0x4001).ring 5).cls = 0 := by decide +kernel
theorem test_standing_event_ends_the_wait : (match exec (.eventWait 5 0) (logged 0x4001) with
    | .next t => (cplStatus t, t.cmds.length)
    | _ => ([], 9)) = ([csOk], 0) := by decide +kernel
theorem wit_RingsServeCommands_hosts : (State.reset.hostUp = false) ∧
    (let s := (cut0 (ring5 true false)).modBay 14 fun x => { x with aisleDown := true }
     let s := s.modBay 15 fun x => { x with aisleDown := true }
     s.hostUp = false ∧ s.linkUp 34 = true ∧ s.up = true) := by decide +kernel
/-- A partition that has lost its index 0 when it is dissolved. -/
def lost0 : State := (ctrlSt 4 0).modPart 0 fun x => { x with lost := [0] }
theorem wit_PartitionsAreControlled_lost : (0 : Nat) ∈ (lost0.part 0).lost ∧ (lost0.part 0).sites.getD 0 none = some 0 ∧
    (lost0.part 0).ctrl = some (4, 0) := by decide +kernel
theorem test_lost_position_stays_unmapped :
    (((lost0.odSet (odSite odSiteLogical 0) 3).unmapLost 0).bay 0).unmapped = [3] := by decide +kernel
theorem wit_JobsRunTheirSteps_due : max launchSt.clk.sub ((launchSt.part 0).job.launchAt + 4 - launchSt.clk.dt) < 1000 ∧
    (List.range 1).all (fun k => !((launchSt.partTo 0 4).cclk k) || decide ((launchSt.part 0).job.launchAt ≤ (launchSt.partTo 0 4).clusterDt k)) = true ∧
    (launchSt.part 0).sites = [some 0] ∧
    1000 ≤ max launchSt.clk.sub (((launchSt.modJob 0 fun j => { j with launchDt := 5000 }).part 0).job.launchAt + 4 - launchSt.clk.dt) := by
  decide +kernel
/-- A COUNTED cluster whose counter is behind LAUNCH_DT is not due. -/
theorem wit_JobsRunTheirSteps_not_due : (let s := (launchSt.modJob 0 fun j => { j with launchDt := 0 })
    s.bootDone 0 = true) ∧ loaderOk (ready0.part 0) (BitVec.ofNat 256 0x0804A55B) = true ∧ fld (0x0804A55B : Row) 0 32 = 0x0804A55B ∧
    ((armSt 20000).modPart 0 fun x => { x with lost := [0] }).unmapped 0 ≠ 0 ∧
    ((digestSt false false).part 0).digests ≠ [] := by decide +kernel
theorem wit_JobDataCommandsComplete_paths : ((onLink ready0).odSet odDeviceIdValid 1).hasPath 7 = false ∧ routed.hasPath 9 = true ∧
    ((cmdIn ready0 0x12).cmdOf 5 0 0x12).isSome = true ∧ (BitVec.ofNat 512 (0x12 + 2 ^ 64)).getLsbD 64 = true ∧
    (BitVec.ofNat 512 (0x12 + 3 * 2 ^ 65)).getLsbD 64 = false ∧ fld (BitVec.ofNat 512 (0x12 + 3 * 2 ^ 65)) 65 12 = 3 ∧
    ready0.dieCutOff (linkDie ready0.hostPort) = false ∧ granted.clk.dt = 0 := by decide +kernel

end Sys2Proof.Tests
end

section
/-! PROOFS. A SEQ slot that breaks its encoding (R19, R169), and the IMEM_FETCH that ends a cycle in which a check has
failed (R202). -/

namespace Sys2Proof.Machine

open Sys2Proof

/-! ### The end of a cycle with causes -/

/-- An advancing core is one that issues or has run to its END. -/
theorem CoreSt.active_phase {y : CoreSt} (h : y.active = true) : (y.phase == .running || y.phase == .ended) = true := by
  simp only [CoreSt.active, Bool.and_eq_true] at h
  exact h.1.1

/-- The IMEM_FETCH that ends a cycle with causes, once its bundle has issued whole, faults the core with all of them
(R202, R203). -/
theorem exec_imemFetch_fault {s : State} {c : CoreId} (find : FetchFind) (hclk : s.cclk (c / 16) = true)
    (hact : (s.cur c).active = true) (hdone : (s.core c).bundleDone = true) (hks : (s.core c).cycleCauses ≠ []) :
    exec (.imemFetch c find) s = .next (s.coreFault c (s.core c).cycleCauses) := by
  show execImemFetch c find s = _
  have hact' : (s.core c).cur.active = true := hact
  simp [execImemFetch, coreSiteOf, CoreSt.active_phase hact', hclk, hact', hdone, hks]

/-- A cycle in which no copy has written a table has no causes but the noted ones. -/
theorem Core.cycleCauses_of_tabs_nil {x : Core} (h : x.cur.tabs = []) : x.cycleCauses = x.cur.dueCauses := by
  simp [Core.cycleCauses, Core.tabCauses, h]

/-- A noted cause is a cause of the cycle. -/
theorem Core.mem_cycleCauses_of_mem_dueCauses {x : Core} {k : Cause} (h : k ∈ x.cur.dueCauses) :
    k ∈ x.cycleCauses :=
  List.mem_append_left _ h

/-! ### A noted cause -/

section NoteCause

variable {s : State} {c : CoreId} {x : Core} {slot w code : Nat}

/-- The causes noted in a core with a failed check more. -/
theorem CoreSt.dueCauses_fail (y : CoreSt) (ks : List Cause) : (y.fail ks).dueCauses = y.dueCauses ++ ks := by
  simp [CoreSt.fail, CoreSt.dueCauses, Function.comp_def]

/-- Noting a cause leaves the clocks of the sites. -/
@[simp] theorem State.noteCause_cclk (site : SiteId) : (s.noteCause c x code slot).cclk site = s.cclk site := rfl

/-- The core in which a cause is noted, in a canonical state. -/
theorem State.core_noteCause (hw : s.wf = true) :
    (s.noteCause c x code slot).core c = { x with cur := (x.cur.fail [⟨code, x.cur.bpc, slot⟩]).actedBy slot } :=
  State.core_setCore hw c _

/-- A core that issues goes on to the end of its cycle when a cause is noted in it. -/
theorem State.active_noteCause (hw : s.wf = true) (h : s.issues c x slot w) :
    ((s.noteCause c x code slot).cur c).active = true := by
  obtain ⟨-, hready, -⟩ := h
  have hact : x.cur.active = true := by
    simp only [Core.ready, Bool.and_eq_true] at hready
    exact hready.2
  rw [State.cur, State.core_noteCause hw]
  exact hact

/-- A cause noted in a core that issues is the only one noted in its cycle. -/
theorem State.dueCauses_noteCause (hw : s.wf = true) (h : s.issues c x slot w) :
    ((s.noteCause c x code slot).core c).cur.dueCauses = [⟨code, x.cur.bpc, slot⟩] := by
  rw [State.core_noteCause hw]
  calc (x.cur.fail [⟨code, x.cur.bpc, slot⟩]).dueCauses
      = x.cur.dueCauses ++ [⟨code, x.cur.bpc, slot⟩] := CoreSt.dueCauses_fail _ _
    _ = [⟨code, x.cur.bpc, slot⟩] := by rw [State.issues_dueCauses h, List.nil_append]

/-- A cause noted in a core that issues is a cause of its cycle. -/
theorem State.mem_cycleCauses_noteCause (hw : s.wf = true) (h : s.issues c x slot w) :
    (⟨code, x.cur.bpc, slot⟩ : Cause) ∈ ((s.noteCause c x code slot).core c).cycleCauses :=
  Core.mem_cycleCauses_of_mem_dueCauses (by simp [State.dueCauses_noteCause hw h])

/-- A cause noted in a core that issues is the only one of its cycle when no copy has written a table in it. -/
theorem State.cycleCauses_noteCause (hw : s.wf = true) (h : s.issues c x slot w) (ht : x.cur.tabs = []) :
    ((s.noteCause c x code slot).core c).cycleCauses = [⟨code, x.cur.bpc, slot⟩] := by
  have htabs : ((s.noteCause c x code slot).core c).cur.tabs = [] := by
    rw [State.core_noteCause hw]
    exact ht
  rw [Core.cycleCauses_of_tabs_nil htabs, State.dueCauses_noteCause hw h]

/-- Once every slot of its bundle has issued, a core in which a cause is noted faults at the IMEM_FETCH that ends its
cycle (R202). -/
theorem State.exec_imemFetch_noteCause (hw : s.wf = true) (h : s.issues c x slot w) (hclk : s.cclk (c / 16) = true)
    (hdone : ((s.noteCause c x code slot).cur c).slotsDone = true) (find : FetchFind) :
    exec (.imemFetch c find) (s.noteCause c x code slot) =
      .next ((s.noteCause c x code slot).coreFault c ((s.noteCause c x code slot).core c).cycleCauses) :=
  exec_imemFetch_fault find hclk (State.active_noteCause hw h) (Bool.or_eq_true_iff.mpr (.inr hdone))
    (List.ne_nil_of_mem (State.mem_cycleCauses_noteCause hw h))

end NoteCause

/-! ### The scalar operations of the SEQ slot -/

section Scalar

variable (c : CoreId) (f : SeqSlot) (s : State)

/-! Each scalar command is a scalar operation of its code (R170). -/

theorem exec_movi : exec (.movi c f) s = seqArith 0x01 c f s fun _ _ => seqSx f := rfl
theorem exec_orhi : exec (.orhi c f) s = seqArith 0x02 c f s fun a _ => a ||| (f.imm.zeroExtend 32 <<< 16) := rfl
theorem exec_seqAdd : exec (.seqAdd c f) s = seqArith 0x03 c f s fun a b => a + b := rfl
theorem exec_seqSub : exec (.seqSub c f) s = seqArith 0x04 c f s fun a b => a - b := rfl
theorem exec_addi : exec (.addi c f) s = seqArith 0x05 c f s fun a _ => a + seqSx f := rfl
theorem exec_seqMul : exec (.seqMul c f) s = seqArith 0x06 c f s fun a b => a * b := rfl
theorem exec_seqAnd : exec (.seqAnd c f) s = seqArith 0x07 c f s fun a b => a &&& b := rfl
theorem exec_seqOr : exec (.seqOr c f) s = seqArith 0x08 c f s fun a b => a ||| b := rfl
theorem exec_seqXor : exec (.seqXor c f) s = seqArith 0x09 c f s fun a b => a ^^^ b := rfl
theorem exec_shli : exec (.shli c f) s = seqArith 0x0A c f s fun a _ => a <<< (f.imm.toNat % 32) := rfl
theorem exec_shri : exec (.shri c f) s = seqArith 0x0B c f s fun a _ => a >>> (f.imm.toNat % 32) := rfl
theorem exec_srai : exec (.srai c f) s = seqArith 0x0C c f s fun a _ => a.sshiftRight (f.imm.toNat % 32) := rfl
theorem exec_slt : exec (.slt c f) s = seqArith 0x0D c f s fun a b => if a.slt b then 1 else 0 := rfl
theorem exec_sltu : exec (.sltu c f) s = seqArith 0x0E c f s fun a b => if a.ult b then 1 else 0 := rfl

end Scalar

/-- A scalar operation with a broken encoding notes cause ENCODING, whatever it computes (R19, R169). -/
theorem seqArith_broken {s : State} {c : CoreId} {x : Core} {op : Nat} {f : SeqSlot} (g : W32 → W32 → W32)
    (h : s.issues c x 2 (seqWord op f)) (he : seqEncOk op f = false) :
    seqArith op c f s g = .next (s.noteCause c x 0x01 2) :=
  congrArg Host.Outcome.next (State.slotOp_broken h he)

/-- Each command of the table of scalar operations is a scalar operation of its code (R170). -/
theorem exec_seqRules {r : (CoreId → SeqSlot → Instr) × Nat × (SeqSlot → W32 → W32 → W32)}
    (hr : r ∈ seqRules) (c : CoreId) (f : SeqSlot) (s : State) : ∃ g, exec (r.1 c f) s = seqArith r.2.1 c f s g := by
  simp only [seqRules, List.mem_cons, List.not_mem_nil, or_false] at hr
  rcases hr with rfl | rfl | rfl | rfl | rfl | rfl | rfl | rfl | rfl | rfl | rfl | rfl | rfl | rfl
  · exact ⟨_, exec_movi c f s⟩
  · exact ⟨_, exec_orhi c f s⟩
  · exact ⟨_, exec_seqAdd c f s⟩
  · exact ⟨_, exec_seqSub c f s⟩
  · exact ⟨_, exec_addi c f s⟩
  · exact ⟨_, exec_seqMul c f s⟩
  · exact ⟨_, exec_seqAnd c f s⟩
  · exact ⟨_, exec_seqOr c f s⟩
  · exact ⟨_, exec_seqXor c f s⟩
  · exact ⟨_, exec_shli c f s⟩
  · exact ⟨_, exec_shri c f s⟩
  · exact ⟨_, exec_srai c f s⟩
  · exact ⟨_, exec_slt c f s⟩
  · exact ⟨_, exec_sltu c f s⟩

/-- Settles O9: the slot notes its cause at issue, and the IMEM_FETCH that ends the cycle faults the core with it. -/
theorem brokenEncodingFaultsCore : Obligations.BrokenEncodingFaultsCore := by
  intro r hr c f s x h he
  obtain ⟨g, hg⟩ := exec_seqRules hr c f s
  exact ⟨hg.trans (seqArith_broken g h he), fun hw hclk hdone =>
    ⟨State.exec_imemFetch_noteCause hw h hclk hdone, State.mem_cycleCauses_noteCause hw h,
      State.cycleCauses_noteCause hw h⟩⟩

end Sys2Proof.Machine
end

section
/-! PROOFS. Messages, signals and the host's post records on their way to their channels (R174, R186, R334 to R341, R363,
R364, R387). -/

namespace Sys2Proof.Machine

open Sys2Proof

/-! ### Messages -/

section Mail

variable {s : State} {i : Nat} {m : Mail}

/-- A message waits while its RETRY is not due (R364). -/
theorem exec_mailboxArrival_early (h : s.mails[i]? = some m) (hd : s.clk.dt < m.retry.due) :
    exec (.mailboxArrival i) s = .next s := by
  show execMailboxArrival i s = _
  simp [execMailboxArrival, h, hd]

/-- Whether the partition of a core's cluster is in a reset (R332). -/
theorem ownerReset_iff {c : CoreId} :
    ((s.ownerOf c).map fun o => (s.part o.1).resetAt.isSome).getD false = true ↔
      ∃ p k, s.ownerOf c = some (p, k) ∧ (s.part p).resetAt.isSome = true := by
  cases s.ownerOf c with
  | none => simp
  | some o => simp [Prod.ext_iff]

/-- A request that a dark port discards counts as dark, or as unreachable where the router has stopped (R363, R367). -/
theorem State.portDrop_dark {site : SiteId} (h : (s.cl site).port = .dark) :
    s.portDrop site = s.odAdd (if s.routerStopped site then odMeshUnreachDropCount else odMeshDarkDropCount) 1 := by
  unfold State.portDrop
  split <;> rfl

/-- A message, no acknowledgement, enters its channel and adds 1 to flag 60 + channel (R174). -/
theorem State.mailIn_message (h : m.item.ack = false) :
    s.mailIn m = (s.modBoth m.dst fun c =>
      { c with mb := mset (fun _ => []) c.mb m.chan (mget (fun _ => []) c.mb m.chan ++ [m.item]) }).incFlag m.dst
        (60 + m.chan) 1 := by
  simp [State.mailIn, h]

variable (h : s.mails[i]? = some m) (hfirst : ∀ x ∈ s.mails.take i, ¬ (x.dst = m.dst ∧ x.chan = m.chan))
  (hdue : m.retry.due ≤ s.clk.dt)
include h hfirst hdue

/-- The oldest message of its channel that is due is discarded where its receiver is in a reset (R341). -/
theorem exec_mailboxArrival_reset
    (hr : (∃ p k, s.ownerOf m.dst = some (p, k) ∧ (s.part p).resetAt.isSome = true) ∨
      (s.cl (m.dst / 16)).port = .reset) :
    exec (.mailboxArrival i) s = .next (({ s with mails := s.mails.eraseIdx i } : State).discardMail m) := by
  have hany : ((s.mails.take i).any fun x => x.dst == m.dst && x.chan == m.chan) = false := by simpa using hfirst
  have hr' : (s.cl (coreSiteOf m.dst)).port = .reset ∨
      ((s.ownerOf m.dst).map fun o => (s.part o.1).resetAt.isSome).getD false = true :=
    hr.symm.imp_right ownerReset_iff.mpr
  show execMailboxArrival i s = _
  simp only [execMailboxArrival, h, hany, Nat.not_lt.mpr hdue, decide_false, Bool.or_false, Bool.false_eq_true, if_false]
  rw [if_pos ((Bool.or_eq_true _ _).mpr (hr'.imp_left decide_eq_true))]

/-- One whose receiver is in no reset goes by the port of the receiver's cluster (R363, R364, R387). -/
theorem exec_mailboxArrival_port (hr : ¬ ∃ p k, s.ownerOf m.dst = some (p, k) ∧ (s.part p).resetAt.isSome = true)
    (hp : (s.cl (m.dst / 16)).port ≠ .reset) :
    exec (.mailboxArrival i) s = .next (
      let u : State := { s with mails := s.mails.eraseIdx i }
      if (s.cl (m.dst / 16)).port = .hold ∨ (s.cl (m.dst / 16)).port = .park then
        (if s.mailFrom m = some (m.dst / 16) then s.wakePort (m.dst / 16)
          else (({ s with mails := s.mails.set i { m with retry := m.retry.again s.clk.dt } } : State).odAdd
            odMeshRetryCount 1).wakePort (m.dst / 16))
      else if (s.cl (m.dst / 16)).port = .dark then u.portDrop (m.dst / 16)
      else if s.stopped (m.dst / 16) then u.landLater (m.dst / 16) (.mail m)
      else u.mailIn m) := by
  have hany : ((s.mails.take i).any fun x => x.dst == m.dst && x.chan == m.chan) = false := by simpa using hfirst
  have hr' : ¬ ((s.cl (coreSiteOf m.dst)).port = .reset ∨
      ((s.ownerOf m.dst).map fun o => (s.part o.1).resetAt.isSome).getD false = true) :=
    not_or.mpr ⟨hp, mt ownerReset_iff.mp hr⟩
  show execMailboxArrival i s = _
  simp only [execMailboxArrival, h, hany, Nat.not_lt.mpr hdue, decide_false, Bool.or_false, Bool.false_eq_true, if_false]
  rw [if_neg fun hor => hr' (((Bool.or_eq_true _ _).mp hor).imp_left of_decide_eq_true)]
  rfl

/-- The messages (R174, R337, R341, R363, R364, R387). -/
theorem exec_mailboxArrival_cases :
    let site := m.dst / 16
    let us := if m.retry.us = 0 then 1 else min 64 (2 * m.retry.us)
    let gone := if s.routerStopped site then odMeshUnreachDropCount else odMeshDarkDropCount
    let inReset := ∃ p k, s.ownerOf m.dst = some (p, k) ∧ (s.part p).resetAt.isSome = true
    let u : State := { s with mails := s.mails.eraseIdx i }
    (¬ inReset → (s.cl site).port = .hold ∨ (s.cl site).port = .park →
      (s.mailFrom m = some site → exec (.mailboxArrival i) s = .next (s.wakePort site)) ∧
      (s.mailFrom m ≠ some site → exec (.mailboxArrival i) s = .next ((({ s with
        mails := s.mails.set i { m with retry := ⟨us, s.clk.dt + 1000 * us⟩ } } : State).odAdd
          odMeshRetryCount 1).wakePort site))) ∧
    (¬ inReset → (s.cl site).port = .opened → s.stopped site = true →
      exec (.mailboxArrival i) s = .next { u with landing := s.landing ++ [(site, .mail m)] }) ∧
    (¬ inReset → (s.cl site).port = .dark → exec (.mailboxArrival i) s = .next (u.odAdd gone 1)) ∧
    (inReset ∨ (s.cl site).port = .reset → exec (.mailboxArrival i) s = .next (u.discardMail m)) ∧
    (¬ inReset → (s.cl site).port = .opened → s.stopped site = false → m.item.ack = false →
      exec (.mailboxArrival i) s = .next ((u.modBoth m.dst fun c =>
        { c with mb := mset (fun _ => []) c.mb m.chan (mget (fun _ => []) c.mb m.chan ++ [m.item]) }).incFlag m.dst
          (60 + m.chan) 1)) := by
  intro site us gone inReset u
  have key := fun hr (port : PortSt) (hp : (s.cl site).port = port) (hne : port ≠ .reset) =>
    exec_mailboxArrival_port h hfirst hdue hr (hp ▸ hne)
  refine ⟨fun hr hp => ?_, fun hr hp hs => ?_, fun hr hp => ?_, exec_mailboxArrival_reset h hfirst hdue,
    fun hr hp hs ha => ?_⟩
  · have hport := exec_mailboxArrival_port h hfirst hdue hr (by rcases hp with hp | hp <;> simp [site, hp] at hp ⊢)
    constructor <;> intro hf
    · rw [hport, if_pos hp, if_pos hf]
    · rw [hport, if_pos hp, if_neg hf]
      rfl
  · rw [key hr _ hp (by decide), if_neg (by rw [hp]; decide), if_neg (by rw [hp]; decide), if_pos hs]
    rfl
  · rw [key hr _ hp (by decide), if_neg (by rw [hp]; decide), if_pos hp]
    exact congrArg _ (State.portDrop_dark hp)
  · rw [key hr _ hp (by decide), if_neg (by rw [hp]; decide), if_neg (by rw [hp]; decide), if_neg (ne_true_of_eq_false hs)]
    exact congrArg _ (State.mailIn_message ha)

end Mail

/-! ### Signals and flags -/

section Signals

variable {s : State} {i : Nat} {g : Signal}

/-- A signal waits while its RETRY is not due (R364). -/
theorem exec_signalDelivery_early (h : s.signals[i]? = some g)
    (hd : s.clk.dt < g.retry.due) : exec (.signalDelivery i) s = .next s := by
  show execSignalDelivery i s = _
  simp [execSignalDelivery, h, hd]

/-- What a signal that is due does at its port (R186, R219, R363, R364, R387). -/
theorem exec_signalDelivery_due (h : s.signals[i]? = some g) (hdue : g.retry.due ≤ s.clk.dt) :
    exec (.signalDelivery i) s = .next (
      let u : State := { s with signals := s.signals.eraseIdx i }
      if (s.cl (g.dst / 16)).port = .hold ∨ (s.cl (g.dst / 16)).port = .park then
        (if g.src / 16 = g.dst / 16 then s.wakePort (g.dst / 16)
          else (({ s with signals := s.signals.set i { g with retry := g.retry.again s.clk.dt } } : State).odAdd
            odMeshRetryCount 1).wakePort (g.dst / 16))
      else if (s.cl (g.dst / 16)).port = .opened then
        (if s.stopped (g.dst / 16) then u.landLater (g.dst / 16) (.signal g)
          else u.incFlag g.dst g.flag (BitVec.ofNat 32 g.inc))
      else u.portDrop (g.dst / 16)) := by
  show execSignalDelivery i s = _
  simp only [execSignalDelivery, h, if_neg (Nat.not_lt.mpr hdue)]
  rfl

/-- The signals (R186, R219, R363, R364, R387). -/
theorem exec_signalDelivery_cases (h : s.signals[i]? = some g) (hdue : g.retry.due ≤ s.clk.dt) :
    let site := g.dst / 16
    let us := if g.retry.us = 0 then 1 else min 64 (2 * g.retry.us)
    let gone := if s.routerStopped site then odMeshUnreachDropCount else odMeshDarkDropCount
    let u : State := { s with signals := s.signals.eraseIdx i }
    ((s.cl site).port = .opened → s.stopped site = false →
      exec (.signalDelivery i) s = .next (u.incFlag g.dst g.flag (BitVec.ofNat 32 g.inc))) ∧
    ((s.cl site).port = .opened → s.stopped site = true →
      exec (.signalDelivery i) s = .next { u with landing := s.landing ++ [(site, .signal g)] }) ∧
    ((s.cl site).port = .hold ∨ (s.cl site).port = .park →
      (g.src / 16 = site → exec (.signalDelivery i) s = .next (s.wakePort site)) ∧
      (g.src / 16 ≠ site → exec (.signalDelivery i) s = .next ((({ s with
        signals := s.signals.set i { g with retry := ⟨us, s.clk.dt + 1000 * us⟩ } } : State).odAdd
          odMeshRetryCount 1).wakePort site))) ∧
    ((s.cl site).port = .dark → exec (.signalDelivery i) s = .next (u.odAdd gone 1)) := by
  intro site us gone u
  rw [exec_signalDelivery_due h hdue]
  refine ⟨fun hp hs => ?_, fun hp hs => ?_, fun hp => ⟨fun hf => ?_, fun hf => ?_⟩, fun hp => ?_⟩
  · rw [if_neg (by rw [hp]; decide), if_pos hp, if_neg (ne_true_of_eq_false hs)]
  · rw [if_neg (by rw [hp]; decide), if_pos hp, if_pos hs]
    rfl
  · rw [if_pos hp, if_pos hf]
  · rw [if_pos hp, if_neg hf]
    rfl
  · rw [if_neg (by rw [hp]; decide), if_neg (by rw [hp]; decide)]
    exact congrArg _ (State.portDrop_dark hp)

end Signals

/-- A request at a parked port wakes the cluster; one at another port does not (R363). -/
theorem State.wakePort_cases (s : State) (site : SiteId) :
    ((s.cl site).port = .park → s.wakePort site = s.modCl site fun x => { x with waking := true }) ∧
      ((s.cl site).port ≠ .park → s.wakePort site = s) :=
  ⟨fun h => if_pos h, fun h => if_neg h⟩

/-- An increment of a flag is noted in a core that advances, for the end of its cycle, and takes effect at once in another
(R186). -/
theorem State.incFlag_cases (s : State) (c : CoreId) (flag : Nat) (v : W32) :
    ((s.cur c).active = true → s.incFlag c flag v = s.modBoth c fun x => { x with fInc := x.fInc ++ [(flag, v)] }) ∧
      ((s.cur c).active = false → s.incFlag c flag v = s.modBoth c fun x =>
        { x with flags := mset zW x.flags flag (mget zW x.flags flag + v) }) := by
  constructor <;> intro h <;> simp [State.incFlag, h]

/-! ### The records of the host -/

/-- A field of a field, from the `k`th bit on. -/
theorem fld_div {n : Nat} (w : BitVec n) (lo k m : Nat) : fld w lo (k + m) / 2 ^ k = fld w (lo + k) m := by
  simp only [fld, BitVec.extractLsb'_toNat, Nat.shiftRight_eq_div_pow, Nat.pow_add, Nat.mod_mul_right_div_self,
    Nat.div_div_eq_div_mul]

/-- The low bits of a field. -/
theorem fld_mod {n : Nat} (w : BitVec n) (lo k m : Nat) : fld w lo (k + m) % 2 ^ k = fld w lo k := by
  simp only [fld, BitVec.extractLsb'_toNat, Nat.pow_add, Nat.mod_mul_right_mod]

section Host

variable {s : State} {w : BitVec 128} {route : Nat}

/-! The fields of the target of a record (R339). -/

theorem target_kind : fld w 96 16 / 16384 = fld w 110 2 := fld_div w 96 14 2
theorem target_rsv : fld w 96 16 / 8192 % 2 = fld w 109 1 :=
  (congrArg (· % 2 ^ 1) (fld_div w 96 13 3)).trans (fld_mod w 109 1 2)
theorem target_high : fld w 96 16 / 256 % 64 = fld w 104 6 :=
  (congrArg (· % 2 ^ 6) (fld_div w 96 8 8)).trans (fld_mod w 104 6 2)
theorem target_cluster : fld w 96 16 / 16 % 512 = fld w 100 9 :=
  (congrArg (· % 2 ^ 9) (fld_div w 96 4 12)).trans (fld_mod w 100 9 3)
theorem target_core : fld w 96 16 % 16 = fld w 96 4 := fld_mod w 96 4 12
theorem target_mgmt : fld w 96 16 % 256 = fld w 96 8 := fld_mod w 96 8 8

/-- The upper half word of a record without reserved bits says whether it is an acknowledgement. -/
theorem record_ack {b : Bool} (h : w.extractLsb' 112 16 = if b then 1 else 0) :
    w[112] = b ∧ fld w 113 15 = 0 := by
  constructor
  · have h0 : (w.extractLsb' 112 16).getLsbD 0 = b := by rw [h]; cases b <;> rfl
    simpa using h0
  · have h1 := (fld_div w 112 1 15).symm
    rw [h1, fld, h]
    cases b <;> rfl

/-- A bit that is clear is a field of value 0. -/
theorem fld_one_of_clear {n i : Nat} {x : BitVec n} (h : x.getLsbD i = false) : fld x i 1 = 0 := by
  have : x.extractLsb' i 1 = 0 := by
    ext j hj
    obtain rfl : j = 0 := by omega
    simpa using h
  simp [fld, this]

/-- A record at a module that serves the host is taken (R339). -/
theorem State.hostPostOp_served (hup : s.up = true) (hh : s.hostUp = true) (ack : Bool) :
    s.hostPostOp route w ack = s.hostRecord route w ack := by
  simp [State.hostPostOp, hup, hh]

/-- A record while no host port serves is lost (R54, R442, R476). -/
theorem State.hostPostOp_unserved (hh : s.hostUp = false) (ack : Bool) :
    s.hostPostOp route w ack = s.hostLost route := by
  simp [State.hostPostOp, hh]

/-- The message of the host that waits alone takes a place of its channel and sets off to its core (R337, R338). -/
theorem State.retryHost_core {snd c : Nat} {i : MbItem} (hc : c < 20000) (hheld : s.mbHeld snd c < 4)
    (hw : s.hostWait = []) :
    ({ s with hostWait := s.hostWait ++ [(snd, c, i)] } : State).retryHost = { s with
      posts := mset zN s.posts (mbKey snd c) (s.mbHeld snd c + 1)
      mails := s.mails ++ [⟨c, 0, i, Retry.zero⟩] } := by
  cases s
  simp_all [State.retryHost, State.mbTake, State.mbHeld]

/-- The message of the host that waits alone takes a place of its channel and enters that of its management receiver. -/
theorem State.retryHost_mgmt {snd rcv : Nat} {i : MbItem} (hc : 20000 ≤ rcv) (hheld : s.mbHeld snd rcv < 4)
    (hw : s.hostWait = []) :
    ({ s with hostWait := s.hostWait ++ [(snd, rcv, i)] } : State).retryHost =
      ({ s with posts := mset zN s.posts (mbKey snd rcv) (s.mbHeld snd rcv + 1) } : State).mgmtPut (rcv - 20200)
        (snd - 20000) i := by
  have hc' : ¬ rcv < 20000 := by omega
  cases s
  simp_all [State.retryHost, State.mbTake, State.mbHeld]

/-- A record of a partition's host for a core that its map has (R337, R339). -/
theorem State.hostRecord_core {p site : Nat} {b : Bool} (hp : p < 32) (hk : w.extractLsb' 110 2 = 2)
    (hr : w.getLsbD 109 = false) (hb : w.extractLsb' 112 16 = if b then 1 else 0)
    (hs : (s.part p).sites[fld w 100 9]? = some (some site)) :
    let c := 16 * site + fld w 96 4
    s.hostRecord (p + 1) w b =
      if b then
        if s.mbHeld c (mbHu p) = 0 then s
        else { s with mails := s.mails ++ [⟨c, 0, ⟨0, w.extractLsb' 64 32, srcHu, true⟩, Retry.zero⟩] }
      else ({ s with hostWait := s.hostWait ++
        [(mbHu p, c, ⟨w.extractLsb' 0 64, w.extractLsb' 64 32, srcHu, false⟩)] } : State).retryHost := by
  obtain ⟨hack, hz⟩ := record_ack hb
  have hkind : fld w 110 2 = 2 := by simp [fld, hk]
  have hroute : ¬ 32 < p + 1 := by omega
  have hroute' : p + 1 ≤ 32 := by omega
  simp [State.hostRecord, target_kind, target_rsv, target_cluster, target_core, hkind, hack, hz, fld_one_of_clear hr,
    List.getD_eq_getElem?_getD, hs, hroute, hroute']

/-- A record of class HP for a management receiver that exists (R340). -/
theorem State.hostRecord_mgmt (hz : w.extractLsb' 112 16 = 0) (hk : w.extractLsb' 110 2 = 0) (hh : fld w 104 6 = 0)
    (hok : mbMgmtOk (fld w 96 8) = true) :
    s.hostRecord 0 w false = ({ s with hostWait := s.hostWait ++
      [(mbHp, mbMgmt (fld w 96 8), ⟨w.extractLsb' 0 64, w.extractLsb' 64 32, srcHp, false⟩)] } : State).retryHost := by
  obtain ⟨hack, hz⟩ := record_ack (b := false) hz
  have hkind : fld w 110 2 = 0 := by simp [fld, hk]
  simp [State.hostRecord, target_kind, target_rsv, target_high, target_mgmt, hkind, hack, hz, hh, hok]

/-- A record of a class that the manual reserves is counted (R339). -/
theorem State.hostRecord_class (hroute : route ≤ 32) (hz : w.extractLsb' 112 16 = 0)
    (hk : w.extractLsb' 110 2 = 1 ∨ w.extractLsb' 110 2 = 3) :
    s.hostRecord route w false = s.odAdd odHostClassDropCount 1 := by
  obtain ⟨hack, hz⟩ := record_ack (b := false) hz
  have hkind : fld w 110 2 = 1 ∨ fld w 110 2 = 3 := hk.imp (by simp +contextual [fld]) (by simp +contextual [fld])
  rcases hkind with hkind | hkind <;>
    simp [State.hostRecord, target_kind, hkind, hack, hz, Nat.not_lt.mpr hroute]

/-- A packet of a host is lost without a count while both host ports are down. -/
theorem State.hostLost_down (ha : s.linkUp 34 = false) (hb : s.linkUp 35 = false) : s.hostLost route = s := by
  simp [State.hostLost, ha, hb]

/-- While a host port is UP at a die that is cut off, a packet of a host is counted (R54, R442). -/
theorem State.hostLost_cut (hup : s.up = true) (hr : route ≤ 32) (hh : s.hostUp = false)
    (hl : s.linkUp 34 = true ∨ s.linkUp 35 = true) : s.hostLost route = s.odAdd odLinkIsolatedDropCount 1 := by
  simp [State.hostLost, hup, hr, hh, hl]

/-- No host port serves while both are down. -/
theorem State.hostUp_down (ha : s.linkUp 34 = false) (hb : s.linkUp 35 = false) : s.hostUp = false := by
  simp [State.hostUp, ha, hb]

end Host

/-- Settles O39: a message and a signal go by the port of their cluster, a record of the host by its class and by the room of
its channel. -/
theorem messagesAndSignalsArrive : Obligations.MessagesAndSignalsArrive := by
  intro s
  refine ⟨fun i m h hd => exec_mailboxArrival_early h hd, fun i m h hf hd => exec_mailboxArrival_cases h hf hd,
    fun i g h hd => exec_signalDelivery_early h hd, fun i g h hd => exec_signalDelivery_cases h hd,
    s.wakePort_cases, s.incFlag_cases, ?_, ?_, ?_, ?_⟩
  · intro p site w hp hk hr hz hs hup hh c hw hheld hc
    show Host.Outcome.next (s.hostPostOp (p + 1) w false) = _
    rw [State.hostPostOp_served hup hh, State.hostRecord_core (b := false) hp hk hr hz hs]
    exact congrArg _ (State.retryHost_core hc hheld hw)
  · intro r ch w hz hk hh hr hok hch hup hhost hw hheld u
    subst hr
    have hput : s.hostPostOp 0 w false =
        u.mgmtPut (fld w 96 8) 100 ⟨w.extractLsb' 0 64, w.extractLsb' 64 32, srcHp, false⟩ := by
      rw [State.hostPostOp_served hup hhost, State.hostRecord_mgmt hz hk hh hok,
        State.retryHost_mgmt (by unfold mbMgmt; omega) hheld hw]
      simp [mbMgmt, mbHp, u]
    constructor <;> intro hcut <;> show Host.Outcome.next (s.hostPostOp 0 w false) = _
    · have hcut' : u.mgmtCut (fld w 96 8) = true := hcut
      simp [hput, State.mgmtPut, hch, hcut']
    · have hcut' : u.mgmtCut (fld w 96 8) = false := hcut
      simp [hput, State.mgmtPut, hch, hcut', u]
  · intro p site w hp hk hr hz hs hup hh c hheld
    show Host.Outcome.next (s.hostPostOp (p + 1) w true) = _
    rw [State.hostPostOp_served hup hh, State.hostRecord_core (b := true) hp hk hr hz hs]
    exact congrArg _ ((if_pos rfl).trans (if_neg hheld))
  · intro route w hroute hup
    refine ⟨fun hh hz hk => ?_, fun ha hb => ?_, fun hh hl => ?_⟩
    · show Host.Outcome.next (s.hostPostOp route w false) = _
      rw [State.hostPostOp_served hup hh, State.hostRecord_class hroute hz hk]
    · have hlost := fun ack => (State.hostPostOp_unserved (route := route) (w := w) (State.hostUp_down ha hb) ack).trans
        (State.hostLost_down ha hb)
      exact ⟨congrArg _ (hlost false), congrArg _ (hlost true)⟩
    · have hlost := fun ack => (State.hostPostOp_unserved (w := w) hh ack).trans (State.hostLost_cut hup hroute hh hl)
      exact ⟨congrArg _ (hlost false), congrArg _ (hlost true)⟩

end Sys2Proof.Machine
end

section
/-! PROOFS. What the shared operations leave alone: the memories, partitions, windows and copies under what happens to a
cluster site and to the log, and every entry of the dictionary but those that count what happens. -/

namespace Sys2Proof.Machine

open Sys2Proof

/-! ### Folds -/

/-- A fold of steps that keep a part of the state keeps it. -/
theorem foldl_keeps {σ β γ : Type} (g : σ → γ) {f : σ → β → σ} (hf : ∀ s b, g (f s b) = g s) (l : List β) :
    ∀ s, g (l.foldl f s) = g s := by
  induction l with
  | nil => exact fun _ => rfl
  | cons b l ih => exact fun s => (ih (f s b)).trans (hf s b)

/-! ### Entries of the dictionary -/

/-- The entries that shared operations change on the way: counters of losses, of the log and of what is offered, and the
positions of the sites. -/
def noisyKey (k : Nat) : Bool :=
  [odEarlyEventsLost, odMeshUnreachDropCount, odMeshRetryCount, odMeshDarkDropCount, odMeshResetDropCount, odStudbookCount,
    odClustersOffered, odSparesUsable, odReplaceFlag, odMbDropCount, odStepLostCount, odLinkDropAgeCount].contains k ||
    (decide (0x381000 ≤ k) && decide (k < 0x382000))

/-- From a canonical dictionary to a canonical one in which every entry but the noisy ones is as it was. -/
def State.Quiet (s t : State) : Prop :=
  mwf odDefault s.dict.val = true →
    mwf odDefault t.dict.val = true ∧ ∀ k, noisyKey k = false → t.od k = s.od k

/-- The dictionary of a canonical state is canonical. -/
theorem State.wf_dict {s : State} (h : s.wf = true) : mwf odDefault s.dict.val = true := by
  obtain ⟨-, -, -, -, -, -, h, -⟩ := State.wf_iff.mp h
  exact h

/-- A written entry reads as what was written. -/
theorem State.od_odSet_same {s : State} (h : mwf odDefault s.dict.val = true) (k v : Nat) : (s.odSet k v).od k = v :=
  mget_mset_same h

/-- Another entry reads as before. -/
theorem State.od_odSet_other {s : State} (h : mwf odDefault s.dict.val = true) {k j : Nat} (v : Nat) (hj : j ≠ k) :
    (s.odSet k v).od j = s.od j := mget_mset_other h hj

/-- A write keeps the dictionary canonical. -/
theorem State.odSet_dictWf {s : State} (h : mwf odDefault s.dict.val = true) (k v : Nat) :
    mwf odDefault (s.odSet k v).dict.val = true := mset_wf k v h

theorem State.Quiet.refl (s : State) : State.Quiet s s := fun h => ⟨h, fun _ _ => rfl⟩

theorem State.Quiet.trans {s t u : State} (h : State.Quiet s t) (k : State.Quiet t u) : State.Quiet s u := by
  intro hs
  obtain ⟨ht, e⟩ := h hs
  obtain ⟨hu, e'⟩ := k ht
  exact ⟨hu, fun j hj => (e' j hj).trans (e j hj)⟩

/-- What leaves the dictionary is quiet. -/
theorem State.Quiet.of_val {s t : State} (h : t.dict.val = s.dict.val) : State.Quiet s t := by
  intro hs
  exact ⟨h ▸ hs, fun k _ => by simp only [State.od, h]⟩

/-- A write of a noisy entry is quiet. -/
theorem State.Quiet.odSet (s : State) {j : Nat} (hj : noisyKey j = true) (v : Nat) : State.Quiet s (s.odSet j v) := by
  intro hs
  refine ⟨State.odSet_dictWf hs j v, fun k hk => State.od_odSet_other hs v ?_⟩
  rintro rfl
  simp [hj] at hk

theorem State.Quiet.odAdd (s : State) {j : Nat} (hj : noisyKey j = true) (n : Nat) : State.Quiet s (s.odAdd j n) :=
  State.Quiet.odSet s hj _

theorem State.Quiet.foldl {β : Type} {f : State → β → State} (hf : ∀ s b, State.Quiet s (f s b)) (l : List β) :
    ∀ s, State.Quiet s (l.foldl f s) := by
  induction l with
  | nil => exact fun s => State.Quiet.refl s
  | cons b l ih => exact fun s => (hf s b).trans (ih (f s b))

/-- Sending to the card counts what the mesh cannot carry. -/
theorem State.toCard_quiet (s : State) (m : HostMsg) : State.Quiet s (s.toCard m) := by
  unfold State.toCard; split
  · exact State.Quiet.odAdd s rfl _
  · exact State.Quiet.of_val rfl

theorem State.intr_quiet (s : State) (r : Nat) : State.Quiet s (s.intr r) := by
  unfold State.intr; dsimp only
  split
  · exact State.Quiet.refl s
  · split
    · exact State.Quiet.trans (t := s.modRing r fun x => { x with intrAt := s.clk.dt + 1, intrDue := false })
        (State.Quiet.of_val rfl) (State.toCard_quiet _ _)
    · exact State.Quiet.of_val rfl

theorem State.writeCpl_quiet (s : State) (c : RingCmd) (status : Nat) (res : Results) :
    State.Quiet s (s.writeCpl c status res) := by
  unfold State.writeCpl State.hostWrite; dsimp only
  refine State.Quiet.trans ?_ (State.intr_quiet _ _)
  refine State.Quiet.trans ?_ (State.toCard_quiet _ _)
  exact State.Quiet.of_val rfl

theorem State.alertPort_val (s : State) (port code : Nat) (seq : W32) :
    (s.alertPort port code seq).dict.val = s.dict.val := by
  unfold State.alertPort; dsimp only
  split
  · split <;> rfl
  · rfl

theorem State.alert_val (s : State) (code : Nat) (seq : W32) : (s.alert code seq).dict.val = s.dict.val := by
  unfold State.alert; dsimp only
  split
  · simp only [State.alertPort_val]
  · rfl

theorem State.appendEv_quiet (s : State) (code : Nat) (un : UnitId) (part : Option Nat) (lunit : Nat)
    (payload : List Nat) : State.Quiet s (s.appendEv code un part lunit payload).1 := by
  unfold State.appendEv; dsimp only
  split
  · exact State.Quiet.of_val rfl
  · split
    · refine State.Quiet.trans ?_ (State.Quiet.odAdd _ rfl _)
      exact State.Quiet.of_val rfl
    · exact State.Quiet.of_val (State.alert_val _ _ _)

theorem State.logEv_quiet (s : State) (code : Nat) (un : UnitId) (part : Option Nat) (lunit : Nat)
    (payload : List Nat) : State.Quiet s (s.logEv code un part lunit payload) := by
  have h := State.appendEv_quiet s code un part lunit payload
  unfold State.logEv
  generalize s.appendEv code un part lunit payload = x at h
  obtain ⟨a, b⟩ := x
  cases b
  · exact h
  · exact h.trans (State.Quiet.foldl (fun s c => State.writeCpl_quiet s c _ _) _ _)

theorem State.complete_quiet (s : State) (c : RingCmd) (status : Nat) (res : Results) :
    State.Quiet s (s.complete c status res) := by
  unfold State.complete; dsimp only
  split
  · refine (State.writeCpl_quiet s c status res).trans (State.Quiet.trans ?_ (State.logEv_quiet _ _ _ _ _ _))
    exact State.Quiet.of_val rfl
  · exact State.writeCpl_quiet _ _ _ _

/-! ### What stays while sites, the log and the clocks go on -/

/-- HBM with its marks, the partitions, the windows and the copies. -/
def State.still (s : State) : SMap Byte × SMap Bool × SMap Bool × SMap Part × SMap (Option Window) × List CopySt :=
  (s.hbm, s.hbmPoison, s.hbmOvf, s.parts, s.windows, s.copies)

theorem State.LogFrame.still {s t : State} (h : State.LogFrame s t) : t.still = s.still := by
  unfold State.LogFrame at h; rw [h]; rfl

theorem State.still_hbm {s t : State} (h : t.still = s.still) : t.hbm = s.hbm := congrArg (·.1) h
theorem State.still_parts {s t : State} (h : t.still = s.still) : t.parts = s.parts := congrArg (·.2.2.2.1) h
theorem State.still_windows {s t : State} (h : t.still = s.still) : t.windows = s.windows := congrArg (·.2.2.2.2.1) h
theorem State.still_copies {s t : State} (h : t.still = s.still) : t.copies = s.copies := congrArg (·.2.2.2.2.2) h

/-- The rings and the started commands. -/
def State.orders (s : State) : SMap Ring × List RingCmd := (s.rings, s.cmds)

end Sys2Proof.Machine
end

section
/-! PROOFS. What happens at a cluster site changes no other site, no position of a bay, no ring and nothing of what stays. -/

namespace Sys2Proof.Machine

open Sys2Proof

theorem Keeps.trans {r s t : State} (h : Keeps r s) (k : Keeps s t) : Keeps r t :=
  ⟨k.1.trans h.1, fun hr => k.2 (h.wf hr)⟩

/-- `t` comes from `s` by what happens at site `x`. -/
structure State.AtSite (x : SiteId) (s t : State) : Prop where
  keeps : Keeps s t
  still : t.still = s.still
  orders : t.orders = s.orders
  others : s.wf = true → ∀ y, y ≠ x → t.cl y = s.cl y
  unmapped : s.wf = true → ∀ b, (t.bay b).unmapped = (s.bay b).unmapped

namespace State.AtSite

variable {x : SiteId} {s t u : State}

theorem refl (s : State) : State.AtSite x s s := ⟨Keeps.refl s, rfl, rfl, fun _ _ _ => rfl, fun _ _ => rfl⟩

theorem trans (h : State.AtSite x s t) (k : State.AtSite x t u) : State.AtSite x s u where
  keeps := h.keeps.trans k.keeps
  still := k.still.trans h.still
  orders := k.orders.trans h.orders
  others hs y hy := (k.others (h.keeps.wf hs) y hy).trans (h.others hs y hy)
  unmapped hs b := (k.unmapped (h.keeps.wf hs) b).trans (h.unmapped hs b)

/-- What leaves the sites and the bays is nothing that happens at another site. -/
theorem of_same (hk : Keeps s t) (h : t.still = s.still) (ho : t.orders = s.orders) (hc : t.clusters = s.clusters)
    (hb : t.bays = s.bays) : State.AtSite x s t where
  keeps := hk
  still := h
  orders := ho
  others _ y _ := by simp only [State.cl, hc]
  unmapped _ b := by simp only [State.bay, hb]

theorem foldl {β : Type} {f : State → β → State} (hf : ∀ s b, State.AtSite x s (f s b)) (l : List β) :
    ∀ s, State.AtSite x s (l.foldl f s) := by
  induction l with
  | nil => exact fun s => refl s
  | cons b l ih => exact fun s => (hf s b).trans (ih (f s b))

end State.AtSite

/-- What is left by a fold of steps that each happen at one site: every site may have changed. -/
structure State.AtSites (s t : State) : Prop where
  keeps : Keeps s t
  still : t.still = s.still
  orders : t.orders = s.orders
  unmapped : s.wf = true → ∀ b, (t.bay b).unmapped = (s.bay b).unmapped

theorem State.AtSite.atSites {x : SiteId} {s t : State} (h : State.AtSite x s t) : State.AtSites s t :=
  ⟨h.keeps, h.still, h.orders, h.unmapped⟩

theorem State.AtSites.refl (s : State) : State.AtSites s s := (State.AtSite.refl (x := 0) s).atSites

theorem State.AtSites.trans {s t u : State} (h : State.AtSites s t) (k : State.AtSites t u) : State.AtSites s u where
  keeps := h.keeps.trans k.keeps
  still := k.still.trans h.still
  orders := k.orders.trans h.orders
  unmapped hs b := (k.unmapped (h.keeps.wf hs) b).trans (h.unmapped hs b)

theorem State.AtSites.foldl {β : Type} {f : State → β → State} (hf : ∀ s b, State.AtSites s (f s b)) (l : List β) :
    ∀ s, State.AtSites s (l.foldl f s) := by
  induction l with
  | nil => exact fun s => .refl s
  | cons b l ih => exact fun s => (hf s b).trans (ih (f s b))

/-! ### Sites -/

variable (s : State) (x : SiteId)

theorem State.setCl_atSite (c : Cluster) : State.AtSite x s (s.setCl x c) where
  keeps := State.setCl_keeps s x c (Keeps.refl s)
  still := rfl
  orders := rfl
  others hs _ hy := by
    have hc : mwf zCl s.clusters = true := by
      obtain ⟨-, -, -, -, -, -, -, -, h, -⟩ := State.wf_iff.mp hs
      exact h
    exact mget_mset_other hc hy
  unmapped _ _ := rfl

theorem State.modCl_atSite (f : Cluster → Cluster) : State.AtSite x s (s.modCl x f) := State.setCl_atSite s x _

/-- A bay whose positions stay as they are. -/
theorem State.modBay_atSite (b : Nat) {f : Bay → Bay} (hf : ∀ y : Bay, (f y).unmapped = y.unmapped) :
    State.AtSite x s (s.modBay b f) where
  keeps := State.modBay_keeps s b f (Keeps.refl s)
  still := rfl
  orders := rfl
  others _ _ _ := rfl
  unmapped hs a := by
    have hb : mwf zBay s.bays = true := by
      obtain ⟨-, -, -, -, -, -, -, -, -, h, -⟩ := State.wf_iff.mp hs
      exact h
    by_cases ha : a = b
    · subst ha
      exact (congrArg Bay.unmapped (State.bay_modBay hs a f)).trans (hf _)
    · exact congrArg Bay.unmapped (mget_mset_other hb ha)

theorem State.odSet_atSite (k v : Nat) : State.AtSite x s (s.odSet k v) :=
  .of_same (State.odSet_keeps s k v (Keeps.refl s)) rfl rfl rfl rfl

theorem State.odAdd_atSite (k n : Nat) : State.AtSite x s (s.odAdd k n) := State.odSet_atSite s x k _

theorem State.unland_atSite (y : SiteId) : State.AtSite x s (s.unland y) :=
  .of_same (State.unland_keeps s y (Keeps.refl s)) rfl rfl rfl rfl

theorem State.useFree_atSite : State.AtSite x s s.useFree :=
  .of_same (State.useFree_keeps s (Keeps.refl s)) rfl rfl rfl rfl

theorem State.countStretch_atSite (n : Nat) : State.AtSite x s (s.countStretch x n) := by
  unfold State.countStretch; dsimp only
  split
  · exact .refl s
  · exact (State.odAdd_atSite s x _ _).trans (State.odAdd_atSite _ x _ _)

theorem State.runSite_atSite (d : Nat) : State.AtSite x s (s.runSite x d) := by
  unfold State.runSite
  extract_lets y b residual len
  split
  · exact State.setCl_atSite s x _
  · refine State.AtSite.trans ?_ (State.setCl_atSite _ x _)
    exact (State.useFree_atSite s x).trans (State.countStretch_atSite _ x _)

theorem State.runTo_atSite : State.AtSite x s (s.runTo x) := State.runSite_atSite s x _

/-- The moment of the µs moves on. -/
theorem State.clk_atSite (c : Clock) : State.AtSite x s { s with clk := c } :=
  .of_same (Keeps.refl s) rfl rfl rfl rfl

theorem State.runFree_atSite : State.AtSite x s (s.runFree x) :=
  ((State.useFree_atSite s x).trans (State.clk_atSite _ x _)).trans (State.runTo_atSite _ x)

theorem State.runLevel_atSite : State.AtSite x s (s.runLevel x).1 := by
  have hfree := State.runFree_atSite s x
  unfold State.runLevel
  extract_lets t n
  split
  · exact (hfree.trans (State.clk_atSite t x _)).trans (State.runTo_atSite _ x)
  · exact hfree

theorem State.lastCycles_atSite : State.AtSite x s (s.lastCycles x) := by
  unfold State.lastCycles
  split
  · exact State.runTo_atSite s x
  · exact State.runLevel_atSite s x

theorem State.clearSite_atSite : State.AtSite x s (s.clearSite x) :=
  .of_same (State.clearSite_keeps s x (Keeps.refl s)) rfl rfl rfl rfl

theorem State.wakePort_atSite : State.AtSite x s (s.wakePort x) := by
  unfold State.wakePort
  split
  · exact State.modCl_atSite s x _
  · exact .refl s

theorem State.portDrop_atSite (y : SiteId) : State.AtSite x s (s.portDrop y) := by
  unfold State.portDrop
  split
  · exact State.odAdd_atSite s x _ _
  split
  · exact State.odAdd_atSite s x _ _
  split
  · exact State.odAdd_atSite s x _ _
  · exact .refl s

theorem State.retryReq_atSite (src : Nat) (num : BitVec 32) : State.AtSite x s (s.retryReq src num) :=
  .of_same (State.retryReq_keeps s src num (Keeps.refl s)) rfl rfl rfl rfl

/-- What waits in the mesh and stands in its queues is no part of a site. -/
theorem State.mesh_atSite (m : Mesh) : State.AtSite x s { s with mesh := m } := .of_same (Keeps.refl s) rfl rfl rfl rfl

theorem State.servePlane_atSite (y : SiteId) (plane : Nat) : State.AtSite x s (s.servePlane y plane) :=
  .of_same (State.servePlane_keeps s y plane (Keeps.refl s)) rfl rfl rfl rfl

theorem State.servePort_atSite (y : SiteId) : State.AtSite x s (s.servePort y) := by
  unfold State.servePort
  split
  · exact (State.servePlane_atSite s x y 0).trans (State.servePlane_atSite _ x y 1)
  · exact State.servePlane_atSite s x y 1
  · exact .refl s

theorem State.portTurn_atSite : State.AtSite x s (s.portTurn x) := by
  unfold State.portTurn; dsimp only
  refine State.AtSite.trans ?_ (State.servePort_atSite _ x x)
  split
  · refine (State.mesh_atSite s x _).trans (.foldl (fun s w => ?_) _ _)
    split
    · exact (State.retryReq_atSite s x _ _).trans (State.wakePort_atSite _ x)
    · exact State.portDrop_atSite s x x
  · refine State.AtSite.trans ?_ (.foldl (fun s k => State.mesh_atSite s x _) _ _)
    refine (State.mesh_atSite s x _).trans (.foldl (fun s w => ?_) _ _)
    split
    · exact (State.retryReq_atSite s x _ _).trans (State.wakePort_atSite _ x)
    · exact State.portDrop_atSite s x x

theorem State.railRefresh_atSite (b : Nat) : State.AtSite x s (s.railRefresh b) := by
  unfold State.railRefresh; dsimp only
  split
  · exact .refl s
  · exact State.odSet_atSite s x _ _

theorem State.switchOff_atSite : State.AtSite x s (s.switchOff x) := by
  unfold State.switchOff
  extract_lets t u
  have hoff : State.AtSite x s (((s.unland x).lastCycles x).clearSite x) :=
    ((State.unland_atSite s x x).trans (State.lastCycles_atSite _ x)).trans (State.clearSite_atSite _ x)
  have ht : State.AtSite x s t := (hoff.trans (State.modCl_atSite _ x _)).trans (State.portTurn_atSite _ x)
  have hu : State.AtSite x t u := State.modBay_atSite t x (x / 36) fun _ => rfl
  exact (ht.trans hu).trans (State.railRefresh_atSite u x (x / 36))

theorem State.stopRun_atSite (y : SiteId) : State.AtSite x s (s.stopRun y) := by
  unfold State.stopRun
  refine .foldl (fun s c => ?_) _ _
  split
  · exact .of_same (State.modBoth_keeps s c _ (Keeps.refl s)) rfl rfl rfl rfl
  · exact .refl s

theorem State.abandonRun_atSite (y : SiteId) : State.AtSite x s (s.abandonRun y) := by
  unfold State.abandonRun
  refine State.AtSite.trans ?_ (State.stopRun_atSite _ x y)
  exact .of_same (Keeps.refl s) rfl rfl rfl rfl

theorem State.releaseSite_atSite : State.AtSite x s (s.releaseSite x) :=
  ((State.abandonRun_atSite s x x).trans (State.switchOff_atSite _ x)).trans (State.modCl_atSite _ x _)

theorem State.dropMail_atSite (y : SiteId) : State.AtSite x s (s.dropMail y) :=
  .of_same (State.dropMail_keeps s y (Keeps.refl s)) rfl rfl rfl rfl

theorem State.ownSite_atSite (p i : Nat) : State.AtSite x s (s.ownSite x p i) :=
  (State.abandonRun_atSite s x x).trans (State.modCl_atSite _ x _)

theorem State.wantPower_atSite : State.AtSite x s (s.wantPower x) := by
  unfold State.wantPower; dsimp only
  split
  · exact (State.modCl_atSite s x _).trans (State.modBay_atSite _ x _ fun _ => rfl)
  · exact ((State.switchOff_atSite s x).trans (State.modCl_atSite _ x _)).trans (State.modBay_atSite _ x _ fun _ => rfl)

end Sys2Proof.Machine
end

section
/-! PROOFS. What logging, completing and discarding leave of the commands, the rings and a partition. -/

namespace Sys2Proof.Machine

open Sys2Proof

/-- Memories that stay in two steps stay. -/
theorem State.sameMem_trans {s t u : State} (h : s.sameMem t) (k : t.sameMem u) : s.sameMem u := by
  obtain ⟨h1, h2, h3, h4, h5, h6⟩ := h
  obtain ⟨k1, k2, k3, k4, k5, k6⟩ := k
  exact ⟨k1.trans h1, k2.trans h2, k3.trans h3, k4.trans h4, k5.trans h5, k6.trans h6⟩

/-! ### Logging and completing -/

/-- What logging and completing do: commands end at most, and no ring moves. -/
structure State.Logs (s t : State) : Prop where
  keeps : Keeps s t
  frame : State.LogFrame s t
  quiet : State.Quiet s t
  cmds : ∀ c ∈ t.cmds, c ∈ s.cmds
  ring : s.wf = true → ∀ r, (t.ring r).cons = (s.ring r).cons ∧ (t.ring r).part = (s.ring r).part

namespace State.Logs

variable {s t u : State}

theorem refl (s : State) : State.Logs s s :=
  ⟨Keeps.refl s, rfl, State.Quiet.refl s, fun _ h => h, fun _ _ => ⟨rfl, rfl⟩⟩

theorem trans (h : State.Logs s t) (k : State.Logs t u) : State.Logs s u where
  keeps := h.keeps.trans k.keeps
  frame := h.frame.trans k.frame
  quiet := h.quiet.trans k.quiet
  cmds c hc := h.cmds c (k.cmds c hc)
  ring hs r := by
    obtain ⟨hcons, hpart⟩ := h.ring hs r
    obtain ⟨kcons, kpart⟩ := k.ring (h.keeps.wf hs) r
    exact ⟨kcons.trans hcons, kpart.trans hpart⟩

/-- What keeps the commands and the rings. -/
theorem of_same (hk : Keeps s t) (hf : State.LogFrame s t) (hq : State.Quiet s t) (hc : t.cmds = s.cmds)
    (hr : t.rings = s.rings) : State.Logs s t where
  keeps := hk
  frame := hf
  quiet := hq
  cmds _ h := hc ▸ h
  ring _ r := by simp only [State.ring, hr, and_self]

theorem foldl {β : Type} {f : State → β → State} (hf : ∀ s b, State.Logs s (f s b)) (l : List β) :
    ∀ s, State.Logs s (l.foldl f s) := by
  induction l with
  | nil => exact fun s => refl s
  | cons b l ih => exact fun s => (hf s b).trans (ih (f s b))

end State.Logs

/-- A ring that is changed in what does not count it. -/
theorem State.modRing_logs (s : State) (r : Nat) {f : Ring → Ring}
    (hf : ∀ x : Ring, (f x).cons = x.cons ∧ (f x).part = x.part) : State.Logs s (s.modRing r f) where
  keeps := State.modRing_keeps s r f (Keeps.refl s)
  frame := rfl
  quiet := .of_val rfl
  cmds _ h := h
  ring hs q := by
    have hr : mwf zRing s.rings = true := by simp [State.wf, State.unitsWf] at hs; simp [hs]
    by_cases hq : q = r
    · subst hq
      have e : (s.modRing q f).ring q = f (s.ring q) := mget_mset_same hr
      rw [e]
      exact hf _
    · have e : (s.modRing r f).ring q = s.ring q := mget_mset_other hr hq
      rw [e]
      exact ⟨rfl, rfl⟩

theorem State.toCard_logs (s : State) (m : HostMsg) : State.Logs s (s.toCard m) := by
  refine .of_same (State.toCard_keeps s m (Keeps.refl s)) (State.toCard_frame s m) (State.toCard_quiet s m) ?_ ?_
  · unfold State.toCard
    split <;> rfl
  · unfold State.toCard
    split <;> rfl

theorem State.intr_logs (s : State) (r : Nat) : State.Logs s (s.intr r) := by
  unfold State.intr
  extract_lets x
  split
  · exact .refl s
  split
  · refine State.Logs.trans ?_ (State.toCard_logs _ _)
    exact State.modRing_logs s r fun _ => ⟨rfl, rfl⟩
  · exact State.modRing_logs s r fun _ => ⟨rfl, rfl⟩

/-- A command that leaves the list is in it before. -/
theorem State.filterCmds_logs (s : State) (q : RingCmd → Bool) : State.Logs s { s with cmds := s.cmds.filter q } where
  keeps := Keeps.refl s
  frame := rfl
  quiet := .of_val rfl
  cmds _ h := (List.mem_filter.mp h).1
  ring _ _ := ⟨rfl, rfl⟩

theorem State.writeCpl_logs (s : State) (c : RingCmd) (status : Nat) (res : Results) :
    State.Logs s (s.writeCpl c status res) := by
  unfold State.writeCpl State.hostWrite
  extract_lets x size job t u
  exact ((State.filterCmds_logs s _).trans (State.toCard_logs _ _)).trans (State.intr_logs _ _)

theorem State.alertPort_orders (s : State) (port code : Nat) (seq : W32) :
    (s.alertPort port code seq).orders = s.orders := by
  unfold State.alertPort; dsimp only
  split
  · split <;> rfl
  · rfl

/-- The log changes no command and no ring. -/
theorem State.alert_orders (s : State) (code : Nat) (seq : W32) : (s.alert code seq).orders = s.orders := by
  unfold State.alert; dsimp only
  split
  · rw [State.alertPort_orders, State.alertPort_orders, State.alertPort_orders]
    rfl
  · rfl

theorem State.log_orders (s : State) (l : LogSt) : ({ s with log := l } : State).orders = s.orders := rfl

theorem State.appendEv_orders (s : State) (code : Nat) (un : UnitId) (part : Option Nat) (lunit : Nat)
    (payload : List Nat) : (s.appendEv code un part lunit payload).1.orders = s.orders := by
  unfold State.appendEv
  dsimp only
  split
  · rfl
  split
  · rfl
  · rw [State.alert_orders, State.log_orders, State.log_orders]

theorem State.logEv_logs (s : State) (code : Nat) (un : UnitId) (part : Option Nat) (lunit : Nat) (payload : List Nat) :
    State.Logs s (s.logEv code un part lunit payload) := by
  have h : State.Logs s (s.appendEv code un part lunit payload).1 :=
    .of_same (State.appendEv_keeps s code un part lunit payload (Keeps.refl s))
      (State.appendEv_frame s code un part lunit payload) (State.appendEv_quiet s code un part lunit payload)
      (congrArg (·.2) (State.appendEv_orders s code un part lunit payload))
      (congrArg (·.1) (State.appendEv_orders s code un part lunit payload))
  unfold State.logEv
  generalize s.appendEv code un part lunit payload = x at h
  obtain ⟨a, b⟩ := x
  cases b
  · exact h
  · exact h.trans (State.Logs.foldl (fun s c => State.writeCpl_logs s c _ _) _ _)

theorem State.dropFetch_logs (s : State) (r : Nat) : State.Logs s (s.dropFetch r) :=
  .of_same (State.dropFetch_keeps s r (Keeps.refl s)) rfl (.of_val rfl) rfl rfl

theorem State.complete_logs (s : State) (c : RingCmd) (status : Nat) (res : Results) :
    State.Logs s (s.complete c status res) := by
  have hw := State.writeCpl_logs s c status res
  unfold State.complete
  extract_lets t u
  split
  · refine State.Logs.trans (hw.trans (State.Logs.trans ?_ (State.dropFetch_logs _ _))) (State.logEv_logs u _ _ _ _ _)
    exact State.modRing_logs t c.ring fun _ => ⟨rfl, rfl⟩
  · exact hw

/-! ### A partition under what its cores and messages do -/

/-- What a reset must leave or set of a partition: its control, the reset's moment, the digests, the grant, the sites and
the state of its job. -/
def Part.facts (x : Part) :
    Option (Nat × Nat) × Option Nat × List Digest × Option Grant × List (Option SiteId) × JobState × Nat :=
  (x.ctrl, x.resetAt, x.digests, x.grant, x.sites, x.job.st, x.job.reason)

/-- HBM and a partition's facts stay, and no command comes. -/
structure State.PartAs (p : Nat) (s t : State) : Prop where
  keeps : Keeps s t
  hbm : t.hbm = s.hbm
  cmds : ∀ c ∈ t.cmds, c ∈ s.cmds
  facts : s.wf = true → (t.part p).facts = (s.part p).facts

namespace State.PartAs

variable {p : Nat} {s t u : State}

theorem refl (s : State) : State.PartAs p s s := ⟨Keeps.refl s, rfl, fun _ h => h, fun _ => rfl⟩

theorem trans (h : State.PartAs p s t) (k : State.PartAs p t u) : State.PartAs p s u where
  keeps := h.keeps.trans k.keeps
  hbm := k.hbm.trans h.hbm
  cmds c hc := h.cmds c (k.cmds c hc)
  facts hs := (k.facts (h.keeps.wf hs)).trans (h.facts hs)

theorem of_same (hk : Keeps s t) (hm : t.hbm = s.hbm) (hc : t.cmds = s.cmds) (hp : t.parts = s.parts) :
    State.PartAs p s t where
  keeps := hk
  hbm := hm
  cmds _ h := hc ▸ h
  facts _ := by simp only [State.part, hp]

theorem foldl {β : Type} {f : State → β → State} (hf : ∀ s b, State.PartAs p s (f s b)) (l : List β) :
    ∀ s, State.PartAs p s (l.foldl f s) := by
  induction l with
  | nil => exact fun s => refl s
  | cons b l ih => exact fun s => (hf s b).trans (ih (f s b))

end State.PartAs

theorem State.Logs.partAs {p : Nat} {s t : State} (h : State.Logs s t) : State.PartAs p s t where
  keeps := h.keeps
  hbm := State.still_hbm h.frame.still
  cmds := h.cmds
  facts _ := by simp only [State.part, State.still_parts h.frame.still]

theorem State.AtSites.partAs {p : Nat} {s t : State} (h : State.AtSites s t) : State.PartAs p s t :=
  .of_same h.keeps (State.still_hbm h.still) (congrArg (·.2) h.orders) (State.still_parts h.still)

section

variable (p : Nat) (s : State)

/-- A partition that is changed in what is no fact. -/
theorem State.modPart_partAs (o : Nat) {f : Part → Part} (hf : ∀ x : Part, (f x).facts = x.facts) :
    State.PartAs p s (s.modPart o f) where
  keeps := State.modPart_keeps s o f (Keeps.refl s)
  hbm := rfl
  cmds _ h := h
  facts hs := by
    by_cases ho : p = o
    · subst ho
      exact (congrArg Part.facts (State.part_modPart hs p f)).trans (hf _)
    · exact congrArg Part.facts (State.part_modPart_other hs f ho)

theorem State.odAdd_partAs (k n : Nat) : State.PartAs p s (s.odAdd k n) :=
  .of_same (State.odAdd_keeps s k n (Keeps.refl s)) rfl rfl rfl

theorem State.useFree_partAs : State.PartAs p s s.useFree :=
  .of_same (State.useFree_keeps s (Keeps.refl s)) rfl rfl rfl

theorem State.setCore_partAs (c : CoreId) (x : Core) : State.PartAs p s (s.setCore c x) :=
  .of_same (State.setCore_keeps s c x (Keeps.refl s)) rfl rfl rfl

theorem State.modBoth_partAs (c : CoreId) (f : CoreSt → CoreSt) : State.PartAs p s (s.modBoth c f) :=
  .of_same (State.modBoth_keeps s c f (Keeps.refl s)) rfl rfl rfl

theorem State.mbFree_partAs (snd rcv : Nat) : State.PartAs p s (s.mbFree snd rcv) :=
  .of_same (State.mbFree_keeps s snd rcv (Keeps.refl s)) rfl rfl rfl

theorem State.mbTake_partAs (snd rcv : Nat) : State.PartAs p s (s.mbTake snd rcv) :=
  .of_same (State.mbTake_keeps s snd rcv (Keeps.refl s)) rfl rfl rfl

/-- A record to the host counts in a partition, and in no fact of it. -/
theorem State.toHost_partAs (area : Option Nat) (i : MbItem) : State.PartAs p s (s.toHost area i) := by
  unfold State.toHost State.hostWrite
  extract_lets snd word
  cases area with
  | none =>
    refine State.PartAs.trans ?_ (State.toCard_logs _ _).partAs
    exact .of_same (Keeps.refl s) rfl rfl rfl
  | some o =>
    refine State.PartAs.trans ?_ (State.toCard_logs _ _).partAs
    exact State.modPart_partAs p s o fun _ => rfl

theorem State.codeToHost_partAs (area : Option Nat) (code : W32) : State.PartAs p s (s.codeToHost area code) :=
  State.toHost_partAs p s area _

theorem State.ackToCore_partAs (c : CoreId) (src : BitVec 16) (code : W32) : State.PartAs p s (s.ackToCore c src code) := by
  unfold State.ackToCore
  split
  · exact .refl s
  · exact .of_same (Keeps.refl s) rfl rfl rfl

theorem State.mgmtPut_partAs (r part : Nat) (i : MbItem) : State.PartAs p s (s.mgmtPut r part i) := by
  have hk := State.mgmtPut_keeps s r part i (Keeps.refl s)
  refine .of_same hk ?_ ?_ ?_ <;>
  · unfold State.mgmtPut
    split
    · rfl
    · split <;> rfl

theorem State.retryHost_partAs : State.PartAs p s s.retryHost := by
  unfold State.retryHost
  refine .foldl (fun s w => ?_) s.hostWait s
  obtain ⟨snd, rcv, i⟩ := w
  dsimp only
  split
  · split
    · exact .of_same (State.mbTake_keeps s snd rcv (Keeps.refl s)) rfl rfl rfl
    · refine State.PartAs.trans ?_ (State.mgmtPut_partAs p _ _ _ _)
      exact .of_same (State.mbTake_keeps s snd rcv (Keeps.refl s)) rfl rfl rfl
  · exact .refl s

theorem State.discardMail_partAs (m : Mail) : State.PartAs p s (s.discardMail m) := by
  unfold State.discardMail
  split
  · exact .refl s
  split
  · exact .refl s
  split
  · exact ((State.mbFree_partAs p s _ _).trans (State.codeToHost_partAs p _ _ _)).trans (State.retryHost_partAs p _)
  split
  · exact State.mbFree_partAs p s _ _
  split
  · exact .refl s
  · exact ((State.mbFree_partAs p s _ _).trans (State.odAdd_partAs p _ _ _)).trans (State.ackToCore_partAs p _ _ _ _)

/-- Discarding the messages of a partition changes no fact of one (R341). -/
theorem State.discardPart_partAs (o : Nat) : State.PartAs p s (s.discardPart o) := by
  unfold State.discardPart
  extract_lets mine held onWay toCore waits s1 s2 s3 s4
  have h1 : State.PartAs p s s1 := .of_same (Keeps.refl s) rfl rfl rfl
  clear_value s1
  have h2 : State.PartAs p s1 s2 := by
    refine State.PartAs.foldl (fun u kv => ?_) _ s1
    split
    · exact State.modBoth_partAs p u _ _
    · exact .refl u
  clear_value s2
  have h3 : State.PartAs p s2 s3 := .foldl (fun u m => State.discardMail_partAs p u m) _ s2
  clear_value s3
  have h4 : State.PartAs p s3 s4 := .foldl (fun u _ => State.codeToHost_partAs p u _ _) _ s3
  clear_value s4
  exact (((h1.trans h2).trans h3).trans h4).trans (.of_same (Keeps.refl s4) rfl rfl rfl)

theorem State.moveWaits_partAs (o : Nat) (old new : List (Option SiteId)) : State.PartAs p s (s.moveWaits o old new) := by
  unfold State.moveWaits
  extract_lets mine waits kept lost
  exact (State.PartAs.of_same (t := { s with hostWait := kept }) (Keeps.refl s) rfl rfl rfl).trans
    (.foldl (fun u _ => State.codeToHost_partAs p u _ _) lost _)

/-! ### Lost steps -/

theorem State.startCp_partAs (c : CoreId) (x : CoreSt) (y : CpPend) : State.PartAs p s (s.startCp c x y) := by
  unfold State.startCp
  extract_lets o z
  split
  · exact .refl s
  split
  · exact State.modBoth_partAs p s c _
  · exact .of_same (Keeps.refl s) rfl rfl rfl

theorem State.haltCore_partAs (c : CoreId) (x y : CoreSt) : State.PartAs p s (s.haltCore c x y) :=
  (State.setCore_partAs p s c _).trans (.foldl (fun u k => State.startCp_partAs p u c x k) _ _)

theorem State.stopCores_partAs (o : Nat) (but : Option CoreId) : State.PartAs p s (s.stopCores o but) := by
  unfold State.stopCores
  refine .foldl (fun u kv => ?_) s.cores s
  extract_lets x y
  split
  · exact State.haltCore_partAs p u _ _ _
  · exact .refl u

theorem State.endArm_partAs (o status reason : Nat) : State.PartAs p s (s.endArm o status reason) := by
  unfold State.endArm
  split
  · exact .refl s
  split
  · exact State.modPart_partAs p s o fun _ => rfl
  · refine State.PartAs.trans ((State.useFree_partAs p s).trans ?_) (State.complete_logs _ _ _ _).partAs
    exact State.modPart_partAs p _ o fun _ => rfl

/-- What a lost step leaves: the job of an armed or running step is HALTED with the reason (R321). -/
structure State.StepEnds (p reason : Nat) (s t : State) : Prop where
  hbm : t.hbm = s.hbm
  cmds : ∀ c ∈ t.cmds, c ∈ s.cmds
  ctrl : (t.part p).ctrl = (s.part p).ctrl
  resetAt : (t.part p).resetAt = (s.part p).resetAt
  job : (s.part p).job.st = .running ∨ (s.part p).job.st = .armed →
    (t.part p).job.st = .halted ∧ (t.part p).job.reason = reason

end

/-- A step lost by a cause (R321). -/
theorem State.stepLost_ends {s : State} (p reason : Nat) (hw : s.wf = true) :
    State.StepEnds p reason s (s.stepLost p reason) := by
  unfold State.stepLost
  extract_lets j t u
  split
  next hc =>
    have hstop := State.stopCores_partAs p s p none
    clear_value j
    have ht : t.part p = { (s.stopCores p none).part p with
        job := { ((s.stopCores p none).part p).job with st := .halted, reason := reason } } :=
      State.part_modPart (hstop.keeps.wf hw) p _
    have hth : t.hbm = s.hbm := hstop.hbm
    have htc : t.cmds = (s.stopCores p none).cmds := rfl
    have htw : t.wf = true := (State.modJob_keeps _ _ _ hstop.keeps).wf hw
    clear_value t
    have hu : State.PartAs p t u := (State.endArm_partAs p t p csStepLost reason).trans (State.odAdd_partAs p _ _ _)
    have hv := hu.trans (State.logEv_logs u 0x9002 unModule (some p) noLunit [reason, j.step.toNat]).partAs
    have hf := hv.facts htw
    have hs := hstop.facts hw
    simp only [Part.facts, Prod.mk.injEq] at hf hs
    obtain ⟨fctrl, freset, -, -, -, fst, freason⟩ := hf
    obtain ⟨sctrl, sreset, -, -, -, -, -⟩ := hs
    rw [ht] at fctrl freset fst freason
    exact ⟨hv.hbm.trans hth, fun c h => hstop.cmds c (htc ▸ hv.cmds c h), fctrl.trans sctrl, freset.trans sreset,
      fun _ => ⟨fst, freason⟩⟩
  next hc =>
    refine ⟨rfl, fun _ h => h, rfl, rfl, fun h => absurd ?_ hc⟩
    have hj : j.st = .running ∨ j.st = .armed := h
    rcases hj with e | e <;> simp [e]

end Sys2Proof.Machine
end

section
/-! PROOFS. The controls of a partition (R45, R227, R300, R301, R332, R333). -/

namespace Sys2Proof.Machine

open Sys2Proof

/-! ### Maps whose entries are dropped by key -/

/-- A read after the entries of some keys are dropped. -/
theorem mget_filter_key {α : Type} [DecidableEq α] {d : Nat → α} {m : SMap α} (q : Nat → Bool) (h : mwf d m = true)
    (k : Nat) : mget d (m.filter fun p => q p.1) k = if q k then mget d m k else d k := by
  have key : ∀ (m : SMap α) (lo : Nat), mwfFrom d lo m = true →
      mget d (m.filter fun p => q p.1) k = if q k then mget d m k else d k := by
    intro m
    induction m with
    | nil => intro lo _; simp [mget]
    | cons a m ih =>
      obtain ⟨j, v⟩ := a
      intro lo h
      simp only [mwfFrom, Bool.and_eq_true, decide_eq_true_eq] at h
      have hm : mwfFrom d (j + 1) m = true := h.2
      have htail := ih _ hm
      by_cases hkj : k < j + 1
      · have hlow : mget d (m.filter fun p => q p.1) k = d k := by
          rw [htail, mget_below hm hkj, ite_self]
        by_cases hq : q j = true
        · rw [List.filter_cons_of_pos (by simpa using hq)]
          simp only [mget]
          by_cases hk : k = j
          · subst hk; simp [hq]
          · simp [hk, show k < j by omega]
        · rw [List.filter_cons_of_neg (by simpa using hq), hlow]
          simp only [mget]
          by_cases hk : k = j
          · subst hk; simp [hq]
          · simp [hk, show k < j by omega]
      · have hk : k ≠ j := by omega
        have hlt : ¬ k < j := by omega
        by_cases hq : q j = true
        · rw [List.filter_cons_of_pos (by simpa using hq)]
          simp only [mget, hk, hlt, if_false, htail]
        · rw [List.filter_cons_of_neg (by simpa using hq), htail]
          simp only [mget, hk, hlt, if_false]
  exact key m 0 h

/-- A read after a range is cleared. -/
theorem mget_mclearRange {α : Type} [DecidableEq α] {d : Nat → α} {m : SMap α} (h : mwf d m = true) (a n k : Nat) :
    mget d (mclearRange m a n) k = if a ≤ k ∧ k < a + n then d k else mget d m k := by
  refine (mget_filter_key (fun j => !(decide (a ≤ j) && decide (j < a + n))) h k).trans ?_
  by_cases hin : a ≤ k ∧ k < a + n
  · simp [hin]
  · have : (decide (a ≤ k) && decide (k < a + n)) = false := by simpa using hin
    simp [this, hin]

/-! ### The extent of a partition -/

/-- The extents that COMPOSE zeroes read 0, and every other byte of HBM is as it was (R227). -/
theorem State.mget_zeroExtent (base span k : Nat) (chans : List Nat) : ∀ s : State, mwf zB s.hbm = true →
    mget zB (s.zeroExtent chans base span).hbm k =
      if ∃ pc ∈ chans, 2 ^ 31 * pc + base ≤ k ∧ k < 2 ^ 31 * pc + base + span then 0 else mget zB s.hbm k := by
  induction chans with
  | nil => intro s _; simp [State.zeroExtent]
  | cons pc l ih =>
    intro s hs
    have hkey : hbmKey pc base = 2 ^ 31 * pc + base := rfl
    refine (ih _ (mclearRange_wf (hbmKey pc base) span hs)).trans ?_
    simp only [hkey, mget_mclearRange hs, List.exists_mem_cons_iff]
    by_cases hl : ∃ x ∈ l, 2 ^ 31 * x + base ≤ k ∧ k < 2 ^ 31 * x + base + span
    · simp only [hl, or_true, if_true]
    · by_cases hp : 2 ^ 31 * pc + base ≤ k ∧ k < 2 ^ 31 * pc + base + span
      · simp only [hl, hp, and_self, true_or, if_true, if_false]
        rfl
      · simp only [hl, hp, or_false, if_false]

/-! ### What leaves HBM, the sites and the bays alone -/

/-- HBM, the cluster sites and the bays. -/
def State.ground (s : State) : SMap Byte × SMap Cluster × SMap Bay := (s.hbm, s.clusters, s.bays)

theorem State.LogFrame.ground {s t : State} (h : State.LogFrame s t) : t.ground = s.ground := by
  unfold State.LogFrame at h; rw [h]; rfl

theorem State.ground_hbm {s t : State} (h : t.ground = s.ground) : t.hbm = s.hbm := congrArg (·.1) h
theorem State.ground_cl {s t : State} (h : t.ground = s.ground) (x : SiteId) : t.cl x = s.cl x :=
  congrArg (fun g : SMap Byte × SMap Cluster × SMap Bay => mget zCl g.2.1 x) h
theorem State.ground_bay {s t : State} (h : t.ground = s.ground) (b : Nat) : t.bay b = s.bay b :=
  congrArg (fun g : SMap Byte × SMap Cluster × SMap Bay => mget zBay g.2.2 b) h

theorem State.toCard_ground (s : State) (m : HostMsg) : (s.toCard m).ground = s.ground := (State.toCard_frame s m).ground

theorem State.toHost_ground (s : State) (area : Option Nat) (i : MbItem) : (s.toHost area i).ground = s.ground := by
  unfold State.toHost
  cases area with
  | none => exact State.toCard_ground _ _
  | some p => exact State.toCard_ground _ _

theorem State.codeToHost_ground (s : State) (area : Option Nat) (code : W32) :
    (s.codeToHost area code).ground = s.ground := State.toHost_ground s area ⟨0, code, srcYard, true⟩

theorem State.moveWaits_ground (s : State) (p : Nat) (old new : List (Option SiteId)) :
    (s.moveWaits p old new).ground = s.ground := by
  unfold State.moveWaits
  extract_lets mine waits kept lost
  exact foldl_keeps State.ground (fun u _ => State.codeToHost_ground u _ _) lost _

theorem State.updCount_ground (s : State) : s.updCount.ground = s.ground := by
  unfold State.updCount
  exact foldl_keeps State.ground (fun u k => (State.odSet_frame u (odAt odUpdateTableUsed k) _).ground) (List.range 16) s

theorem State.updClear_ground (s : State) (p : Nat) : (s.updClear p).ground = s.ground := State.updCount_ground _

theorem State.clearRecords_ground (s : State) (p : Nat) : (s.clearRecords p).ground = s.ground := by
  unfold State.clearRecords
  extract_lets ends keep t u
  have hu : u.ground = s.ground := by
    refine foldl_keeps State.ground (fun s ri => ?_) ends t
    split
    · exact (State.complete_frame _ _ _ _).ground
    · rfl
  exact (State.updClear_ground _ p).trans hu

/-- The release of the sites that a partition leaves. -/
theorem State.releaseDrop_atSite (s : State) (x : SiteId) : State.AtSite x s ((s.releaseSite x).dropMail x) :=
  (State.releaseSite_atSite s x).trans (State.dropMail_atSite _ x x)

/-! ### COMPOSE and REMAP -/

/-- A site of the map of a partition becomes its own, and is powered on unless it is powered already or fenced (R300). -/
theorem State.takeSite_atSite (s : State) (p : Nat) (x i : Nat) (mine : Bool) :
    State.AtSite x s (if mine || ((s.ownSite x p i).cl x).fenced then s.ownSite x p i
      else (s.ownSite x p i).wantPower x) := by
  split
  · exact State.ownSite_atSite s x p i
  · exact (State.ownSite_atSite s x p i).trans (State.wantPower_atSite _ x)

/-- An index of the map takes its site, if it has one. -/
theorem State.mapSite_atSite (p : Nat) (u : State) (xi : Option SiteId × Nat) : State.AtSite (xi.1.getD 0) u (
    match xi.1 with
    | none => u
    | some site =>
      let mine := (u.cl site).owner.map (·.1) == some p && decide ((u.cl site).power ≠ .off)
      let u := u.ownSite site p xi.2
      if mine || (u.cl site).fenced then u else u.wantPower site) := by
  obtain ⟨_ | x, i⟩ := xi
  · exact State.AtSite.refl u
  · exact State.takeSite_atSite u p x i _

/-- `t` is `s` with the map of a partition set from its entries: its extent is zeroed in HBM as it was, and its job is
EMPTY (R227, R299, R300). -/
def State.MapSet (s t : State) (p : Nat) : Prop :=
  (t.part p).composed = true ∧ (t.part p).job = Job.zero ∧ (t.part p).span = s.od (odAt odPartSpanMib p) * 2 ^ 20 ∧
    (∃ u : State, u.hbm = s.hbm ∧ t.hbm = (u.zeroExtent (t.part p).chans (t.part p).base (t.part p).span).hbm) ∧
    t.od (odAt odPartHbmSize p) = (t.part p).hbmSize ∧ t.od (odAt odPartClusters p) = (t.part p).clusters

/-- What COMPOSE and REMAP set (R227, R299, R300). -/
theorem State.composeMap_mapSet {s t : State} {p : Nat} (hw : s.wf = true) (ht : s.composeMap p = t) :
    State.MapSet s t p := by
  unfold State.composeMap at ht
  extract_lets hb ss span chans base was old sites new s1 s2 s3 s4 s5 health s6 s7 at ht
  have k1 : Keeps s s1 ∧ s1.hbm = s.hbm := by
    constructor
    · refine Keeps.foldl (fun u x hu => ?_) (Keeps.refl s)
      split
      · exact hu
      · exact hu.trans (State.releaseDrop_atSite u x).keeps
    · refine foldl_keeps State.hbm (fun u x => ?_) old s
      split
      · rfl
      · exact State.still_hbm (State.releaseDrop_atSite u x).still
  clear_value s1
  have k3 : Keeps s s3 :=
    State.zeroExtent_keeps _ _ _ _ (State.clearRecords_keeps _ p (State.moveWaits_keeps s1 p was sites k1.1))
  have h3 : ∃ u : State, u.hbm = s.hbm ∧ s3.hbm = (u.zeroExtent chans base span).hbm :=
    ⟨s2.clearRecords p, (State.ground_hbm ((State.clearRecords_ground s2 p).trans (State.moveWaits_ground s1 p was sites))).trans
      k1.2, rfl⟩
  clear_value s3
  have k4 : Keeps s s4 := State.modPart_keeps _ _ _ k3
  have h4 : s4.hbm = s3.hbm := rfl
  have hp : s4.part p = { s3.part p with
      composed := true, halfBays := hb, stackSet := ss, chans := chans, base := base, span := span, sites := sites,
      lost := [], job := Job.zero } := State.part_modPart (k3.wf hw) p _
  clear_value s4
  have k5 : Keeps s s5 := Keeps.foldl (fun u xi hu => hu.trans (State.mapSite_atSite p u xi).keeps) k4
  have h5 : s5.still = s4.still := foldl_keeps State.still (fun u xi => (State.mapSite_atSite p u xi).still) sites.zipIdx s4
  clear_value s5
  have hd6 : mwf odDefault s6.dict.val = true := State.wf_dict (k5.wf hw)
  have hd7 : mwf odDefault s7.dict.val = true := State.odSet_dictWf (State.odSet_dictWf hd6 _ _) _ _
  have htp : t.part p = s4.part p := by
    rw [← ht]
    exact congrArg (mget zPart · p) (State.still_parts h5)
  have hth : t.hbm = s3.hbm := by
    rw [← ht]
    exact (State.still_hbm h5).trans h4
  rw [State.MapSet, htp, hth, hp]
  refine ⟨rfl, rfl, rfl, h3, ?_⟩
  rw [← ht]
  constructor
  · rw [State.od_odSet_other hd7 _ (by unfold odAt odPartHbmSize odPartitionsComposed; omega)]
    exact State.od_odSet_same (State.odSet_dictWf hd6 _ _) _ _
  · rw [State.od_odSet_other hd7 _ (by unfold odAt odPartClusters odPartitionsComposed; omega)]
    exact (State.od_odSet_other (State.odSet_dictWf hd6 _ _) _
      (by unfold odAt odPartClusters odPartHbmSize; omega)).trans (State.od_odSet_same hd6 _ _)

/-! ### Half-bays that are withdrawn -/

/-- A fold of steps that are quiet for the members of its list is quiet. -/
theorem State.Quiet.foldl_mem {β : Type} {f : State → β → State} :
    ∀ (l : List β) (s : State), (∀ b ∈ l, ∀ s, State.Quiet s (f s b)) → State.Quiet s (l.foldl f s)
  | [], s, _ => State.Quiet.refl s
  | b :: l, s, hf => (hf b (List.mem_cons_self ..) s).trans
      (State.Quiet.foldl_mem l (f s b) fun c hc => hf c (List.mem_cons_of_mem b hc))

/-- The logical position of a site of the module is among the noisy entries. -/
theorem noisyKey_siteLogical {b x : Nat} (hb : b < 16) (hx : x ∈ baySites b) : noisyKey (odSite odSiteLogical x) = true := by
  obtain ⟨i, hi, rfl⟩ := List.mem_map.mp hx
  have hi := List.mem_range.mp hi
  have hlo : 0x381000 ≤ odSite odSiteLogical (36 * b + i) := by unfold odSite odSiteLogical; omega
  have hhi : odSite odSiteLogical (36 * b + i) < 0x382000 := by unfold odSite odSiteLogical; omega
  simp [noisyKey, hlo, hhi]

theorem State.countOffered_frame (s : State) : State.LogFrame s s.countOffered := rfl

theorem State.countOffered_quiet (s : State) : State.Quiet s s.countOffered := State.Quiet.odSet s rfl _

theorem State.checkFloors_frame (s : State) : State.LogFrame s s.checkFloors := by
  unfold State.checkFloors
  extract_lets spares upcs t
  split
  · exact (State.LogFrame.trans (t := t) rfl (State.odSet_frame t _ _)).trans (State.logEv_frame _ _ _ _ _ _)
  · rfl

theorem State.checkFloors_quiet (s : State) : State.Quiet s s.checkFloors := by
  unfold State.checkFloors
  extract_lets spares upcs t
  have ht : State.Quiet s t := State.Quiet.odSet s rfl _
  split
  · exact (ht.trans (State.Quiet.odSet t rfl _)).trans (State.logEv_quiet _ _ _ _ _ _)
  · exact ht

/-- A position whose index is unmapped loses its site (R45). -/
theorem State.withdrawPos_frame (s : State) (b q : Nat) : State.LogFrame s (
    match s.siteAt b q with
    | none => s
    | some x => if s.posUnmapped b q then s.setLogical x 0xFF else s) := by
  split
  · rfl
  · split <;> rfl

theorem State.withdrawPos_quiet (s : State) {b : Nat} (q : Nat) (hb : b < 16) : State.Quiet s (
    match s.siteAt b q with
    | none => s
    | some x => if s.posUnmapped b q then s.setLogical x 0xFF else s) := by
  split
  · exact State.Quiet.refl s
  · next x hx =>
    split
    · exact State.Quiet.odSet s (noisyKey_siteLogical hb (List.mem_of_find?_eq_some hx)) _
    · exact State.Quiet.refl s

/-- Withdrawing half-bays leaves what stays. -/
theorem State.withdraw_still (s : State) : s.withdraw.still = s.still := by
  unfold State.withdraw
  extract_lets n s1 s2 s3
  have h1 : s1.still = s.still := foldl_keeps State.still (fun u hb => foldl_keeps State.still (fun u i =>
    (State.withdrawPos_frame u (hb / 2) (16 * (hb % 2) + i)).still) (List.range 16) u) (List.range 32) s
  clear_value s1
  have h2 : s2.still = s1.still := by
    refine foldl_keeps State.still (fun u b => ?_) (List.range 16) s1
    rfl
  have h12 : s2.still = s.still := h2.trans h1
  clear_value s2
  have h : s3.still = s.still :=
    ((State.countOffered_frame s2).trans (State.checkFloors_frame s2.countOffered)).still.trans h12
  clear_value s3
  split
  · exact (State.logEv_frame s3 _ _ _ _ _).still.trans h
  · exact h

/-- Withdrawing half-bays changes positions and what is counted of them. -/
theorem State.withdraw_quiet (s : State) : State.Quiet s s.withdraw := by
  unfold State.withdraw
  extract_lets n s1 s2 s3
  have h1 : State.Quiet s s1 := State.Quiet.foldl_mem (List.range 32) s fun hb hhb u =>
    State.Quiet.foldl (fun u i => State.withdrawPos_quiet u (16 * (hb % 2) + i)
      (by have := List.mem_range.mp hhb; omega)) (List.range 16) u
  clear_value s1
  have h2 : State.Quiet s1 s2 := by
    refine State.Quiet.foldl (fun u b => ?_) (List.range 16) s1
    exact State.Quiet.of_val rfl
  have h12 : State.Quiet s s2 := h1.trans h2
  clear_value s2
  have h : State.Quiet s s3 := (h12.trans (State.countOffered_quiet s2)).trans (State.checkFloors_quiet s2.countOffered)
  clear_value s3
  split
  · exact h.trans (State.logEv_quiet s3 _ _ _ _ _)
  · exact h

/-- An entry of a partition is none of the noisy ones. -/
theorem noisyKey_part {k p : Nat} (hk : 0x581000 ≤ k) (hk' : k < 0x581100) (hp : p < 32) : noisyKey (odAt k p) = false := by
  unfold odAt
  simp [noisyKey, odEarlyEventsLost, odMeshUnreachDropCount, odMeshRetryCount, odMeshDarkDropCount, odMeshResetDropCount,
    odStudbookCount, odClustersOffered, odSparesUsable, odReplaceFlag, odMbDropCount, odStepLostCount, odLinkDropAgeCount]
  omega

/-- A control that sets a map either ends with its status or sets the map of the entries (R300, R301). -/
theorem State.setMap_failed {s : State} {p code : Nat} (h : s.withdraw.composeStatus p ≠ csOk) :
    s.setMap p code = s.endCtrl p (s.withdraw.composeStatus p) := if_pos h

/-- A partition whose control moves on is what it was but for that. -/
theorem State.part_ctrl {c t : State} {p : Nat} {v : Option (Nat × Nat)} (hw : c.wf = true)
    (ht : t = c.modPart p fun x => { x with ctrl := v }) :
    (t.part p).ctrl = v ∧ (t.part p).composed = (c.part p).composed ∧ (t.part p).job = (c.part p).job ∧
      (t.part p).chans = (c.part p).chans ∧ (t.part p).base = (c.part p).base ∧ (t.part p).span = (c.part p).span ∧
      (t.part p).sites = (c.part p).sites := by
  have h := State.part_modPart hw p fun x => { x with ctrl := v }
  rw [ht, h]
  exact ⟨rfl, rfl, rfl, rfl, rfl, rfl, rfl⟩

/-- What stands once the map of a partition is set and its control has moved on (R227, R299 to R301). -/
theorem State.MapSet.done {s c t : State} {p : Nat} {v : Option (Nat × Nat)} (h : State.MapSet s c p) (hs : s.wf = true)
    (hc : c.wf = true) (ht : t = c.modPart p fun x => { x with ctrl := v }) :
    (t.part p).composed = true ∧ (t.part p).ctrl = v ∧
      (t.part p).job.st = .empty ∧ (t.part p).span = s.od (odAt odPartSpanMib p) * 2 ^ 20 ∧
      (∀ pc ∈ (t.part p).chans, ∀ a, (t.part p).base ≤ a → a < (t.part p).base + (t.part p).span →
        mget zB t.hbm (2 ^ 31 * pc + a) = 0) ∧
      (∀ k, (∀ pc ∈ (t.part p).chans, k < 2 ^ 31 * pc + (t.part p).base ∨
          2 ^ 31 * pc + (t.part p).base + (t.part p).span ≤ k) → mget zB t.hbm k = mget zB s.hbm k) ∧
      t.od (odAt odPartHbmSize p) = (t.part p).hbmSize ∧ t.od (odAt odPartClusters p) = (t.part p).clusters := by
  obtain ⟨hcomp, hjob, hsp, ⟨u, hu, hth⟩, hsize, hcl⟩ := h
  obtain ⟨ectrl, ecomp, ejob, echans, ebase, espan, esites⟩ := State.part_ctrl hc ht
  have huw : mwf zB u.hbm = true := hu ▸ (State.wf_iff.mp hs).1
  have hhbm : t.hbm = (u.zeroExtent (c.part p).chans (c.part p).base (c.part p).span).hbm := by rw [ht]; exact hth
  rw [ectrl, ecomp, ejob, echans, ebase, espan, Part.hbmSize, Part.clusters, echans, espan, esites]
  refine ⟨hcomp, rfl, congrArg Job.st hjob, hsp, fun pc hpc a ha ha' => ?_, fun k hk => ?_, ?_, ?_⟩
  · rw [hhbm, State.mget_zeroExtent _ _ _ _ u huw, if_pos ⟨pc, hpc, by omega, by omega⟩]
  · rw [hhbm, State.mget_zeroExtent _ _ _ _ u huw, if_neg, hu]
    rintro ⟨pc, hpc, hlo, hhi⟩
    have := hk pc hpc
    omega
  · rw [ht]; exact hsize
  · rw [ht]; exact hcl

/-- A map that is set after half-bays are withdrawn is set from the entries as they were (R45). -/
theorem State.MapSet.of_withdraw {s c : State} {p : Nat} (hw : s.wf = true) (hp : p < 32)
    (h : State.MapSet s.withdraw c p) : State.MapSet s c p := by
  have hspan : s.withdraw.od (odAt odPartSpanMib p) = s.od (odAt odPartSpanMib p) :=
    (State.withdraw_quiet s (State.wf_dict hw)).2 _ (noisyKey_part (by decide) (by decide) hp)
  rwa [State.MapSet, hspan, State.still_hbm (State.withdraw_still s)] at h

/-- COMPOSE and REMAP (R227, R299 to R301). -/
theorem exec_setMap {s : State} {p code : Nat} {cmd : Instr} (hw : s.wf = true) (hp : p < 32)
    (hcmd : exec cmd s = .next (s.setMap p code)) :
    (s.withdraw.composeStatus p = csOk →
      ∃ t, exec cmd s = .next t ∧ (t.part p).composed = true ∧ (t.part p).ctrl = some (code, 1) ∧
        (t.part p).job.st = .empty ∧ (t.part p).span = s.od (odAt odPartSpanMib p) * 2 ^ 20 ∧
        (∀ pc ∈ (t.part p).chans, ∀ a, (t.part p).base ≤ a → a < (t.part p).base + (t.part p).span →
          mget zB t.hbm (2 ^ 31 * pc + a) = 0) ∧
        (∀ k, (∀ pc ∈ (t.part p).chans, k < 2 ^ 31 * pc + (t.part p).base ∨
            2 ^ 31 * pc + (t.part p).base + (t.part p).span ≤ k) → mget zB t.hbm k = mget zB s.hbm k) ∧
        t.od (odAt odPartHbmSize p) = (t.part p).hbmSize ∧ t.od (odAt odPartClusters p) = (t.part p).clusters) ∧
    (s.withdraw.composeStatus p ≠ csOk → exec cmd s = .next (s.endCtrl p (s.withdraw.composeStatus p))) := by
  refine ⟨fun h => ⟨s.setMap p code, hcmd, ?_⟩, fun h => hcmd.trans (congrArg _ (State.setMap_failed h))⟩
  have hww : s.withdraw.wf = true := (State.withdraw_keeps s (Keeps.refl s)).wf hw
  have hset : State.MapSet s (s.withdraw.composeMap p) p := .of_withdraw hw hp (State.composeMap_mapSet hww rfl)
  exact hset.done hw ((State.composeMap_keeps _ p (Keeps.refl _)).wf hww) (if_neg (not_not.mpr h))

/-! ### DISSOLVE -/

theorem State.portDrop_clusters (s : State) (x : SiteId) : (s.portDrop x).clusters = s.clusters := by
  unfold State.portDrop
  split
  · rfl
  split
  · rfl
  split <;> rfl

theorem State.servePlane_clusters (s : State) (x : SiteId) (plane : Nat) :
    (s.servePlane x plane).clusters = s.clusters := by
  unfold State.servePlane
  rfl

theorem State.servePort_clusters (s : State) (x : SiteId) : (s.servePort x).clusters = s.clusters := by
  unfold State.servePort
  split
  · exact (State.servePlane_clusters _ x 1).trans (State.servePlane_clusters s x 0)
  · exact State.servePlane_clusters s x 1
  · rfl

/-- Nothing waits in the mesh for a dark port, and its turn changes no site. -/
theorem State.portTurn_dark {s : State} {x : SiteId} (h : (s.cl x).port = .dark) : (s.portTurn x).clusters = s.clusters := by
  unfold State.portTurn
  extract_lets port keeps ws left mesh t u v
  have hport : ¬ (port = .hold ∨ port = .park) := by
    rw [show port = .dark from h]; decide
  have hu : u.clusters = s.clusters := by
    refine foldl_keeps State.clusters (fun u w => ?_) ws t
    rw [if_neg hport]
    exact State.portDrop_clusters u x
  clear_value u
  have hv : v.clusters = s.clusters := by
    unfold v
    split
    · exact hu
    · refine (foldl_keeps State.clusters (fun a k => ?_) [0, 1, 2] u).trans hu
      rfl
  clear_value v
  exact (State.servePort_clusters v x).trans hv

theorem State.railRefresh_cl (s : State) (b : Nat) (x : SiteId) : (s.railRefresh b).cl x = s.cl x := by
  unfold State.railRefresh
  extract_lets v falling
  split <;> rfl

/-- A site whose header opens stands as its `off` (R417). -/
theorem State.cutPower_cl {s : State} (hw : s.wf = true) (x : SiteId) :
    ((s.modCl x Cluster.off).portTurn x).cl x = (s.cl x).off := by
  have hmod := State.cl_modCl hw x Cluster.off
  exact (congrArg (mget zCl · x) (State.portTurn_dark (by rw [hmod]; rfl))).trans hmod

/-- A site that is switched off has no power (R417). -/
theorem State.switchOff_power {s : State} {x : SiteId} (hw : s.wf = true) : ((s.switchOff x).cl x).power = .off := by
  have hoff : State.AtSite x s (((s.unland x).lastCycles x).clearSite x) :=
    ((State.unland_atSite s x x).trans (State.lastCycles_atSite _ x)).trans (State.clearSite_atSite _ x)
  have hcut := State.cutPower_cl (hoff.keeps.wf hw) x
  unfold State.switchOff
  extract_lets t u
  have hcl : (u.railRefresh (x / 36)).cl x = (State.cl (((s.unland x).lastCycles x).clearSite x) x).off :=
    (State.railRefresh_cl u (x / 36) x).trans hcut
  rw [hcl]
  rfl

/-- A site without owner and power. -/
def State.gone (s : State) (x : SiteId) : Prop := (s.cl x).owner = none ∧ (s.cl x).power = .off

/-- A site that loses its owner stands without one, and with the power that it had. -/
theorem State.gone_disown {s : State} {x : SiteId} (hw : s.wf = true) (hp : (s.cl x).power = .off) :
    (s.modCl x fun c => { c with owner := none, lent := false }).gone x := by
  unfold State.gone
  rw [State.cl_modCl hw]
  exact ⟨rfl, hp⟩

theorem State.dropMail_gone {s : State} {x : SiteId} (y : SiteId) (h : s.gone x) : (s.dropMail y).gone x := h

/-- A site of a list that is released, if it is one. -/
def State.releaseOpt (s : State) (x : Option SiteId) : State :=
  match x with
  | some site => (s.releaseSite site).dropMail site
  | none => s

theorem State.releaseOpt_atSite (s : State) (x : Option SiteId) : State.AtSite (x.getD 0) s (s.releaseOpt x) := by
  cases x with
  | none => exact .refl s
  | some x => exact State.releaseDrop_atSite s x

/-- A released site has neither owner nor power (R417). -/
theorem State.releaseOpt_gone {s : State} {x : SiteId} (hw : s.wf = true) : (s.releaseOpt (some x)).gone x := by
  have hs := State.abandonRun_atSite s x x
  have hoff := State.switchOff_atSite (s.abandonRun x) x
  have h := State.gone_disown (hoff.keeps.wf (hs.keeps.wf hw)) (State.switchOff_power (x := x) (hs.keeps.wf hw))
  unfold State.releaseOpt State.releaseSite
  exact State.dropMail_gone x h

/-- A released site stays so while further ones are released. -/
theorem State.releaseAll_gone : ∀ (l : List (Option SiteId)) (s : State), s.wf = true → ∀ y, some y ∈ l ∨ s.gone y →
    (l.foldl State.releaseOpt s).gone y := by
  intro l
  induction l with
  | nil => exact fun s _ y h => h.resolve_left (List.not_mem_nil)
  | cons a l ih =>
    intro s hw y h
    have ha := State.releaseOpt_atSite s a
    rw [List.foldl_cons]
    refine ih _ (ha.keeps.wf hw) y ?_
    by_cases hy : a = some y
    · subst hy
      exact .inr (State.releaseOpt_gone hw)
    · refine h.imp (fun h => (List.mem_cons.mp h).resolve_left fun e => hy e.symm) fun hg => ?_
      cases a with
      | none => exact hg
      | some x =>
        unfold State.gone
        rw [ha.others hw y fun e => hy (by rw [e]; rfl)]
        exact hg

/-- What a map reads at a key is the default there, or stands in the map with the key. -/
theorem mget_default_or_mem {α : Type} (d : Nat → α) (m : SMap α) (k : Nat) : mget d m k = d k ∨ (k, mget d m k) ∈ m := by
  induction m with
  | nil => exact .inl rfl
  | cons a m ih =>
    obtain ⟨j, x⟩ := a
    simp only [mget]
    split
    · subst_vars
      exact .inr (List.mem_cons_self ..)
    split
    · exact .inl rfl
    · exact ih.imp_right (List.mem_cons_of_mem _)

/-- A key that reads a value in a map of options stands in it with this value. -/
theorem mem_of_mget_some {α : Type} {m : SMap (Option α)} {k : Nat} {v : α} (h : mget (fun _ => none) m k = some v) :
    (k, some v) ∈ m := by
  rcases mget_default_or_mem (fun _ => none) m k with e | e
  · rw [h] at e
    cases e
  · rwa [h] at e

theorem State.updCount_windows (s : State) : s.updCount.windows = s.windows := by
  unfold State.updCount
  exact foldl_keeps State.windows (fun u k => State.odSet_windows u (odAt odUpdateTableUsed k) _) (List.range 16) s

/-- Once the records of a partition are cleared no window of it is left (R300). -/
theorem State.clearRecords_window {s : State} {p h : Nat} {w : Window} (hw : (s.clearRecords p).window h = some w) :
    w.part ≠ p := by
  have hin : (s.clearRecords p).windows = s.windows.filter fun kv =>
      match kv.2 with
      | some w => w.part != p
      | none => true := by
    unfold State.clearRecords
    extract_lets ends keep t u
    have hu : u.windows = t.windows := by
      refine foldl_keeps State.windows (fun s ri => ?_) ends t
      split
      · exact State.still_windows (State.complete_frame _ _ _ _).still
      · rfl
    exact (State.updCount_windows _).trans hu
  have hmem := mem_of_mget_some (hw : mget (fun _ => none) (s.clearRecords p).windows h = some w)
  rw [hin] at hmem
  simpa using (List.mem_filter.mp hmem).2

theorem State.railsAll_frame (s : State) : State.LogFrame s s.railsAll := by
  unfold State.railsAll
  refine State.LogFrame.foldl (fun s b => ?_) _ _
  unfold State.railRefresh
  extract_lets v falling
  split <;> rfl

theorem State.updateDone_frame (s : State) : State.LogFrame s s.updateDone := by
  unfold State.updateDone
  split
  · exact (State.odSet_frame s _ _).trans (State.logEv_frame _ _ _ _ _ _)
  · rfl

/-! ### Positions that stay unmapped -/

/-- The position of an index that is unmapped stays so. -/
def State.unmapIdx (s : State) (p i : Nat) : State :=
  match (s.part p).sites.getD i none with
  | some x => s.unmapPos (x / 36) [s.siteLogical x]
  | none => s

theorem State.mem_unmapPos {s : State} (hw : s.wf = true) (b : Nat) (l : List Nat) :
    (∀ a q, q ∈ (s.bay a).unmapped → q ∈ ((s.unmapPos b l).bay a).unmapped) ∧
      ∀ q ∈ l, q ∈ ((s.unmapPos b l).bay b).unmapped := by
  have hb : (s.unmapPos b l).bay b = _ := State.bay_modBay hw b _
  refine ⟨fun a q hq => ?_, fun q hq => ?_⟩
  · by_cases ha : a = b
    · subst ha
      rw [hb]
      exact List.mem_append_left _ hq
    · have hbays : mwf zBay s.bays = true := by
        obtain ⟨-, -, -, -, -, -, -, -, -, h, -⟩ := State.wf_iff.mp hw
        exact h
      have ho : (s.unmapPos b l).bay a = s.bay a := mget_mset_other hbays ha
      rwa [ho]
  · rw [hb]
    by_cases hin : q ∈ (s.bay b).unmapped
    · exact List.mem_append_left _ hin
    · exact List.mem_append_right _ (List.mem_filter.mpr ⟨hq, by simpa using hin⟩)

/-- Unmapping an index changes the bays alone. -/
theorem State.unmapIdx_frame (s : State) (p i : Nat) :
    s.unmapIdx p i = { s with bays := (s.unmapIdx p i).bays } := by
  unfold State.unmapIdx
  split <;> rfl

theorem State.unmapIdx_keeps (s : State) (p i : Nat) : Keeps s (s.unmapIdx p i) := by
  unfold State.unmapIdx
  split
  · exact State.unmapPos_keeps s _ _ (Keeps.refl s)
  · exact Keeps.refl s

/-- The positions of indices that are unmapped one after the other stay unmapped (R45). -/
theorem State.unmapAll (p : Nat) : ∀ (l : List Nat) (s : State), s.wf = true →
    let t := l.foldl (fun s i => s.unmapIdx p i) s
    t.wf = true ∧ t.still = s.still ∧ (∀ b q, q ∈ (s.bay b).unmapped → q ∈ (t.bay b).unmapped) ∧
      ∀ i ∈ l, ∀ x, (s.part p).sites.getD i none = some x → s.siteLogical x ∈ (t.bay (x / 36)).unmapped := by
  intro l
  induction l with
  | nil => exact fun s hw => ⟨hw, rfl, fun _ _ h => h, fun i hi => absurd hi List.not_mem_nil⟩
  | cons j l ih =>
    intro s hw
    have hf := State.unmapIdx_frame s p j
    have hmono : ∀ b q, q ∈ (s.bay b).unmapped → q ∈ ((s.unmapIdx p j).bay b).unmapped := by
      unfold State.unmapIdx
      split
      · exact (State.mem_unmapPos hw _ _).1
      · exact fun _ _ h => h
    obtain ⟨htw, hstill, hkeep, hnew⟩ := ih (s.unmapIdx p j) ((State.unmapIdx_keeps s p j).wf hw)
    have hparts : (s.unmapIdx p j).part p = s.part p := by rw [hf]; rfl
    have hlog : ∀ x, (s.unmapIdx p j).siteLogical x = s.siteLogical x := by intro x; rw [hf]; rfl
    refine ⟨htw, hstill.trans (by rw [hf]; rfl), fun b q h => hkeep b q (hmono b q h), fun i hi x hx => ?_⟩
    rcases List.mem_cons.mp hi with rfl | hi
    · refine hkeep _ _ ?_
      unfold State.unmapIdx
      rw [hx]
      exact (State.mem_unmapPos hw _ _).2 _ (List.mem_singleton_self _)
    · rw [← hlog]
      exact hnew i hi x (hparts ▸ hx)

/-- The unmapped indices of a partition that is dissolved (R45). -/
theorem State.unmapLost_spec {s : State} (p : Nat) (hw : s.wf = true) :
    (s.unmapLost p).wf = true ∧ (s.unmapLost p).still = s.still ∧
      ∀ i ∈ (s.part p).lost, ∀ x, (s.part p).sites.getD i none = some x →
        s.siteLogical x ∈ ((s.unmapLost p).bay (x / 36)).unmapped := by
  obtain ⟨htw, hstill, -, hnew⟩ := State.unmapAll p ((s.part p).lost ++ s.shortOf p) s hw
  exact ⟨htw, hstill, fun i hi => hnew i (List.mem_append_left _ hi)⟩

/-- What is left of a partition once its sites are released (R300, R304). -/
theorem State.dissolveRest {s t : State} {p : Nat} (hw : s.wf = true)
    (ht : t = (
      let s := s.clearRecords p
      let s := (s.rings.filter fun kv => kv.2.part == p).foldl
        (fun (s : State) kv => s.modRing kv.1 fun r => { r with enabled := false, stopped := false }) s
      let s := s.dropReads p
      let s := s.modPart p fun x =>
        { Part.zero with ctrl := some (4, 1), hostCnt := x.hostCnt, digests := x.digests, commit := x.commit,
                         grant := x.grant }
      let s := { s with health := { s.health with stale := s.health.stale.filter fun x => x.1 != p }
                        hints := s.hints.filter fun h => h.part != p }
      let s := (s.odSet (odAt odPartClusters p) 0).odSet (odAt odPartHbmSize p) 0
      ((s.odSet odPartitionsComposed (((List.range 32).filter fun o => (s.part o).composed).length)).railsAll).updateDone)) :
    t.ground = s.ground ∧ (t.part p).composed = false ∧ (t.part p).sites = [] ∧
      ∀ h w, t.window h = some w → w.part ≠ p := by
  extract_lets c r d src m health hd o at ht
  have hcg : c.ground = s.ground := State.clearRecords_ground s p
  have hck : Keeps s c := State.clearRecords_keeps s p (Keeps.refl s)
  have hcw : ∀ h w, c.window h = some w → w.part ≠ p := fun h w hw => State.clearRecords_window hw
  clear_value c
  have hrg : r.ground = c.ground := by
    refine foldl_keeps State.ground (fun u kv => ?_) _ c
    rfl
  have hrw : r.windows = c.windows := by
    refine foldl_keeps State.windows (fun u kv => ?_) _ c
    rfl
  have hrk : Keeps s r := Keeps.foldl (fun u kv hu => State.modRing_keeps u _ _ hu) hck
  clear_value r
  have hm : m.part p = { Part.zero with ctrl := some (4, 1), hostCnt := (d.part p).hostCnt, digests := (d.part p).digests,
                                        commit := (d.part p).commit, grant := (d.part p).grant } :=
    State.part_modPart ((State.dropReads_keeps r p (Keeps.refl r)).wf (hrk.wf hw)) p _
  have hmg : m.ground = r.ground := rfl
  have hmw : m.windows = r.windows := rfl
  clear_value m
  have hframe : State.LogFrame hd t := by
    rw [ht]
    refine State.LogFrame.trans ?_ (State.updateDone_frame _)
    refine State.LogFrame.trans ?_ (State.railsAll_frame _)
    rfl
  have hwin : t.windows = c.windows :=
    (State.still_windows hframe.still).trans (hmw.trans hrw)
  have hpart : t.part p = m.part p := congrArg (mget zPart · p) hframe.parts
  refine ⟨hframe.ground.trans (hmg.trans (hrg.trans hcg)), ?_, ?_, fun h w e => hcw h w ?_⟩
  · rw [hpart, hm]; rfl
  · rw [hpart, hm]; rfl
  · rwa [State.window, hwin] at e

/-- DISSOLVE (R45, R300). -/
theorem exec_dissolve {s : State} {p : Nat} (hw : s.wf = true) (hc : (s.part p).ctrl = some (4, 0)) :
    ∃ t, exec (.dissolve p) s = .next t ∧ (t.part p).composed = false ∧ (t.part p).sites = [] ∧ t.hbm = s.hbm ∧
      (∀ site, some site ∈ (s.part p).sites → (t.cl site).owner = none ∧ (t.cl site).power = .off) ∧
      (∀ i ∈ (s.part p).lost, ∀ x, (s.part p).sites.getD i none = some x → x < 576 →
        s.siteLogical x ∈ (t.bay (x / 36)).unmapped) ∧
      (∀ h w, t.window h = some w → w.part ≠ p) := by
  obtain ⟨huw, hustill, hunmap⟩ := State.unmapLost_spec p hw
  show ∃ t, execDissolve p s = .next t ∧ _
  unfold execDissolve
  rw [if_neg (not_not.mpr hc)]
  extract_lets v w c r d src m health hd o
  have hv : State.PartAs p (s.unmapLost p) v := State.moveWaits_partAs p _ p _ _
  have hvg : v.ground = (s.unmapLost p).ground := State.moveWaits_ground _ p _ _
  have hvw : v.wf = true := hv.keeps.wf huw
  have hsites : (v.part p).sites = (s.part p).sites := by
    have h := hv.facts huw
    simp only [Part.facts, Prod.mk.injEq] at h
    obtain ⟨-, -, -, -, hsites, -, -⟩ := h
    rw [hsites, State.part, State.still_parts hustill]
    rfl
  clear_value v
  have hw' : w = (v.part p).sites.foldl State.releaseOpt v := rfl
  have hws : State.AtSites v w := State.AtSites.foldl (fun u x => (State.releaseOpt_atSite u x).atSites) _ v
  clear_value w
  obtain ⟨hground, hcomp, hnosites, hwindow⟩ := State.dissolveRest (p := p) (hws.keeps.wf hvw) rfl
  refine ⟨_, rfl, hcomp, hnosites, ?_, fun site hsite => ?_, fun i hi x hx _ => ?_, hwindow⟩
  · exact (State.ground_hbm hground).trans ((State.still_hbm hws.still).trans
      ((State.ground_hbm hvg).trans (State.still_hbm hustill)))
  · rw [State.ground_cl hground, hw']
    exact State.releaseAll_gone _ v hvw site (.inl (hsites ▸ hsite))
  · rw [State.ground_bay hground, hws.unmapped hvw, State.ground_bay hvg]
    exact hunmap i hi x hx

/-! ### Partition reset (R332, R333) -/

/-- The write of RESET begins the reset (R332). -/
theorem State.partCtrlWrite_reset {s : State} {p : Nat} (hc : (s.part p).ctrl = none) (hr : s.ready = true)
    (hcomp : (s.part p).composed = true) :
    s.partCtrlWrite p 3 = (s.modPart p fun x => { x with ctrl := some (3, 0), resetAt := some s.clk.dt }, odOk) := by
  unfold State.partCtrlWrite
  simp [hc, hr, hcomp]

/-- A commit of a partition under a reset is none of its facts. -/
theorem State.resetCommit_partAs (p o : Nat) (s : State) : State.PartAs p s (s.resetCommit o) := by
  unfold State.resetCommit
  split
  · exact .refl s
  split
  · exact State.modPart_partAs p s o fun _ => rfl
  · exact State.modPart_partAs p s o fun _ => rfl

/-- The sites of a grant that ends. -/
theorem State.dropGrant_sites (s : State) (o : Nat) :
    State.AtSites (s.modPart o fun x => { x with grant := none }) (s.dropGrant o) := by
  unfold State.dropGrant
  refine State.AtSites.foldl (fun u x => ?_) _ _
  split
  · split
    next site _ => exact ((State.abandonRun_atSite u site site).trans (State.modCl_atSite _ site _)).atSites
    · exact .refl u
  · exact .refl u

/-- A site of a partition that is reset, where it has power (R332). -/
def State.resetOpt (s : State) (x : Option SiteId) : State :=
  match x with
  | some site =>
    if (s.cl site).powered then
      ((((s.lastCycles site).clearSite site).modCl site fun x =>
        { x with port := .reset, power := if x.power = .parked then .on else x.power, waking := false,
                 counted := false, slew := 0, cntStop := false }).portTurn site).railRefresh (site / 36)
    else s
  | none => s

theorem State.resetOpt_atSites (s : State) (x : Option SiteId) : State.AtSites s (s.resetOpt x) := by
  unfold State.resetOpt
  split
  next site =>
    split
    · have h := (State.lastCycles_atSite s site).trans (State.clearSite_atSite _ site)
      exact (((h.trans (State.modCl_atSite _ site _)).trans (State.portTurn_atSite _ site)).trans
        (State.railRefresh_atSite _ site _)).atSites
    · exact .refl s
  · exact .refl s

/-- What is left once the digests, the grant, the copies and the clusters of a partition are reset. -/
theorem State.resetRest {r s t : State} {p : Nat} (hw : s.wf = true)
    (hr : r = (((s.modPart p fun x => { x with digests := [] }).sramClear).dropGrant p).dropCopies p)
    (ht : t = ((r.part p).sites.foldl State.resetOpt r).clearPosts p) :
    t.hbm = s.hbm ∧ t.cmds = s.cmds ∧ (∀ c ∈ t.copies, c.part ≠ p) ∧
      t.part p = { s.part p with digests := [], grant := none } := by
  have hd : (s.modPart p fun x => { x with digests := [] }).sramClear.part p = { s.part p with digests := [] } :=
    State.part_modPart hw p fun x => { x with digests := [] }
  have hdw : (s.modPart p fun x => { x with digests := [] }).sramClear.wf = true :=
    (State.sramClear_keeps _ (State.modPart_keeps s p _ (Keeps.refl s))).wf hw
  have hdh : (s.modPart p fun x => { x with digests := [] }).sramClear.hbm = s.hbm := rfl
  have hdc : (s.modPart p fun x => { x with digests := [] }).sramClear.cmds = s.cmds := rfl
  generalize (s.modPart p fun x => { x with digests := [] }).sramClear = d at hd hdw hdh hdc hr
  have hg := State.dropGrant_sites d p
  have hgp : (d.dropGrant p).part p = { d.part p with grant := none } := by
    rw [State.part, State.still_parts hg.still]
    exact State.part_modPart hdw p _
  have hgh : (d.dropGrant p).hbm = d.hbm := (State.still_hbm hg.still).trans rfl
  have hgc : (d.dropGrant p).cmds = d.cmds := congrArg (·.2) hg.orders
  generalize d.dropGrant p = g at hgp hgh hgc hr
  have hrp : r.part p = g.part p := by rw [hr]; rfl
  have hrh : r.hbm = g.hbm := by rw [hr]; rfl
  have hrc : r.cmds = g.cmds := by rw [hr]; rfl
  have hry : ∀ c ∈ r.copies, c.part ≠ p := by
    intro c hc
    rw [hr] at hc
    simpa using (List.mem_filter.mp hc).2
  have hu := State.AtSites.foldl State.resetOpt_atSites (r.part p).sites r
  generalize (r.part p).sites.foldl State.resetOpt r = u at hu ht
  rw [ht]
  refine ⟨(State.still_hbm hu.still).trans (hrh.trans (hgh.trans hdh)), ?_, fun c hc => hry c ?_, ?_⟩
  · exact (congrArg (·.2) hu.orders : u.cmds = r.cmds).trans (hrc.trans (hgc.trans hdc))
  · exact State.still_copies hu.still ▸ hc
  · show u.part p = _
    rw [State.part, State.still_parts hu.still]
    exact hrp.trans (hgp.trans (by rw [hd]))

/-- PARTITION_RESET (R332, R333). -/
theorem exec_partitionReset {s : State} {p : Nat} (hw : s.wf = true) (hc : (s.part p).ctrl = some (3, 0)) :
    ∃ t, exec (.partitionReset p) s = .next t ∧ t.hbm = s.hbm ∧ (t.part p).ctrl = some (3, 1) ∧
      (t.part p).resetAt = (s.part p).resetAt ∧ (t.part p).digests = [] ∧ (t.part p).grant = none ∧
      (∀ c ∈ t.cmds, c.part ≠ p) ∧ (∀ c ∈ t.copies, c.part ≠ p) ∧
      ((s.part p).job.st = .running ∨ (s.part p).job.st = .armed →
        (t.part p).job.st = .halted ∧ (t.part p).job.reason = 6) := by
  show ∃ t, execPartitionReset p s = .next t ∧ _
  unfold execPartitionReset
  rw [if_neg (not_not.mpr hc)]
  extract_lets m l d f q g r u
  have hm : m.part p = { s.part p with ctrl := some (3, 1) } := State.part_modPart hw p _
  have hmw : m.wf = true := (State.modPart_keeps s p _ (Keeps.refl s)).wf hw
  have hmh : m.hbm = s.hbm := rfl
  clear_value m
  have hl : State.PartAs p m l :=
    (State.AtSites.foldl (fun v x => (State.unland_atSite v x x).atSites) _ m).partAs
  clear_value l
  have hd : State.PartAs p m d := hl.trans (State.discardPart_partAs p l p)
  clear_value d
  have hfw : f.wf = true := (State.dropReads_keeps ({ d with cmds := _ } : State) p hd.keeps).wf hmw
  have hfp : f.part p = d.part p := rfl
  have hfh : f.hbm = d.hbm := rfl
  have hfc : ∀ c ∈ f.cmds, c.part ≠ p := fun c h => by simpa using (List.mem_filter.mp h).2
  clear_value f
  have hend := State.stepLost_ends p rsPartReset hfw
  have hq : State.PartAs p (f.stepLost p rsPartReset) q := State.resetCommit_partAs p p _
  have hlw : (f.stepLost p rsPartReset).wf = true := (State.stepLost_keeps f p rsPartReset (Keeps.refl f)).wf hfw
  clear_value q
  obtain ⟨hrh, hrc, hry, hrp⟩ := State.resetRest (t := u.clearPosts p) (hq.keeps.wf hlw) rfl rfl
  have hqf := hq.facts hlw
  have hdf := hd.facts hmw
  simp only [Part.facts, Prod.mk.injEq] at hqf hdf
  obtain ⟨qctrl, qreset, -, -, -, qst, qreason⟩ := hqf
  obtain ⟨dctrl, dreset, -, -, -, dst, -⟩ := hdf
  refine ⟨_, rfl, ?_, ?_, ?_, ?_, ?_, fun c h => ?_, hry, fun h => ?_⟩
  · exact hrh.trans (hq.hbm.trans (hend.hbm.trans (hfh.trans (hd.hbm.trans hmh))))
  · rw [hrp]
    exact qctrl.trans (hend.ctrl.trans (by rw [hfp, dctrl, hm]))
  · rw [hrp]
    exact qreset.trans (hend.resetAt.trans (by rw [hfp, dreset, hm]))
  · rw [hrp]
  · rw [hrp]
  · exact hfc c (hend.cmds c (hq.cmds c (hrc ▸ h)))
  · rw [hrp]
    have hj : (f.part p).job.st = (s.part p).job.st := by rw [hfp, dst, hm]
    obtain ⟨est, ereason⟩ := hend.job (by rwa [hj])
    exact ⟨qst.trans est, qreason.trans ereason⟩

/-! ### The end of a control -/

/-- The memories stay, and of the dictionary all but the noisy entries. -/
def State.Calm (s t : State) : Prop := s.sameMem t ∧ State.Quiet s t

namespace State.Calm

variable {s t u : State}

theorem refl (s : State) : State.Calm s s := ⟨⟨rfl, rfl, rfl, rfl, rfl, rfl⟩, State.Quiet.refl s⟩

theorem trans (h : State.Calm s t) (k : State.Calm t u) : State.Calm s u :=
  ⟨State.sameMem_trans h.1 k.1, h.2.trans k.2⟩

theorem foldl {β : Type} {f : State → β → State} (hf : ∀ s b, State.Calm s (f s b)) (l : List β) :
    ∀ s, State.Calm s (l.foldl f s) := by
  induction l with
  | nil => exact fun s => refl s
  | cons b l ih => exact fun s => (hf s b).trans (ih (f s b))

end State.Calm

theorem State.Logs.calm {s t : State} (h : State.Logs s t) : State.Calm s t := ⟨h.frame.sameMem, h.quiet⟩

/-- What changes neither a memory nor the dictionary. -/
theorem State.Calm.of_val {s t : State} (h : s.sameMem t) (hd : t.dict.val = s.dict.val) : State.Calm s t :=
  ⟨h, .of_val hd⟩

theorem State.odAdd_calm (s : State) {k : Nat} (hk : noisyKey k = true) (n : Nat) : State.Calm s (s.odAdd k n) :=
  ⟨⟨rfl, rfl, rfl, rfl, rfl, rfl⟩, State.Quiet.odAdd s hk n⟩

theorem State.modCl_calm (s : State) (x : SiteId) (f : Cluster → Cluster) : State.Calm s (s.modCl x f) :=
  .of_val ⟨rfl, rfl, rfl, rfl, rfl, rfl⟩ rfl

theorem State.mesh_calm (s : State) (m : Mesh) : State.Calm s { s with mesh := m } :=
  .of_val ⟨rfl, rfl, rfl, rfl, rfl, rfl⟩ rfl

theorem State.retryReq_calm (s : State) (src : Nat) (num : BitVec 32) : State.Calm s (s.retryReq src num) :=
  (State.odAdd_calm s rfl 1).trans (State.mesh_calm _ _)

theorem State.wakePort_calm (s : State) (x : SiteId) : State.Calm s (s.wakePort x) := by
  unfold State.wakePort
  split
  · exact State.modCl_calm s x _
  · exact .refl s

theorem State.portDrop_calm (s : State) (x : SiteId) : State.Calm s (s.portDrop x) := by
  unfold State.portDrop
  split
  · exact State.odAdd_calm s rfl 1
  split
  · exact State.odAdd_calm s rfl 1
  split
  · exact State.odAdd_calm s rfl 1
  · exact .refl s

theorem State.servePlane_calm (s : State) (x : SiteId) (plane : Nat) : State.Calm s (s.servePlane x plane) :=
  (State.mesh_calm s _).trans (State.mesh_calm _ _)

theorem State.servePort_calm (s : State) (x : SiteId) : State.Calm s (s.servePort x) := by
  unfold State.servePort
  split
  · exact (State.servePlane_calm s x 0).trans (State.servePlane_calm _ x 1)
  · exact State.servePlane_calm s x 1
  · exact .refl s

/-- What waits at a port that turns is answered or discarded; no memory changes. -/
theorem State.portTurn_calm (s : State) (x : SiteId) : State.Calm s (s.portTurn x) := by
  unfold State.portTurn
  extract_lets port keeps ws left mesh t u v
  have ht : State.Calm s t := State.mesh_calm s _
  clear_value t
  have hu : State.Calm t u := by
    refine State.Calm.foldl (fun a w => ?_) ws t
    split
    · exact (State.retryReq_calm a _ _).trans (State.wakePort_calm _ x)
    · exact State.portDrop_calm a x
  clear_value u
  have hv : State.Calm u v := by
    unfold v
    split
    · exact .refl u
    · refine State.Calm.foldl (fun a k => ?_) [0, 1, 2] u
      exact (State.mesh_calm a _).trans (State.mesh_calm _ _)
  exact ((ht.trans hu).trans hv).trans (State.servePort_calm v x)

/-- A site of a partition whose reset ends: its port leaves RESET (R332). -/
def State.reopenOpt (s : State) (x : Option SiteId) : State :=
  match x with
  | some site =>
    if (s.cl site).port = .reset then
      (s.modCl site fun x => { x with port := if x.power = .paused then .hold else .opened
                                      idleSince := s.clk.dt }).portTurn site
    else s
  | none => s

theorem State.reopenOpt_calm (s : State) (x : Option SiteId) : State.Calm s (s.reopenOpt x) := by
  unfold State.reopenOpt
  split
  · split
    · exact (State.modCl_calm s _ _).trans (State.portTurn_calm _ _)
    · exact .refl s
  · exact .refl s

theorem State.reopenOpt_atSites (s : State) (x : Option SiteId) : State.AtSites s (s.reopenOpt x) := by
  unfold State.reopenOpt
  split
  next site =>
    split
    · exact ((State.modCl_atSite s site _).trans (State.portTurn_atSite _ site)).atSites
    · exact .refl s
  · exact .refl s

/-- A ring skips to its PROD (R332). -/
def State.skipRing (s : State) (kv : Nat × Ring) : State := s.modRing kv.1 fun r => { r with cons := r.prod }

theorem State.skipRing_keeps (s : State) (kv : Nat × Ring) : Keeps s (s.skipRing kv) :=
  State.modRing_keeps s _ _ (Keeps.refl s)

theorem State.ring_skipRing {s : State} (hw : s.wf = true) (kv : Nat × Ring) (r : Nat) :
    (s.skipRing kv).ring r = if r = kv.1 then { s.ring r with cons := (s.ring r).prod } else s.ring r := by
  have hr : mwf zRing s.rings = true := by simp [State.wf, State.unitsWf] at hw; simp [hw]
  split
  next h => subst h; exact mget_mset_same hr
  next h => exact mget_mset_other hr h

/-- Rings that skip one after the other stand at their PROD, and so does one that stood there before. -/
theorem State.skipAll : ∀ (l : List (Nat × Ring)) (s : State), s.wf = true → ∀ r,
    (r ∈ l.map (·.1) ∨ (s.ring r).cons = (s.ring r).prod) → ((l.foldl State.skipRing s).ring r).cons = (s.ring r).prod := by
  intro l
  induction l with
  | nil => exact fun s _ r h => h.resolve_left List.not_mem_nil
  | cons kv l ih =>
    intro s hw r h
    have hone := State.ring_skipRing hw kv r
    have hprod : ((s.skipRing kv).ring r).prod = (s.ring r).prod := by
      rw [hone]
      split <;> rfl
    rw [List.foldl_cons, ← hprod]
    refine ih _ ((State.skipRing_keeps s kv).wf hw) r ?_
    by_cases hr : r = kv.1
    · right
      rw [hone, if_pos hr]
    · refine h.imp (fun h => (List.mem_cons.mp h).resolve_left hr) fun h => ?_
      rw [hone, if_neg hr, h]

/-- The entry of a partition's ring in the map of rings. -/
theorem State.ring_mem {s : State} {p r : Nat} (hp : p < 32) (h : (s.ring r).part = p) :
    r ∈ (s.rings.filter fun kv => kv.2.part == p).map (·.1) := by
  rcases mget_default_or_mem zRing s.rings r with e | e
  · have : (255 : Nat) = p := by rw [← h, State.ring, e]; rfl
    omega
  · exact List.mem_map.mpr ⟨_, List.mem_filter.mpr ⟨e, beq_iff_eq.mpr h⟩, rfl⟩

/-- A control that ends with a status (R300). -/
theorem State.endCtrl_done {s : State} (hw : s.wf = true) (p status : Nat) :
    s.sameMem (s.endCtrl p status) ∧ ((s.endCtrl p status).part p) = { s.part p with ctrl := none } ∧
      (s.endCtrl p status).od (odAt odPartCtrlStatus p) = status ∧ (s.endCtrl p status).rings = s.rings ∧
      ∀ k, k ≠ odAt odPartCtrlStatus p → (s.endCtrl p status).od k = s.od k :=
  ⟨⟨rfl, rfl, rfl, rfl, rfl, rfl⟩, State.part_modPart hw p fun x => { x with ctrl := none },
    State.od_odSet_same (State.wf_dict hw) _ _, rfl, fun _ hk => State.od_odSet_other (State.wf_dict hw) _ hk⟩

/-- What is left of a reset once the ports are open: the record and the end of the control (R332). -/
theorem State.resetEnd {s e t : State} {p : Nat} (hw : s.wf = true)
    (he : e = (s.modPart p fun x => { x with resetAt := none }).odAdd odPartitionResetCount 1)
    (ht : t = (e.logEv 0x9005 unModule (some p) noLunit []).endCtrl p csOk) :
    s.sameMem t ∧ (t.part p).resetAt = none ∧ (t.part p).ctrl = none ∧ t.od (odAt odPartCtrlStatus p) = csOk ∧
      (∀ r, (t.ring r).cons = (s.ring r).cons) ∧
      t.od odPartitionResetCount = (s.od odPartitionResetCount + 1) % 2 ^ 64 := by
  have hew : e.wf = true := by
    rw [he]
    exact (State.odAdd_keeps _ _ _ (State.modPart_keeps s p _ (Keeps.refl s))).wf hw
  have hep : (e.part p).resetAt = none := by
    rw [he]
    exact congrArg Part.resetAt (State.part_modPart hw p fun x => { x with resetAt := none })
  have her : e.rings = s.rings := by rw [he]; rfl
  have hem : s.sameMem e := by rw [he]; exact ⟨rfl, rfl, rfl, rfl, rfl, rfl⟩
  have hec : e.od odPartitionResetCount = (s.od odPartitionResetCount + 1) % 2 ^ 64 := by
    rw [he]
    exact State.od_odSet_same (State.wf_dict ((State.modPart_keeps s p _ (Keeps.refl s)).wf hw)) _ _
  clear he
  have hlog := State.logEv_logs e 0x9005 unModule (some p) noLunit []
  generalize e.logEv 0x9005 unModule (some p) noLunit [] = l at hlog ht
  obtain ⟨hmem, hpart, hstatus, hrings, hod⟩ := State.endCtrl_done (hlog.keeps.wf hew) p csOk
  rw [← ht] at hmem hpart hstatus hrings hod
  have hlp : l.part p = e.part p := congrArg (mget zPart · p) (State.still_parts hlog.frame.still)
  refine ⟨?_, ?_, ?_, hstatus, fun r => ?_, ?_⟩
  · exact State.sameMem_trans hem (State.sameMem_trans hlog.frame.sameMem hmem)
  · rw [hpart, hlp]
    exact hep
  · rw [hpart]
  · obtain ⟨hcons, -⟩ := hlog.ring hew r
    rw [State.ring, hrings]
    refine hcons.trans ?_
    rw [State.ring, her]
    rfl
  · rw [hod _ (by unfold odAt odPartitionResetCount odPartCtrlStatus; omega), ← hec]
    obtain ⟨-, hq⟩ := hlog.quiet (State.wf_dict hew)
    exact hq _ rfl

/-- PARTITION_RESET_COMPLETE (R332). -/
theorem exec_partitionResetComplete {s : State} {p : Nat} (hw : s.wf = true) (hp : p < 32)
    (hc : (s.part p).ctrl = some (3, 1)) :
    ∃ t, exec (.partitionResetComplete p) s = .next t ∧ s.sameMem t ∧ (t.part p).resetAt = none ∧
      (t.part p).ctrl = none ∧ t.od (odAt odPartCtrlStatus p) = csOk ∧
      (∀ r, (s.ring r).part = p → (t.ring r).cons = (s.ring r).prod) ∧
      t.od odPartitionResetCount = (s.od odPartitionResetCount + 1) % 2 ^ 64 := by
  show ∃ t, execPartitionResetComplete p s = .next t ∧ _
  unfold execPartitionResetComplete
  rw [if_neg (not_not.mpr hc)]
  extract_lets u v e
  have hu : State.AtSites s u := State.AtSites.foldl State.reopenOpt_atSites _ s
  have hum : State.Calm s u := State.Calm.foldl State.reopenOpt_calm _ s
  have hur : u.rings = s.rings := congrArg (·.1) hu.orders
  clear_value u
  have huw : u.wf = true := hu.keeps.wf hw
  have hvw : v.wf = true := (Keeps.foldl (fun a kv ha => ha.trans (State.skipRing_keeps a kv)) (Keeps.refl u)).wf huw
  have hv : v = (u.rings.filter fun kv => kv.2.part == p).foldl State.skipRing u := rfl
  have hvc : State.Calm u v := by
    refine State.Calm.foldl (fun a kv => ?_) _ u
    exact .of_val ⟨rfl, rfl, rfl, rfl, rfl, rfl⟩ rfl
  clear_value v
  obtain ⟨hmem, hreset, hctrl, hstatus, hring, hcount⟩ := State.resetEnd hvw rfl rfl
  refine ⟨_, rfl, ?_, hreset, hctrl, hstatus, fun r hr => ?_, ?_⟩
  · exact State.sameMem_trans (hum.trans hvc).1 hmem
  · have hsame : u.ring r = s.ring r := by rw [State.ring, hur]; rfl
    rw [hring r, hv, ← hsame]
    exact State.skipAll _ u huw r (.inl (State.ring_mem hp (hsame ▸ hr)))
  · rw [hcount]
    obtain ⟨-, hq⟩ := (hum.trans hvc).2 (State.wf_dict hw)
    rw [hq _ rfl]

/-- A control that ends after what changes no memory (R300, R343). -/
theorem State.endCtrl_after {s u : State} (hmem : s.sameMem u) (hw : u.wf = true) (p : Nat) :
    s.sameMem (u.endCtrl p csOk) ∧ ((u.endCtrl p csOk).part p).ctrl = none ∧
      (u.endCtrl p csOk).od (odAt odPartCtrlStatus p) = csOk := by
  obtain ⟨-, hpart, hstatus, -, -⟩ := State.endCtrl_done hw p csOk
  exact ⟨hmem, by rw [hpart], hstatus⟩

/-- A control that ends after its record, with the logs of the partitions set before and after it (R343, R520). -/
theorem State.endLogged {s : State} (hw : s.wf = true) (p : Nat) (l : LogSt) (f : LogSt → LogSt) :
    let u := ({ s with log := l } : State).logEv 0x9006 unModule (some p) noLunit []
    let t := ({ u with log := f u.log } : State).endCtrl p csOk
    s.sameMem t ∧ (t.part p).ctrl = none ∧ t.od (odAt odPartCtrlStatus p) = csOk := by
  have hlog := State.logEv_logs ({ s with log := l } : State) 0x9006 unModule (some p) noLunit []
  exact State.endCtrl_after (u := { State.logEv { s with log := l } 0x9006 unModule (some p) noLunit [] with log := f _ })
    hlog.frame.sameMem (hlog.keeps.wf hw) p

/-- PART_CTRL_END of a control that has taken effect (R300, R343). -/
theorem exec_partCtrlEnd {s : State} {p k : Nat} (hw : s.wf = true) (hk : k ∈ [1, 2, 4])
    (hc : (s.part p).ctrl = some (k, 1)) :
    ∃ t, exec (.partCtrlEnd p) s = .next t ∧ s.sameMem t ∧ (t.part p).ctrl = none ∧
      t.od (odAt odPartCtrlStatus p) = csOk := by
  show ∃ t, execPartCtrlEnd p s = .next t ∧ _
  unfold execPartCtrlEnd
  rcases List.mem_cons.mp hk with rfl | hk
  · rw [hc]
    exact ⟨_, rfl, State.endLogged hw p { s.log with plogs := _ } id⟩
  rcases List.mem_cons.mp hk with rfl | hk
  · rw [hc]
    exact ⟨_, rfl, State.endLogged hw p s.log id⟩
  · obtain rfl := List.mem_singleton.mp hk
    rw [hc]
    exact ⟨_, rfl, State.endLogged hw p s.log fun x => { x with plogs := mset (fun _ => none) x.plogs p none }⟩

/-- Settles O44: each control is followed through its command; COMPOSE and REMAP share one lemma about the map that they
set, and DISSOLVE and RESET are folds over sites that leave HBM, the records and the other sites as they are. -/
theorem partitionsAreControlled : Obligations.PartitionsAreControlled := by
  unfold Obligations.PartitionsAreControlled
  intro s p hw hp
  refine ⟨fun r hr hc => ?_, exec_dissolve hw, State.partCtrlWrite_reset, exec_partitionReset hw,
    exec_partitionResetComplete hw hp, fun k hk => exec_partCtrlEnd hw hk⟩
  rcases List.mem_cons.mp hr with rfl | hr
  · exact exec_setMap hw hp (if_neg (not_not.mpr hc))
  · obtain rfl := List.mem_singleton.mp hr
    exact exec_setMap hw hp (if_neg (not_not.mpr hc))

end Sys2Proof.Machine
end

section
/-! PROOFS. Port control, routed packets, link requests and host data (R54, R442, R456 to R464, R473, R476). -/

namespace Sys2Proof.Machine

open Sys2Proof

/-! ### PORT_CTRL (R456) -/

/-- A write that its entry takes answers OK. -/
theorem State.keyWrite_ok {s t : State} {route key : Nat} {k : State → State × Nat} (h : s.mayWrite route key)
    (hk : k s = (t, odOk)) : ∃ typ n, s.keyWrite route key k = t.odFailRow odOk typ n := by
  obtain ⟨typ, n, e⟩ := State.keyWrite_may h k
  rw [hk, if_pos rfl] at e
  exact ⟨typ, n, e⟩

/-- A write that its entry refuses answers the reason. -/
theorem State.keyWrite_refused {s : State} {route key st : Nat} {k : State → State × Nat} (h : s.mayWrite route key)
    (hk : k s = (s, st)) (hst : st ≠ odOk) : ∃ typ n, s.keyWrite route key k = s.odFailRow st typ n := by
  obtain ⟨typ, n, e⟩ := State.keyWrite_may h k
  rw [hk, if_neg hst] at e
  exact ⟨typ, n, e⟩

/-- No entry of a port is one of the noisy ones. -/
theorem noisyKey_port {j k : Nat} (hj : 0x501000 ≤ j) (hj' : j < 0x501100) (hk : k < 36) : noisyKey (odAt j k) = false := by
  unfold odAt
  simp [noisyKey, odEarlyEventsLost, odMeshUnreachDropCount, odMeshRetryCount, odMeshDarkDropCount, odMeshResetDropCount,
    odStudbookCount, odClustersOffered, odSparesUsable, odReplaceFlag, odMbDropCount, odStepLostCount, odLinkDropAgeCount]
  omega

/-- What a link that goes DOWN leaves: itself without what it held, its state, no width, and its other entries. -/
theorem State.linkDown_spec {s : State} (hw : s.wf = true) {k : Nat} (hk : k < 36) (st : Nat) :
    s.sameMem (s.linkDown k st) ∧ (s.linkDown k st).link k = (s.link k).down ∧
      (s.linkDown k st).od (odAt odPortState k) = st ∧ (s.linkDown k st).od (odAt odPortWidth k) = 0 ∧
      (s.linkDown k st).od (odAt odPortCtrl k) = s.od (odAt odPortCtrl k) := by
  have hdw := State.wf_dict hw
  unfold State.linkDown
  extract_lets was a b c
  have haw : mwf odDefault a.dict.val = true := State.odSet_dictWf hdw _ _
  have hbw : mwf odDefault b.dict.val = true := State.odSet_dictWf haw _ _
  have hbs : b.od (odAt odPortState k) = st :=
    (State.od_odSet_other haw _ (by unfold odAt odPortState odPortWidth; omega)).trans (State.od_odSet_same hdw _ _)
  have hbwid : b.od (odAt odPortWidth k) = 0 := State.od_odSet_same haw _ _
  have hbc : b.od (odAt odPortCtrl k) = s.od (odAt odPortCtrl k) :=
    (State.od_odSet_other haw _ (by unfold odAt odPortCtrl odPortWidth; omega)).trans
      (State.od_odSet_other hdw _ (by unfold odAt odPortCtrl odPortState; omega))
  have hbl : b.link k = (s.link k).down := State.link_modLink hw k Link.down
  have hbm : s.sameMem b := ⟨rfl, rfl, rfl, rfl, rfl, rfl⟩
  clear_value a b
  have hlog : State.Logs b c := by
    unfold c
    split
    · exact State.logEv_logs b _ _ _ _ _
    · exact .refl b
  clear_value c
  have hside : c.hostSide = { c with hostPort := c.hostSide.hostPort } := by
    unfold State.hostSide
    split
    · rfl
    split
    · rfl
    split <;> rfl
  obtain ⟨-, hq⟩ := hlog.quiet hbw
  have hlinks : c.links = b.links := by
    have h := hlog.frame
    unfold State.LogFrame at h
    rw [h]
  rw [hside]
  refine ⟨?_, ?_, ?_, ?_, ?_⟩
  · exact State.sameMem_trans hbm hlog.frame.sameMem
  · exact (congrArg (mget zLink · k) hlinks).trans hbl
  · exact (hq _ (noisyKey_port (by decide) (by decide) hk)).trans hbs
  · exact (hq _ (noisyKey_port (by decide) (by decide) hk)).trans hbwid
  · exact (hq _ (noisyKey_port (by decide) (by decide) hk)).trans hbc

section

variable {s : State} {route k : Nat}

/-- PORT_ENABLE (R456). -/
theorem exec_portEnable (hw : s.wf = true) (h : s.mayWrite route (odAt odPortCtrl k)) :
    ∃ t, exec (.portEnable route k) s = .next t ∧ s.sameMem t ∧ (t.link k).enabled = true ∧ t.od (odAt odPortCtrl k) = 1 ∧
      t.od (odAt odPortState k) = (if s.od (odAt odPortState k) = 2 then 2 else 1) := by
  have hdw := State.wf_dict hw
  let u := (s.modLink k fun x => { x with enabled := true }).odSet (odAt odPortCtrl k) 1
  have huw : mwf odDefault u.dict.val = true := State.odSet_dictWf hdw _ _
  have hue : (u.link k).enabled = true := congrArg Link.enabled (State.link_modLink hw k fun x => { x with enabled := true })
  have huc : u.od (odAt odPortCtrl k) = 1 := State.od_odSet_same hdw _ _
  have hus : u.od (odAt odPortState k) = s.od (odAt odPortState k) :=
    State.od_odSet_other hdw _ (by unfold odAt odPortCtrl odPortState; omega)
  have hne : odAt odPortCtrl k ≠ odAt odPortState k := by unfold odAt odPortCtrl odPortState; omega
  by_cases h2 : s.od (odAt odPortState k) = 2
  · obtain ⟨typ, n, e⟩ := State.keyWrite_ok (t := u) (k := fun s => s.portCtrl k 1) h (by
      unfold State.portCtrl
      simp only [if_true, h2]
      rfl)
    refine ⟨_, congrArg Host.Outcome.next e, ⟨rfl, rfl, rfl, rfl, rfl, rfl⟩, hue, huc, ?_⟩
    rw [if_pos h2]
    exact hus.trans h2
  · obtain ⟨typ, n, e⟩ := State.keyWrite_ok (t := u.odSet (odAt odPortState k) 1) (k := fun s => s.portCtrl k 1) h (by
      unfold State.portCtrl
      simp only [if_true, h2, if_false]
      rfl)
    refine ⟨_, congrArg Host.Outcome.next e, ⟨rfl, rfl, rfl, rfl, rfl, rfl⟩, hue, (State.od_odSet_other huw _ hne).trans huc, ?_⟩
    rw [if_neg h2]
    exact State.od_odSet_same huw _ _

/-- A link that a write takes DOWN once its own fields are set (R451, R456). -/
theorem State.portCtrl_down {f : Link → Link} {v st : Nat} (hw : s.wf = true) (hk : k < 36)
    (h : s.mayWrite route (odAt odPortCtrl k))
    (hv : s.portCtrl k v = (((s.modLink k f).odSet (odAt odPortCtrl k) v).linkDown k st, odOk)) :
    ∃ t, (s.keyWrite route (odAt odPortCtrl k) fun s => s.portCtrl k v) = t ∧ s.sameMem t ∧
      t.link k = (f (s.link k)).down ∧ t.od (odAt odPortCtrl k) = v ∧ t.od (odAt odPortState k) = st ∧
      t.od (odAt odPortWidth k) = 0 := by
  obtain ⟨typ, n, e⟩ := State.keyWrite_ok (k := fun s => s.portCtrl k v) h hv
  have huw : ((s.modLink k f).odSet (odAt odPortCtrl k) v).wf = true :=
    (State.odSet_keeps _ _ _ (State.modLink_keeps s k f (Keeps.refl s))).wf hw
  have hdown := State.linkDown_spec huw hk st
  generalize ((s.modLink k f).odSet (odAt odPortCtrl k) v).linkDown k st = d at e hdown
  obtain ⟨hmem, hlink, hstate, hwidth, hctrl⟩ := hdown
  refine ⟨_, e, hmem, ?_, ?_, hstate, hwidth⟩
  · exact hlink.trans (congrArg Link.down (State.link_modLink hw k f))
  · exact hctrl.trans (State.od_odSet_same (State.wf_dict hw) _ _)

/-- PORT_DISABLE (R456). -/
theorem exec_portDisable (hw : s.wf = true) (hk : k < 36) (h : s.mayWrite route (odAt odPortCtrl k)) :
    ∃ t, exec (.portDisable route k) s = .next t ∧ s.sameMem t ∧ (t.link k).enabled = false ∧
      t.od (odAt odPortCtrl k) = 2 ∧ t.od (odAt odPortState k) = 3 ∧ t.od (odAt odPortWidth k) = 0 := by
  obtain ⟨t, e, hmem, hlink, hctrl, hstate, hwidth⟩ := State.portCtrl_down (f := fun x => { x with enabled := false })
    (v := 2) (st := 3) hw hk h rfl
  exact ⟨t, congrArg Host.Outcome.next e, hmem, by rw [hlink]; rfl, hctrl, hstate, hwidth⟩

/-- PORT_RETRAIN of an enabled link (R456). -/
theorem exec_portRetrain (hw : s.wf = true) (hk : k < 36) (h : s.mayWrite route (odAt odPortCtrl k))
    (he : (s.link k).enabled = true) :
    ∃ t, exec (.portRetrain route k) s = .next t ∧ s.sameMem t ∧ (t.link k).badLanes = [] ∧
      t.od (odAt odPortCtrl k) = 3 ∧ t.od (odAt odPortState k) = 1 ∧ t.od (odAt odPortWidth k) = 0 := by
  obtain ⟨t, e, hmem, hlink, hctrl, hstate, hwidth⟩ :=
    State.portCtrl_down (f := fun x => { x with badLanes := [], retest := true }) (v := 3) (st := 1) hw hk h (by
      unfold State.portCtrl
      simp [he])
  exact ⟨t, congrArg Host.Outcome.next e, hmem, by rw [hlink]; rfl, hctrl, hstate, hwidth⟩

/-- PORT_RETRAIN of a disabled link is refused (R456). -/
theorem exec_portRetrain_disabled (h : s.mayWrite route (odAt odPortCtrl k)) (he : (s.link k).enabled = false) :
    ∃ t, exec (.portRetrain route k) s = .next t ∧ s.sameOd t ∧ t.links = s.links := by
  obtain ⟨typ, n, e⟩ := State.keyWrite_refused (k := fun s => s.portCtrl k 3) (st := odRange) h (by
    unfold State.portCtrl
    simp [he]) (by decide)
  exact ⟨_, congrArg Host.Outcome.next e, ⟨rfl, rfl⟩, rfl⟩

end

/-! ### The header of a routed packet (R460, R461) -/

/-- A field of a word that is made from a number. -/
theorem fld_ofNat {w lo n : Nat} (N : Nat) (h : lo + n ≤ w) : fld (BitVec.ofNat w N) lo n = N / 2 ^ lo % 2 ^ n := by
  obtain ⟨m, rfl⟩ : ∃ m, w = lo + m := ⟨w - lo, by omega⟩
  rw [fld, BitVec.extractLsb'_toNat, BitVec.toNat_ofNat, Nat.shiftRight_eq_div_pow, Nat.pow_add,
    Nat.mod_mul_right_div_self, Nat.mod_mod_of_dvd _ (Nat.pow_dvd_pow 2 (by omega))]

/-- A field within the first of the packed ones. -/
theorem packBits_head {w lo n : Nat} (v : Nat) (r : List (Nat × Nat)) (h : lo + n ≤ w) :
    packBits ((w, v) :: r) / 2 ^ lo % 2 ^ n = v / 2 ^ lo % 2 ^ n := by
  obtain ⟨m, rfl⟩ : ∃ m, w = lo + (n + m) := ⟨w - lo - n, by omega⟩
  have hsplit : (v % 2 ^ (lo + (n + m)) + 2 ^ (lo + (n + m)) * packBits r) / 2 ^ lo =
      v / 2 ^ lo % 2 ^ (n + m) + 2 ^ n * (2 ^ m * packBits r) := by
    rw [Nat.pow_add 2 lo, Nat.mul_assoc, Nat.add_mul_div_left _ _ (Nat.two_pow_pos lo), Nat.mod_mul_right_div_self,
      Nat.pow_add 2 n m, Nat.mul_assoc]
  rw [packBits, hsplit, Nat.add_mul_mod_self_left, Nat.mod_mod_of_dvd _ (Nat.pow_dvd_pow 2 (by omega))]

/-- The fields behind the first. -/
theorem packBits_tail {w lo : Nat} (v : Nat) (r : List (Nat × Nat)) :
    packBits ((w, v) :: r) / 2 ^ (w + lo) = packBits r / 2 ^ lo := by
  rw [packBits, Nat.pow_add, ← Nat.div_div_eq_div_mul, Nat.add_mul_div_left _ _ (Nat.two_pow_pos w),
    Nat.div_eq_of_lt (Nat.mod_lt _ (Nat.two_pow_pos w)), Nat.zero_add]

section

variable (p : RoutedPkt)

/-- The header of a routed packet as a word. -/
def RoutedPkt.word : BitVec 384 := BitVec.ofNat 384 p.header

/-- A field of the TYPE's byte. -/
theorem RoutedPkt.word_type {lo n : Nat} (h : lo + n ≤ 8) :
    fld p.word lo n = (p.typ % 32 + 32 * p.body.low.toNat) / 2 ^ lo % 2 ^ n :=
  (fld_ofNat _ (by omega)).trans (packBits_head _ _ h)

/-- A field of the bits behind AGE_US. -/
theorem RoutedPkt.word_mid {lo n : Nat} (h : lo + n ≤ 5) : fld p.word (91 + lo) n = fld p.body.mid lo n := by
  have e : 91 + lo = 8 + (16 + (16 + (32 + (6 + (13 + lo))))) := by omega
  rw [RoutedPkt.word, fld_ofNat _ (by omega), e, RoutedPkt.header, pktHead]
  simp only [List.cons_append, List.nil_append, packBits_tail]
  rw [packBits_head _ _ h, fld, BitVec.extractLsb'_toNat, Nat.shiftRight_eq_div_pow]

/-- A field of the bits that a packet passes on unread. -/
theorem RoutedPkt.word_high {lo n : Nat} (h : lo + n ≤ 288) : fld p.word (96 + lo) n = fld p.body.high lo n := by
  have e : 96 + lo = 8 + (16 + (16 + (32 + (6 + (13 + (5 + lo)))))) := by omega
  rw [RoutedPkt.word, fld_ofNat _ (by omega), e, RoutedPkt.header, pktHead]
  simp only [List.cons_append, List.nil_append, packBits_tail]
  rw [packBits_head _ _ h, fld, BitVec.extractLsb'_toNat, Nat.shiftRight_eq_div_pow]

theorem RoutedPkt.word_code : fld p.word 0 5 = p.typ % 32 := by
  rw [p.word_type (by omega)]
  omega

theorem RoutedPkt.word_low : fld p.word 5 3 = p.body.low.toNat := by
  rw [p.word_type (by omega)]
  omega

end

section

variable {p : RoutedPkt}

/-- A reserved TYPE (R460, R461). -/
theorem RoutedPkt.headerOk_reserved (h : p.typ = 0 ∨ (5 ≤ p.typ ∧ p.typ ≤ 7) ∨ p.typ = 15 ∨ 24 ≤ p.typ) :
    (decide (32 ≤ p.typ) || !headerOk p.word) = true := by
  by_cases h32 : 32 ≤ p.typ
  · simp [h32]
  · have hcode : fld p.word 0 5 = p.typ := by rw [p.word_code]; omega
    have hno : headerOk p.word = false := by
      unfold headerOk
      simp only [hcode]
      rcases h with h | h | h | h
      · simp [h]
      · rw [if_neg (by omega), if_neg (by omega), if_neg (by simp; omega), if_neg (by simp; omega), if_neg (by simp; omega)]
      · simp [h]
      · rw [if_neg (by omega), if_neg (by omega), if_neg (by simp; omega), if_neg (by simp; omega), if_neg (by simp; omega)]
    simp [hno]

/-- The reserved bits of a routed packet (R460, R470). -/
theorem RoutedPkt.headerOk_routed (h : (1 ≤ p.typ ∧ p.typ ≤ 4) ∨ (8 ≤ p.typ ∧ p.typ ≤ 11)) :
    headerOk p.word = pktClean p.body p.typ := by
  have hcode : fld p.word 0 5 = p.typ := by rw [p.word_code]; omega
  have hlow : (p.body.low == 0) = (fld p.word 5 3 == 0) := by
    rw [p.word_low, Bool.eq_iff_iff, beq_iff_eq, beq_iff_eq, ← BitVec.toNat_inj]
    rfl
  unfold headerOk pktClean
  simp only [hcode, hlow]
  rw [if_neg (by omega)]
  rcases h with h | h
  · have hmid : (p.body.mid == 0) = (fld p.word (91 + 0) 5 == 0) := by
      rw [p.word_mid (by omega), Bool.eq_iff_iff, beq_iff_eq, beq_iff_eq, ← BitVec.toNat_inj, fld]
      simp
    rw [if_pos h.2, if_pos h.2, hmid, ← p.word_high (lo := 23) (by omega), ← p.word_high (lo := 277) (by omega)]
    simp only [Bool.and_assoc]
  · rw [if_neg (by omega), if_pos (by simp; omega), if_neg (by omega), ← p.word_mid (lo := 3) (by omega),
      ← p.word_high (lo := 16) (by omega), ← p.word_high (lo := 274) (by omega)]
    simp only [Bool.and_assoc]

end

/-! ### Routes and sending (R449, R458, R459) -/

/-- A packet that is sent on a link has left on it or waits there (R449, R459). -/
theorem State.sendOn_spec {s : State} (hw : s.wf = true) (k vc : Nat) (dl : Bool) (bytes : Nat) (via : Option Transit)
    (m : LinkMsg) :
    s.sameMem (s.sendOn k vc dl bytes via m) ∧ (s.sendOn k vc dl bytes via m).dict = s.dict ∧
      (s.sendOn k vc dl bytes via m).hasSent k m := by
  unfold State.sendOn
  extract_lets cls x
  split
  · exact ⟨⟨rfl, rfl, rfl, rfl, rfl, rfl⟩, rfl, .inl ⟨_, List.mem_append_right _ (List.mem_singleton_self _), rfl, rfl⟩⟩
  · refine ⟨⟨rfl, rfl, rfl, rfl, rfl, rfl⟩, rfl, .inr ⟨⟨s.clk.dt, cls, bytes, via, m⟩, ?_, rfl⟩⟩
    rw [State.link_modLink hw]
    exact List.mem_append_right _ (List.mem_singleton_self _)

/-- The slot with the fewest bytes queued is one of the slots. -/
theorem State.leastQueued_mem (s : State) : ∀ (l : List (Nat × Nat)) x, s.leastQueued l = some x → x ∈ l := by
  intro l
  induction l with
  | nil => intro x h; cases h
  | cons y l ih =>
    intro x h
    rw [State.leastQueued] at h
    split at h
    · cases h
      exact List.mem_cons_self ..
    next z hz =>
      split at h
      · cases h
        exact List.mem_cons_of_mem _ (ih _ hz)
      · cases h
        exact List.mem_cons_self ..

/-- The slot that is picked is one of the route entry (R458). -/
theorem State.pickSlot_mem {s : State} {dst vc : Nat} {dl : Bool} {bytes : Nat} {x : Nat × Nat}
    (h : s.pickSlot dst vc dl bytes = some x) : x ∈ s.routeSlots dst := by
  unfold State.pickSlot at h
  extract_lets up free at h
  cases hf : s.leastQueued free with
  | some y =>
    rw [hf] at h
    cases h
    exact (List.mem_filter.mp (List.mem_filter.mp (State.leastQueued_mem s _ _ hf)).1).1
  | none =>
    rw [hf] at h
    cases hu : s.leastQueued up with
    | some y =>
      rw [hu] at h
      cases h
      exact (List.mem_filter.mp (State.leastQueued_mem s _ _ hu)).1
    | none =>
      rw [hu] at h
      exact List.mem_of_mem_head? h

/-- An entry with a slot has one that is picked (R458, R459). -/
theorem State.pickSlot_isSome {s : State} {dst vc : Nat} {dl : Bool} {bytes : Nat} (h : s.routeSlots dst ≠ []) :
    (s.pickSlot dst vc dl bytes).isSome = true := by
  obtain ⟨x, l, e⟩ := List.exists_cons_of_ne_nil h
  unfold State.pickSlot
  extract_lets up free
  rw [e]
  cases s.leastQueued free <;> cases s.leastQueued up <;> rfl

theorem State.pickSlot_none {s : State} {dst vc : Nat} {dl : Bool} {bytes : Nat} (h : s.routeSlots dst = []) :
    s.pickSlot dst vc dl bytes = none := by
  cases hp : s.pickSlot dst vc dl bytes with
  | none => rfl
  | some x => exact absurd (State.pickSlot_mem hp) (h ▸ List.not_mem_nil)

section

variable {s : State} {link dst vc : Nat} {dl : Bool} {bytes hops : Nat} {m : LinkMsg}

/-- A packet that has crossed too many links is not passed on (R461). -/
theorem State.relay_hops (h : 32 ≤ hops) : s.relay link dst vc dl bytes hops m = s.odAdd odLinkDropHopsCount 1 := if_pos h

/-- A packet that comes to a die which is cut off leaves on a link of the die or not at all (R442). -/
theorem State.relay_cut (hh : hops < 32) (hc : s.dieCutOff (linkDie link) = true)
    (h : (∀ x, s.pickSlot dst vc dl bytes = some x → linkDie x.2 ≠ linkDie link) ∨ s.od odDeviceId = dst) :
    s.relay link dst vc dl bytes hops m = s.odAdd odLinkIsolatedDropCount 1 := by
  unfold State.relay
  extract_lets die near
  have hnear : (!near || s.od odDeviceId == dst) = true := by
    rcases h with h | h
    · have : near = false := by
        rw [Bool.eq_false_iff]
        intro e
        obtain ⟨x, hx, hd⟩ := (Option.any_eq_true _ _).mp e
        exact h x hx (beq_iff_eq.mp hd)
      simp [this]
    · simp [h]
  rw [if_neg (by omega), if_pos (by rw [show s.dieCutOff die = true from hc, hnear]; rfl)]

/-- A packet that its die can pass on goes by the route table (R458). -/
theorem State.relay_on (hh : hops < 32)
    (h : s.dieCutOff (linkDie link) = false ∨
      (∃ x, s.pickSlot dst vc dl bytes = some x ∧ linkDie x.2 = linkDie link) ∧ s.od odDeviceId ≠ dst) :
    s.relay link dst vc dl bytes hops m = s.routeOut (some (linkDie link)) dst vc dl bytes m := by
  unfold State.relay
  extract_lets die near
  rw [if_neg (by omega), if_neg]
  rcases h with h | ⟨⟨x, hx, hd⟩, h⟩
  · simp [die, h]
  · have : near = true := by simp [near, hx, die, hd]
    simp [this, h]

/-- A module without a device ID sends no routed packet (R457). -/
theorem State.routeOut_unnamed {die : Option Nat} (h : s.od odDeviceIdValid = 0) : s.routeOut die dst vc dl bytes m = s :=
  if_pos h

theorem State.routeOut_none {die : Option Nat} (hid : s.od odDeviceIdValid = 1) (hdst : s.od odDeviceId ≠ dst)
    (h : s.routeSlots dst = []) : s.routeOut die dst vc dl bytes m = s := by
  unfold State.routeOut
  rw [if_neg (by omega), if_neg hdst, State.pickSlot_none h]

/-- A packet for another module goes to the picked link (R458). -/
theorem State.routeOut_slot {die : Option Nat} {x : Nat × Nat} (hid : s.od odDeviceIdValid = 1)
    (hdst : s.od odDeviceId ≠ dst) (h : s.pickSlot dst vc dl bytes = some x) :
    s.routeOut die dst vc dl bytes m = s.sendFrom die x.2 vc (s.slotDl dst vc dl x.1) bytes m := by
  unfold State.routeOut
  rw [if_neg (by omega), if_neg hdst, h]

/-- A link whose die is its packet's own, or reached by the mesh, takes it (R54, R442). -/
theorem State.sendFrom_spec (hw : s.wf = true) {d k : Nat} (h : linkDie k = d ∨ s.dieCutOff (linkDie k) = false) :
    let t := s.sendFrom (some d) k vc dl bytes m
    s.sameMem t ∧ t.dict = s.dict ∧ t.hasSent k m := by
  unfold State.sendFrom
  rw [if_neg]
  · exact State.sendOn_spec hw k vc dl bytes _ m
  · rcases h with h | h <;> simp [h]

theorem State.sendFrom_cut {d k : Nat} (hd : linkDie k ≠ d) (h : s.dieCutOff (linkDie k) = true) :
    s.sendFrom (some d) k vc dl bytes m = s.odAdd odMeshUnreachDropCount 1 := by
  unfold State.sendFrom
  rw [if_pos]
  simp [h, Ne.symm hd]

end

/-! ### Routed packets (R442, R458 to R461) -/

section

variable {s : State} {link : Nat} {dst : BitVec 16} {typ hops age : Nat} {dl : Bool} {body : PktBody}

/-- A packet with a reserved TYPE or bit is counted (R461). -/
theorem exec_arrival_malformed (hl : link < 36) (hup : s.linkUp link = true)
    (h : (decide (32 ≤ typ) || !headerOk (RoutedPkt.word ⟨dst, typ, hops + 1, age, body⟩)) = true) :
    exec (.routedPacketArrival link dst typ hops age dl body) s = .next (s.odAdd odLinkDropMalformedCount 1) := by
  show execRoutedPacketArrival link dst typ hops age dl body s = _
  unfold execRoutedPacketArrival
  extract_lets here p
  rw [if_neg (by simp [hl, hup])]
  exact if_pos h

/-- A good packet that is no routed one of a device link does nothing here (R461). -/
theorem exec_arrival_other (hl : link < 36) (hup : s.linkUp link = true) (ht : typ < 32)
    (hok : headerOk (RoutedPkt.word ⟨dst, typ, hops + 1, age, body⟩) = true)
    (h : 34 ≤ link ∨ 12 ≤ typ ∨ pktUnrouted body typ = true) :
    exec (.routedPacketArrival link dst typ hops age dl body) s = .next s := by
  show execRoutedPacketArrival link dst typ hops age dl body s = _
  unfold execRoutedPacketArrival
  extract_lets here p
  have hgood : ¬ (decide (32 ≤ typ) || !headerOk (BitVec.ofNat 384 p.header)) = true := by
    rw [show headerOk (BitVec.ofNat 384 p.header) = true from hok]
    simp [ht]
  rw [if_neg (by simp [hl, hup]), if_neg hgood, if_pos]
  rcases h with h | h | h <;> simp [h]

/-- A routed packet at a device link: it is discarded, taken or passed on (R442, R458, R461). -/
theorem exec_arrival_routed (hl : link < 34) (hup : s.linkUp link = true) (ht : typ < 12)
    (hok : headerOk (RoutedPkt.word ⟨dst, typ, hops + 1, age, body⟩) = true) (hr : pktUnrouted body typ = false) :
    exec (.routedPacketArrival link dst typ hops age dl body) s =
      match s.pktDiscard hops age with
      | some ctr => .next (s.odAdd ctr 1)
      | none =>
        let here := s.od odDeviceIdValid = 1 && s.od odDeviceId = dst.toNat
        if here && !s.dieCutOff (linkDie link) then .next s
        else .next (s.relay link dst.toNat (typeVc typ) dl (48 + body.data.length) (if here then 0 else hops + 1)
          (.forward ⟨dst, typ, hops + 1, age, body⟩)) := by
  show execRoutedPacketArrival link dst typ hops age dl body s = _
  unfold execRoutedPacketArrival
  extract_lets here p
  have hgood : ¬ (decide (32 ≤ typ) || !headerOk (BitVec.ofNat 384 p.header)) = true := by
    rw [show headerOk (BitVec.ofNat 384 p.header) = true from hok]
    simp
    omega
  have hother : ¬ (decide (34 ≤ link) || decide (12 ≤ typ) || pktUnrouted body typ) = true := by
    rw [hr]
    simp
    omega
  rw [if_neg (by simp [hup]; omega), if_neg hgood, if_neg hother] <;> rfl

/-- A good packet for this module is taken, unless its die is cut off (R442). -/
theorem exec_arrival_here (hl : link < 34) (hup : s.linkUp link = true) (ht : typ < 12)
    (hok : headerOk (RoutedPkt.word ⟨dst, typ, hops + 1, age, body⟩) = true) (hr : pktUnrouted body typ = false)
    (hgood : s.pktGood hops age) (hid : s.od odDeviceIdValid = 1) (hdst : s.od odDeviceId = dst.toNat) :
    (s.dieCutOff (linkDie link) = true → exec (.routedPacketArrival link dst typ hops age dl body) s =
      .next (s.odAdd odLinkIsolatedDropCount 1)) ∧
    (s.dieCutOff (linkDie link) = false → exec (.routedPacketArrival link dst typ hops age dl body) s = .next s) := by
  rw [exec_arrival_routed hl hup ht hok hr, show s.pktDiscard hops age = none from hgood]
  refine ⟨fun hc => ?_, fun hc => ?_⟩
  · have hcut (m : LinkMsg) := State.relay_cut (vc := typeVc typ) (dl := dl) (bytes := 48 + body.data.length) (m := m)
      (show 0 < 32 by decide) hc (.inr hdst)
    simp [hid, hdst, hc, hcut]
  · simp [hid, hdst, hc]

/-- A good packet for another module is passed on with one hop more (R442, R458, R461). -/
theorem exec_arrival_relay (hl : link < 34) (hup : s.linkUp link = true) (ht : typ < 12)
    (hok : headerOk (RoutedPkt.word ⟨dst, typ, hops + 1, age, body⟩) = true) (hr : pktUnrouted body typ = false)
    (hgood : s.pktGood hops age) (h : s.od odDeviceIdValid ≠ 1 ∨ s.od odDeviceId ≠ dst.toNat) :
    exec (.routedPacketArrival link dst typ hops age dl body) s =
      .next (s.relay link dst.toNat (typeVc typ) dl (48 + body.data.length) (hops + 1)
        (.forward ⟨dst, typ, hops + 1, age, body⟩)) := by
  rw [exec_arrival_routed hl hup ht hok hr, show s.pktDiscard hops age = none from hgood]
  have hhere : (s.od odDeviceIdValid = 1 && s.od odDeviceId = dst.toNat) = false := by
    rcases h with h | h <;> simp [h]
  simp only [hhere]
  rfl

end

/-! ### Waits and requests (R459, R462, R464) -/

/-- The host ports' packets do not wait 1 ms (R459). -/
theorem exec_linkWaitDiscard_host {s : State} {k : Nat} (h : 34 ≤ k) : exec (.linkWaitDiscard k) s = .next s := if_pos h

theorem exec_linkWaitDiscard_none {s : State} {k : Nat} (hk : k < 34)
    (h : ∀ w ∈ (s.link k).wait, s.clk.dt < w.since + 1000000) : exec (.linkWaitDiscard k) s = .next s := by
  have hnone : (s.link k).wait.find? (fun w => decide (w.since + 1000000 ≤ s.clk.dt)) = none := by
    rw [List.find?_eq_none]
    intro w hw
    have := h w hw
    simp
    omega
  show execLinkWaitDiscard k s = _
  unfold execLinkWaitDiscard
  rw [if_neg (by omega), hnone]

/-- A packet that has waited 1 ms is discarded and counted (R459). -/
theorem exec_linkWaitDiscard {s : State} {k : Nat} (hw : s.wf = true) (hk : k < 34)
    (h : ∃ w ∈ (s.link k).wait, w.since + 1000000 ≤ s.clk.dt) :
    ∃ t, exec (.linkWaitDiscard k) s = .next t ∧ s.sameMem t ∧ (t.link k).wait.length + 1 = (s.link k).wait.length ∧
      t.od odLinkDropWaitCount = (s.od odLinkDropWaitCount + 1) % 2 ^ 64 := by
  obtain ⟨w, hf⟩ : ∃ w, (s.link k).wait.find? (fun w => decide (w.since + 1000000 ≤ s.clk.dt)) = some w := by
    rw [← Option.isSome_iff_exists, List.find?_isSome]
    obtain ⟨w, hw, hd⟩ := h
    exact ⟨w, hw, decide_eq_true hd⟩
  have hlink := State.link_modLink hw k fun x => { x with wait := x.wait.erase w }
  have hmem := List.mem_of_find?_eq_some hf
  refine ⟨(s.modLink k fun x => { x with wait := x.wait.erase w }).odAdd odLinkDropWaitCount 1, ?_,
    ⟨rfl, rfl, rfl, rfl, rfl, rfl⟩, ?_, State.od_odSet_same (State.wf_dict hw) _ _⟩
  · show execLinkWaitDiscard k s = _
    unfold execLinkWaitDiscard
    rw [if_neg (by omega), hf]
  · have hwait : (((s.modLink k fun x => { x with wait := x.wait.erase w }).odAdd odLinkDropWaitCount 1).link k).wait =
        (s.link k).wait.erase w := congrArg Link.wait hlink
    rw [hwait, List.length_erase_of_mem hmem]
    have := List.length_pos_of_mem hmem
    omega

/-- What the own module or a served link brings is taken. -/
theorem State.fromLink_serves {s : State} {link : Option Nat} (h : s.linkServes link) (f : State → State) :
    s.fromLink link f = f s := by
  cases link with
  | none => rfl
  | some k =>
    obtain ⟨hk, hup, hc⟩ := h k rfl
    unfold State.fromLink
    simp [hup, hc]
    omega

section

variable {s : State} {tag : BitVec 32} {r : OutReq}

/-- A request that is done is gone. -/
theorem State.pktDone_gone (s : State) (r : OutReq) :
    s.sameMem (s.pktDone r) ∧ ∀ y ∈ (s.pktDone r).outReqs, y.tag ≠ r.tag :=
  ⟨⟨rfl, rfl, rfl, rfl, rfl, rfl⟩, fun _ hy => by simpa using (List.mem_filter.mp hy).2⟩

/-- The overflow of a copy is logged: no memory and no request changes. -/
theorem State.copyOverflow_mem (s : State) (n : Nat) (words : List Nat) : s.sameMem (s.copyOverflow n words) := by
  unfold State.copyOverflow
  split
  · exact ⟨rfl, rfl, rfl, rfl, rfl, rfl⟩
  split
  · exact ⟨rfl, rfl, rfl, rfl, rfl, rfl⟩
  · exact (State.logEv_frame _ _ _ _ _ _).sameMem

theorem exec_wdone {link : Option Nat} (hl : s.linkServes link) (hr : s.outReqs.find? (fun x => x.tag == tag) = some r)
    (ovf : Bool) :
    ∃ t, exec (.wdone ⟨link, tag⟩ ovf) s = .next t ∧ s.sameMem t ∧ ∀ y ∈ t.outReqs, y.tag ≠ tag := by
  have htag : r.tag = tag := by simpa using List.find?_some hr
  have hwdone : exec (.wdone ⟨link, tag⟩ ovf) s = .next
      ((if ovf then s.useFree.copyOverflow r.copy (noAddr ++ words2 (s.ovfAddr r)) else s).pktDone r) := by
    show execWdone ⟨link, tag⟩ ovf s = _
    unfold execWdone
    rw [State.fromLink_serves hl]
    simp only [hr]
  have hmem : s.sameMem (if ovf then s.useFree.copyOverflow r.copy (noAddr ++ words2 (s.ovfAddr r)) else s) := by
    split
    · exact State.copyOverflow_mem s.useFree _ _
    · exact ⟨rfl, rfl, rfl, rfl, rfl, rfl⟩
  generalize (if ovf then s.useFree.copyOverflow r.copy (noAddr ++ words2 (s.ovfAddr r)) else s) = u at hwdone hmem
  exact ⟨_, hwdone, hmem, htag ▸ (State.pktDone_gone u r).2⟩

/-- A request that nobody knows (R462). -/
theorem exec_request_unknown {link : Option Nat} (hl : s.linkServes link) (h : ∀ r ∈ s.outReqs, r.tag ≠ tag) :
    (∀ ovf, exec (.wdone ⟨link, tag⟩ ovf) s = .next s) ∧ exec (.linkRequestResend tag) s = .next s := by
  have hnone : s.outReqs.find? (fun x => x.tag == tag) = none := by
    rw [List.find?_eq_none]
    exact fun r hr => by simpa using h r hr
  refine ⟨fun ovf => ?_, ?_⟩
  · show execWdone ⟨link, tag⟩ ovf s = _
    unfold execWdone
    rw [State.fromLink_serves hl]
    simp only [hnone]
  · show execLinkRequestResend tag s = _
    unfold execLinkRequestResend
    simp only [hnone]

theorem exec_linkRequestResend_early (hr : s.outReqs.find? (fun x => x.tag == tag) = some r)
    (h : s.clk.dt < r.sentDt + 10000000) : exec (.linkRequestResend tag) s = .next s := by
  show execLinkRequestResend tag s = _
  unfold execLinkRequestResend
  simp only [hr, if_pos h]

/-- A packet that leaves for a link: no memory and no request changes, and what is counted is a path that is cut off. -/
theorem State.sendOn_calm (s : State) (k vc : Nat) (dl : Bool) (bytes : Nat) (via : Option Transit) (m : LinkMsg) :
    State.Calm s (s.sendOn k vc dl bytes via m) ∧ (s.sendOn k vc dl bytes via m).outReqs = s.outReqs ∧
      (s.sendOn k vc dl bytes via m).clk = s.clk := by
  unfold State.sendOn
  extract_lets cls x
  split
  · exact ⟨.of_val ⟨rfl, rfl, rfl, rfl, rfl, rfl⟩ rfl, rfl, rfl⟩
  · exact ⟨.of_val ⟨rfl, rfl, rfl, rfl, rfl, rfl⟩ rfl, rfl, rfl⟩

theorem State.sendRouted_calm (s : State) (dst vc bytes : Nat) (m : LinkMsg) :
    State.Calm s (s.sendRouted dst vc bytes m) ∧ (s.sendRouted dst vc bytes m).outReqs = s.outReqs ∧
      (s.sendRouted dst vc bytes m).clk = s.clk := by
  unfold State.sendRouted State.routeOut
  split
  · exact ⟨.refl s, rfl, rfl⟩
  split
  · exact ⟨.of_val ⟨rfl, rfl, rfl, rfl, rfl, rfl⟩ rfl, rfl, rfl⟩
  split
  · exact ⟨.refl s, rfl, rfl⟩
  · unfold State.sendFrom
    split
    · exact ⟨State.odAdd_calm s rfl 1, rfl, rfl⟩
    · exact State.sendOn_calm s _ _ _ _ _ _

/-- A request without WDONE for 10 ms goes out again (R462). -/
theorem exec_linkRequestResend (hw : s.wf = true) (hr : s.outReqs.find? (fun x => x.tag == tag) = some r)
    (hd : r.sentDt + 10000000 ≤ s.clk.dt) (hn : r.sends < 3) :
    ∃ t, exec (.linkRequestResend tag) s = .next t ∧ s.sameMem t ∧
      t.od odLinkResendCount = (s.od odLinkResendCount + 1) % 2 ^ 64 ∧
      ∃ y ∈ t.outReqs, y.tag = tag ∧ y.sends = r.sends + 1 ∧ y.sentDt = s.clk.dt := by
  have htag : (r.tag == tag) = true := by simpa using List.find?_some hr
  have hin := List.mem_of_find?_eq_some hr
  show ∃ t, execLinkRequestResend tag s = .next t ∧ _
  unfold execLinkRequestResend
  simp only [hr, if_neg (show ¬ s.clk.dt < r.sentDt + 10000000 by omega), if_pos hn]
  have hc : (s.odAdd odLinkResendCount 1).od odLinkResendCount = (s.od odLinkResendCount + 1) % 2 ^ 64 :=
    State.od_odSet_same (State.wf_dict hw) _ _
  have hcw : mwf odDefault (s.odAdd odLinkResendCount 1).dict.val = true := State.odSet_dictWf (State.wf_dict hw) _ _
  have hmem : s.sameMem (s.odAdd odLinkResendCount 1) := ⟨rfl, rfl, rfl, rfl, rfl, rfl⟩
  have hreqs : (s.odAdd odLinkResendCount 1).outReqs = s.outReqs := rfl
  have hck : (s.odAdd odLinkResendCount 1).clk = s.clk := rfl
  generalize s.odAdd odLinkResendCount 1 = c at hc hcw hmem hreqs hck
  obtain ⟨⟨hsm, hq⟩, hout, hclk⟩ := State.sendRouted_calm c r.pkt.dst.toNat 2 (winBytes r.kind { r.pkt with ageUs := s.ageNow })
    (.window r.kind { r.pkt with ageUs := s.ageNow })
  obtain ⟨-, hq⟩ := hq hcw
  refine ⟨_, rfl, ?_, (hq _ rfl).trans hc,
    ⟨_, List.mem_map.mpr ⟨r, (hout.trans hreqs).symm ▸ hin, if_pos htag⟩, beq_iff_eq.mp htag, rfl, ?_⟩⟩
  · exact State.sameMem_trans hmem hsm
  · exact congrArg Clock.dt (hclk.trans hck)

/-- A request that has gone out again three times is abandoned (R462). -/
theorem exec_linkRequestResend_last (hr : s.outReqs.find? (fun x => x.tag == tag) = some r)
    (hd : r.sentDt + 10000000 ≤ s.clk.dt) (hn : 3 ≤ r.sends) :
    ∃ t, exec (.linkRequestResend tag) s = .next t ∧ s.sameMem t ∧ ∀ y ∈ t.outReqs, y.tag ≠ tag := by
  have htag : r.tag = tag := by simpa using List.find?_some hr
  show ∃ t, execLinkRequestResend tag s = .next t ∧ _
  unfold execLinkRequestResend
  simp only [hr, if_neg (show ¬ s.clk.dt < r.sentDt + 10000000 by omega), if_neg (show ¬ r.sends < 3 by omega)]
  obtain ⟨hmem, hgone⟩ := State.pktDone_gone s r
  generalize s.pktDone r = u at hmem hgone
  have hlog (un : UnitId) (p : Option Nat) (l : List Nat) := State.logEv_frame u 0x7006 un p noLunit l
  refine ⟨_, rfl, ?_, ?_⟩
  · exact State.sameMem_trans hmem (hlog unModule _ _).sameMem
  · have hreqs (un : UnitId) (p : Option Nat) (l : List Nat) : (u.logEv 0x7006 un p noLunit l).outReqs = u.outReqs := by
      have h := hlog un p l
      unfold State.LogFrame at h
      rw [h]
    rw [hreqs]
    exact htag ▸ hgone

end

/-- WDONE on a link that is not UP, or whose die is cut off (R442). -/
theorem exec_wdone_lost {s : State} {k : Nat} (hk : k < 34) (tag : BitVec 32) (ovf : Bool) :
    (s.linkUp k = false → exec (.wdone ⟨some k, tag⟩ ovf) s = .next s) ∧
    (s.linkUp k = true → s.dieCutOff (linkDie k) = true →
      exec (.wdone ⟨some k, tag⟩ ovf) s = .next (s.odAdd odLinkIsolatedDropCount 1)) := by
  refine ⟨fun h => ?_, fun h hc => ?_⟩
  · show execWdone ⟨some k, tag⟩ ovf s = _
    unfold execWdone State.fromLink
    simp [h]
  · show execWdone ⟨some k, tag⟩ ovf s = _
    unfold execWdone State.fromLink
    simp only [h, hc]
    rw [if_neg (by simp; omega), if_pos trivial]

/-! ### Host data (R473, R476) -/

/-- Data of the host goes to the read with its tag (R473). -/
theorem exec_hrdData {s : State} (tag : BitVec 32) (data : List Byte) (h : s.hostUp = true) :
    ∃ t, exec (.hrdData tag data) s = .next t ∧ s.sameMem t ∧ t.dict = s.dict ∧ t.cmds = s.cmds ∧
      ∀ q ∈ s.hrd.reqs,
        (q.tag = tag → q.data = none → q.bytes = data.length → { q with data := some data } ∈ t.hrd.reqs) ∧
        (q.tag ≠ tag ∨ q.data ≠ none ∨ q.bytes ≠ data.length → q ∈ t.hrd.reqs) := by
  show ∃ t, execHrdData tag data s = .next t ∧ _
  unfold execHrdData
  rw [if_neg (by simp [h])]
  refine ⟨_, rfl, ⟨rfl, rfl, rfl, rfl, rfl, rfl⟩, rfl, rfl, fun q hq => ⟨fun ht hd hb => ?_, fun hn => ?_⟩⟩
  · exact List.mem_append_right _ (List.mem_map.mpr ⟨q, List.mem_filter.mpr ⟨hq, by simp [ht, hd, hb]⟩, rfl⟩)
  · refine List.mem_append_left _ (List.mem_filter.mpr ⟨hq, ?_⟩)
    simp only [Bool.not_eq_true', Bool.and_eq_false_iff, beq_eq_false_iff_ne, Option.isNone_eq_false_iff,
      Option.isSome_iff_ne_none]
    tauto

theorem exec_hrdData_lost {s : State} (tag : BitVec 32) (data : List Byte) (h : s.hostUp = false) :
    exec (.hrdData tag data) s = .next (s.hostLost 0) := by
  show execHrdData tag data s = _
  unfold execHrdData
  rw [if_pos (by simp [h])]

theorem exec_hostPortReturn {s : State} :
    (s.hostPort ≠ 34 → s.linkUp 34 = true → (s.link 34).upSince + 1000000000 ≤ s.clk.dt →
      exec .hostPortReturn s = .next { s with hostPort := 34 }) ∧
    (s.linkUp 34 = false → exec .hostPortReturn s = .next s) := by
  refine ⟨fun hp hu hd => ?_, fun hu => ?_⟩
  · show execHostPortReturn s = _
    unfold execHostPortReturn
    rw [if_pos (by simp [hp, hu, hd])]
  · show execHostPortReturn s = _
    unfold execHostPortReturn
    rw [if_neg (by simp [hu])]

/-- What a routed packet of another module meets at a device link (R442, R458 to R461). -/
theorem exec_arrival_elsewhere {s : State} {link typ hops age : Nat} {dst : BitVec 16} {dl : Bool} {body : PktBody}
    (hw : s.wf = true) (hl : link < 34) (hup : s.linkUp link = true) (ht : typ < 12)
    (hok : headerOk (RoutedPkt.word ⟨dst, typ, hops + 1, age, body⟩) = true) (hr : pktUnrouted body typ = false)
    (hgood : s.pktGood hops age) (hid : s.od odDeviceIdValid = 1) (hdst : s.od odDeviceId ≠ dst.toNat) (hh : hops < 31) :
    let out := exec (.routedPacketArrival link dst typ hops age dl body) s
    let die := linkDie link
    let bytes := 48 + body.data.length
    let lost := out = .next (s.odAdd odLinkIsolatedDropCount 1)
    (s.routeSlots dst.toNat ≠ [] → (s.pickSlot dst.toNat (typeVc typ) dl bytes).isSome = true) ∧
    (s.routeSlots dst.toNat = [] → (s.dieCutOff die = true → lost) ∧ (s.dieCutOff die = false → out = .next s)) ∧
    ∀ slot k, s.pickSlot dst.toNat (typeVc typ) dl bytes = some (slot, k) →
      (slot, k) ∈ s.routeSlots dst.toNat ∧
      (linkDie k = die ∨ (s.dieCutOff die = false ∧ s.dieCutOff (linkDie k) = false) →
        ∃ t, out = .next t ∧ s.sameMem t ∧ t.dict = s.dict ∧ t.hasSent k (.forward ⟨dst, typ, hops + 1, age, body⟩)) ∧
      (linkDie k ≠ die → s.dieCutOff die = true → lost) ∧
      (linkDie k ≠ die → s.dieCutOff die = false → s.dieCutOff (linkDie k) = true →
        out = .next (s.odAdd odMeshUnreachDropCount 1)) := by
  intro out die bytes lost
  have hout : out = _ := exec_arrival_relay hl hup ht hok hr hgood (.inr hdst)
  have hlt : hops + 1 < 32 := by omega
  refine ⟨State.pickSlot_isSome, fun hslots => ⟨fun hc => ?_, fun hc => ?_⟩, fun slot k hk => ⟨State.pickSlot_mem hk,
    fun hd => ?_, fun hd hc => ?_, fun hd hc hc' => ?_⟩⟩
  · refine hout.trans (congrArg _ (State.relay_cut hlt hc (.inl fun x hx => ?_)))
    rw [State.pickSlot_none hslots] at hx
    cases hx
  · exact hout.trans (congrArg _ ((State.relay_on hlt (.inl hc)).trans (State.routeOut_none hid hdst hslots)))
  · have hon := State.relay_on (m := .forward ⟨dst, typ, hops + 1, age, body⟩) hlt
      (hd.elim (fun e => .inr ⟨⟨_, hk, e⟩, hdst⟩) fun e => .inl e.1)
    exact ⟨_, hout.trans (congrArg _ (hon.trans (State.routeOut_slot hid hdst hk))),
      State.sendFrom_spec hw (hd.imp_right And.right)⟩
  · refine hout.trans (congrArg _ (State.relay_cut hlt hc (.inl fun x hx => ?_)))
    rw [hk] at hx
    cases hx
    exact hd
  · exact hout.trans (congrArg _ ((State.relay_on hlt (.inl hc)).trans ((State.routeOut_slot hid hdst hk).trans
      (State.sendFrom_cut hd hc'))))

/-- A routed packet at a device link is discarded for its hops or its age, taken, or passed on (R442, R458 to R461). -/
theorem exec_arrival_device {s : State} {link typ hops age : Nat} {dst : BitVec 16} {dl : Bool} {body : PktBody}
    (hw : s.wf = true) (hl : link < 34) (hup : s.linkUp link = true) (ht : typ < 12)
    (hok : headerOk (RoutedPkt.word ⟨dst, typ, hops + 1, age, body⟩) = true) (hr : pktUnrouted body typ = false) :
    let out := exec (.routedPacketArrival link dst typ hops age dl body) s
    let die := linkDie link
    let bytes := 48 + body.data.length
    (32 ≤ hops → out = .next (s.odAdd odLinkDropHopsCount 1)) ∧
    (hops < 32 → 5000 < (s.ageNow + 8192 - age % 8192) % 8192 → out = .next (s.odAdd odLinkDropAgeCount 1)) ∧
    (s.pktGood hops age →
      let lost := out = .next (s.odAdd odLinkIsolatedDropCount 1)
      (s.od odDeviceIdValid = 1 → s.od odDeviceId = dst.toNat →
        (s.dieCutOff die = true → lost) ∧ (s.dieCutOff die = false → out = .next s)) ∧
      (s.od odDeviceIdValid = 0 ∨ s.od odDeviceId ≠ dst.toNat → hops = 31 →
        out = .next (s.odAdd odLinkDropHopsCount 1)) ∧
      (s.od odDeviceIdValid = 1 → s.od odDeviceId ≠ dst.toNat → hops < 31 →
        (s.routeSlots dst.toNat ≠ [] → (s.pickSlot dst.toNat (typeVc typ) dl bytes).isSome = true) ∧
        (s.routeSlots dst.toNat = [] → (s.dieCutOff die = true → lost) ∧ (s.dieCutOff die = false → out = .next s)) ∧
        ∀ slot k, s.pickSlot dst.toNat (typeVc typ) dl bytes = some (slot, k) →
          (slot, k) ∈ s.routeSlots dst.toNat ∧
          (linkDie k = die ∨ (s.dieCutOff die = false ∧ s.dieCutOff (linkDie k) = false) →
            ∃ t, out = .next t ∧ s.sameMem t ∧ t.dict = s.dict ∧
              t.hasSent k (.forward ⟨dst, typ, hops + 1, age, body⟩)) ∧
          (linkDie k ≠ die → s.dieCutOff die = true → lost) ∧
          (linkDie k ≠ die → s.dieCutOff die = false → s.dieCutOff (linkDie k) = true →
            out = .next (s.odAdd odMeshUnreachDropCount 1))) ∧
      (s.od odDeviceIdValid = 0 → hops < 31 → s.dieCutOff die = false → out = .next s)) := by
  intro out die bytes
  have hout : out = _ := exec_arrival_routed hl hup ht hok hr
  refine ⟨fun hh => ?_, fun hh ha => ?_, fun hgood => ⟨fun hid hdst => exec_arrival_here hl hup ht hok hr hgood hid hdst,
    fun h hh => ?_, fun hid hdst hh => exec_arrival_elsewhere hw hl hup ht hok hr hgood hid hdst hh, fun hid hh hc => ?_⟩⟩
  · rw [hout, State.pktDiscard, if_pos hh]
  · rw [hout, State.pktDiscard, if_neg (by omega), if_pos ha]
  · have hrelay := exec_arrival_relay (dl := dl) hl hup ht hok hr hgood (h.imp_left fun h => by omega)
    exact hrelay.trans (congrArg _ (State.relay_hops (by omega)))
  · have hrelay := exec_arrival_relay (dl := dl) hl hup ht hok hr hgood (.inl (by omega))
    exact hrelay.trans (congrArg _ ((State.relay_on (by omega) (.inl hc)).trans (State.routeOut_unnamed hid)))

/-- Settles O54: the header of a routed packet is read field by field from its packing, and a packet that its checks leave
good goes the way of its route entry; the link's other commands follow their own branches. -/
theorem linksRoutePackets : Obligations.LinksRoutePackets := by
  unfold Obligations.LinksRoutePackets
  intro s hw
  refine ⟨fun route k hk h => ⟨exec_portEnable hw h, exec_portDisable hw hk h, exec_portRetrain hw hk h,
      exec_portRetrain_disabled h⟩, fun link dst typ hops age dl body hl hup => ?_,
    fun k hk => exec_linkWaitDiscard_host hk,
    fun k hk => ⟨exec_linkWaitDiscard_none hk, exec_linkWaitDiscard hw hk⟩,
    fun link tag hl => ⟨exec_request_unknown hl, fun r hr => ⟨exec_wdone hl hr, exec_linkRequestResend_early hr,
      exec_linkRequestResend hw hr, exec_linkRequestResend_last hr⟩⟩,
    fun k tag ovf hk => exec_wdone_lost hk tag ovf, fun tag data => ⟨exec_hrdData tag data, exec_hrdData_lost tag data⟩,
    exec_hostPortReturn⟩
  intro out die bytes routed
  have hrouted : routed → typ < 12 ∧ pktUnrouted body typ = false ∧
      headerOk (RoutedPkt.word ⟨dst, typ, hops + 1, age, body⟩) = pktClean body typ := by
    intro h
    refine ⟨by omega, ?_, RoutedPkt.headerOk_routed (h.imp_right fun h => ⟨h.1, h.2.1⟩)⟩
    unfold pktUnrouted
    rcases h with h | h
    · simp
      omega
    · simp [h.2.2]
  refine ⟨fun h => ?_, fun h hc => ?_, fun h8 h11 hc hm => ?_, fun h12 h23 hok => ?_, fun h hc h34 => ?_, fun h hc h34 => ?_⟩
  · exact exec_arrival_malformed hl hup (RoutedPkt.headerOk_reserved (p := ⟨dst, typ, hops + 1, age, body⟩) h)
  · refine exec_arrival_malformed hl hup ?_
    rw [RoutedPkt.headerOk_routed h, show pktClean body typ = false from hc]
    simp
  · refine exec_arrival_other hl hup (by omega) ((RoutedPkt.headerOk_routed (.inr ⟨h8, h11⟩)).trans hc) (.inr (.inr ?_))
    simp [pktUnrouted, h8, hm]
  · exact exec_arrival_other hl hup (by omega) hok (.inr (.inl h12))
  · obtain ⟨ht, -, hok⟩ := hrouted h
    exact exec_arrival_other hl hup (by omega) (hok.trans hc) (.inl h34)
  · obtain ⟨ht, hr, hok⟩ := hrouted h
    exact exec_arrival_device hw h34 hup ht (hok.trans hc) hr

end Sys2Proof.Machine
end

section
/-! PROOFS. Accesses to the object dictionary, and the sideband ports (R54, R442, R487, R512, R555 to R571, R574). -/

namespace Sys2Proof.Machine

open Sys2Proof

/-! ### Routes (R54, R442, R487, R512) -/

section

variable {s : State} {route : Nat}

/-- A closed route: the module is down, no yardmaster is in office, or the test port in RECOVERY (R487, R512). -/
theorem State.routeOpen_closed (h : s.up = false ∨ (s.yardActs = false ∧ s.od odStartState ≠ 0x0D) ∨
    (route = 36 ∧ s.od odStartState = 0x0C)) : s.routeOpen route = false := by
  unfold State.routeOpen
  rcases h with h | ⟨h, h'⟩ | ⟨h, h'⟩
  · simp [h]
  · simp [h, h']
  · simp [h, h']

/-- A packet of no host, or of one that a port serves, is not counted (R54, R442). -/
theorem State.hostLost_same (h : s.up = false ∨ 32 < route ∨ s.hostUp = true ∨ (s.linkUp 34 = false ∧ s.linkUp 35 = false)) :
    s.hostLost route = s := by
  unfold State.hostLost
  rw [if_neg]
  rcases h with h | h | h | ⟨h, h'⟩
  · simp [h]
  · simp
    omega
  · simp [h]
  · simp [h, h']

end

/-! ### Accesses (R555 to R563) -/

section

variable {s : State} {r : OdReq}

theorem State.odReadOp_closed (h : s.routeOpen r.route = false) : s.odReadOp r = s.hostLost r.route := if_pos (by simp [h])

theorem State.odWriteOp_closed (h : s.routeOpen r.route = false) : s.odWriteOp r = s.hostLost r.route :=
  if_pos (by simp [h])

theorem State.odReadOp_malformed (h : s.routeOpen r.route = true) (hb : r.badForm = true) :
    s.odReadOp r = s.odFail odMalformed := by
  unfold State.odReadOp
  simp [h, hb]

theorem State.odWriteOp_malformed (h : s.routeOpen r.route = true) (hb : r.badForm = true) :
    s.odWriteOp r = s.odFail odMalformed := by
  unfold State.odWriteOp
  simp [h, hb]

/-- A well-formed read of an entry of the table goes by its guard (R563). -/
theorem State.odReadOp_guard (h : s.routeOpen r.route = true) (hb : r.badForm = false) (hsub : r.sub ≠ 0)
    (hi : r.index < 0xC000) (hl : r.len ≤ routeLimit r.route) :
    s.odReadOp r =
      match s.odGuard r.route r.dbg false r.index r.sub with
      | .error e => s.odFail e
      | .ok none => s.odNoRights r.route r.len false
      | .ok (some (row, _)) => s.readRow r row := by
  have hbad : (r.badForm || decide (routeLimit r.route < r.len)) = false := by
    rw [hb]
    simpa using hl
  unfold State.odReadOp
  dsimp only
  rw [hbad, if_neg (by simp [h]), if_neg (by decide), if_neg hsub, if_neg (by omega)] <;> rfl

/-- A well-formed write to an entry of the table goes by its guard (R563). -/
theorem State.odWriteOp_guard (h : s.routeOpen r.route = true) (hb : r.badForm = false) (hsub : r.sub ≠ 0)
    (hi : r.index < 0xC000) (hl : r.data.length ≤ routeLimit r.route) :
    s.odWriteOp r =
      match s.odGuard r.route r.dbg false r.index r.sub with
      | .error e => s.odFail e
      | .ok none => s.odNoRights r.route r.data.length true
      | .ok (some (row, has)) => s.writeRow r row has := by
  have hbad : (r.badForm || decide (routeLimit r.route < r.data.length)) = false := by
    rw [hb]
    simpa using hl
  unfold State.odWriteOp
  dsimp only
  rw [hbad, if_neg (by simp [h]), if_neg (by decide), if_neg hsub, if_neg (by omega)] <;> rfl

/-- A write to an owner entry goes by its own rule (R574). -/
theorem State.odWriteOp_owner (h : s.routeOpen r.route = true) (hb : r.badForm = false) (hsub : r.sub ≠ 0)
    (hi : 0xC000 ≤ r.index) (hl : r.data.length ≤ routeLimit r.route) : s.odWriteOp r = s.ownerWrite r := by
  have hbad : (r.badForm || decide (routeLimit r.route < r.data.length)) = false := by
    rw [hb]
    simpa using hl
  unfold State.odWriteOp
  dsimp only
  rw [hbad, if_neg (by simp [h]), if_neg (by decide), if_neg hsub, if_pos hi]

/-- An access without rights is counted, and answered with zeros (R562). -/
theorem State.odNoRights_spec (hw : s.wf = true) (route n : Nat) (write : Bool) :
    s.sameMem (s.odNoRights route n write) ∧
      (s.odNoRights route n write).od odOdDeniedCount = (s.od odOdDeniedCount + 1) % 2 ^ 64 ∧
      (s.odNoRights route n write).dict.ans = some ⟨odOk, 0, n, if write then [] else List.replicate n 0⟩ ∧
      (s.odNoRights route n write).parts = s.parts ∧ (s.odNoRights route n write).sec = s.sec :=
  ⟨⟨rfl, rfl, rfl, rfl, rfl, rfl⟩, State.od_odSet_same (State.wf_dict hw) _ _, rfl, rfl, rfl⟩

/-- A read of a scalar entry answers its value, or its length (R557, R563). -/
theorem State.readRow_scalar {row : OdRow} (h : odScalar row.typ = true) :
    s.readRow r row = if r.offset = 0 ∧ r.len = odSize row.typ then
      s.odAnswer ⟨odOk, row.typ, odSize row.typ, leBytes (odSize row.typ) (s.odValue r.route row r.index r.sub)⟩
      else s.odFailRow odLength row.typ (odSize row.typ) := by
  unfold State.readRow
  simp only [h, if_true]
  by_cases ho : r.offset = 0 ∧ r.len = odSize row.typ
  · rw [if_pos ho, if_neg (by simp [ho])]
  · rw [if_neg ho, if_pos]
    simp only [Bool.or_eq_true, decide_eq_true_eq]
    tauto

/-- A write to a scalar entry (R557, R563, R565). -/
theorem State.writeRow_scalar {row : OdRow} (h : odScalar row.typ = true) (has : Nat) :
    s.writeRow r row has =
      if r.offset ≠ 0 ∨ r.data.length ≠ odSize row.typ then s.odFailRow odLength row.typ (odSize row.typ)
      else if has < 2 then s.odFailRow odRange row.typ (odSize row.typ)
      else if (s.odPut r.route row r.index r.sub (ofLe r.data)).2 = odOk then
        (s.odPut r.route row r.index r.sub (ofLe r.data)).1.odFailRow odOk row.typ (odSize row.typ)
      else s.odFailRow (s.odPut r.route row r.index r.sub (ofLe r.data)).2 row.typ (odSize row.typ) := by
  unfold State.writeRow
  simp only [h, if_true, Bool.or_eq_true, decide_eq_true_eq]

end

/-! ### Owner entries (R557, R574) -/

section

variable (l : List (Nat × List Byte)) (k : Nat) (b : List Byte)

/-- The owner entries with one of them set: those of lower keys, it, and those of higher keys. -/
def ownerPut : List (Nat × List Byte) :=
  ((l.filter fun x => x.1 != k).filter fun x => decide (x.1 < k)) ++
    (k, b) :: (l.filter fun x => x.1 != k).filter fun x => decide (k < x.1)

/-- The entry that is set is the first of its key. -/
theorem ownerPut_find_same : (ownerPut l k b).find? (fun x => x.1 == k) = some (k, b) := by
  have hlow : ((l.filter fun x => x.1 != k).filter fun x => decide (x.1 < k)).find? (fun x => x.1 == k) = none := by
    rw [List.find?_eq_none]
    intro x hx
    have := (List.mem_filter.mp hx).2
    simp at this ⊢
    omega
  rw [ownerPut, List.find?_append, hlow, List.find?_cons_of_pos (by simp)]
  rfl

/-- What a search for keys finds is found among the entries that a filter keeps, when it keeps all of them. -/
theorem find?_filter_keep {α : Type} {p q : α → Bool} (l : List α) (h : ∀ x, p x = true → q x = true) :
    (l.filter q).find? p = l.find? p := by
  rw [List.find?_filter]
  congr 1
  funext x
  cases hp : p x
  · simp
  · simp [h x hp]

/-- Another entry is found as before. -/
theorem ownerPut_find_other {j : Nat} (hj : j ≠ k) :
    (ownerPut l k b).find? (fun x => x.1 == j) = l.find? (fun x => x.1 == j) := by
  have hrest : (l.filter fun x => x.1 != k).find? (fun x => x.1 == j) = l.find? (fun x => x.1 == j) :=
    find?_filter_keep l fun x hx => by simp at hx ⊢; omega
  have hnone (q : Nat × List Byte → Bool) (hq : ∀ x, x.1 = j → q x = false) :
      ((l.filter fun x => x.1 != k).filter q).find? (fun x => x.1 == j) = none := by
    rw [List.find?_eq_none]
    intro x hx
    have h := (List.mem_filter.mp hx).2
    intro e
    rw [hq x (by simpa using e)] at h
    cases h
  rw [ownerPut, List.find?_append, List.find?_cons_of_neg (by simp; omega)]
  rcases Nat.lt_or_gt_of_ne hj with h | h
  · rw [hnone (fun x => decide (k < x.1)) fun x hx => by simp; omega, Option.or_none,
      find?_filter_keep _ fun x hx => by simp at hx ⊢; omega, hrest]
  · rw [hnone (fun x => decide (x.1 < k)) fun x hx => by simp; omega, Option.none_or,
      find?_filter_keep _ fun x hx => by simp at hx ⊢; omega, hrest]

end

/-- The first write to an owner entry makes it, and leaves the others (R557, R574). -/
theorem State.ownerWrite_made {s : State} {r : OdReq} (ho : r.offset = 0) (hs : s.odServed r.index r.sub = true)
    (hr : s.odRight (ownerRow r.index r.sub) r.route r.dbg r.index r.sub = 2) (hl : r.data.length ≤ 256)
    (hsum : s.ownerBytes + r.data.length ≤ 262144) :
    s.sameMem (s.ownerWrite r) ∧ (s.ownerWrite r).ownerOfKey (odKey r.index r.sub) = some r.data ∧
      ∀ k, k ≠ odKey r.index r.sub → (s.ownerWrite r).ownerOfKey k = s.ownerOfKey k := by
  have hout : s.ownerWrite r = State.odFailRow
      { s with dict := { s.dict with owner := ownerPut s.dict.owner (odKey r.index r.sub) r.data } }
      odOk 11 r.data.length := by
    unfold State.ownerWrite
    extract_lets k old cur right new rest
    have hnew : new = r.data := if_pos ho
    rw [if_neg (by simp [hs]), if_neg (by simp [ho]), if_neg (by rw [show right = 2 from hr]; decide),
      if_neg (by simp [ho, hl]), if_neg (by rw [show right = 2 from hr]; decide), if_neg (by rw [hnew]; omega)]
    show State.odFailRow { s with dict := { s.dict with owner := ownerPut s.dict.owner k new } } odOk 11 new.length = _
    rw [hnew]
  rw [hout]
  refine ⟨⟨rfl, rfl, rfl, rfl, rfl, rfl⟩, ?_, fun k hk => ?_⟩
  · exact congrArg (Option.map Prod.snd) (ownerPut_find_same s.dict.owner (odKey r.index r.sub) r.data)
  · exact congrArg (Option.map Prod.snd) (ownerPut_find_other s.dict.owner (odKey r.index r.sub) r.data hk)

/-! ### Sideband frames (R567, R569, R571) -/

section

variable {s : State} {route : Nat} {f : List Byte} {d : Datagram}

/-- A frame that does not come to an open port of the module. -/
theorem exec_sidebandFrame_none (h : route < 33 ∨ 35 < route ∨ s.routeOpen route = false ∨ s.portAddressed route = false ∨
    s.udpTaken route d = false) : exec (.sidebandFrame route ⟨f, d⟩) s = .next s := by
  refine if_pos ?_
  rcases h with h | h | h | h | h <;> simp [h]

variable (hlo : 33 ≤ route) (hhi : route ≤ 35) (ho : s.routeOpen route = true) (ha : s.portAddressed route = true)
  (hu : s.udpTaken route d = true)

include hlo hhi ho ha hu

/-- A frame that comes to a port: its check, its direction and its kept answer decide (R567, R571). -/
theorem exec_sidebandFrame : exec (.sidebandFrame route ⟨f, d⟩) s =
    if !frameGood f then .next (s.odAdd odSbFrameErrorCount 1)
    else if frameBits f 4 1 = 1 then .next s
    else
      match s.side.kept.find? fun x => x.route == route && x.bytes == f && KeptReq.live s.clk.dt x with
      | some x => .next (s.sideAnswer route d x.answer)
      | none => .next (s.frameApply route f d) := by
  show execSidebandFrame route ⟨f, d⟩ s = _
  unfold execSidebandFrame
  exact if_neg (by simp [ho, ha, hu]; omega)

theorem exec_sidebandFrame_bad (hf : frameGood f = false) :
    exec (.sidebandFrame route ⟨f, d⟩) s = .next (s.odAdd odSbFrameErrorCount 1) := by
  rw [exec_sidebandFrame hlo hhi ho ha hu, if_pos (by simp [hf])]

/-- A request that was seen within 1 s is answered again (R571). -/
theorem exec_sidebandFrame_again (hf : frameGood f = true) (hq : frameBits f 4 1 = 0) {x : KeptReq}
    (hx : s.side.kept.find? (fun x => x.route == route && x.bytes == f && KeptReq.live s.clk.dt x) = some x) :
    exec (.sidebandFrame route ⟨f, d⟩) s = .next (s.sideAnswer route d x.answer) := by
  rw [exec_sidebandFrame hlo hhi ho ha hu, if_neg (by simp [hf]), if_neg (by omega), hx]

/-- Another request is applied. -/
theorem exec_sidebandFrame_new (hf : frameGood f = true) (hq : frameBits f 4 1 = 0)
    (hx : ∀ x ∈ s.side.kept, x.route = route → x.bytes = f → x.dt + 1000000000 ≤ s.clk.dt) :
    exec (.sidebandFrame route ⟨f, d⟩) s = .next (s.frameApply route f d) := by
  have hnone : s.side.kept.find? (fun x => x.route == route && x.bytes == f && KeptReq.live s.clk.dt x) = none := by
    rw [List.find?_eq_none]
    intro x hm h
    simp only [Bool.and_eq_true, beq_iff_eq, KeptReq.live, decide_eq_true_eq] at h
    obtain ⟨⟨hr, hb⟩, hlive⟩ := h
    have := hx x hm hr hb
    omega
  rw [exec_sidebandFrame hlo hhi ho ha hu, if_neg (by simp [hf]), if_neg (by omega), hnone]

end

/-- What is kept of a request frame once it is applied (R571). -/
def State.frameKept (u : State) (route : Nat) (f : List Byte) : KeptReq :=
  ⟨route, frameBits f 16 16, f, responseFrame f (u.dict.ans.getD ⟨0, 0, 0, []⟩), u.clk.dt⟩

/-- The access that a request frame asks for, applied (R563, R566). -/
def State.frameAccess (s : State) (route : Nat) (f : List Byte) : State :=
  if frameBits f 0 4 = 2 then s.odWriteOp (frameReq route f) else s.odReadOp (frameReq route f)

/-- A request frame is applied, kept with its answer, and answered. -/
theorem State.frameApply_eq (s : State) (route : Nat) (f : List Byte) (d : Datagram) :
    let u := s.frameAccess route f
    s.frameApply route f d = State.sideAnswer
      { u with side := { u.side with kept := keepSide u.clk.dt u.side.kept (u.frameKept route f) } } route d
      (u.frameKept route f).answer := rfl

/-- The answer to a request goes to its port, and the request is kept with it (R563, R568, R569, R571). -/
theorem State.sideAnswer_kept (u : State) (route : Nat) (f : List Byte) (d : Datagram) :
    let x := u.frameKept route f
    let t := State.sideAnswer { u with side := { u.side with kept := keepSide u.clk.dt u.side.kept x } } route d x.answer
    t.dict = u.dict ∧ t.hbm = u.hbm ∧ x ∈ t.side.kept ∧ x.route = route ∧ x.bytes = f ∧
      x.answer = responseFrame f (u.dict.ans.getD ⟨0, 0, 0, []⟩) ∧
      (route = 35 → t.sideTx = u.sideTx ++ [.udp d.srcIp d.srcPort x.answer]) ∧
      (route ≠ 35 → t.side.last = mset (fun _ => none) u.side.last route (some x.answer)) := by
  intro x
  have hkept : x ∈ keepSide u.clk.dt u.side.kept x := List.mem_append_right _ (List.mem_singleton_self _)
  unfold State.sideAnswer
  by_cases hr : route = 35
  · rw [if_pos hr]
    exact ⟨rfl, rfl, hkept, rfl, rfl, rfl, fun _ => rfl, fun h => absurd hr h⟩
  · rw [if_neg hr]
    exact ⟨rfl, rfl, hkept, rfl, rfl, rfl, fun h => absurd h hr, fun _ => rfl⟩

/-- Which datagrams a port takes (R569). -/
theorem State.udpTaken_spec (s : State) (d : Datagram) :
    s.udpTaken 33 d = true ∧ s.udpTaken 34 d = true ∧
      (s.udpTaken 35 d = true ↔ d.dstPort.toNat = s.od odSbUdpPort ∧
        (s.od odSbEthPeer = 0 ∨ d.srcIp.toNat = s.od odSbEthPeer)) := by
  refine ⟨rfl, rfl, ?_⟩
  unfold State.udpTaken
  simp

/-! ### The ports' own addresses (R568, R569) -/

section

variable {s : State} {port : Nat} (hp : port < 2) (ho : s.routeOpen (33 + port) = true)

include hp in
/-- An I3C port is addressed where it has a dynamic address (R568). -/
theorem State.portAddressed_i3c :
    s.portAddressed (33 + port) = (mget (fun _ => none) s.side.dyn (33 + port)).isSome := by
  unfold State.portAddressed
  rw [beq_false_of_ne (by omega), Bool.false_or]

include hp ho

theorem exec_i3cPrivateRead (ha : s.portAddressed (33 + port) = true) :
    (∀ b, mget (fun _ => none) s.side.last (33 + port) = some b →
      exec (.i3cPrivateRead port) s = .next { s with sideTx := s.sideTx ++ [.frame (33 + port) b] }) ∧
    (mget (fun _ => none) s.side.last (33 + port) = none →
      exec (.i3cPrivateRead port) s = .next { s with sideTx := s.sideTx ++ [.nack port] }) := by
  have hserved : ¬ (decide (2 ≤ port) || !s.routeOpen (33 + port) || !s.portAddressed (33 + port)) = true := by
    simp [ho, ha]
    omega
  refine ⟨fun b hb => ?_, fun hb => ?_⟩
  · show execI3cPrivateRead port s = _
    unfold execI3cPrivateRead
    rw [if_neg hserved, hb]
  · show execI3cPrivateRead port s = _
    unfold execI3cPrivateRead
    rw [if_neg hserved, hb]

theorem exec_i3cAddressAssign (setdasa : Bool) (static dynamic : BitVec 7) :
    (s.portAddressed (33 + port) = false → setdasa = false ∨ static = s.i3cStatic port →
      exec (.i3cAddressAssign port setdasa static dynamic) s =
        .next { s with side := { s.side with dyn := mset (fun _ => none) s.side.dyn (33 + port) (some dynamic) } }) ∧
    (s.portAddressed (33 + port) = true ∨ (setdasa = true ∧ static ≠ s.i3cStatic port) →
      exec (.i3cAddressAssign port setdasa static dynamic) s = .next s) := by
  rw [State.portAddressed_i3c hp]
  refine ⟨fun ha h => if_neg ?_, fun h => if_pos ?_⟩
  · rcases h with h | h <;> simp [ho, ha, h] <;> omega
  · rcases h with h | ⟨h, h'⟩
    · simp [h]
    · simp [h, h']

end

section

variable {s : State} {target : BitVec 32} {mac : BitVec 48} {ip : BitVec 32} {payload : List Byte}

/-- ARP and echo requests for the address of an open port are answered (R569). -/
theorem exec_ethernet_own (ho : s.routeOpen 35 = true) (ht : target.toNat = s.od odSbIpv4Addr) :
    exec (.arpRequest target mac ip) s = .next { s with sideTx := s.sideTx ++ [.arpReply mac ip] } ∧
    (payload.length ≤ 1472 → exec (.icmpEcho target ip payload) s =
      .next { s with sideTx := s.sideTx ++ [.echoReply ip payload] }) ∧
    (1472 < payload.length → exec (.icmpEcho target ip payload) s = .next s) := by
  refine ⟨if_neg ?_, fun h => if_neg ?_, fun h => if_pos ?_⟩
  · simp [ho, ht]
  · simp [ho, ht, h]
  · simp [h]

theorem exec_ethernet_other (h : s.routeOpen 35 = false ∨ target.toNat ≠ s.od odSbIpv4Addr) :
    exec (.arpRequest target mac ip) s = .next s ∧ exec (.icmpEcho target ip payload) s = .next s := by
  have hno : (!s.routeOpen 35 || target.toNat != s.od odSbIpv4Addr) = true := by
    rcases h with h | h <;> simp [h]
  exact ⟨if_pos hno, if_pos (by simp [hno])⟩

end

/-! ### The obligation -/

section

variable {s : State} {r : OdReq}

/-- A well-formed read of an entry of the table (R555 to R563). -/
theorem exec_odRead_entry (hw : s.wf = true) (h : s.routeOpen r.route = true) (hb : r.badForm = false) (hsub : r.sub ≠ 0)
    (hi : r.index < 0xC000) (hl : r.len ≤ routeLimit r.route) :
    (∀ e, s.odGuard r.route r.dbg false r.index r.sub = .error e → exec (.odRead r) s = .next (s.odFail e)) ∧
    (s.odGuard r.route r.dbg false r.index r.sub = .ok none → ∃ t, exec (.odRead r) s = .next t ∧ s.sameMem t ∧
      t.od odOdDeniedCount = (s.od odOdDeniedCount + 1) % 2 ^ 64 ∧
      t.dict.ans = some ⟨odOk, 0, r.len, List.replicate r.len 0⟩) ∧
    (∀ row h, s.odGuard r.route r.dbg false r.index r.sub = .ok (some (row, h)) → odScalar row.typ = true →
      exec (.odRead r) s = .next (if r.offset = 0 ∧ r.len = odSize row.typ then
        s.odAnswer ⟨odOk, row.typ, odSize row.typ, leBytes (odSize row.typ) (s.odValue r.route row r.index r.sub)⟩
        else s.odFailRow odLength row.typ (odSize row.typ))) := by
  have hop := State.odReadOp_guard h hb hsub hi hl
  refine ⟨fun e he => congrArg Host.Outcome.next ?_, fun he => ?_, fun row has he ht => congrArg Host.Outcome.next ?_⟩
  · rw [hop, he]
  · rw [he] at hop
    obtain ⟨hmem, hcount, hans, -, -⟩ := State.odNoRights_spec hw r.route r.len false
    exact ⟨_, congrArg Host.Outcome.next hop, hmem, hcount, hans⟩
  · rw [hop, he]
    exact State.readRow_scalar ht

/-- A well-formed write to an entry of the table (R555 to R563). -/
theorem exec_odWrite_entry (hw : s.wf = true) (h : s.routeOpen r.route = true) (hb : r.badForm = false) (hsub : r.sub ≠ 0)
    (hi : r.index < 0xC000) (hl : r.data.length ≤ routeLimit r.route) :
    (∀ e, s.odGuard r.route r.dbg false r.index r.sub = .error e → exec (.odWrite r) s = .next (s.odFail e)) ∧
    (s.odGuard r.route r.dbg false r.index r.sub = .ok none → ∃ t, exec (.odWrite r) s = .next t ∧ s.sameMem t ∧
      t.od odOdDeniedCount = (s.od odOdDeniedCount + 1) % 2 ^ 64 ∧
      t.dict.ans = some ⟨odOk, 0, r.data.length, []⟩ ∧ t.parts = s.parts ∧ t.sec = s.sec) ∧
    (∀ row h, s.odGuard r.route r.dbg false r.index r.sub = .ok (some (row, h)) → odScalar row.typ = true →
      let u := s.odPut r.route row r.index r.sub (ofLe r.data)
      (r.offset ≠ 0 ∨ r.data.length ≠ odSize row.typ →
        exec (.odWrite r) s = .next (s.odFailRow odLength row.typ (odSize row.typ))) ∧
      (r.offset = 0 → r.data.length = odSize row.typ →
        (h < 2 → exec (.odWrite r) s = .next (s.odFailRow odRange row.typ (odSize row.typ))) ∧
        (2 ≤ h → u.2 = odOk → exec (.odWrite r) s = .next (u.1.odFailRow odOk row.typ (odSize row.typ))) ∧
        (2 ≤ h → u.2 ≠ odOk → exec (.odWrite r) s = .next (s.odFailRow u.2 row.typ (odSize row.typ))))) := by
  have hop := State.odWriteOp_guard h hb hsub hi hl
  refine ⟨fun e he => congrArg Host.Outcome.next ?_, fun he => ?_, fun row has he ht => ?_⟩
  · rw [hop, he]
  · rw [he] at hop
    obtain ⟨hmem, hcount, hans, hparts, hsec⟩ := State.odNoRights_spec hw r.route r.data.length true
    exact ⟨_, congrArg Host.Outcome.next hop, hmem, hcount, hans, hparts, hsec⟩
  · rw [he] at hop
    have hrow : exec (.odWrite r) s = .next _ := congrArg Host.Outcome.next (hop.trans (State.writeRow_scalar ht has))
    rw [hrow]
    refine ⟨fun hl => by rw [if_pos hl], fun ho hl => ?_⟩
    rw [if_neg (by simp [ho, hl])]
    refine ⟨fun hh => by rw [if_pos hh], fun hh hu => ?_, fun hh hu => ?_⟩
    · rw [if_neg (by omega), if_pos hu]
    · rw [if_neg (by omega), if_neg hu]

end

/-- Settles O60: an access goes by the checks of its route, its form and its guard, in their order; a frame by its port, its
check and what is kept of it. -/
theorem dictionaryAndSidebands : Obligations.DictionaryAndSidebands := by
  unfold Obligations.DictionaryAndSidebands
  intro s hw
  refine ⟨fun r h => ⟨fun c hc => ?_, fun hup hr hh hl => State.hostLost_cut hup hr hh hl, State.hostLost_same⟩,
    fun route => State.routeOpen_closed, fun r h => ⟨fun hb => ⟨congrArg Host.Outcome.next (State.odReadOp_malformed h hb),
      congrArg Host.Outcome.next (State.odWriteOp_malformed h hb)⟩,
      fun hb hsub hi => ⟨exec_odRead_entry hw h hb hsub hi, exec_odWrite_entry hw h hb hsub hi⟩,
      fun hb hsub hi hl ho hs hr hd hsum => ?_⟩, fun r => ⟨fun hp => ?_, fun hp => ?_⟩,
    fun route f d => ⟨exec_sidebandFrame_none, fun hlo hhi ho ha hu => ⟨exec_sidebandFrame_bad hlo hhi ho ha hu,
      fun hf hq => ⟨fun x => exec_sidebandFrame_again hlo hhi ho ha hu hf hq, fun hx =>
        ⟨_, (s.frameAccess route f).frameKept route f,
          (exec_sidebandFrame_new hlo hhi ho ha hu hf hq hx).trans (congrArg Host.Outcome.next (s.frameApply_eq route f d)),
          (s.frameAccess route f).sideAnswer_kept route f d⟩⟩⟩⟩, s.udpTaken_spec,
    fun port hp ho => ⟨fun ha => ?_, exec_i3cPrivateRead hp ho, exec_i3cAddressAssign hp ho⟩,
    fun target mac ip payload => ⟨exec_ethernet_own, exec_ethernet_other⟩⟩
  · rcases List.mem_cons.mp hc with rfl | hc
    · exact congrArg Host.Outcome.next (State.odReadOp_closed h)
    · obtain rfl := List.mem_singleton.mp hc
      exact congrArg Host.Outcome.next (State.odWriteOp_closed h)
  · obtain ⟨hmem, hmade, hothers⟩ := State.ownerWrite_made ho hs hr hd hsum
    exact ⟨_, congrArg Host.Outcome.next (State.odWriteOp_owner h hb hsub hi hl), hmem, hmade, hothers⟩
  · show execRegisterWrite r s = _
    unfold execRegisterWrite
    rw [if_pos hp]
    rfl
  · show execRegisterWrite r s = _
    unfold execRegisterWrite
    rw [if_neg (by simp [hp])]
  · refine if_pos ?_
    simp [ha]

end Sys2Proof.Machine
end

section
/-! PROOFS. A warm reset that ends in RECOVERY although the image passes (R391, R417, R493, R506): a canonical state may list a
cluster site beyond the 576 of the module, and the entry of its stretched cycles then falls on FW_VERSION_FLOOR. -/

namespace Sys2Proof.Machine

open Sys2Proof

/-! ### The last cycles of a site whose µs is over -/

section

variable {s : State} {x : SiteId}

/-- With no time left in the present µs, a free moment of it is the present one. -/
theorem State.runFree_of_left (h : s.leftNs = 0) : s.runFree x = s.useFree.runTo x := by
  unfold State.runFree
  rw [h, Nat.max_zero, Nat.mod_one, Nat.add_zero]
  rfl

/-- A level of stretch that needs more than is left of the µs goes on beyond it (R391). -/
theorem State.runLevel_of_left (ht : (s.runFree x).leftNs = 0) (hn : (s.runFree x).levelNs x ≠ 0) :
    (s.runLevel x).1 = s.runFree x := by
  unfold State.runLevel
  generalize s.runFree x = t at ht hn
  extract_lets u n
  have hno : ¬ (decide (n < u.leftNs) || decide (n = 0)) = true := by simp [u, ht, n, hn]
  rw [if_neg hno]

/-- The last cycles of a stretched site are then those to the present moment (R386, R391). -/
theorem State.lastCycles_of_left (hs : (s.cl x).stretch ≠ 0) (ht : (s.runFree x).leftNs = 0)
    (hn : (s.runFree x).levelNs x ≠ 0) : s.lastCycles x = s.runFree x := by
  unfold State.lastCycles
  rw [if_neg hs, State.runLevel_of_left ht hn]

/-- What switches a site off once its last cycles have run (R417). -/
def State.cutOff (s : State) (x : SiteId) : State :=
  let s := ((s.clearSite x).modCl x Cluster.off).portTurn x
  let s := s.modBay (x / 36) fun b =>
    { b with want := b.want.filter fun y => y != x, assist := b.assist.filter fun y => y != x
             seq := match b.seq with
               | some q => if q.site = x then none else some q
               | none => none }
  s.railRefresh (x / 36)

/-- Every farrier run has ended. -/
def State.runsOff (s : State) : State := { s with firm := { s.firm with runs := [] } }

/-- An answer changes no entry. -/
theorem State.od_odFailRow (t : State) (st typ n k : Nat) : (t.odFailRow st typ n).od k = t.od k := rfl

/-- In READY, and with no image being written, a write of 1 to MODULE_RESET is a warm reset (R493). -/
theorem exec_moduleReset_warm {route : Nat} {fuse : FuseFind} {good : Bool} (h : s.mayWrite route odModuleReset)
    (hr : s.ready = true) (hf : s.od odFwUpdateStatus ≠ 4) :
    ∃ t, exec (.moduleReset route ⟨1, fuse, good⟩) s = .next t ∧ ∀ k, t.od k = (s.warmReset fuse good).od k := by
  have hw : s.resetWrite 1 fuse good = (s.warmReset fuse good, odOk) := by
    unfold State.resetWrite
    rw [if_neg (by simp [hr]), if_neg hf]
  obtain ⟨typ, n, e⟩ := State.keyWrite_ok h (k := fun s => s.resetWrite 1 fuse good) hw
  exact ⟨_, congrArg Host.Outcome.next e, State.od_odFailRow _ odOk typ n⟩

/-- Where one site is listed and has power, switching everything off is switching it off. -/
theorem State.allOff_single {c : Cluster} (hc : s.clusters = [(x, c)]) (hp : c.power ≠ .off) :
    s.allOff = ((s.abandonRun x).switchOff x).runsOff := by
  unfold State.allOff
  rw [hc, List.foldl_cons, List.foldl_nil, if_neg hp]
  generalize (s.abandonRun x).switchOff x = t
  rfl

theorem State.switchOff_eq : s.switchOff x = ((s.unland x).lastCycles x).cutOff x := rfl

end

/-! ### A state with a stray site -/

/-- The site whose entry of stretched cycles has the key of FW_VERSION_FLOOR. -/
def straySite : SiteId := 653185

theorem straySite_key : odSite odStretchCyc straySite = odFwVersionFloor := by decide

/-- A site with power at level 1 of stretch, to which one whole cycle is due. -/
def strayCl : Cluster := { Cluster.zero with power := .on, stretch := 1, ran := 1000, cycRem := cycleLen 0 1 4 0 }

/-- A READY module at the end of its first µs, every groom in service, with a stray site. -/
def stray : State :=
  { State.reset with
    start := { State.reset.start with pwrgood := true, acting := true }
    clk := { State.reset.clk with sub := 1000 }
    dict := { State.reset.dict with val := [(odStartState, 0x0A)] }
    grooms := (List.range 20).map fun g => (g, { Groom.zero with inService := true })
    clusters := [(straySite, strayCl)] }

/-- The findings of the reset: one fuse copy alone is good. -/
def strayFuse : FuseFind := ⟨true, false, false, false⟩

theorem stray_wf : stray.wf = true := by decide +kernel

theorem stray_mayWrite : stray.mayWrite 33 odModuleReset := ⟨by decide +kernel, _, rfl⟩

/-- The stray site when its runs have ended and nothing waits for it. -/
def strayIdle : State := (stray.abandonRun straySite).unland straySite

/-- The stray site has run its last cycles: one is counted. -/
def strayRun : State := strayIdle.useFree.runTo straySite

theorem strayIdle_lastCycles : strayIdle.lastCycles straySite = strayRun := by
  have hrun : strayIdle.runFree straySite = strayRun := State.runFree_of_left (by decide +kernel)
  rw [State.lastCycles_of_left (by decide +kernel) (by rw [hrun]; decide +kernel) (by rw [hrun]; decide +kernel), hrun]

/-- Every site is off: the module lists the stray one alone. -/
def strayOff : State := (strayRun.cutOff straySite).runsOff

theorem stray_allOff : stray.allOff = strayOff := by
  have hrun : State.lastCycles ((stray.abandonRun straySite).unland straySite) straySite = strayRun := strayIdle_lastCycles
  rw [State.allOff_single (x := straySite) (c := strayCl) rfl (by decide), State.switchOff_eq, hrun]
  rfl

/-- One cycle of the stray site raises the floor. -/
theorem strayOff_floor : strayOff.od odFwVersionFloor = 1 := by decide +kernel

/-- The warm reset ends in RECOVERY. -/
theorem stray_warmReset : (stray.warmReset strayFuse true).od odStartState = 0x0C := by
  unfold State.warmReset State.warmState
  rw [stray_allOff]
  decide +kernel

/-- Refutes O57: the clause on where a warm reset ends fails in `stray`. A canonical state bounds no site number, so it may list
site 653185; when the reset switches that site off, its last stretched cycle is added to FW_VERSION_FLOOR, the floor passes the
SEC_VER of the image in the tack room, and the module enters RECOVERY where the clause says READY. The entries of the 576 sites
of the module lie below that key: the statement lacks the bound. -/
theorem not_startsResetsAndPins : ¬ Obligations.StartsResetsAndPins := by
  unfold Obligations.StartsResetsAndPins
  intro h
  obtain ⟨-, -, -, -, -, -, -, -, -, -, -, -, -, -, -, -, -, -, -, hreset, -⟩ := h stray stray_wf
  obtain ⟨-, hwarm, -⟩ := hreset 33 1 strayFuse true stray_mayWrite
  obtain ⟨t, ht, -, -, -, -, -, -, -, -, -, -, hready⟩ := hwarm rfl (by decide +kernel) (by decide +kernel)
  obtain ⟨hstart, -⟩ := (hready (by decide +kernel) (by decide +kernel)).1 (.inl (by decide))
  obtain ⟨u, hu, hod⟩ := exec_moduleReset_warm (fuse := strayFuse) (good := true) stray_mayWrite (by decide +kernel)
    (by decide +kernel)
  obtain rfl : t = u := Host.Outcome.next.inj (ht.symm.trans hu)
  rw [hod, stray_warmReset] at hstart
  exact absurd hstart (by decide)

end Sys2Proof.Machine
end

section
/-! PROOFS. What the operations of the MX slot do on a core that issues (R63, R70 to R80, R85 to R87, R111, R118, R199). -/

namespace Sys2Proof.Machine

open Sys2Proof

/-! ### Banks of the array -/

section

variable (m : Mxe) (b : Bool) (y : Bank)

@[simp] theorem Mxe.bankOf_setBank_same : (m.setBank b y).bankOf b = y := by cases b <;> rfl
@[simp] theorem Mxe.bankOf_not_setBank : (m.setBank b y).bankOf (!b) = m.bankOf (!b) := by cases b <;> rfl
@[simp] theorem Mxe.bankOf_setBank_not : (m.setBank (!b) y).bankOf b = m.bankOf b := by cases b <;> rfl
@[simp] theorem Mxe.setBank_active : (m.setBank b y).active = m.active := by cases b <;> rfl
@[simp] theorem Mxe.setBank_shadow : (m.setBank b y).shadow = m.shadow := by cases b <;> rfl
@[simp] theorem Mxe.setBank_drains : (m.setBank b y).drains = m.drains := by cases b <;> rfl

end

/-- Changes of logs alone, one after another, change the log alone. -/
theorem Bank.foldl_log {α : Type} {step : Bank → α → Bank} (h : ∀ b a, step b a = { b with log := (step b a).log })
    (as : List α) (b : Bank) : as.foldl step b = { b with log := (as.foldl step b).log } := by
  induction as generalizing b with
  | nil => rfl
  | cons a as ih => rw [List.foldl_cons, ih, h b a]

/-! ### MX.NOP, MX.DLOAD, MX.LOAD and MX.SWAP -/

/-- An operation whose wait for an earlier one is over is not early (R80). -/
theorem not_early {n : Nat} {o : Option Nat} (limit : Nat → Nat) : (∀ p, o = some p → limit p ≤ n) →
    (match o with | some p => decide (n < limit p) | none => false) = false := by
  intro h
  cases o with
  | none => rfl
  | some p => exact decide_eq_false (Nat.not_lt.mpr (h p rfl))

/-- The wait for an operation that has left its cycle and a length. -/
theorem not_early_pair {n : Nat} {o : Option (Nat × Nat)} (limit : Nat → Nat → Nat) :
    (∀ p t, o = some (p, t) → limit p t ≤ n) →
    (match o with | some (p, t) => decide (n < limit p t) | none => false) = false := by
  intro h
  cases o with
  | none => rfl
  | some a => exact decide_eq_false (Nat.not_lt.mpr (h a.1 a.2 rfl))

section

variable {c : CoreId} {f : MxSlot} {g : MxAddr} {s : State} {x : Core} {d : Row}

theorem exec_mxNop (h : s.issues c x 0 0) :
    exec (.mxNop c ⟨0, false, false, false, false, false, 0, 0, 0⟩) s = .next (s.putCur c x 0 x.cur) :=
  congrArg Host.Outcome.next (State.slotOp_pass (w := 0) h rfl rfl)

theorem exec_mxDload (h : s.issues c x 0 (mxAddrWord 1 g)) (hr : g.rsv = 0) (hf : x.cur.readFree g.addr.toNat) :
    ∃ r b, exec (.mxDload c g) s = .next (s.putCur c x 0 { x.cur with
      reads := r
      banks := b
      mx := { x.cur.mx with
        dpend := x.cur.mx.dpend ++ [(x.cur.now, g.desc.toNat, (x.cur.viewRow x.cur.now g.addr.toNat).1)] } }) := by
  obtain ⟨b, hread⟩ := CoreSt.readRow_eq x.cur x.cur.bpc 0 0 g.addr.toNat .none
  refine ⟨(x.cur.readRow x.cur.bpc 0 0 g.addr.toNat .none).1.reads, b,
    congrArg Host.Outcome.next (State.slotOp_pass h (by simp [hr]) ?_)⟩
  dsimp only
  rw [CoreSt.readRow_bad, hf, if_neg Bool.false_ne_true, CoreSt.readRow_data, hread]
  rfl

theorem exec_mxLoad (h : s.issues c x 0 (mxSlotWord 2 f)) (hd : mget zR x.beg.mx.desc f.desc.toNat = d)
    (hz : mxPassZero f = true) (hok : dLoadOk d f.sa.toNat = true) (htop : loadTop d ≤ 4095)
    (hload : ∀ p t, x.beg.mx.lastLoad = some (p, t) → p + t ≤ x.cur.now)
    (hswap : ∀ p, x.beg.mx.lastSwap = some p → p + 2 ≤ x.cur.now)
    (hbad : (x.cur.loadRead (loadStart d f.sa.toNat x.cur.now x.cur.bpc)).2.2 = false) :
    ∃ r b l, exec (.mxLoad c f) s = .next (s.putCur c x 0 { x.cur with
        reads := r
        banks := b
        mx := { x.cur.mx with
          loads := x.cur.mx.loads ++ [l]
          lastLoad := some (x.cur.now, loadCycles (dFmtA d))
          shTag := ⟨dMode d, dFmtA d, f.sa.toNat, d⟩ } }) ∧
      l.issued = x.cur.now ∧ l.next = 1 ∧ l.plane.tag = ⟨dMode d, dFmtA d, f.sa.toNat, d⟩ := by
  obtain ⟨r, b, hread⟩ := CoreSt.loadRead_eq x.cur (loadStart d f.sa.toNat x.cur.now x.cur.bpc)
  refine ⟨r, b, (x.cur.loadRead (loadStart d f.sa.toNat x.cur.now x.cur.bpc)).2.1,
    congrArg Host.Outcome.next (State.slotOp_pass h hz ?_), rfl, rfl, rfl⟩
  extract_lets n d' sa late ok causes
  have hd' : d' = d := hd
  clear_value d'
  subst hd' n sa
  have hlate : late = false := Bool.or_eq_false_iff.mpr
    ⟨not_early_pair (· + ·) hload, not_early (· + 2) hswap⟩
  have hcauses : causes = [] := by
    have hok' : ok = true := hok
    simp [causes, hok', hlate, htop]
  rw [hcauses, if_neg (by decide)]
  dsimp -zeta only
  rw [hbad, if_neg (by decide), hread]
  rfl

theorem exec_mxSwap (h : s.issues c x 0 (mxSlotWord 3 f)) (hz : mxPassZero f = true) (hdesc : f.desc = 0)
    (hsa : f.sa = 0) (hload : ∀ p t, x.beg.mx.lastLoad = some (p, t) → p + t ≤ x.cur.now)
    (hplane : ∀ p ∈ x.cur.mx.passes, dMode p.desc ≠ 0 → x.cur.now ≤ p.issued + dLen p.desc →
      compatible x.beg.mx.shTag p.desc p.sa = true) :
    ∃ l0 l1, exec (.mxSwap c f) s = .next (s.putCur c x 0 { x.cur with
      mx := { x.cur.mx with
        swaps := x.cur.mx.swaps ++ [x.cur.now]
        lastSwap := some x.cur.now
        actTag := x.beg.mx.shTag
        shTag := x.beg.mx.actTag
        bank0 := { x.cur.mx.bank0 with log := l0 }
        bank1 := { x.cur.mx.bank1 with log := l1 } } }) := by
  refine Exists.imp (fun l0 => Exists.imp fun l1 (e : _ = _) =>
    congrArg Host.Outcome.next (State.slotOp_pass h (by simp [hz, hdesc, hsa]) e)) ?_
  extract_lets n tag late going bad causes relog upd
  have hlate : late = false := not_early_pair (· + ·) hload
  have hbad : bad = false := by
    simp only [bad, going, tag, List.any_eq_false, Bool.and_eq_true, Bool.not_eq_true', bne_iff_ne, decide_eq_true_eq,
      not_and, Bool.not_eq_false, and_imp]
    exact hplane
  have hcauses : causes = [] := by simp [causes, hbad, hlate]
  have hupd (b : Bank) (on : Bool) : upd b on = { b with log := (upd b on).log } :=
    Bank.foldl_log (fun b p => by split <;> rfl) _ b
  refine ⟨(upd x.cur.mx.bank0 false).log, (upd x.cur.mx.bank1 true).log, ?_⟩
  rw [hcauses, if_neg (by decide), ← hupd, ← hupd]

end

/-- Settles O16: each operation passes its checks; its reads add to the reads in flight and the bank uses alone, and a swap
changes only the logs of the banks. -/
theorem arrayLoadsIssue : Obligations.ArrayLoadsIssue := by
  intro c f g s x n d
  have hd : mget zR x.beg.mx.desc f.desc.toNat = d := rfl
  clear_value d
  subst n
  refine ⟨?_, exec_mxDload, ?_, exec_mxSwap⟩
  · rintro h rfl
    exact exec_mxNop h
  · intro h hz hok htop hload hswap hbad
    exact exec_mxLoad h hd hz hok htop hload hswap hbad

/-! ### MX.STREAM -/

/-- Row reads after row reads change the reads in flight and the bank uses only. -/
theorem CoreSt.readRows_readRows {x y : CoreSt} (h : ∃ r b, y = { x with reads := r, banks := b }) (bpc slot : Nat)
    (rows : List Nat) : ∃ r b, (y.readRows bpc slot rows).1 = { x with reads := r, banks := b } := by
  obtain ⟨r, b, rfl⟩ := h
  exact CoreSt.readRows_eq bpc slot rows _

/-- The reads of a pass change the reads in flight and the bank uses only. -/
theorem CoreSt.passRead_eq (x : CoreSt) (p : PassSt) : ∃ r b, (x.passRead p).1 = { x with reads := r, banks := b } :=
  CoreSt.readRows_readRows (CoreSt.readRows_readRows (CoreSt.readRows_readRows (CoreSt.readRows_eq _ _ _ x) _ _ _) _ _ _)
    _ _ _

/-- A pass that enters the log of bank `b` as `l`, in cycle `n`: its tile is open, and it is the last stream of the bank
(R80, R85). -/
def Mxe.enterLog (m : Mxe) (n : Nat) (isInt : Bool) (l : PassLog) (b : Bool) : Mxe :=
  let m := m.setBank b (logPass (m.bankOf b) l.clr isInt l)
  if b then { m with streamB := some (n, dLen l.desc) } else { m with streamA := some (n, dLen l.desc) }

section

variable (m : Mxe) (n : Nat) (isInt : Bool) (l : PassLog) (b : Bool)

@[simp] theorem Mxe.enterLog_passes : (m.enterLog n isInt l b).passes = m.passes := by cases b <;> rfl
@[simp] theorem Mxe.enterLog_active : (m.enterLog n isInt l b).active = m.active := by cases b <;> rfl
@[simp] theorem Mxe.enterLog_shadow : (m.enterLog n isInt l b).shadow = m.shadow := by cases b <;> rfl
@[simp] theorem Mxe.enterLog_desc : (m.enterLog n isInt l b).desc = m.desc := by cases b <;> rfl

@[simp] theorem Mxe.bankOf_enterLog_same :
    (m.enterLog n isInt l b).bankOf b = logPass (m.bankOf b) l.clr isInt l := by cases b <;> rfl

@[simp] theorem Mxe.bankOf_not_enterLog : (m.enterLog n isInt l b).bankOf (!b) = m.bankOf (!b) := by cases b <;> rfl

@[simp] theorem Mxe.bankOf_enterLog_not : (m.enterLog n isInt l (!b)).bankOf b = m.bankOf b := by cases b <;> rfl

end

/-- The array when a pass has entered the log of its bank and, if it is a DUAL pass, of the other one (R72, R85). -/
def Mxe.logged (m : Mxe) (n : Nat) (isInt : Bool) (l : PassLog) : Mxe :=
  let m := m.enterLog n isInt l l.bank
  if l.dual then m.enterLog n isInt { l with other := true } (!l.bank) else m

section

variable (m : Mxe) (n : Nat) (isInt : Bool) (l : PassLog)

@[simp] theorem Mxe.logged_passes : (m.logged n isInt l).passes = m.passes := by unfold Mxe.logged; split <;> simp
@[simp] theorem Mxe.logged_active : (m.logged n isInt l).active = m.active := by unfold Mxe.logged; split <;> simp
@[simp] theorem Mxe.logged_shadow : (m.logged n isInt l).shadow = m.shadow := by unfold Mxe.logged; split <;> simp
@[simp] theorem Mxe.logged_desc : (m.logged n isInt l).desc = m.desc := by unfold Mxe.logged; split <;> simp

@[simp] theorem Mxe.bankOf_logged : (m.logged n isInt l).bankOf l.bank = logPass (m.bankOf l.bank) l.clr isInt l := by
  unfold Mxe.logged; split <;> simp

theorem Mxe.bankOf_logged_dual (h : l.dual = true) : (m.logged n isInt l).bankOf (!l.bank) =
    logPass (m.bankOf (!l.bank)) l.clr isInt { l with other := true } := by
  simp [Mxe.logged, h]

theorem Mxe.bankOf_logged_single (h : l.dual = false) : (m.logged n isInt l).bankOf (!l.bank) = m.bankOf (!l.bank) := by
  simp [Mxe.logged, h]

end

/-- The array when MX.STREAM has issued the pass `p`, logged as `l` (R76, R80, R85). -/
def Mxe.startPass (m : Mxe) (n : Nat) (isInt : Bool) (l : PassLog) (p : PassSt) : Mxe :=
  let m := m.logged n isInt l
  { m with passes := m.passes ++ [p], lastStream := some (n, dLen l.desc) }

section

variable {b : Bank} {clr isInt : Bool} {l : PassLog}

@[simp] theorem logPass_isOpen : (logPass b clr isInt l).isOpen = true := rfl
@[simp] theorem logPass_kind : (logPass b clr isInt l).kind = some isInt := rfl
@[simp] theorem logPass_accs : (logPass b clr isInt l).accs = b.accs := rfl

theorem logPass_length : (logPass b clr isInt l).log.length = (if clr then 0 else b.log.length) + 1 := by
  cases clr <;> simp [logPass]

theorem logPass_getLast : (logPass b clr isInt l).log.getLast? = some l := by
  cases clr <;> simp [logPass]

end

/-- A bank that takes a pass is early for nothing and lacks nothing (R80, R85, R108). -/
theorem streamLimits_nil {m : Mxe} {n : Nat} {clr isInt b : Bool} (h : m.takesPass n clr isInt b) :
    streamLimits m n clr isInt b = [] := by
  obtain ⟨hdrain, htile⟩ := h
  unfold streamLimits
  extract_lets bk dr
  have hearly := not_early_pair (fun p q => p + 32 * q) hdrain
  have hfit : (!clr && bk.isOpen && bk.kind != some isInt) = false ∧ (!clr && !bk.isOpen) = false ∧
      (!clr && bk.isOpen && decide (64 ≤ bk.log.length)) = false := by
    cases clr with
    | true => exact ⟨rfl, rfl, rfl⟩
    | false =>
      obtain ⟨hopen, hkind, hlog⟩ := htile rfl
      simp [bk, hopen, hkind, hlog]
  obtain ⟨hkind, hopen, hlog⟩ := hfit
  rw [hkind, hopen, hlog, Bool.or_false, Bool.or_false, if_neg (by decide), List.nil_append]
  exact if_neg (Bool.not_eq_true _ ▸ hearly)

/-- A pass as MX.STREAM issues it, its first step not read yet (R76). -/
def slotPass (f : MxSlot) (d : Row) (x : CoreSt) : PassSt :=
  { issued := x.now, bpc := x.bpc, desc := d, sa := f.sa.toNat, sb := f.sb.toNat, bank := f.bank, clr := f.clr,
    neg := f.neg, dual := f.dual, neg2 := f.neg2, next := 0, ea := 0, eb := 0, steps := [], done := [], req := none,
    pre0 := x.mx.bank0, pre1 := x.mx.bank1 }

/-- The log entry of a pass in its own bank (R85). -/
def slotEntry (f : MxSlot) (d : Row) (plane : PlaneTag) : PassLog :=
  ⟨d, f.desc.toNat, f.bank, f.clr, f.dual, f.neg2, f.sa.toNat, f.sb.toNat, f.neg, false,
    if dMode d = 0 then [] else [(0, plane)]⟩

section

variable {c : CoreId} {f : MxSlot} {s : State} {x : Core} {d : Row}

theorem exec_mxStream (h : s.issues c x 0 (mxSlotWord 4 f)) (hd : mget zR x.beg.mx.desc f.desc.toNat = d)
    (hrsv : f.rsv = 0) (hok : dStreamOk d f.sa.toNat f.sb.toNat = true)
    (htop : streamTop d f.sa.toNat f.sb.toNat ≤ 4095)
    (hplane : dMode d ≠ 0 → compatible x.cur.mx.actTag d f.sa.toNat = true)
    (hlast : ∀ p l, x.cur.mx.lastStream = some (p, l) → p + l + 1 ≤ x.cur.now)
    (hneg : f.neg2 = true → f.dual = true)
    (hbank : x.cur.mx.takesPass x.cur.now f.clr (mxInt (dFmtA d)) f.bank)
    (hother : f.dual = true → x.cur.mx.takesPass x.cur.now f.clr (mxInt (dFmtA d)) (!f.bank))
    (hbad : (x.cur.passRead (slotPass f d x.cur)).2.2 = false) :
    ∃ r b, exec (.mxStream c f) s = .next (s.putCur c x 0 { x.cur with
      reads := r
      banks := b
      mx := x.cur.mx.startPass x.cur.now (mxInt (dFmtA d)) (slotEntry f d x.cur.mx.actTag)
        (x.cur.passRead (slotPass f d x.cur)).2.1 }) := by
  obtain ⟨r, b, hread⟩ := CoreSt.passRead_eq x.cur (slotPass f d x.cur)
  have hlims : streamLimits x.cur.mx x.cur.now f.clr (mxInt (dFmtA d)) f.bank ++
      (if f.dual = true then streamLimits x.cur.mx x.cur.now f.clr (mxInt (dFmtA d)) (!f.bank) else []) = [] := by
    rw [streamLimits_nil hbank, List.nil_append]
    split
    · exact streamLimits_nil (hother ‹_›)
    · rfl
  have hpass : x.cur.passRead (slotPass f d x.cur) =
      ({ x.cur with reads := r, banks := b }, (x.cur.passRead (slotPass f d x.cur)).2.1, false) := by
    rw [← hread, ← hbad]
  refine ⟨r, b, congrArg Host.Outcome.next (State.slotOp_pass h (by simp [hrsv]) ?_)⟩
  subst hd
  extract_lets n m d sa sb ok plane compat isInt late lims causes p
  have hlate : late = false := not_early_pair (fun p l => p + l + 1) hlast
  have hcompat : compat = true := by
    by_cases h0 : dMode d = 0
    · simp [compat, h0]
    · have hc : compatible plane d sa = true := hplane h0
      simp [compat, hc]
  have hsign : (!f.dual && f.neg2) = false := by
    cases hn : f.neg2 with
    | false => simp
    | true => simp [hneg hn]
  have hcauses : causes = [] := by
    have hok' : ok = true := hok
    have hlims' : lims = [] := hlims
    simp [causes, hok', hcompat, hlate, hsign, hlims', d, sa, sb, htop]
  rw [hcauses, if_neg (by decide), show x.cur.passRead p = _ from hpass]
  rfl

end

/-- Settles O17: the pass passes every check, its reads leave the array, and `logged` says what it makes of the banks. -/
theorem streamIssues : Obligations.StreamIssues := by
  intro c f s x h n d ii hrsv hok htop hplane hlast hneg hbank hother hbad
  obtain ⟨r, b, hexec⟩ := exec_mxStream h rfl hrsv hok htop hplane hlast hneg hbank hother hbad
  let l := slotEntry f d x.cur.mx.actTag
  let m := x.cur.mx.startPass n ii l (x.cur.passRead (slotPass f d x.cur)).2.1
  have hown : m.bankOf f.bank = logPass (x.cur.mx.bankOf f.bank) f.clr ii l := Mxe.bankOf_logged x.cur.mx n ii l
  refine ⟨r, b, m, _, hexec, congrArg (· ++ _) (Mxe.logged_passes x.cur.mx n ii l), rfl, rfl, rfl, rfl, rfl, rfl, rfl,
    rfl, ?_, ?_, ?_, ?_, ⟨l, ?_, rfl, rfl, rfl, rfl, rfl, rfl, rfl, rfl, rfl, rfl⟩,
    fun hdual => ⟨{ l with other := true }, ?_, rfl, rfl, rfl, rfl, rfl, hdual, rfl, rfl, rfl, rfl⟩,
    fun hdual => Mxe.bankOf_logged_single x.cur.mx n ii l hdual, Mxe.logged_active x.cur.mx n ii l,
    Mxe.logged_shadow x.cur.mx n ii l, Mxe.logged_desc x.cur.mx n ii l⟩
  · rw [hown, logPass_isOpen]
  · rw [hown, logPass_kind]
  · rw [hown, logPass_accs]
  · rw [hown, logPass_length]
  · rw [hown, logPass_getLast]
  · exact (congrArg (fun b => b.log.getLast?) (Mxe.bankOf_logged_dual x.cur.mx n ii l hdual)).trans logPass_getLast

/-! ### MX.DRAIN -/

/-- One step that is accumulated changes the array only. -/
theorem CoreSt.accumulateDue_eq (x : CoreSt) : ∃ m, x.accumulateDue = { x with mx := m } := by
  unfold CoreSt.accumulateDue
  split
  · exact ⟨x.mx, rfl⟩
  · exact ⟨_, rfl⟩

/-- Changes of the array alone, one after another, change the array alone. -/
theorem CoreSt.foldl_mx {α : Type} {step : CoreSt → α → CoreSt} (h : ∀ x a, ∃ m, step x a = { x with mx := m })
    (as : List α) (x : CoreSt) : ∃ m, as.foldl step x = { x with mx := m } := by
  induction as generalizing x with
  | nil => exact ⟨x.mx, rfl⟩
  | cons a as ih =>
    obtain ⟨m, hm⟩ := h x a
    rw [List.foldl_cons, hm]
    exact ih { x with mx := m }

/-- The steps that are accumulated change the array only. -/
theorem CoreSt.accumulateAll_eq (x : CoreSt) : ∃ m, x.accumulateAll = { x with mx := m } :=
  CoreSt.foldl_mx (fun x _ => x.accumulateDue_eq) _ x

/-- A bank use does not look at the array. -/
theorem CoreSt.useBank_mx (x : CoreSt) (m : Mxe) (n b : Nat) (w : Bool) :
    ({ x with mx := m }.useBank n b w).1 = { (x.useBank n b w).1 with mx := m } := by
  unfold CoreSt.useBank
  dsimp only
  split <;> rfl

/-- A row read does not look at the array. -/
theorem CoreSt.readRow_mx (x : CoreSt) (m : Mxe) (bpc slot rank row : Nat) (dst : LoadDst) :
    ({ x with mx := m }.readRow bpc slot rank row dst).1 = { (x.readRow bpc slot rank row dst).1 with mx := m } := by
  let read : LspRead := ⟨x.now, rank, bpc, slot, row, (x.viewRow x.now row).1, (x.viewRow x.now row).2, dst⟩
  exact congrArg (fun y : CoreSt => { y with reads := y.reads ++ [read] }) (x.useBank_mx m x.now (bankOf row) false)

/-- Whether row reads conflict does not depend on the array. -/
theorem CoreSt.readRows_bad_mx (bpc slot : Nat) (rows : List Nat) (x : CoreSt) (m : Mxe) :
    ({ x with mx := m }.readRows bpc slot rows).2.2 = (x.readRows bpc slot rows).2.2 := by
  induction rows generalizing x with
  | nil => rfl
  | cons a rows ih =>
    have hrest := ih (x.readRow bpc slot 0 a .none).1
    rw [← CoreSt.readRow_mx] at hrest
    exact congrArg (_ || ·) hrest

/-- The reads of a drain change the reads in flight and the bank uses only. -/
theorem CoreSt.drainRead_eq (x : CoreSt) (dr : DrainSt) :
    ∃ r b, (x.drainRead dr).1 = { x with reads := r, banks := b } := by
  unfold CoreSt.drainRead
  extract_lets d
  split
  · exact CoreSt.readRows_eq _ _ _ x
  · split
    · exact CoreSt.readRows_eq _ _ _ x
    · exact ⟨x.reads, x.banks, rfl⟩

/-- The reads of a drain give it its scale or bias vector and nothing else. -/
theorem CoreSt.drainRead_drain (x : CoreSt) (dr : DrainSt) :
    ∃ a b, (x.drainRead dr).2.1 = { dr with scale := a, bias := b } := by
  unfold CoreSt.drainRead
  extract_lets d
  split
  · exact ⟨_, dr.bias, rfl⟩
  · split
    · exact ⟨dr.scale, _, rfl⟩
    · exact ⟨dr.scale, dr.bias, rfl⟩

/-- A drain that starts in this cycle or later reads its scale vector at most. -/
theorem CoreSt.drainRead_bad {x : CoreSt} {dr : DrainSt} (hs : x.now ≤ dr.start)
    (h : 2 ≤ fScale dr.desc → (x.readRows dr.bpc 0 (rowsFrom (fAddrScale dr.desc) 4)).2.2 = false) :
    (x.drainRead dr).2.2 = false := by
  unfold CoreSt.drainRead
  dsimp only
  split
  next hc =>
    simp only [Bool.and_eq_true, decide_eq_true_eq] at hc
    exact h hc.2
  · split
    next hc =>
      simp only [Bool.and_eq_true, decide_eq_true_eq] at hc
      exact absurd hc.1 (by omega)
    · rfl

/-- What the replay of a bank in cycle `n` gives that is drained: the bank, the cycles held, and whether it saturated; the
sum check sets the sticky bit first (R86, R109, R111). -/
def CoreSt.replayed (y : CoreSt) (n : Nat) (b : Bank) : Bank × Nat × Bool :=
  replayLoop (fun row => (y.viewRow n row).1) 6 { b with sticky := b.kind != some true && (b.sticky || b.sumOver) } 0

/-- The array when a drain has closed the tile of bank `k`, whose replay gave `q` and turned the replay plane
into its `plane` (R79, R80, R86, R111). -/
def Mxe.closeTile (m : Mxe) (k : Bool) (n : Nat) (q : Bank × Nat × Bool) (plane : Plane → Plane) (dr : DrainSt)
    (d : Row) : Mxe :=
  let m := m.setBank k { q.1 with isOpen := false, log := [] }
  let m := { m with
    replay := if q.2.1 = 0 then m.replay else plane m.replay
    drains := m.drains ++ [dr]
    lastDrain := some (n, fQ d) }
  if k then { m with drainB := some (n, fQ d) } else { m with drainA := some (n, fQ d) }

section

variable (m : Mxe) (k : Bool) (n : Nat) (q : Bank × Nat × Bool) (plane : Plane → Plane) (dr : DrainSt) (d : Row)

@[simp] theorem Mxe.closeTile_drains : (m.closeTile k n q plane dr d).drains = m.drains ++ [dr] := by
  cases k <;> rfl

@[simp] theorem Mxe.closeTile_replay : (m.closeTile k n q plane dr d).replay =
    if q.2.1 = 0 then m.replay else plane m.replay := by
  cases k <;> rfl

@[simp] theorem Mxe.bankOf_closeTile :
    (m.closeTile k n q plane dr d).bankOf k = { q.1 with isOpen := false, log := [] } := by
  cases k <;> rfl

@[simp] theorem Mxe.bankOf_not_closeTile : (m.closeTile k n q plane dr d).bankOf (!k) = m.bankOf (!k) := by
  cases k <;> rfl

end

/-- A drain as MX.DRAIN issues it in cycle `n`, its vectors not read yet: from a replayed tile it starts when the core
goes on (R79, R86). -/
def drainOf (n bpc : Nat) (d : Row) (q : Bank × Nat × Bool) : DrainSt :=
  { start := if q.2.1 = 0 then n else n + 1, bpc := bpc, desc := d, next := 0, scale := 0, bias := 0,
    accs := q.1.accs, eLsb := q.1.eLsb, bsoEntries := 0 }

section

variable {c : CoreId} {f : MxSlot} {s : State} {x : Core} {d : Row}

theorem exec_mxDrain (h : s.issues c x 0 (mxSlotWord 5 f)) (hd : mget zR x.beg.mx.desc f.desc.toNat = d)
    (henc : (!f.clr && !f.neg && !f.dual && !f.neg2 && f.sa == 0 && f.sb == 0 && f.rsv == 0) = true)
    (hok : fusionOk d = true) (htop : drainTop d ≤ 4095) (hopen : (x.cur.mx.bankOf f.bank).isOpen = true)
    (hstream : ∀ p l, (if f.bank then x.cur.mx.streamB else x.cur.mx.streamA) = some (p, l) → p + l + 10 ≤ x.cur.now)
    (hlast : ∀ p l, x.cur.mx.lastDrain = some (p, l) → p + 32 * l ≤ x.cur.now) {y : CoreSt}
    (hy : x.cur.accumulateAll = y) {q : Bank × Nat × Bool} (hq : y.replayed x.cur.now (y.mx.bankOf f.bank) = q)
    (hbad : (y.drainRead (drainOf x.cur.now y.bpc d q)).2.2 = false)
    (hpoison : q.2.1 ≠ 0 → ∀ l ∈ (y.mx.bankOf f.bank).log, ∀ row ∈ l.rows, (y.viewRow x.cur.now row).2 = false) :
    ∃ r b, exec (.mxDrain c f) s = .next (s.putCur c x 0 { y with
      reads := r
      banks := b
      mx := y.mx.closeTile f.bank x.cur.now q
        (replayPlane (fun row => (y.viewRow x.cur.now row).1) (y.mx.bankOf f.bank).log)
        (y.drainRead (drainOf x.cur.now y.bpc d q)).2.1 d
      ovf := y.ovf || q.2.2
      freeze := if q.2.1 = 0 then y.freeze else .replay q.2.1 }) := by
  obtain ⟨r, b, hread⟩ := CoreSt.drainRead_eq y (drainOf x.cur.now y.bpc d q)
  refine ⟨r, b, congrArg Host.Outcome.next (State.slotOp_pass h henc ?_)⟩
  subst hd hy
  extract_lets n d ok str late causes cur bk bk' rd
  have hlate : late = false := by
    have hstr := not_early_pair (fun p l => p + l + 10) hstream
    have hdr := not_early_pair (fun p l => p + 32 * l) hlast
    exact Bool.or_eq_false_iff.mpr ⟨Bool.or_eq_false_iff.mpr ⟨hstr, hdr⟩, congrArg (!·) hopen⟩
  have hcauses : causes = [] := by
    have hok' : ok = true := hok
    simp [causes, hok', hlate, d, htop]
  obtain ⟨tile, held, sat⟩ := q
  rw [hcauses, if_neg (by decide), show replayLoop rd 6 bk' 0 = _ from hq]
  dsimp -zeta only
  extract_lets poison dr m m1 m2 m3
  have hclean : poison = false := by
    by_cases h0 : held = 0
    · simp [poison, h0]
    · have hlog : (bk'.log.any fun l => l.rows.any fun row => (cur.viewRow n row).2) = false := by
        simpa only [List.any_eq_false, Bool.not_eq_true] using hpoison h0
      simp [poison, hlog]
  rw [hclean, show (cur.drainRead dr).2.2 = false from hbad, if_neg (by decide)]
  trans ([], { (cur.drainRead dr).1 with
      mx := (cur.drainRead dr).1.mx.closeTile f.bank n (tile, held, sat)
        (replayPlane rd bk'.log) (cur.drainRead dr).2.1 d
      ovf := (cur.drainRead dr).1.ovf || sat
      freeze := if held = 0 then (cur.drainRead dr).1.freeze else .replay held })
  · cases held <;> rfl
  · rw [show (cur.drainRead dr).1 = _ from hread]
    rfl

/-- A drain that has just issued meets no conflict but one of its scale vector, after the steps of the tile as before them
(R80, R119). -/
theorem drainRead_drainOf_bad {y : CoreSt} (hy : x.cur.accumulateAll = y) {q : Bank × Nat × Bool}
    (hscale : 2 ≤ fScale d → (x.cur.readRows x.cur.bpc 0 (rowsFrom (fAddrScale d) 4)).2.2 = false) :
    (y.drainRead (drainOf x.cur.now y.bpc d q)).2.2 = false := by
  obtain ⟨m, hm⟩ := x.cur.accumulateAll_eq
  rw [← hy, hm]
  apply CoreSt.drainRead_bad
  · show x.cur.now ≤ if q.2.1 = 0 then x.cur.now else x.cur.now + 1
    split <;> omega
  · dsimp only [drainOf]
    rw [CoreSt.readRows_bad_mx]
    exact hscale

end

/-- Settles O18: the steps of the tile and the replay change the array alone, so the drain meets no conflict that its core
did not meet before, and it takes the accumulators that the replay leaves. -/
theorem drainIssues : Obligations.DrainIssues := by
  intro c f s x h n d y b ovr q hclr hneg hdual hneg2 hsa hsb hrsv hok htop hopen hstream hlast hscale hpoison
  have hq : y.replayed n b = q := by
    unfold CoreSt.replayed
    rfl
  have hkept : ovr = false → q = ({ b with sticky := false }, 0, false) := by
    intro hovr
    simp only [q, hovr]
    rfl
  have hd : mget zR x.beg.mx.desc f.desc.toNat = d := rfl
  have hy : x.cur.accumulateAll = y := rfl
  clear_value q y d
  have henc : (!f.clr && !f.neg && !f.dual && !f.neg2 && f.sa == 0 && f.sb == 0 && f.rsv == 0) = true := by
    simp [hclr, hneg, hdual, hneg2, hsa, hsb, hrsv]
  obtain ⟨r, bs, hexec⟩ := exec_mxDrain h hd henc hok htop hopen hstream hlast hy hq
    (drainRead_drainOf_bad hy hscale) hpoison
  obtain ⟨m, hm⟩ := x.cur.accumulateAll_eq
  obtain ⟨scale, bias, hdr⟩ := CoreSt.drainRead_drain y (drainOf n y.bpc d q)
  rw [hdr] at hexec
  rw [hy] at hm
  subst hm
  refine ⟨_, _, hexec, Mxe.closeTile_drains .., rfl, rfl, ?_, rfl, rfl, congrArg Bank.isOpen (Mxe.bankOf_closeTile ..),
    congrArg Bank.log (Mxe.bankOf_closeTile ..), Mxe.bankOf_not_closeTile .., rfl, rfl, Mxe.closeTile_replay .., hkept, rfl,
    rfl, rfl, rfl⟩
  show (if q.2.1 = 0 then n else n + 1) = n + if q.2.1 = 0 then 0 else 1
  split <;> rfl

end Sys2Proof.Machine
end

section
/-! PROOFS. What is due in the array takes effect (R61, R63, R76 to R79, R86, R87, R101, R103, R107). -/

namespace Sys2Proof.Machine

open Sys2Proof

/-- The operations of a core that goes advance. -/
theorem CoreSt.active_of_goes {y : CoreSt} (h : y.goes) : y.active = true := by
  obtain ⟨hphase, hstarted, hfree⟩ := h
  rcases hphase with hp | hp <;> simp [CoreSt.active, hp, hstarted, hfree]

/-- A change of the present state of a core is what the change makes of that state. -/
theorem State.modCur_congr {s : State} {c : CoreId} {f g : CoreSt → CoreSt} (h : f (s.cur c) = g (s.cur c)) :
    s.modCur c f = s.modCur c g :=
  congrArg (fun y => s.setCore c { s.core c with cur := y }) h

/-- What a core that goes makes of its present state. -/
theorem State.modCur_of_goes {s : State} {c : CoreId} (hgo : (s.cur c).goes) {f g : CoreSt → CoreSt}
    (h : f (s.cur c) = g (s.cur c)) :
    (.next (if (s.cur c).active then s.modCur c f else s) : Host.Outcome State Fault Refusal) = .next (s.modCur c g) := by
  rw [if_pos (CoreSt.active_of_goes hgo), State.modCur_congr h]

/-! ### Writes of a list of keys -/

section

variable {α : Type} [DecidableEq α] {d : Nat → α}

/-- Reads of the keys in a list that is written from a function of the key, and of the others. -/
theorem mget_foldl_mset (v : Nat → α) (keys : List Nat) {m : SMap α} (h : mwf d m = true) (i : Nat) :
    mget d (keys.foldl (fun m k => mset d m k (v k)) m) i = if i ∈ keys then v i else mget d m i := by
  induction keys generalizing m with
  | nil => rfl
  | cons k keys ih =>
    rw [List.foldl_cons, ih (mset_wf k (v k) h)]
    by_cases hk : i = k
    · subst hk
      simp [mget_mset_same h]
    · simp [hk, mget_mset_other h hk]

end

/-- The cells that a load writes in a cycle: `per` of them from `per` times the cycles since its first row on (R77). -/
theorem MxLoadSt.mem_cellsNow {l : MxLoadSt} {now i : Nat} :
    let per := if l.cycles = 32 then 32 else 64
    i ∈ l.cellsNow now ↔ l.issued + 6 ≤ now ∧ now < l.issued + 6 + l.cycles ∧
      per * (now - l.issued - 6) ≤ i ∧ i < per * (now - l.issued - 6) + per := by
  intro per
  change i ∈ (if _ then (List.range per).map (per * (now - l.issued - 6) + ·) else []) ↔ _
  clear_value per
  split
  next hc =>
    simp only [Bool.and_eq_true, decide_eq_true_eq] at hc
    obtain ⟨hfrom, hto⟩ := hc
    rw [List.mem_map]
    constructor
    · rintro ⟨k, hk, rfl⟩
      have hk := List.mem_range.mp hk
      exact ⟨hfrom, by omega, by omega, by omega⟩
    · rintro ⟨-, -, hlo, hhi⟩
      exact ⟨i - per * (now - l.issued - 6), List.mem_range.mpr (by omega), by omega⟩
  next hc =>
    simp only [Bool.and_eq_true, decide_eq_true_eq] at hc
    simp only [List.not_mem_nil, false_iff]
    omega

section

variable {x : CoreSt} {l : MxLoadSt}

/-- The one load in flight writes the cells of the present cycle (R77). -/
theorem CoreSt.mget_shadowRows (hl : x.mx.loads = [l]) (hw : mwf (fun _ => (0 : BitVec 16)) x.mx.shadow.cells = true)
    (i : Nat) : mget (fun _ => 0) x.shadowRows.mx.shadow.cells i =
      if i ∈ l.cellsNow x.now then mget (fun _ => 0) l.plane.cells i else mget (fun _ => 0) x.mx.shadow.cells i := by
  unfold CoreSt.shadowRows
  dsimp only
  rw [hl]
  exact mget_foldl_mset (fun k => mget (fun _ => 0) l.plane.cells k) (l.cellsNow x.now) hw i

end

/-! ### Writes of a drain -/

theorem mem_insertWrite {v w : LspWrite} {ws : List LspWrite} : v ∈ insertWrite w ws ↔ v = w ∨ v ∈ ws := by
  induction ws with
  | nil => simp [insertWrite]
  | cons a ws ih =>
    unfold insertWrite
    split
    · simp
    · simp [ih, or_left_comm]

/-- Rows put into the pipeline change the writes only, by one full write of the cycle each. -/
theorem CoreSt.foldl_pushWrite (rows : List (Nat × Row)) (x : CoreSt) :
    ∃ w, rows.foldl CoreSt.pushWrite x = { x with writes := w } ∧
      ∀ v, v ∈ w ↔ v ∈ x.writes ∨ ∃ rd ∈ rows, v = ⟨x.now, rd.1, true, rd.2, 0, false⟩ := by
  induction rows generalizing x with
  | nil => exact ⟨x.writes, rfl, by simp⟩
  | cons a rows ih =>
    obtain ⟨w, hfold, hmem⟩ := ih (x.pushWrite a)
    refine ⟨w, hfold, fun v => ?_⟩
    rw [hmem]
    have hpush : v ∈ (x.pushWrite a).writes ↔ v = ⟨x.now, a.1, true, a.2, 0, false⟩ ∨ v ∈ x.writes :=
      mem_insertWrite
    rw [hpush, show (x.pushWrite a).now = x.now from rfl, or_comm (b := v ∈ x.writes), or_assoc]
    simp only [List.mem_cons, exists_eq_or_imp]

/-! ### Loads, swaps and drains that are due -/

section

variable {x : CoreSt}

theorem CoreSt.shadowDue_cons {l : MxLoadSt} {rest : List MxLoadSt} (hl : x.mx.loads = l :: rest)
    (hdue : l.issued + l.cycles + 5 ≤ x.now) : x.shadowDue =
      { x with mx := { x.mx with shadow := l.plane, loads := (l :: rest).filter (· != l) } } := by
  unfold CoreSt.shadowDue
  rw [hl, List.find?_cons_of_pos (by simpa using hdue)]

theorem CoreSt.swapDue_cons {n : Nat} {rest : List Nat} (hs : x.mx.swaps = n :: rest) (hdue : n + 7 ≤ x.now) :
    x.swapDue = { x with mx := { x.mx with active := x.mx.shadow, shadow := x.mx.active, swaps := rest } } := by
  unfold CoreSt.swapDue
  rw [hs, List.find?_cons_of_pos (by simpa using hdue)]
  dsimp only
  rw [List.erase_cons_head]

theorem CoreSt.drainDue_cons {dr : DrainSt} {rest : List DrainSt} (hd : x.mx.drains = dr :: rest)
    (hdue : dr.start + 12 + dr.next ≤ x.now) (seed : Nat) :
    ∃ w, x.drainDue seed = { x with
        writes := w
        ovf := x.ovf || (drainUnit dr x.act seed).2.2
        mx := { x.mx with
          drains := ((dr :: rest).map fun z => if z == dr then (drainUnit dr x.act seed).2.1 else z).filter fun z =>
            decide (z.next < 32 * fQ z.desc) } } ∧
      ∀ v, v ∈ w ↔
        v ∈ x.writes ∨ ∃ rd ∈ (drainUnit dr x.act seed).1, v = ⟨x.now, rd.1, true, rd.2, 0, false⟩ := by
  obtain ⟨w, hfold, hmem⟩ := CoreSt.foldl_pushWrite (drainUnit dr x.act seed).1 x
  refine ⟨w, ?_, hmem⟩
  unfold CoreSt.drainDue
  rw [hd, List.find?_cons_of_pos (by simpa using hdue)]
  dsimp -zeta only
  rw [hfold, ← hd]
  rfl

end

/-! ### Steps that are due -/

/-- What becomes of the banks of a pass under `g`, which a bank's number, its sign and the bank give: its own bank, and the
other one of a DUAL pass (R72). -/
def Mxe.intoBanks (m : Mxe) (p : PassSt) (g : Bool → Bool → Bank → Bank) : Mxe :=
  let m := m.setBank p.bank (g p.bank p.neg (m.bankOf p.bank))
  if p.dual then m.setBank (!p.bank) (g (!p.bank) p.neg2 (m.bankOf (!p.bank))) else m

section

variable {m : Mxe} {p : PassSt} {g : Bool → Bool → Bank → Bank}

@[simp] theorem Mxe.intoBanks_active : (m.intoBanks p g).active = m.active := by
  unfold Mxe.intoBanks; split <;> simp
@[simp] theorem Mxe.intoBanks_shadow : (m.intoBanks p g).shadow = m.shadow := by
  unfold Mxe.intoBanks; split <;> simp
@[simp] theorem Mxe.intoBanks_drains : (m.intoBanks p g).drains = m.drains := by
  unfold Mxe.intoBanks; split <;> simp

theorem Mxe.bankOf_intoBanks_single (h : p.dual = false) : (m.intoBanks p g).bankOf (!p.bank) = m.bankOf (!p.bank) := by
  simp [Mxe.intoBanks, h]

theorem Mxe.bankOf_intoBanks {k neg : Bool}
    (h : (k = p.bank ∧ neg = p.neg) ∨ (p.dual = true ∧ k = !p.bank ∧ neg = p.neg2)) :
    (m.intoBanks p g).bankOf k = g k neg (m.bankOf k) := by
  unfold Mxe.intoBanks
  rcases h with ⟨rfl, rfl⟩ | ⟨hd, rfl, rfl⟩
  · split <;> simp
  · simp [hd]

end

section

variable {x : CoreSt} {p : PassSt} {st : StepSt}

/-- The step on the plane on which it multiplies (R78). -/
def StepSt.onPlane (st : StepSt) (m : Mxe) : StepSt := { st with plane := some (st.plane.getD (m.planeFor st.read)) }

/-- The pass exponent of a pass as a step of it is added (R105). -/
def CoreSt.stepReq (x : CoreSt) (p : PassSt) (st : StepSt) : Option Int :=
  x.reqNow p (st.onPlane x.mx) fun row => (x.viewRow x.now row).1

/-- A bank as it was, with the log and the tile state of what it is now. -/
def Bank.underLog (b now : Bank) : Bank := { b with log := now.log, isOpen := now.isOpen, kind := now.kind }

/-- The first step of a pass meets its banks as they are with the pass exponent, and adds its products (R101, R107). -/
theorem CoreSt.accumulate_first (ht : st.t = 0) : x.accumulate p st =
    (x.mx.intoBanks p fun k neg b =>
      (((x.mx.bankOf k).underLog b).enter p.clr (x.stepReq p st)).addStep p neg (st.onPlane x.mx),
     { p with pre0 := x.mx.bank0, pre1 := x.mx.bank1, done := [st.onPlane x.mx], req := x.stepReq p st }) := by
  unfold CoreSt.accumulate
  extract_lets m st' req p1 same into m1 m2
  have hp1 : p1 = { p with pre0 := m.bank0, pre1 := m.bank1, done := [] } := if_pos ht
  have hsame : same = false := by
    have ht' : st'.t = 0 := ht
    simp [same, ht']
  clear_value same
  clear_value p1
  subst hp1 hsame
  rfl

/-- A later step adds its products; where the pass exponent is another one by now, its pass is added anew from the banks
before it (R103, R105). -/
theorem CoreSt.accumulate_later (ht : st.t ≠ 0) : x.accumulate p st =
    (x.mx.intoBanks p fun k neg b =>
      if (x.stepReq p st == p.req) = true then b.addStep p neg (st.onPlane x.mx)
      else (p.done ++ [st.onPlane x.mx]).foldl (fun b y => b.addStep p neg y)
        ((Bank.underLog (if k then p.pre1 else p.pre0) b).enter p.clr (x.stepReq p st)),
     { p with done := p.done ++ [st.onPlane x.mx], req := x.stepReq p st }) := by
  unfold CoreSt.accumulate
  extract_lets m st' req p1 same into m1 m2
  have hp1 : p1 = p := if_neg ht
  have hsame : same = (x.stepReq p st == p.req) := by
    have ht' : decide (st'.t ≠ 0) = true := decide_eq_true ht
    simp only [same, ht', hp1, Bool.true_and]
    rfl
  clear_value same
  clear_value p1
  subst hp1 hsame
  rfl

/-- What an accumulated step makes of the banks and of its pass (R72, R101, R103, R107). -/
theorem CoreSt.accumulate_spec : ∃ g q, x.accumulate p st = (x.mx.intoBanks p g, q) ∧
    q.steps = p.steps ∧ q.issued = p.issued ∧ q.next = p.next ∧ q.desc = p.desc ∧ q.req = x.stepReq p st ∧
    (st.t = 0 → ∀ k neg, g k neg (x.mx.bankOf k) =
      ((x.mx.bankOf k).enter p.clr (x.stepReq p st)).addStep p neg (st.onPlane x.mx)) ∧
    (st.t ≠ 0 → x.stepReq p st = p.req → ∀ k neg, g k neg (x.mx.bankOf k) =
      (x.mx.bankOf k).addStep p neg (st.onPlane x.mx)) := by
  by_cases ht : st.t = 0
  · exact ⟨_, _, CoreSt.accumulate_first ht, rfl, rfl, rfl, rfl, rfl, fun _ _ _ => rfl, fun h => absurd ht h⟩
  · exact ⟨_, _, CoreSt.accumulate_later ht, rfl, rfl, rfl, rfl, rfl, fun h => absurd h ht,
      fun _ hreq _ _ => if_pos (beq_iff_eq.mpr hreq)⟩

end

theorem dueStep_cons {now : Nat} {p : PassSt} {ps : List PassSt} {st : StepSt} {rest : List StepSt}
    (hp : p.steps = st :: rest) (hdue : st.read + 10 ≤ now) :
    dueStep now (p :: ps) = some ([], { p with steps := rest }, st, ps) := by
  unfold dueStep
  rw [hp]
  exact if_pos hdue

theorem CoreSt.accumulateDue_cons {x : CoreSt} {p : PassSt} {ps : List PassSt} {st : StepSt} {rest : List StepSt}
    (hx : x.mx.passes = p :: ps) (hp : p.steps = st :: rest) (hdue : st.read + 10 ≤ x.now) {m : Mxe} {q : PassSt}
    (hacc : x.accumulate { p with steps := rest } st = (m, q)) : x.accumulateDue =
      { x with mx := { m with passes := (if dLen q.desc < q.next ∧ q.steps = [] then [] else [q]) ++ ps } } := by
  unfold CoreSt.accumulateDue
  rw [hx, dueStep_cons hp hdue]
  dsimp -zeta only
  rw [hacc]
  by_cases hend : dLen q.desc < q.next ∧ q.steps = []
  · rw [if_pos hend, if_pos (by simpa using hend)]
    rfl
  · rw [if_neg hend, if_neg (by simpa using hend)]
    rfl

/-! ### The events -/

section

variable {c : CoreId} {s : State}

/-- The first step that is due is accumulated (R61, R72, R76, R101, R103, R107). -/
theorem exec_passStepAccumulate (hgo : (s.cur c).goes) {p : PassSt} {ps : List PassSt} {st : StepSt} {rest : List StepSt}
    (hx : (s.cur c).mx.passes = p :: ps) (hp : p.steps = st :: rest) (hdue : st.read + 10 ≤ (s.cur c).now) :
    ∃ g q, exec (.passStepAccumulate c) s = .next (s.modCur c fun y => { y with
        mx := { (s.cur c).mx.intoBanks p g with
          passes := (if dLen p.desc < p.next ∧ rest = [] then [] else [q]) ++ ps } }) ∧
      q.steps = rest ∧ q.issued = p.issued ∧ q.req = (s.cur c).stepReq { p with steps := rest } st ∧
      (st.t = 0 → ∀ k neg, g k neg ((s.cur c).mx.bankOf k) =
        (((s.cur c).mx.bankOf k).enter p.clr ((s.cur c).stepReq { p with steps := rest } st)).addStep p neg
          (st.onPlane (s.cur c).mx)) ∧
      (st.t ≠ 0 → (s.cur c).stepReq { p with steps := rest } st = p.req → ∀ k neg, g k neg ((s.cur c).mx.bankOf k) =
        ((s.cur c).mx.bankOf k).addStep p neg (st.onPlane (s.cur c).mx)) := by
  obtain ⟨g, q, hacc, hsteps, hissued, hnext, hdesc, hreq, hfirst, hlater⟩ :=
    CoreSt.accumulate_spec (x := s.cur c) (p := { p with steps := rest }) (st := st)
  refine ⟨g, q, State.modCur_of_goes hgo ?_, hsteps, hissued, hreq, hfirst, hlater⟩
  rw [CoreSt.accumulateDue_cons hx hp hdue hacc, hsteps, hnext, hdesc]
  rfl

/-- The held cycles of a replay end and are counted (R86, R87). -/
theorem exec_replayHoldEnd {h : Nat} (hf : (s.cur c).freeze = .replay h) (hc : (s.cur c).causes = [])
    (hclk : s.cclk (c / 16) = true) : exec (.replayHoldEnd c) s = .next
      ((s.modBoth c fun y => { y with freeze := .none, holdCyc := y.holdCyc + BitVec.ofNat 64 h }).odAdd
        odHoldCycTotal h) := by
  show execReplayHoldEnd c s = _
  unfold execReplayHoldEnd
  rw [hf]
  dsimp only
  rw [if_neg (by simp [hc, coreSiteOf, hclk])]

end

/-- Settles O19: what is due comes first in its list, so each event takes that one, and a step goes into the banks that its
pass names. -/
theorem arrayEventsTakeEffect : Obligations.ArrayEventsTakeEffect := by
  intro c s x
  refine ⟨fun hgo l rest hl hdue => ?_, fun l i hl hw => ?_, fun hgo n rest hs hdue => ?_,
    fun hgo p ps hx st rest hp hdue => ?_, fun hgo dr rest hd hdue => ?_,
    fun h hf hc hclk => exec_replayHoldEnd hf hc hclk⟩
  · exact State.modCur_of_goes hgo (CoreSt.shadowDue_cons hl hdue)
  · rw [CoreSt.mget_shadowRows hl hw]
    intro per
    refine ⟨fun h1 h2 h3 h4 => if_pos (MxLoadSt.mem_cellsNow.mpr ⟨h1, h2, h3, h4⟩), fun h => if_neg fun hi => ?_⟩
    obtain ⟨h1, h2, (h3 : per * _ ≤ i), (h4 : i < per * _ + per)⟩ := MxLoadSt.mem_cellsNow.mp hi
    omega
  · exact State.modCur_of_goes hgo (CoreSt.swapDue_cons hs hdue)
  · obtain ⟨g, q, hexec, hsteps, hissued, hreq, hfirst, hlater⟩ := exec_passStepAccumulate hgo hx hp hdue
    exact ⟨_, q, hexec, rfl, hsteps, hissued, hreq, Mxe.intoBanks_active, Mxe.intoBanks_shadow, Mxe.intoBanks_drains,
      fun hd => Mxe.bankOf_intoBanks_single hd, fun k neg hk =>
        ⟨fun ht => (Mxe.bankOf_intoBanks hk).trans (hfirst ht k neg),
          fun ht hr => (Mxe.bankOf_intoBanks hk).trans (hlater ht hr k neg)⟩⟩
  · obtain ⟨w, hdrain, hmem⟩ := CoreSt.drainDue_cons hd hdue (s.seedOf c)
    exact ⟨w, State.modCur_of_goes hgo hdrain, hmem⟩

end Sys2Proof.Machine
end

section
/-! PROOFS. What the products of a step add to the accumulators of a bank (R101, R103). -/

namespace Sys2Proof.Machine

open Sys2Proof

/-! ### One product -/

/-- An aligned product is floor(p / 2^E_lsb), kept within a magnitude of 2^63 (R103). -/
theorem alignProd_eq (neg : Bool) (m : Nat) (e eLsb : Int) :
    alignProd neg m e eLsb = max (-(2 ^ 63)) (min (2 ^ 63) (shiftI (if neg then -(m : Int) else m) (e - eLsb))) := by
  unfold alignProd
  extract_lets x
  change _ = max (-(2 ^ 63)) (min (2 ^ 63) x)
  clear_value x
  split
  · omega
  · split <;> omega

/-- What a finite product adds, in units of 2^E_lsb and with the sign that its step gives it. -/
def addend (neg : Bool) (eLsb : Int) (v : Bool × Nat × Int) : Int := alignProd (v.1 != neg) v.2.1 v.2.2 eLsb

/-- Finite products under the sign of their step. -/
theorem signed_map_fin (neg : Bool) (vs : List (Bool × Nat × Int)) :
    (if neg then (vs.map fun v => FV.fin v.1 v.2.1 v.2.2).map FV.neg else vs.map fun v => FV.fin v.1 v.2.1 v.2.2) =
      vs.map fun v => FV.fin (v.1 != neg) v.2.1 v.2.2 := by
  cases neg
  · simp
  · simp [FV.neg, Function.comp_def]

/-! ### The products of one accumulator -/

/-- The accumulator after the products does not depend on the cause that they raise. -/
theorem Acc.addProds_fst (a : Acc) (eLsb : Int) (ps : List FV) :
    (a.addProds eLsb ps).1 = ps.foldl (fun a p => (a.addProd eLsb p).1) a :=
  (List.foldl_hom Prod.fst fun _ _ => rfl).symm

/-- Finite products add their sum modulo 2^88 and leave the special state (R101, R103). -/
theorem Acc.addProds_fin (neg : Bool) (eLsb : Int) (vs : List (Bool × Nat × Int)) (a : Acc) :
    (a.addProds eLsb (vs.map fun v => FV.fin (v.1 != neg) v.2.1 v.2.2)).1 =
      { a with val := a.val + BitVec.ofInt 88 (vs.map (addend neg eLsb)).sum } := by
  rw [Acc.addProds_fst]
  induction vs generalizing a with
  | nil => simp
  | cons v vs ih =>
    rw [List.map_cons, List.foldl_cons, ih, List.map_cons, List.sum_cons, BitVec.ofInt_add, ← BitVec.add_assoc]
    rfl

/-! ### The accumulators of a bank -/

section

variable {b : Bank} {neg : Bool} {ps : List (Nat × List FV)}

theorem Bank.addAll_cons (ip : Nat × List FV) :
    b.addAll neg (ip :: ps) = (b.addAll neg [ip]).addAll neg ps := rfl

theorem Bank.accs_addAll_single (ip : Nat × List FV) : (b.addAll neg [ip]).accs =
    mset zA b.accs ip.1 ((mget zA b.accs ip.1).addProds b.eLsb (if neg then ip.2.map FV.neg else ip.2)).1 := rfl

/-- Products leave what a bank holds beside its accumulators and its sticky bit. -/
theorem Bank.addAll_eq : b.addAll neg ps = { b with accs := (b.addAll neg ps).accs, sticky := (b.addAll neg ps).sticky } := by
  induction ps generalizing b with
  | nil => rfl
  | cons ip ps ih =>
    rw [Bank.addAll_cons, ih]
    rfl

/-- An accumulator that the products do not name keeps its value (R103). -/
theorem Bank.mget_addAll_of_notMem (hw : mwf zA b.accs = true) {k : Nat} (hk : k ∉ ps.map (·.1)) :
    mget zA (b.addAll neg ps).accs k = mget zA b.accs k := by
  induction ps generalizing b with
  | nil => rfl
  | cons ip ps ih =>
    rw [List.map_cons, List.mem_cons, not_or] at hk
    obtain ⟨hne, hrest⟩ := hk
    rw [Bank.addAll_cons, ih (mset_wf _ _ hw) hrest, Bank.accs_addAll_single, mget_mset_other hw hne]

/-- An accumulator that one list of products names gets them (R103). -/
theorem Bank.mget_addAll_of_mem (hw : mwf zA b.accs = true) (hn : (ps.map (·.1)).Nodup) {ip : Nat × List FV}
    (hip : ip ∈ ps) : mget zA (b.addAll neg ps).accs ip.1 =
      ((mget zA b.accs ip.1).addProds b.eLsb (if neg then ip.2.map FV.neg else ip.2)).1 := by
  induction ps generalizing b with
  | nil => cases hip
  | cons q ps ih =>
    obtain ⟨hq, hn⟩ := List.nodup_cons.mp hn
    have hw' : mwf zA (b.addAll neg [q]).accs = true := mset_wf _ _ hw
    rw [Bank.addAll_cons]
    rcases List.mem_cons.mp hip with rfl | hip
    · rw [Bank.mget_addAll_of_notMem hw' hq, Bank.accs_addAll_single, mget_mset_same hw]
    · have hne : ip.1 ≠ q.1 := fun h => hq (List.mem_map.mpr ⟨ip, hip, h⟩)
      rw [ih hw' hn hip, Bank.accs_addAll_single, mget_mset_other hw hne]
      rfl

end

/-- Settles O20: each accumulator that the step names gets its own list of products and no other, whose aligned values add
up. -/
theorem accumulatorsAddExactProducts : Obligations.AccumulatorsAddExactProducts := by
  intro b neg ps hw hn b' aligned
  have haligned : addend neg b.eLsb = aligned := by
    funext v
    simp only [addend, alignProd_eq, shiftI, Nat.cast_pow, Nat.cast_ofNat]
    rfl
  have hkeys : (ps.map fun p => (p.1, p.2.map fun v => FV.fin v.1 v.2.1 v.2.2)).map (·.1) = ps.map (·.1) := by
    simp [Function.comp_def]
  have hrest : b' = { b with accs := b'.accs, sticky := b'.sticky } := Bank.addAll_eq
  refine ⟨fun p hp hfin => ?_, fun k hk => Bank.mget_addAll_of_notMem hw (hkeys ▸ hk), ?_⟩
  · have hacc : mget zA b'.accs p.1 =
        { mget zA b.accs p.1 with val := (mget zA b.accs p.1).val + BitVec.ofInt 88 (p.2.map aligned).sum } := by
      rw [← haligned, ← Acc.addProds_fin, ← signed_map_fin]
      exact Bank.mget_addAll_of_mem hw (hkeys ▸ hn) (List.mem_map_of_mem hp)
    rw [hacc]
    exact ⟨hfin, rfl⟩
  · rw [hrest]
    exact ⟨rfl, rfl, rfl⟩

end Sys2Proof.Machine
end

section
/-! PROOFS. What the end of a core cycle leaves of the core's course: its engines and what leaves it change neither its place
in the program nor the bundle that it works on (R159, R160, R164, R171). -/

namespace Sys2Proof.Machine

open Sys2Proof

/-- Where a core stands in its program: its phase and cycle, the bundle it works on and the one it goes on to, its branch
and loops under way, and the program itself. -/
structure Course where
  phase : CorePhase
  cyc : W64
  pc : Nat
  bpc : Nat
  bundle : Row
  branch : Option (Nat × Nat)
  loops : List LoopSt
  imem : SMap Row

/-- The course of a core. -/
def CoreSt.course (y : CoreSt) : Course := ⟨y.phase, y.cyc, y.pc, y.bpc, y.bundle, y.branch, y.loops, y.imem⟩

/-! ### The engines -/

section

variable (y : CoreSt)

theorem CoreSt.mergeM_course (r : Nat) (d lanes : W64) : (y.mergeM r d lanes).course = y.course := by
  unfold CoreSt.mergeM
  split <;> rfl

theorem CoreSt.loadS_course (r : Nat) (v : W32) : (y.loadS r v).course = y.course := by
  unfold CoreSt.loadS
  split <;> rfl

theorem CoreSt.vxWrite_course (p : VxPend) : (y.vxWrite p).course = y.course := by
  have hraise (z : CoreSt) : (z.raise p.flags).course = z.course := rfl
  unfold CoreSt.vxWrite
  extract_lets z u
  have hz : z.course = y.course := by
    unfold z
    split <;> rfl
  have hu : u.course = z.course := by
    unfold u
    split
    · exact CoreSt.mergeM_course _ _ _ _
    · rfl
  rw [hraise, hu, hz]

theorem CoreSt.loadWrite_course (r : LspRead) : (y.loadWrite r).course = y.course := by
  unfold CoreSt.loadWrite
  split
  · rfl
  · exact CoreSt.loadS_course _ _ _
  · exact CoreSt.mergeM_course _ _ _ _
  · rfl

theorem CoreSt.regStep_course : y.regStep.course = y.course := by
  unfold CoreSt.regStep
  split
  · rfl
  · dsimp only
    rw [foldl_keeps CoreSt.course CoreSt.loadWrite_course, foldl_keeps CoreSt.course CoreSt.vxWrite_course]
    rfl

theorem CoreSt.regSettle_course : y.regSettle.course = y.course :=
  foldl_keeps CoreSt.course (fun z _ => z.regStep_course) _ y

theorem CoreSt.runOp_course (op lw : Nat) (f : VxSlot) (valid : Nat) : (y.runOp op lw f valid).course = y.course := by
  unfold CoreSt.runOp
  split
  · rfl
  · exact CoreSt.vxWrite_course _ _

theorem CoreSt.runIterate_course (r : RunSt) : (y.runIterate r).course = y.course := by
  have hrun (z : CoreSt) (q : Option RunSt) : ({ z with run := q } : CoreSt).course = z.course := rfl
  unfold CoreSt.runIterate
  dsimp only
  rw [hrun, foldl_keeps CoreSt.course (fun z k => CoreSt.runOp_course z _ _ _ _)]
  refine foldl_keeps (fun acc : CoreSt × List Row => acc.1.course) (fun acc x => ?_) (runIns r.desc) (y, r.inRows)
  rfl

theorem CoreSt.iterStep_course : y.iterStep.course = y.course := by
  unfold CoreSt.iterStep
  split
  · split
    · exact CoreSt.runIterate_course _ _
    · rfl
  · rfl

theorem CoreSt.runEnd_course : y.runEnd.course = y.course := by
  unfold CoreSt.runEnd
  split
  · rfl
  · split <;> rfl

theorem CoreSt.runCheck_course : y.runCheck.1.course = y.course := by
  unfold CoreSt.runCheck
  split
  · rfl
  · split
    · rfl
    split
    · rfl
    dsimp only
    split <;> rfl

theorem CoreSt.swapDue_course : y.swapDue.course = y.course := by
  unfold CoreSt.swapDue
  split <;> rfl

theorem CoreSt.accumulateAll_course : y.accumulateAll.course = y.course := by
  obtain ⟨m, hm⟩ := y.accumulateAll_eq
  rw [hm]
  rfl

theorem CoreSt.shadowDue_course : y.shadowDue.course = y.course := by
  unfold CoreSt.shadowDue
  split <;> rfl

theorem CoreSt.drainDue_course (seed : Nat) : (y.drainDue seed).course = y.course := by
  unfold CoreSt.drainDue
  split
  · rfl
  · obtain ⟨w, hw, -⟩ := CoreSt.foldl_pushWrite _ y
    dsimp only
    rw [hw]
    rfl

theorem CoreSt.mxSettle_course (seed : Nat) : (y.mxSettle seed).course = y.course := by
  unfold CoreSt.mxSettle
  dsimp only
  rw [foldl_keeps CoreSt.course (fun z _ => z.drainDue_course seed)]
  calc _ = y.swapDue.multiplyDue.accumulateAll.shadowRows.shadowDue.course := rfl
    _ = y.swapDue.multiplyDue.accumulateAll.course := CoreSt.shadowDue_course _
    _ = y.swapDue.course := CoreSt.accumulateAll_course _
    _ = y.course := y.swapDue_course

theorem CoreSt.applyWrite_course (w : LspWrite) : (y.applyWrite w).course = y.course := by
  unfold CoreSt.applyWrite
  split <;> rfl

theorem CoreSt.commitWrites_course : y.commitWrites.course = y.course :=
  foldl_keeps CoreSt.course CoreSt.applyWrite_course _ y

theorem CoreSt.incFlags_course : y.incFlags.course = y.course := rfl

/-- What is due at the end of a cycle leaves the course of the core (R159, R160). -/
theorem CoreSt.settle_course (seed : Nat) : (y.settle seed).course = y.course := by
  unfold CoreSt.settle
  rw [CoreSt.incFlags_course, CoreSt.commitWrites_course, CoreSt.regSettle_course, CoreSt.runEnd_course,
    CoreSt.iterStep_course, CoreSt.mxSettle_course, CoreSt.runCheck_course]

end

/-! ### What leaves a core -/

section

variable (s : State)

theorem State.hostWrite_cores (addr data bytes : Nat) : (s.hostWrite addr data bytes).cores = s.cores :=
  State.toCard_cores _ _

theorem State.toHost_cores (area : Option Nat) (i : MbItem) : (s.toHost area i).cores = s.cores := by
  unfold State.toHost
  dsimp only
  split
  · rw [State.hostWrite_cores]
    rfl
  · rw [State.hostWrite_cores]

theorem State.ackToCore_cores (d : CoreId) (src : BitVec 16) (code : W32) : (s.ackToCore d src code).cores = s.cores := by
  unfold State.ackToCore
  split <;> rfl

theorem State.mgmtPut_cores (r part : Nat) (i : MbItem) : (s.mgmtPut r part i).cores = s.cores := by
  unfold State.mgmtPut
  split
  · rfl
  · split <;> rfl

theorem State.retryHost_cores : s.retryHost.cores = s.cores := by
  unfold State.retryHost
  refine foldl_keeps State.cores (fun s w => ?_) _ s
  obtain ⟨snd, rcv, i⟩ := w
  dsimp only
  split
  · split
    · rfl
    · exact State.mgmtPut_cores _ _ _ _
  · rfl

theorem State.sendPost_cores (d : CoreId) (imm : Nat) (i : MbItem) : (s.sendPost d imm i).cores = s.cores := by
  unfold State.sendPost
  split
  · rfl
  · extract_lets src j drop
    have hdrop (u : State) (back : BitVec 16) (code : W32) : (drop u back code).cores = u.cores :=
      State.ackToCore_cores _ _ _ _
    split
    · split
      · exact hdrop _ _ _
      · exact State.toHost_cores _ _ _
    · split
      · rfl
      · dsimp only
        split
        · exact hdrop _ _ _
        · split
          · exact hdrop _ _ _
          · rfl

theorem State.sendAck_cores (d : CoreId) (src : BitVec 16) (code : W32) : (s.sendAck d src code).cores = s.cores := by
  unfold State.sendAck
  split
  · rfl
  · split
    · rw [State.retryHost_cores, State.toHost_cores]
      rfl
    split
    · rfl
    · split
      · rfl
      · split <;> rfl

end

/-! ### States in which a core is on the course that it was on -/

/-- From a canonical state to a canonical one in which core `c` is on the course that it was on. -/
structure State.OnCourse (c : CoreId) (s t : State) : Prop where
  keeps : Keeps s t
  course : s.wf = true → (t.cur c).course = (s.cur c).course

namespace State.OnCourse

variable {c : CoreId} {s t u : State}

theorem refl (c : CoreId) (s : State) : State.OnCourse c s s := ⟨Keeps.refl s, fun _ => rfl⟩

theorem trans (h : State.OnCourse c s t) (k : State.OnCourse c t u) : State.OnCourse c s u where
  keeps := h.keeps.trans k.keeps
  course hw := (k.course (h.keeps.wf hw)).trans (h.course hw)

theorem of_cores (hk : Keeps s t) (hc : t.cores = s.cores) : State.OnCourse c s t where
  keeps := hk
  course _ := by simp only [State.cur, State.core, hc]

theorem foldl {β : Type} {f : State → β → State} (hf : ∀ s b, State.OnCourse c s (f s b)) (l : List β) :
    ∀ s, State.OnCourse c s (l.foldl f s) := by
  induction l with
  | nil => exact fun s => refl c s
  | cons b l ih => exact fun s => (hf s b).trans (ih (f s b))

end State.OnCourse

section

variable {s : State} (c d : CoreId)

theorem State.cur_setCore (hw : s.wf = true) (x : Core) : (s.setCore c x).cur c = x.cur :=
  congrArg Core.cur (State.core_setCore hw c x)

theorem State.cur_modBoth (hw : s.wf = true) (f : CoreSt → CoreSt) : (s.modBoth c f).cur c = f (s.cur c) :=
  State.cur_setCore c hw _

theorem State.modBoth_modBoth (hw : s.wf = true) (f g : CoreSt → CoreSt) :
    (s.modBoth c f).modBoth c g = s.modBoth c fun y => g (f y) := by
  unfold State.modBoth
  dsimp only
  rw [State.core_setCore hw, State.setCore_setCore hw]

/-- A core that is written with the course that it has. -/
theorem State.setCore_onCourse (x : Core) (h : d = c → x.cur.course = (s.cur c).course) :
    State.OnCourse c s (s.setCore d x) where
  keeps := State.setCore_keeps s d x (Keeps.refl s)
  course hw := by
    by_cases hd : d = c
    · subst hd
      rw [State.cur_setCore d hw, h rfl]
    · exact congrArg (fun y => y.cur.course) (State.core_setCore_other hw x (Ne.symm hd))

theorem State.modBoth_onCourse {f : CoreSt → CoreSt} (hf : ∀ y, (f y).course = y.course) :
    State.OnCourse c s (s.modBoth d f) :=
  State.setCore_onCourse c d _ fun h => h ▸ hf _

theorem State.modCur_onCourse {f : CoreSt → CoreSt} (hf : ∀ y, (f y).course = y.course) :
    State.OnCourse c s (s.modCur d f) :=
  State.setCore_onCourse c d _ fun h => h ▸ hf _

theorem State.odAdd_onCourse (k n : Nat) : State.OnCourse c s (s.odAdd k n) :=
  .of_cores (State.odAdd_keeps s k n (Keeps.refl s)) rfl

theorem State.logEv_onCourse (code : Nat) (un : UnitId) (part : Option Nat) (lunit : Nat) (payload : List Nat) :
    State.OnCourse c s (s.logEv code un part lunit payload) :=
  .of_cores (State.logEv_keeps s code un part lunit payload (Keeps.refl s))
    (State.logEv_frame s code un part lunit payload).cores

/-- A copy or an overlay that starts leaves the course of every core (R179, R180). -/
theorem State.startCp_onCourse (x : CoreSt) (p : CpPend) : State.OnCourse c s (s.startCp d x p) := by
  have hk := State.startCp_keeps s d x p (Keeps.refl s)
  unfold State.startCp at hk ⊢
  split
  · exact .refl c s
  split
  · exact State.modBoth_onCourse c d fun _ => rfl
  · exact ⟨Keeps.refl s, fun _ => rfl⟩

/-- What leaves a core at the end of a cycle leaves its course (R174, R179, R186, R337). -/
theorem State.leave_onCourse : State.OnCourse c s (s.leave c) := by
  unfold State.leave
  extract_lets x n cps sigs posts part s1 s2 s3 s4
  have h1 : State.OnCourse c s s1 := State.modCur_onCourse c c fun _ => rfl
  have h2 : State.OnCourse c s1 s2 := .foldl (fun _ p => State.startCp_onCourse c c x p) cps s1
  have h3 : State.OnCourse c s2 s3 := .of_cores (Keeps.refl s2) rfl
  have h4 : State.OnCourse c s3 s4 := .foldl (fun s p =>
    .of_cores (State.sendPost_keeps s c _ _ (Keeps.refl s)) (State.sendPost_cores s c _ _)) posts s3
  refine (((h1.trans h2).trans h3).trans h4).trans (.foldl (fun s a => ?_) x.ackPend s4)
  exact .of_cores (State.sendAck_keeps s c _ _ (Keeps.refl s)) (State.sendAck_cores s c _ _)

end

/-! ### A core that faults -/

section

variable {s : State} (c : CoreId)

/-- A core that is stopped stands as it is stopped, whatever it has issued (R202, R204). -/
theorem State.haltCore_course (hw : s.wf = true) (x y : CoreSt) : ((s.haltCore c x y).cur c).course = y.course := by
  have hset : (s.setCore c ⟨y, y⟩).wf = true := (State.setCore_keeps s c _ (Keeps.refl s)).wf hw
  have hfold : State.OnCourse c (s.setCore c ⟨y, y⟩) (s.haltCore c x y) :=
    .foldl (fun _ p => State.startCp_onCourse c c x p) x.cpPend _
  rw [hfold.course hset, State.cur_setCore c hw]

/-- Another core that is stopped leaves the course of this one. -/
theorem State.haltCore_onCourse {d : CoreId} (hd : d ≠ c) (x y : CoreSt) : State.OnCourse c s (s.haltCore d x y) :=
  (State.setCore_onCourse c d _ fun h => absurd h hd).trans (.foldl (fun _ p => State.startCp_onCourse c d x p) _ _)

/-- The other cores of a partition stop (R204). -/
theorem State.stopCores_onCourse (p : Nat) : State.OnCourse c s (s.stopCores p (some c)) := by
  unfold State.stopCores
  refine .foldl (fun s kv => ?_) s.cores s
  dsimp only
  split
  next h =>
    have hd : kv.1 ≠ c := by
      simp only [Bool.and_eq_true, bne_iff_ne, ne_eq, Option.some.injEq] at h
      exact h.1.2
    exact State.haltCore_onCourse c hd _ _
  · exact .refl c s

theorem State.endArm_cores (p status reason : Nat) : (s.endArm p status reason).cores = s.cores := by
  unfold State.endArm
  split
  · rfl
  · split
    · rfl
    · exact (State.complete_frame _ _ _ _).cores

/-- Of causes there is a first one (R203). -/
theorem exists_firstCause {ks : List Cause} (h : ks ≠ []) : ∃ f, firstCause ks = some f := by
  cases ks with
  | nil => exact absurd rfl h
  | cons k ks =>
    unfold firstCause
    split
    · exact ⟨k, rfl⟩
    · split
      · exact ⟨_, rfl⟩
      · exact ⟨k, rfl⟩

/-- A core with causes is FAULTED (R202). -/
theorem State.coreFault_phase (hw : s.wf = true) {ks : List Cause} (hks : ks ≠ []) :
    ((s.coreFault c ks).cur c).phase = .faulted := by
  obtain ⟨f, hf⟩ := exists_firstCause hks
  unfold State.coreFault
  rw [hf]
  dsimp -zeta only
  extract_lets x halted st s1 part s2 s3 s4
  have hst : (s1.cur c).phase = .faulted := congrArg Course.phase (State.haltCore_course c hw x.beg st)
  have hk1 : Keeps s s1 := State.haltCore_keeps s c _ _ (Keeps.refl s)
  have h2 : State.OnCourse c s1 s2 := State.odAdd_onCourse c _ _
  have h3 : State.OnCourse c s2 s3 := by
    unfold s3
    split
    · exact State.odAdd_onCourse c _ _
    · exact .refl c s2
  have h4 : State.OnCourse c s3 s4 := State.logEv_onCourse c _ _ _ _ _
  have h14 : State.OnCourse c s1 s4 := (h2.trans h3).trans h4
  suffices h : State.OnCourse c s1 _ from (congrArg Course.phase (h.course (hk1.wf hw))).trans hst
  clear_value part s4
  cases part with
  | none => exact h14
  | some p =>
    dsimp -zeta only
    extract_lets s5
    have h5 : State.OnCourse c s1 s5 := h14.trans (State.stopCores_onCourse c p)
    split
    · refine h5.trans (.of_cores ?_ (State.endArm_cores _ _ _))
      exact State.endArm_keeps _ _ _ _ (State.modJob_keeps s5 p _ (Keeps.refl s5))
    · exact h5

end

end Sys2Proof.Machine
end

section
/-! PROOFS. IMEM_FETCH: the end of a core cycle and the fetch that begins the next one (R123, R142, R159 to R162, R166, R171,
R172, R176, R183, R202, R517). -/

namespace Sys2Proof.Machine

open Sys2Proof

/-! ### The start of a cycle -/

section

variable {s : State} {c : CoreId}

theorem CoreSt.course_outside (y : CoreSt) : y.outside.course = y.course := rfl

/-- A cycle begins on the course of its core. -/
theorem State.beginCycle_onCourse (own : List Cause) : State.OnCourse c s (s.beginCycle c own) := by
  obtain ⟨y, ks, hbegin, -, hout⟩ := State.beginCycle_eq s c own
  have hcourse : y.course = (s.cur c).course := by
    rw [← y.course_outside, hout]
    rfl
  rw [hbegin]
  exact State.setCore_onCourse c c _ fun _ => hcourse

/-- A cycle that begins with a cause of its bundle has a cause. -/
theorem State.dueCauses_beginCycle_ne_nil (hw : s.wf = true) {own : List Cause} (h : own ≠ []) :
    ((s.beginCycle c own).cur c).dueCauses ≠ [] := by
  obtain ⟨y, ks, hbegin, hcauses, -⟩ := State.beginCycle_eq s c own
  rw [hbegin, State.cur_setCore c hw]
  simp [CoreSt.dueCauses, hcauses, h]

/-- A bundle whose FL slot holds a wait is held at it, where no slot breaks its encoding (R183). -/
theorem State.issueBundle_waits (h : (s.cur c).bundleWaits = true) :
    s.issueBundle c = s.modBoth c fun y => { y with freeze := .gate } := if_pos h

/-- A bundle that holds no wait and breaks no encoding begins its cycle (R166). -/
theorem State.issueBundle_begins (h : (s.cur c).bundleWaits = false) (hbad : badSlots (s.cur c).bundle = []) :
    s.issueBundle c = s.beginCycle c [] := by
  simp [State.issueBundle, h, CoreSt.encCauses, hbad]

theorem State.issueBundle_onCourse : State.OnCourse c s (s.issueBundle c) := by
  unfold State.issueBundle
  split
  · exact State.modBoth_onCourse c c fun _ => rfl
  · exact State.beginCycle_onCourse _

/-! ### The fetch -/

theorem State.siteFix_cores (s : State) (site : SiteId) : (s.siteFix site).cores = s.cores := by
  unfold State.siteFix
  extract_lets l t
  split
  · exact (State.logEv_frame _ _ _ _ _ _).cores
  · rfl

/-- A corrected symbol error of a core is logged and counted at its site (R206, R516). -/
theorem State.coreFix_onCourse (code row : Nat) : State.OnCourse c s (s.coreFix c code row) :=
  .of_cores (State.coreFix_keeps s c code row (Keeps.refl s))
    ((State.siteFix_cores _ _).trans (State.logEv_frame _ _ _ _ _ _).cores)

/-- The fetch of the bundle at PC into a core. -/
def CoreSt.fetched (y : CoreSt) (a : Nat) : CoreSt := { y with bpc := a, bundle := mget zR y.imem a }

/-- The course of a core that has fetched its next bundle. -/
def Course.onto (x : Course) : Course := { x with bpc := x.pc, bundle := mget zR x.imem x.pc }

/-- A core fetches the bundle at its PC, or it faults with what keeps the bundle from its issue (R171, R176, R180). -/
theorem State.fetchBundle_course (hw : s.wf = true) (found : Finding) (held : Bool) :
    ((s.fetchBundle c found held).cur c).phase = .faulted ∨
      ((s.fetchBundle c found held).cur c).course = (s.cur c).course.onto := by
  unfold State.fetchBundle
  extract_lets a s1 s2 ks s3
  have h1 : (s1.cur c).course = (s.cur c).course.onto := congrArg CoreSt.course (State.cur_modBoth c hw _)
  have hw1 : s1.wf = true := (State.modBoth_keeps s c _ (Keeps.refl s)).wf hw
  have h12 : State.OnCourse c s1 s2 := by
    unfold s2
    split
    · exact (State.odAdd_onCourse c _ _).trans (State.modBoth_onCourse c c fun _ => rfl)
    · exact (State.odAdd_onCourse c _ _).trans (State.coreFix_onCourse _ _)
    · exact .refl c s1
  have hw2 : s2.wf = true := h12.keeps.wf hw1
  suffices h : _ ∨ State.OnCourse c s2 _ from h.imp_right fun h => (h.course hw2).trans ((h12.course hw1).trans h1)
  split
  next hks =>
    have hne : ks ≠ [] := by simpa using hks
    exact .inl (State.coreFault_phase c ((State.beginCycle_keeps s2 c ks (Keeps.refl s2)).wf hw2)
      (State.dueCauses_beginCycle_ne_nil hw2 hne))
  · split
    · exact .inr (State.modBoth_onCourse c c fun _ => rfl)
    · exact .inr State.issueBundle_onCourse

/-- A bundle inside the store that is neither busy nor poisoned, and whose row is found in order, issues (R171, R176,
R180). -/
theorem CoreSt.fetchCauses_ok {y : CoreSt} (hpc : y.bpc < 2048) (hovls : y.ovls = [])
    (hpoison : mget zF y.imemPoison y.bpc = false) : y.fetchCauses .ok = [] := by
  have hbusy (n a : Nat) : y.imemBusy n a = false := by simp [CoreSt.imemBusy, hovls]
  simp [CoreSt.fetchCauses, hbusy, hpoison, hpc]

/-- A bundle that nothing keeps from its issue is fetched, and comes to it (R171, R176). -/
theorem State.fetchBundle_clean (hw : s.wf = true) (hpc : (s.cur c).pc < 2048) (hovls : (s.cur c).ovls = [])
    (hpoison : mget zF (s.cur c).imemPoison (s.cur c).pc = false) (held : Bool) : s.fetchBundle c .ok held =
      (s.modBoth c fun y => y.fetched (s.cur c).pc).issueBundle c := by
  have hcauses : ((s.modBoth c fun y => y.fetched (s.cur c).pc).cur c).fetchCauses .ok = [] := by
    rw [State.cur_modBoth c hw]
    exact CoreSt.fetchCauses_ok hpc hovls hpoison
  unfold State.fetchBundle
  extract_lets a s1 s2 ks s3
  have hks : ks = [] := hcauses
  rw [hks, if_neg (by decide), if_neg (by simp)]
  rfl

/-! ### Parity errors -/

/-- The parity errors of a cycle are those of its core. -/
theorem State.cur_parity (hw : s.wf = true) (find : FetchFind) :
    (s.parity c find).cur c = (s.cur c).parity find := by
  unfold State.parity
  split
  next h =>
    simp only [Bool.and_eq_true, List.isEmpty_iff] at h
    obtain ⟨hs, hf⟩ := h
    simp [CoreSt.parity, hs, hf]
  · exact State.cur_modBoth c hw _

theorem CoreSt.parity_course (y : CoreSt) (find : FetchFind) : (y.parity find).course = y.course := by
  unfold CoreSt.parity
  split <;> rfl

theorem State.parity_onCourse (find : FetchFind) : State.OnCourse c s (s.parity c find) where
  keeps := State.parity_keeps s c find (Keeps.refl s)
  course hw := by rw [State.cur_parity hw, CoreSt.parity_course]

/-- Marks that are set for a list of keys. -/
theorem mget_foldl_mark {m : SMap Bool} (h : mwf zF m = true) (keys : List Nat) (i : Nat) :
    mget zF (keys.foldl (fun m k => mset zF m k true) m) i = (keys.contains i || mget zF m i) := by
  rw [mget_foldl_mset (fun _ => true) keys h i]
  by_cases hi : i ∈ keys <;> simp [hi]

/-- A running core marks the registers and flags that a parity error is found in, and no other (R517). -/
theorem CoreSt.mget_parity {y : CoreSt} (hrun : y.phase = .running) (hs : mwf zF y.sPar = true)
    (hf : mwf zF y.fPar = true) (find : FetchFind) :
    (∀ r, mget zF (y.parity find).sPar r = (find.scalars.contains r || mget zF y.sPar r)) ∧
      ∀ i, mget zF (y.parity find).fPar i = (find.flags.contains i || mget zF y.fPar i) := by
  unfold CoreSt.parity
  rw [if_pos hrun]
  exact ⟨mget_foldl_mark hs find.scalars, mget_foldl_mark hf find.flags⟩

/-! ### The cycle that follows -/

/-- A core that is written, once what leaves it has left, is on the course that it was written with. -/
theorem State.leave_setCore (hw : s.wf = true) (y : CoreSt) : ((s.setCore c ⟨y, y⟩).leave c).wf = true ∧
    (((s.setCore c ⟨y, y⟩).leave c).cur c).course = y.course := by
  have hwset : (s.setCore c ⟨y, y⟩).wf = true := (State.setCore_keeps s c _ (Keeps.refl s)).wf hw
  have hleave : State.OnCourse c (s.setCore c ⟨y, y⟩) _ := State.leave_onCourse c
  refine ⟨hleave.keeps.wf hwset, ?_⟩
  rw [hleave.course hwset, State.cur_setCore c hw]

/-- The next bundle comes in the next cycle, if no fault stops the core (R159, R164). -/
theorem State.nextCycle_course (hw : s.wf = true) (hrun : (s.cur c).phase = .running) (found : Finding) :
    ((s.nextCycle c found).cur c).phase = .faulted ∨ ((s.nextCycle c found).cur c).course =
      { (s.cur c).course with cyc := (s.cur c).cyc + 1 : Course }.onto := by
  unfold State.nextCycle
  extract_lets held s1
  have hw1 : s1.wf = true := (State.modBoth_keeps s c _ (Keeps.refl s)).wf hw
  have hcur : s1.cur c = (s.cur c).tick := State.cur_modBoth c hw _
  have hrun1 : (s1.cur c).phase = .running := hcur ▸ hrun
  rw [if_pos hrun1]
  have h := State.fetchBundle_course (c := c) hw1 found held
  rw [hcur] at h
  exact h

end

/-- Going on changes the PC, the branch and the loops alone (R171, R172). -/
theorem CoreSt.advancePc_eq (y : CoreSt) : ∃ a b ls, y.advancePc = { y with pc := a, branch := b, loops := ls } := by
  unfold CoreSt.advancePc
  split
  · exact ⟨_, _, _, rfl⟩
  · exact ⟨_, _, _, rfl⟩
  · exact ⟨_, y.branch, _, rfl⟩

/-- Without a branch and a loop the next address follows. -/
theorem CoreSt.advancePc_pc {y : CoreSt} (hb : y.branch = none) (hl : y.loops = []) : y.advancePc.pc = y.bpc + 1 := by
  simp [CoreSt.advancePc, hb, hl, loopEnd]

/-- A core at the end of its cycle, with its PC on the next bundle (R123, R159, R171). -/
def Core.settled (x : Core) (seed : Nat) : CoreSt :=
  (({ x.cur with late := x.cur.late ++ x.tabCauses true } : CoreSt).settle seed).advancePc

/-- The end of a cycle keeps the phase, the cycle and the program of its core, and sets its PC. -/
theorem Core.settled_course (x : Core) (seed : Nat) : (x.settled seed).phase = x.cur.phase ∧ (x.settled seed).cyc = x.cur.cyc ∧
    (x.settled seed).imem = x.cur.imem ∧
    (x.cur.branch = none → x.cur.loops = [] → (x.settled seed).pc = x.cur.bpc + 1) := by
  unfold Core.settled
  have hcourse := CoreSt.settle_course { x.cur with late := x.cur.late ++ x.tabCauses true } seed
  generalize CoreSt.settle _ seed = y at hcourse ⊢
  obtain ⟨a, b, ls, hy⟩ := y.advancePc_eq
  have hbpc : y.bpc = x.cur.bpc := congrArg Course.bpc hcourse
  refine ⟨?_, ?_, ?_, fun hb hl => ?_⟩
  · rw [hy]
    exact congrArg Course.phase hcourse
  · rw [hy]
    exact congrArg Course.cyc hcourse
  · rw [hy]
    exact congrArg Course.imem hcourse
  · rw [CoreSt.advancePc_pc ((congrArg Course.branch hcourse).trans hb) ((congrArg Course.loops hcourse).trans hl), hbpc]

/-! ### The command -/

section

variable {s : State} {c : CoreId} (find : FetchFind)

/-- A core whose CCLK stands keeps its state (R161). -/
theorem exec_imemFetch_stopped (h : s.cclk (c / 16) = false) : exec (.imemFetch c find) s = .next s := by
  show execImemFetch c find s = _
  simp [execImemFetch, coreSiteOf, h]

/-- A core that is held keeps its state, when no check of its cycle has failed (R160, R161). -/
theorem exec_imemFetch_held (hf : (s.core c).cur.freeze ≠ .none) (hks : (s.core c).cycleCauses = []) :
    exec (.imemFetch c find) s = .next s := by
  show execImemFetch c find s = _
  simp [execImemFetch, hf, hks]

/-- A core that has slots to issue keeps its state (R166). -/
theorem exec_imemFetch_issuing (hact : (s.core c).cur.active = true) (hdone : (s.core c).bundleDone = false) :
    exec (.imemFetch c find) s = .next s := by
  show execImemFetch c find s = _
  simp [execImemFetch, hact, hdone]

/-- The first fetch after a launch is that of cycle 0 (R164, R319). -/
theorem exec_imemFetch_first (hclk : s.cclk (c / 16) = true) (hrun : (s.core c).cur.phase = .running)
    (hf : (s.core c).cur.freeze = .none) (hstart : (s.core c).cur.started = false) : exec (.imemFetch c find) s =
      .next (((s.modBoth c fun y => { y with started := true }).fetchBundle c find.found false).parity c find) := by
  have hact : (s.core c).cur.active = false := by simp [CoreSt.active, hstart]
  show execImemFetch c find s = _
  simp [execImemFetch, coreSiteOf, hclk, hrun, hf, hstart, hact]

/-- A cycle that has issued whole and has no causes ends, and the next one begins (R159, R160). -/
theorem exec_imemFetch_next (hclk : s.cclk (c / 16) = true) (hrun : (s.core c).cur.phase = .running)
    (hbeg : (s.core c).beg.phase = .running) (hf : (s.core c).cur.freeze = .none)
    (hstart : (s.core c).cur.started = true) (hdone : (s.core c).cur.slotsDone = true)
    (hks : (s.core c).cycleCauses = []) : exec (.imemFetch c find) s =
      .next ((((s.setCore c ⟨(s.core c).settled (s.seedOf c), (s.core c).settled (s.seedOf c)⟩).leave c).nextCycle c
        find.found).parity c find) := by
  show execImemFetch c find s = _
  simp [execImemFetch, coreSiteOf, Core.bundleDone, hclk, hrun, hbeg, hf, hstart, hdone, hks, Core.settled]

/-- The core in the cycle that follows: it works on the bundle at the PC that the end of its cycle has set, or it has faulted
(R159, R164, R171). -/
theorem exec_imemFetch_goesOn (hw : s.wf = true) (hclk : s.cclk (c / 16) = true)
    (hrun : (s.core c).cur.phase = .running) (hbeg : (s.core c).beg.phase = .running)
    (hf : (s.core c).cur.freeze = .none) (hstart : (s.core c).cur.started = true)
    (hdone : (s.core c).cur.slotsDone = true) (hks : (s.core c).cycleCauses = []) :
    ∃ t, exec (.imemFetch c find) s = .next t ∧ ((t.cur c).phase = .faulted ∨
      ((t.cur c).phase = .running ∧ (t.cur c).cyc = (s.core c).cur.cyc + 1 ∧
        (t.cur c).bpc = ((s.core c).settled (s.seedOf c)).pc ∧
        (t.cur c).bundle = mget zR (s.core c).cur.imem ((s.core c).settled (s.seedOf c)).pc)) := by
  refine ⟨_, exec_imemFetch_next find hclk hrun hbeg hf hstart hdone hks, ?_⟩
  obtain ⟨hphase, hcyc, himem, -⟩ := (s.core c).settled_course (s.seedOf c)
  generalize (s.core c).settled (s.seedOf c) = y at hphase hcyc himem ⊢
  obtain ⟨hwu, hu⟩ := State.leave_setCore hw y
  generalize (s.setCore c ⟨y, y⟩).leave c = u at hwu hu ⊢
  have hrun' : (u.cur c).phase = .running := (congrArg Course.phase hu).trans (hphase.trans hrun)
  have hcyc' : (u.cur c).cyc = (s.core c).cur.cyc := (congrArg Course.cyc hu).trans hcyc
  have hnext := State.nextCycle_course hwu hrun' find.found
  have hpar := (State.parity_onCourse (c := c) find).course
    ((State.nextCycle_keeps u c find.found (Keeps.refl u)).wf hwu)
  refine hnext.imp (fun h => (congrArg Course.phase hpar).trans h) fun h => ?_
  rw [hu, hcyc'] at h
  have hfin := hpar.trans h
  exact ⟨(congrArg Course.phase hfin).trans (hphase.trans hrun), congrArg Course.cyc hfin, congrArg Course.bpc hfin,
    himem ▸ congrArg Course.bundle hfin⟩

end

/-! ### The first fetch -/

/-- A core that starts with the bundle at `a` (R164, R319). -/
def CoreSt.startedAt (y : CoreSt) (a : Nat) : CoreSt := ({ y with started := true } : CoreSt).fetched a

/-- A bundle waits by the code of its FL slot, where no slot breaks its encoding (R183). -/
theorem CoreSt.bundleWaits_eq {y : CoreSt} {b : Row} (hb : y.bundle = b) (hbad : badSlots b = []) :
    y.bundleWaits = (decide (1 ≤ fld b 252 4) && decide (fld b 252 4 ≤ 3)) := by
  simp [CoreSt.bundleWaits, hb, hbad]

theorem State.bundle_startedAt {s : State} {c : CoreId} (hw : s.wf = true) (a : Nat) :
    ((s.modBoth c fun y => y.startedAt a).cur c).bundle = mget zR (s.cur c).imem a :=
  congrArg CoreSt.bundle (State.cur_modBoth c hw _)

section

variable {s : State} {c : CoreId} {find : FetchFind} (hw : s.wf = true) (hclk : s.cclk (c / 16) = true)
  (hrun : (s.cur c).phase = .running) (hfree : (s.cur c).freeze = .none) (hstart : (s.cur c).started = false)
  (hpc : (s.cur c).pc < 2048) (hovls : (s.cur c).ovls = []) (hfound : find.found = .ok)
  (hpoison : mget zF (s.cur c).imemPoison (s.cur c).pc = false)

include hw hclk hrun hfree hstart hpc hovls hfound hpoison

/-- The first fetch of a bundle that nothing keeps from its issue starts the core and brings the bundle there (R164, R176,
R319). -/
theorem exec_imemFetch_first_clean : exec (.imemFetch c find) s =
    .next (((s.modBoth c fun y => y.startedAt (s.cur c).pc).issueBundle c).parity c find) := by
  have hw1 : (s.modBoth c fun y => { y with started := true }).wf = true :=
    (State.modBoth_keeps s c _ (Keeps.refl s)).wf hw
  have hcur : (s.modBoth c fun y => { y with started := true }).cur c = { s.cur c with started := true } :=
    State.cur_modBoth c hw _
  have hclean := State.fetchBundle_clean (c := c) hw1 (by rwa [hcur]) (by rwa [hcur]) (by rwa [hcur]) false
  rw [hcur, State.modBoth_modBoth c hw] at hclean
  rw [exec_imemFetch_first find hclk hrun hfree hstart, hfound, hclean]
  rfl

variable {b : Row} (hb : mget zR (s.cur c).imem (s.cur c).pc = b) (hbad : badSlots b = [])

include hb hbad

/-- Where it holds no wait, its cycle begins (R166). -/
theorem exec_imemFetch_first_begins (hfl : fld b 252 4 = 0 ∨ 4 ≤ fld b 252 4) : exec (.imemFetch c find) s =
    .next (((s.modBoth c fun y => y.startedAt (s.cur c).pc).beginCycle c []).parity c find) := by
  have hbundle := (State.bundle_startedAt hw (s.cur c).pc).trans hb
  have hwaits : ((s.modBoth c fun y => y.startedAt (s.cur c).pc).cur c).bundleWaits = false := by
    rw [CoreSt.bundleWaits_eq hbundle hbad, Bool.and_eq_false_iff, decide_eq_false_iff_not, decide_eq_false_iff_not]
    omega
  rw [exec_imemFetch_first_clean hw hclk hrun hfree hstart hpc hovls hfound hpoison,
    State.issueBundle_begins hwaits (hbundle ▸ hbad)]

/-- Where it holds a wait, it stands before its cycle (R183). -/
theorem exec_imemFetch_first_waits (hlo : 1 ≤ fld b 252 4) (hhi : fld b 252 4 ≤ 3) : exec (.imemFetch c find) s =
    .next ((s.modBoth c fun y => { y.startedAt (s.cur c).pc with freeze := .gate }).parity c find) := by
  have hbundle := (State.bundle_startedAt hw (s.cur c).pc).trans hb
  have hwaits : ((s.modBoth c fun y => y.startedAt (s.cur c).pc).cur c).bundleWaits = true := by
    rw [CoreSt.bundleWaits_eq hbundle hbad]
    exact Bool.and_eq_true_iff.mpr ⟨decide_eq_true hlo, decide_eq_true hhi⟩
  rw [exec_imemFetch_first_clean hw hclk hrun hfree hstart hpc hovls hfound hpoison, State.issueBundle_waits hwaits,
    State.modBoth_modBoth c hw]

end

/-- Settles O29: the end of a cycle leaves the course of its core but for the PC, and the fetch goes on to the bundle there
or faults; the other clauses are the branches of the command. -/
theorem fetchBeginsTheNextCycle : Obligations.FetchBeginsTheNextCycle := by
  intro c find s x
  refine ⟨fun h => ?_, fun hact hbeg hdone => ?_, fun hclk hact hdone hks => ?_,
    fun hw hfree hclk hrun hbeg hstart hdone hks => ?_, fun hw hfree hclk hrun hstart hpc hovls hfound hpoison => ?_,
    fun hw hrun hs hf => ?_, fun hw own => ?_⟩
  · rcases h with hclk | ⟨hf, hks⟩
    · exact exec_imemFetch_stopped find hclk
    · exact exec_imemFetch_held find hf hks
  · exact exec_imemFetch_issuing find hact (by simp [Core.bundleDone, x, hbeg, hdone])
  · refine exec_imemFetch_fault find hclk hact ?_ hks
    simp only [Core.bundleDone, Bool.or_eq_true, bne_iff_ne]
    exact or_iff_not_imp_left.mpr fun hbeg => hdone (not_not.mp hbeg)
  · obtain ⟨t, ht, hgo⟩ := exec_imemFetch_goesOn find hw hclk hrun hbeg hfree hstart hdone hks
    obtain ⟨-, -, -, hpc⟩ := x.settled_course (s.seedOf c)
    refine ⟨t, ht, hgo.imp_right fun ⟨hphase, hcyc, hbpc, hbundle⟩ => ⟨hphase, hcyc, fun hb hl => ?_⟩⟩
    rw [hpc hb hl] at hbpc hbundle
    exact ⟨hbpc, hbundle⟩
  · intro b hbad
    have hb : mget zR (s.cur c).imem (s.cur c).pc = b := rfl
    clear_value b
    exact ⟨exec_imemFetch_first_begins hw hclk hrun hfree hstart hpc hovls hfound hpoison hb hbad,
      exec_imemFetch_first_waits hw hclk hrun hfree hstart hpc hovls hfound hpoison hb hbad⟩
  · intro y
    have hy : y = x.cur.parity find := State.cur_parity hw find
    rw [hy]
    exact CoreSt.mget_parity hrun hs hf find
  · obtain ⟨y, ks, hbegin, hcauses, hout⟩ := State.beginCycle_eq s c own
    refine ⟨y, ks, hbegin, hcauses, ?_⟩
    simp only [CoreSt.outside, CoreSt.mk.injEq] at hout
    simp [hout, x, State.cur]

end Sys2Proof.Machine
end

section
/-! PROOFS. The direct operations of the VX slot: their one result in flight, and what it holds for each lane (R131, R134 to
R137, R144, R145, R156). -/

namespace Sys2Proof.Machine

open Sys2Proof

/-! ### Packed elements -/

/-- Element `e` of packed elements (R131). -/
theorem packElems_div (w : Nat) (xs : List Nat) (e : Nat) :
    packElems w xs / 2 ^ (w * e) % 2 ^ w = xs.getD e 0 % 2 ^ w := by
  induction xs generalizing e with
  | nil => simp [packElems]
  | cons a xs ih =>
    have hlow : a % 2 ^ w < 2 ^ w := Nat.mod_lt _ (Nat.two_pow_pos w)
    cases e with
    | zero => simp [packElems]
    | succ e =>
      calc packElems w (a :: xs) / 2 ^ (w * (e + 1)) % 2 ^ w
          = (a % 2 ^ w + 2 ^ w * packElems w xs) / 2 ^ w / 2 ^ (w * e) % 2 ^ w := by
            rw [Nat.div_div_eq_div_mul, ← Nat.pow_add, Nat.mul_succ, Nat.add_comm w]; rfl
        _ = packElems w xs / 2 ^ (w * e) % 2 ^ w := by
            rw [Nat.add_mul_div_left _ _ (Nat.two_pow_pos w), Nat.div_eq_of_lt hlow, Nat.zero_add]
        _ = _ := ih e

/-- An element of a register that is packed from a function of its number (R131). -/
theorem fld_packElems {w e : Nat} (g : Nat → Nat) (he : e < 2048 / w) :
    fld (BitVec.ofNat 2048 (packElems w ((List.range (2048 / w)).map g))) (w * e) w = g e % 2 ^ w := by
  have hfit : w * e + w ≤ 2048 :=
    calc w * (e + 1) ≤ w * (2048 / w) := Nat.mul_le_mul_left w he
      _ ≤ 2048 := Nat.mul_div_le 2048 w
  rw [fld_ofNat _ hfit, packElems_div]
  simp [List.getD_eq_getElem?_getD, he]

/-! ### Operations of one element at a time -/

/-- Whether the mask of a direct operation enables element `e` (R131, R135). -/
def VxSrc.enables (src : VxSrc) (f : VxSlot) (w e : Nat) : Bool :=
  (src.mask f.msk.toNat).getLsbD (e / (32 / w)) && decide (e < 2048)

/-- What an operation writes gives each enabled element of VD its own value by `g`, and nothing else of VD. -/
structure VxOut.Elementwise (o : VxOut) (w : Nat) (f : VxSlot) (src : VxSrc) (g : Nat → Nat) : Prop where
  vd : o.vd = some f.vd.toNat
  data : o.data = BitVec.ofNat 2048 (packElems w ((List.range (2048 / w)).map fun e =>
    if src.enables f w e then g e else 0))
  lanes : o.lanes = BitVec.ofNat 2048 (packElems w ((List.range (2048 / w)).map fun e => ones w (src.enables f w e)))

namespace VxOut.Elementwise

variable {o : VxOut} {w e : Nat} {f : VxSlot} {src : VxSrc} {g : Nat → Nat}

theorem enabled (h : o.Elementwise w f src g) (he : e < 2048 / w)
    (hm : (src.mask f.msk.toNat).getLsbD (e / (32 / w)) = true) :
    fld o.data (w * e) w = g e % 2 ^ w ∧ fld o.lanes (w * e) w = 2 ^ w - 1 := by
  have hon : src.enables f w e = true := by
    simp [VxSrc.enables, hm, Nat.lt_of_lt_of_le he (Nat.div_le_self 2048 w)]
  rw [h.data, h.lanes, fld_packElems _ he, fld_packElems _ he, hon, if_pos rfl]
  exact ⟨rfl, Nat.mod_eq_of_lt (Nat.sub_lt (Nat.two_pow_pos w) Nat.one_pos)⟩

theorem masked (h : o.Elementwise w f src g) (he : e < 2048 / w)
    (hm : (src.mask f.msk.toNat).getLsbD (e / (32 / w)) = false) :
    fld o.data (w * e) w = 0 ∧ fld o.lanes (w * e) w = 0 := by
  have hoff : src.enables f w e = false := by simp [VxSrc.enables, hm]
  rw [h.data, h.lanes, fld_packElems _ he, fld_packElems _ he, hoff]
  exact ⟨Nat.zero_mod _, Nat.zero_mod _⟩

end VxOut.Elementwise

/-- Operand B of an element: of VB, or IMM (R134). -/
def vxOperandB (op w : Nat) (f : VxSlot) (src : VxSrc) (e : Nat) : Nat :=
  if f.imb then
    immOperand ((vxInfo op).getD ⟨false, false, false, 0, false, false, false, false, false, .none⟩).imb w f.imm.toNat
  else fld (mget zV src.v f.vb.toNat) (w * e) w

/-- The arithmetic, logic, compare and floating operations work on one element at a time (R135 to R140). -/
theorem vxCompute_elem {op : Nat} (w : Nat) (f : VxSlot) (src : VxSrc) (hop : op ≤ 0x2C) (h1A : op ≠ 0x1A)
    (h1B : op ≠ 0x1B) (h1C : op ≠ 0x1C) : (vxCompute op w f src 2048).Elementwise w f src fun e =>
      (vxElem op w (fld (mget zV src.v f.va.toNat) (w * e) w) (vxOperandB op w f src e)
        (fld (mget zV src.v f.vc.toNat) (w * e) w)).1 := by
  have h30 : op ≠ 0x30 := by omega
  have h31 : op ≠ 0x31 := by omega
  have hred : ¬ (decide (0x38 ≤ op) && decide (op ≤ 0x3D)) = true := by simp; omega
  have h3E : op ≠ 0x3E := by omega
  unfold vxCompute
  extract_lets n per info msk act va vb vc imm opB lanes lane32 vec
  rw [if_neg h1A, if_neg h1B, if_neg h1C, if_neg h30, if_neg h31, if_neg hred, if_neg h3E]
  refine ⟨rfl, ?_, rfl⟩
  simp only [vec, List.map_map, Function.comp_def, apply_ite Prod.fst]
  rfl

/-- STAT gives every lane VSTAT (R144). -/
theorem vxCompute_stat (w : Nat) (f : VxSlot) (src : VxSrc) :
    (vxCompute 0x3E w f src 2048).Elementwise w f src fun _ => src.vstat.toNat := by
  unfold vxCompute
  extract_lets n per info msk act va vb vc imm opB lanes lane32 vec
  rw [if_neg (by decide), if_neg (by decide), if_neg (by decide), if_neg (by decide), if_neg (by decide),
    if_neg (by decide), if_pos rfl]
  refine ⟨rfl, ?_, rfl⟩
  simp only [vec, List.map_map, Function.comp_def, apply_ite Prod.fst]
  rfl

/-- Settles O14: what the operation gives is packed element by element, under lanes that are packed from the mask. -/
theorem elementsGoToTheirLanes : Obligations.ElementsGoToTheirLanes := by
  intro op w e f src _ _ hop h1A h1B h1C he o a b d
  have ho : o.Elementwise w f src _ := vxCompute_elem w f src hop h1A h1B h1C
  refine ⟨ho.vd, fun hm himb => ?_, fun hm => ho.masked he hm⟩
  have hb : vxOperandB op w f src e = b := by simp [vxOperandB, himb, b]
  exact hb ▸ ho.enabled he hm

/-! ### Issue -/

/-- Each command of the table of direct operations is the direct operation of its code (R136). -/
theorem exec_vxRules (c : CoreId) (f : VxSlot) (s : State) : ∀ r ∈ vxRules, exec (r.1 c f) s = vxDirect r.2 c f s :=
  List.map_inj_left.mp rfl

/-- The latencies of the direct operations (R136). -/
theorem vxInfo_lat : ∀ r ∈ vxRules, ((vxInfo r.2).map VxInfo.lat).getD 1 = vxLatency r.2 := by decide

theorem vxLatency_pos (op : Nat) : 0 < vxLatency op := by
  unfold vxLatency
  split_ifs <;> decide

/-- The result that a direct operation leaves in flight (R145). -/
def Core.vxResult (x : Core) (op : Nat) (f : VxSlot) : VxPend :=
  let o := vxCompute op (lwBits f.lw.toNat) f x.beg.vsrc 2048
  { due := x.cur.now + ((vxInfo op).map VxInfo.lat).getD 1 - 1, issued := x.cur.now, bpc := x.cur.bpc, vd := o.vd,
    data := o.data, lanes := o.lanes, md := o.md, mbits := o.mbits, mlanes := o.mlanes, flags := o.flags,
    lutTab := if op = 0x31 then some (f.imm.toNat / 256 % 4) else none }

/-- The result that STAT leaves in flight (R144). -/
def Core.statResult (x : Core) (f : VxSlot) : VxPend :=
  let o := vxCompute 0x3E 32 f x.beg.vsrc 2048
  { due := x.cur.now + 1, issued := x.cur.now, bpc := x.cur.bpc, vd := o.vd, data := o.data, lanes := o.lanes,
    md := none, mbits := 0, mlanes := 0, flags := 0, lutTab := none }

section

variable {c : CoreId} {op : Nat} {f : VxSlot} {s : State} {x : Core}

/-- A direct operation while a run occupies the engine (R156). -/
theorem vxDirect_busy (h : s.issues c x 1 (vxWord op f)) (he : vxEncOk op (lwBits f.lw.toNat) f = true)
    (hb : x.beg.vxBusy = true) : vxDirect op c f s = .next (s.noteCause c x 0x04 1) :=
  congrArg Host.Outcome.next (State.slotOp_fault h he (if_pos hb))

/-- A direct operation of a free engine (R145). -/
theorem vxDirect_free (h : s.issues c x 1 (vxWord op f)) (he : vxEncOk op (lwBits f.lw.toNat) f = true)
    (hb : x.beg.vxBusy = false) : vxDirect op c f s =
      .next (s.putCur c x 1 { x.cur with vpend := x.cur.vpend ++ [x.vxResult op f] }) :=
  congrArg Host.Outcome.next (State.slotOp_pass h he (if_neg (Bool.eq_false_iff.mp hb)))

/-- VX.STAT of a free engine (R144). -/
theorem exec_vxStat (h : s.issues c x 1 (vxWord 0x3E f)) (he : vxEncOk 0x3E (lwBits f.lw.toNat) f = true)
    (hb : x.beg.vxBusy = false) : exec (.vxStat c f) s = .next (s.putCur c x 1 { x.cur with
      vpend := x.cur.vpend ++ [x.statResult f]
      vstat := if f.imm.getLsbD 0 then x.cur.vraise else x.cur.vstat }) := by
  refine congrArg Host.Outcome.next (State.slotOp_pass h he ((if_neg (Bool.eq_false_iff.mp hb)).trans ?_))
  cases f.imm.getLsbD 0 <;> rfl

end

/-- Settles O12: each command of the table is the direct operation of its code, which a busy engine refuses. -/
theorem vectorOperationsIssue : Obligations.VectorOperationsIssue := by
  refine ⟨fun r hr c f s x h he => ?_, fun c f s x h he => congrArg Host.Outcome.next (State.slotOp_pass h he rfl)⟩
  rw [exec_vxRules c f s r hr]
  refine ⟨vxDirect_busy h he, fun hb => ⟨x.vxResult r.2 f, vxDirect_free h he hb, rfl, ?_,
    rfl, rfl, rfl, rfl, rfl, rfl, rfl⟩⟩
  have hlat := vxInfo_lat r hr
  have hpos := vxLatency_pos r.2
  show x.cur.cyc.toNat + ((vxInfo r.2).map VxInfo.lat).getD 1 - 1 + 1 = _
  omega

/-- Settles O13: VSTAT at the start of the cycle is packed into each enabled lane, and the clear leaves what the cycle has
raised. -/
theorem statReadsStickyFlags : Obligations.StatReadsStickyFlags := by
  intro c f s x h he hb
  have hout := vxCompute_stat 32 f x.beg.vsrc
  refine ⟨x.statResult f, exec_vxStat h he hb, hout.vd, rfl, rfl, fun e hlt hm => ?_⟩
  have hlane : (x.beg.vsrc.mask f.msk.toNat).getLsbD (e / (32 / 32)) = true := by simpa using hm
  obtain ⟨hdata, hlanes⟩ := hout.enabled (by simpa using hlt) hlane
  exact ⟨hdata.trans (Nat.mod_eq_of_lt (Nat.lt_trans x.beg.vstat.isLt (by decide))), hlanes⟩

/-! ### Saturating arithmetic -/

/-- A signed lane is the integer of its bits. -/
theorem sgn_eq_laneInt (w a : Nat) : sgn w a = laneInt w true a := by
  simp [sgn, laneInt, BitVec.toInt]

/-- What saturation makes of an exact result: itself within the bounds of the lane, and else the nearer one with SAT
(R137). -/
def Saturates (w : Nat) (signed : Bool) (x : Int) (y : Nat × BitVec 3) : Prop :=
  ((laneBounds w signed).1 ≤ x → x ≤ (laneBounds w signed).2 → laneInt w signed y.1 = x ∧ y.2 = 0) ∧
  (x < (laneBounds w signed).1 → laneInt w signed y.1 = (laneBounds w signed).1 ∧ y.2 = vSat) ∧
  ((laneBounds w signed).2 < x → laneInt w signed y.1 = (laneBounds w signed).2 ∧ y.2 = vSat)

/-- A number in the signed range of a lane is what its two's complement reads as. -/
theorem laneInt_wrapI {w : Nat} {x : Int} (hw : 0 < w) (hlo : -2 ^ (w - 1) ≤ x) (hhi : x ≤ 2 ^ (w - 1) - 1) :
    laneInt w true (wrapI w x) = x := by
  have hbits : BitVec.ofNat w (wrapI w x) = BitVec.ofInt w x := by
    apply BitVec.eq_of_toNat_eq
    rw [BitVec.toNat_ofNat, BitVec.toNat_ofInt, wrapI]
    exact Nat.mod_eq_of_lt (by omega)
  rw [laneInt, if_pos rfl, hbits]
  exact BitVec.toInt_ofInt_eq_self hw hlo (by omega)

theorem satS_saturates {w : Nat} (hw : 0 < w) (x : Int) : Saturates w true x (satS w x) := by
  have hpos : (0 : Int) < 2 ^ (w - 1) := by positivity
  simp only [Saturates, laneBounds, satS, if_true]
  refine ⟨fun hlo hhi => ?_, fun hlt => ?_, fun hgt => ?_⟩
  · rw [if_neg (by omega), if_neg (by omega)]
    exact ⟨laneInt_wrapI hw hlo hhi, rfl⟩
  · rw [if_neg (by omega), if_pos hlt]
    exact ⟨laneInt_wrapI hw (by omega) (by omega), rfl⟩
  · rw [if_pos hgt]
    exact ⟨laneInt_wrapI hw (by omega) (by omega), rfl⟩

theorem satU_saturates (w : Nat) (x : Int) : Saturates w false x (satU w x) := by
  have hpos : (0 : Int) < 2 ^ w := by positivity
  simp only [Saturates, laneBounds, satU, laneInt, Bool.false_eq_true, if_false]
  refine ⟨fun hlo hhi => ?_, fun hlt => ?_, fun hgt => ?_⟩
  · rw [if_neg (by omega), if_neg (by omega)]
    exact ⟨Int.toNat_of_nonneg hlo, rfl⟩
  · rw [if_pos hlt]
    exact ⟨rfl, rfl⟩
  · rw [if_neg (by omega), if_pos hgt]
    exact ⟨by rw [Nat.cast_sub (Nat.one_le_two_pow)]; simp, rfl⟩

/-- The operations of the table saturate their exact result (R136, R137). -/
theorem vxElem_satRules (w a b d : Nat) : ∀ r ∈ satRules, vxElem r.1 w a b d =
    (if r.2.1 then satS else satU) w (r.2.2 (laneInt w r.2.1 a) (laneInt w r.2.1 b)) := by
  simp only [satRules, List.forall_mem_cons, ← sgn_eq_laneInt]
  exact ⟨rfl, rfl, rfl, rfl, rfl, rfl, List.forall_mem_nil _⟩

/-- Settles O15: each operation of the table saturates its exact result, and each saturation has its bounds. -/
theorem integerArithmeticSaturates : Obligations.IntegerArithmeticSaturates := by
  intro r hr w hw a b d _ _
  have hpos : 0 < w := by
    simp only [List.mem_cons, List.not_mem_nil, or_false] at hw
    omega
  dsimp only
  rw [vxElem_satRules w a b d r hr]
  cases r.2.1 with
  | true => exact satS_saturates hpos _
  | false => exact satU_saturates w _

end Sys2Proof.Machine
end

section
/-! PROOFS. Lane programs: their loads and runs issue, and a run is checked, iterates and ends (R148, R150, R152 to R157,
R202). -/

namespace Sys2Proof.Machine

open Sys2Proof

/-! ### Fields merged into a register -/

section

variable {w : Nat} (old : BitVec w)

/-- A merge takes the bits of its lanes, and leaves the others. -/
theorem getLsbD_mergeBits (new lanes : BitVec w) (i : Nat) :
    (mergeBits old new lanes).getLsbD i = if lanes.getLsbD i then new.getLsbD i else old.getLsbD i := by
  by_cases hi : i < w
  · simp only [mergeBits, BitVec.getLsbD_or, BitVec.getLsbD_and, BitVec.getLsbD_not, hi, decide_true, Bool.true_and]
    cases lanes.getLsbD i <;> simp
  · simp [BitVec.getLsbD_of_ge _ i (Nat.le_of_not_lt hi)]

/-- The register with the field of `n` bits from bit `lo` on replaced. -/
def mergeField (lo : Nat) {n : Nat} (d : BitVec n) : BitVec w :=
  mergeBits old (BitVec.ofNat w (d.toNat * 2 ^ lo)) (BitVec.ofNat w ((2 ^ n - 1) * 2 ^ lo))

variable {n lo : Nat} (d : BitVec n)

theorem getLsbD_mergeField {i : Nat} (hi : i < w) : (mergeField old lo d).getLsbD i =
    if lo ≤ i ∧ i < lo + n then d.getLsbD (i - lo) else old.getLsbD i := by
  rw [mergeField, getLsbD_mergeBits]
  simp only [BitVec.getLsbD_ofNat, Nat.testBit_mul_two_pow, Nat.testBit_two_pow_sub_one, hi, decide_true, Bool.true_and,
    BitVec.testBit_toNat, Bool.and_eq_true, decide_eq_true_eq]
  by_cases hlo : lo ≤ i
  · simp [hlo, Nat.sub_lt_iff_lt_add' hlo]
  · simp [hlo]

/-- The field that is merged. -/
theorem extractLsb'_mergeField_same (h : lo + n ≤ w) : (mergeField old lo d).extractLsb' lo n = d := by
  refine BitVec.eq_of_getLsbD_eq fun i hi => ?_
  rw [BitVec.getLsbD_extractLsb', getLsbD_mergeField old d (by omega)]
  simp [hi]

/-- Another field. -/
theorem extractLsb'_mergeField_other {m k : Nat} (hfit : m + k ≤ w) (h : m + k ≤ lo ∨ lo + n ≤ m) :
    (mergeField old lo d).extractLsb' m k = old.extractLsb' m k := by
  refine BitVec.eq_of_getLsbD_eq fun i hi => ?_
  have hout : ¬ (lo ≤ m + i ∧ m + i < lo + n) := by omega
  rw [BitVec.getLsbD_extractLsb', BitVec.getLsbD_extractLsb', getLsbD_mergeField old d (by omega), if_neg hout]

end

/-! ### VX.PLOAD and VX.RUN -/

/-- Whether row reads conflict depends on the cycle and the bank uses alone (R191). -/
theorem CoreSt.readRows_bad_congr (bpc slot : Nat) (rows : List Nat) {x y : CoreSt} (hcyc : x.cyc = y.cyc)
    (hbanks : x.banks = y.banks) : (x.readRows bpc slot rows).2.2 = (y.readRows bpc slot rows).2.2 := by
  induction rows generalizing x y with
  | nil => rfl
  | cons a rows ih =>
    have hnow : x.now = y.now := congrArg BitVec.toNat hcyc
    have hcyc' (z : CoreSt) : (z.readRow bpc slot 0 a .none).1.cyc = z.cyc := by
      obtain ⟨b, hread⟩ := CoreSt.readRow_eq z bpc slot 0 a .none
      rw [hread]
    have hbanks' : (x.readRow bpc slot 0 a .none).1.banks = (y.readRow bpc slot 0 a .none).1.banks := by
      simp only [CoreSt.readRow, CoreSt.useBank, hnow, hbanks]
      split
      · exact hbanks
      · rfl
    have hrest := ih (((hcyc' x).trans hcyc).trans (hcyc' y).symm) hbanks'
    simp only [CoreSt.readRows, CoreSt.readRow_bad, hnow, hbanks, hrest]

/-- The reads of a program load in its issue cycle conflict as its rows do (R191). -/
theorem CoreSt.ploadRead_bad (y : CoreSt) (p a bpc : Nat) :
    (y.ploadRead y.now p a bpc).2 = (y.readRows bpc 1 (rowsFrom a 4)).2.2 := by
  simp only [CoreSt.ploadRead, Nat.sub_self, Nat.mul_zero, Nat.add_zero]

/-- A program slot whose lowest quarter holds the first four rows of a program (R148). -/
def CoreSt.firstQuarter (y : CoreSt) (p a : Nat) : BitVec 4096 :=
  mergeField (mget (fun _ => (0 : BitVec 4096)) y.prog p) 0
    (catRows 1024 ((rowsFrom a 4).map fun k => (y.viewRow y.now k).1))

theorem CoreSt.firstQuarter_low (y : CoreSt) (p a : Nat) : (y.firstQuarter p a).extractLsb' 0 1024 =
    catRows 1024 ((rowsFrom a 4).map fun k => (y.viewRow y.now k).1) :=
  extractLsb'_mergeField_same _ _ (by decide)

theorem CoreSt.firstQuarter_high (y : CoreSt) (p a : Nat) : (y.firstQuarter p a).extractLsb' 1024 3072 =
    (mget (fun _ => (0 : BitVec 4096)) y.prog p).extractLsb' 1024 3072 :=
  extractLsb'_mergeField_other _ _ (by decide) (by decide)

/-- In its issue cycle a program load fills the lowest quarter of its slot (R148). -/
theorem CoreSt.ploadRead_first (y : CoreSt) (p a bpc : Nat) :
    ∃ r b, (y.ploadRead y.now p a bpc).1 = { y with
      reads := r
      banks := b
      prog := mset (fun _ => (0 : BitVec 4096)) y.prog p (y.firstQuarter p a) } := by
  obtain ⟨r, b, hread⟩ := CoreSt.readRows_eq bpc 1 (rowsFrom a 4) y
  refine ⟨r, b, ?_⟩
  simp only [CoreSt.ploadRead, Nat.sub_self, Nat.mul_zero, Nat.add_zero, CoreSt.readRows_data, hread]
  rfl

section

variable {c : CoreId} {f : VxAddr} {s : State} {x : Core}

/-- VX.PLOAD without a conflict, inside the scratchpad and with no run (R148, R191, R596). -/
theorem exec_vxPload (h : s.issues c x 1 (vxAddrWord 0x2E f)) (hrsv : f.rsv = 0) (htop : f.addr.toNat + 15 ≤ 4095)
    (hrun : x.beg.run = none) (hbad : (x.cur.readRows x.cur.bpc 1 (rowsFrom f.addr.toNat 4)).2.2 = false) :
    ∃ r b, exec (.vxPload c f) s = .next (s.putCur c x 1 { x.cur with
      reads := r
      banks := b
      prog := mset (fun _ => (0 : BitVec 4096)) x.cur.prog f.p.toNat (x.cur.firstQuarter f.p.toNat f.addr.toNat)
      pload := x.cur.pload ++ [(x.cur.now, f.p.toNat, f.addr.toNat, x.cur.bpc)] }) := by
  let y : CoreSt := { x.cur with pload := x.cur.pload ++ [(x.cur.now, f.p.toNat, f.addr.toNat, x.cur.bpc)] }
  obtain ⟨r, b, hread⟩ := CoreSt.ploadRead_first y f.p.toNat f.addr.toNat x.cur.bpc
  have hfree : (y.ploadRead y.now f.p.toNat f.addr.toNat x.cur.bpc).2 = false :=
    (CoreSt.ploadRead_bad y _ _ _).trans ((CoreSt.readRows_bad_congr (x := y) (y := x.cur) _ _ _ rfl rfl).trans hbad)
  refine ⟨r, b, congrArg Host.Outcome.next (State.slotOp_pass h (by simp [hrsv]) ?_)⟩
  dsimp only
  rw [hrun, if_neg Bool.false_ne_true, if_neg (Nat.not_lt.mpr htop), if_neg (by decide)]
  change (if (y.ploadRead y.now f.p.toNat f.addr.toNat x.cur.bpc).2 = true then _ else _) = _
  rw [hfree, if_neg Bool.false_ne_true]
  exact congrArg (Prod.mk []) hread

/-- VX.RUN of a free engine, without a conflict (R150, R155). -/
theorem exec_vxRun (h : s.issues c x 1 (vxAddrWord 0x2F f)) (hrsv : f.rsv = 0) (hp : f.p = 0)
    (hbusy : x.beg.vxBusy = false) (hfree : x.cur.readFree f.addr.toNat) :
    ∃ r b, exec (.vxRun c f) s = .next (s.putCur c x 1 { x.cur with
      reads := r
      banks := b
      run := some { issued := x.cur.now, bpc := x.cur.bpc, desc := (x.cur.viewRow x.cur.now f.addr.toNat).1,
                    checked := false, trun := 0, iter := 0, inRows := [], outRows := [] } }) := by
  obtain ⟨b, hread⟩ := CoreSt.readRow_eq x.cur x.cur.bpc 1 0 f.addr.toNat .none
  refine ⟨(x.cur.readRow x.cur.bpc 1 0 f.addr.toNat .none).1.reads, b,
    congrArg Host.Outcome.next (State.slotOp_pass h (by simp [hrsv, hp]) ?_)⟩
  dsimp only
  rw [hbusy, if_neg Bool.false_ne_true, CoreSt.readRow_bad, hfree, if_neg Bool.false_ne_true, CoreSt.readRow_data, hread]
  rfl

/-- VX.RUN of an engine that a run occupies (R156). -/
theorem exec_vxRun_busy (h : s.issues c x 1 (vxAddrWord 0x2F f)) (hrsv : f.rsv = 0) (hp : f.p = 0)
    (hbusy : x.beg.vxBusy = true) : exec (.vxRun c f) s = .next (s.noteCause c x 0x04 1) :=
  congrArg Host.Outcome.next (State.slotOp_fault h (by simp [hrsv, hp]) (if_pos hbusy))

end

/-- Settles O21: a load adds its reads and merges the first quarter of its slot; a run adds the read of its descriptor. -/
theorem laneProgramsIssue : Obligations.LaneProgramsIssue := by
  intro c f s x n a old
  subst n a old
  refine ⟨fun h hrsv htop hrun hbad => ?_, exec_vxRun, exec_vxRun_busy⟩
  obtain ⟨r, b, hexec⟩ := exec_vxPload h hrsv htop hrun hbad
  exact ⟨r, b, _, hexec, CoreSt.firstQuarter_low _ _ _, CoreSt.firstQuarter_high _ _ _⟩

/-! ### The check of a run -/

section

variable {y : CoreSt} {r : RunSt}

/-- The check of a run whose descriptor has come without poison and whose program was loaded in time (R148, R157). -/
theorem CoreSt.runCheck_due (hrun : y.run = some r) (hchk : r.checked = false) (hdue : r.issued + 6 ≤ y.now)
    (hclean : ∀ z ∈ y.reads, z.poison = true → z.issued = r.issued → z.slot ≠ 1)
    (hload : ∀ z ∈ y.pload, z.2.1 = runProg r.desc → z.1 + 10 ≤ r.issued) : y.runCheck =
      if runOk r.desc (mget (fun _ => (0 : BitVec 4096)) y.prog (runProg r.desc)) then
        ({ y with run := some { r with checked := true, trun := runLen r.desc } }, [])
      else (y, [⟨0x04, r.bpc, 1⟩]) := by
  have hpoison : (y.reads.any fun z => z.poison && z.issued == r.issued && z.slot == 1) = false := by
    simpa [List.any_eq_false] using hclean
  have hearly : (y.pload.any fun z => z.2.1 == runProg r.desc && decide (r.issued < z.1 + 10)) = false := by
    simpa [List.any_eq_false] using hload
  unfold CoreSt.runCheck
  rw [hrun]
  dsimp only
  rw [if_neg (by simp [hchk, hdue]), hpoison, hearly, if_neg Bool.false_ne_true, Bool.not_false, Bool.and_true]

end

/-! ### An iteration -/

/-- A core without its vector and mask registers and its sticky flags. -/
def CoreSt.besideVx (y : CoreSt) : CoreSt := { y with vreg := [], mask := [], vstat := 0, vraise := 0 }

/-- Cores that agree beside the vector registers, the masks and the sticky flags, and go on with one run, differ in those
alone. -/
theorem CoreSt.withRun_eq_of_besideVx {x y : CoreSt} (h : y.besideVx = x.besideVx) (q : Option RunSt) :
    { y with run := q } =
      { x with vreg := y.vreg, mask := y.mask, vstat := y.vstat, vraise := y.vraise, run := q } :=
  congrArg (fun z : CoreSt =>
    { z with vreg := y.vreg, mask := y.mask, vstat := y.vstat, vraise := y.vraise, run := q }) h

section

variable (y : CoreSt)

theorem CoreSt.mergeM_besideVx (r : Nat) (d lanes : W64) : (y.mergeM r d lanes).besideVx = y.besideVx := by
  unfold CoreSt.mergeM
  split <;> rfl

theorem CoreSt.vxWrite_besideVx (p : VxPend) : (y.vxWrite p).besideVx = y.besideVx := by
  unfold CoreSt.vxWrite
  extract_lets t u
  calc (u.raise p.flags).besideVx = u.besideVx := rfl
    _ = t.besideVx := by
      unfold u
      split
      · exact CoreSt.mergeM_besideVx _ _ _ _
      · rfl
    _ = y.besideVx := by
      unfold t
      split <;> rfl

theorem CoreSt.runOp_besideVx (op lw : Nat) (f : VxSlot) (valid : Nat) :
    (y.runOp op lw f valid).besideVx = y.besideVx := by
  unfold CoreSt.runOp
  split
  · rfl
  · exact CoreSt.vxWrite_besideVx _ _

/-- An iteration changes vector registers, masks and sticky flags, and the rows of its run (R152 to R154). -/
theorem CoreSt.runIterate_eq (r : RunSt) : ∃ v m st ra i o, y.runIterate r = { y with
    vreg := v
    mask := m
    vstat := st
    vraise := ra
    run := some { r with iter := r.iter + 1, inRows := i, outRows := r.outRows ++ o } } := by
  unfold CoreSt.runIterate
  extract_lets d lw m valid p
  dsimp -zeta only
  extract_lets z outs
  have hz : z.besideVx = y.besideVx := by
    refine (foldl_keeps CoreSt.besideVx (fun u k => u.runOp_besideVx (progOp p k).1 lw (progOp p k).2 valid) _ _).trans ?_
    refine foldl_keeps (fun acc : CoreSt × List Row => acc.1.besideVx) (fun acc x => ?_) (runIns d) (y, r.inRows)
    rfl
  exact ⟨z.vreg, z.mask, z.vstat, z.vraise, _, outs, CoreSt.withRun_eq_of_besideVx hz _⟩

end

/-! ### The course of a run -/

section

variable {c : CoreId} {s : State} {r : RunSt}

/-- A run whose check finds no fault goes on. -/
theorem exec_runDescriptorCheck_passes (hgo : (s.cur c).goes) {y : CoreSt} (h : (s.cur c).runCheck = (y, [])) :
    exec (.runDescriptorCheck c) s = .next (s.modCur c fun _ => y) := by
  show execRunDescriptorCheck c s = _
  unfold execRunDescriptorCheck
  dsimp only
  rw [if_pos (show (s.core c).cur.active = true from CoreSt.active_of_goes hgo),
    show (s.core c).cur.runCheck = (y, []) from h]

/-- A run that fails its check faults its core with the other causes of the cycle, once the bundle of the cycle has issued
whole (R202, R203). -/
theorem exec_runDescriptorCheck_fails (hgo : (s.cur c).goes) {y : CoreSt} {k : Cause}
    (h : (s.cur c).runCheck = (y, [k])) : exec (.runDescriptorCheck c) s =
      .next (if (s.core c).bundleDone then s.coreFault c ((s.core c).cycleCauses ++ [k]) else s) := by
  show execRunDescriptorCheck c s = _
  unfold execRunDescriptorCheck
  dsimp only
  rw [if_pos (show (s.core c).cur.active = true from CoreSt.active_of_goes hgo),
    show (s.core c).cur.runCheck = (y, [k]) from h]

theorem CoreSt.iterStep_due {y : CoreSt} (hrun : y.run = some r) (hchk : r.checked = true)
    (hiter : r.iter < runIters r.desc)
    (hdue : r.issued + 12 + runTin r.desc + r.iter * runI r.desc + runNops r.desc - 1 ≤ y.now) :
    y.iterStep = y.runIterate r := by
  simp [CoreSt.iterStep, CoreSt.iterDue, hrun, hchk, hiter, hdue]

theorem CoreSt.runEnd_due {y : CoreSt} (hrun : y.run = some r) (hchk : r.checked = true)
    (hend : r.issued + r.trun ≤ y.now + 1) : y.runEnd = { y with run := none } := by
  simp [CoreSt.runEnd, hrun, hchk, hend]

end

/-- Settles O22: the check answers by `runOk`, an iteration leaves what lies beside the vector registers, masks and sticky
flags, and the end frees the engine. -/
theorem runsTakeTheirCourse : Obligations.RunsTakeTheirCourse := by
  intro c s r x p hgo hcauses hrun
  refine ⟨fun hchk hdue hclean hload => ?_, fun hchk hiter hdue =>
    ⟨State.modCur_of_goes hgo (CoreSt.iterStep_due hrun hchk hiter hdue), x.runIterate_eq r⟩,
    fun hchk hend => State.modCur_of_goes hgo (CoreSt.runEnd_due hrun hchk hend)⟩
  have hcheck := CoreSt.runCheck_due hrun hchk hdue hclean hload
  refine ⟨fun hok => ?_, fun hok hdone => ?_, fun hok hdone => ⟨?_, fun htabs => ?_⟩⟩
  · exact exec_runDescriptorCheck_passes hgo (hcheck.trans (if_pos hok))
  · rw [exec_runDescriptorCheck_fails hgo (hcheck.trans (if_neg (Bool.eq_false_iff.mp hok))), hdone]
    rfl
  · rw [exec_runDescriptorCheck_fails hgo (hcheck.trans (if_neg (Bool.eq_false_iff.mp hok))), hdone]
    rfl
  · rw [Core.cycleCauses_of_tabs_nil htabs]
    exact congrArg (List.map _) hcauses

end Sys2Proof.Machine
end

section
/-! PROOFS. The register writes that are due at the end of a cycle: a direct result, a load of the scratchpad, and a
write-back (R144 to R146, R167, R192, R195). -/

namespace Sys2Proof.Machine

open Sys2Proof

/-! ### What is due -/

section

variable {α : Type} {l : List α} {due key : α → Bool}

/-- Where one element is due, a step of its key takes that one and leaves all that is not due. -/
theorem filter_due_key {a : α} (h : l.filter due = [a]) (hk : key a = true) :
    l.filter (fun z => due z && key z) = [a] ∧
      l.filter (fun z => !(due z && key z)) = l.filter fun z => !due z := by
  have hkey : ∀ z ∈ l, due z = true → key z = true := fun z hz hd => by
    have hza : z ∈ [a] := h ▸ List.mem_filter.mpr ⟨hz, hd⟩
    rw [List.mem_singleton.mp hza, hk]
  have hand : ∀ z ∈ l, (due z && key z) = due z := fun z hz => by
    cases hd : due z with
    | false => rfl
    | true => exact hkey z hz hd
  exact ⟨(List.filter_congr hand).trans h, List.filter_congr fun z hz => congrArg (!·) (hand z hz)⟩

/-- Where nothing is due, a step of any key takes nothing. -/
theorem filter_none_due (h : l.filter due = []) :
    l.filter (fun z => due z && key z) = [] ∧ l.filter (fun z => !(due z && key z)) = l := by
  have hnot : ∀ z ∈ l, due z = false := fun z hz => Bool.eq_false_iff.mpr (List.filter_eq_nil_iff.mp h z hz)
  exact ⟨List.filter_eq_nil_iff.mpr fun z hz => by simp [hnot z hz],
    List.filter_eq_self.mpr fun z hz => by simp [hnot z hz]⟩

end

section

variable {y : CoreSt}

/-- The results in flight that are due. -/
def CoreSt.dueResults (y : CoreSt) : List VxPend := y.vpend.filter fun z => decide (z.due ≤ y.now)

/-- The reads in flight that are due. -/
def CoreSt.dueReads (y : CoreSt) : List LspRead := y.reads.filter fun z => decide (z.issued + 6 ≤ y.now)

theorem CoreSt.dueResults_eq_nil (h : ∀ z ∈ y.vpend, y.now < z.due) : y.dueResults = [] :=
  List.filter_eq_nil_iff.mpr fun z hz => by simp [h z hz]

theorem CoreSt.dueReads_eq_nil (h : ∀ z ∈ y.reads, y.now < z.issued + 6) : y.dueReads = [] :=
  List.filter_eq_nil_iff.mpr fun z hz => by simp [h z hz]

/-- The core without the results that are due. -/
def CoreSt.takeResults (y : CoreSt) : CoreSt := { y with vpend := y.vpend.filter fun z => decide (y.now < z.due) }

/-- The core without the reads that are due. -/
def CoreSt.takeReads (y : CoreSt) : CoreSt := { y with reads := y.reads.filter fun z => decide (y.now < z.issued + 6) }

/-- Register writes up to the first of a kind begin with that one where it is the next. -/
theorem CoreSt.regUntil_next {p : CoreSt → Bool} {n : Nat} (h : p y = true) (hn : 0 < n) :
    CoreSt.regUntil p n y = y.regStep := by
  obtain ⟨n, rfl⟩ := Nat.exists_eq_succ_of_ne_zero hn.ne'
  exact if_pos h

/-- The key of the one result that is due beside no load is the next. -/
theorem CoreSt.nextKey_result {p : VxPend} (hv : y.dueResults = [p]) (hr : y.dueReads = []) :
    y.nextKey = some (wkey p.issued 3) := by
  unfold CoreSt.nextKey
  rw [show y.vpend.filter _ = [p] from hv, show y.reads.filter _ = [] from hr]
  rfl

/-- The key of the one load that is due beside no result is the next. -/
theorem CoreSt.nextKey_load {q : LspRead} (hv : y.dueResults = []) (hr : y.dueReads = [q]) :
    y.nextKey = some (wkey q.issued q.rank) := by
  unfold CoreSt.nextKey
  rw [show y.vpend.filter _ = [] from hv, show y.reads.filter _ = [q] from hr]
  rfl

/-- The one result that is due beside no load takes effect (R145, R146). -/
theorem CoreSt.regStep_result {p : VxPend} (hv : y.dueResults = [p]) (hr : y.dueReads = []) :
    y.regStep = y.takeResults.vxWrite p := by
  obtain ⟨hvs, hvrest⟩ := filter_due_key (key := fun z => wkey z.issued 3 == wkey p.issued 3) hv (by simp)
  obtain ⟨hrs, hrrest⟩ := filter_none_due (key := fun z => wkey z.issued z.rank == wkey p.issued 3) hr
  unfold CoreSt.regStep
  rw [CoreSt.nextKey_result hv hr]
  dsimp only
  rw [hvs, hvrest, hrs, hrrest]
  simp only [CoreSt.takeResults, ← decide_not, Nat.not_le, List.foldl_cons, List.foldl_nil]

/-- The one load that is due beside no result writes its register (R167, R192). -/
theorem CoreSt.regStep_load {q : LspRead} (hv : y.dueResults = []) (hr : y.dueReads = [q]) :
    y.regStep = y.takeReads.loadWrite q := by
  obtain ⟨hvs, hvrest⟩ := filter_none_due (key := fun z => wkey z.issued 3 == wkey q.issued q.rank) hv
  obtain ⟨hrs, hrrest⟩ := filter_due_key (key := fun z => wkey z.issued z.rank == wkey q.issued q.rank) hr (by simp)
  unfold CoreSt.regStep
  rw [CoreSt.nextKey_load hv hr]
  dsimp only
  rw [hvs, hvrest, hrs, hrrest]
  simp only [CoreSt.takeReads, ← decide_not, Nat.not_le, List.foldl_cons, List.foldl_nil]

/-- What is due is in flight. -/
theorem CoreSt.mem_vpend_of_dueResults {p : VxPend} (h : y.dueResults = [p]) : p ∈ y.vpend ∧ p.due ≤ y.now := by
  have hp : p ∈ y.dueResults := h ▸ List.mem_singleton_self p
  simpa [CoreSt.dueResults] using hp

theorem CoreSt.mem_reads_of_dueReads {q : LspRead} (h : y.dueReads = [q]) : q ∈ y.reads ∧ q.issued + 6 ≤ y.now := by
  have hq : q ∈ y.dueReads := h ▸ List.mem_singleton_self q
  simpa [CoreSt.dueReads] using hq

/-- Where no write of the scratchpad is due, none takes effect (R189). -/
theorem CoreSt.commitWrites_none (h : ∀ z ∈ y.writes, y.now < z.due) : y.commitWrites = y := by
  have hdue : y.writes.filter (fun z => decide (z.due ≤ y.now)) = [] :=
    List.filter_eq_nil_iff.mpr fun z hz => by simp [h z hz]
  have hrest : y.writes.filter (fun z => !decide (z.due ≤ y.now)) = y.writes :=
    List.filter_eq_self.mpr fun z hz => by simp [h z hz]
  unfold CoreSt.commitWrites
  rw [hdue, hrest]
  rfl

end

/-! ### The events -/

section

variable {c : CoreId} {s : State}

/-- VX_RESULT_WRITE with one result due, beside no load (R145, R146). -/
theorem exec_vxResultWrite (hgo : (s.cur c).goes) {p : VxPend} (hv : (s.cur c).dueResults = [p])
    (hr : (s.cur c).dueReads = []) :
    exec (.vxResultWrite c) s = .next (s.modCur c fun y => y.takeResults.vxWrite p) := by
  obtain ⟨hmem, hdue⟩ := CoreSt.mem_vpend_of_dueResults hv
  have hany : ((s.cur c).vpend.any fun z => decide (z.due ≤ (s.cur c).now)) = true :=
    List.any_eq_true.mpr ⟨p, hmem, by simpa using hdue⟩
  have hnext : (s.cur c).vxNext = true :=
    List.any_eq_true.mpr ⟨p, hmem, by simp [hdue, CoreSt.nextKey_result hv hr]⟩
  have hfuel : 0 < (s.cur c).vpend.length + (s.cur c).reads.length := Nat.add_pos_left (List.length_pos_of_mem hmem) _
  show execVxResultWrite c s = _
  unfold execVxResultWrite
  dsimp only
  rw [CoreSt.active_of_goes hgo, hany, Bool.and_self, if_pos rfl]
  exact congrArg _ (State.modCur_congr ((CoreSt.regUntil_next hnext hfuel).trans (CoreSt.regStep_result hv hr)))

/-- LSP_LOAD_DELIVERY with one load due, beside no result and no write of the scratchpad (R168, R192). -/
theorem exec_lspLoadDelivery (hgo : (s.cur c).goes) (hc : (s.cur c).causes = []) {q : LspRead}
    (hr : (s.cur c).dueReads = [q]) (hv : (s.cur c).dueResults = [])
    (hw : ∀ z ∈ (s.cur c).writes, (s.cur c).now < z.due) (hq : q.dst ≠ .none) :
    exec (.lspLoadDelivery c) s = .next (s.modCur c fun y => y.takeReads.loadWrite q) := by
  obtain ⟨hmem, hdue⟩ := CoreSt.mem_reads_of_dueReads hr
  have hany : ((s.cur c).reads.any fun z => decide (z.issued + 6 ≤ (s.cur c).now) && z.dst != .none) = true :=
    List.any_eq_true.mpr ⟨q, hmem, by simp [hdue, hq]⟩
  have hnext : (s.cur c).loadNext = true :=
    List.any_eq_true.mpr ⟨q, hmem, by simp [hdue, hq, CoreSt.nextKey_load hv hr]⟩
  have hfuel : 0 < (s.cur c).vpend.length + (s.cur c).reads.length := Nat.add_pos_right _ (List.length_pos_of_mem hmem)
  show execLspLoadDelivery c s = _
  unfold execLspLoadDelivery
  dsimp only
  rw [CoreSt.active_of_goes hgo, hc, if_neg (by decide)]
  refine congrArg _ (State.modCur_congr ?_)
  rw [CoreSt.commitWrites_none hw, if_pos hany]
  exact (CoreSt.regUntil_next hnext hfuel).trans (CoreSt.regStep_load hv hr)

end

/-- A merge under every lane gives the new value. -/
theorem mergeBits_allOnes {w : Nat} (old new : BitVec w) : mergeBits old new (BitVec.allOnes w) = new := by
  simp [mergeBits]

/-- Settles O23: what is due alone is the next register write, which its event makes; each destination has its own. -/
theorem registerWritesTakeEffect : Obligations.RegisterWritesTakeEffect := by
  intro c s x
  refine ⟨fun hgo p r hv hreads hvd hmd => ?_, fun hgo hc q hr hvpend hw => ?_, fun row => rfl⟩
  · rw [exec_vxResultWrite hgo hv (CoreSt.dueReads_eq_nil hreads)]
    simp only [CoreSt.vxWrite, hvd, hmd]
    rfl
  · have hload := exec_lspLoadDelivery hgo hc hr (CoreSt.dueResults_eq_nil hvpend) hw
    refine ⟨fun r w hq hr0 hranks => ?_, fun r k hq => ?_, fun r k hq hr0 => ?_⟩
    · rw [hload (by simp [hq])]
      have hkeeps : ((s.cur c).takeReads.sranks.any fun z => z.1 == r) = false :=
        List.any_eq_false.mpr fun z hz => by simpa using hranks z hz
      refine congrArg _ (State.modCur_congr ?_)
      simp only [CoreSt.loadWrite, hq, CoreSt.loadS]
      exact if_neg (by simp [hr0, hkeeps])
    · refine ⟨mergeField (mget zV x.vreg r) (256 * k) q.data, (hload (by simp [hq])).trans ?_, fun hk =>
        ⟨extractLsb'_mergeField_same _ _ (by omega), fun i hi hne =>
          extractLsb'_mergeField_other _ _ (by omega) (by omega)⟩⟩
      refine congrArg _ (State.modCur_congr ?_)
      simp only [CoreSt.loadWrite, hq]
      rfl
    · refine ⟨_, (hload (by simp [hq])).trans ?_, rfl⟩
      refine congrArg _ (State.modCur_congr ?_)
      simp only [CoreSt.loadWrite, hq, CoreSt.mergeM, if_neg hr0, mergeBits_allOnes]
      rfl

end Sys2Proof.Machine
end

section
/-! PROOFS. The SEQ slot on a core that issues: scalar operations, branches and loops, the counters, the mailbox operations
and END (R167, R169 to R175, R336, R337, R396, R517), and the bundle that follows (R171, R172). -/

namespace Sys2Proof.Machine

open Sys2Proof

/-! ### What a SEQ operation does -/

section

/-- A SEQ operation whose registers hold no parity error delivers no poison (R517). -/
theorem seq_reads_clean {op : Nat} {f : SeqSlot} {y : CoreSt} (ha : y.sBad f.sa.toNat = false)
    (hb : y.sBad f.sb.toNat = false) (hd : op = 0x19 → y.sBad f.sd.toNat = false) :
    ¬ (y.sBad f.sa.toNat || y.sBad f.sb.toNat || (op == 0x19 && y.sBad f.sd.toNat)) = true := by
  simpa [ha, hb] using hd

variable {op code : Nat} {c : CoreId} {f : SeqSlot} {s : State} {x : Core} {y : CoreSt}
  {k : CoreSt → CoreSt → List Nat × CoreSt} (h : s.issues c x 2 (seqWord op f)) (he : seqEncOk op f = true)

include h he

/-- A SEQ operation that reads SA or SB with a parity error raises POISON (R517). -/
theorem seqOp_parity (hbad : x.beg.sBad f.sa.toNat = true ∨ x.beg.sBad f.sb.toNat = true) :
    seqOp op c f s k = s.noteCause c x 0x0D 2 :=
  State.slotOp_fault h he (if_pos (by simp [hbad]))

variable (ha : x.beg.sBad f.sa.toNat = false) (hb : x.beg.sBad f.sb.toNat = false)
  (hd : op = 0x19 → x.beg.sBad f.sd.toNat = false)

include ha hb hd

/-- A SEQ operation without a parity error has its effect (R166, R170). -/
theorem seqOp_pass (hk : k x.beg x.cur = ([], y)) : seqOp op c f s k = s.putCur c x 2 y :=
  State.slotOp_pass h he ((if_neg (seq_reads_clean ha hb hd)).trans hk)

/-- A SEQ operation without a parity error notes the cause that its effect raises (R202). -/
theorem seqOp_fault (hk : k x.beg x.cur = ([code], y)) : seqOp op c f s k = s.noteCause c x code 2 :=
  State.slotOp_fault h he ((if_neg (seq_reads_clean ha hb hd)).trans hk)

end

/-! ### Scalar operations -/

/-- The shift amounts of the encoding are below 32 (R170). -/
theorem shiftImm_lt {op : Nat} {f : SeqSlot} (hop : 0x0A ≤ op ∧ op ≤ 0x0C) (he : seqEncOk op f = true) :
    f.imm.toNat % 32 = f.imm.toNat := by
  obtain ⟨hlo, hhi⟩ := hop
  interval_cases op <;> simp [seqEncOk, seqUses] at he <;> omega

/-- Each command of the table of scalar operations computes the result of the table (R170). -/
theorem exec_seqRules_result {r : (CoreId → SeqSlot → Instr) × Nat × (SeqSlot → W32 → W32 → W32)}
    (hr : r ∈ seqRules) (c : CoreId) (f : SeqSlot) (s : State) (he : seqEncOk r.2.1 f = true) :
    exec (r.1 c f) s = seqArith r.2.1 c f s (r.2.2 f) := by
  simp only [seqRules, List.mem_cons, List.not_mem_nil, or_false] at hr
  rcases hr with rfl | rfl | rfl | rfl | rfl | rfl | rfl | rfl | rfl | rfl | rfl | rfl | rfl | rfl
  · exact exec_movi c f s
  · exact exec_orhi c f s
  · exact exec_seqAdd c f s
  · exact exec_seqSub c f s
  · exact exec_addi c f s
  · exact exec_seqMul c f s
  · exact exec_seqAnd c f s
  · exact exec_seqOr c f s
  · exact exec_seqXor c f s
  · rw [exec_shli, shiftImm_lt (by decide) he]
  · rw [exec_shri, shiftImm_lt (by decide) he]
  · rw [exec_srai, shiftImm_lt (by decide) he]
  · simp only [exec_slt, BitVec.slt_iff_toInt_lt]
  · simp only [exec_sltu, BitVec.ult_iff_toNat_lt]

/-- No scalar operation is a POST, which reads SD too (R170, R174). -/
theorem seqRules_ne_post : ∀ r ∈ seqRules, r.2.1 ≠ 0x19 := by decide

/-- A write to S0 leaves the core, and S0 reads as zero (R167). -/
theorem CoreSt.setS_zero (y : CoreSt) (v : W32) (rank : Nat) : y.setS 0 rank v = y ∧ y.s 0 = 0 := ⟨rfl, rfl⟩

@[simp] theorem CoreSt.setS_mb (y : CoreSt) (r rank : Nat) (v : W32) : (y.setS r rank v).mb = y.mb := by
  unfold CoreSt.setS
  split <;> rfl

@[simp] theorem CoreSt.setS_mbLast (y : CoreSt) (r rank : Nat) (v : W32) : (y.setS r rank v).mbLast = y.mbLast := by
  unfold CoreSt.setS
  split <;> rfl

/-- Settles O8: each command of the table is the scalar operation of its code and result, which reads SA and SB. -/
theorem scalarArithmeticWritesSD : Obligations.ScalarArithmeticWritesSD := by
  intro r hr c f s x h he
  rw [exec_seqRules_result hr c f s he]
  refine ⟨fun ha hb => ?_, fun hbad => ?_, CoreSt.setS_zero⟩
  · exact congrArg Host.Outcome.next (seqOp_pass h he ha hb (fun hop => absurd hop (seqRules_ne_post r hr)) rfl)
  · exact congrArg Host.Outcome.next (seqOp_parity h he hbad)

/-! ### Branches and loops -/

section

variable (c : CoreId) (f : SeqSlot) (s : State)

/-! Each branch is a branch of its code (R170). -/

theorem exec_jump : exec (.jump c f) s = branchOp 0x10 c f s fun _ => true := rfl
theorem exec_beqz : exec (.beqz c f) s = branchOp 0x11 c f s fun a => a == 0 := rfl
theorem exec_bnez : exec (.bnez c f) s = branchOp 0x12 c f s fun a => a != 0 := rfl
theorem exec_bltz : exec (.bltz c f) s = branchOp 0x13 c f s fun a => a.msb := rfl

/-! Each loop opens a loop of its code (R172). -/

theorem exec_loop : exec (.loop c f) s = loopOp 0x14 c f s fun a => a.toNat := rfl
theorem exec_loopi : exec (.loopi c f) s = loopOp 0x15 c f s fun _ => f.imm.toNat + 1 := rfl

end

/-- Each command of the table of branches is a branch of its code, taken as the table says (R170). -/
theorem exec_branchRules {r : (CoreId → SeqSlot → Instr) × Nat × (W32 → Prop)} (hr : r ∈ branchRules) (c : CoreId)
    (f : SeqSlot) (s : State) : r.2.1 ≠ 0x19 ∧
      ∃ taken : W32 → Bool, (∀ a, taken a = true ↔ r.2.2 a) ∧ exec (r.1 c f) s = branchOp r.2.1 c f s taken := by
  simp only [branchRules, List.mem_cons, List.not_mem_nil, or_false] at hr
  rcases hr with rfl | rfl | rfl | rfl
  · exact ⟨by decide, _, fun _ => by simp, exec_jump c f s⟩
  · exact ⟨by decide, _, fun _ => beq_iff_eq, exec_beqz c f s⟩
  · exact ⟨by decide, _, fun _ => bne_iff_ne, exec_bnez c f s⟩
  · exact ⟨by decide, _, fun _ => by simp [BitVec.msb_eq_toInt], exec_bltz c f s⟩

/-- Each command of the table of loops opens a loop of its code, with the iterations of the table (R172). -/
theorem exec_loopRules {r : (CoreId → SeqSlot → Instr) × Nat × (SeqSlot → W32 → Nat)} (hr : r ∈ loopRules) (c : CoreId)
    (f : SeqSlot) (s : State) : r.2.1 ≠ 0x19 ∧ exec (r.1 c f) s = loopOp r.2.1 c f s (r.2.2 f) := by
  simp only [loopRules, List.mem_cons, List.not_mem_nil, or_false] at hr
  rcases hr with rfl | rfl
  · exact ⟨by decide, exec_loop c f s⟩
  · exact ⟨by decide, exec_loopi c f s⟩

/-- A bundle is one of the last two of a loop's body (R172). -/
theorem LoopSt.tail_iff (l : LoopSt) (a : Nat) :
    (l.has a && decide (l.last ≤ a + 1)) = true ↔ l.first ≤ a ∧ a ≤ l.last ∧ l.last ≤ a + 1 := by
  simp [LoopSt.has, and_assoc]

section

variable {op : Nat} {c : CoreId} {f : SeqSlot} {s : State} {x : Core} (h : s.issues c x 2 (seqWord op f))
  (he : seqEncOk op f = true) (ha : x.beg.sBad f.sa.toNat = false) (hb : x.beg.sBad f.sb.toNat = false) (hop : op ≠ 0x19)

include h he ha hb hop

section

variable {taken : W32 → Bool}

/-- A branch in a delay bundle (R171). -/
theorem branchOp_delay (hbr : x.beg.branch.isSome = true) :
    branchOp op c f s taken = .next (s.noteCause c x 0x08 2) :=
  congrArg Host.Outcome.next (seqOp_fault h he ha hb (absurd · hop) (if_pos hbr))

variable (hbr : x.beg.branch = none)

include hbr

/-- A branch that is not taken (R170). -/
theorem branchOp_untaken (ht : taken (x.beg.s f.sa.toNat) = false) :
    branchOp op c f s taken = .next (s.putCur c x 2 x.cur) :=
  congrArg Host.Outcome.next (seqOp_pass h he ha hb (absurd · hop) (by simp [hbr, ht]))

/-- A branch that is taken from the last two bundles of an open loop (R172). -/
theorem branchOp_loopTail (ht : taken (x.beg.s f.sa.toNat) = true)
    (hl : (x.beg.loops.any fun l => l.has x.cur.bpc && decide (l.last ≤ x.cur.bpc + 1)) = true) :
    branchOp op c f s taken = .next (s.noteCause c x 0x08 2) :=
  congrArg Host.Outcome.next (seqOp_fault h he ha hb (absurd · hop) (y := x.cur) (by
    dsimp only
    rw [if_neg (by simp [hbr]), if_neg (by simp [ht]), if_pos hl]))

/-- A branch that is taken elsewhere (R171, R172). -/
theorem branchOp_taken (ht : taken (x.beg.s f.sa.toNat) = true)
    (hl : ¬ (x.beg.loops.any fun l => l.has x.cur.bpc && decide (l.last ≤ x.cur.bpc + 1)) = true) :
    branchOp op c f s taken = .next (s.putCur c x 2 { x.cur with
      branch := some (2, f.tgt.toNat)
      loops := x.cur.loops.filter fun l => l.has f.tgt.toNat }) :=
  congrArg Host.Outcome.next (seqOp_pass h he ha hb (absurd · hop) (by
    dsimp only
    rw [if_neg (by simp [hbr]), if_neg (by simp [ht]), if_neg hl]))

end

section

variable {n : W32 → Nat}

/-- A loop opens (R172). -/
theorem loopOp_opens (hbr : x.beg.branch = none) (htgt : x.cur.bpc + 1 ≤ f.tgt.toNat) (hlen : x.beg.loops.length < 4)
    (hn : 0 < n (x.beg.s f.sa.toNat)) : loopOp op c f s n = .next (s.putCur c x 2 { x.cur with
      loops := ⟨x.cur.bpc + 1, f.tgt.toNat, n (x.beg.s f.sa.toNat) - 1⟩ :: x.cur.loops }) :=
  congrArg Host.Outcome.next (seqOp_pass h he ha hb (absurd · hop) (if_neg (by
    simp only [hbr, Bool.or_eq_true, decide_eq_true_eq, beq_iff_eq, Option.isSome_none, Bool.false_eq_true, false_or]
    omega)))

/-- A loop that may not open (R172). -/
theorem loopOp_fails (hbad : x.beg.branch.isSome = true ∨ f.tgt.toNat < x.cur.bpc + 1 ∨ 4 ≤ x.beg.loops.length ∨
    n (x.beg.s f.sa.toNat) = 0) : loopOp op c f s n = .next (s.noteCause c x 0x08 2) :=
  congrArg Host.Outcome.next (seqOp_fault h he ha hb (absurd · hop) (if_pos (by simpa [or_assoc] using hbad)))

end

end

/-- Settles O10: each command of the two tables is a branch or a loop of its code, with the branches of its meaning. -/
theorem branchesAndLoops : Obligations.BranchesAndLoops := by
  refine ⟨fun r hr c f s x h he ha hb => ?_, fun r hr c f s x h he ha hb => ?_⟩
  · obtain ⟨hop, taken, htaken, hexec⟩ := exec_branchRules hr c f s
    simp only [hexec, ← htaken, Bool.not_eq_true, ← LoopSt.tail_iff]
    refine ⟨branchOp_delay h he ha hb hop, branchOp_untaken h he ha hb hop, fun hbr ht hl => ?_, fun hbr ht hl => ?_⟩
    · exact branchOp_loopTail h he ha hb hop hbr ht (List.any_eq_true.mpr hl)
    · exact branchOp_taken h he ha hb hop hbr ht (by simpa using hl)
  · obtain ⟨hop, hexec⟩ := exec_loopRules hr c f s
    rw [hexec]
    exact ⟨loopOp_opens h he ha hb hop, loopOp_fails h he ha hb hop⟩

/-! ### Counters -/

/-- A core that is run to a moment of the µs keeps its state (R396). -/
theorem State.runFree_cores (s : State) (site : SiteId) : (s.runFree site).cores = s.cores := by
  have hcount (u : State) (n : Nat) : (u.countStretch site n).cores = u.cores := by
    unfold State.countStretch
    dsimp only
    split <;> rfl
  unfold State.runFree State.runTo State.runSite
  dsimp only
  split
  · rfl
  · exact hcount _ _

/-- A core issues in a state with the same cores. -/
theorem State.issues_of_cores {s t : State} {c : CoreId} {x : Core} {slot w : Nat} (h : s.issues c x slot w)
    (hc : t.cores = s.cores) : t.issues c x slot w := by
  obtain ⟨hx, hrest⟩ := h
  refine ⟨?_, hrest⟩
  rw [← hx, State.core, hc]
  rfl

/-- Device time at a COUNTED cluster is the integer part of its counter (R397). -/
theorem State.clusterDt_counted {s : State} {site : SiteId} (hc : (s.cl site).counted = true) (hr : s.inRun site = false) :
    s.clusterDt site = (s.cl site).cnt / 2 ^ 24 := by
  simp [State.clusterDt, hc, hr]

/-- Device time at another cluster, and in a run, is a multiple of 10 ns (R396, R399). -/
theorem State.clusterDt_direct {s : State} {site : SiteId} (h : (s.cl site).counted = false ∨ s.inRun site = true) :
    s.clusterDt site % 10 = 0 := by
  have hc : ((s.cl site).counted && !s.inRun site) = false := by rcases h with h | h <;> simp [h]
  simp [State.clusterDt, hc]

/-- The core that RDC of counter `k` leaves: the counter in SD, and the high half of a low one latched (R173). -/
def State.rdcCore (s : State) (c : CoreId) (f : SeqSlot) (k : Nat) (beg cur : CoreSt) : CoreSt :=
  let dt := BitVec.ofNat 64 (s.clusterDt (coreSiteOf c))
  let own := s.ownerOf c
  let lo (x : W64) : W32 := x.extractLsb' 0 32
  let hi (x : W64) : W32 := x.extractLsb' 32 32
  let v : W32 :=
    if k = 0 then lo beg.cyc else if k = 1 then beg.latCyc
    else if k = 2 then lo beg.holdCyc else if k = 3 then beg.latHold
    else if k = 4 then lo beg.waitCyc else if k = 5 then beg.latWait
    else if k = 6 then lo dt else if k = 7 then beg.latDt
    else if k = 8 then BitVec.ofNat 32 (coreIdx c)
    else if k = 9 then BitVec.ofNat 32 ((own.map (·.2)).getD 0)
    else BitVec.ofNat 32 ((own.map fun o => (s.part o.1).sites.length).getD 0)
  let cur := cur.setS f.sd.toNat 1 v
  { cur with latCyc := if k = 0 then hi beg.cyc else cur.latCyc
             latHold := if k = 2 then hi beg.holdCyc else cur.latHold
             latWait := if k = 4 then hi beg.waitCyc else cur.latWait
             latDt := if k = 6 then hi dt else cur.latDt }

/-- The low half of a counter. -/
theorem extractLsb'_low (v : W64) : v.extractLsb' 0 32 = v.setWidth 32 := by
  rw [BitVec.setWidth_eq_extractLsb' (by decide)]

/-- The halves of device time as a 64-bit word. -/
theorem extractLsb'_ofNat_low (d : Nat) : (BitVec.ofNat 64 d).extractLsb' 0 32 = BitVec.ofNat 32 d := by
  apply BitVec.eq_of_toNat_eq
  simp only [BitVec.extractLsb'_toNat, BitVec.toNat_ofNat, Nat.shiftRight_zero]
  omega

theorem extractLsb'_ofNat_high (d : Nat) : (BitVec.ofNat 64 d).extractLsb' 32 32 = BitVec.ofNat 32 (d / 2 ^ 32) := by
  apply BitVec.eq_of_toNat_eq
  simp only [BitVec.extractLsb'_toNat, BitVec.toNat_ofNat, Nat.shiftRight_eq_div_pow]
  omega

section

variable {c : CoreId} {f : SeqSlot} {s : State} {x : Core} (ha : x.beg.sBad f.sa.toNat = false)
  (hb : x.beg.sBad f.sb.toNat = false)

include ha hb

/-- RDC of a counter that is no device time (R173). -/
theorem exec_rdc {k : Nat} (hk : k ≠ 6) (h : s.issues c x 2 (seqWord 0x18 f)) (he : seqEncOk 0x18 f = true)
    (himm : f.imm.toNat = k) : exec (.rdc c f) s = .next (s.putCur c x 2 (s.rdcCore c f k x.beg x.cur)) := by
  subst himm
  show execRdc c f s = _
  unfold execRdc
  extract_lets k s1 dt own lo hi
  have hs1 : s1 = s := if_neg (by simp [k, hk])
  clear_value s1
  subst hs1
  exact congrArg Host.Outcome.next (seqOp_pass h he ha hb nofun rfl)

/-- RDC of device time, at a moment of the present µs (R173, R396; log 5). -/
theorem exec_rdc_time (h : s.issues c x 2 (seqWord 0x18 f)) (he : seqEncOk 0x18 f = true) (himm : f.imm.toNat = 6) :
    let u := s.runFree (c / 16)
    let d := u.clusterDt (c / 16)
    exec (.rdc c f) s = .next (u.putCur c x 2 { x.cur.setS f.sd.toNat 1 (BitVec.ofNat 32 d) with
      latDt := BitVec.ofNat 32 (d / 2 ^ 32) }) := by
  intro u d
  rw [← extractLsb'_ofNat_low d, ← extractLsb'_ofNat_high d]
  have hissues : s.slotIssues c 2 (seqWord 0x18 f) = true := by
    obtain ⟨hx, hready, -⟩ := id h
    simp [State.slotIssues, State.cur, hx, hready, State.issues_slotDue h]
  show execRdc c f s = _
  unfold execRdc
  rw [himm]
  extract_lets k s1 dt own lo hi
  have hs1 : s1 = u := if_pos (by simp [k, hissues])
  clear_value s1
  subst hs1
  exact congrArg Host.Outcome.next (seqOp_pass (State.issues_of_cores h (State.runFree_cores s _)) he ha hb nofun rfl)

/-! ### Mailboxes and END -/

/-- POST keeps its message until it leaves the core (R174, R186, R336). -/
theorem exec_post (hd : x.beg.sBad f.sd.toNat = false) (h : s.issues c x 2 (seqWord 0x19 f))
    (he : seqEncOk 0x19 f = true) : exec (.post c f) s = .next (s.putCur c x 2 { x.cur with
      postPend := x.cur.postPend ++ [(x.cur.cyc.toNat, f.imm.toNat,
        ⟨x.beg.s f.sb.toNat ++ x.beg.s f.sa.toNat, x.beg.s f.sd.toNat, 0, false⟩)] }) :=
  congrArg Host.Outcome.next (seqOp_pass h he ha hb (fun _ => hd) rfl)

/-- MRD takes the oldest message of its channel (R174, R337). -/
theorem exec_mrd_message (h : s.issues c x 2 (seqWord 0x1A f)) (he : seqEncOk 0x1A f = true) {m : MbItem}
    {rest : List MbItem} (hq : mget (fun _ => []) x.cur.mb f.imm.toNat = m :: rest) :
    exec (.mrd c f) s = .next (s.putCur c x 2
      { (((x.cur.setS f.sd.toNat 1 (m.pointer.extractLsb' 0 32)).setS (f.sd.toNat + 1) 1
          (m.pointer.extractLsb' 32 32)).setS (f.sd.toNat + 2) 1 m.tag).setS (f.sd.toNat + 3) 1
          (BitVec.ofNat 32 (m.src.toNat + if m.ack then 65536 else 0)) with
        mb := mset (fun _ => []) x.cur.mb f.imm.toNat rest
        mbLast := mset (fun _ => MbLast.none) x.cur.mbLast f.imm.toNat (if m.ack then .ack else .msg m.src) }) := by
  refine congrArg Host.Outcome.next (seqOp_pass h he ha hb nofun ?_)
  dsimp only
  rw [hq]
  simp only [CoreSt.setS_mb, CoreSt.setS_mbLast, List.tail_cons]

/-- MRD of an empty channel gives zeros (R174). -/
theorem exec_mrd_empty (h : s.issues c x 2 (seqWord 0x1A f)) (he : seqEncOk 0x1A f = true)
    (hq : mget (fun _ => []) x.cur.mb f.imm.toNat = []) : exec (.mrd c f) s = .next (s.putCur c x 2
      { (((x.cur.setS f.sd.toNat 1 0).setS (f.sd.toNat + 1) 1 0).setS (f.sd.toNat + 2) 1 0).setS
          (f.sd.toNat + 3) 1 0 with
        mb := mset (fun _ => []) x.cur.mb f.imm.toNat []
        mbLast := mset (fun _ => MbLast.none) x.cur.mbLast f.imm.toNat .empty }) := by
  refine congrArg Host.Outcome.next (seqOp_pass h he ha hb nofun ?_)
  dsimp only
  rw [hq]
  simp only [CoreSt.setS_mb, CoreSt.setS_mbLast, List.tail_nil]
  rfl

/-- MACK answers the message last read (R174). -/
theorem exec_mack_message (h : s.issues c x 2 (seqWord 0x1B f)) (he : seqEncOk 0x1B f = true) {src : BitVec 16}
    (hl : mget (fun _ => MbLast.none) x.cur.mbLast f.imm.toNat = .msg src) :
    exec (.mack c f) s = .next (s.putCur c x 2 { x.cur with
      mbLast := mset (fun _ => MbLast.none) x.cur.mbLast f.imm.toNat .none
      ackPend := x.cur.ackPend ++ [(x.cur.cyc.toNat, src, x.beg.s f.sa.toNat)] }) := by
  refine congrArg Host.Outcome.next (seqOp_pass h he ha hb nofun ?_)
  dsimp only
  rw [hl]

/-- MACK without a message to answer (R174). -/
theorem exec_mack_none (h : s.issues c x 2 (seqWord 0x1B f)) (he : seqEncOk 0x1B f = true)
    (hl : ∀ src, mget (fun _ => MbLast.none) x.cur.mbLast f.imm.toNat ≠ .msg src) :
    exec (.mack c f) s = .next (s.putCur c x 2 x.cur) := by
  refine congrArg Host.Outcome.next (seqOp_pass h he ha hb nofun ?_)
  dsimp only
  split
  next src hsrc => exact absurd hsrc (hl src)
  next => rfl

/-- END in a delay bundle (R171). -/
theorem exec_seqEnd_delay (h : s.issues c x 2 (seqWord 0x1F f)) (he : seqEncOk 0x1F f = true)
    (hbr : x.beg.branch.isSome = true) : exec (.seqEnd c f) s = .next (s.noteCause c x 0x08 2) :=
  congrArg Host.Outcome.next (seqOp_fault h he ha hb nofun (if_pos hbr))

/-- END stops the issue (R175). -/
theorem exec_seqEnd (h : s.issues c x 2 (seqWord 0x1F f)) (he : seqEncOk 0x1F f = true) (hbr : x.beg.branch = none) :
    exec (.seqEnd c f) s = .next (s.putCur c x 2 { x.cur with phase := .ended }) :=
  congrArg Host.Outcome.next (seqOp_pass h he ha hb nofun (if_neg (by simp [hbr])))

end

/-- Settles O11: RDC answers by its counter, and each other command of the slot has the effect of its lemma. -/
theorem countersMailboxesAndEnd : Obligations.CountersMailboxesAndEnd := by
  intro c f s x ha hb hd
  have hrdc {k : BitVec 16} (hk : k.toNat ≠ 6) (h : s.issues c x 2 (seqWord 0x18 f)) (he : seqEncOk 0x18 f = true)
      (himm : f.imm = k) := exec_rdc ha hb hk h he (congrArg BitVec.toNat himm)
  simp only [← extractLsb'_low]
  exact ⟨fun h he => congrArg Host.Outcome.next (seqOp_pass h he ha hb nofun rfl),
    fun h he himm => ⟨_, hrdc (by decide) h he himm, rfl⟩, hrdc (by decide), hrdc (by decide), hrdc (by decide),
    hrdc (by decide), hrdc (by decide), fun h he himm => ⟨exec_rdc_time ha hb h he (congrArg BitVec.toNat himm),
      State.clusterDt_counted, State.clusterDt_direct⟩, hrdc (by decide), hrdc (by decide), hrdc (by decide),
    hrdc (by decide), exec_post ha hb hd, fun h he m rest => exec_mrd_message ha hb h he, exec_mrd_empty ha hb,
    fun h he src => exec_mack_message ha hb h he, exec_mack_none ha hb, exec_seqEnd_delay ha hb, exec_seqEnd ha hb⟩

/-! ### The bundle that follows -/

/-- At a delay bundle a loop that ends there with no iterations left is closed, and no other (R172). -/
theorem loopDelay_single (bpc : Nat) (l : LoopSt) :
    loopDelay bpc [l] = if l.last = bpc ∧ l.left = 0 then [] else [l] := by
  simp only [loopDelay, ite_and]

section

variable {x : CoreSt} {t k : Nat}

/-- Without a branch under way the loops say which bundle follows (R171, R172). -/
theorem CoreSt.advancePc_none (hb : x.branch = none) :
    x.advancePc = { x with pc := (loopEnd x.bpc x.loops).1, loops := (loopEnd x.bpc x.loops).2 } := by
  simp only [CoreSt.advancePc, hb]

/-- The second delay bundle is followed by the target (R171). -/
theorem CoreSt.advancePc_target (hb : x.branch = some (0, t)) :
    x.advancePc = { x with pc := t, branch := none, loops := loopDelay x.bpc x.loops } := by
  simp only [CoreSt.advancePc, hb]

/-- Before it the next address follows (R171). -/
theorem CoreSt.advancePc_delay (hb : x.branch = some (k + 1, t)) : x.advancePc = { x with
    pc := x.bpc + 1, branch := some (k, t), loops := if k = 0 then loopDelay x.bpc x.loops else x.loops } := by
  simp only [CoreSt.advancePc, hb]

end

/-- Settles O30: the branch under way says which of the three rules holds, and a single loop ends in the bundle or not. -/
theorem bundlesFollow : Obligations.BundlesFollow := by
  intro x t k l ls
  refine ⟨fun hb hl => ?_, fun hb => ?_, fun hb hl => ?_, fun hb hl => ?_, fun hb hl => ?_, fun hb hl => ?_,
    fun hb hl hend hleft => ?_, fun hb hl hend hleft => ?_, fun hb hl hend => ?_⟩
  · simp only [CoreSt.advancePc_none hb, hl, loopEnd]
  · rw [CoreSt.advancePc_delay hb, if_neg (Nat.succ_ne_zero k)]
  · rw [CoreSt.advancePc_delay hb, hl, if_pos rfl, loopDelay]
  · rw [CoreSt.advancePc_target hb, hl, loopDelay]
  · rw [CoreSt.advancePc_delay hb, hl, if_pos rfl, loopDelay_single]
  · rw [CoreSt.advancePc_target hb, hl, loopDelay_single]
  · simp only [CoreSt.advancePc_none hb, hl, loopEnd, hend, if_true, if_neg hleft.ne']
  · simp only [CoreSt.advancePc_none hb, hl, loopEnd, hend, hleft, if_true]
  · simp only [CoreSt.advancePc_none hb, hl, loopEnd, if_neg hend]

end Sys2Proof.Machine
end

section
/-! PROOFS. The LS slots on a core that issues: the rows that loads read, the writes that stores put on their way, and what a
read sees of the writes before it (R189 to R192). -/

namespace Sys2Proof.Machine

open Sys2Proof

/-! ### Banks -/

/-- An access of a bank that is free in its way (R191). -/
theorem CoreSt.useBank_free {y : CoreSt} {n b : Nat} {w : Bool} (h : y.banks.contains ⟨n, b, w⟩ = false) :
    y.useBank n b w = ({ y with banks := ⟨n, b, w⟩ :: y.banks }, false) := by
  simp only [CoreSt.useBank, h, Bool.false_eq_true, if_false]

/-- A row read of a free bank does not conflict (R191). -/
theorem CoreSt.readRow_free {y : CoreSt} {row : Nat} (h : y.readFree row) (bpc slot rank : Nat) (dst : LoadDst) :
    y.readRow bpc slot rank row dst = ({ y with
      reads := y.reads ++ [⟨y.now, rank, bpc, slot, row, (y.viewRow y.now row).1, (y.viewRow y.now row).2, dst⟩]
      banks := ⟨y.now, bankOf row, false⟩ :: y.banks }, (y.viewRow y.now row).1, false) := by
  unfold CoreSt.readRow
  dsimp only
  rw [CoreSt.useBank_free h]

/-- Rows fewer than 64 apart lie in different banks (R188). -/
theorem bankOf_ne {row i j : Nat} (hij : i < j) (hj : j < 64) : bankOf (row + j) ≠ bankOf (row + i) := by
  unfold bankOf
  omega

/-- The bank of a first row that is used leaves the banks of the rows after it as free as they were (R188, R191). -/
theorem banks_cons_free {banks : List BankUse} {n row k : Nat} {w : Bool} (hk : k ≤ 63)
    (hfree : ∀ i < k + 1, banks.contains ⟨n, bankOf (row + i), w⟩ = false) :
    ∀ i < k, ((⟨n, bankOf row, w⟩ : BankUse) :: banks).contains ⟨n, bankOf (row + 1 + i), w⟩ = false := by
  intro i hi
  have hrow : row + (i + 1) = row + 1 + i := by omega
  have hold : banks.contains ⟨n, bankOf (row + 1 + i), w⟩ = false := hrow ▸ hfree (i + 1) (Nat.succ_lt_succ hi)
  have hne : bankOf (row + 1 + i) ≠ bankOf row := hrow ▸ bankOf_ne (row := row) (i := 0) (Nat.succ_pos i) (by omega)
  rw [List.contains_cons, hold, Bool.or_false, beq_eq_false_iff_ne]
  exact fun heq => hne (congrArg BankUse.bank heq)

/-- The last of the rows of a vector operation lies in the LSP (R191, R192). -/
theorem lastRow_le {row k : Nat} (h : row + 2 ^ k ≤ 4096) : row + (cntRows k - 1) ≤ 4095 := by
  have hpos : 0 < 2 ^ k := Nat.two_pow_pos k
  unfold cntRows
  omega

/-! ### LS operations -/

section

variable {op : Nat} {vxReg : Bool} {c : CoreId} {f : LsSlot} {s : State} {x : Core} {y : CoreSt}
  {k : Nat → CoreSt → CoreSt → CoreSt × Bool} (hsa : x.beg.sBad f.sa.toNat = false)
  (h : s.issues c x (lsSlot f) (lsWord op f)) (he : lsEncOk op f = true)

include hsa h he

/-- An LS operation that passes its checks has its effect (R156, R191, R192). -/
theorem lsOp_pass (hreg : op = 4 → x.beg.sBad f.reg.toNat = false)
    (hvx : vxReg = true → x.beg.vxBusy = false ∧ x.cur.slotWord 1 / 2 ^ 42 ≠ 0x2F)
    (hrow : f.addr.toNat + (x.beg.s f.sa.toNat).toNat + (if op ≤ 2 then cntRows f.cnt.toNat - 1 else 0) ≤ 4095)
    (hk : k (f.addr.toNat + (x.beg.s f.sa.toNat).toNat) x.beg x.cur = (y, false)) :
    lsOp op vxReg c f s k = .next (s.putCur c x (lsSlot f) y) := by
  refine congrArg Host.Outcome.next (State.slotOp_pass h he ?_)
  extract_lets row causes
  have hparity : (x.beg.sBad f.sa.toNat || (op == 4 && x.beg.sBad f.reg.toNat)) = false := by simpa [hsa] using hreg
  have hclaim : (vxReg && (x.beg.vxBusy || x.cur.slotWord 1 / 2 ^ 42 == 0x2F)) = false := by
    cases vxReg with
    | false => rfl
    | true => simpa using hvx rfl
  have hcauses : causes = [] := by
    simp only [causes, hparity, hclaim, row, if_neg (Nat.not_lt.mpr hrow), Bool.false_eq_true, if_false, List.append_nil]
  rw [hcauses, if_neg (by decide), show k row x.beg x.cur = _ from hk]
  rfl

/-- A scalar load past the last row (R192). -/
theorem lsOp_outside (hop : 4 < op ∨ op = 3) (hvx : vxReg = false)
    (hrow : 4095 < f.addr.toNat + (x.beg.s f.sa.toNat).toNat) :
    lsOp op vxReg c f s k = .next (s.noteCause c x 0x06 (lsSlot f)) := by
  refine congrArg Host.Outcome.next (State.slotOp_fault (y := x.cur) h he ?_)
  have hop4 : (op == 4) = false := by simp only [beq_eq_false_iff_ne]; omega
  have hop2 : ¬ op ≤ 2 := by omega
  simp [hsa, hvx, hop4, hop2, hrow]

/-- A scalar load whose bank is in use (R191). -/
theorem lsOp_conflict (hop : 4 < op ∨ op = 3) (hvx : vxReg = false)
    (hrow : f.addr.toNat + (x.beg.s f.sa.toNat).toNat ≤ 4095)
    (hk : (k (f.addr.toNat + (x.beg.s f.sa.toNat).toNat) x.beg x.cur).2 = true) :
    lsOp op vxReg c f s k = .next (s.noteCause c x 0x07 (lsSlot f)) := by
  refine congrArg Host.Outcome.next (State.slotOp_fault
    (y := (k (f.addr.toNat + (x.beg.s f.sa.toNat).toNat) x.beg x.cur).1) h he ?_)
  have hop4 : (op == 4) = false := by simp only [beq_eq_false_iff_ne]; omega
  have hop2 : ¬ op ≤ 2 := by omega
  simp [hsa, hvx, hop4, hop2, Nat.not_lt.mpr hrow, hk]

end

/-! ### Loads -/

/-- The read of a row for a part of the register of a vector load (R192). -/
def partRead (y : CoreSt) (f : LsSlot) (row part : Nat) : LspRead :=
  { ldvRead y f row 0 with dst := .vpart f.reg.toNat part }

/-- The reads of a vector load whose banks are free (R191, R192). -/
theorem ldvRows_free (f : LsSlot) (n : Nat) : ∀ (y : CoreSt) (row part : Nat), n ≤ 64 →
    (∀ i < n, y.readFree (row + i)) → ∃ b, ldvRows f y row part n = ({ y with
      reads := y.reads ++ (List.range n).map fun i => partRead y f (row + i) (part + i)
      banks := b }, false) := by
  induction n with
  | zero => exact fun y row part _ _ => ⟨y.banks, by simp [ldvRows]⟩
  | succ n ih =>
    intro y row part hn hfree
    have hfirst : y.readFree row := hfree 0 (Nat.succ_pos n)
    let z : CoreSt := { y with reads := y.reads ++ [partRead y f row part], banks := ⟨y.now, bankOf row, false⟩ :: y.banks }
    have hz : ∀ i < n, z.readFree (row + 1 + i) := banks_cons_free (by omega) hfree
    obtain ⟨b, hrest⟩ := ih z (row + 1) (part + 1) (by omega) hz
    refine ⟨b, ?_⟩
    have hread : y.readRow y.bpc (lsSlot f) (lsRank f) row (.vpart f.reg.toNat part) = (z, (y.viewRow y.now row).1, false) :=
      CoreSt.readRow_free hfirst _ _ _ _
    unfold ldvRows
    rw [hread]
    dsimp only
    rw [hrest]
    have hreads : z.reads ++ (List.range n).map (fun i => partRead z f (row + 1 + i) (part + 1 + i)) =
        y.reads ++ (List.range (n + 1)).map fun i => partRead y f (row + i) (part + i) := by
      rw [List.range_succ_eq_map, List.map_cons, List.map_map, List.append_cons]
      refine congrArg (_ ++ ·) (List.map_congr_left fun i _ => ?_)
      show partRead y f (row + 1 + i) (part + 1 + i) = partRead y f (row + (i + 1)) (part + (i + 1))
      rw [Nat.add_right_comm, Nat.add_right_comm part]
      rfl
    rw [hreads]
    rfl

/-- A vector load moves at most eight rows (R191). -/
theorem lsEnc_rows {op : Nat} {f : LsSlot} (hop : op = 1 ∨ op = 2) (he : lsEncOk op f = true) :
    2 ^ f.cnt.toNat ≤ 8 := by
  have hop0 : op ≠ 0 := by omega
  unfold lsEncOk at he
  rw [if_neg hop0, if_pos (by simpa using hop), Bool.and_eq_true] at he
  obtain ⟨-, hsum⟩ := he
  have hsum : f.part.toNat + 2 ^ f.cnt.toNat ≤ 8 := of_decide_eq_true hsum
  omega

section

variable (c : CoreId) (f : LsSlot) (s : State)

/-! Each LS operation is the operation of its code (R192). -/

theorem exec_lsNop : exec (.lsNop c f) s = .next (s.slotOp c (lsSlot f) (lsWord 0 f) (lsEncOk 0 f) fun _ cur => ([], cur)) :=
  rfl

theorem exec_lsLdv : exec (.lsLdv c f) s = lsOp 1 true c f s fun row _ cur =>
    ldvRows f cur row f.part.toNat (2 ^ f.cnt.toNat) := rfl

theorem exec_lsStv : exec (.lsStv c f) s = lsOp 2 true c f s fun row beg cur => cur.writeRows row
    ((List.range (2 ^ f.cnt.toNat)).map fun i => (beg.v f.reg.toNat).extractLsb' (256 * (f.part.toNat + i)) 256) := rfl

theorem exec_lsLdw : exec (.lsLdw c f) s = lsOp 3 false c f s fun row _ cur =>
    let r := cur.readRow cur.bpc (lsSlot f) (lsRank f) row (.scalar f.reg.toNat f.wsel.toNat)
    (r.1, r.2.2) := rfl

theorem exec_lsStw : exec (.lsStw c f) s = lsOp 4 false c f s fun row beg cur => cur.writePart cur.bpc (lsSlot f) row
    ((beg.s f.reg.toNat).zeroExtend 256 <<< (32 * f.wsel.toNat))
    ((BitVec.allOnes 32).zeroExtend 256 <<< (32 * f.wsel.toNat)) := rfl

theorem exec_lsLdm : exec (.lsLdm c f) s = lsOp 5 true c f s fun row _ cur =>
    let r := cur.readRow cur.bpc (lsSlot f) (lsRank f) row (.mask f.reg.toNat f.wsel.toNat)
    (r.1, r.2.2) := rfl

theorem exec_lsStm : exec (.lsStm c f) s = lsOp 6 true c f s fun row beg cur => cur.writePart cur.bpc (lsSlot f) row
    ((beg.m f.reg.toNat).zeroExtend 256 <<< (64 * f.wsel.toNat))
    ((BitVec.allOnes 64).zeroExtend 256 <<< (64 * f.wsel.toNat)) := rfl

end

/-- Settles O24: each load reads free banks, and LS.LDW alone is checked for its faults. -/
theorem loadsIssue : Obligations.LoadsIssue := by
  intro c f s x hsa row k
  rw [exec_lsNop, exec_lsLdv, exec_lsLdw, exec_lsLdm]
  let used : List BankUse := ⟨x.cur.now, bankOf row, false⟩ :: x.cur.banks
  refine ⟨fun h he => congrArg Host.Outcome.next (State.slotOp_pass h he rfl), fun h he hvx hrun htop hfree => ?_,
    fun h he htop hfree => ⟨used, lsOp_pass hsa h he nofun nofun htop ?_⟩,
    fun h he hvx hrun htop hfree => ⟨used, lsOp_pass hsa h he nofun (fun _ => ⟨hvx, hrun⟩) htop ?_⟩,
    fun h he htop => lsOp_outside hsa h he (.inr rfl) rfl htop, fun h he htop hused => ?_⟩
  · obtain ⟨b, hreads⟩ := ldvRows_free f k x.cur row f.part.toNat 
      (Nat.le_trans (lsEnc_rows (.inl rfl) he) (by decide)) hfree
    exact ⟨b, lsOp_pass hsa h he nofun (fun _ => ⟨hvx, hrun⟩) (lastRow_le htop) hreads⟩
  · rw [CoreSt.readRow_free hfree]; rfl
  · rw [CoreSt.readRow_free hfree]; rfl
  · refine lsOp_conflict hsa h he (.inr rfl) rfl htop ?_
    exact Bool.not_eq_false _ ▸ hused

/-! ### Stores -/

/-- Full-row writes of consecutive rows whose banks are free are put on their way (R189, R191). -/
theorem CoreSt.writeRows_free (ds : List Row) : ∀ (y : CoreSt) (row : Nat), ds.length ≤ 64 →
    (∀ i < ds.length, y.banks.contains ⟨y.now, bankOf (row + i), true⟩ = false) →
    ∃ w b, y.writeRows row ds = ({ y with writes := w, banks := b }, false) ∧
      ∀ u, u ∈ w ↔ u ∈ y.writes ∨ ∃ i d, ds[i]? = some d ∧ u = ⟨y.now, row + i, true, d, 0, false⟩ := by
  induction ds with
  | nil => exact fun y row _ _ => ⟨y.writes, y.banks, rfl, by simp⟩
  | cons d ds ih =>
    intro y row hn hfree
    have hfirst : y.banks.contains ⟨y.now, bankOf row, true⟩ = false := hfree 0 (Nat.succ_pos _)
    let z : CoreSt := { y with
      writes := insertWrite ⟨y.now, row, true, d, 0, false⟩ y.writes
      banks := ⟨y.now, bankOf row, true⟩ :: y.banks }
    have hwrite : y.writeRow row d = (z, false) := by
      unfold CoreSt.writeRow
      rw [CoreSt.useBank_free hfirst]
      rfl
    obtain ⟨w, b, hrest, hmem⟩ := ih z (row + 1) (Nat.le_of_succ_le hn) (banks_cons_free (Nat.le_of_succ_le_succ hn) hfree)
    refine ⟨w, b, ?_, fun u => ?_⟩
    · rw [CoreSt.writeRows, hwrite]
      dsimp only
      rw [hrest]
      rfl
    · have hz : u ∈ z.writes ↔ u = ⟨y.now, row, true, d, 0, false⟩ ∨ u ∈ y.writes := mem_insertWrite
      rw [hmem, hz, or_comm (a := u = _), or_assoc]
      refine or_congr Iff.rfl ⟨?_, ?_⟩
      · rintro (rfl | ⟨i, e, he, rfl⟩)
        · exact ⟨0, d, rfl, rfl⟩
        · exact ⟨i + 1, e, he, by rw [Nat.add_right_comm]; rfl⟩
      · rintro ⟨_ | i, e, he, rfl⟩
        · obtain rfl : d = e := Option.some.inj he
          exact .inl rfl
        · exact .inr ⟨i, e, he, by rw [Nat.add_right_comm]; rfl⟩

/-- A later use of a bank that is free then raises no conflict (R191). -/
theorem CoreSt.useLater_free {y : CoreSt} {n b : Nat} (h : y.banks.contains ⟨n, b, true⟩ = false) (bpc slot : Nat) :
    y.useLater bpc slot n b = { y with banks := ⟨n, b, true⟩ :: y.banks } := by
  unfold CoreSt.useLater
  rw [CoreSt.useBank_free h]
  rfl

/-- A partial-row write of a bank that is free in its three cycles is put on its way (R190, R191). -/
theorem CoreSt.writePart_free {y : CoreSt} {row : Nat} (hread : y.readFree row)
    (hwrite : ∀ i < 2, y.banks.contains ⟨y.now + 1 + i, bankOf row, true⟩ = false) (bpc slot : Nat) (data lanes : Row) :
    ∃ b, y.writePart bpc slot row data lanes = ({ y with
      writes := insertWrite ⟨y.now, row, false, data, lanes, false⟩ y.writes, banks := b }, false) := by
  let read : BankUse := ⟨y.now, bankOf row, false⟩
  let first : BankUse := ⟨y.now + 1, bankOf row, true⟩
  let second : BankUse := ⟨y.now + 2, bankOf row, true⟩
  have hfirst : (read :: y.banks).contains first = false := by
    rw [List.contains_cons, hwrite 0 (by decide), Bool.or_false, beq_eq_false_iff_ne]
    exact fun heq => Nat.succ_ne_self _ (congrArg BankUse.cyc heq)
  have hsecond : (first :: read :: y.banks).contains second = false := by
    rw [List.contains_cons, List.contains_cons, hwrite 1 (by decide), Bool.or_false, Bool.or_eq_false_iff,
      beq_eq_false_iff_ne, beq_eq_false_iff_ne]
    exact ⟨fun heq => Nat.succ_ne_self _ (congrArg BankUse.cyc heq),
      fun heq => Nat.ne_of_gt (Nat.lt_add_of_pos_right Nat.two_pos) (congrArg BankUse.cyc heq)⟩
  refine ⟨second :: first :: read :: y.banks, ?_⟩
  unfold CoreSt.writePart
  dsimp only
  rw [CoreSt.useBank_free hread]
  dsimp only
  rw [CoreSt.useLater_free (y := { y with banks := read :: y.banks }) hfirst,
    CoreSt.useLater_free (y := { y with banks := first :: read :: y.banks }) hsecond]

/-- Settles O25: the vector store puts a full write for each part on its way, the others one partial write. -/
theorem storesIssue : Obligations.StoresIssue := by
  intro c f s x hsa n row k
  rw [exec_lsStv, exec_lsStw, exec_lsStm]
  refine ⟨fun h he hvx hrun htop hfree => ?_, fun h he hreg htop hread hwrite => ?_,
    fun h he hvx hrun htop hread hwrite => ?_⟩
  · let parts : List Row := (List.range k).map fun i => (x.beg.v f.reg.toNat).extractLsb' (256 * (f.part.toNat + i)) 256
    have hlen : parts.length = k := by simp [parts]
    obtain ⟨w, b, hrows, hmem⟩ := CoreSt.writeRows_free parts x.cur row
      (hlen ▸ Nat.le_trans (lsEnc_rows (.inr rfl) he) (by decide)) (hlen ▸ hfree)
    refine ⟨w, b, lsOp_pass hsa h he nofun (fun _ => ⟨hvx, hrun⟩) (lastRow_le htop) hrows, fun u => ?_⟩
    rw [hmem]
    refine or_congr Iff.rfl (exists_congr fun i => ?_)
    by_cases hi : i < k
    · simp [parts, hi, n]
    · simp [parts, hi]
  · obtain ⟨b, hpart⟩ := CoreSt.writePart_free hread hwrite x.cur.bpc (lsSlot f)
      ((x.beg.s f.reg.toNat).zeroExtend 256 <<< (32 * f.wsel.toNat))
      ((BitVec.allOnes 32).zeroExtend 256 <<< (32 * f.wsel.toNat))
    exact ⟨_, b, lsOp_pass hsa h he (fun _ => hreg) nofun htop hpart, fun u => mem_insertWrite.trans or_comm⟩
  · obtain ⟨b, hpart⟩ := CoreSt.writePart_free hread hwrite x.cur.bpc (lsSlot f)
      ((x.beg.m f.reg.toNat).zeroExtend 256 <<< (64 * f.wsel.toNat))
      ((BitVec.allOnes 64).zeroExtend 256 <<< (64 * f.wsel.toNat))
    exact ⟨_, b, lsOp_pass hsa h he nofun (fun _ => ⟨hvx, hrun⟩) htop hpart, fun u => mem_insertWrite.trans or_comm⟩

/-! ### What a read sees -/

section

variable {x : CoreSt} {ws : List LspWrite} {w : LspWrite} (hw : x.writes = ws ++ [w])

include hw

/-- A write that a read of its row does not see, or one of another row, does not count (R190). -/
theorem CoreSt.viewRow_unseen {n row : Nat} (h : (w.row == row && w.seenBy n) = false) :
    x.viewRow n row = ({ x with writes := ws } : CoreSt).viewRow n row := by
  unfold CoreSt.viewRow
  rw [hw, List.filter_append, List.filter_cons_of_neg (by simp [h]), List.filter_nil, List.append_nil]

/-- The write that takes effect last is merged last (R189, R190). -/
theorem CoreSt.viewRow_seen {n : Nat} (h : w.seenBy n = true) :
    x.viewRow n w.row = if w.full then (w.data, false) else
      (mergeBits (({ x with writes := ws } : CoreSt).viewRow n w.row).1 w.data w.lanes,
        (({ x with writes := ws } : CoreSt).viewRow n w.row).2 || w.poison) := by
  unfold CoreSt.viewRow
  rw [hw, List.filter_append, List.filter_cons_of_pos (by simp [h]), List.foldl_append]
  rfl

end

theorem LspWrite.seenBy_full {w : LspWrite} (hf : w.full = true) (n : Nat) : w.seenBy n = decide (w.issued < n) := by
  rw [LspWrite.seenBy, if_pos hf]

theorem LspWrite.seenBy_part {w : LspWrite} (hf : w.full = false) (n : Nat) : w.seenBy n = decide (w.issued + 3 ≤ n) := by
  rw [LspWrite.seenBy, if_neg (by simp [hf])]

/-- Settles O26: the last write of the list is seen from its own cycle on, and hides the full-row writes before it. -/
theorem readsSeeEarlierWrites : Obligations.ReadsSeeEarlierWrites := by
  intro x n ws w
  refine ⟨fun hw hf hn => ?_, fun hw hf hn row => ?_, fun hw hf hn row => ?_, fun hw hf hn => ?_, fun hw row => ?_⟩
  · rw [CoreSt.viewRow_seen hw (by simpa [LspWrite.seenBy_full hf] using hn), if_pos hf]
  · exact CoreSt.viewRow_unseen hw (by simp [LspWrite.seenBy_full hf, hn])
  · exact CoreSt.viewRow_unseen hw (by simp [LspWrite.seenBy_part hf, hn])
  · rw [CoreSt.viewRow_seen hw (by simpa [LspWrite.seenBy_part hf] using hn), if_neg (by simp [hf])]
  · unfold CoreSt.viewRow
    rw [hw]
    rfl

end Sys2Proof.Machine
end

section
/-! PROOFS. The CP and FL slots on a core that issues, the completion of an overlay, waits and their limit (R160, R161,
R177 to R187, R363, R387, R507, R508, R517). -/

namespace Sys2Proof.Machine

open Sys2Proof

/-! ### The CP slot -/

section

variable {c : CoreId} {f : CpSlot} {s : State} {x : Core} {op : Nat} {full : CoreSt → Bool}
  (h : s.issues c x 5 (cpWord op f)) (he : cpEncOk op f = true)

include h he

/-- A copy or an overlay within its limit reads its descriptor row and waits for its check (R179, R180). -/
theorem cpOp_room (hroom : full x.cur = false) (hfree : x.cur.readFree f.addr.toNat) :
    ∃ r b, cpOp op c f s full = .next (s.putCur c x 5 { x.cur with
      reads := r
      banks := b
      cpPend := x.cur.cpPend ++ [⟨x.cur.now, x.cur.bpc, f.eng.toNat, op == 2,
        (x.cur.viewRow x.cur.now f.addr.toNat).1, (x.cur.viewRow x.cur.now f.addr.toNat).2⟩] }) := by
  obtain ⟨b, hread⟩ := CoreSt.readRow_eq x.cur x.cur.bpc 5 0 f.addr.toNat .none
  refine ⟨(x.cur.readRow x.cur.bpc 5 0 f.addr.toNat .none).1.reads, b,
    congrArg Host.Outcome.next (State.slotOp_pass h he ?_)⟩
  dsimp only
  rw [hroom, if_neg Bool.false_ne_true, CoreSt.readRow_bad, hfree, if_neg Bool.false_ne_true, CoreSt.readRow_data, hread]

/-- A copy or an overlay past its limit raises cause 0x0A (R180). -/
theorem cpOp_full (hfull : full x.cur = true) : cpOp op c f s full = .next (s.noteCause c x 0x0A 5) := by
  refine congrArg Host.Outcome.next (State.slotOp_fault (y := x.cur) h he ?_)
  dsimp only
  rw [hfull, if_pos rfl]

end

section

variable (c : CoreId) (f : CpSlot) (s : State)

/-! CP.ISSUE and CP.OVL are the operations of their codes and limits (R178, R180). -/

theorem exec_cpIssue : exec (.cpIssue c f) s = cpOp 1 c f s fun cur =>
    decide (8 ≤ (s.copies.filter fun x => x.core == c && x.eng == f.eng.toNat).length +
      (cur.cpPend.filter fun x => !x.ovl && x.eng == f.eng.toNat).length) := rfl

theorem exec_cpOvl : exec (.cpOvl c f) s = cpOp 2 c f s fun cur =>
    decide (2 ≤ (cur.ovls.filter fun x => !x.boot).length + (cur.cpPend.filter fun x => x.ovl).length) := rfl

end

/-! ### Overlays -/

/-- Bundles through the fill port change IMEM and its marks only (R176, R177). -/
theorem CoreSt.foldl_fillBundle (start : Nat) (l : List ((Nat × Bool) × Nat)) : ∀ x : CoreSt, ∃ p w,
    l.foldl (fun x v => x.fillBundle (start + v.2) v.1.1 v.1.2) x = { x with
      imem := l.foldl (fun m v => mset zR m (start + v.2) (BitVec.ofNat 256 v.1.1)) x.imem
      imemPoison := p
      imemWback := w } := by
  induction l with
  | nil => exact fun x => ⟨x.imemPoison, x.imemWback, rfl⟩
  | cons v l ih =>
    intro x
    obtain ⟨p, w, h⟩ := ih (x.fillBundle (start + v.2) v.1.1 v.1.2)
    exact ⟨p, w, h⟩

section

variable {s : State} (c : CoreId)

/-- The same change of a core for every entry of a list is the change of the core by all of them, and nothing else. -/
theorem State.foldl_modBoth {α : Type} (g : α → CoreSt → CoreSt) (l : List α) : ∀ s : State, s.wf = true → ∃ cs,
    l.foldl (fun s a => s.modBoth c (g a)) s = { s with cores := cs } ∧
      ({ s with cores := cs } : State).cur c = l.foldl (fun x a => g a x) (s.cur c) := by
  induction l with
  | nil => exact fun s _ => ⟨s.cores, rfl, rfl⟩
  | cons a l ih =>
    intro s hw
    obtain ⟨cs, hs, hcur⟩ := ih (s.modBoth c (g a)) ((State.modBoth_keeps s c (g a) (Keeps.refl s)).wf hw)
    rw [State.cur_modBoth c hw] at hcur
    exact ⟨cs, hs, hcur⟩

/-- Keeping a loader body changes a job only; an overlay of a program or of the core runtime is not kept (R508). -/
theorem State.keepBody_eq (o : OvlSt) (l : List (Nat × Bool)) : ∃ ps, s.keepBody c o l = { s with parts := ps } ∧
    (o.boot = false ∨ o.sys = true → ps = s.parts) := by
  unfold State.keepBody
  dsimp only
  split
  next => exact ⟨s.parts, rfl, fun _ => rfl⟩
  next hb =>
    refine ⟨_, rfl, fun h => absurd ?_ hb⟩
    simpa using h

end

/-- An overlay of a loader body that the groom of the bay has read once brings that body (R508). -/
theorem State.ovlData_eq (s : State) (c : CoreId) (o : OvlSt) :
    let p := s.part (((s.ownerOf c).map (·.1)).getD 255)
    let kept := if o.boot && !o.sys && p.job.loader.isSome then p.job.bodies.find? fun y => y.1 == c / 576 else none
    (kept = none → s.ovlData c o = s.ovlRead c o) ∧ (∀ y, kept = some y → s.ovlData c o = y.2) := by
  have hbay : coreSiteOf c / 36 = c / 576 := Nat.div_div_eq_div_mul c 16 36
  unfold State.ovlData
  rw [hbay]
  dsimp only
  constructor
  · intro h
    rw [h]
  · intro y h
    rw [h]

/-- The oldest overlay fills its bundles and leaves the list; a program's flag gets INC (R160, R177, R180, R184). -/
theorem State.overlayIn_cons {s : State} (hw : s.wf = true) {c : CoreId} {o : OvlSt} {rest : List OvlSt}
    (ho : (s.cur c).ovls = o :: rest) :
    s.sameMem (s.overlayIn c) ∧ ((s.overlayIn c).cur c).ovls = rest ∧
    (o.boot = false → o.sys = false → (s.overlayIn c).parts = s.parts ∧
      ((s.cur c).active = true → ((s.overlayIn c).cur c).fInc = (s.cur c).fInc ++ [(o.flag, BitVec.ofNat 32 o.inc)] ∧
        ((s.overlayIn c).cur c).flags = (s.cur c).flags) ∧
      ((s.cur c).active = false → ((s.overlayIn c).cur c).flags =
        mset zW (s.cur c).flags o.flag ((s.cur c).f o.flag + BitVec.ofNat 32 o.inc))) ∧
    (o.boot = true ∨ o.sys = true → ((s.overlayIn c).cur c).flags = (s.cur c).flags ∧
      ((s.overlayIn c).cur c).fInc = (s.cur c).fInc) ∧
    ((s.overlayIn c).cur c).imem = (s.ovlData c o).zipIdx.foldl
      (fun m v => mset zR m (o.start + v.2) (BitVec.ofNat 256 v.1.1)) (s.cur c).imem := by
  unfold State.overlayIn
  rw [ho]
  dsimp only
  generalize s.ovlData c o = l
  have hwk := (State.keepBody_keeps s c o l (Keeps.refl s)).wf hw
  obtain ⟨ps, hkeep, hparts⟩ := State.keepBody_eq (s := s) c o l
  rw [hkeep] at hwk ⊢
  obtain ⟨cs, hfill, hcur⟩ := State.foldl_modBoth c (fun v x => x.fillBundle (o.start + v.2) v.1.1 v.1.2) l.zipIdx
    { s with parts := ps } hwk
  obtain ⟨p, w, hbundles⟩ := CoreSt.foldl_fillBundle o.start l.zipIdx (s.cur c)
  have hfilled : ({ s with parts := ps, cores := cs } : State).cur c = _ := hcur.trans hbundles
  have hwf : ({ s with parts := ps, cores := cs } : State).wf = true :=
    hfill ▸ (State.overlayFill_keeps _ c o l (Keeps.refl _)).wf hwk
  rw [show State.overlayFill _ c o l = { s with parts := ps, cores := cs } from hfill]
  generalize hv : ({ s with parts := ps, cores := cs } : State).modBoth c (fun x => { x with ovls := rest }) = v
  have hwv : v.wf = true := hv ▸ (State.modBoth_keeps _ c _ (Keeps.refl _)).wf hwf
  have hmem : s.sameMem v := hv ▸ ⟨rfl, rfl, rfl, rfl, rfl, rfl⟩
  have hps : v.parts = ps := hv ▸ rfl
  have hvcur : v.cur c = _ := (hv ▸ State.cur_modBoth c hwf _).trans
    (congrArg (fun x : CoreSt => { x with ovls := rest }) hfilled)
  clear hv
  split
  next hsys =>
    rw [hvcur]
    exact ⟨hmem, rfl, fun _ h => absurd hsys (by simp [h]), fun _ => ⟨rfl, rfl⟩, rfl⟩
  next hsys =>
    split
    next hboot =>
      have hcores (q : Nat) (g : Job → Job) : (v.modJob q g).cur c = v.cur c := rfl
      rw [hcores, hvcur]
      exact ⟨hmem, rfl, fun h => absurd hboot (by simp [h]), fun _ => ⟨rfl, rfl⟩, rfl⟩
    next hboot =>
      have hnone : ¬ (o.boot = true ∨ o.sys = true) := by simp [hsys, hboot]
      have hparts : v.parts = s.parts := hps.trans (hparts (.inl (Bool.eq_false_iff.mpr hboot)))
      have hactive : (v.cur c).active = (s.cur c).active := by rw [hvcur]; rfl
      obtain ⟨hopen, hclosed⟩ := State.incFlag_cases v c o.flag (BitVec.ofNat 32 o.inc)
      rw [hactive] at hopen hclosed
      by_cases ha : (s.cur c).active = true
      · rw [hopen ha, State.cur_modBoth c hwv, hvcur]
        exact ⟨hmem, rfl, fun _ _ => ⟨hparts, fun _ => ⟨rfl, rfl⟩, fun h => absurd ha (by simp [h])⟩,
          fun h => absurd h hnone, rfl⟩
      · have ha : (s.cur c).active = false := Bool.eq_false_iff.mpr ha
        rw [hclosed ha, State.cur_modBoth c hwv, hvcur]
        exact ⟨hmem, rfl, fun _ _ => ⟨hparts, fun h => absurd h (by simp [ha]), fun _ => rfl⟩,
          fun h => absurd h hnone, rfl⟩

/-- Settles O27: a copy or an overlay within its limit reads its row; the oldest overlay lands through an open port. -/
theorem copyAndOverlayIssue : Obligations.CopyAndOverlayIssue := by
  refine ⟨fun c f s x => ?_, fun c s hw => ?_⟩
  · intro n a cps ovs row
    rw [exec_cpIssue, exec_cpOvl]
    refine ⟨fun h he => congrArg Host.Outcome.next (State.slotOp_pass h he rfl), fun h he hroom hfree => ?_,
      fun h he hfull => ?_, fun h he hroom hfree => ?_, fun h he hfull => ?_⟩
    · exact cpOp_room h he (decide_eq_false (Nat.not_le.mpr hroom)) hfree
    · exact cpOp_full h he (decide_eq_true hfull)
    · exact cpOp_room h he (decide_eq_false (Nat.not_le.mpr hroom)) hfree
    · exact cpOp_full h he (decide_eq_true hfull)
  · intro x p n
    have hexec : exec (.overlayComplete c) s = .next (if (s.cl (c / 16)).port ≠ .opened || x.ovls.isEmpty then s
        else if s.stopped (c / 16) then (if n < x.ovls.length then s.landLater (c / 16) (.overlay c) else s)
        else s.overlayIn c) := rfl
    rw [hexec]
    refine ⟨fun h => ?_, fun hne hport hstop => ?_, fun o rest ho hport hrun => ?_⟩
    · rw [if_pos (by simpa [or_comm] using h)]
    · rw [if_neg (by simp [hport, hne]), if_pos hstop]
      rfl
    · obtain ⟨hread, hkept⟩ := State.ovlData_eq s c o
      exact ⟨hread, hkept, s.overlayIn c, by simp [hport, ho, hrun], State.overlayIn_cons hw ho⟩

/-! ### The FL slot -/

section

variable (c : CoreId) (f : FlSlot) (s : State)

/-! Each FL operation is a slot operation of its code (R182). -/

theorem exec_flNop : exec (.flNop c f) s = .next (s.slotOp c 6 (flWord 0 f) (flEncOk 0 f) fun _ cur => ([], cur)) := rfl

theorem exec_flAdd : exec (.flAdd c f) s = .next (s.slotOp c 6 (flWord 4 f) (flEncOk 4 f) fun _ cur =>
    ([], cur.addF f.flag.toNat (f.imm.zeroExtend 32))) := rfl

theorem exec_flSet : exec (.flSet c f) s = .next (s.slotOp c 6 (flWord 5 f) (flEncOk 5 f) fun _ cur =>
    ([], cur.putF f.flag.toNat (f.imm.zeroExtend 32))) := rfl

theorem exec_flRead : exec (.flRead c f) s = .next (s.slotOp c 6 (flWord 7 f) (flEncOk 7 f) fun beg cur =>
    if beg.fBad f.flag.toNat then ([0x0D], cur)
    else ([], cur.setS (f.imm.toNat % 16) 2 (beg.f f.flag.toNat))) := rfl

theorem exec_flSig : exec (.flSig c f) s = .next (s.slotOp c 6 (flWord 6 f) (flEncOk 6 f) fun beg cur =>
    let t := (beg.s (f.imm.toNat % 16)).toNat
    if beg.sBad (f.imm.toNat % 16) then ([0x0D], cur)
    else if ((s.ownerOf c).map fun o => (s.part o.1).clusters).getD 0 ≤ t % 65536 || 2 ^ 20 ≤ t || f.imm.toNat / 16 = 0 then
      ([0x0C], cur)
    else ([], { cur with sigPend := cur.sigPend ++ [(cur.now, t, f.flag.toNat, f.imm.toNat / 16)] })) := rfl

/-- Each command of the table of waits is a wait of its code, target and subtrahend (R182). -/
theorem exec_waitRules {r : (CoreId → FlSlot → Instr) × Nat × (FlSlot → CoreSt → W32) × (FlSlot → W32)}
    (hr : r ∈ waitRules) :
    exec (r.1 c f) s = .next (waitOp r.2.1 c f s (r.2.2.1 f) (r.2.2.2 f)) := by
  simp only [waitRules, List.mem_cons, List.not_mem_nil, or_false] at hr
  rcases hr with rfl | rfl | rfl <;> rfl

end

/-- A signal to a core that the partition does not have, or of an increment of zero (R185, R186). -/
theorem signal_refused_iff (t n imm : Nat) :
    (decide (n ≤ t % 65536) || decide (2 ^ 20 ≤ t) || decide (imm / 16 = 0)) = true ↔
      2 ^ 20 ≤ t ∨ n ≤ t % 65536 ∨ imm < 16 := by
  simp only [Bool.or_eq_true, decide_eq_true_eq]
  omega

/-- A flag has reached its target when it is at most 2^31 - 1 past it, modulo 2^32 (R182). -/
theorem reached_iff (f t : W32) : reached f t = true ↔ (f - t).toNat < 2 ^ 31 := decide_eq_true_iff

/-! ### Waits -/

section

variable {op : Nat} {c : CoreId} {f : FlSlot} {s : State} {x : Core} (hx : s.core c = x)
  (hphase : x.cur.phase = .running) (hstarted : x.cur.started = true) (hclk : s.cclk (c / 16) = true)
  (hword : x.cur.slotWord 6 = flWord op f) (target : CoreSt → W32) (sub : W32)

include hx hphase hstarted hclk hword

/-- A wait whose cycle has come does nothing more (R166, R182). -/
theorem waitOp_issues (h : s.issues c x 6 (flWord op f)) (he : flEncOk op f = true) (hfree : x.cur.freeze = .none) :
    waitOp op c f s target sub = s.putCur c x 6 x.cur := by
  unfold waitOp
  dsimp only
  rw [hx, if_neg (by simp [hphase, hstarted, coreSiteOf, hclk, hword]), hfree]
  exact State.slotOp_pass h he rfl

variable (he : flEncOk op f = true) (hflag : x.beg.fBad f.flag.toNat = false)
  (hreg : x.beg.sBad (f.imm.toNat % 16) = false)

include he hflag hreg

/-- A wait that stands before its cycle is tested: its cycle begins, or the core waits one more cycle (R160, R161, R182,
R183). -/
theorem waitOp_tests {w : Freeze} (hw : (x.cur.freeze = .gate ∧ w = .wait s.clk.dt s.waitLimitNs) ∨
    (∃ since limit, x.cur.freeze = .wait since limit ∧ w = .wait since limit)) :
    waitOp op c f s target sub =
      if reached (x.beg.f f.flag.toNat) (target x.beg) then (s.beginCycle c []).modCur c fun y => y.addF f.flag.toNat (-sub)
      else s.setCore c ⟨{ x.beg with freeze := w, waitCyc := x.beg.waitCyc + 1 },
        { x.beg with freeze := w, waitCyc := x.beg.waitCyc + 1 }⟩ := by
  unfold waitOp
  dsimp only
  rw [hx, if_neg (by simp [hphase, hstarted, coreSiteOf, hclk, hword])]
  rcases hw with ⟨hfreeze, rfl⟩ | ⟨since, limit, hfreeze, rfl⟩ <;>
    simp only [hfreeze, he, hflag, hreg, Bool.and_false, Bool.or_false, Bool.not_true, Bool.false_eq_true, if_false,
      List.isEmpty_nil]

end

/-- Settles O28: FL operations pass their checks or note a cause; a wait is tested before its cycle; its limit faults. -/
theorem flagsAndWaits : Obligations.FlagsAndWaits := by
  refine ⟨fun c f s x => ?_, fun r hr c f s x hx hphase hstarted hclk hword he hflag hreg => ?_,
    fun c s since limit hw => ?_⟩
  · intro i r t n
    rw [exec_flNop, exec_flAdd, exec_flSet, exec_flRead, exec_flSig]
    refine ⟨fun h he => congrArg Host.Outcome.next (State.slotOp_pass h he rfl),
      fun h => congrArg Host.Outcome.next (State.slotOp_pass h rfl rfl),
      fun h => congrArg Host.Outcome.next (State.slotOp_pass h rfl rfl),
      fun h he hb => congrArg Host.Outcome.next (State.slotOp_pass h he (if_neg (Bool.eq_false_iff.mp hb))),
      fun h he hb => congrArg Host.Outcome.next (State.slotOp_fault h he (if_pos hb)),
      fun h hb ht hn hinc => congrArg Host.Outcome.next (State.slotOp_pass h rfl ?_),
      fun h hb hbad => congrArg Host.Outcome.next (State.slotOp_fault (y := x.cur) h rfl ?_)⟩
    · exact (if_neg (Bool.eq_false_iff.mp hb)).trans (if_neg fun hbad =>
        ((signal_refused_iff t n _).mp hbad).elim (Nat.not_le.mpr ht) (·.elim (Nat.not_le.mpr hn) (Nat.not_lt.mpr hinc)))
    · exact (if_neg (Bool.eq_false_iff.mp hb)).trans (if_pos ((signal_refused_iff t n _).mpr hbad))
  · intro v goal
    rw [exec_waitRules c f s hr]
    have hgoes : (v - goal).toNat < 2 ^ 31 → reached v goal = true := (reached_iff v goal).mpr
    have hwaits (h : 2 ^ 31 ≤ (v - goal).toNat) : ¬ reached v goal = true :=
      fun hr => absurd ((reached_iff v goal).mp hr) (Nat.not_lt.mpr h)
    have htests {w : Freeze} := waitOp_tests hx hphase hstarted hclk hword (r.2.2.1 f) (r.2.2.2 f) he hflag hreg (w := w)
    refine ⟨fun since limit hfreeze hv => congrArg Host.Outcome.next ?_, fun hfreeze hv => congrArg Host.Outcome.next ?_,
      fun since limit hfreeze hv => congrArg Host.Outcome.next ?_, fun h hfreeze => congrArg Host.Outcome.next ?_⟩
    · rcases hfreeze with hfreeze | hfreeze
      · exact (htests (.inl ⟨hfreeze, rfl⟩)).trans (if_pos (hgoes hv))
      · exact (htests (.inr ⟨since, limit, hfreeze, rfl⟩)).trans (if_pos (hgoes hv))
    · exact (htests (.inl ⟨hfreeze, rfl⟩)).trans (if_neg (hwaits hv))
    · exact (htests (.inr ⟨since, limit, hfreeze, rfl⟩)).trans (if_neg (hwaits hv))
    · exact waitOp_issues hx hphase hstarted hclk hword _ _ h he hfreeze
  · have hexec : exec (.waitLimit c) s = .next (if limit ≠ 0 ∧ since + limit < s.clk.dt ∧ s.cclk (c / 16) then
        s.coreFault c [⟨0x0E, (s.cur c).bpc, 6⟩] else s) := by
      change execWaitLimit c s = _
      unfold execWaitLimit
      rw [hw]
      rfl
    rw [hexec]
    refine ⟨fun hlim hlate hclk => by rw [if_pos ⟨hlim, hlate, hclk⟩], fun h => ?_⟩
    rw [if_neg]
    rintro ⟨hlim, hlate, hclk⟩
    rcases h with h | h | h
    · exact hlim h
    · exact Nat.not_lt.mpr h hlate
    · exact absurd hclk (Bool.eq_false_iff.mp h)

end Sys2Proof.Machine
end

section
/-! PROOFS. The checks of scratchpad rows, poison that is delivered, and the ranks of causes (R161, R184, R195, R196, R199 to
R203, R313, R314). -/

namespace Sys2Proof.Machine

open Sys2Proof

/-! ### Checks of scratchpad rows -/

section

variable (c : CoreId) (row : BitVec 12) (s : State)

/-- A row that is at its syndrome stage is checked (R189, R195, R196). -/
theorem exec_lspReadCheck (hactive : (s.cur c).active = true) (hcheck : (s.cur c).atCheck row.toNat = true)
    (found : Finding) : exec (.lspReadCheck c row found) s = .next (match found with
      | .ok => s
      | .bit => (s.odAdd odLspBitFixCount 1).modBoth c fun y => { y with wback := row.toNat :: y.wback }
      | .symbol => ((s.odAdd odLspSymbolFixCount 1).modCur c fun y =>
          { y with freeze := y.freeze.symbol y.symHeld, wback := row.toNat :: y.wback }).coreFix c 0x4001 row.toNat
      | .uncorrectable =>
        ((s.odAdd odLspUncorrectableCount 1).modBoth c fun y => y.rowBad row.toNat).coreEv c 0x4002 row.toNat) := by
  change execLspReadCheck c row found s = _
  unfold execLspReadCheck
  dsimp only
  rw [hactive, hcheck]
  cases found <;> rfl

/-- The patrol scrubber reads a row, late or in time, and finds a bit or an uncorrectable error (R200). -/
theorem exec_lspPatrolScrub (late : Bool) (found : Finding) : exec (.lspPatrolScrub c row found late) s =
    .next (let t := if late then s.odAdd odScrubLateCount 1 else s
      match found with
      | .ok => t
      | .bit => t.odAdd odLspBitFixCount 1
      | .symbol => (t.odAdd odLspSymbolFixCount 1).coreFix c 0x4001 row.toNat
      | .uncorrectable => ((t.odAdd odLspUncorrectableCount 1).modBoth c fun y =>
          { y with lspPoison := poisonPair y.lspPoison row.toNat }).coreEv c 0x4002 row.toNat) := by
  cases found <;> rfl

end

section

variable {s : State} {c : CoreId}

/-- A counter that counts changes no core. -/
theorem State.cur_odAdd (k n : Nat) : (s.odAdd k n).cur c = s.cur c := rfl

theorem State.wf_odAdd (hw : s.wf = true) (k n : Nat) : (s.odAdd k n).wf = true :=
  (State.odAdd_keeps s k n (Keeps.refl s)).wf hw

theorem State.cur_coreEv (code row : Nat) : (s.coreEv c code row).cur c = s.cur c := by
  simp only [State.cur, State.core, State.coreEv, (State.logEv_frame _ _ _ _ _ _).cores]

theorem State.cur_coreFix (code row : Nat) : (s.coreFix c code row).cur c = s.cur c := by
  have hcores : (s.coreFix c code row).cores = (s.coreEv c code row).cores := State.siteFix_cores _ _
  exact (congrArg (fun m => (mget zCore m c).cur) hcores).trans (State.cur_coreEv code row)

/-- Both rows of a granule whose row is found uncorrectable are poisoned (R195). -/
theorem mget_poisonPair {m : SMap Bool} (hm : mwf zF m = true) (row : Nat) :
    mget zF (poisonPair m row) (2 * (row / 2)) = true ∧ mget zF (poisonPair m row) (2 * (row / 2) + 1) = true := by
  have hm' := mset_wf (2 * (row / 2)) true hm
  unfold poisonPair
  exact ⟨by rw [mget_mset_other hm' (by omega), mget_mset_same hm], mget_mset_same hm'⟩

/-- A symbol error holds the core for three cycles, unless one of the cycle holds it or has held it (R196). -/
theorem Freeze.symbol_eq {f : Freeze} (h : ∀ n, f ≠ .replay n) (held : Bool) :
    f.symbol held = if held then f else .hold 3 := by
  cases f with
  | replay n => exact absurd rfl (h n)
  | _ => cases held <;> rfl

/-- A hold whose cycles run out ends, and they are counted (R161, R164, R195). -/
theorem exec_coreHoldEnd (hcauses : (s.cur c).causes = []) (hclk : s.cclk (c / 16) = true) (n : Nat) :
    let u (held : Bool) := (s.modBoth c fun y => { y with
      freeze := .none, holdCyc := y.holdCyc + BitVec.ofNat 64 n, symHeld := held }).odAdd odHoldCycTotal n
    ((s.cur c).freeze = .hold n → exec (.coreHoldEnd c) s = .next (u true)) ∧
    ((s.cur c).freeze = .fetchHold n → exec (.coreHoldEnd c) s = .next ((u false).issueBundle c)) := by
  intro u
  change (_ → execCoreHoldEnd c s = _) ∧ (_ → execCoreHoldEnd c s = _)
  unfold execCoreHoldEnd
  extract_lets fin
  rw [hcauses, coreSiteOf, hclk, if_neg (by decide)]
  exact ⟨fun h => by rw [h], fun h => by rw [h]⟩

/-- With CCLK stopped no held cycle passes (R387). -/
theorem exec_coreHoldEnd_stopped (hclk : s.cclk (c / 16) = false) : exec (.coreHoldEnd c) s = .next s := by
  change execCoreHoldEnd c s = _
  unfold execCoreHoldEnd
  extract_lets fin
  rw [if_pos (by simp [coreSiteOf, hclk])]

end

/-- Settles O31: what each finding does to the core and the counts, and how a hold ends. -/
theorem scratchpadChecks : Obligations.ScratchpadChecks := by
  intro c row s x g
  refine ⟨fun hactive hcheck => ?_, fun hcauses hclk => exec_coreHoldEnd hcauses hclk, exec_coreHoldEnd_stopped,
    exec_lspPatrolScrub c row s false .ok, exec_lspPatrolScrub c row s true .ok, exec_lspPatrolScrub c row s false .bit,
    _, exec_lspPatrolScrub c row s false .uncorrectable, fun hw hm => ?_⟩
  · have hexec := exec_lspReadCheck c row s hactive hcheck
    refine ⟨hexec .ok, hexec .bit, ⟨_, hexec .symbol, fun hw hfreeze => ?_, fun hw => ?_⟩,
      ⟨_, hexec .uncorrectable, fun hw hm => ?_⟩⟩
    · dsimp only
      rw [State.cur_coreFix, State.modCur, State.cur_setCore c (State.wf_odAdd hw _ _)]
      exact Freeze.symbol_eq hfreeze _
    · dsimp only
      rw [State.cur_coreFix, State.modCur, State.cur_setCore c (State.wf_odAdd hw _ _)]
      rfl
    · dsimp only
      rw [State.cur_coreEv, State.cur_modBoth c (State.wf_odAdd hw _ _), State.cur_odAdd]
      exact mget_poisonPair hm row.toNat
  · dsimp only
    rw [if_neg Bool.false_ne_true, State.cur_coreEv, State.cur_modBoth c (State.wf_odAdd hw _ _), State.cur_odAdd]
    exact mget_poisonPair hm row.toNat

/-! ### Poison that is delivered -/

/-- A core in which poison is due, and an increment of a flag from outside has come in the cycle (R160, R184). -/
def poisonedWithIncrement : State :=
  let y : CoreSt := { CoreSt.zero with phase := .running, started := true, fInc := [(0, 1)] }
  State.reset.setCore 0 ⟨{ y with causes := [(0x0D, 8, 3)] }, y⟩

/-- Refutes O32: a flag increment that has come from outside in the cycle of the fault is added when the core stops (R184), so
the flags are not those of the start of the cycle. -/
theorem not_poisonFaultsTheCore : ¬ Obligations.PoisonFaultsTheCore := by
  intro h
  obtain ⟨-, hfaults⟩ := h 0 poisonedWithIncrement 8 3 [] (by unfold CoreSt.goes; decide +kernel) (by decide +kernel) nofun
    (by decide +kernel)
  obtain ⟨t, hexec, -, -, -, hflags, -⟩ := hfaults (by decide +kernel)
  have hbefore : mget zW (poisonedWithIncrement.core 0).beg.flags 0 = 0 := by decide +kernel
  have hafter : (match exec (.poisonDelivery 0) poisonedWithIncrement with
      | .next u => mget zW (u.cur 0).flags 0
      | _ => 0) = 1 := by decide +kernel
  rw [hexec] at hafter
  exact absurd ((congrArg (mget zW · 0) hflags).symm.trans hafter) (by rw [hbefore]; decide)

/-! ### The rank of a cause -/

/-- The first-ranked of several causes is one of them, and no other ranks before it (R203). -/
theorem firstCause_least {cs : List Cause} {f : Cause} (h : firstCause cs = some f) :
    f ∈ cs ∧ ∀ k ∈ cs, f.rank ≤ k.rank := by
  induction cs generalizing f with
  | nil => simp [firstCause] at h
  | cons c cs ih =>
    unfold firstCause at h
    cases hrest : firstCause cs with
    | none =>
      have hnil : cs = [] := by
        by_contra hne
        obtain ⟨g, hg⟩ := exists_firstCause hne
        simp [hg] at hrest
      simp only [hrest, Option.some.injEq] at h
      simp [← h, hnil]
    | some d =>
      obtain ⟨hmem, hle⟩ := ih hrest
      simp only [hrest] at h
      split at h
      next hd =>
        obtain rfl : d = f := Option.some.inj h
        have hdc : d.rank ≤ c.rank := by
          simp only [Cause.before, Bool.or_eq_true, Bool.and_eq_true, decide_eq_true_eq, beq_iff_eq] at hd
          omega
        exact ⟨List.mem_cons_of_mem c hmem, List.forall_mem_cons.mpr ⟨hdc, hle⟩⟩
      next hd =>
        obtain rfl : c = f := Option.some.inj h
        have hcd : c.rank ≤ d.rank := by
          simp only [Cause.before, Bool.or_eq_true, Bool.and_eq_true, decide_eq_true_eq, beq_iff_eq] at hd
          omega
        exact ⟨List.mem_cons_self, List.forall_mem_cons.mpr ⟨Nat.le_refl _, fun k hk => Nat.le_trans hcd (hle k hk)⟩⟩

/-- A cause that ranks no later than another, in the words of R203. -/
theorem Cause.rank_le {f k : Cause} (hf : 1 ≤ f.code) (h : f.rank ≤ k.rank) :
    (k.code = 0x0D → f.code = 0x0D) ∧ (k.code = 0x07 → f.code = 0x0D ∨ f.code = 0x07) ∧
      (f.code = 0x0D ∨ f.code = 0x07 ∨ f.code ≤ k.code) := by
  unfold Cause.rank at h
  split_ifs at h <;> omega

/-! ### What is sent to the host -/

/-- What is sent to the host is added behind what has been sent, at the same time, through the same port and with the same
places for completion records. -/
structure State.Sends (s t : State) : Prop where
  keeps : Keeps s t
  dt : t.clk.dt = s.clk.dt
  cut : t.dieCutOff (linkDie t.hostPort) = s.dieCutOff (linkDie s.hostPort)
  sent : ∃ l, t.hostTx = s.hostTx ++ l
  place : s.wf = true → ∀ r, (t.ring r).cpl = (s.ring r).cpl ∧ (t.ring r).log2 = (s.ring r).log2

theorem State.LogFrame.cut {s t : State} (h : State.LogFrame s t) :
    t.dieCutOff (linkDie t.hostPort) = s.dieCutOff (linkDie s.hostPort) := by
  unfold State.LogFrame at h
  rw [h]
  rfl

namespace State.Sends

variable {s t u : State}

theorem refl (s : State) : State.Sends s s := ⟨Keeps.refl s, rfl, rfl, ⟨[], by simp⟩, fun _ _ => ⟨rfl, rfl⟩⟩

theorem trans (h : State.Sends s t) (k : State.Sends t u) : State.Sends s u where
  keeps := h.keeps.trans k.keeps
  dt := k.dt.trans h.dt
  cut := k.cut.trans h.cut
  sent := by
    obtain ⟨l, hl⟩ := h.sent
    obtain ⟨m, hm⟩ := k.sent
    exact ⟨l ++ m, by rw [hm, hl, List.append_assoc]⟩
  place hw r := by
    obtain ⟨hcpl, hlog2⟩ := h.place hw r
    obtain ⟨kcpl, klog2⟩ := k.place (h.keeps.wf hw) r
    exact ⟨kcpl.trans hcpl, klog2.trans hlog2⟩

/-- What sends nothing and keeps the rings. -/
theorem of_same (hk : Keeps s t) (hf : State.LogFrame s t) (ht : t.hostTx = s.hostTx) (hr : t.rings = s.rings) :
    State.Sends s t :=
  ⟨hk, congrArg Clock.dt hf.clk, hf.cut, ⟨[], by rw [ht, List.append_nil]⟩,
    fun _ r => by simp only [State.ring, hr, and_self]⟩

theorem foldl {β : Type} {f : State → β → State} (hf : ∀ s b, State.Sends s (f s b)) (l : List β) :
    ∀ s, State.Sends s (l.foldl f s) := by
  induction l with
  | nil => exact fun s => refl s
  | cons b l ih => exact fun s => (hf s b).trans (ih (f s b))

end State.Sends

section

variable (s : State)

theorem State.toCard_sends (m : HostMsg) : State.Sends s (s.toCard m) where
  keeps := State.toCard_keeps s m (Keeps.refl s)
  dt := congrArg Clock.dt (State.toCard_frame s m).clk
  cut := (State.toCard_frame s m).cut
  sent := by
    rw [State.toCard_hostTx]
    split
    · exact ⟨[], by simp⟩
    · exact ⟨[m], rfl⟩
  place _ r := by
    unfold State.toCard
    split <;> exact ⟨rfl, rfl⟩

/-- A ring that is changed, but not in the places of its completion records. -/
theorem State.modRing_sends (r : Nat) {f : Ring → Ring} (hf : ∀ x : Ring, (f x).cpl = x.cpl ∧ (f x).log2 = x.log2) :
    State.Sends s (s.modRing r f) where
  keeps := State.modRing_keeps s r f (Keeps.refl s)
  dt := rfl
  cut := rfl
  sent := ⟨[], by simp⟩
  place hw q := by
    have hr : mwf zRing s.rings = true := by simp [State.wf, State.unitsWf] at hw; simp [hw]
    by_cases hq : q = r
    · subst hq
      have hsame : (s.modRing q f).ring q = f (s.ring q) := mget_mset_same hr
      rw [hsame]
      exact hf _
    · have hother : (s.modRing r f).ring q = s.ring q := mget_mset_other hr hq
      rw [hother]
      exact ⟨rfl, rfl⟩

theorem State.intr_sends (r : Nat) : State.Sends s (s.intr r) := by
  unfold State.intr
  extract_lets x
  split
  · exact .refl s
  split
  · refine State.Sends.trans ?_ (State.toCard_sends _ _)
    exact State.modRing_sends s r fun _ => ⟨rfl, rfl⟩
  · exact State.modRing_sends s r fun _ => ⟨rfl, rfl⟩

theorem State.filterCmds_sends (q : RingCmd → Bool) : State.Sends s { s with cmds := s.cmds.filter q } :=
  .of_same (Keeps.refl s) rfl rfl rfl

theorem State.dropFetch_sends (r : Nat) : State.Sends s (s.dropFetch r) :=
  .of_same (State.dropFetch_keeps s r (Keeps.refl s)) rfl rfl rfl

theorem State.writeCpl_sends (cmd : RingCmd) (status : Nat) (res : Results) : State.Sends s (s.writeCpl cmd status res) := by
  unfold State.writeCpl State.hostWrite
  extract_lets x size job t u
  exact ((State.filterCmds_sends s _).trans (State.toCard_sends _ _)).trans (State.intr_sends _ _)

theorem State.intr_cmds (r : Nat) : (s.intr r).cmds = s.cmds := by
  unfold State.intr
  extract_lets x
  split
  · rfl
  split
  · exact State.toCard_cmds _ _
  · rfl

/-- A command whose completion record is written is off the list (R313). -/
theorem State.writeCpl_cmds (cmd : RingCmd) (status : Nat) (res : Results) : (s.writeCpl cmd status res).cmds =
    s.cmds.filter fun y => !(y.ring == cmd.ring && y.idx == cmd.idx) := by
  unfold State.writeCpl State.hostWrite
  extract_lets x size job t u
  rw [State.intr_cmds]
  exact State.toCard_cmds t _

/-- Its record is sent to the place of its index, where the host port has its path (R54, R313). -/
theorem State.writeCpl_hostTx (cmd : RingCmd) (status : Nat) (res : Results)
    (hcut : s.dieCutOff (linkDie s.hostPort) = false) : ∃ job step l, (s.writeCpl cmd status res).hostTx = s.hostTx ++
      [.hwr ((s.ring cmd.ring).cpl + 64 * (cmd.idx % 2 ^ (s.ring cmd.ring).log2))
        (cplWord cmd (2 ^ (s.ring cmd.ring).log2) status res job step (s.clk.dt / 10 * 10)) 64] ++ l := by
  unfold State.writeCpl State.hostWrite
  extract_lets x size job t u
  obtain ⟨l, hl⟩ := (State.intr_sends u cmd.ring).sent
  refine ⟨job.jobId, job.step, l, ?_⟩
  have hu : u.hostTx = s.hostTx ++ [.hwr (x.cpl + 64 * (cmd.idx % size))
      (cplWord cmd size status res job.jobId job.step (t.clk.dt / 10 * 10)) 64] :=
    (State.toCard_hostTx t _).trans (if_neg (Bool.eq_false_iff.mp hcut))
  rw [hl, hu]

/-! The log sends sideband frames only. -/

theorem State.alertPort_hostTx (port code : Nat) (seq : W32) : (s.alertPort port code seq).hostTx = s.hostTx := by
  unfold State.alertPort
  dsimp only
  split
  · split <;> rfl
  · rfl

theorem State.alert_hostTx (code : Nat) (seq : W32) : (s.alert code seq).hostTx = s.hostTx := by
  unfold State.alert
  dsimp only
  split
  · rw [State.alertPort_hostTx, State.alertPort_hostTx, State.alertPort_hostTx]
  · rfl

section

variable (code : Nat) (un : UnitId) (part : Option Nat) (lunit : Nat) (payload : List Nat)

theorem State.appendEv_hostTx : (s.appendEv code un part lunit payload).1.hostTx = s.hostTx := by
  unfold State.appendEv
  dsimp only
  split
  · rfl
  split
  · rfl
  · exact State.alert_hostTx _ _ _

theorem State.appendEv_sends : State.Sends s (s.appendEv code un part lunit payload).1 :=
  .of_same (State.appendEv_keeps s code un part lunit payload (Keeps.refl s))
    (State.appendEv_frame s code un part lunit payload) (State.appendEv_hostTx s code un part lunit payload)
    (congrArg (·.1) (State.appendEv_orders s code un part lunit payload))

theorem State.logEv_sends : State.Sends s (s.logEv code un part lunit payload) := by
  have h := State.appendEv_sends s code un part lunit payload
  unfold State.logEv
  generalize s.appendEv code un part lunit payload = x at h
  obtain ⟨a, b⟩ := x
  cases b
  · exact h
  · exact h.trans (.foldl (fun u cmd => State.writeCpl_sends u cmd _ _) _ _)

/-- Only an EVENT_WAIT takes an event (R329). -/
theorem opcode_of_waitMatches {cmd : RingCmd} {code dt : Nat} {part : Option Nat}
    (h : waitMatches s cmd code dt part = true) : fld cmd.desc 0 8 = 0x22 := by
  unfold waitMatches at h
  simp only [Bool.and_eq_true, decide_eq_true_eq] at h
  obtain ⟨⟨⟨hcode, -⟩, -⟩, -⟩ := h
  exact hcode

/-- Completion records of other commands leave a command on the list (R313). -/
theorem State.foldl_writeCpl_cmd {r i : Nat} {l : List RingCmd} (hl : ∀ y ∈ l, ¬ (y.ring = r ∧ y.idx = i)) (status : Nat)
    (res : State → Results) : ∀ u : State, (l.foldl (fun u y => u.writeCpl y status (res u)) u).cmd r i = u.cmd r i := by
  induction l with
  | nil => exact fun _ => rfl
  | cons y l ih =>
    intro u
    have hy : ¬ (y.ring = r ∧ y.idx = i) := hl y List.mem_cons_self
    refine (ih (fun z hz => hl z (List.mem_cons_of_mem y hz)) _).trans ?_
    unfold State.cmd
    rw [State.writeCpl_cmds, List.find?_filter]
    refine congrArg (List.find? · u.cmds) (funext fun z => ?_)
    by_cases hkey : (z.ring == r && z.idx == i) = true
    · obtain ⟨hr, hi⟩ : z.ring = r ∧ z.idx = i := by simpa using hkey
      have hkept : ¬ (z.ring = y.ring ∧ z.idx = y.idx) := fun ⟨hzr, hzi⟩ => hy ⟨hzr.symm.trans hr, hzi.symm.trans hi⟩
      have hkept : (!(z.ring == y.ring && z.idx == y.idx)) = true := by
        rw [Bool.not_eq_true', ← Bool.not_eq_true, Bool.and_eq_true, beq_iff_eq, beq_iff_eq]
        exact hkept
      simp only [hkey, hkept, and_self, decide_true]
    · simp only [Bool.eq_false_iff.mpr hkey, Bool.false_eq_true, and_false, decide_false]

/-- A command of which no list entry is an EVENT_WAIT stays as it is while an event is logged (R329). -/
theorem State.logEv_cmd {r i : Nat} (h : ∀ y ∈ s.cmds, y.ring = r → y.idx = i → fld y.desc 0 8 ≠ 0x22) :
    (s.logEv code un part lunit payload).cmd r i = s.cmd r i := by
  have hcmds : (s.appendEv code un part lunit payload).1.cmds = s.cmds :=
    congrArg (·.2) (State.appendEv_orders s code un part lunit payload)
  unfold State.logEv
  generalize s.appendEv code un part lunit payload = x at hcmds
  obtain ⟨a, b⟩ := x
  have hcmd : a.cmd r i = s.cmd r i := congrArg (List.find? fun y : RingCmd => y.ring == r && y.idx == i) hcmds
  cases b
  · exact hcmd
  · have hothers : ∀ y ∈ a.cmds.filter fun cmd => waitMatches a cmd code (a.clk.dt / 10 * 10) part,
        ¬ (y.ring = r ∧ y.idx = i) := by
      intro y hy ⟨hr, hi⟩
      obtain ⟨hmem, hmatch⟩ := List.mem_filter.mp hy
      exact h y (hcmds ▸ hmem) hr hi (opcode_of_waitMatches a hmatch)
    exact (State.foldl_writeCpl_cmd hothers csOk (fun u => ⟨0, u.clk.dt / 10 * 10, code, 0⟩) a).trans hcmd

end

end

/-! ### A command that completes -/

section

variable {s t u : State} {cmd : RingCmd} {status : Nat}

/-- What is sent before a command completes. -/
theorem State.Sends.completes (h : State.Sends s t) (hw : s.wf = true) (k : Completes t u cmd status) :
    Completes s u cmd status := by
  obtain ⟨hoff, hrecord⟩ := k
  refine ⟨hoff, fun hcut => ?_⟩
  obtain ⟨res, job, step, l, r, htx⟩ := hrecord (h.cut.trans hcut)
  obtain ⟨m, hm⟩ := h.sent
  obtain ⟨hcpl, hlog2⟩ := h.place hw cmd.ring
  refine ⟨res, job, step, m ++ l, r, ?_⟩
  rw [htx, hm, hcpl, hlog2, h.dt]
  simp only [List.append_assoc]

/-- What is sent after a command has completed. -/
theorem Completes.sends (h : Completes s t cmd status) (k : State.Sends t u) (hc : ∀ y ∈ u.cmds, y ∈ t.cmds) :
    Completes s u cmd status := by
  obtain ⟨hoff, hrecord⟩ := h
  refine ⟨fun y hy => hoff y (hc y hy), fun hcut => ?_⟩
  obtain ⟨res, job, step, l, r, htx⟩ := hrecord hcut
  obtain ⟨m, hm⟩ := k.sent
  refine ⟨res, job, step, l, r ++ m, ?_⟩
  rw [hm, htx]
  simp only [List.append_assoc]

/-- A completion record completes its command (R313). -/
theorem State.writeCpl_completes (s : State) (cmd : RingCmd) (status : Nat) (res : Results) :
    Completes s (s.writeCpl cmd status res) cmd status := by
  refine ⟨fun y hy hkey => ?_, fun hcut => ?_⟩
  · rw [State.writeCpl_cmds] at hy
    simp [hkey] at hy
  · obtain ⟨job, step, l, htx⟩ := State.writeCpl_hostTx s cmd status res hcut
    exact ⟨res, job, step, [], l, by simpa using htx⟩

/-- A command that ends completes, whether its ring stops or goes on (R311, R313). -/
theorem State.complete_completes (s : State) (cmd : RingCmd) (status : Nat) (res : Results) :
    Completes s (s.complete cmd status res) cmd status := by
  have hcpl := State.writeCpl_completes s cmd status res
  unfold State.complete
  extract_lets t u
  split
  · have hstop := State.modRing_sends t cmd.ring (f := fun x => { x with stopped := true, stopIdx := x.cons })
      fun _ => ⟨rfl, rfl⟩
    have hsends : State.Sends t u := hstop.trans (State.dropFetch_sends _ _)
    have hends := State.modRing_logs t cmd.ring (f := fun x => { x with stopped := true, stopIdx := x.cons })
      fun _ => ⟨rfl, rfl⟩
    have hends : State.Logs t u := hends.trans (State.dropFetch_logs _ _)
    clear_value u
    have hlog := State.logEv_logs u 0x9004 unModule (some cmd.part) noLunit [cmd.ring, (u.ring cmd.ring).stopIdx.toNat]
    have hsent := State.logEv_sends u 0x9004 unModule (some cmd.part) noLunit [cmd.ring, (u.ring cmd.ring).stopIdx.toNat]
    generalize u.logEv _ _ _ _ _ = v at hlog hsent ⊢
    exact hcpl.sends (hsends.trans hsent) (hends.trans hlog).cmds
  · exact hcpl

end

/-! ### A core fault and the job that runs -/

/-- From one state to another in which the partitions and clusters are as they were, what is sent to the host is added behind
what has been sent, and the command `i` of ring `r` is on the list as it was, unless it is an EVENT_WAIT. -/
structure State.Stops (r i : Nat) (s t : State) : Prop where
  sends : State.Sends s t
  parts : t.parts = s.parts
  clusters : t.clusters = s.clusters
  cmds : ∀ y ∈ t.cmds, y ∈ s.cmds
  cmd : (∀ y ∈ s.cmds, y.ring = r → y.idx = i → fld y.desc 0 8 ≠ 0x22) → t.cmd r i = s.cmd r i

namespace State.Stops

variable {r i : Nat} {s t u : State}

theorem refl (r i : Nat) (s : State) : State.Stops r i s s := ⟨.refl s, rfl, rfl, fun _ h => h, fun _ => rfl⟩

theorem trans (h : State.Stops r i s t) (k : State.Stops r i t u) : State.Stops r i s u where
  sends := h.sends.trans k.sends
  parts := k.parts.trans h.parts
  clusters := k.clusters.trans h.clusters
  cmds y hy := h.cmds y (k.cmds y hy)
  cmd hwait := (k.cmd fun y hy => hwait y (h.cmds y hy)).trans (h.cmd hwait)

theorem foldl {β : Type} {f : State → β → State} (hf : ∀ s b, State.Stops r i s (f s b)) (l : List β) :
    ∀ s, State.Stops r i s (l.foldl f s) := by
  induction l with
  | nil => exact fun s => refl r i s
  | cons b l ih => exact fun s => (hf s b).trans (ih (f s b))

end State.Stops

section

variable (r i : Nat) (s : State)

theorem State.setCore_stops (c : CoreId) (x : Core) : State.Stops r i s (s.setCore c x) :=
  ⟨⟨State.setCore_keeps s c x (Keeps.refl s), rfl, rfl, ⟨[], by simp⟩, fun _ _ => ⟨rfl, rfl⟩⟩, rfl, rfl, fun _ h => h,
    fun _ => rfl⟩

theorem State.odAdd_stops (k n : Nat) : State.Stops r i s (s.odAdd k n) :=
  ⟨.of_same (State.odAdd_keeps s k n (Keeps.refl s)) rfl rfl rfl, rfl, rfl, fun _ h => h, fun _ => rfl⟩

theorem State.logEv_stops (code : Nat) (un : UnitId) (part : Option Nat) (lunit : Nat) (payload : List Nat) :
    State.Stops r i s (s.logEv code un part lunit payload) where
  sends := State.logEv_sends s code un part lunit payload
  parts := (State.logEv_frame s code un part lunit payload).parts
  clusters := (State.logEv_frame s code un part lunit payload).clusters
  cmds := (State.logEv_logs s code un part lunit payload).cmds
  cmd hwait := State.logEv_cmd s code un part lunit payload hwait

theorem State.startCp_stops (c : CoreId) (x : CoreSt) (q : CpPend) : State.Stops r i s (s.startCp c x q) := by
  unfold State.startCp
  extract_lets o y
  split
  · exact .refl r i s
  split
  · exact State.setCore_stops r i s c _
  · exact ⟨⟨Keeps.refl s, rfl, rfl, ⟨[], by simp⟩, fun _ _ => ⟨rfl, rfl⟩⟩, rfl, rfl, fun _ h => h,
    fun _ => rfl⟩

theorem State.haltCore_stops (c : CoreId) (x y : CoreSt) : State.Stops r i s (s.haltCore c x y) :=
  (State.setCore_stops r i s c _).trans (.foldl (fun u q => State.startCp_stops r i u c x q) _ _)

theorem State.stopCores_stops (p : Nat) (but : Option CoreId) : State.Stops r i s (s.stopCores p but) := by
  unfold State.stopCores
  refine .foldl (fun u kv => ?_) s.cores s
  extract_lets x y
  split
  · exact State.haltCore_stops r i u _ _ _
  · exact .refl r i u

end

section

variable {s : State} {p r i : Nat} {cmd : RingCmd}

theorem State.modJob_sends (s : State) (p : Nat) (g : Job → Job) : State.Sends s (s.modJob p g) :=
  ⟨State.modJob_keeps s p g (Keeps.refl s), rfl, rfl, ⟨[], by simp⟩, fun _ _ => ⟨rfl, rfl⟩⟩

/-- The armed command of a job completes when the job ends, and the job keeps its state and its reason (R314, R320 to
R323). -/
theorem State.endArm_completes (hw : s.wf = true) (harm : (s.part p).job.armCmd = some (r, i)) (hcmd : s.cmd r i = some cmd)
    (status reason : Nat) : Completes s (s.endArm p status reason) cmd status ∧
      ((s.endArm p status reason).part p).job.st = (s.part p).job.st ∧
      ((s.endArm p status reason).part p).job.reason = (s.part p).job.reason := by
  have hfacts := (State.endArm_partAs p s p status reason).facts hw
  obtain ⟨hst, hreason⟩ : ((s.endArm p status reason).part p).job.st = (s.part p).job.st ∧
      ((s.endArm p status reason).part p).job.reason = (s.part p).job.reason := by
    simp only [Part.facts, Prod.mk.injEq] at hfacts
    obtain ⟨-, -, -, -, -, hst, hreason⟩ := hfacts
    exact ⟨hst, hreason⟩
  refine ⟨?_, hst, hreason⟩
  unfold State.endArm
  rw [harm]
  dsimp -zeta only
  rw [hcmd]
  dsimp -zeta only
  extract_lets e a t
  have hfree : State.Sends s s.useFree :=
    ⟨State.useFree_keeps s (Keeps.refl s), rfl, rfl, ⟨[], by simp⟩, fun _ _ => ⟨rfl, rfl⟩⟩
  exact (hfree.trans (State.modJob_sends s.useFree p _)).completes hw (State.complete_completes t cmd status _)

/-- The first-ranked cause of a core fault ends the job that runs, with its status (R201, R203, R322). -/
theorem State.coreFault_job (hw : s.wf = true) {c : CoreId} {cs : List Cause} {f : Cause} (hf : firstCause cs = some f)
    {rank : Nat} (hown : s.ownerOf c = some (p, rank)) (hrun : (s.part p).job.st = .running)
    (harm : (s.part p).job.armCmd = some (r, i)) (hcmd : s.cmd r i = some cmd)
    (hwait : ∀ y ∈ s.cmds, y.ring = r → y.idx = i → fld y.desc 0 8 ≠ 0x22) :
    ((s.coreFault c cs).part p).job.st = .faulted ∧ ((s.coreFault c cs).part p).job.reason = f.code ∧
      Completes s (s.coreFault c cs) cmd (causeStatus f.code) := by
  unfold State.coreFault
  rw [hf]
  dsimp -zeta only
  extract_lets x halted st s1 part s2 s3 s4
  have h1 : State.Stops r i s s1 := State.haltCore_stops r i s c x.beg st
  have hown1 : s1.ownerOf c = s.ownerOf c := congrArg (fun m => (mget zCl m (coreSiteOf c)).owner) h1.clusters
  have hpart : part = some p := congrArg (Option.map (·.1)) (hown1.trans hown)
  have h3 : State.Stops r i s2 s3 := by
    unfold s3
    split
    · exact State.odAdd_stops r i s2 _ _
    · exact .refl r i s2
  have h4 : State.Stops r i s s4 :=
    ((h1.trans (State.odAdd_stops r i s1 _ _)).trans h3).trans (State.logEv_stops r i s3 _ _ _ _ _)
  clear_value s4 part
  subst hpart
  dsimp -zeta only
  extract_lets s5
  have h5 : State.Stops r i s s5 := h4.trans (State.stopCores_stops r i s4 p (some c))
  have hpart5 : s5.part p = s.part p := congrArg (fun m => mget zPart m p) h5.parts
  have hw5 : s5.wf = true := h5.sends.keeps.wf hw
  rw [hpart5, if_pos hrun]
  have hfault : State.Sends s5 (s5.modJob p fun j => { j with st := .faulted, reason := f.code }) :=
    State.modJob_sends s5 p _
  have hjob : (s5.modJob p fun j => { j with st := .faulted, reason := f.code }).part p =
      { s5.part p with job := { (s5.part p).job with st := .faulted, reason := f.code } } := State.part_modPart hw5 p _
  obtain ⟨hcompletes, hst, hreason⟩ := State.endArm_completes (p := p) (hfault.keeps.wf hw5)
    (by rw [hjob, hpart5]; exact harm) ((h5.cmd hwait).trans hcmd) (causeStatus f.code) f.code
  refine ⟨hst.trans ?_, hreason.trans ?_, (h5.sends.trans hfault).completes hw hcompletes⟩
  · rw [hjob]
  · rw [hjob]

end

/-- Settles O33: the first-ranked cause has the least rank, and ends the running job with its status. -/
theorem causesAreRanked : Obligations.CausesAreRanked := by
  intro cs hne hcodes
  obtain ⟨f, hf⟩ := exists_firstCause hne
  obtain ⟨hmem, hleast⟩ := firstCause_least hf
  refine ⟨f, hmem, hf, fun k hk => Cause.rank_le (hcodes f hmem).1 (hleast k hk), ?_⟩
  intro s c p rank r i cmd hw hown hrun harm hcmd hwait
  exact State.coreFault_job hw hf hown hrun harm hcmd hwait

end Sys2Proof.Machine
end

section
/-! PROOFS. Adds of AADDX copies at their adders, MARKS, and the flags of copies that are done (R181, R184, R219, R241 to
R243, R247, R248, R251, R363, R364, R369, R387, R430). -/

namespace Sys2Proof.Machine

open Sys2Proof

/-! ### Copies that may move their bytes -/

section

variable {s : State} {n : Nat} {x : CopySt}

/-- A copy that may move its bytes does what its operation is, and has acted (R216). -/
theorem State.copyDo_may (hx : s.copyOf n = some x) (hmay : s.copyMay x = true) {opc : Nat}
    (hopc : (copyDesc x.desc).opc = opc) (k : State → Part → CopySt → CopyDesc → State) : s.copyDo n opc k =
      (k s (s.part x.part) x (copyDesc x.desc)).modCopy n fun y => { y with acted := true } := by
  simp only [State.copyMay, Bool.and_eq_true, List.isEmpty_iff] at hmay
  obtain ⟨⟨hready, hretries⟩, hstops⟩ := hmay
  simp [State.copyDo, hx, hopc, hready, hretries, hstops]

/-- The copy of a number is changed as it is found. -/
theorem State.copyOf_modCopy (hx : s.copyOf n = some x) {f : CopySt → CopySt} (hf : ∀ y, (f y).num = y.num) :
    (s.modCopy n f).copyOf n = some (f x) := by
  have hnum : (x.num == n) = true := List.find?_some (p := fun y : CopySt => y.num == n) hx
  have hsame : ((fun y : CopySt => y.num == n) ∘ fun y => if y.num == n then f y else y) = fun y => y.num == n := by
    funext y
    simp only [Function.comp_apply]
    split
    · rw [hf]
    · rfl
  unfold State.copyOf State.modCopy at *
  rw [List.find?_map, hsame, hx, Option.map_some, if_pos hnum]

/-- COPY_AADDX sends an add for every granule (R241, R243). -/
theorem exec_copyAaddx (hx : s.copyOf n = some x) (hmay : s.copyMay x = true) (hopc : (copyDesc x.desc).opc = 1)
    (hdsp : (copyDesc x.desc).dsp ≠ 3) :
    ∃ t l, exec (.copyAaddx n) s = .next t ∧ s.sameMem t ∧ t.cores = s.cores ∧ t.adds = s.adds ++ l ∧
      l.length = (copyDesc x.desc).units / 2 ∧ (∀ a ∈ l, a.copy = n) ∧
      ∃ y, t.copyOf n = some y ∧ y.acted = true ∧ y.adds = l.length := by
  have hexec : exec (.copyAaddx n) s = .next (s.copyAaddx n) := rfl
  rw [hexec, State.copyAaddx, State.copyDo_may hx hmay hopc]
  generalize s.addExp _ _ = ev
  obtain ⟨e, ebad⟩ := ev
  dsimp -zeta only
  extract_lets xs gs reqs
  rw [if_neg hdsp]
  have hcopy : ({ s with adds := s.adds ++ reqs } : State).copyOf n = some x := hx
  have hadds := State.copyOf_modCopy hcopy (f := fun y => { y with adds := reqs.length }) fun _ => rfl
  have hacted := State.copyOf_modCopy hadds (f := fun y => { y with acted := true }) fun _ => rfl
  refine ⟨_, reqs, rfl, ⟨rfl, rfl, rfl, rfl, rfl, rfl⟩, rfl, rfl, by simp [reqs, gs], fun a ha => ?_, _, hacted, rfl, rfl⟩
  obtain ⟨g, -, rfl⟩ := List.mem_map.mp ha
  rfl

end

/-! ### An adder -/

theorem State.LogFrame.adds {s t : State} (h : State.LogFrame s t) : t.adds = s.adds := by
  unfold State.LogFrame at h
  rw [h]

theorem State.LogFrame.mesh {s t : State} (h : State.LogFrame s t) : t.mesh = s.mesh := by
  unfold State.LogFrame at h
  rw [h]

section

variable {s : State}

/-- The overflow of a copy is logged, and the copy keeps that it has been (R247). -/
theorem State.copyOverflow_frame (s : State) (n : Nat) (words : List Nat) (o : Bool) : ∃ cs,
    State.LogFrame { s with copies := cs } (if o then s.copyOverflow n words else s) := by
  unfold State.copyOverflow
  split
  · split
    · exact ⟨s.copies, rfl⟩
    · split
      · exact ⟨s.copies, rfl⟩
      · refine ⟨(s.modCopy n fun y => { y with ovf := true }).copies,
          State.LogFrame.trans ?_ (State.logEv_frame _ _ _ _ _ _)⟩
        rfl
  · exact ⟨s.copies, rfl⟩

/-- Logging the overflow of a copy changes its own counter, and what logging changes. -/
theorem State.od_copyOverflow (hd : mwf odDefault s.dict.val = true) {k : Nat} (hk : noisyKey k = false)
    (hne : k ≠ odAaddxOverflowCount) (n : Nat) (words : List Nat) (o : Bool) :
    (if o then s.copyOverflow n words else s).od k = s.od k := by
  cases o with
  | false => rfl
  | true =>
    rw [if_pos rfl]
    unfold State.copyOverflow
    split
    · rfl
    split
    · rfl
    have hd' : mwf odDefault (s.odAdd odAaddxOverflowCount 1).dict.val = true := mset_wf _ _ hd
    obtain ⟨-, hquiet⟩ := State.logEv_quiet
      ((s.modCopy n fun y => { y with ovf := true }).odAdd odAaddxOverflowCount 1) _ _ _ _ _ hd'
    exact (hquiet k hk).trans (State.od_odSet_other hd _ hne)

/-- A record of an applied granule is kept (R369). -/
theorem State.mem_keptOf_keepReq (s : State) (endpt src : Nat) (num : BitVec 32) (gran : Nat) :
    ∃ x ∈ (s.keepReq endpt src num gran).keptOf endpt src num, x.gran = gran := by
  refine ⟨⟨endpt, src, num, s.clk.dt, gran⟩, ?_, rfl⟩
  simp [State.keptOf, State.keptNow, State.keepReq]

/-- Marks of a granule after an add: set by what sets them, and else as they were (R242, R251). -/
theorem mark_set {m : SMap Bool} (hm : mwf zF m = true) (b : Bool) (k : Nat) :
    (b = true → mget zF (if b then mset zF m k true else m) k = true) ∧
      (b = false → (if b then mset zF m k true else m) = m) := by
  constructor
  · rintro rfl
    exact mget_mset_same hm
  · rintro rfl
    rfl

variable (r : AddReq) (src : Nat) (num : BitVec 32)

/-- A record of an applied granule and the count of carried poison take no pseudo-channel out (R232, R250). -/
theorem State.hbmOut_kept (hw : s.wf = true) (endpt gran n key : Nat) :
    ((s.keepReq endpt src num gran).odAdd odCopyPoisonCarriedCount n).hbmOut key = s.hbmOut key := by
  generalize hu : (s.keepReq endpt src num gran).odAdd odCopyPoisonCarriedCount n = u
  have hother {j : Nat} (hj : j ≠ odCopyPoisonCarriedCount) : u.od j = s.od j :=
    hu ▸ State.od_odSet_other (s := s.keepReq endpt src num gran) (State.wf_dict hw) _ hj
  have hfenced : odAt odPcFenced (key / 2 ^ 31 / 32) ≠ odCopyPoisonCarriedCount := by
    unfold odAt odPcFenced odCopyPoisonCarriedCount
    omega
  have hout : u.pcOut (key / 2 ^ 31) = s.pcOut (key / 2 ^ 31) := by
    unfold State.pcOut State.odBit
    rw [hother hfenced, hother (by decide)]
  unfold State.hbmOut State.hbmGone
  dsimp only
  rw [hout, ← hu]
  rfl

/-- An add into HBM that is not dropped (R232, R243, R247, R369). -/
theorem State.addNow_hbm (hw : s.wf = true) (hhbm : r.hbm = true) (hin : s.hbmOut r.key = false) :
    let w := wpGranule r.wp32 r.guard (mgetRange zB s.hbm r.key 64) r.addends
    ∃ cs, State.LogFrame { s.keepReq (addEnd true r.key) src num r.key with
      copies := cs
      hbm := msetRange zB s.hbm r.key w.1
      hbmPoison := if r.poison then mset zF s.hbmPoison (r.key / 64) true else s.hbmPoison
      hbmOvf := if w.2 then mset zF s.hbmOvf (r.key / 64) true else s.hbmOvf } (s.addNow r src num) := by
  intro w
  unfold State.addNow
  rw [hhbm]
  extract_lets kept n u
  have hadd : u.addGranule true r.key r.wp32 r.guard r.addends r.poison = ({ u with
      hbm := msetRange zB s.hbm r.key w.1
      hbmPoison := if r.poison then mset zF s.hbmPoison (r.key / 64) true else s.hbmPoison
      hbmOvf := if w.2 then mset zF s.hbmOvf (r.key / 64) true else s.hbmOvf }, w.2) :=
    (if_pos rfl).trans (if_neg (Bool.eq_false_iff.mp ((State.hbmOut_kept src num hw _ _ n _).trans hin)))
  rw [hadd]
  dsimp -zeta only
  exact State.copyOverflow_frame _ _ _ _

/-- An add into CMEM through a port that does not drop it (R243, R247, R363, R369). -/
theorem State.addNow_cmem (hhbm : r.hbm = false) (hin : s.portDrops (r.key / 2 ^ 23) = false) :
    let w := wpGranule r.wp32 r.guard (mgetRange zB s.cmem r.key 64) r.addends
    (∃ cs, State.LogFrame { s.keepReq (addEnd false r.key) src num r.key with
      copies := cs
      cmem := msetRange zB s.cmem r.key w.1
      cmemPoison := if r.poison then mset zF s.cmemPoison (r.key / 64) true else s.cmemPoison
      cmemOvf := if w.2 then mset zF s.cmemOvf (r.key / 64) true else s.cmemOvf } (s.addNow r src num)) ∧
    (s.wf = true → (s.addNow r src num).od odCopyPoisonCarriedCount =
      (s.od odCopyPoisonCarriedCount + if r.poison then 1 else 0) % 2 ^ 64) := by
  intro w
  unfold State.addNow
  rw [hhbm]
  extract_lets kept n u
  have hn : n = if r.poison then 1 else 0 := by
    have hkept : s.addDrops false r.key = false := hin
    simp only [n, hkept, Bool.not_false, Bool.and_true]
  have hadd : u.addGranule false r.key r.wp32 r.guard r.addends r.poison = ({ u with
      cmem := msetRange zB s.cmem r.key w.1
      cmemPoison := if r.poison then mset zF s.cmemPoison (r.key / 64) true else s.cmemPoison
      cmemOvf := if w.2 then mset zF s.cmemOvf (r.key / 64) true else s.cmemOvf }, w.2) :=
    (if_neg Bool.false_ne_true).trans (if_neg (Bool.eq_false_iff.mp (show u.portDrops _ = false from hin)))
  rw [hadd]
  dsimp -zeta only
  extract_lets v
  refine ⟨State.copyOverflow_frame _ _ _ _, fun hw => ?_⟩
  have hcount : u.od odCopyPoisonCarriedCount = (s.od odCopyPoisonCarriedCount + if r.poison then 1 else 0) % 2 ^ 64 :=
    hn ▸ State.od_odSet_same (State.wf_dict hw) _ _
  have hdict : mwf odDefault u.dict.val = true := mset_wf _ _ (State.wf_dict hw)
  exact (State.od_copyOverflow (s := v) (k := odCopyPoisonCarriedCount) hdict (by decide) (by decide) _ _ _).trans hcount

end

/-! ### A granule of addends that reaches its adder -/

section

variable {s : State} {i src : Nat} {num : BitVec 32}

/-- A request whose granule is not on its way any more (R369). -/
theorem exec_aaddx_none (h : s.adds[i]? = none) : exec (.aaddxGranuleAdd ⟨i, src, num⟩) s =
    .next (if s.keptNow.any (fun x => x.src == src && x.num == num) then s.odAdd odMeshDuplicateCount 1 else s) := by
  change execAaddxGranuleAdd _ s = _
  unfold execAaddxGranuleAdd
  dsimp only
  rw [h]

variable {r : AddReq} (h : s.adds[i]? = some r)

include h

/-- A granule of addends that is on its way: it waits after a RETRY, is answered again, or reaches its adder (R243, R363,
R364, R369). -/
theorem exec_aaddx_some : exec (.aaddxGranuleAdd ⟨i, src, num⟩) s =
    .next (if (s.reqOf src num).any (·.retryWait) then s
      else if (s.keptOf (addEnd r.hbm r.key) src num).any (fun x => x.gran == r.key) then
        s.dupGranule (s.keptOf (addEnd r.hbm r.key) src num) r.key
      else if r.hbm then ({ s with adds := s.adds.eraseIdx i } : State).addNow r src num else s.addAtPort i r src num) := by
  change execAaddxGranuleAdd _ s = _
  unfold execAaddxGranuleAdd
  dsimp only
  rw [h]

theorem exec_aaddx_waits (hwaits : (s.reqOf src num).any (·.retryWait) = true) :
    exec (.aaddxGranuleAdd ⟨i, src, num⟩) s = .next s := by
  rw [exec_aaddx_some h, if_pos hwaits]

variable (hwaits : (s.reqOf src num).any (·.retryWait) = false)

include hwaits

theorem exec_aaddx_again (hkept : ∃ x ∈ s.keptOf (addEnd r.hbm r.key) src num, x.gran = r.key) :
    exec (.aaddxGranuleAdd ⟨i, src, num⟩) s =
      .next (if (s.keptOf (addEnd r.hbm r.key) src num).head?.any (fun x => x.gran == r.key) then
        s.odAdd odMeshDuplicateCount 1 else s) := by
  rw [exec_aaddx_some h, if_neg (Bool.eq_false_iff.mp hwaits), if_pos (by simpa using hkept)]
  rfl

variable (hnew : ∀ x ∈ s.keptOf (addEnd r.hbm r.key) src num, x.gran ≠ r.key)

include hnew

/-- A granule that has not been applied yet reaches its adder (R243). -/
theorem exec_aaddx_new : exec (.aaddxGranuleAdd ⟨i, src, num⟩) s =
    .next (if r.hbm then ({ s with adds := s.adds.eraseIdx i } : State).addNow r src num else s.addAtPort i r src num) := by
  rw [exec_aaddx_some h, if_neg (Bool.eq_false_iff.mp hwaits), if_neg (by simpa using hnew)]

/-- At a held or parked port a request draws RETRY; the adder of the cluster's own copies stands still (R363, R364). -/
theorem exec_aaddx_held (hhbm : r.hbm = false) (hport : (s.cl (r.key / 2 ^ 23)).port = .hold ∨
    (s.cl (r.key / 2 ^ 23)).port = .park) : exec (.aaddxGranuleAdd ⟨i, src, num⟩) s =
      .next (if (s.copyOf r.copy).any fun x => x.core / 16 == r.key / 2 ^ 23 then s
        else (s.retryReq src num).wakePort (r.key / 2 ^ 23)) := by
  rw [exec_aaddx_new h hwaits hnew, hhbm, if_neg Bool.false_ne_true, State.addAtPort]
  dsimp only
  rw [if_pos hport]
  rfl

/-- At another port it waits for CCLK in a change stop, and is added else (R363, R387). -/
theorem exec_aaddx_port (hhbm : r.hbm = false) (hhold : (s.cl (r.key / 2 ^ 23)).port ≠ .hold)
    (hpark : (s.cl (r.key / 2 ^ 23)).port ≠ .park) : exec (.aaddxGranuleAdd ⟨i, src, num⟩) s =
      .next (if s.stopped (r.key / 2 ^ 23) then
          { s with adds := s.adds.eraseIdx i, landing := s.landing ++ [(r.key / 2 ^ 23, .add r src num)] }
        else ({ s with adds := s.adds.eraseIdx i } : State).addNow r src num) := by
  rw [exec_aaddx_new h hwaits hnew, hhbm, if_neg Bool.false_ne_true, State.addAtPort]
  dsimp only
  rw [if_neg (not_or.mpr ⟨hhold, hpark⟩)]
  rfl

/-- A granule is added into HBM, and a record of it is kept (R242, R243, R251, R369). -/
theorem exec_aaddx_hbm (hw : s.wf = true) (hhbm : r.hbm = true) (hin : s.hbmOut r.key = false) :
    let w := wpGranule r.wp32 r.guard (mgetRange zB s.hbm r.key 64) r.addends
    ∃ t, exec (.aaddxGranuleAdd ⟨i, src, num⟩) s = .next t ∧ t.adds = s.adds.eraseIdx i ∧ t.cmem = s.cmem ∧
      t.cores = s.cores ∧ t.hbm = msetRange zB s.hbm r.key w.1 ∧
      (∃ x ∈ t.keptOf (addEnd true r.key) src num, x.gran = r.key) ∧
      (w.2 = true → mget zF t.hbmOvf (r.key / 64) = true) ∧ (w.2 = false → t.hbmOvf = s.hbmOvf) ∧
      (r.poison = true → mget zF t.hbmPoison (r.key / 64) = true) ∧ (r.poison = false → t.hbmPoison = s.hbmPoison) := by
  intro w
  obtain ⟨cs, hadd⟩ := State.addNow_hbm (s := { s with adds := s.adds.eraseIdx i }) r src num hw hhbm hin
  obtain ⟨hbm, hpoison, hovf, hcmem, -, -⟩ := hadd.sameMem
  obtain ⟨-, hpoisonWf, hovfWf, -⟩ := State.wf_iff.mp hw
  obtain ⟨hovfSet, hovfKept⟩ := mark_set hovfWf w.2 (r.key / 64)
  obtain ⟨hpoisonSet, hpoisonKept⟩ := mark_set hpoisonWf r.poison (r.key / 64)
  refine ⟨_, (exec_aaddx_new h hwaits hnew).trans (congrArg Host.Outcome.next (if_pos hhbm)), hadd.adds, hcmem, hadd.cores,
    hbm, ?_, fun ho => ?_, fun ho => hovf.trans (hovfKept ho), fun hp => ?_, fun hp => hpoison.trans (hpoisonKept hp)⟩
  · obtain ⟨x, hx, hgran⟩ := State.mem_keptOf_keepReq s (addEnd true r.key) src num r.key
    refine ⟨x, ?_, hgran⟩
    unfold State.keptOf State.keptNow at hx ⊢
    rw [hadd.mesh, hadd.clk]
    exact hx
  · rw [hovf]
    exact hovfSet ho
  · rw [hpoison]
    exact hpoisonSet hp

/-- A granule is added into CMEM through an open port (R242, R243, R251). -/
theorem exec_aaddx_cmem (hw : s.wf = true) (hhbm : r.hbm = false) (hport : (s.cl (r.key / 2 ^ 23)).port = .opened)
    (hrun : s.stopped (r.key / 2 ^ 23) = false) :
    let w := wpGranule r.wp32 r.guard (mgetRange zB s.cmem r.key 64) r.addends
    ∃ t, exec (.aaddxGranuleAdd ⟨i, src, num⟩) s = .next t ∧ t.adds = s.adds.eraseIdx i ∧ t.hbm = s.hbm ∧
      t.cores = s.cores ∧ t.cmem = msetRange zB s.cmem r.key w.1 ∧
      (w.2 = true → mget zF t.cmemOvf (r.key / 64) = true) ∧ (w.2 = false → t.cmemOvf = s.cmemOvf) ∧
      (r.poison = true → mget zF t.cmemPoison (r.key / 64) = true) ∧
      (r.poison = false → t.cmemPoison = s.cmemPoison) ∧
      t.od odCopyPoisonCarriedCount = (s.od odCopyPoisonCarriedCount + if r.poison then 1 else 0) % 2 ^ 64 := by
  intro w
  have hkept : s.portDrops (r.key / 2 ^ 23) = false := by
    rw [State.portDrops, hport]
    rfl
  obtain ⟨⟨cs, hadd⟩, hcount⟩ := State.addNow_cmem (s := { s with adds := s.adds.eraseIdx i }) r src num hhbm hkept
  obtain ⟨hbm, -, -, hcmem, hpoison, hovf⟩ := hadd.sameMem
  obtain ⟨-, -, -, -, hpoisonWf, hovfWf, -⟩ := State.wf_iff.mp hw
  obtain ⟨hovfSet, hovfKept⟩ := mark_set hovfWf w.2 (r.key / 64)
  obtain ⟨hpoisonSet, hpoisonKept⟩ := mark_set hpoisonWf r.poison (r.key / 64)
  have hexec := exec_aaddx_port h hwaits hnew hhbm (by rw [hport]; decide) (by rw [hport]; decide)
  rw [hrun, if_neg Bool.false_ne_true] at hexec
  refine ⟨_, hexec, hadd.adds, hbm, hadd.cores, hcmem, fun ho => ?_, fun ho => hovf.trans (hovfKept ho), fun hp => ?_,
    fun hp => hpoison.trans (hpoisonKept hp), hcount hw⟩
  · rw [hovf]
    exact hovfSet ho
  · rw [hpoison]
    exact hpoisonSet hp

end

/-! ### MARKS -/

/-- One row is written into the LSP behind an open port (R219, R250). -/
theorem State.rangeWrite_row {s : State} {p : Part} {a site : Nat} (hsite : p.siteOf (adCluster a) = some site)
    (hport : s.portDrops site = false) (v : Nat) : ∃ gp k, s.rangeWrite p 0 a [(v, false)] =
      (s.modBoth (16 * site + adCore a) fun c => c.copyRow (a % 4096) v gp).odAdd odCopyPoisonCarriedCount k := by
  refine ⟨poisonAt (adUnit 0 a) 0 [(v, false)], s.carried p 0 a [(v, false)], ?_⟩
  unfold State.rangeWrite
  simp only [List.zipIdx_cons, List.zipIdx_nil, List.foldl_cons, List.foldl_nil, State.unitWrite, hsite, hport]
  rfl

/-- A word of a row that is written as a number. -/
theorem word_ofNat {lo : Nat} (h : lo + 32 ≤ 256) (v : Nat) :
    (BitVec.ofNat 256 v).extractLsb' lo 32 = BitVec.ofNat 32 (v / 2 ^ lo) := by
  refine BitVec.eq_of_toNat_eq ?_
  obtain ⟨k, hk⟩ := Nat.exists_eq_add_of_le h
  rw [BitVec.extractLsb'_toNat, BitVec.toNat_ofNat, BitVec.toNat_ofNat, Nat.shiftRight_eq_div_pow, hk, Nat.add_assoc,
    Nat.pow_add, Nat.mod_mul_right_div_self, Nat.pow_add, Nat.mod_mul_right_mod]

/-- The counts stand in the two low words of the row of a MARKS (R248). -/
theorem marks_words {a b : Nat} (low : Nat) (ha : a < 2 ^ 32) :
    (BitVec.ofNat 256 (a + b * 2 ^ 32 + low * 2 ^ 64)).extractLsb' 0 32 = BitVec.ofNat 32 a ∧
      (BitVec.ofNat 256 (a + b * 2 ^ 32 + low * 2 ^ 64)).extractLsb' 32 32 = BitVec.ofNat 32 b := by
  rw [word_ofNat (by decide), word_ofNat (by decide)]
  constructor
  · refine BitVec.eq_of_toNat_eq ?_
    rw [BitVec.toNat_ofNat, BitVec.toNat_ofNat]
    omega
  · refine BitVec.eq_of_toNat_eq ?_
    rw [BitVec.toNat_ofNat, BitVec.toNat_ofNat]
    omega

/-- COPY_MARKS leaves the counts of marked granules in its row (R248). -/
theorem exec_copyMarks {s : State} {n : Nat} {x : CopySt} {site : SiteId} (hw : s.wf = true) (hx : s.copyOf n = some x)
    (hmay : s.copyMay x = true) (hopc : (copyDesc x.desc).opc = 3)
    (hsite : (s.part x.part).siteOf (adCluster (copyDesc x.desc).dst) = some site) (hport : s.portDrops site = false)
    (hlsp : mwf zR (s.cur (16 * site + adCore (copyDesc x.desc).dst)).lsp = true) :
    ∃ t, exec (.copyMarks n) s = .next t ∧ s.sameMem t ∧
      let d := copyDesc x.desc
      let v := mget zR (t.cur (16 * site + adCore d.dst)).lsp (d.dst % 4096)
      let ms := (List.range (d.units / 2)).map (s.marksAt (s.part x.part) d.ssp d.src)
      d.units ≤ 2 ^ 20 → v.extractLsb' 0 32 = BitVec.ofNat 32 (ms.filter (·.1)).length ∧
        v.extractLsb' 32 32 = BitVec.ofNat 32 (ms.filter (·.2)).length := by
  have hexec : exec (.copyMarks n) s = .next (s.copyMarks n) := rfl
  obtain ⟨gp, k, hrow⟩ := State.rangeWrite_row hsite hport
    (s.marksRow (s.part x.part) (copyDesc x.desc).ssp (copyDesc x.desc).src ((copyDesc x.desc).units / 2))
  rw [hexec, State.copyMarks, State.copyDo_may hx hmay hopc, hrow]
  refine ⟨_, rfl, ⟨rfl, rfl, rfl, rfl, rfl, rfl⟩, ?_⟩
  intro d v ms hunits
  have hcur := State.cur_modBoth (16 * site + adCore d.dst) hw fun c =>
    c.copyRow (d.dst % 4096) (s.marksRow (s.part x.part) d.ssp d.src (d.units / 2)) gp
  have hv : v = BitVec.ofNat 256 (s.marksRow (s.part x.part) d.ssp d.src (d.units / 2)) :=
    (congrArg (fun y : CoreSt => mget zR y.lsp (d.dst % 4096)) hcur).trans (mget_mset_same hlsp)
  have hlen : ms.length < 2 ^ 32 := by
    simp only [ms, List.length_map, List.length_range]
    omega
  rw [hv]
  exact marks_words _ (Nat.lt_of_le_of_lt (List.length_filter_le _ _) hlen)

/-! ### Copies that are done -/

section

variable {s : State}

/-- A flag increment changes no partition. -/
theorem State.flagTo_parts (s : State) (src dst : CoreId) (flag inc : Nat) :
    (s.flagTo src dst flag inc).parts = s.parts := by
  unfold State.flagTo
  extract_lets site g
  split
  · split <;> rfl
  · rfl
  · rfl
  · unfold State.portDrop
    split
    · rfl
    split
    · rfl
    split <;> rfl

/-- An increment for a flag of a core goes through an open port to it (R181, R219). -/
theorem State.flagTo_open {dst : CoreId} (hport : (s.cl (dst / 16)).port = .opened) (hrun : s.stopped (dst / 16) = false)
    (src : CoreId) (flag inc : Nat) : s.flagTo src dst flag inc = s.incFlag dst flag (BitVec.ofNat 32 inc) := by
  unfold State.flagTo
  extract_lets site g
  rw [show (s.cl site).port = .opened from hport]
  exact if_neg (Bool.eq_false_iff.mp hrun)

/-- A copy whose writes and adds are done raises its flags; that of a paused cluster waits (R219, R430). -/
theorem exec_copyComplete {n : Nat} {x : CopySt} (hx : s.copyOf n = some x) (hacted : x.acted = true) (hadds : x.adds = 0)
    (hpkts : x.pkts = []) :
    let d := copyDesc x.desc
    let u := ({ s with copies := s.copies.filter fun y => !(y.num == n) } : State).flagTo x.core x.core d.cflag d.cinc
    ((s.cl (x.core / 16)).power = .paused → exec (.copyComplete n) s = .next s) ∧
    ((s.cl (x.core / 16)).power ≠ .paused → d.tinc = 0 → exec (.copyComplete n) s = .next u) ∧
    (∀ site, (s.cl (x.core / 16)).power ≠ .paused → d.tinc ≠ 0 → (s.part x.part).siteOf (d.tcore % 65536) = some site →
      exec (.copyComplete n) s = .next (u.flagTo x.core (16 * site + d.tcore / 65536) d.tflag d.tinc)) := by
  intro d u
  have hpart : u.part x.part = s.part x.part := congrArg (fun m => mget zPart m x.part) (State.flagTo_parts _ _ _ _ _)
  change (_ → execCopyComplete n s = _) ∧ (_ → _ → execCopyComplete n s = _) ∧ ∀ site, _ → _ → _ → execCopyComplete n s = _
  unfold execCopyComplete
  rw [hx]
  dsimp -zeta only
  refine ⟨fun hpower => ?_, fun hpower htinc => ?_, fun site hpower htinc hsite => ?_⟩
  · rw [if_pos (by simp [coreSiteOf, hpower])]
  · rw [if_neg (by simp [coreSiteOf, hacted, hadds, hpkts, hpower])]
    exact congrArg Host.Outcome.next (if_pos htinc)
  · rw [if_neg (by simp [coreSiteOf, hacted, hadds, hpkts, hpower])]
    refine congrArg Host.Outcome.next ((if_neg htinc).trans ?_)
    change (match (u.part x.part).siteOf (d.tcore % 65536) with
      | none => u
      | some site => u.flagTo x.core (16 * site + d.tcore / 65536) d.tflag d.tinc) = _
    rw [hpart, hsite]

end

/-- Settles O35: AADDX sends its adds, an adder applies a granule once, MARKS counts, and done copies raise their flags. -/
theorem addsMarksAndCompletions : Obligations.AddsMarksAndCompletions := by
  intro n s hw
  refine ⟨fun x => exec_copyAaddx, fun i src num => exec_aaddx_none, fun i r src num h => ?_,
    fun x site => exec_copyMarks hw, fun x => exec_copyComplete, fun src dst flag inc hport hrun => ?_⟩
  · intro kept site u waits own
    refine ⟨exec_aaddx_waits h, exec_aaddx_again h, fun hwaits hnew hhbm => ⟨fun hport => ?_, fun hhold hpark hstop => ?_⟩,
      fun hwaits hnew hhbm hin => exec_aaddx_hbm h hwaits hnew hw hhbm hin,
      fun hwaits hnew hhbm hport hrun => exec_aaddx_cmem h hwaits hnew hw hhbm hport hrun⟩
    · have hexec := exec_aaddx_held h hwaits hnew hhbm hport
      exact ⟨fun hown => hexec.trans (congrArg Host.Outcome.next (if_pos hown)),
        fun hown => hexec.trans (congrArg Host.Outcome.next (if_neg (Bool.eq_false_iff.mp hown)))⟩
    · exact (exec_aaddx_port h hwaits hnew hhbm hhold hpark).trans (congrArg Host.Outcome.next (if_pos hstop))
  · rw [State.flagTo_open hport hrun]
    exact State.incFlag_cases s dst flag _

end Sys2Proof.Machine
end

section
/-! PROOFS. Adds into wide partials: exact within the bound, saturated with a mark beyond it, special codes kept (R116, R242
to R244). -/

namespace Sys2Proof.Machine

open Sys2Proof

/-! ### One add -/

section

variable {w guard : Nat} {d x z : Int}

/-- The special codes of a wide partial (R116). -/
theorem wpSpecial_iff (w : Nat) (v : Int) :
    wpSpecial w v = true ↔ v ∈ [-(2 ^ (w - 1)), -(2 ^ (w - 1)) + 1, (2 : Int) ^ (w - 1) - 1] := by
  have hneg : -((2 : Int) ^ (w - 1) - 1) = -2 ^ (w - 1) + 1 := by ring
  simp [wpSpecial, hneg, or_assoc]

/-- A value within the finite range is no special code. -/
theorem wpSpecial_finite (hd : d ≤ 2 ^ (w - 1) - 2) (hd' : -(2 ^ (w - 1) - 2) ≤ d) : wpSpecial w d = false := by
  rw [Bool.eq_false_iff, Ne, wpSpecial_iff]
  simp only [List.mem_cons, List.not_mem_nil, or_false]
  omega

/-- A special addend stands, or combines with a special destination (R116, R244). -/
theorem wpAdd_special : wpAdd w guard d (z, true) = (if wpSpecial w d then wpCombine w d z else z, false) := rfl

/-- A finite addend within the bound of R244. -/
theorem wpAdd_within (hx : -(2 ^ (w - 1 - guard) - 2) ≤ x) (hx' : x ≤ 2 ^ (w - 1 - guard) - 2) :
    wpAdd w guard d (x, false) =
      if wpSpecial w d then (d, false)
      else if ((d + x).natAbs : Int) ≤ 2 ^ (w - 1) - 2 then (d + x, false)
      else (if d + x < 0 then -(2 ^ (w - 1) - 2) else 2 ^ (w - 1) - 2, true) := by
  have hbound : (x.natAbs : Int) ≤ 2 ^ (w - 1 - guard) - 2 := by omega
  simp only [wpAdd, Nat.cast_pow, Nat.cast_ofNat, Bool.false_eq_true, if_false, if_pos hbound]

/-- A finite addend beyond the bound of R244: the mark is set. -/
theorem wpAdd_beyond (hx : 2 ^ (w - 1 - guard) - 2 < x ∨ x < -(2 ^ (w - 1 - guard) - 2)) :
    wpAdd w guard d (x, false) =
      (if wpSpecial w d then d else if x < 0 then -(2 ^ (w - 1) - 2) else 2 ^ (w - 1) - 2, true) := by
  have hbound : ¬ (x.natAbs : Int) ≤ 2 ^ (w - 1 - guard) - 2 := by omega
  simp only [wpAdd, Nat.cast_pow, Nat.cast_ofNat, Bool.false_eq_true, if_false, if_neg hbound]

/-- A special destination keeps its code; an addend beyond the bound sets the mark (R244). -/
theorem wpAdd_into_special (hz : wpSpecial w z = true) : wpAdd w guard z (x, false) =
    (z, decide (2 ^ (w - 1 - guard) - 2 < x ∨ x < -(2 ^ (w - 1 - guard) - 2))) := by
  by_cases hx : 2 ^ (w - 1 - guard) - 2 < x ∨ x < -(2 ^ (w - 1 - guard) - 2)
  · rw [wpAdd_beyond hx, if_pos hz, decide_eq_true hx]
  · rw [wpAdd_within (by omega) (by omega), if_pos hz, decide_eq_false hx]

end

/-! ### A granule -/

/-- A field as a signed number is its two's-complement value. -/
theorem sgn_eq_toInt (w v : Nat) : sgn w v = (BitVec.ofNat w v).toInt := by
  rw [sgn, BitVec.toInt, BitVec.toNat_ofNat]

/-- The mark of a granule is that of any of its values (R243, R244). -/
theorem wpGranule_mark {wp32 : Bool} {guard : Nat} {bytes : List Byte} {adds : List (Int × Bool)}
    (hlen : adds.length = 512 / wpBits wp32) :
    (wpGranule wp32 guard bytes adds).2 = true ↔ ∃ i, ∃ h : i < adds.length,
      (wpAdd (wpBits wp32) guard (BitVec.ofNat (wpBits wp32)
        (ofLe ((bytes.drop (wpBits wp32 / 8 * i)).take (wpBits wp32 / 8)))).toInt adds[i]).2 = true := by
  simp only [wpGranule, List.any_map, List.any_eq_true, List.mem_iff_getElem, Function.comp_apply, sgn_eq_toInt]
  constructor
  · rintro ⟨_, ⟨i, hi, rfl⟩, hmark⟩
    simp only [List.length_zip, List.length_map, List.length_range, Nat.lt_min] at hi
    exact ⟨i, hi.2, by simpa using hmark⟩
  · rintro ⟨i, hi, hmark⟩
    exact ⟨_, ⟨i, by simpa [hlen] using hi, rfl⟩, by simpa using hmark⟩

/-- Settles O36: an add is exact, saturates with the mark, or keeps and combines special codes. -/
theorem widePartialsAddExactly : Obligations.WidePartialsAddExactly := by
  intro wp32 guard d x hguard w lim bound special hd hd'
  have hbound : 0 ≤ bound := by
    have hw : 1 ≤ w - 1 - guard := by
      have : 32 ≤ w := by cases wp32 <;> decide
      omega
    have : (2 : Int) ^ 1 ≤ 2 ^ (w - 1 - guard) := pow_le_pow_right₀ (by decide) hw
    omega
  have hfinite : wpSpecial w d = false := wpSpecial_finite hd hd'
  refine ⟨fun hx hx' hlo hhi => ?_, fun hx hx' hhi => ?_, fun hx hx' hlo => ?_, fun hx => ?_, fun hx => ?_, fun z hz => ?_,
    fun bytes adds hlen => wpGranule_mark hlen⟩
  · rw [wpAdd_within hx hx', hfinite, if_neg Bool.false_ne_true, if_pos (by omega)]
  · rw [wpAdd_within hx hx', hfinite, if_neg Bool.false_ne_true, if_neg (by omega), if_neg (by omega)]
  · rw [wpAdd_within hx hx', hfinite, if_neg Bool.false_ne_true, if_neg (by omega), if_pos (by omega)]
  · rw [wpAdd_beyond (.inl hx), hfinite, if_neg Bool.false_ne_true, if_neg (by omega)]
  · rw [wpAdd_beyond (.inr hx), hfinite, if_neg Bool.false_ne_true, if_pos (by omega)]
  · have hspecial : wpSpecial w z = true := (wpSpecial_iff w z).mpr hz
    refine ⟨?_, wpAdd_into_special hspecial, fun y _ => ?_⟩
    · rw [wpAdd_special, hfinite, if_neg Bool.false_ne_true]
    · rw [wpAdd_special, if_pos hspecial]
      simp [wpCombine]

end Sys2Proof.Machine
end

section
/-! PROOFS. An add at an HBM controller that is dropped although its byte is in service (R227, R232, R243): in a canonical state
a partition's extent need not end at a granule, so that a granule may begin in it and the byte lie behind it. -/

namespace Sys2Proof.Machine

open Sys2Proof

/-- A granule of HBM that is out for its reader takes no add: the add is dropped and counted (R232). -/
theorem State.addGranule_out {s : State} {key : Nat} (h : s.hbmOut key = true) (wp32 : Bool) (guard : Nat)
    (adds : List (Int × Bool)) (poison : Bool) :
    s.addGranule true key wp32 guard adds poison = (s.odAdd odHbmFencedDropCount 1, false) :=
  (if_pos rfl).trans (if_pos h)

/-- A clean add of a controller into a granule that is out leaves every byte, though the byte that it names is in service
(R232, R243). -/
theorem exec_hbmRequest_add_out {s : State} {src pc off : Nat} {num : BitVec 32} (hpc : pc < 512) (hoff : off < pcBytes)
    (hin : s.hbmOut (hbmKey pc off) = false) (hdup : s.isDup (endStack (pc / 32)) src num = false)
    (hout : (s.odAdd odCopyPoisonCarriedCount 0).hbmOut (hbmKey pc (64 * (off / 64))) = true)
    (wp32 : Bool) (guard : Nat) (eSrc eDst : Int) (values : List Int) :
    ∃ t, exec (.hbmRequest src num pc off (.aaddx wp32 guard eSrc eDst values false) ⟨.ok, none⟩ 0) s = .next t ∧
      t.hbm = s.hbm := by
  have hplace : ¬ (decide (pcBytes ≤ off) || decide (512 ≤ pc)) = true := by simp; omega
  change ∃ t, execHbmRequest _ _ _ _ _ _ _ s = _ ∧ _
  unfold execHbmRequest
  extract_lets key e
  rw [if_neg hplace, if_neg (by simp), if_neg (by simp [e, hdup]), if_neg (by simp [key, hin])]
  refine ⟨_, rfl, ?_⟩
  have hchange : (s.hbmParity pc 0).hbmChange src pc off (.aaddx wp32 guard eSrc eDst values false) .ok none =
      (s.odAdd odCopyPoisonCarriedCount 0).odAdd odHbmFencedDropCount 1 := by
    simp only [State.hbmChange, State.hbmParity, State.hbmFound, if_true, Bool.false_eq_true, if_false,
      State.addGranule_out hout]
  rw [hchange]
  rfl

/-- A partition of pseudo-channel 0 whose extent is its first byte. -/
def bytePart : Part := { Part.zero with composed := true, chans := [0], base := 0, span := 1 }

/-- Pseudo-channel 0 has rejoined since the last remap of that partition, and serves it again from the next one on. -/
def splitGranule : State :=
  { State.reset with
    parts := [(0, bytePart)]
    health := { State.reset.health with stale := [(0, 0)] } }

theorem splitGranule_wf : splitGranule.wf = true := by decide +kernel

/-- Byte 1 lies behind the extent and is in service, and the first byte of its granule is out. -/
theorem splitGranule_out : splitGranule.hbmOut (hbmKey 0 1) = false ∧
    (splitGranule.odAdd odCopyPoisonCarriedCount 0).hbmOut (hbmKey 0 (64 * (1 / 64))) = true := by decide +kernel

/-- Refutes O37: the clause on a controller's add fails in `splitGranule`. A canonical state does not bind the extents of
partitions to granules, so byte 1 of a pseudo-channel may be in service while its granule, whose key the adder uses, is out for
its reader; the add is then dropped and counted, where the clause says that it is applied. The hypothesis `hbmOut key = false`
stands for the byte and not for the granule. -/
theorem not_memoryTiersAreChecked : ¬ Obligations.MemoryTiersAreChecked := by
  unfold Obligations.MemoryTiersAreChecked
  intro h
  obtain ⟨hin, hout⟩ := splitGranule_out
  have hdup : splitGranule.isDup (endStack (0 / 32)) 0 0 = false := by decide +kernel
  obtain ⟨-, hrequest, -⟩ := h splitGranule splitGranule_wf
  obtain ⟨-, -, -, -, hadd, -⟩ := hrequest 0 0 0 1 none (by decide) (by decide)
  obtain ⟨t, ht, hhbm, -⟩ := hadd true 0 0 0 [1] false hin hdup
  obtain ⟨u, hu, hkept⟩ := exec_hbmRequest_add_out (by decide) (by decide) hin hdup hout true 0 0 0 [1]
  obtain rfl : t = u := Host.Outcome.next.inj (ht.symm.trans hu)
  rw [hkept] at hhbm
  exact absurd hhbm (by decide +kernel)

end Sys2Proof.Machine
end

section
/-! PROOFS. A trip of the module that loses the reading behind it (R409, R417, R433): a canonical state may list a cluster site
beyond the 576 of the module, and the rail setpoint of its bay then falls on the temperature of site 0. -/

namespace Sys2Proof.Machine

open Sys2Proof

/-- A reading of a site from 120 °C on is recorded and trips the module (R433). -/
theorem exec_thermalSample_trip {s : State} {site : SiteId} {celsius : Int} (hsite : site < 576)
    (hpower : s.start.pwrgood = true) (hhot : 120 ≤ celsius) : exec (.thermalSample .cluster site celsius) s =
      .next (s.odSet (odSite odClusterTempC site) (tempWord celsius)).trip := by
  change execThermalSample .cluster site celsius s = _
  unfold execThermalSample
  extract_lets hot die
  rw [if_neg (by simp [hpower])]
  dsimp -zeta only
  rw [if_neg (Nat.not_le.mpr hsite)]
  exact congrArg Host.Outcome.next (if_pos hhot)

/-- The first site of bay 1,024, which the module does not have. -/
def farSite : SiteId := 36864

/-- The setpoint of that bay has the key of the temperature of site 0. -/
theorem farSite_key : odAt odBayRailSetpointMv (farSite / 36) = odSite odClusterTempC 0 := by decide

/-- A module with power that lists that site as parked. -/
def farParked : State :=
  { State.reset with
    start := { State.reset.start with pwrgood := true }
    clusters := [(farSite, { Cluster.zero with power := .parked })] }

theorem farParked_wf : farParked.wf = true := by decide +kernel

/-- The trip switches the far site off, and the rail of its bay falls to 700 mV with no site on (R409, R433). -/
theorem farParked_trip :
    (farParked.odSet (odSite odClusterTempC 0) (tempWord 120)).trip.od (odAt odBayRailSetpointMv (farSite / 36)) = 700 := by
  decide +kernel

/-- Refutes O52: the clause on a site's reading fails in `farParked` at 120 °C. A canonical state bounds no site number, so it
may list site 36864; when the trip switches that site off, the rail of its bay 1,024 is set, and its entry is the temperature of
site 0, which reads 700 where the clause says 120. The entries of the 16 bays of the module are others: the statement lacks the
bound. -/
theorem not_railsFeedsAndHeatAct : ¬ Obligations.RailsFeedsAndHeatAct := by
  unfold Obligations.RailsFeedsAndHeatAct
  intro h
  obtain ⟨-, -, -, hsample, -⟩ := h farParked farParked_wf
  obtain ⟨t, ht, -, htemp, -⟩ := hsample 0 120 (by decide) rfl
  rw [exec_thermalSample_trip (by decide) rfl (by decide)] at ht
  obtain rfl := Host.Outcome.next.inj ht
  have hrail := farParked_trip
  rw [farSite_key, htemp] at hrail
  exact absurd hrail (by decide)

end Sys2Proof.Machine
end

section
/-! PROOFS. Bytes of numbers, and what a range of units writes into the scratchpad, into HBM and into CMEM (R11, R208, R219,
R250, R251). -/

namespace Sys2Proof.Machine

open Sys2Proof

/-! ### Bytes -/

@[simp] theorem length_leBytes (n v : Nat) : (leBytes n v).length = n := by
  induction n generalizing v with
  | zero => rfl
  | succ n ih => rw [leBytes, List.length_cons, ih]

theorem ofLe_leBytes (n v : Nat) : ofLe (leBytes n v) = v % 256 ^ n := by
  induction n generalizing v with
  | zero => simp [leBytes, ofLe, Nat.mod_one]
  | succ n ih =>
    rw [leBytes, ofLe, ih, BitVec.toNat_ofNat, Nat.pow_succ' (m := 256), Nat.mod_mul]

theorem leBytes_ofLe (l : List Byte) : leBytes l.length (ofLe l) = l := by
  induction l with
  | nil => rfl
  | cons b l ih =>
    have hb : b.toNat < 256 := b.isLt
    have hlow : BitVec.ofNat 8 (b.toNat + 256 * ofLe l) = b := by
      refine BitVec.eq_of_toNat_eq ?_
      rw [BitVec.toNat_ofNat]
      omega
    have hhigh : (b.toNat + 256 * ofLe l) / 256 = ofLe l := by omega
    rw [List.length_cons, ofLe, leBytes, hlow, hhigh, ih]

theorem leBytes_zero (n : Nat) : leBytes n 0 = List.replicate n 0 := by
  induction n with
  | zero => rfl
  | succ n ih =>
    rw [leBytes, Nat.zero_div, ih, List.replicate_succ]
    rfl

/-! ### Consecutive keys -/

theorem msetRange_append {α : Type} [DecidableEq α] (d : Nat → α) (l l' : List α) (m : SMap α) (k : Nat) :
    msetRange d m k (l ++ l') = msetRange d (msetRange d m k l) (k + l.length) l' := by
  induction l generalizing m k with
  | nil => rfl
  | cons v l ih => rw [List.cons_append, msetRange, ih, msetRange, List.length_cons, Nat.add_right_comm, Nat.add_assoc]

/-- What has been written at consecutive keys is read there. -/
theorem mgetRange_msetRange {α : Type} [DecidableEq α] {d : Nat → α} {m : SMap α} (h : mwf d m = true) (k : Nat)
    (l : List α) : mgetRange d (msetRange d m k l) k l.length = l := by
  refine List.ext_getElem (by simp [mgetRange]) fun i _ hi => ?_
  simpa [mgetRange] using mget_msetRange_in l h hi

/-! ### Folds over the units of a range -/

/-- What holds at the start of a fold over a list with its places, and is kept from each place to the next, holds at its end. -/
theorem foldl_zipIdx_induct {σ β : Type} {P : Nat → σ → Prop} {f : σ → β × Nat → σ} :
    ∀ (xs : List β) (s : σ), P 0 s → (∀ i (h : i < xs.length) t, P i t → P (i + 1) (f t (xs[i], i))) →
      P xs.length (xs.zipIdx.foldl f s) := by
  intro xs
  induction xs using List.reverseRecOn with
  | nil => exact fun s h _ => h
  | append_singleton xs x ih =>
    intro s h0 hstep
    rw [List.zipIdx_append, List.foldl_append, List.length_append]
    have hprefix := ih s h0 fun i hi t ht => by
      have hnext := hstep i (by simp; omega) t ht
      rwa [List.getElem_append_left hi] at hnext
    have hlast := hstep xs.length (by simp) _ hprefix
    simpa using hlast

section

variable {s : State} {p : Part} {a : Nat}

/-- A range of a memory is written unit by unit, and its carried poison is counted (R219, R253). -/
theorem State.rangeWrite_units {sp : Nat} (hsp : sp ≤ 2) (xs : List (Nat × Bool)) : s.rangeWrite p sp a xs =
    (xs.zipIdx.foldl (fun s xi => s.unitWrite p sp a xs.length xi.2 xi.1 xs) s).odAdd odCopyPoisonCarriedCount
      (s.carried p sp a xs) := by
  unfold State.rangeWrite
  extract_lets n k t u
  have htable : ¬ (decide (sp = 4) || decide (sp = 5)) = true := by simp; omega
  rw [if_neg htable]
  exact congrArg (State.odAdd t odCopyPoisonCarriedCount) (if_pos hsp)

/-! ### Rows of the scratchpad -/

/-- The first `i` units of a list stand in consecutive rows of a core, and nothing else has changed. -/
structure State.RowsPut (s : State) (c : CoreId) (row : Nat) (xs : List (Nat × Bool)) (i : Nat) (t : State) : Prop where
  wf : t.wf = true
  frame : t = { s with cores := t.cores }
  others : ∀ b, b ≠ c → t.core b = s.core b
  lsp : (t.cur c).lsp = msetRange zR (s.cur c).lsp row ((xs.take i).map fun x => BitVec.ofNat 256 x.1)

theorem State.RowsPut.next {c row i : Nat} {xs : List (Nat × Bool)} {t : State} (h : State.RowsPut s c row xs i t)
    (hi : i < xs.length) (gp : Bool) :
    State.RowsPut s c row xs (i + 1) (t.modBoth c fun x => x.copyRow (row + i) xs[i].1 gp) where
  wf := (State.modBoth_keeps t c _ (Keeps.refl t)).wf h.wf
  frame := by
    conv_lhs => rw [h.frame]
    rfl
  others b hb := (State.core_setCore_other h.wf _ hb).trans (h.others b hb)
  lsp := by
    rw [State.cur_modBoth c h.wf]
    change mset zR (t.cur c).lsp (row + i) (BitVec.ofNat 256 xs[i].1) = _
    rw [h.lsp, List.take_add_one, List.getElem?_eq_getElem hi, List.map_append, msetRange_append, List.length_map,
      List.length_take, Nat.min_eq_left (Nat.le_of_lt hi)]
    rfl

/-- A unit is written into its row behind a port that lets it in (R219, R250). -/
theorem State.unitWrite_lsp {site : SiteId} (hsite : p.siteOf (adCluster a) = some site) (hport : s.portDrops site = false)
    (n i : Nat) (x : Nat × Bool) (xs : List (Nat × Bool)) : s.unitWrite p 0 a n i x xs =
      s.modBoth (16 * site + adCore a) fun c => c.copyRow (a % 4096 + i) x.1 (poisonAt (adUnit 0 a) i xs) := by
  unfold State.unitWrite
  simp only [hsite, hport]
  rfl

/-- A range of units is written into the scratchpad of one core (R219, R250). -/
theorem State.rangeWrite_lsp (hw : s.wf = true) {site : SiteId} (hsite : p.siteOf (adCluster a) = some site)
    (hport : s.portDrops site = false) (xs : List (Nat × Bool)) :
    ∃ t k, s.rangeWrite p 0 a xs = t.odAdd odCopyPoisonCarriedCount k ∧
      State.RowsPut s (16 * site + adCore a) (a % 4096) xs xs.length t := by
  refine ⟨_, _, State.rangeWrite_units (by decide) xs, foldl_zipIdx_induct
    (P := State.RowsPut s (16 * site + adCore a) (a % 4096) xs) xs s ⟨hw, rfl, fun _ _ => rfl, rfl⟩ fun i hi t ht => ?_⟩
  have hport' : t.portDrops site = false := by
    rw [ht.frame]
    exact hport
  rw [State.unitWrite_lsp hsite hport']
  exact ht.next hi _

/-! ### Units of HBM -/

/-- Bytes and marks of HBM and counters have changed, but no byte outside the first `i` units of a range. -/
structure State.HbmPut (s : State) (key : Nat → Nat) (i : Nat) (t : State) : Prop where
  wf : t.wf = true
  frame : t = { s with hbm := t.hbm, hbmPoison := t.hbmPoison, hbmOvf := t.hbmOvf, dict := t.dict }
  outside : ∀ k, (∀ j < i, k < key j ∨ key j + 32 ≤ k) → mget zB t.hbm k = mget zB s.hbm k

theorem State.HbmPut.cores {key : Nat → Nat} {i : Nat} {t : State} (h : State.HbmPut s key i t) : t.cores = s.cores := by
  rw [h.frame]

theorem State.HbmPut.cmem {key : Nat → Nat} {i : Nat} {t : State} (h : State.HbmPut s key i t) : t.cmem = s.cmem := by
  rw [h.frame]

/-- A unit of HBM that is in service is written, else counted at most (R232). -/
theorem State.unitWrite_hbm (n i : Nat) (x : Nat × Bool) (xs : List (Nat × Bool)) : s.unitWrite p 2 a n i x xs =
    if s.hbmOut (p.hbmAt (a + 32 * i)) then
      (if i = 0 || (a + 32 * i) % 256 = 0 then s.odAdd odHbmFencedDropCount 1 else s)
    else s.hbmPut (p.hbmAt (a + 32 * i)) x.1 (wholeAt (adUnit 2 a) n i) (poisonAt (adUnit 2 a) i xs) := by
  unfold State.unitWrite
  rfl

/-- A unit that is in service is written as a whole. -/
theorem State.hbmPut_in {key : Nat} (h : s.hbmOut key = false) (v : Nat) (whole poison : Bool) :
    s.hbmPut key v whole poison = { s with
      hbm := msetRange zB s.hbm key (leBytes 32 v)
      hbmPoison := markPoison s.hbmPoison (key / 64) whole poison
      hbmOvf := markOvf s.hbmOvf (key / 64) whole } := if_neg (Bool.eq_false_iff.mp h)

theorem State.HbmPut.next {i : Nat} {t : State} (h : State.HbmPut s (fun j => p.hbmAt (a + 32 * j)) i t) (n : Nat)
    (x : Nat × Bool) (xs : List (Nat × Bool)) :
    State.HbmPut s (fun j => p.hbmAt (a + 32 * j)) (i + 1) (t.unitWrite p 2 a n i x xs) where
  wf := (State.unitWrite_keeps t p 2 a n i x xs (Keeps.refl t)).wf h.wf
  frame := by
    rw [State.unitWrite_hbm]
    split
    · split
      · conv_lhs => rw [h.frame]
        rfl
      · exact h.frame
    next hin =>
      rw [State.hbmPut_in (Bool.eq_false_iff.mpr hin)]
      conv_lhs => rw [h.frame]
  outside k hk := by
    have hbefore := h.outside k fun j hj => hk j (Nat.lt_succ_of_lt hj)
    obtain ⟨hbm, -⟩ := State.wf_iff.mp h.wf
    rw [State.unitWrite_hbm]
    split
    · split <;> exact hbefore
    next hin =>
      rw [State.hbmPut_in (Bool.eq_false_iff.mpr hin)]
      have hkey : k < p.hbmAt (a + 32 * i) ∨ p.hbmAt (a + 32 * i) + (leBytes 32 x.1).length ≤ k := by
        rw [length_leBytes]
        exact hk i (Nat.lt_succ_self i)
      dsimp only
      rw [mget_msetRange_other _ hbm hkey]
      exact hbefore

/-- A range of units of HBM changes no byte outside it (R219, R250). -/
theorem State.rangeWrite_hbm (hw : s.wf = true) (p : Part) (a : Nat) (xs : List (Nat × Bool)) :
    State.HbmPut s (fun j => p.hbmAt (a + 32 * j)) xs.length (s.rangeWrite p 2 a xs) := by
  rw [State.rangeWrite_units (by decide)]
  have hput := foldl_zipIdx_induct (P := State.HbmPut s fun j => p.hbmAt (a + 32 * j)) xs s ⟨hw, rfl, fun _ _ => rfl⟩
    (f := fun s xi => s.unitWrite p 2 a xs.length xi.2 xi.1 xs) fun i hi t ht => ht.next _ _ _
  generalize xs.zipIdx.foldl _ s = t at hput
  refine ⟨(State.odAdd_keeps t _ _ (Keeps.refl t)).wf hput.wf, ?_, hput.outside⟩
  conv_lhs => rw [hput.frame]
  rfl

/-- One unit of HBM that is in service holds what was written (R219). -/
theorem State.rangeWrite_hbm_one (hin : s.hbmOut (p.hbmAt a) = false) (x : Nat × Bool) :
    (s.rangeWrite p 2 a [x]).hbm = msetRange zB s.hbm (p.hbmAt a) (leBytes 32 x.1) := by
  rw [State.rangeWrite_units (by decide)]
  change (s.unitWrite p 2 a 1 0 x [x]).hbm = _
  rw [State.unitWrite_hbm, Nat.mul_zero, Nat.add_zero, hin, if_neg Bool.false_ne_true, State.hbmPut_in hin]

/-! ### Units of CMEM -/

/-- The bytes of units. -/
def unitBytes (xs : List (Nat × Bool)) : List Byte := xs.flatMap fun x => leBytes 32 x.1

@[simp] theorem length_unitBytes (xs : List (Nat × Bool)) : (unitBytes xs).length = 32 * xs.length := by
  simp [unitBytes, List.length_flatMap, Nat.mul_comm]

/-- The bytes of the first `i` units of a list stand at consecutive keys of CMEM, and nothing but marks has changed beside. -/
structure State.CmemPut (s : State) (key : Nat) (xs : List (Nat × Bool)) (i : Nat) (t : State) : Prop where
  frame : t = { s with cmem := t.cmem, cmemPoison := t.cmemPoison, cmemOvf := t.cmemOvf }
  cmem : t.cmem = msetRange zB s.cmem key (unitBytes (xs.take i))

theorem State.CmemPut.cores {key i : Nat} {xs : List (Nat × Bool)} {t : State} (h : State.CmemPut s key xs i t) :
    t.cores = s.cores := by
  rw [h.frame]

theorem State.CmemPut.hbm {key i : Nat} {xs : List (Nat × Bool)} {t : State} (h : State.CmemPut s key xs i t) :
    t.hbm = s.hbm := by
  rw [h.frame]

theorem State.cmemPut_cmem (s : State) (key v : Nat) (whole poison : Bool) :
    (s.cmemPut key v whole poison).cmem = msetRange zB s.cmem key (leBytes 32 v) := by
  rw [State.cmemPut]

theorem State.CmemPut.next {key i : Nat} {xs : List (Nat × Bool)} {t : State} (h : State.CmemPut s key xs i t)
    (hi : i < xs.length) (whole poison : Bool) :
    State.CmemPut s key xs (i + 1) (t.cmemPut (key + 32 * i) xs[i].1 whole poison) where
  frame := by
    rw [State.cmemPut]
    conv_lhs => rw [h.frame]
  cmem := by
    have hlen : (unitBytes (xs.take i)).length = 32 * i := by
      rw [length_unitBytes, List.length_take, Nat.min_eq_left (Nat.le_of_lt hi)]
    have hbytes : unitBytes (xs.take (i + 1)) = unitBytes (xs.take i) ++ leBytes 32 xs[i].1 := by
      rw [unitBytes, ← List.take_append_getElem hi, List.flatMap_append, List.flatMap_singleton]
      rfl
    rw [State.cmemPut_cmem, h.cmem, hbytes, msetRange_append, hlen]

/-- A unit is written into CMEM behind a port that lets it in (R219, R250). -/
theorem State.unitWrite_cmem {site : SiteId} (hsite : p.siteOf (adCluster a) = some site) (hport : s.portDrops site = false)
    (n i : Nat) (x : Nat × Bool) (xs : List (Nat × Bool)) : s.unitWrite p 1 a n i x xs =
      s.cmemPut (cmemKey site (a % 2 ^ 23) + 32 * i) x.1 (wholeAt (adUnit 1 a) n i) (poisonAt (adUnit 1 a) i xs) := by
  unfold State.unitWrite
  simp only [hsite, hport, cmemKey, Nat.add_assoc]
  rfl

/-- A range of units is written into CMEM of one site (R219, R250, R251). -/
theorem State.rangeWrite_cmem {site : SiteId} (hsite : p.siteOf (adCluster a) = some site)
    (hport : s.portDrops site = false) (xs : List (Nat × Bool)) :
    ∃ t k, s.rangeWrite p 1 a xs = t.odAdd odCopyPoisonCarriedCount k ∧
      State.CmemPut s (cmemKey site (a % 2 ^ 23)) xs xs.length t := by
  refine ⟨_, _, State.rangeWrite_units (by decide) xs, foldl_zipIdx_induct
    (P := State.CmemPut s (cmemKey site (a % 2 ^ 23)) xs) xs s ⟨rfl, rfl⟩ fun i hi t ht => ?_⟩
  have hport' : t.portDrops site = false := by
    rw [ht.frame]
    exact hport
  rw [State.unitWrite_cmem hsite hport']
  exact ht.next hi _ _

end

end Sys2Proof.Machine
end

section
/-! PROOFS. MOVE and ZERO copies: what they leave at their destination, and copies that wait (R216, R217, R220, R250, R251, R363
to R365, R387). -/

namespace Sys2Proof.Machine

open Sys2Proof

/-! ### Copies that wait -/

/-- Parked ports that are woken, and nothing else of the state. -/
theorem State.wakeAll_frame (l : List SiteId) :
    ∀ s : State, l.foldl State.wakePort s = { s with clusters := (l.foldl State.wakePort s).clusters } := by
  induction l with
  | nil => exact fun _ => rfl
  | cons y l ih =>
    intro s
    rw [List.foldl_cons, ih]
    unfold State.wakePort
    split <;> rfl

/-- A port that is woken stays as it is. -/
theorem State.wakePort_port {s : State} (hw : s.wf = true) (x y : SiteId) : ((s.wakePort y).cl x).port = (s.cl x).port := by
  unfold State.wakePort
  split
  · by_cases hxy : x = y
    · subst hxy
      rw [State.cl_modCl hw]
    · rw [State.cl_modCl_other hw _ hxy]
  · rfl

/-- A cluster that is awake, or that is woken behind its parked port, is awake. -/
theorem State.wakePort_waking {s : State} (hw : s.wf = true) {x y : SiteId}
    (h : (s.cl x).waking = true ∨ (x = y ∧ (s.cl x).port = .park)) : ((s.wakePort y).cl x).waking = true := by
  unfold State.wakePort
  by_cases hxy : x = y
  · subst hxy
    split
    · rw [State.cl_modCl hw]
    next hopen => exact h.resolve_right fun ⟨_, hpark⟩ => hopen hpark
  · have hawake : (s.cl x).waking = true := h.resolve_right fun ⟨e, _⟩ => hxy e
    split
    · rw [State.cl_modCl_other hw _ hxy, hawake]
    · exact hawake

/-- Every cluster of a list behind a parked port is woken (R363). -/
theorem State.wakeAll_waking {x : SiteId} : ∀ (l : List SiteId) (s : State), s.wf = true → (s.cl x).port = .park →
    (s.cl x).waking = true ∨ x ∈ l → ((l.foldl State.wakePort s).cl x).waking = true := by
  intro l
  induction l with
  | nil => exact fun s _ _ h => h.resolve_right List.not_mem_nil
  | cons y l ih =>
    intro s hw hport h
    refine ih _ ((State.wakePort_keeps s y (Keeps.refl s)).wf hw) ((State.wakePort_port hw x y).trans hport) ?_
    rcases h with hawake | hmem
    · exact .inl (State.wakePort_waking hw (.inl hawake))
    · rcases List.mem_cons.mp hmem with rfl | hmem
      · exact .inl (State.wakePort_waking hw (.inr ⟨rfl, hport⟩))
      · exact .inr hmem

section

variable {s : State} {n opc : Nat} {x : CopySt}

/-- A copy whose engine may not issue yet (R220, R364, R365). -/
theorem State.copyDo_early (hx : s.copyOf n = some x) (hready : s.copyReady x = false) (opc : Nat)
    (k : State → Part → CopySt → CopyDesc → State) : s.copyDo n opc k = s := by
  simp [State.copyDo, hx, hready]

variable (hx : s.copyOf n = some x) (hopc : (copyDesc x.desc).opc = opc) (hready : s.copyReady x = true)

include hx hopc hready

/-- A copy whose request draws RETRY (R363, R364). -/
theorem State.copyDo_retry (hretries : s.copyRetries x ≠ []) (k : State → Part → CopySt → CopyDesc → State) :
    s.copyDo n opc k = s.copyRetry x := by
  simp [State.copyDo, hx, hopc, hready, hretries]

/-- A copy whose requests arrive in a change stop (R387). -/
theorem State.copyDo_stops (hretries : s.copyRetries x = []) {site : SiteId} {more : List SiteId}
    (hstops : s.copyStops x = site :: more) (k : State → Part → CopySt → CopyDesc → State) :
    s.copyDo n opc k = s.copyLand n site := by
  simp [State.copyDo, hx, hopc, hready, hretries, hstops]

end

/-- The copy commands run the copies of their operation codes (R216). -/
theorem exec_copyRules (s : State) (n : Nat) : ∀ r ∈ [(Instr.copyMove n, 0), (.copyAaddx n, 1), (.copyZero n, 2),
    (.copyMarks n, 3)], ∃ k, exec r.1 s = .next (s.copyDo n r.2 k) := by
  simp only [List.forall_mem_cons, List.not_mem_nil, false_imp_iff, implies_true, and_true]
  exact ⟨⟨_, rfl⟩, ⟨_, rfl⟩, ⟨_, rfl⟩, ⟨_, rfl⟩⟩

/-- A RETRY is counted and wakes the clusters behind parked ports, and the copy waits twice as long as before (R363, R364). -/
theorem State.copyRetry_spec {s : State} {n : Nat} {x : CopySt} (hw : s.wf = true) (hx : s.copyOf n = some x)
    (hready : s.copyReady x = true) : s.sameMem (s.copyRetry x) ∧ (s.copyRetry x).cores = s.cores ∧
      (s.copyRetry x).od odMeshRetryCount = (s.od odMeshRetryCount + 1) % 2 ^ 64 ∧
      (∀ site ∈ s.copyRetries x, (s.cl site).port = .park → ((s.copyRetry x).cl site).waking = true) ∧
      ∃ y, (s.copyRetry x).copyOf n = some y ∧ y.acted = false ∧
        y.retryUs = (if x.retryUs = 0 then 1 else min 64 (2 * x.retryUs)) ∧ y.retryAt = s.clk.dt + 1000 * y.retryUs := by
  have hnum : x.num = n := by simpa using List.find?_some (p := fun y : CopySt => y.num == n) hx
  have hacted : x.acted = false := by
    simp only [State.copyReady, Bool.and_eq_true, Bool.not_eq_true'] at hready
    obtain ⟨⟨⟨⟨⟨hacted, -⟩, -⟩, -⟩, -⟩, -⟩ := hready
    exact hacted
  unfold State.copyRetry
  extract_lets r t
  have htw : t.wf = true := (State.odAdd_keeps s _ _ (Keeps.refl s)).wf hw
  have hcount : t.od odMeshRetryCount = (s.od odMeshRetryCount + 1) % 2 ^ 64 := State.od_odSet_same (State.wf_dict hw) _ _
  have hcopy : t.copyOf n = some { x with retryUs := r.us, retryAt := r.due } :=
    hnum ▸ State.copyOf_modCopy (s := s.odAdd odMeshRetryCount 1) (n := x.num) (hnum.symm ▸ hx)
      (f := fun y => { y with retryUs := r.us, retryAt := r.due }) fun _ => rfl
  have hmem : s.sameMem t := ⟨rfl, rfl, rfl, rfl, rfl, rfl⟩
  have hcores : t.cores = s.cores := rfl
  have hcl : t.clusters = s.clusters := rfl
  have hsites : t.copyRetries x = s.copyRetries x := rfl
  clear_value t
  rw [hsites, State.wakeAll_frame]
  refine ⟨hmem, hcores, hcount, fun site hsite hport => ?_, _, hcopy, hacted, rfl, rfl⟩
  have hport' : (t.cl site).port = .park := by
    rw [State.cl, hcl]
    exact hport
  exact State.wakeAll_waking _ t htw hport' (.inr hsite)

/-! ### MOVE -/

section

variable {s : State} {n : Nat} {x : CopySt}

@[simp] theorem State.length_unitsRead (s : State) (p : Part) (sp a n : Nat) : (s.unitsRead p sp a n).length = n := by
  simp [State.unitsRead]

theorem State.getElem_unitsRead (s : State) (p : Part) (sp a n : Nat) {i : Nat} (h : i < (s.unitsRead p sp a n).length) :
    (s.unitsRead p sp a n)[i] = s.unitRead p sp a i := by
  simp [State.unitsRead]

variable (hx : s.copyOf n = some x) (hmay : s.copyMay x = true)

include hx hmay

/-- A MOVE into a memory writes the units of its source (R216). -/
theorem exec_copyMove_may {sp : Nat} (hopc : (copyDesc x.desc).opc = 0) (hdsp : (copyDesc x.desc).dsp = sp) (hsp : sp ≠ 3) :
    exec (.copyMove n) s = .next ((s.rangeWrite (s.part x.part) sp (copyDesc x.desc).dst
      (s.unitsRead (s.part x.part) (copyDesc x.desc).ssp (copyDesc x.desc).src (copyDesc x.desc).units)).modCopy n
      fun y => { y with acted := true }) := by
  have hdo := State.copyDo_may hx hmay hopc fun s p x d =>
    let xs := s.unitsRead p d.ssp d.src d.units
    if d.dsp = 3 then s.sendWindow p x d .wmove xs 0 else s.rangeWrite p d.dsp d.dst xs
  dsimp only at hdo
  rw [hdsp, if_neg hsp] at hdo
  exact congrArg Host.Outcome.next hdo

/-- A MOVE into the scratchpad (R216, R219, R250). -/
theorem exec_copyMove_lsp (hw : s.wf = true) (hopc : (copyDesc x.desc).opc = 0) (hdsp : (copyDesc x.desc).dsp = 0)
    {site : SiteId} (hsite : (s.part x.part).siteOf (adCluster (copyDesc x.desc).dst) = some site)
    (hport : s.portDrops site = false)
    (hlsp : mwf zR (s.cur (16 * site + adCore (copyDesc x.desc).dst)).lsp = true) :
    let d := copyDesc x.desc
    let p := s.part x.part
    ∃ t, exec (.copyMove n) s = .next t ∧ s.sameMem t ∧
      (∀ i < d.units, mget zR (t.cur (16 * site + adCore d.dst)).lsp (d.dst % 4096 + i) =
        BitVec.ofNat 256 (s.unitRead p d.ssp d.src i).1) ∧
      (∀ r, r < d.dst % 4096 ∨ d.dst % 4096 + d.units ≤ r →
        mget zR (t.cur (16 * site + adCore d.dst)).lsp r = mget zR (s.cur (16 * site + adCore d.dst)).lsp r) ∧
      (∀ c, c ≠ 16 * site + adCore d.dst → t.core c = s.core c) ∧ ∃ y, t.copyOf n = some y ∧ y.acted = true := by
  intro d p
  obtain ⟨t, k, hwrite, hput⟩ := State.rangeWrite_lsp hw hsite hport (s.unitsRead p d.ssp d.src d.units)
  have hexec := exec_copyMove_may hx hmay hopc hdsp (by decide)
  rw [hwrite] at hexec
  have hcopy : (t.odAdd odCopyPoisonCarriedCount k).copyOf n = some x := by
    rw [hput.frame]
    exact hx
  have hrows := hput.lsp
  rw [List.take_length] at hrows
  refine ⟨_, hexec, ?_, fun i hi => ?_, fun r hr => ?_, hput.others, _,
    State.copyOf_modCopy hcopy (f := fun y => { y with acted := true }) fun _ => rfl, rfl⟩
  · rw [hput.frame]
    exact ⟨rfl, rfl, rfl, rfl, rfl, rfl⟩
  · change mget zR (t.cur _).lsp _ = _
    rw [hrows, mget_msetRange_in _ hlsp (by simpa using hi)]
    simp [State.getElem_unitsRead]
  · change mget zR (t.cur _).lsp _ = _
    rw [hrows, mget_msetRange_other _ hlsp (by simpa using hr)]

/-- A MOVE into HBM (R216, R219, R250). -/
theorem exec_copyMove_hbm (hw : s.wf = true) (hopc : (copyDesc x.desc).opc = 0) (hdsp : (copyDesc x.desc).dsp = 2) :
    let d := copyDesc x.desc
    let p := s.part x.part
    ∃ t, exec (.copyMove n) s = .next t ∧ t.cores = s.cores ∧ t.cmem = s.cmem ∧
      (∀ k, (∀ i < d.units, k < p.hbmAt (d.dst + 32 * i) ∨ p.hbmAt (d.dst + 32 * i) + 32 ≤ k) →
        mget zB t.hbm k = mget zB s.hbm k) ∧
      (d.units = 1 → s.hbmOut (p.hbmAt d.dst) = false →
        ofLe (mgetRange zB t.hbm (p.hbmAt d.dst) 32) = (s.unitRead p d.ssp d.src 0).1 % 2 ^ 256) := by
  intro d p
  have hexec := exec_copyMove_may hx hmay hopc hdsp (by decide)
  have hput := State.rangeWrite_hbm hw p d.dst (s.unitsRead p d.ssp d.src d.units)
  obtain ⟨hbm, -⟩ := State.wf_iff.mp hw
  refine ⟨_, hexec, hput.cores, hput.cmem, fun k hk => ?_, fun hone hin => ?_⟩
  · exact hput.outside k (by simpa using hk)
  · have hunits : s.unitsRead p d.ssp d.src d.units = [s.unitRead p d.ssp d.src 0] := by
      rw [hone]
      rfl
    change ofLe (mgetRange zB (s.rangeWrite p 2 d.dst (s.unitsRead p d.ssp d.src d.units)).hbm _ 32) = _
    rw [hunits, State.rangeWrite_hbm_one hin]
    have hread := mgetRange_msetRange hbm (p.hbmAt d.dst) (leBytes 32 (s.unitRead p d.ssp d.src 0).1)
    rw [length_leBytes] at hread
    rw [hread, ofLe_leBytes, show (256 : Nat) ^ 32 = 2 ^ 256 from rfl]

end

/-! ### ZERO -/

/-- The marks of the granules of the first `i` units from a key on are cleared. -/
def clearMarks (m : SMap Bool) (key i : Nat) : SMap Bool :=
  (List.range i).foldl (fun m j => mset zF m ((key + 32 * j) / 64) false) m

theorem clearMarks_succ (m : SMap Bool) (key i : Nat) :
    clearMarks m key (i + 1) = mset zF (clearMarks m key i) ((key + 32 * i) / 64) false := by
  rw [clearMarks, List.range_succ, List.foldl_append]
  rfl

theorem clearMarks_wf {m : SMap Bool} (h : mwf zF m = true) (key i : Nat) : mwf zF (clearMarks m key i) = true :=
  foldl_wf _ (fun _ _ hm => mset_wf _ _ hm) _ h

/-- A mark is clear behind a write of its granule, and else as it was. -/
theorem mget_clearMarks {m : SMap Bool} (h : mwf zF m = true) (key i g : Nat) :
    ((∃ j < i, g = (key + 32 * j) / 64) → mget zF (clearMarks m key i) g = false) ∧
      ((∀ j < i, g ≠ (key + 32 * j) / 64) → mget zF (clearMarks m key i) g = mget zF m g) := by
  induction i with
  | zero => exact ⟨fun ⟨j, hj, _⟩ => absurd hj (Nat.not_lt_zero j), fun _ => rfl⟩
  | succ i ih =>
    obtain ⟨hclear, hkept⟩ := ih
    rw [clearMarks_succ]
    by_cases hg : g = (key + 32 * i) / 64
    · rw [hg, mget_mset_same (clearMarks_wf h key i)]
      exact ⟨fun _ => rfl, fun hall => absurd rfl (hall i (Nat.lt_succ_self i))⟩
    · rw [mget_mset_other (clearMarks_wf h key i) hg]
      refine ⟨fun ⟨j, hj, e⟩ => hclear ⟨j, ?_, e⟩, fun hall => hkept fun j hj => hall j (Nat.lt_succ_of_lt hj)⟩
      refine Nat.lt_of_le_of_ne (Nat.le_of_lt_succ hj) ?_
      rintro rfl
      exact hg e

/-- A clean range of whole granules writes every granule whole. -/
theorem wholeAt_even {u n i : Nat} (hu : u % 2 = 0) (hn : n % 2 = 0) (hi : i < n) : wholeAt u n i = true := by
  unfold wholeAt
  split <;> simp only [decide_eq_true_eq] <;> omega

/-- Zeros carry no poison. -/
theorem poisonAt_zeros (u i n : Nat) : poisonAt u i (List.replicate n (0, false)) = false := by
  have hclean (k : Nat) : ((List.replicate n (0, false)).getD k ((0 : Nat), false)).2 = false := by
    rw [List.getD_eq_getElem?_getD, List.getElem?_replicate]
    split <;> rfl
  simp only [poisonAt, hclean, Bool.and_false, Bool.or_false, ite_self]

/-- The bytes of a range of zeros. -/
theorem unitBytes_zeros (n : Nat) : unitBytes (List.replicate n (0, false)) = List.replicate (32 * n) 0 := by
  induction n with
  | zero => rfl
  | succ n ih =>
    rw [List.replicate_succ, unitBytes, List.flatMap_cons, ← unitBytes, ih, leBytes_zero, List.replicate_append_replicate,
      Nat.mul_succ, Nat.add_comm]

/-- A range of zeros over whole granules of CMEM clears their bytes and their marks (R216, R251). -/
theorem State.rangeWrite_zeros {s : State} {p : Part} {a site : Nat} (hsite : p.siteOf (adCluster a) = some site)
    (hport : s.portDrops site = false) (halign : a % 64 = 0) {n : Nat} (hn : n % 2 = 0) :
    ∃ t k, s.rangeWrite p 1 a (List.replicate n (0, false)) = t.odAdd odCopyPoisonCarriedCount k ∧
      State.CmemPut s (cmemKey site (a % 2 ^ 23)) (List.replicate n (0, false)) n t ∧
      t.cmemPoison = clearMarks s.cmemPoison (cmemKey site (a % 2 ^ 23)) n ∧
      t.cmemOvf = clearMarks s.cmemOvf (cmemKey site (a % 2 ^ 23)) n := by
  have hlen : (List.replicate n ((0 : Nat), false)).length = n := List.length_replicate
  have hunit : adUnit 1 a % 2 = 0 := by
    change a % 2 ^ 23 / 32 % 2 = 0
    omega
  have hput := foldl_zipIdx_induct (P := fun i t =>
    State.CmemPut s (cmemKey site (a % 2 ^ 23)) (List.replicate n (0, false)) i t ∧
      t.cmemPoison = clearMarks s.cmemPoison (cmemKey site (a % 2 ^ 23)) i ∧
      t.cmemOvf = clearMarks s.cmemOvf (cmemKey site (a % 2 ^ 23)) i)
    (f := fun t xi => t.unitWrite p 1 a (List.replicate n ((0 : Nat), false)).length xi.2 xi.1 (List.replicate n (0, false)))
    (List.replicate n (0, false)) s ⟨⟨rfl, rfl⟩, rfl, rfl⟩ fun i hi t ⟨ht, hpoison, hovf⟩ => by
      have hport' : t.portDrops site = false := by
        rw [ht.frame]
        exact hport
      have hwhole : wholeAt (adUnit 1 a) (List.replicate n ((0 : Nat), false)).length i = true :=
        wholeAt_even hunit (by rwa [hlen]) hi
      dsimp only
      rw [State.unitWrite_cmem hsite hport', hwhole, poisonAt_zeros]
      refine ⟨ht.next hi _ _, ?_, ?_⟩
      · rw [clearMarks_succ, ← hpoison]
        rfl
      · rw [clearMarks_succ, ← hovf]
        rfl
  rw [hlen] at hput
  exact ⟨_, _, State.rangeWrite_units (by decide) _, by rw [hlen]; exact hput⟩

/-- An aligned offset of CMEM has an aligned key. -/
theorem cmemKey_aligned (site : Nat) {off : Nat} (h : off % 64 = 0) : cmemKey site (off % 2 ^ 23) % 64 = 0 := by
  unfold cmemKey
  omega

/-- A ZERO of whole granules of CMEM (R216, R251). -/
theorem exec_copyZero_cmem {s : State} {n : Nat} {x : CopySt} (hw : s.wf = true) (hx : s.copyOf n = some x)
    (hmay : s.copyMay x = true) (hopc : (copyDesc x.desc).opc = 2) (hdsp : (copyDesc x.desc).dsp = 1)
    {site : SiteId} (hsite : (s.part x.part).siteOf (adCluster (copyDesc x.desc).dst) = some site)
    (hport : s.portDrops site = false) (halign : (copyDesc x.desc).dst % 64 = 0) (heven : (copyDesc x.desc).units % 2 = 0) :
    let d := copyDesc x.desc
    ∃ t, exec (.copyZero n) s = .next t ∧ t.cores = s.cores ∧ t.hbm = s.hbm ∧
      ∀ k, let a := cmemKey site (d.dst % 2 ^ 23)
        (a ≤ k → k < a + 32 * d.units → mget zB t.cmem k = 0 ∧ mget zF t.cmemPoison (k / 64) = false ∧
          mget zF t.cmemOvf (k / 64) = false) ∧
        (k < a ∨ a + 32 * d.units ≤ k → mget zB t.cmem k = mget zB s.cmem k ∧
          mget zF t.cmemPoison (k / 64) = mget zF s.cmemPoison (k / 64) ∧
          mget zF t.cmemOvf (k / 64) = mget zF s.cmemOvf (k / 64)) := by
  intro d
  have hdo := State.copyDo_may hx hmay hopc fun s p x d =>
    let xs := List.replicate d.units (0, false)
    if d.dsp = 3 then s.sendWindow p x d .wzero xs 0 else s.rangeWrite p d.dsp d.dst xs
  obtain ⟨t, c, hwrite, hput, hpoison, hovf⟩ := State.rangeWrite_zeros hsite hport halign heven
  dsimp only at hdo
  rw [hdsp, if_neg (by decide), hwrite] at hdo
  refine ⟨_, congrArg Host.Outcome.next hdo, hput.cores, hput.hbm, fun k => ?_⟩
  intro a
  obtain ⟨-, -, -, hcmemWf, hpoisonWf, hovfWf, -⟩ := State.wf_iff.mp hw
  obtain ⟨hpoisonClear, hpoisonKept⟩ := mget_clearMarks hpoisonWf a d.units (k / 64)
  obtain ⟨hovfClear, hovfKept⟩ := mget_clearMarks hovfWf a d.units (k / 64)
  have hcmem : t.cmem = msetRange zB s.cmem a (List.replicate (32 * d.units) 0) := by
    rw [hput.cmem, List.take_of_length_le (by simp), unitBytes_zeros]
  have ha : a % 64 = 0 := cmemKey_aligned site halign
  change (_ → _ → mget zB t.cmem k = 0 ∧ mget zF t.cmemPoison _ = false ∧ mget zF t.cmemOvf _ = false) ∧
    (_ → mget zB t.cmem k = _ ∧ mget zF t.cmemPoison _ = _ ∧ mget zF t.cmemOvf _ = _)
  rw [hcmem, hpoison, hovf]
  refine ⟨fun hlo hhi => ?_, fun hk => ?_⟩
  · have hgranule : ∃ j < d.units, k / 64 = (a + 32 * j) / 64 := ⟨(k - a) / 32, by omega, by omega⟩
    refine ⟨?_, hpoisonClear hgranule, hovfClear hgranule⟩
    have hread := mget_msetRange_in (k := a) (j := k - a) (List.replicate (32 * d.units) (0 : Byte)) hcmemWf
      (by rw [List.length_replicate]; omega)
    rwa [Nat.add_sub_cancel' hlo, List.getElem_replicate] at hread
  · have hgranule : ∀ j < d.units, k / 64 ≠ (a + 32 * j) / 64 := by
      intro j hj
      have : d.units % 2 = 0 := heven
      omega
    exact ⟨mget_msetRange_other _ hcmemWf (by simpa using hk), hpoisonKept hgranule, hovfKept hgranule⟩

/-- Settles O34: MOVE and ZERO write their destination and nothing beside it, and a copy that may not go on waits. -/
theorem copiesMoveTheirBytes : Obligations.CopiesMoveTheirBytes := by
  intro n s x hw hx d p
  refine ⟨fun hready => ?_, fun hready hretries r hr hopc => ?_, fun hready hretries site more hstops r hr hopc => ?_,
    fun hmay hopc hdsp site hsite hport hlsp _ => exec_copyMove_lsp hx hmay hw hopc hdsp hsite hport hlsp,
    fun hmay hopc hdsp => exec_copyMove_hbm hx hmay hw hopc hdsp,
    fun hmay hopc hdsp site hsite hport halign heven => exec_copyZero_cmem hw hx hmay hopc hdsp hsite hport halign heven⟩
  · have hearly (k : State → Part → CopySt → CopyDesc → State) (opc : Nat) : Host.Outcome.next (s.copyDo n opc k) =
        (Host.Outcome.next s : Host.Outcome State Fault Refusal) :=
      congrArg Host.Outcome.next (State.copyDo_early hx hready opc k)
    exact ⟨hearly _ 0, hearly _ 2, hearly _ 1, hearly _ 3⟩
  · obtain ⟨k, hexec⟩ := exec_copyRules s n r hr
    rw [State.copyDo_retry hx hopc hready hretries] at hexec
    exact ⟨_, hexec, State.copyRetry_spec hw hx hready⟩
  · obtain ⟨k, hexec⟩ := exec_copyRules s n r hr
    rw [hexec, State.copyDo_stops hx hopc hready hretries hstops, State.copyLand]
    by_cases hmem : (site, Arrival.copy n) ∈ s.landing
    · rw [if_pos hmem, if_pos (List.contains_iff_mem.mpr hmem)]
    · rw [if_neg hmem, if_neg (mt List.contains_iff_mem.mp hmem)]
      rfl

end Sys2Proof.Machine
end

section
/-! PROOFS. Window writes: their checks, what one that is taken leaves in CMEM, and its record (R237 to R239, R241, R243, R363,
R364, R387, R442, R461, R463, R464). -/

namespace Sys2Proof.Machine

open Sys2Proof

/-! ### Tracking, notifying and answering -/

section

variable (s : State)

/-- A packet that is sent changes links, what has left on them and counters. -/
theorem State.sendRouted_frame (dst vc bytes : Nat) (m : LinkMsg) : s.sendRouted dst vc bytes m = { s with
    links := (s.sendRouted dst vc bytes m).links
    linkTx := (s.sendRouted dst vc bytes m).linkTx
    dict := (s.sendRouted dst vc bytes m).dict } := by
  unfold State.sendRouted State.routeOut
  split
  · rfl
  split
  · rfl
  split
  · rfl
  · unfold State.sendFrom
    split
    · rfl
    · unfold State.sendOn
      extract_lets cls x
      split <;> rfl

/-- A packet that is counted in a tracker changes the trackers and a counter (R239). -/
theorem State.track_frame (p : WinPkt) (dropped : Bool) : s.track p dropped = { s with
    trackers := (s.track p dropped).trackers
    untracked := (s.track p dropped).untracked
    dict := (s.track p dropped).dict } := by
  unfold State.track
  extract_lets same upd un
  split
  · rfl
  split
  · rfl
  split <;> rfl

/-- The one counter of tracking is that of copies without a tracker (R239). -/
theorem State.od_track (hd : mwf odDefault s.dict.val = true) (p : WinPkt) (dropped : Bool) :
    mwf odDefault (s.track p dropped).dict.val = true ∧
      ∀ k, k ≠ odNotifyTrackerFullCount → (s.track p dropped).od k = s.od k := by
  unfold State.track
  extract_lets same upd un
  split
  · exact ⟨hd, fun _ _ => rfl⟩
  split
  · exact ⟨hd, fun _ _ => rfl⟩
  split
  · exact ⟨mset_wf _ _ hd, fun k hk => State.od_odSet_other hd _ hk⟩
  · exact ⟨hd, fun _ _ => rfl⟩

/-- A flag increment reaches a core, waits for one, or is counted (R181, R219). -/
theorem State.flagTo_frame (src dst : CoreId) (flag inc : Nat) : s.flagTo src dst flag inc = { s with
    cores := (s.flagTo src dst flag inc).cores
    landing := (s.flagTo src dst flag inc).landing
    signals := (s.flagTo src dst flag inc).signals
    dict := (s.flagTo src dst flag inc).dict } := by
  unfold State.flagTo
  extract_lets site g
  split
  · split
    · rfl
    · unfold State.incFlag
      split <;> rfl
  · rfl
  · rfl
  · unfold State.portDrop
    split
    · rfl
    split
    · rfl
    split <;> rfl

/-- A notification closes a tracker and raises a flag (R238, R239). -/
theorem State.notify_frame (p : WinPkt) : s.notify p = { s with
    trackers := (s.notify p).trackers
    cores := (s.notify p).cores
    landing := (s.notify p).landing
    signals := (s.notify p).signals
    dict := (s.notify p).dict } := by
  unfold State.notify
  split
  · rfl
  split
  · extract_lets t
    split
    · rfl
    split
    · rfl
    split
    · rfl
    · extract_lets c
      rw [State.flagTo_frame]
  · rfl

end

/-! ### The checks of a window -/

section

variable {s : State} {kind : WinKind} {p : WinPkt}

/-- A request that fails a check is counted at its first one (R237). -/
theorem State.winCheck_fails {ctr : Nat} (h : s.winFails kind p ctr) : s.winCheck kind p = some ctr := by
  unfold State.winFails at h
  unfold State.winCheck
  split at h
  next => rw [h]
  next w _ =>
    rcases h with ⟨hclosing, rfl⟩ | ⟨hopen, hauth, rfl⟩ | ⟨hopen, hpeer, hkey, hright, rfl⟩ |
      ⟨hopen, hpeer, hkey, hright, hsize, rfl⟩ | ⟨hopen, hpeer, hkey, hright, hsize, hreset, rfl⟩
    · simp [hclosing]
    · have hauth : (w.peer != p.src || w.key != p.key) = true := by simpa using hauth
      simp [hopen, hauth]
    · simp [hopen, hpeer, hkey, hright]
    · simp [hopen, hpeer, hkey, hright, hsize]
    · simp [hopen, hpeer, hkey, hright, Nat.not_lt.mpr hsize, hreset]

/-- The counters of the checks of a window (R237). -/
def winCounters : List Nat :=
  [odWindowDropClosed, odWindowDropAuth, odWindowDropRights, odWindowDropRange, odWindowDropReset]

theorem State.winFails_counter {ctr : Nat} (h : s.winFails kind p ctr) : ctr ∈ winCounters := by
  unfold State.winFails at h
  split at h
  · simp [h, winCounters]
  · rcases h with ⟨-, rfl⟩ | ⟨-, -, rfl⟩ | ⟨-, -, -, -, rfl⟩ | ⟨-, -, -, -, -, rfl⟩ | ⟨-, -, -, -, -, -, rfl⟩ <;>
      simp [winCounters]

/-- Those counters are changed by nothing else on the way of a request. -/
theorem winCounters_quiet : ∀ ctr ∈ winCounters, noisyKey ctr = false ∧ ctr ≠ odNotifyTrackerFullCount := by decide

/-- A request that its window takes passes every check (R237). -/
theorem State.winCheck_takes {w : Window} (hwindow : s.window p.handle = some w) (h : w.takes s kind p) :
    s.winCheck kind p = none := by
  obtain ⟨hopen, hpeer, hkey, hright, hsize, hreset⟩ := h
  unfold State.winCheck
  rw [hwindow]
  simp [hopen, hpeer, hkey, hright, Nat.not_lt.mpr hsize, hreset]

/-! ### Arrival -/

/-- A request whose tag has been taken in the last 100 ms is counted and answered again (R463). -/
theorem State.winArrive_repeat {d : Nat} (h : (p.src, p.tag, d) ∈ s.keptWin) (hd : s.clk.dt < d + 100000000) :
    s.winArrive kind p = (s.odAdd odLinkDuplicateCount 1).sendDone p false := by
  have hkept : ((s.keptWin.filter fun x => decide (s.clk.dt < x.2.2 + ms100)).any fun x =>
      x.1 == p.src && x.2.1 == p.tag) = true :=
    List.any_eq_true.mpr ⟨_, List.mem_filter.mpr ⟨h, decide_eq_true hd⟩, by simp⟩
  exact if_pos hkept

variable (hnew : ∀ q ∈ s.keptWin, ¬ (q.1 = p.src ∧ q.2.1 = p.tag))

include hnew

theorem State.winArrive_kept : ¬ ((s.keptWin.filter fun x => decide (s.clk.dt < x.2.2 + ms100)).any fun x =>
    x.1 == p.src && x.2.1 == p.tag) = true := by
  rw [List.any_eq_true]
  rintro ⟨q, hq, hsame⟩
  exact hnew q (List.mem_of_mem_filter hq) (by simpa using hsame)

/-- A new request that fails a check is counted, tracked and answered (R237, R239). -/
theorem State.winArrive_fails {ctr : Nat} (h : s.winFails kind p ctr) : ∃ opens : Bool, s.winArrive kind p =
    (if opens then s.odAdd ctr 1 else (s.odAdd ctr 1).track p true).sendDone p false := by
  unfold State.winArrive
  extract_lets kept
  rw [if_neg (State.winArrive_kept hnew), State.winCheck_fails h]
  exact ⟨_, rfl⟩

/-- A new request for CMEM that its window takes comes to the port of its cluster (R237, R363). -/
theorem State.winArrive_takes {w : Window} {site : SiteId} (hwindow : s.window p.handle = some w) (h : w.takes s kind p)
    (hhbm : w.hbm = false) (hsite : (s.part w.part).siteOf (adCluster w.base) = some site) :
    s.winArrive kind p = s.winAtPort kind w p site := by
  have hplace : s.winSite w = some site := by rw [State.winSite, hhbm, if_neg Bool.false_ne_true, hsite]
  unfold State.winArrive
  extract_lets kept
  rw [if_neg (State.winArrive_kept hnew), State.winCheck_takes hwindow h, hwindow]
  dsimp only
  rw [hplace]

end

/-- The window commands bring their packets over their links (R464). -/
theorem exec_winRules {s : State} {r : (WinIn → Instr) × WinKind} (hr : r ∈ winRules) (x : WinIn) :
    exec (r.1 x) s = .next (s.winPacket x.link r.2 x.pkt) := by
  simp only [winRules, List.mem_cons, List.not_mem_nil, or_false] at hr
  rcases hr with rfl | rfl | rfl <;> rfl

/-- A request that is brought to its owner arrives (R237, R461, R464). -/
theorem exec_brings {s : State} {r : (WinIn → Instr) × WinKind} {p : WinPkt} {cmd : Instr} (hr : r ∈ winRules)
    (h : s.brings r p cmd) : exec cmd s = .next (s.winArrive r.2 p) := by
  rcases h with rfl | ⟨link, rfl, hlink, hage⟩
  · rfl
  · rw [exec_winRules hr, State.winPacket, State.fromLink_serves hlink, hage]

/-! ### Links that bring nothing -/

section

variable {s : State} {r : (WinIn → Instr) × WinKind} {p : WinPkt} {k : Nat} (hr : r ∈ winRules)

include hr

/-- A packet of a link that is not UP is none (R442). -/
theorem exec_winRules_down (hup : s.linkUp k = false) : exec (r.1 ⟨some k, p⟩) s = .next s := by
  rw [exec_winRules hr, State.winPacket]
  exact congrArg Host.Outcome.next (if_pos (by simp [hup]))

/-- A packet that comes to a die which is cut off (R442). -/
theorem exec_winRules_cut (hk : k < 34) (hup : s.linkUp k = true) (hcut : s.dieCutOff (linkDie k) = true) :
    exec (r.1 ⟨some k, p⟩) s = .next (s.odAdd odLinkIsolatedDropCount 1) := by
  rw [exec_winRules hr, State.winPacket]
  exact congrArg Host.Outcome.next ((if_neg (by simp [hup]; omega)).trans (if_pos hcut))

/-- A packet that is discarded on arrival is counted (R461). -/
theorem exec_winRules_discard (hlink : s.linkServes (some k)) {ctr : Nat} (h : s.pktDiscard p.hops p.ageUs = some ctr) :
    exec (r.1 ⟨some k, p⟩) s = .next (s.odAdd ctr 1) := by
  rw [exec_winRules hr, State.winPacket, State.fromLink_serves hlink, h]

end

/-! ### What a request leaves in CMEM -/

/-- The units of a WMOVE are its data. -/
theorem unitBytes_pktUnits {p : WinPkt} (h : p.data.length % 64 = 0) : unitBytes (pktUnits .wmove p) = p.data := by
  have hchunks : ∀ (n : Nat) (l : List Byte), l.length = 32 * n →
      ((List.range n).flatMap fun i => (l.drop (32 * i)).take 32) = l := by
    intro n
    induction n with
    | zero => exact fun l hl => (List.eq_nil_of_length_eq_zero hl).symm
    | succ n ih =>
      intro l hl
      have hrest := ih (l.drop 32) (by rw [List.length_drop, hl]; omega)
      simp only [List.drop_drop] at hrest
      rw [List.range_succ_eq_map, List.flatMap_cons, List.flatMap_map, Nat.mul_zero, List.drop_zero]
      simp only [Nat.mul_succ, Nat.add_comm _ 32]
      rw [hrest, List.take_append_drop]
  have hunit : ∀ i ∈ List.range (p.data.length / 32), leBytes 32 (ofLe ((p.data.drop (32 * i)).take 32)) =
      (p.data.drop (32 * i)).take 32 := by
    intro i hi
    have hlen : ((p.data.drop (32 * i)).take 32).length = 32 := by
      rw [List.length_take, List.length_drop]
      have := List.mem_range.mp hi
      omega
    have hbytes := leBytes_ofLe ((p.data.drop (32 * i)).take 32)
    rwa [hlen] at hbytes
  have hunits : pktUnits .wmove p = (List.range (p.data.length / 32)).map fun i =>
    (ofLe ((p.data.drop (32 * i)).take 32), p.pmap.getLsbD (i / 2)) := rfl
  rw [hunits, unitBytes, List.flatMap_map, List.flatMap_congr hunit]
  exact hchunks _ _ (by omega)

/-- The units of a WZERO are zeros. -/
theorem unitBytes_zeroUnits (p : WinPkt) : unitBytes (pktUnits .wzero p) = List.replicate (64 * (p.ngr + 1)) 0 := by
  have hunits : pktUnits .wzero p = List.replicate (2 * (p.ngr + 1)) (0, false) := by
    have hcount : 64 * (p.ngr + 1) / 32 = 2 * (p.ngr + 1) := by omega
    simp [pktUnits, pktBytes, hcount, List.map_const']
  have hlen : 32 * (2 * (p.ngr + 1)) = 64 * (p.ngr + 1) := by omega
  rw [hunits, unitBytes_zeros, hlen]

/-- What holds at the start of a fold over the numbers below `n`, and is kept from each to the next, holds at its end. -/
theorem foldl_range_induct {σ : Type} {P : Nat → σ → Prop} {f : σ → Nat → σ} (n : Nat) (s : σ) (h0 : P 0 s)
    (hstep : ∀ i < n, ∀ t, P i t → P (i + 1) (f t i)) : P n ((List.range n).foldl f s) := by
  induction n with
  | zero => exact h0
  | succ n ih =>
    rw [List.range_succ, List.foldl_append]
    exact hstep n (Nat.lt_succ_self n) _ (ih fun i hi => hstep i (Nat.lt_succ_of_lt hi))

/-- The addends of a granule are as many as its values. -/
theorem length_wpAddends (wp32 : Bool) (v : Nat) (eSrc eDst : Int) : (wpAddends wp32 v eSrc eDst).length = 512 / wpBits wp32 := by
  simp [wpAddends]

/-- A granule stays one of 64 bytes. -/
theorem length_wpGranule (wp32 : Bool) (guard : Nat) (bytes : List Byte) {adds : List (Int × Bool)}
    (h : adds.length = 512 / wpBits wp32) : (wpGranule wp32 guard bytes adds).1.length = 64 := by
  have hsize : 512 / wpBits wp32 * (wpBits wp32 / 8) = 64 := by cases wp32 <;> rfl
  simp [wpGranule, List.length_flatMap, Function.comp_def, List.map_const', h, hsize]

/-- The site of a key of CMEM. -/
theorem cmemKey_site (site : Nat) {off : Nat} (h : off < 2 ^ 23) : cmemKey site off / 2 ^ 23 = site := by
  unfold cmemKey
  omega

section

variable {s : State}

/-- An add into CMEM behind a port that lets it in (R243). -/
theorem State.addGranule_cmem {key : Nat} (h : s.portDrops (key / 2 ^ 23) = false) (wp32 : Bool) (guard : Nat)
    (adds : List (Int × Bool)) (poison : Bool) :
    let w := wpGranule wp32 guard (mgetRange zB s.cmem key 64) adds
    s.addGranule false key wp32 guard adds poison = ({ s with
      cmem := msetRange zB s.cmem key w.1
      cmemPoison := if poison then mset zF s.cmemPoison (key / 64) true else s.cmemPoison
      cmemOvf := if w.2 then mset zF s.cmemOvf (key / 64) true else s.cmemOvf }, w.2) :=
  (if_neg Bool.false_ne_true).trans (if_neg (Bool.eq_false_iff.mp h))

/-- The adds of one granule of a packet (R241, R243). -/
def State.winAddOne (part : Part) (w : Window) (p : WinPkt) (acc : State × Bool) (g : Nat) : State × Bool :=
  let v := ofLe ((p.data.drop (64 * g)).take 64)
  let a := w.base + p.offset + 64 * g
  let key := if w.hbm then part.hbmAt a else cmemKey ((part.siteOf (adCluster w.base)).getD 576) (a % 2 ^ 23)
  let k := if p.pmap.getLsbD g && !acc.1.addDrops w.hbm key then 1 else 0
  let (s, o) := (acc.1.odAdd odCopyPoisonCarriedCount k).addGranule w.hbm key p.pfmt p.guard
    (wpAddends p.pfmt v p.eSrc.toInt p.eDst.toInt) (p.pmap.getLsbD g)
  (s, acc.2 || o)

theorem State.winAdd_eq (s : State) (part : Part) (w : Window) (p : WinPkt) :
    s.winAdd part w p = (List.range (p.data.length / 64)).foldl (State.winAddOne part w p) (s, false) := rfl

/-- Bytes and marks of CMEM and counters have changed, and no byte outside `n` bytes from a key on. -/
structure State.CmemWithin (s : State) (key n : Nat) (t : State) : Prop where
  frame : t = { s with cmem := t.cmem, cmemPoison := t.cmemPoison, cmemOvf := t.cmemOvf, dict := t.dict }
  wf : mwf zB t.cmem = true
  outside : ∀ k, k < key ∨ key + n ≤ k → mget zB t.cmem k = mget zB s.cmem k

variable {part : Part} {w : Window} {p : WinPkt} {site : SiteId} (hhbm : w.hbm = false)
    (hsite : part.siteOf (adCluster w.base) = some site) (hport : s.portDrops site = false)

include hhbm hsite

/-- The adds of a granule into CMEM (R241, R243). -/
theorem State.winAddOne_cmem {t : State} {g : Nat} (hport : t.portDrops site = false)
    (hfit : (w.base + p.offset) % 2 ^ 23 + 64 * (g + 1) ≤ 2 ^ 23) (o : Bool) :
    let key := cmemKey site ((w.base + p.offset) % 2 ^ 23) + 64 * g
    let u := (State.winAddOne part w p (t, o) g).1
    u = { t with cmem := u.cmem, cmemPoison := u.cmemPoison, cmemOvf := u.cmemOvf, dict := u.dict } ∧
      u.cmem = msetRange zB t.cmem key (wpGranule p.pfmt p.guard (mgetRange zB t.cmem key 64)
        (wpAddends p.pfmt (ofLe ((p.data.drop (64 * g)).take 64)) p.eSrc.toInt p.eDst.toInt)).1 := by
  intro key
  have hkey : cmemKey site ((w.base + p.offset + 64 * g) % 2 ^ 23) = key := by
    have hoff : (w.base + p.offset + 64 * g) % 2 ^ 23 = (w.base + p.offset) % 2 ^ 23 + 64 * g := by omega
    rw [hoff, cmemKey, ← Nat.add_assoc]
    rfl
  have hplace : (if w.hbm then part.hbmAt (w.base + p.offset + 64 * g)
      else cmemKey ((part.siteOf (adCluster w.base)).getD 576) ((w.base + p.offset + 64 * g) % 2 ^ 23)) = key := by
    rw [hhbm, if_neg Bool.false_ne_true, hsite, Option.getD_some, hkey]
  have hdrops : t.portDrops (key / 2 ^ 23) = false := by
    rw [← hkey, cmemKey_site site (Nat.mod_lt _ (by decide))]
    exact hport
  unfold State.winAddOne
  dsimp only
  rw [hplace, hhbm, State.addGranule_cmem (s := t.odAdd odCopyPoisonCarriedCount _) hdrops]
  exact ⟨rfl, rfl⟩

include hport

/-- The adds of a packet change no byte outside its granules (R241, R243). -/
theorem State.winAdd_within (hw : mwf zB s.cmem = true) (halign : p.data.length % 64 = 0)
    (hfit : (w.base + p.offset) % 2 ^ 23 + p.data.length ≤ 2 ^ 23) :
    State.CmemWithin s (cmemKey site ((w.base + p.offset) % 2 ^ 23)) p.data.length (s.winAdd part w p).1 := by
  have hall := foldl_range_induct (f := State.winAddOne part w p)
    (P := fun i acc => State.CmemWithin s (cmemKey site ((w.base + p.offset) % 2 ^ 23)) (64 * i) acc.1)
    (p.data.length / 64) (s, false) ⟨rfl, hw, fun _ _ => rfl⟩ fun i hi t ht => by
      have hport' : t.1.portDrops site = false := by
        rw [ht.frame]
        exact hport
      obtain ⟨hframe, hcmem⟩ := State.winAddOne_cmem (p := p) (g := i) hhbm hsite hport' (by omega) t.2
      have hlen := length_wpGranule p.pfmt p.guard
        (mgetRange zB t.1.cmem (cmemKey site ((w.base + p.offset) % 2 ^ 23) + 64 * i) 64)
        (length_wpAddends p.pfmt (ofLe ((p.data.drop (64 * i)).take 64)) p.eSrc.toInt p.eDst.toInt)
      refine ⟨?_, ?_, fun k hk => ?_⟩
      · have hstep := ht.frame
        generalize (State.winAddOne part w p (t.1, t.2) i).1 = u at hframe ⊢
        rw [hstep] at hframe
        exact hframe
      · rw [hcmem]
        exact msetRange_wf _ _ ht.wf
      · rw [hcmem, mget_msetRange_other _ ht.wf (by rw [hlen]; omega)]
        exact ht.outside k (by omega)
  have hlen : 64 * (p.data.length / 64) = p.data.length := by omega
  rwa [hlen, ← State.winAdd_eq] at hall

/-- The adds of a packet of one granule (R241, R243). -/
theorem State.winAdd_one (hlen : p.data.length = 64) (hfit : (w.base + p.offset) % 2 ^ 23 + 64 ≤ 2 ^ 23) :
    let key := cmemKey site ((w.base + p.offset) % 2 ^ 23)
    (s.winAdd part w p).1.cmem = msetRange zB s.cmem key (wpGranule p.pfmt p.guard (mgetRange zB s.cmem key 64)
      (wpAddends p.pfmt (ofLe p.data) p.eSrc.toInt p.eDst.toInt)).1 := by
  intro key
  obtain ⟨-, hcmem⟩ := State.winAddOne_cmem (p := p) (g := 0) hhbm hsite hport hfit false
  rw [State.winAdd_eq, hlen]
  rw [Nat.mul_zero, List.drop_zero, List.take_of_length_le (Nat.le_of_eq hlen)] at hcmem
  exact hcmem

end

/-! ### Requests that are taken -/

section

variable (s : State)

/-- A counted request leaves every byte, core and record (R239). -/
theorem State.track_leaves (p : WinPkt) (dropped : Bool) : s.sameMem (s.track p dropped) ∧
    (s.track p dropped).cores = s.cores ∧ (s.track p dropped).keptWin = s.keptWin := by
  rw [State.track_frame]
  exact ⟨⟨rfl, rfl, rfl, rfl, rfl, rfl⟩, rfl, rfl⟩

/-- A notification leaves every byte and record (R238). -/
theorem State.notify_leaves (p : WinPkt) : s.sameMem (s.notify p) ∧ (s.notify p).keptWin = s.keptWin := by
  rw [State.notify_frame]
  exact ⟨⟨rfl, rfl, rfl, rfl, rfl, rfl⟩, rfl⟩

/-- An answer leaves every byte, core and record, and the counters of the checks (R464). -/
theorem State.sendDone_leaves (p : WinPkt) (ovf : Bool) : State.Calm s (s.sendDone p ovf) ∧
    (s.sendDone p ovf).cores = s.cores ∧ (s.sendDone p ovf).keptWin = s.keptWin := by
  refine ⟨(State.sendRouted_calm s _ _ _ _).1, ?_⟩
  rw [State.sendDone, State.sendRouted_frame]
  exact ⟨rfl, rfl⟩

end

section

variable {s : State} {kind : WinKind} {w : Window} {p : WinPkt} {site : SiteId}

/-- A request that takes effect leaves what its bytes or adds leave in memory, and its record (R237, R463). -/
theorem State.winTake_leaves : (s.winApply kind w p).1.sameMem (s.winTake kind w p) ∧
    (p.src, p.tag, (s.winApply kind w p).1.clk.dt) ∈ (s.winTake kind w p).keptWin := by
  unfold State.winTake
  extract_lets kept
  rcases s.winApply kind w p with ⟨t, o⟩
  dsimp only
  generalize hrec : ({ t with keptWin := kept ++ [(p.src, p.tag, t.clk.dt)] } : State) = u
  have happlied : t.sameMem u := by
    rw [← hrec]
    exact ⟨rfl, rfl, rfl, rfl, rfl, rfl⟩
  obtain ⟨htracked, -, htrackedKept⟩ := State.track_leaves u p false
  obtain ⟨hnotified, hnotifiedKept⟩ := State.notify_leaves (u.track p false) p
  obtain ⟨⟨hdone, -⟩, -, hdoneKept⟩ := State.sendDone_leaves ((u.track p false).notify p) p o
  refine ⟨State.sameMem_trans happlied (State.sameMem_trans htracked (State.sameMem_trans hnotified hdone)), ?_⟩
  rw [hdoneKept, hnotifiedKept, htrackedKept, ← hrec]
  exact List.mem_append_right _ (List.mem_singleton.mpr rfl)

variable (hhbm : w.hbm = false) (hsite : (s.part w.part).siteOf (adCluster w.base) = some site)
    (hport : s.portDrops site = false)

include hhbm hsite hport

/-- The bytes that a WMOVE or WZERO leaves in CMEM (R237, R250, R251). -/
theorem State.winApply_bytes (hkind : kind ≠ .waaddx) (hcluster : adCluster (w.base + p.offset) = adCluster w.base) :
    (s.winApply kind w p).1.hbm = s.hbm ∧ (s.winApply kind w p).1.clk = s.clk ∧ (s.winApply kind w p).1.cmem =
      msetRange zB s.cmem (cmemKey site ((w.base + p.offset) % 2 ^ 23)) (unitBytes (pktUnits kind p)) := by
  have happly : (s.winApply kind w p).1 = s.rangeWrite (s.part w.part) 1 (w.base + p.offset) (pktUnits kind p) := by
    cases kind with
    | waaddx => exact absurd rfl hkind
    | wmove | wzero =>
      change s.rangeWrite _ (if w.hbm then 2 else 1) _ _ = _
      rw [hhbm, if_neg Bool.false_ne_true]
  obtain ⟨t, k, hwrite, hput⟩ := State.rangeWrite_cmem (s := s) (p := s.part w.part) (a := w.base + p.offset)
    (by rw [hcluster]; exact hsite) hport (pktUnits kind p)
  have hclk : t.clk = s.clk := by rw [hput.frame]
  rw [happly, hwrite, State.odAdd_hbm, State.odAdd_clk, State.odAdd_cmem, hput.hbm, hput.cmem,
    List.take_of_length_le le_rfl]
  exact ⟨rfl, hclk, rfl⟩

/-- What a request leaves in the CMEM behind its window (R237, R250, R251). -/
theorem State.winApply_cmem (hw : s.wf = true) (hcluster : adCluster (w.base + p.offset) = adCluster w.base)
    (hbytes : pktBytes kind p % 64 = 0) (hfit : (w.base + p.offset) % 2 ^ 23 + pktBytes kind p ≤ 2 ^ 23) :
    let t := (s.winApply kind w p).1
    let a := cmemKey site ((w.base + p.offset) % 2 ^ 23)
    t.hbm = s.hbm ∧ t.clk = s.clk ∧ (kind = .wmove → ∀ k (h : k < p.data.length), mget zB t.cmem (a + k) = p.data[k]) ∧
      (kind = .wzero → ∀ k, a ≤ k → k < a + 64 * (p.ngr + 1) → mget zB t.cmem k = 0) ∧
      (kind = .waaddx → p.data.length = 64 → t.cmem = msetRange zB s.cmem a (wpGranule p.pfmt p.guard
        (mgetRange zB s.cmem a 64) (wpAddends p.pfmt (ofLe p.data) p.eSrc.toInt p.eDst.toInt)).1) ∧
      ∀ k, k < a ∨ a + pktBytes kind p ≤ k → mget zB t.cmem k = mget zB s.cmem k := by
  intro t a
  obtain ⟨-, -, -, hcmem, -⟩ := State.wf_iff.mp hw
  cases kind with
  | wmove =>
    have hlen : pktBytes .wmove p = p.data.length := rfl
    obtain ⟨hhbm', hclk, hcmem'⟩ := State.winApply_bytes (kind := .wmove) hhbm hsite hport (by decide) hcluster
    rw [unitBytes_pktUnits hbytes] at hcmem'
    refine ⟨hhbm', hclk, fun _ k hk => ?_, nofun, nofun, fun k hk => ?_⟩
    · rw [hcmem', mget_msetRange_in _ hcmem hk]
    · rw [hcmem', mget_msetRange_other _ hcmem hk]
  | wzero =>
    have hlen : pktBytes .wzero p = 64 * (p.ngr + 1) := rfl
    obtain ⟨hhbm', hclk, hcmem'⟩ := State.winApply_bytes (kind := .wzero) hhbm hsite hport (by decide) hcluster
    rw [unitBytes_zeroUnits] at hcmem'
    refine ⟨hhbm', hclk, nofun, fun _ k hlo hhi => ?_, nofun, fun k hk => ?_⟩
    · have hread := mget_msetRange_in (k := a) (j := k - a) (List.replicate (64 * (p.ngr + 1)) (0 : Byte)) hcmem
        (by rw [List.length_replicate]; omega)
      rw [hcmem']
      rwa [Nat.add_sub_cancel' hlo, List.getElem_replicate] at hread
    · rw [hcmem', mget_msetRange_other _ hcmem (by rw [List.length_replicate]; exact hk)]
  | waaddx =>
    have hlen : pktBytes .waaddx p = p.data.length := rfl
    rw [hlen] at hbytes hfit
    have hadds := State.winAdd_within hhbm hsite hport hcmem hbytes hfit
    refine ⟨?_, ?_, nofun, nofun, fun _ hone => ?_, hadds.outside⟩
    · change (s.winAdd (s.part w.part) w p).1.hbm = s.hbm
      rw [hadds.frame]
    · change (s.winAdd (s.part w.part) w p).1.clk = s.clk
      rw [hadds.frame]
    · exact State.winAdd_one hhbm hsite hport hone (by rw [← hone]; exact hfit)

end

/-- A waking port keeps what waits for CCLK (R363). -/
theorem State.wakePort_landing (s : State) (site : SiteId) : (s.wakePort site).landing = s.landing := by
  unfold State.wakePort
  split <;> rfl

/-- Settles O38: a request is checked once and counted at its first failing check, waits at a port that is not open, and
leaves its bytes or adds in CMEM with its record; trackers close 100 ms after the last packet. -/
theorem windowWritesAreChecked : Obligations.WindowWritesAreChecked := by
  intro s hw
  have hd := State.wf_dict hw
  refine ⟨fun r hr p ctr cmd hbrings hfails hnew => ?_, fun r hr p d cmd hbrings hkept hdue => ?_, fun r hr p k hk => ?_,
    fun r hr p w site cmd hbrings hwindow htakes hhbm hsite hopen hruns hcluster _ hbytes hfit hnew => ?_,
    fun r hr p w site cmd hbrings hwindow htakes hhbm hsite hnew => ?_, fun i k hk => ?_⟩
  · obtain ⟨opens, harrive⟩ := State.winArrive_fails hnew hfails
    obtain ⟨hquiet, hnotFull⟩ := winCounters_quiet ctr (State.winFails_counter hfails)
    have hd' : mwf odDefault (s.odAdd ctr 1).dict.val = true := mset_wf _ _ hd
    have hcount : (s.odAdd ctr 1).od ctr = (s.od ctr + 1) % 2 ^ 64 := State.od_odSet_same hd _ _
    rw [exec_brings hr hbrings, harrive]
    refine ⟨_, rfl, ?_⟩
    obtain ⟨⟨hmem, hcounters⟩, hcores, hkept⟩ := State.sendDone_leaves
      (if opens then s.odAdd ctr 1 else (s.odAdd ctr 1).track p true) p false
    obtain ⟨htrackMem, htrackCores, htrackKept⟩ := State.track_leaves (s.odAdd ctr 1) p true
    obtain ⟨htrackWf, htrackOd⟩ := State.od_track (s.odAdd ctr 1) hd' p true
    rw [hcores, hkept]
    cases opens with
    | true => exact ⟨State.sameMem_trans ⟨rfl, rfl, rfl, rfl, rfl, rfl⟩ hmem, rfl, rfl,
        ((hcounters hd').2 ctr hquiet).trans hcount⟩
    | false => exact ⟨State.sameMem_trans htrackMem hmem, htrackCores, htrackKept,
        ((hcounters htrackWf).2 ctr hquiet).trans ((htrackOd ctr hnotFull).trans hcount)⟩
  · have hd' : mwf odDefault (s.odAdd odLinkDuplicateCount 1).dict.val = true := mset_wf _ _ hd
    obtain ⟨⟨hmem, hcounters⟩, -, -⟩ := State.sendDone_leaves (s.odAdd odLinkDuplicateCount 1) p false
    rw [exec_brings hr hbrings, State.winArrive_repeat hkept hdue]
    exact ⟨_, rfl, hmem, ((hcounters hd').2 odLinkDuplicateCount (by decide)).trans (State.od_odSet_same hd _ _)⟩
  · refine ⟨exec_winRules_down hr, exec_winRules_cut hr hk, fun hlink hhops => ?_, fun hlink hhops hage => ?_⟩
    · exact exec_winRules_discard hr hlink (if_pos hhops)
    · exact exec_winRules_discard hr hlink ((if_neg (Nat.not_le.mpr hhops)).trans (if_pos hage))
  · have hport : s.portDrops site = false := by simp [State.portDrops, hopen]
    have hatPort : s.winAtPort r.2 w p site = s.winTake r.2 w p := by
      simp [State.winAtPort, hopen, hruns]
    obtain ⟨⟨hsameHbm, -, -, hsameCmem, -, -⟩, hrecord⟩ := State.winTake_leaves (s := s) (kind := r.2) (w := w) (p := p)
    obtain ⟨hleavesHbm, hclk, hleaves⟩ := State.winApply_cmem hhbm hsite hport hw hcluster hbytes hfit
    rw [exec_brings hr hbrings, State.winArrive_takes hnew hwindow htakes hhbm hsite, hatPort]
    rw [hclk] at hrecord
    refine ⟨_, rfl, hsameHbm.trans hleavesHbm, hrecord, ?_⟩
    rw [hsameCmem]
    exact hleaves
  · rw [exec_brings hr hbrings, State.winArrive_takes hnew hwindow htakes hhbm hsite, State.winAtPort]
    refine ⟨fun hwaits => ?_, fun hhold hpark hstopped => ?_⟩
    · rw [if_pos hwaits, State.landLater, State.wakePort_landing]
      rfl
    · rw [if_neg (not_or.mpr ⟨hhold, hpark⟩), if_pos hstopped]
      rfl
  · have hclose : exec (.notifyTrackerClose i) s = .next (if k.lastDt + 100000000 ≤ s.clk.dt then
        { s with trackers := s.trackers.eraseIdx i } else s) := by
      change execNotifyTrackerClose i s = _
      rw [execNotifyTrackerClose, hk]
      rfl
    rw [hclose]
    exact ⟨fun hdue => by rw [if_pos hdue], fun hdue => by rw [if_neg (Nat.not_le.mpr hdue)]⟩

end Sys2Proof.Machine
end

section
/-! PROOFS. Host copies, windows, remote references, hints and farrier grants, and what each leaves (R235, R236, R240, R326
to R328, R330, R473, R531). -/

namespace Sys2Proof.Machine

open Sys2Proof

/-! ### Steps that send nothing to the host -/

section

variable {s t : State}

/-- What keeps the clock, the host port, its path, what has been sent and the rings sends nothing. -/
theorem State.Sends.of_fields (hk : Keeps s t) (hclk : t.clk = s.clk) (hport : t.hostPort = s.hostPort)
    (hbays : t.bays = s.bays) (hclusters : t.clusters = s.clusters) (htx : t.hostTx = s.hostTx)
    (hrings : t.rings = s.rings) : State.Sends s t where
  keeps := hk
  dt := by rw [hclk]
  cut := by
    have hstopped : t.routerStopped = s.routerStopped := by
      funext x
      rw [State.routerStopped, State.routerStopped, State.bay, State.bay, State.cl, State.cl, hbays, hclusters]
    rw [State.dieCutOff, State.dieCutOff, hport, hstopped]
  sent := ⟨[], by rw [htx, List.append_nil]⟩
  place _ r := by
    rw [State.ring, State.ring, hrings]
    exact ⟨rfl, rfl⟩

theorem State.modPart_sends (s : State) (p : Nat) (f : Part → Part) : State.Sends s (s.modPart p f) :=
  .of_fields (State.modPart_keeps s p f (Keeps.refl s)) rfl rfl rfl rfl rfl rfl

theorem State.setWindow_sends (s : State) (h : Nat) (w : Option Window) : State.Sends s (s.setWindow h w) :=
  .of_fields (Keeps.refl s) rfl rfl rfl rfl rfl rfl

theorem State.odSet_sends (s : State) (k v : Nat) : State.Sends s (s.odSet k v) :=
  .of_fields (State.odSet_keeps s k v (Keeps.refl s)) rfl rfl rfl rfl rfl rfl

theorem State.actCmd_sends (s : State) (c : RingCmd) : State.Sends s (s.actCmd c) :=
  .of_fields (Keeps.refl s) rfl rfl rfl rfl rfl rfl

/-- Bytes that are written into HBM. -/
theorem State.rangeWrite_sends (hw : s.wf = true) (p : Part) (a : Nat) (xs : List (Nat × Bool)) :
    State.Sends s (s.rangeWrite p 2 a xs) := by
  have hput := State.rangeWrite_hbm hw p a xs
  have hkeeps := State.rangeWrite_keeps s p 2 a xs (Keeps.refl s)
  generalize s.rangeWrite p 2 a xs = t at hput hkeeps
  have hframe := hput.frame
  exact .of_fields hkeeps (by rw [hframe]) (by rw [hframe]) (by rw [hframe]) (by rw [hframe]) (by rw [hframe]) (by rw [hframe])

/-- A command that ends after such steps (R313). -/
theorem State.Sends.complete (h : State.Sends s t) (hw : s.wf = true) (c : RingCmd) (status : Nat) (res : Results) :
    Completes s (t.complete c status res) c status :=
  h.completes hw (State.complete_completes t c status res)

theorem State.complete_hints (s : State) (c : RingCmd) (status : Nat) (res : Results) :
    (s.complete c status res).hints = s.hints := by
  have hframe := State.complete_frame s c status res
  unfold State.LogFrame at hframe
  rw [hframe]

end

/-! ### COPY (R326, R473) -/

/-- The reads that have been sent of a copy of `n` bytes (R473). -/
structure State.Asked (s : State) (ring idx n i : Nat) (t : State) : Prop where
  mem : s.sameMem t
  cmds : t.cmds = s.cmds
  reqs : ∃ l, t.hrd.reqs = s.hrd.reqs ++ l ∧ (l.map (·.bytes)).sum = min n (4096 * i) ∧
    ∀ q ∈ l, q.copy = true ∧ q.ring = ring ∧ q.idx = idx ∧ q.bytes ≤ 4096 ∧ q.data = none

/-- A copy reads its data, at most 4,096 bytes a read (R473). -/
theorem State.askCopy_asked (s : State) (ring idx addr n : Nat) :
    State.Asked s ring idx n ((n + 4095) / 4096) (s.askCopy ring idx addr n) := by
  unfold State.askCopy
  refine foldl_range_induct (P := State.Asked s ring idx n) _ s
    ⟨⟨rfl, rfl, rfl, rfl, rfl, rfl⟩, rfl, [], by simp, by simp, by simp⟩ fun i hi t ht => ?_
  obtain ⟨l, hl, hsum, hall⟩ := ht.reqs
  have hsent := (State.toCard_frame t (.hrd t.hrd.tag (addr + 4096 * i) (min 4096 (n - 4096 * i)))).sameMem
  have hcmds := State.toCard_cmds t (.hrd t.hrd.tag (addr + 4096 * i) (min 4096 (n - 4096 * i)))
  unfold State.hostRead
  refine ⟨State.sameMem_trans ht.mem hsent, hcmds.trans ht.cmds,
    l ++ [⟨t.hrd.tag, ring, idx, true, min 4096 (n - 4096 * i), none⟩], ?_, ?_, ?_⟩
  · change t.hrd.reqs ++ _ = _
    rw [hl, List.append_assoc]
  · rw [List.map_append, List.sum_append, hsum, List.map_singleton, List.sum_singleton]
    change min n (4096 * i) + min 4096 (n - 4096 * i) = min n (4096 * (i + 1))
    omega
  · intro q hq
    rcases List.mem_append.mp hq with hq | hq
    · exact hall q hq
    · rw [List.mem_singleton.mp hq]
      exact ⟨rfl, rfl, rfl, Nat.min_le_left _ _, rfl⟩

/-- The units that a copy's data fill (R326). -/
def copyUnits (qs : List HostRead) (n : Nat) : List (Nat × Bool) :=
  (List.range (n / 32)).map fun i => (ofLe (((qs.flatMap fun q => q.data.getD []).drop (32 * i)).take 32), false)

theorem length_copyUnits (qs : List HostRead) (n : Nat) : (copyUnits qs n).length = n / 32 := by
  rw [copyUnits, List.length_map, List.length_range]

/-- The data of a copy have been taken from the reads. -/
def State.copyTaken (s : State) (ring idx : Nat) : State :=
  { s with hrd := { s.hrd with reqs := s.hrd.reqs.filter fun q => !(q.copy && q.ring == ring && q.idx == idx) } }

theorem State.copyTaken_sends (s : State) (ring idx : Nat) : State.Sends s (s.copyTaken ring idx) :=
  .of_fields (Keeps.refl s) rfl rfl rfl rfl rfl rfl

/-- A granule of HBM: its place, whether one of its units is poisoned, and its bytes. -/
def State.granuleRead (s : State) (p : Part) (a g : Nat) : Nat × Bool × Nat :=
  let lo := s.unitRead p 2 (a + 64 * g) 0
  let hi := s.unitRead p 2 (a + 64 * g) 1
  (g, lo.2 || hi.2, lo.1 + 2 ^ 256 * hi.1)

/-- The write that takes a granule to host memory: a poisoned one as zeros (R326). -/
def granuleMsg (addr : Nat) (x : Nat × Bool × Nat) : HostMsg := .hwr (addr + 64 * x.1) (if x.2.1 then 0 else x.2.2) 64

/-- Messages that the card gets, where the host port has its path (R54). -/
theorem State.foldl_toCard_hostTx {β : Type} (m : β → HostMsg) (l : List β) : ∀ s : State,
    s.dieCutOff (linkDie s.hostPort) = false →
      (l.foldl (fun s b => s.toCard (m b)) s).hostTx = s.hostTx ++ l.map m := by
  induction l with
  | nil => exact fun s _ => (List.append_nil _).symm
  | cons b l ih =>
    intro s hcut
    have hnext := ih (s.toCard (m b)) ((State.toCard_sends s (m b)).cut.trans hcut)
    rw [List.foldl_cons, hnext, State.toCard_hostTx, hcut, if_neg Bool.false_ne_true, List.map_cons,
      List.append_assoc, List.singleton_append]

/-- What has been sent before a command completes stays sent (R313). -/
theorem Completes.sent {s t : State} {cmd : RingCmd} {status : Nat} (h : Completes s t cmd status)
    (hcut : s.dieCutOff (linkDie s.hostPort) = false) {m : HostMsg} (hm : m ∈ s.hostTx) : m ∈ t.hostTx := by
  obtain ⟨-, hrecord⟩ := h
  obtain ⟨res, job, step, l, r, htx⟩ := hrecord hcut
  rw [htx]
  exact List.mem_append_left _ (List.mem_append_left _ (List.mem_append_left _ hm))

section

variable {s : State} (hw : s.wf = true) {ring idx : Nat} {c : RingCmd} (hc : s.cmdOf ring idx 0x10 = some c)

include hc

theorem exec_hostCopyToHbm_ask (hform : c.desc.getLsbD 96 = false) (hnone : s.copyData ring idx = [])
    (hup : s.hostUp = true) : exec (.hostCopyToHbm ring idx false) s =
      .next (s.askCopy ring idx (fld c.desc 128 64) (64 * (fld c.desc 64 32 + 1))) := by
  have hmay : (s.hostUp && (s.copyData ring idx).isEmpty) = true := by rw [hup, hnone]; rfl
  change execHostCopyToHbm ring idx false s = _
  unfold execHostCopyToHbm
  rw [hc]
  dsimp only
  rw [hform, if_neg Bool.false_ne_true, Bool.not_false, if_pos rfl, if_pos hmay]

include hw

/-- Once the card has returned all data they are written (R326). -/
theorem exec_hostCopyToHbm_write (hform : c.desc.getLsbD 96 = false) (hsome : s.copyData ring idx ≠ [])
    (hall : ∀ q ∈ s.copyData ring idx, q.data ≠ none) :
    ∃ t, exec (.hostCopyToHbm ring idx true) s = .next t ∧ t.cmem = s.cmem ∧ t.cores = s.cores ∧ Completes s t c csOk ∧
      ∀ k, (∀ i < 64 * (fld c.desc 64 32 + 1) / 32, k < (s.part c.part).hbmAt (fld c.desc 192 64 + 32 * i) ∨
        (s.part c.part).hbmAt (fld c.desc 192 64 + 32 * i) + 32 ≤ k) → mget zB t.hbm k = mget zB s.hbm k := by
  have hwait : ¬ ((s.copyData ring idx).isEmpty || (s.copyData ring idx).any fun q => q.data.isNone) = true := by
    simp only [Bool.or_eq_true, List.isEmpty_iff, List.any_eq_true, Option.isNone_iff_eq_none]
    rintro (hnil | ⟨q, hq, hnone⟩)
    · exact hsome hnil
    · exact hall q hq hnone
  have hexec : exec (.hostCopyToHbm ring idx true) s = .next (((s.copyTaken ring idx).rangeWrite (s.part c.part) 2
      (fld c.desc 192 64) (copyUnits (s.copyData ring idx) (64 * (fld c.desc 64 32 + 1)))).complete c csOk noRes) := by
    change execHostCopyToHbm ring idx true s = _
    unfold execHostCopyToHbm
    rw [hc]
    dsimp only
    rw [hform, if_neg Bool.false_ne_true, Bool.not_true, if_neg Bool.false_ne_true, if_neg hwait]
    rfl
  have hlen := length_copyUnits (s.copyData ring idx) (64 * (fld c.desc 64 32 + 1))
  have hwTaken : (s.copyTaken ring idx).wf = true := hw
  generalize copyUnits (s.copyData ring idx) (64 * (fld c.desc 64 32 + 1)) = xs at hexec hlen
  have hput := State.rangeWrite_hbm hwTaken (s.part c.part) (fld c.desc 192 64) xs
  have hsends := (State.copyTaken_sends s ring idx).trans
    (State.rangeWrite_sends hwTaken (s.part c.part) (fld c.desc 192 64) xs)
  generalize (s.copyTaken ring idx).rangeWrite (s.part c.part) 2 (fld c.desc 192 64) xs = u at hexec hput hsends
  have hframe := State.complete_frame u c csOk noRes
  obtain ⟨hhbm, -, -, hcmem, -⟩ := hframe.sameMem
  refine ⟨_, hexec, hcmem.trans hput.cmem, hframe.cores.trans hput.cores, hsends.complete hw c csOk noRes, fun k hk => ?_⟩
  rw [hhbm]
  exact hput.outside k fun i hi => hk i (by rwa [hlen] at hi)

/-- A poisoned granule leaves HBM as zeros (R326). -/
theorem exec_hostCopyFromHbm (hform : c.desc.getLsbD 96 = true) :
    ∃ t, exec (.hostCopyFromHbm ring idx) s = .next t ∧ s.sameMem t ∧ Completes s t c csOk ∧
      (s.dieCutOff (linkDie s.hostPort) = false → ∀ g ≤ fld c.desc 64 32, .hwr (fld c.desc 128 64 + 64 * g)
        (let x := s.granuleRead (s.part c.part) (fld c.desc 192 64) g
         if x.2.1 then 0 else x.2.2) 64 ∈ t.hostTx) := by
  have hexec : ∃ res, exec (.hostCopyFromHbm ring idx) s = .next ((((List.range (fld c.desc 64 32 + 1)).map
      (s.granuleRead (s.part c.part) (fld c.desc 192 64))).foldl
        (fun u x => u.toCard (granuleMsg (fld c.desc 128 64) x)) s).complete c csOk res) := by
    refine ⟨⟨0, (((List.range (fld c.desc 64 32 + 1)).map
      (s.granuleRead (s.part c.part) (fld c.desc 192 64))).filter (·.2.1)).length, 0, 0⟩, ?_⟩
    change execHostCopyFromHbm ring idx s = _
    unfold execHostCopyFromHbm
    rw [hc]
    dsimp only
    rw [hform, Bool.not_true, if_neg Bool.false_ne_true]
    rfl
  obtain ⟨res, hexec⟩ := hexec
  have hframe := State.LogFrame.foldl (fun u x => State.toCard_frame u (granuleMsg (fld c.desc 128 64) x))
    ((List.range (fld c.desc 64 32 + 1)).map (s.granuleRead (s.part c.part) (fld c.desc 192 64))) s
  have hsends := State.Sends.foldl (fun u x => State.toCard_sends u (granuleMsg (fld c.desc 128 64) x))
    ((List.range (fld c.desc 64 32 + 1)).map (s.granuleRead (s.part c.part) (fld c.desc 192 64))) s
  have htx := State.foldl_toCard_hostTx (granuleMsg (fld c.desc 128 64))
    ((List.range (fld c.desc 64 32 + 1)).map (s.granuleRead (s.part c.part) (fld c.desc 192 64))) s
  generalize List.foldl _ s _ = u at hexec hframe hsends htx
  refine ⟨_, hexec, (hframe.trans (State.complete_frame u c csOk res)).sameMem, hsends.complete hw c csOk res,
    fun hcut g hg => ?_⟩
  refine (State.complete_completes u c csOk res).sent (hsends.cut.trans hcut) ?_
  rw [htx hcut, List.map_map]
  exact List.mem_append_right _ (List.mem_map.mpr ⟨g, List.mem_range.mpr (Nat.lt_succ_of_le hg), rfl⟩)

end

/-! ### Windows and remote references (R235, R236, R240, R327) -/

section

variable {s : State} (hw : s.wf = true) {ring idx : Nat} {c : RingCmd}

/-- The open windows are counted (R327). -/
def State.withWindow (s : State) (h : Nat) (w : Option Window) : State :=
  (s.setWindow h w).odSet odWindowsOpen (s.setWindow h w).openWindows

theorem State.withWindow_sends (s : State) (h : Nat) (w : Option Window) : State.Sends s (s.withWindow h w) :=
  (State.setWindow_sends s h w).trans (State.odSet_sends _ _ _)

/-- A command that ends with a window changed (R327). -/
theorem State.withWindow_complete (h : Nat) (w : Option Window) (res : Results) :
    s.sameMem ((s.withWindow h w).complete c csOk res) ∧
      ((s.withWindow h w).complete c csOk res).windows = mset (fun _ => none) s.windows h w := by
  have hframe := State.complete_frame (s.withWindow h w) c csOk res
  exact ⟨State.sameMem_trans ⟨rfl, rfl, rfl, rfl, rfl, rfl⟩ hframe.sameMem, State.still_windows hframe.still⟩

include hw

/-- WINDOW_OPEN takes the lowest free handle (R235, R327). -/
theorem exec_windowOpen (hc : s.cmdOf ring idx 0x11 = some c) (hform : c.desc.getLsbD 64 = false) {h : Nat}
    (hfree : s.freeHandle = some h) : ∃ t w, exec (.windowOpen ring idx) s = .next t ∧ s.sameMem t ∧
      t.windows = mset (fun _ => none) s.windows h (some w) ∧ w.part = c.part ∧ w.base = fld c.desc 160 64 ∧
      w.size = fld c.desc 224 56 ∧ w.key = c.desc.extractLsb' 96 64 ∧ w.peer = c.desc.extractLsb' 80 16 ∧
      w.rights = c.desc.extractLsb' 68 3 ∧ w.closing = none ∧ Completes s t c csOk := by
  have hexec : ∃ w, exec (.windowOpen ring idx) s = .next ((s.withWindow h (some w)).complete c csOk ⟨0, h, 0, 0⟩) ∧
      w.part = c.part ∧ w.base = fld c.desc 160 64 ∧ w.size = fld c.desc 224 56 ∧ w.key = c.desc.extractLsb' 96 64 ∧
      w.peer = c.desc.extractLsb' 80 16 ∧ w.rights = c.desc.extractLsb' 68 3 ∧ w.closing = none := by
    change ∃ w, execWindowOpen ring idx s = _ ∧ _
    unfold execWindowOpen
    rw [hc]
    dsimp only
    rw [hform, if_neg Bool.false_ne_true, hfree]
    exact ⟨_, rfl, rfl, rfl, rfl, rfl, rfl, rfl, rfl⟩
  obtain ⟨w, hexec, hpart, hbase, hsize, hkey, hpeer, hrights, hopen⟩ := hexec
  obtain ⟨hmem, hwindows⟩ := State.withWindow_complete (s := s) (c := c) h (some w) ⟨0, h, 0, 0⟩
  exact ⟨_, w, hexec, hmem, hwindows, hpart, hbase, hsize, hkey, hpeer, hrights, hopen,
    (State.withWindow_sends s h (some w)).complete hw c csOk _⟩

omit hw in
/-- Without a free handle no window is opened (R327). -/
theorem exec_windowOpen_full (hc : s.cmdOf ring idx 0x11 = some c) (hform : c.desc.getLsbD 64 = false)
    (hfree : s.freeHandle = none) : exec (.windowOpen ring idx) s = .next (s.complete c csNoResource noRes) := by
  change execWindowOpen ring idx s = _
  unfold execWindowOpen
  rw [hc]
  dsimp only
  rw [hform, if_neg Bool.false_ne_true, hfree]

/-- A command that ends with the remote references of its partition changed (R236). -/
theorem State.refs_complete (k : Nat) (r : Option RemoteRef) :
    let t := (s.modPart c.part fun x => { x with refs := mset (fun _ => none) x.refs k r }).complete c csOk noRes
    s.sameMem t ∧ (t.part c.part).refs = mset (fun _ => none) (s.part c.part).refs k r ∧ Completes s t c csOk := by
  intro t
  have hframe := State.complete_frame
    (s.modPart c.part fun x => { x with refs := mset (fun _ => none) x.refs k r }) c csOk noRes
  have hpart : t.part c.part = { s.part c.part with refs := mset (fun _ => none) (s.part c.part).refs k r } := by
    rw [State.part, hframe.parts]
    exact State.part_modPart hw c.part _
  exact ⟨State.sameMem_trans ⟨rfl, rfl, rfl, rfl, rfl, rfl⟩ hframe.sameMem, by rw [hpart],
    (State.modPart_sends s c.part _).complete hw c csOk noRes⟩

/-- A remote reference is entered behind a path (R236, R327). -/
theorem exec_remoteReferenceEnter (hc : s.cmdOf ring idx 0x11 = some c) (hform : c.desc.getLsbD 64 = true)
    (hpath : s.hasPath (fld c.desc 80 16) = true) : ∃ t, exec (.remoteReferenceEnter ring idx) s = .next t ∧ s.sameMem t ∧
      (t.part c.part).refs = mset (fun _ => none) (s.part c.part).refs (fld c.desc 71 8)
        (some ⟨c.desc.extractLsb' 80 16, fld c.desc 280 12, c.desc.extractLsb' 96 64⟩) ∧ Completes s t c csOk := by
  refine ⟨_, ?_, State.refs_complete hw (fld c.desc 71 8) (some ⟨c.desc.extractLsb' 80 16, fld c.desc 280 12,
    c.desc.extractLsb' 96 64⟩)⟩
  change execRemoteReferenceEnter ring idx s = _
  unfold execRemoteReferenceEnter
  rw [hc]
  dsimp only
  rw [hform, Bool.not_true, if_neg Bool.false_ne_true, hpath, Bool.not_true, if_neg Bool.false_ne_true]

omit hw in
/-- Without a path there is nothing to refer to (R327). -/
theorem exec_remoteReferenceEnter_down (hc : s.cmdOf ring idx 0x11 = some c) (hform : c.desc.getLsbD 64 = true)
    (hpath : s.hasPath (fld c.desc 80 16) = false) :
    exec (.remoteReferenceEnter ring idx) s = .next (s.complete c csLinkDown noRes) := by
  change execRemoteReferenceEnter ring idx s = _
  unfold execRemoteReferenceEnter
  rw [hc]
  dsimp only
  rw [hform, Bool.not_true, if_neg Bool.false_ne_true, hpath, Bool.not_false, if_pos rfl]

/-- A remote reference is cleared (R308). -/
theorem exec_remoteReferenceClear (hc : s.cmdOf ring idx 0x12 = some c) (hform : c.desc.getLsbD 64 = true) :
    ∃ t, exec (.remoteReferenceClear ring idx) s = .next t ∧ s.sameMem t ∧
      (t.part c.part).refs = mset (fun _ => none) (s.part c.part).refs (fld c.desc 77 8) none ∧ Completes s t c csOk := by
  refine ⟨_, ?_, State.refs_complete hw (fld c.desc 77 8) none⟩
  change execRemoteReferenceClear ring idx s = _
  unfold execRemoteReferenceClear
  rw [hc]
  dsimp only
  rw [hform, Bool.not_true, if_neg Bool.false_ne_true]

omit hw in
/-- A window that its own partition closes drops what arrives from then on (R240). -/
theorem exec_windowClose (hc : s.cmdOf ring idx 0x12 = some c) (hform : c.desc.getLsbD 64 = false) {w : Window}
    (hwindow : s.window (fld c.desc 65 12) = some w) (hpart : w.part = c.part) (hopen : w.closing = none) :
    exec (.windowClose ring idx) s =
      .next ((s.setWindow (fld c.desc 65 12) (some { w with closing := some (ring, idx) })).actCmd c) := by
  have hmay : ¬ (decide (w.part ≠ c.part) || w.closing.isSome) = true := by simp [hpart, hopen]
  change execWindowClose ring idx s = _
  unfold execWindowClose
  rw [hc]
  dsimp only
  rw [hform, if_neg Bool.false_ne_true, hwindow]
  exact if_neg hmay

/-- A window that is idle has closed (R240). -/
theorem exec_windowCloseComplete {h r i : Nat} {w : Window} (hwindow : s.window h = some w)
    (hclosing : w.closing = some (r, i)) (hc : s.cmd r i = some c) :
    ∃ t, exec (.windowCloseComplete h) s = .next t ∧ s.sameMem t ∧
      t.windows = mset (fun _ => none) s.windows h none ∧ Completes s t c csOk := by
  have hexec : exec (.windowCloseComplete h) s = .next ((s.withWindow h none).complete c csOk noRes) := by
    have hcmd : ((s.setWindow h none).odSet odWindowsOpen (s.setWindow h none).openWindows).cmd r i = some c := hc
    have hfound : (s.window h).bind (·.closing) = some (r, i) := by rw [hwindow, Option.bind_some, hclosing]
    change execWindowCloseComplete h s = _
    unfold execWindowCloseComplete
    rw [hfound]
    dsimp only
    rw [hcmd]
    rfl
  obtain ⟨hmem, hwindows⟩ := State.withWindow_complete (s := s) (c := c) h none noRes
  exact ⟨_, hexec, hmem, hwindows, (State.withWindow_sends s h none).complete hw c csOk noRes⟩

/-! ### Hints (R328) -/

/-- HINT_LOAD records the hint that its start has placed (R328). -/
theorem exec_hintLoad (hc : s.cmdOf ring idx 0x20 = some c) : ∃ t, exec (.hintLoad ring idx) s = .next t ∧ s.sameMem t ∧
    t.hints = s.hints ++ c.hint.toList ∧ Completes s t c csOk := by
  have hexec : exec (.hintLoad ring idx) s =
      .next (({ s with hints := s.hints ++ c.hint.toList } : State).complete c csOk noRes) := by
    change execHintLoad ring idx s = _
    unfold execHintLoad
    rw [hc]
  have hsends : State.Sends s { s with hints := s.hints ++ c.hint.toList } :=
    .of_fields (Keeps.refl s) rfl rfl rfl rfl rfl rfl
  exact ⟨_, hexec, State.sameMem_trans ⟨rfl, rfl, rfl, rfl, rfl, rfl⟩ (State.complete_frame _ c csOk noRes).sameMem,
    State.complete_hints _ c csOk noRes, hsends.complete hw c csOk noRes⟩

end

/-- The window of a hint stands against the step that is armed or runs (R328). -/
theorem State.hintOf_placed (s : State) (p : Nat) {d : BitVec 512} (hop : fld d 0 8 = 0x20) :
    ∃ h, s.hintOf p d = some h ∧ h.part = p ∧ h.cls = fld d 64 2 ∧ h.offsetUs = fld d 96 32 ∧ h.durUs = fld d 128 32 ∧
      h.active = false ∧
      ((s.part p).job.st = .armed → h.start = some ((s.part p).job.launchDt + 1000 * fld d 96 32)) ∧
      ((s.part p).job.st = .running → h.start = some ((s.part p).job.actualDt + 1000 * fld d 96 32)) ∧
      ((s.part p).job.st ≠ .armed → (s.part p).job.st ≠ .running → h.start = none) := by
  unfold State.hintOf
  rw [if_neg (not_not.mpr hop)]
  refine ⟨_, rfl, rfl, rfl, rfl, rfl, rfl, fun harmed => if_pos harmed, fun hruns => ?_, fun harmed hruns => ?_⟩
  · have harmed : (s.part p).job.st ≠ .armed := by rw [hruns]; decide
    exact (if_neg harmed).trans (if_pos hruns)
  · exact (if_neg harmed).trans (if_neg hruns)

/-! ### Farrier grants (R330, R531) -/

section

variable {s t u : State}

/-- Clusters have been lent or have come back: cores, CMEM, the runs on them and which clusters are lent may have changed. -/
structure State.Lends (s t : State) : Prop where
  keeps : Keeps s t
  frame : t = { s with
    cores := t.cores, clusters := t.clusters, cmem := t.cmem, cmemPoison := t.cmemPoison, cmemOvf := t.cmemOvf
    firm := t.firm }
  cl : s.wf = true → ∀ x, t.cl x = { s.cl x with lent := (t.cl x).lent }

namespace State.Lends

theorem refl (s : State) : State.Lends s s := ⟨Keeps.refl s, rfl, fun _ _ => rfl⟩

theorem trans (h : State.Lends s t) (k : State.Lends t u) : State.Lends s u where
  keeps := h.keeps.trans k.keeps
  frame := by
    have hframe := k.frame
    rw [h.frame] at hframe
    exact hframe
  cl hw x := by rw [k.cl (h.keeps.wf hw) x, h.cl hw x]

/-- What leaves every cluster as it is lends none. -/
theorem of_clusters (hk : Keeps s t) (hf : t = { s with
    cores := t.cores, clusters := t.clusters, cmem := t.cmem, cmemPoison := t.cmemPoison, cmemOvf := t.cmemOvf
    firm := t.firm }) (hc : t.clusters = s.clusters) : State.Lends s t where
  keeps := hk
  frame := hf
  cl _ x := by rw [State.cl, State.cl, hc]

theorem foldl {β : Type} {f : State → β → State} (hf : ∀ s b, State.Lends s (f s b)) (l : List β) :
    ∀ s, State.Lends s (l.foldl f s) := by
  induction l with
  | nil => exact fun s => refl s
  | cons b l ih => exact fun s => (hf s b).trans (ih (f s b))

/-- A grant sends nothing to the host. -/
theorem sends (h : State.Lends s t) (hw : s.wf = true) : State.Sends s t where
  keeps := h.keeps
  dt := by rw [h.frame]
  cut := by
    have hbay : ∀ b, t.bay b = s.bay b := fun b => by rw [h.frame]; rfl
    have hport : t.hostPort = s.hostPort := by rw [h.frame]
    have hstopped : t.routerStopped = s.routerStopped := by
      funext x
      rw [State.routerStopped, State.routerStopped, hbay, h.cl hw x]
    rw [State.dieCutOff, State.dieCutOff, hport, hstopped]
  sent := ⟨[], by rw [h.frame, List.append_nil]⟩
  place _ r := by
    rw [h.frame]
    exact ⟨rfl, rfl⟩

end State.Lends

/-- A cluster is lent or comes back. -/
theorem State.setLent_lends (s : State) (x : SiteId) (b : Bool) : State.Lends s (s.modCl x fun y => { y with lent := b }) where
  keeps := State.modCl_keeps s x _ (Keeps.refl s)
  frame := rfl
  cl hw y := by
    by_cases hy : y = x
    · rw [hy, State.cl_modCl hw]
    · rw [State.cl_modCl_other hw _ hy]

/-- A fold of steps that each lend no cluster. -/
theorem State.Lends.foldl_clusters {β : Type} {f : State → β → State}
    (hf : ∀ s b, State.Lends s (f s b) ∧ (f s b).clusters = s.clusters) (l : List β) (s : State) :
    State.Lends s (l.foldl f s) ∧ (l.foldl f s).clusters = s.clusters := by
  refine ⟨State.Lends.foldl (fun s b => (hf s b).1) l s, ?_⟩
  induction l generalizing s with
  | nil => rfl
  | cons b l ih => exact (ih (f s b)).trans (hf s b).2

theorem State.modBoth_lends (s : State) (c : CoreId) (f : CoreSt → CoreSt) :
    State.Lends s (s.modBoth c f) ∧ (s.modBoth c f).clusters = s.clusters :=
  ⟨.of_clusters (State.modBoth_keeps s c f (Keeps.refl s)) rfl rfl, rfl⟩

theorem State.stopRun_lends (s : State) (x : SiteId) :
    State.Lends s (s.stopRun x) ∧ (s.stopRun x).clusters = s.clusters := by
  unfold State.stopRun
  refine State.Lends.foldl_clusters (fun u c => ?_) (siteCores x) s
  split
  · exact State.modBoth_lends u c _
  · exact ⟨.refl u, rfl⟩

/-- A run that ends without a verdict changes no cluster (R529). -/
theorem State.abandonRun_lends (s : State) (x : SiteId) :
    State.Lends s (s.abandonRun x) ∧ (s.abandonRun x).clusters = s.clusters := by
  unfold State.abandonRun
  refine ⟨State.Lends.trans ?_ (State.stopRun_lends _ x).1, (State.stopRun_lends _ x).2⟩
  exact .of_clusters (Keeps.refl s) rfl rfl

/-- A site whose memories are zeroed is lent as before (R330). -/
theorem State.wipeSite_lends (s : State) (x : SiteId) :
    State.Lends s (s.wipeSite x) ∧ (s.wipeSite x).clusters = s.clusters := by
  have hkeeps := State.wipeSite_keeps s x (Keeps.refl s)
  unfold State.wipeSite at *
  dsimp only at *
  obtain ⟨hfold, hclusters⟩ := State.Lends.foldl_clusters (fun (u : State) (c : CoreId) => State.modBoth_lends u c
    fun y => { y with lsp := [], lspPoison := [], act := [], actMark := [], lut := [], lutMark := [], wback := [] })
    (siteCores x) { s with
      cmem := mclearRange s.cmem (cmemKey x 0) (2 ^ 23)
      cmemPoison := mclearRange s.cmemPoison (cmemKey x 0 / 64) (2 ^ 17)
      cmemOvf := mclearRange s.cmemOvf (cmemKey x 0 / 64) (2 ^ 17) }
  exact ⟨.of_clusters hkeeps hfold.frame hclusters, hclusters⟩

/-- A cluster that a grant has lent comes back zeroed (R330). -/
def State.comeBack (s : State) (x : SiteId) : State :=
  ((s.abandonRun x).wipeSite x).modCl x fun y => { y with lent := false }

theorem State.comeBack_lends (s : State) (x : SiteId) : State.Lends s (s.comeBack x) := by
  obtain ⟨habandon, -⟩ := State.abandonRun_lends s x
  obtain ⟨hwipe, -⟩ := State.wipeSite_lends (s.abandonRun x) x
  exact (habandon.trans hwipe).trans (State.setLent_lends ((s.abandonRun x).wipeSite x) x false)

theorem State.comeBack_lent (hw : s.wf = true) {x y : SiteId} (h : ((s.comeBack x).cl y).lent = true) :
    y ≠ x ∧ (s.cl y).lent = true := by
  obtain ⟨habandon, hruns⟩ := State.abandonRun_lends s x
  obtain ⟨hwipe, hsites⟩ := State.wipeSite_lends (s.abandonRun x) x
  have hwWiped := hwipe.keeps.wf (habandon.keeps.wf hw)
  have hcl : ((s.abandonRun x).wipeSite x).cl y = s.cl y := by rw [State.cl, State.cl, hsites, hruns]
  unfold State.comeBack at h
  by_cases hy : y = x
  · rw [hy, State.cl_modCl hwWiped] at h
    exact absurd h Bool.false_ne_true
  · rw [State.cl_modCl_other hwWiped _ hy, hcl] at h
    exact ⟨hy, h⟩

/-- Of clusters that come back none is lent any more. -/
theorem State.foldl_comeBack_lent (l : List SiteId) {y : SiteId} : ∀ s : State, s.wf = true →
    ((l.foldl State.comeBack s).cl y).lent = true → y ∉ l ∧ (s.cl y).lent = true := by
  induction l with
  | nil => exact fun s _ h => ⟨List.not_mem_nil, h⟩
  | cons x l ih =>
    intro s hw h
    rw [List.foldl_cons] at h
    obtain ⟨hrest, hnext⟩ := ih (s.comeBack x) ((State.comeBack_lends s x).keeps.wf hw) h
    obtain ⟨hx, hlent⟩ := State.comeBack_lent hw hnext
    exact ⟨List.not_mem_cons_of_ne_of_not_mem hx hrest, hlent⟩

/-- A grant is over: its clusters have come back (R330, R531). -/
def State.grantOver (s : State) (p : Nat) : State :=
  ((((s.part p).sites.filterMap id).filter fun x => (s.cl x).lent).foldl State.comeBack s).modPart p fun x =>
    { x with grant := none }

theorem State.grantOver_leaves (s : State) (p : Nat) : (s.grantOver p).hbm = s.hbm ∧ (s.grantOver p).cmds = s.cmds := by
  have hback := State.Lends.foldl State.comeBack_lends
    (((s.part p).sites.filterMap id).filter fun x => (s.cl x).lent) s
  unfold State.grantOver
  generalize List.foldl State.comeBack s _ = u at *
  rw [hback.frame]
  exact ⟨rfl, rfl⟩

/-- Lending changes which clusters are lent (R531). -/
theorem State.lend_lends (s : State) (p : Nat) : State.Lends s (s.lend p) ∧ s.sameMem (s.lend p) := by
  unfold State.lend
  split
  · exact ⟨.refl s, ⟨rfl, rfl, rfl, rfl, rfl, rfl⟩⟩
  · exact ⟨State.Lends.foldl (fun u x => State.setLent_lends u x true) _ s,
      (State.Calm.foldl (fun u x => State.modCl_calm u x _) _ s).1⟩

end

section

variable {s : State} (hw : s.wf = true)

include hw

/-- A farrier grant stands from its start on (R330, R531). -/
theorem exec_farrierGrant {ring idx : Nat} {c : RingCmd} (hc : s.cmdOf ring idx 0x31 = some c) :
    ∃ t g, exec (.farrierGrant ring idx) s = .next t ∧ s.sameMem t ∧ (t.part c.part).grant = some g ∧
      g.endDt = s.clk.dt + 1000 * fld c.desc 64 32 ∧ g.maxCl = fld c.desc 96 10 := by
  have hexec : ∃ g : Grant, exec (.farrierGrant ring idx) s =
      .next (((s.actCmd c).modPart c.part fun x => { x with grant := some g }).lend c.part) ∧
        g.endDt = s.clk.dt + 1000 * fld c.desc 64 32 ∧ g.maxCl = fld c.desc 96 10 := by
    change ∃ g : Grant, execFarrierGrant ring idx s = _ ∧ _
    unfold execFarrierGrant
    rw [hc]
    exact ⟨_, rfl, rfl, rfl⟩
  obtain ⟨g, hexec, hend, hmax⟩ := hexec
  obtain ⟨hlends, hmem⟩ := State.lend_lends ((s.actCmd c).modPart c.part fun x => { x with grant := some g }) c.part
  have hgrant : (((s.actCmd c).modPart c.part fun x => { x with grant := some g }).part c.part).grant = some g := by
    rw [State.part_modPart (s := s.actCmd c) hw]
  refine ⟨_, g, hexec, State.sameMem_trans ⟨rfl, rfl, rfl, rfl, rfl, rfl⟩ hmem, ?_, hend, hmax⟩
  generalize ((s.actCmd c).modPart c.part fun x => { x with grant := some g }) = u at *
  rw [hlends.frame]
  exact hgrant

theorem State.grantOver_sends (p : Nat) : State.Sends s (s.grantOver p) :=
  ((State.Lends.foldl State.comeBack_lends _ s).sends hw).trans (State.modPart_sends _ p _)

/-- Then no cluster of the partition is lent, and no grant stands (R330). -/
theorem State.grantOver_lent (p : Nat) : ((s.grantOver p).part p).grant = none ∧
    ∀ x, some x ∈ (s.part p).sites → ((s.grantOver p).cl x).lent = false := by
  have hback := State.Lends.foldl State.comeBack_lends
    (((s.part p).sites.filterMap id).filter fun x => (s.cl x).lent) s
  refine ⟨by rw [State.grantOver, State.part_modPart (hback.keeps.wf hw)], fun x hx => ?_⟩
  by_contra hset
  obtain ⟨hnot, hwas⟩ := State.foldl_comeBack_lent (((s.part p).sites.filterMap id).filter fun x => (s.cl x).lent) s hw
    (Bool.eq_true_of_not_eq_false hset)
  exact hnot (List.mem_filter.mpr ⟨List.mem_filterMap.mpr ⟨some x, hx, rfl⟩, hwas⟩)

omit hw in
theorem exec_farrierGrantEnd_due {p : Nat} {g : Grant} {c : RingCmd} (hg : (s.part p).grant = some g)
    (hdue : g.endDt ≤ s.clk.dt) (hc : s.cmd g.ring g.idx = some c) :
    exec (.farrierGrantEnd p) s = .next ((s.grantOver p).complete c csOk noRes) := by
  have hends : ¬ (decide (s.clk.dt < g.endDt) && !((s.part p).sites.filterMap id).all fun x =>
      (s.cl x).fenced || g.visited.contains x) = true := by
    rw [decide_eq_false (Nat.not_lt.mpr hdue), Bool.false_and]
    exact Bool.false_ne_true
  have hcmd : (s.grantOver p).cmd g.ring g.idx = some c := by
    obtain ⟨-, hcmds⟩ := State.grantOver_leaves s p
    rw [State.cmd, hcmds]
    exact hc
  have hstep : (fun (u : State) x => ((u.abandonRun x).wipeSite x).modCl x fun y => { y with lent := false }) =
    State.comeBack := rfl
  unfold State.grantOver at *
  change execFarrierGrantEnd p s = _
  unfold execFarrierGrantEnd
  rw [hg]
  dsimp only
  rw [if_neg hends, hstep, hcmd]

/-- When a grant ends, its clusters come back zeroed and its command completes (R330, R531). -/
theorem exec_farrierGrantEnd {p : Nat} {g : Grant} {c : RingCmd} (hg : (s.part p).grant = some g)
    (hdue : g.endDt ≤ s.clk.dt) (hc : s.cmd g.ring g.idx = some c) :
    ∃ t, exec (.farrierGrantEnd p) s = .next t ∧ t.hbm = s.hbm ∧ (t.part p).grant = none ∧
      (∀ site, some site ∈ (s.part p).sites → (t.cl site).lent = false) ∧ Completes s t c csOk := by
  have hframe := State.complete_frame (s.grantOver p) c csOk noRes
  obtain ⟨hhbm, -⟩ := hframe.sameMem
  obtain ⟨hsame, -⟩ := State.grantOver_leaves s p
  obtain ⟨hgrant, hlent⟩ := State.grantOver_lent hw p
  refine ⟨_, exec_farrierGrantEnd_due hg hdue hc, hhbm.trans hsame, ?_, fun x hx => ?_,
    (State.grantOver_sends hw p).complete hw c csOk noRes⟩
  · rw [State.part, hframe.parts]
    exact hgrant
  · rw [State.cl, hframe.clusters]
    exact hlent x hx

end

/-- Settles O46: copies, windows, remote references, hints and farrier grants have their effect, and each command that ends
here completes. -/
theorem jobDataCommandsComplete : Obligations.JobDataCommandsComplete := by
  intro s hw
  refine ⟨fun ring idx c hc hform => ⟨fun hnone hup => ?_, exec_hostCopyToHbm_write hw hc hform⟩,
    fun ring idx c hc hform => exec_hostCopyFromHbm hw hc hform,
    fun ring idx c hc hform => ⟨fun h hfree => exec_windowOpen hw hc hform hfree, fun hfree => ?_⟩,
    fun ring idx c hc hform => ⟨exec_remoteReferenceEnter hw hc hform, fun hpath => ?_⟩,
    fun ring idx c w hc hform hwindow hpart hopen => exec_windowClose hc hform hwindow hpart hopen,
    fun h w r i c hwindow hclosing hc => exec_windowCloseComplete hw hwindow hclosing hc,
    fun ring idx c hc hform => exec_remoteReferenceClear hw hc hform, fun ring idx c hc => exec_hintLoad hw hc,
    fun p d hop => State.hintOf_placed s p hop, fun ring idx c hc => exec_farrierGrant hw hc,
    fun p g c hg hdue hc => exec_farrierGrantEnd hw hg hdue hc⟩
  · obtain ⟨hmem, hcmds, l, hreqs, hsum, hall⟩ := State.askCopy_asked s ring idx (fld c.desc 128 64)
      (64 * (fld c.desc 64 32 + 1))
    refine ⟨_, l, exec_hostCopyToHbm_ask hc hform hnone hup, hmem, hcmds, hreqs, hsum.trans ?_, hall⟩
    omega
  · have hframe := State.complete_frame s c csNoResource noRes
    exact ⟨_, exec_windowOpen_full hc hform hfree, State.still_windows hframe.still,
      State.complete_completes s c csNoResource noRes⟩
  · have hframe := State.complete_frame s c csLinkDown noRes
    exact ⟨_, exec_remoteReferenceEnter_down hc hform hpath, hframe.parts, State.complete_completes s c csLinkDown noRes⟩

end Sys2Proof.Machine
end

section
/-! PROOFS. What the shared operations of the update family leave: single bits of a register, the update table, and what ends a
commit (R258, R277, R281, R284, R324). -/

namespace Sys2Proof.Machine

open Sys2Proof

/-! ### Single bits of a register -/

/-- A power of two that is added to a number without its bit sets this bit alone. -/
theorem testBit_add_two_pow {x i : Nat} (h : x.testBit i = false) (j : Nat) :
    (x + 2 ^ i).testBit j = if j = i then true else x.testBit j := by
  rcases Nat.lt_trichotomy j i with hj | rfl | hj
  · rw [Nat.add_comm, Nat.testBit_two_pow_add_gt hj, if_neg (Nat.ne_of_lt hj)]
  · rw [Nat.add_comm, Nat.testBit_two_pow_add_eq, h, if_pos rfl, Bool.not_false]
  · have hclear : x / 2 ^ i % 2 = 0 := by simpa [Nat.testBit_eq_decide_div_mod_eq] using h
    have hhigh : (x + 2 ^ i) / 2 ^ (i + 1) = x / 2 ^ (i + 1) := by
      rw [pow_succ, ← Nat.div_div_eq_div_mul, ← Nat.div_div_eq_div_mul, Nat.add_div_right x (Nat.two_pow_pos i)]
      omega
    obtain ⟨k, rfl⟩ : ∃ k, j = k + (i + 1) := ⟨j - (i + 1), by omega⟩
    rw [if_neg (by omega), ← Nat.testBit_div_two_pow (n := i + 1), ← Nat.testBit_div_two_pow (n := i + 1), hhigh]

/-- A power of two that is taken from a number with its bit clears this bit alone. -/
theorem testBit_sub_two_pow {x i : Nat} (h : x.testBit i = true) (j : Nat) :
    (x - 2 ^ i).testBit j = if j = i then false else x.testBit j := by
  obtain ⟨y, rfl⟩ : ∃ y, x = y + 2 ^ i := ⟨x - 2 ^ i, (Nat.sub_add_cancel (Nat.ge_two_pow_of_testBit h)).symm⟩
  have hclear : y.testBit i = false := by
    rw [Nat.add_comm, Nat.testBit_two_pow_add_eq] at h
    simpa using h
  rw [Nat.add_sub_cancel, testBit_add_two_pow hclear]
  split
  next hj => rw [hj, hclear]
  · rfl

section

variable {s t u : State}

/-- A bit of a register that is put is read back, and its other bits stay. -/
theorem State.odBit_odPutBit (h : mwf odDefault s.dict.val = true) (k i : Nat) (v : Bool) (j : Nat) :
    (s.odPutBit k i v).odBit k j = if j = i then v else s.odBit k j := by
  have hbit : ∀ n, ((s.odSet k n).odBit k j) = n.testBit j := fun n => by rw [State.odBit, State.od_odSet_same h]
  have hstays : (s.od k).testBit i = v → (s.od k).testBit j = if j = i then v else (s.od k).testBit j := by
    intro hv
    split
    next hj => rw [hj, hv]
    · rfl
  unfold State.odPutBit
  extract_lets x
  change _ = if j = i then v else x.testBit j
  rw [hbit]
  cases v <;> cases hx : x.testBit i
  · exact hstays hx
  · exact testBit_sub_two_pow hx j
  · exact testBit_add_two_pow hx j
  · exact hstays hx

/-- The other registers stay. -/
theorem State.od_odPutBit_other (h : mwf odDefault s.dict.val = true) {k j : Nat} (i : Nat) (v : Bool) (hj : j ≠ k) :
    (s.odPutBit k i v).od j = s.od j := State.od_odSet_other h _ hj

theorem State.odPutBit_dictWf (h : mwf odDefault s.dict.val = true) (k i : Nat) (v : Bool) :
    mwf odDefault (s.odPutBit k i v).dict.val = true := State.odSet_dictWf h k _

/-! ### Steps that leave some registers -/

/-- From a canonical dictionary to a canonical one in which the registers of a set `K` are as they were. -/
def State.LeavesOd (K : Nat → Prop) (s t : State) : Prop :=
  mwf odDefault s.dict.val = true → mwf odDefault t.dict.val = true ∧ ∀ k, K k → t.od k = s.od k

section

variable {K : Nat → Prop}

theorem State.LeavesOd.refl (K : Nat → Prop) (s : State) : State.LeavesOd K s s := fun h => ⟨h, fun _ _ => rfl⟩

theorem State.LeavesOd.trans (h : State.LeavesOd K s t) (k : State.LeavesOd K t u) : State.LeavesOd K s u := by
  intro hs
  obtain ⟨ht, e⟩ := h hs
  obtain ⟨hu, e'⟩ := k ht
  exact ⟨hu, fun j hj => (e' j hj).trans (e j hj)⟩

/-- What is quiet leaves every set without a noisy register. -/
theorem State.Quiet.leavesOd (h : State.Quiet s t) (hK : ∀ k, K k → noisyKey k = false) : State.LeavesOd K s t := by
  intro hs
  obtain ⟨ht, e⟩ := h hs
  exact ⟨ht, fun k hk => e k (hK k hk)⟩

theorem State.LeavesOd.of_val (h : t.dict.val = s.dict.val) : State.LeavesOd K s t := by
  intro hs
  exact ⟨h ▸ hs, fun k _ => by simp only [State.od, h]⟩

theorem State.LeavesOd.odSet (s : State) {j : Nat} (hj : ¬ K j) (v : Nat) : State.LeavesOd K s (s.odSet j v) := by
  intro hs
  refine ⟨State.odSet_dictWf hs j v, fun k hk => State.od_odSet_other hs v ?_⟩
  rintro rfl
  exact hj hk

end

end

/-! ### The update table (R258) -/

/-- An entry of the update table is that of a shard. -/
def UpdEntry.isOf (e : UpdEntry) (p stack uid : Nat) : Bool := e.part == p && e.stack == stack && e.uid == uid

theorem UpdEntry.isOf_iff {e : UpdEntry} {p stack uid : Nat} :
    e.isOf p stack uid = true ↔ e.part = p ∧ e.stack = stack ∧ e.uid = uid := by
  simp [UpdEntry.isOf, and_assoc]

/-- The step counter of an entry, or 0 for one that does not exist (R258). -/
def entryCtr (o : Option UpdEntry) : Nat := (o.map fun e => e.ctr.toNat).getD 0

/-- The entry of a shard with a step counter. -/
def entryOf (p stack uid ctr : Nat) : UpdEntry := ⟨p, stack, uid, BitVec.ofNat 32 ctr⟩

theorem entryOf_isOf (p stack uid ctr q k w : Nat) :
    (entryOf p stack uid ctr).isOf q k w = true ↔ q = p ∧ k = stack ∧ w = uid := by
  rw [UpdEntry.isOf_iff]
  exact ⟨fun ⟨hq, hk, hw⟩ => ⟨hq.symm, hk.symm, hw.symm⟩, fun ⟨hq, hk, hw⟩ => ⟨hq.symm, hk.symm, hw.symm⟩⟩

/-- An entry in place of that of its shard. -/
def UpdEntry.setTo (p stack uid ctr : Nat) (e : UpdEntry) : UpdEntry :=
  if e.isOf p stack uid then entryOf p stack uid ctr else e

/-- Setting an entry keeps its shard. -/
theorem UpdEntry.isOf_setTo (p stack uid ctr q k w : Nat) (e : UpdEntry) :
    (e.setTo p stack uid ctr).isOf q k w = e.isOf q k w := by
  unfold UpdEntry.setTo
  split
  next he =>
    obtain ⟨rfl, rfl, rfl⟩ := UpdEntry.isOf_iff.mp he
    rfl
  · rfl

section

variable {l : List UpdEntry} {p stack uid ctr q k w : Nat}

/-- The counters of a table in which the entry of a shard is set. -/
theorem entryCtr_set (hany : (l.any fun e => e.isOf p stack uid) = true) :
    entryCtr ((l.map (UpdEntry.setTo p stack uid ctr)).find? fun e => e.isOf q k w) =
      if q = p ∧ k = stack ∧ w = uid then ctr % 2 ^ 32 else entryCtr (l.find? fun e => e.isOf q k w) := by
  rw [List.find?_map, Function.comp_def]
  simp only [UpdEntry.isOf_setTo]
  cases hfind : l.find? fun e => e.isOf q k w with
  | none =>
    have hother : ¬ (q = p ∧ k = stack ∧ w = uid) := by
      rintro ⟨rfl, rfl, rfl⟩
      obtain ⟨e, he, hit⟩ := List.any_eq_true.mp hany
      exact List.find?_eq_none.mp hfind e he hit
    rw [if_neg hother]
    rfl
  | some e =>
    obtain ⟨rfl, rfl, rfl⟩ := UpdEntry.isOf_iff.mp (List.find?_some (p := fun e : UpdEntry => e.isOf q k w) hfind)
    rw [Option.map_some, UpdEntry.setTo]
    by_cases hsame : e.part = p ∧ e.stack = stack ∧ e.uid = uid
    · rw [if_pos hsame, if_pos (UpdEntry.isOf_iff.mpr hsame)]
      rfl
    · rw [if_neg hsame, if_neg (mt UpdEntry.isOf_iff.mp hsame)]

/-- The counters of a table to which the entry of a shard comes that had none. -/
theorem entryCtr_add (hnone : (l.any fun e => e.isOf p stack uid) = false) :
    entryCtr ((l ++ [entryOf p stack uid ctr]).find? fun e => e.isOf q k w) =
      if q = p ∧ k = stack ∧ w = uid then ctr % 2 ^ 32 else entryCtr (l.find? fun e => e.isOf q k w) := by
  rw [List.find?_append, List.find?_singleton]
  by_cases hsame : q = p ∧ k = stack ∧ w = uid
  · have hnew : (l.find? fun e => e.isOf q k w) = none := by
      obtain ⟨rfl, rfl, rfl⟩ := hsame
      exact List.find?_eq_none.mpr (List.any_eq_false.mp hnone)
    rw [hnew, if_pos hsame, if_pos ((entryOf_isOf p stack uid ctr q k w).mpr hsame)]
    rfl
  · rw [if_neg hsame, if_neg (mt (entryOf_isOf p stack uid ctr q k w).mp hsame), Option.or_none]

end

section

variable (s : State) (p stack uid ctr : Nat)

/-- The registers that count the entries of the update tables are all that `updCount` writes. -/
theorem State.updCount_frame : State.LogFrame s s.updCount :=
  State.LogFrame.foldl (fun u _ => State.odSet_frame u _ _) (List.range 16) s

/-- Making or setting an entry changes the update table and registers of the dictionary. -/
theorem State.updSet_frame :
    State.LogFrame { s with upd := (s.updSet p stack uid ctr).upd } (s.updSet p stack uid ctr) := by
  unfold State.updSet
  extract_lets hit e
  split
  · rfl
  · have h := State.updCount_frame { s with upd := s.upd ++ [e] }
    generalize ({ s with upd := s.upd ++ [e] } : State).updCount = t at h
    unfold State.LogFrame at *
    rw [h]

/-- The entry that is set stands in place of the old one, or behind the others. -/
theorem State.updSet_upd : (s.updSet p stack uid ctr).upd =
    if s.upd.any fun e => e.isOf p stack uid then s.upd.map (UpdEntry.setTo p stack uid ctr)
    else s.upd ++ [entryOf p stack uid ctr] := by
  unfold State.updSet
  extract_lets hit e
  by_cases hany : s.upd.any hit = true
  · rw [if_pos hany]
    exact (if_pos hany).symm
  · have h := State.updCount_frame { s with upd := s.upd ++ [e] }
    unfold State.LogFrame at h
    rw [if_neg hany, h]
    exact (if_neg hany).symm

theorem State.updCtr_eq : s.updCtr p stack uid = entryCtr (s.upd.find? fun e => e.isOf p stack uid) := by
  unfold State.updCtr UpdEntry.isOf
  generalize s.upd.find? _ = o
  cases o <;> rfl

/-- A step counter has 32 bits. -/
theorem State.updCtr_lt : s.updCtr p stack uid < 2 ^ 32 := by
  unfold State.updCtr
  split
  · exact BitVec.isLt _
  · decide

/-- A step counter that is set is read back modulo 2^32, and every other counter stays (R258, R277). -/
theorem State.updCtr_updSet (q k w : Nat) : (s.updSet p stack uid ctr).updCtr q k w =
    if q = p ∧ k = stack ∧ w = uid then ctr % 2 ^ 32 else s.updCtr q k w := by
  rw [State.updCtr_eq, State.updCtr_eq, State.updSet_upd]
  split
  next hany => exact entryCtr_set hany
  next hany => exact entryCtr_add (Bool.eq_false_iff.mpr hany)

/-- A counter that is set to what it holds changes no counter. -/
theorem State.updCtr_updSet_self (q k w : Nat) :
    (s.updSet p stack uid (s.updCtr p stack uid)).updCtr q k w = s.updCtr q k w := by
  rw [State.updCtr_updSet]
  split
  next h =>
    obtain ⟨rfl, rfl, rfl⟩ := h
    exact Nat.mod_eq_of_lt (State.updCtr_lt s q k w)
  · rfl

end

/-! ### Fields under a log frame -/

theorem State.LogFrame.part {s t : State} (h : State.LogFrame s t) (p : Nat) : t.part p = s.part p := by
  rw [State.part, h.parts, State.part]

theorem State.LogFrame.upd {s t : State} (h : State.LogFrame s t) : t.upd = s.upd := by
  unfold State.LogFrame at h
  rw [h]

/-! ### The end of a commit (R281, R284, R324) -/

section

variable {s : State} {p : Nat} {c : Commit}

/-- The partition is rid of its commit, the SRAMs of its working data, and its job goes on (R257, R324). -/
def State.commitOff (s : State) (p status : Nat) (c : Commit) : State :=
  (s.modPart p fun x => { x with commit := none }).sramClear.jobAfterCommit p status (c.descs.all fun d => uRule d == 6)

theorem State.commitOff_sends (s : State) (p status : Nat) (c : Commit) : State.Sends s (s.commitOff p status c) :=
  .of_fields (State.jobAfterCommit_keeps _ _ _ _ (State.sramClear_keeps _ (State.modPart_keeps _ _ _ (Keeps.refl s))))
    rfl rfl rfl rfl rfl rfl

theorem State.part_commitOff (hw : s.wf = true) (status : Nat) : ((s.commitOff p status c).part p).commit = none ∧
    ((s.part p).job.st = .stepPending → status = csOk → ((s.commitOff p status c).part p).job.st =
      if c.descs.all fun d => uRule d == 6 then .stepPending else .loaded) := by
  have hwOff : (s.modPart p fun x => { x with commit := none }).sramClear.wf = true :=
    (State.sramClear_keeps _ (State.modPart_keeps s p _ (Keeps.refl s))).wf hw
  have hcommit : (s.modPart p fun x => { x with commit := none }).sramClear.part p = { s.part p with commit := none } := by
    change (s.modPart p fun x => { x with commit := none }).part p = _
    exact State.part_modPart hw p _
  unfold State.commitOff State.jobAfterCommit State.modJob
  rw [State.part_modPart hwOff, hcommit]
  refine ⟨rfl, fun hst hstatus => ?_⟩
  dsimp only
  rw [hst, hstatus, if_neg (by decide), if_pos rfl]

/-- The record of a commit is written at most once it is off (R284, R313). -/
theorem State.endCommit_logs (hc : (s.part p).commit = some c) (status : Nat) (res : Results) :
    State.Logs (s.commitOff p status c) (s.endCommit p status res) := by
  unfold State.endCommit
  rw [hc]
  change State.Logs (s.commitOff p status c) (if c.afterReset then s.commitOff p status c else _)
  split
  · exact .refl _
  · split
    · exact State.complete_logs _ _ _ _
    · exact .refl _

/-- A commit whose ring no reset has emptied completes its command (R313). -/
theorem State.endCommit_completes (hc : (s.part p).commit = some c) (hreset : c.afterReset = false) {cmd : RingCmd}
    (hcmd : s.cmd c.ring c.idx = some cmd) (status : Nat) (res : Results) :
    s.endCommit p status res = (s.commitOff p status c).complete cmd status res := by
  have hstays : (s.commitOff p status c).cmd c.ring c.idx = some cmd := hcmd
  unfold State.commitOff at *
  unfold State.endCommit
  rw [hc]
  dsimp only
  rw [hreset, if_neg Bool.false_ne_true, hstays]

/-- A commit that ends changes no memory and no step counter, and is off its partition (R281). -/
theorem State.endCommit_ends (hw : s.wf = true) (hc : (s.part p).commit = some c) (status : Nat) (res : Results) :
    s.sameMem (s.endCommit p status res) ∧ (s.endCommit p status res).upd = s.upd ∧
      ((s.endCommit p status res).part p).commit = none ∧ State.Quiet s (s.endCommit p status res) := by
  have hlogs := State.endCommit_logs hc status res
  obtain ⟨hoff, -⟩ := State.part_commitOff (p := p) (c := c) hw status
  generalize s.endCommit p status res = t at hlogs
  refine ⟨State.sameMem_trans ⟨rfl, rfl, rfl, rfl, rfl, rfl⟩ hlogs.frame.sameMem, ?_, ?_,
    State.Quiet.trans (.of_val rfl) hlogs.quiet⟩
  · rw [hlogs.frame.upd]
    rfl
  · rw [hlogs.frame.part, hoff]

end

end Sys2Proof.Machine
end

section
/-! PROOFS. STEP_COMMIT and its gate: what stands at the gate, and what an open and a shut gate leave (R274 to R276, R283, R316,
R528). -/

namespace Sys2Proof.Machine

open Sys2Proof

/-! ### Started commands -/

theorem State.cmdOf_eq_some {s : State} {ring idx o : Nat} {c : RingCmd} :
    s.cmdOf ring idx o = some c ↔ s.cmd ring idx = some c ∧ fld c.desc 0 8 = o ∧ c.acted = false := by
  unfold State.cmdOf
  cases s.cmd ring idx with
  | none => simp
  | some y =>
    simp only [Bool.and_eq_true, decide_eq_true_eq, Bool.not_eq_true', Option.ite_none_right_eq_some, Option.some.injEq]
    constructor
    · rintro ⟨hform, rfl⟩
      exact ⟨rfl, hform⟩
    · rintro ⟨rfl, hform⟩
      exact ⟨hform, rfl⟩

/-- A command that ends before it has acted changes no memory and no step counter, and completes. -/
theorem State.complete_ends (s : State) (c : RingCmd) (status : Nat) (res : Results) :
    s.sameMem (s.complete c status res) ∧ (s.complete c status res).upd = s.upd ∧
      Completes s (s.complete c status res) c status := by
  have hframe := State.complete_frame s c status res
  exact ⟨hframe.sameMem, hframe.upd, State.complete_completes s c status res⟩

/-! ### STEP_COMMIT (R274, R283, R316, R528) -/

/-- A commit at the gate with the shards of its list (R274). -/
def State.gateCommit (s : State) (ring idx : Nat) (c : RingCmd) : Commit :=
  { ring := ring, idx := idx, phase := .gate, descs := s.commitList c
    shards := listShards (s.part c.part) (s.commitList c), sums := [], torn := [], resumed := false, wrote := false
    poisoned := [], stale := [], afterReset := false, startDt := s.clk.dt }

/-- The commit of a command stands at the gate, and the command has acted (R274). -/
def State.atGate (s : State) (ring idx : Nat) (c : RingCmd) : State :=
  { s.modPart c.part fun x => { x with commit := some (s.gateCommit ring idx c) } with
    cmds := s.cmds.map fun y => if y.ring = ring ∧ y.idx = idx then { y with acted := true } else y }

theorem State.part_atGate {s : State} (hw : s.wf = true) (ring idx : Nat) (c : RingCmd) :
    (s.atGate ring idx c).part c.part = { s.part c.part with commit := some (s.gateCommit ring idx c) } := by
  change (s.modPart c.part fun x => { x with commit := some (s.gateCommit ring idx c) }).part c.part = _
  exact State.part_modPart hw c.part _

section

variable {s : State} {ring idx : Nat} {c : RingCmd} (hc : s.cmdOf ring idx 0x04 = some c)

include hc

/-- A command behind a commit that still applies waits (R284, R310). -/
theorem exec_stepCommit_behind (hcommit : (s.part c.part).commit ≠ none) : exec (.stepCommit ring idx) s = .next s := by
  obtain ⟨hcmd, hop, hacted⟩ := State.cmdOf_eq_some.mp hc
  change execStepCommit ring idx s = _
  unfold execStepCommit
  rw [hcmd]
  exact if_pos (by simp [Option.isSome_iff_ne_none, hcommit])

/-- The state check, the list check, a lost step, the room in the tables, and a run on an update chiplet, in this order. -/
theorem exec_stepCommit_checks (hcommit : (s.part c.part).commit = none) : exec (.stepCommit ring idx) s =
    let x := s.part c.part
    let ds := s.commitList c
    let resync := ds.all fun d => uRule d == 6
    if (x.job.st = .loaded && !resync) ||
        (x.job.st = .stepPending && (!resync && decide (fld c.desc 64 32 ≠ x.job.step.toNat))) ||
        !(x.job.st = .loaded || x.job.st = .stepPending || x.job.st = .halted) then
      .next (s.complete c csStateIllegal noRes)
    else if !uListOk x.hbmSize ds then .next (s.complete c csArgInvalid noRes)
    else if x.job.st = .halted then .next (s.complete c csStepLost ⟨rsAlreadyLost, 0, 0, 0⟩)
    else if !s.commitRoom c.part ds then .next (s.complete c csNoResource noRes)
    else if s.commitRuns c.part ds then .next s
    else .next (s.atGate ring idx c) := by
  obtain ⟨hcmd, hop, hacted⟩ := State.cmdOf_eq_some.mp hc
  change execStepCommit ring idx s = _
  unfold execStepCommit
  rw [hcmd]
  exact if_neg (by simp [hop, hacted, hcommit])

section

variable (hcommit : (s.part c.part).commit = none)

include hcommit

/-- What passes its checks, but for a run on an update chiplet that it needs (R274). -/
theorem exec_stepCommit_passes (hst : (s.part c.part).job.st = .stepPending)
    (hstep : fld c.desc 64 32 = (s.part c.part).job.step.toNat) (hlist : uListOk (s.part c.part).hbmSize (s.commitList c) = true)
    (hroom : s.commitRoom c.part (s.commitList c) = true) : exec (.stepCommit ring idx) s =
      if s.commitRuns c.part (s.commitList c) then .next s
      else .next (s.atGate ring idx c) := by
  rw [exec_stepCommit_checks hc hcommit]
  dsimp only
  rw [if_neg (by simp [hst, hstep]), if_neg (by simp [hlist]), if_neg (by simp [hst]), if_neg (by simp [hroom])]

/-- A step that was lost before ends its commit (R283). -/
theorem exec_stepCommit_halted (hst : (s.part c.part).job.st = .halted)
    (hlist : uListOk (s.part c.part).hbmSize (s.commitList c) = true) : exec (.stepCommit ring idx) s =
      .next (s.complete c csStepLost ⟨rsAlreadyLost, 0, 0, 0⟩) := by
  rw [exec_stepCommit_checks hc hcommit]
  dsimp only
  rw [if_neg (by simp [hst]), if_neg (by simp [hlist]), if_pos hst]

/-- A commit for another step than the job's is refused (R316). -/
theorem exec_stepCommit_otherStep (hst : (s.part c.part).job.st = .stepPending)
    (hstep : fld c.desc 64 32 ≠ (s.part c.part).job.step.toNat) (hrule : ∃ d ∈ s.commitList c, uRule d ≠ 6) :
    exec (.stepCommit ring idx) s = .next (s.complete c csStateIllegal noRes) := by
  have hresync : ((s.commitList c).all fun d => uRule d == 6) = false := by
    obtain ⟨d, hd, hne⟩ := hrule
    rw [List.all_eq_false]
    exact ⟨d, hd, by simpa using hne⟩
  rw [exec_stepCommit_checks hc hcommit]
  dsimp only
  exact if_pos (by simp [hst, hstep, hresync])

end

end

/-! ### The gate (R275, R276) -/

section

variable {s : State}

/-- The step counters that the shards of a commit are kept at. -/
def State.keepCounters (s : State) (p : Nat) (c : Commit) : State :=
  c.shards.foldl (fun s h =>
    let uid := uUid (c.descs.getD h.desc 0)
    s.updSet p h.stack uid (s.updCtr p h.stack uid)) s

/-- An entry for each shard changes the table, registers of the dictionary, and no counter (R258). -/
theorem State.keepCounters_keeps (s : State) (p : Nat) (c : Commit) : Keeps s (s.keepCounters p c) ∧
    State.LogFrame { s with upd := (s.keepCounters p c).upd } (s.keepCounters p c) ∧
    ∀ q k w, (s.keepCounters p c).updCtr q k w = s.updCtr q k w := by
  unfold State.keepCounters
  induction c.shards generalizing s with
  | nil => exact ⟨Keeps.refl s, rfl, fun _ _ _ => rfl⟩
  | cons h l ih =>
    obtain ⟨hkeeps, hframe, hctr⟩ := ih (s.updSet p h.stack (uUid (c.descs.getD h.desc 0))
      (s.updCtr p h.stack (uUid (c.descs.getD h.desc 0))))
    have hset := State.updSet_frame s p h.stack (uUid (c.descs.getD h.desc 0))
      (s.updCtr p h.stack (uUid (c.descs.getD h.desc 0)))
    rw [List.foldl_cons]
    dsimp only at *
    refine ⟨(State.updSet_keeps s _ _ _ _ (Keeps.refl s)).trans hkeeps, ?_, fun q k w =>
      (hctr q k w).trans (State.updCtr_updSet_self s _ _ _ q k w)⟩
    generalize List.foldl _ (s.updSet _ _ _ _) l = t at *
    generalize s.updSet _ _ _ _ = u at *
    unfold State.LogFrame at *
    rw [hframe, hset]

/-- The gate of a commit is open: it applies, with the sums that its first phase uses (R270, R271, R274). -/
def State.gateOpen (s : State) (p : Nat) (m : Commit) : State :=
  (s.keepCounters p m).modCommit p fun c => { c with
    phase := .apply, sums := m.descs.zipIdx.flatMap fun dk => s.startSums (s.part p) dk.2 dk.1 }

/-- An open gate has changed no memory, no counter and no shard. -/
theorem State.gateOpen_keeps {s : State} (hw : s.wf = true) {p : Nat} {m : Commit} (hm : (s.part p).commit = some m) :
    s.sameMem (s.gateOpen p m) ∧ (∀ q k w, (s.gateOpen p m).updCtr q k w = s.updCtr q k w) ∧
      ∃ n, ((s.gateOpen p m).part p).commit = some n ∧ n.phase = .apply ∧ n.shards = m.shards := by
  obtain ⟨hkeeps, hframe, hctr⟩ := State.keepCounters_keeps s p m
  unfold State.gateOpen State.modCommit
  generalize s.keepCounters p m = u at *
  rw [State.part_modPart (hkeeps.wf hw)]
  have hpart : u.part p = s.part p := hframe.part p
  refine ⟨hframe.sameMem, hctr, { m with
    phase := .apply, sums := m.descs.zipIdx.flatMap fun dk => s.startSums (s.part p) dk.2 dk.1 }, ?_, rfl, rfl⟩
  dsimp only
  rw [hpart, hm, Option.map_some]

variable {p : Nat} {m : Commit} (hm : (s.part p).commit = some m) (hphase : m.phase = .gate)
  (hlost : ∀ h ∈ m.shards, s.odBit odHbmStacksLost h.stack = false)

include hm hphase hlost

omit hm hphase in
theorem gate_stacksThere : ¬ (m.shards.any fun h => s.odBit odHbmStacksLost h.stack) = true := by
  rw [List.any_eq_true]
  rintro ⟨h, hh, hset⟩
  rw [hlost h hh] at hset
  exact Bool.false_ne_true hset

/-- A gate at which no descriptor differs opens (R275). -/
theorem exec_gateCheck_none (hnone : (m.descs.filter fun d => !(s.disagree p d).isEmpty) = []) :
    exec (.gateCheck p) s = .next (s.gateOpen p m) := by
  have hstacks := gate_stacksThere hlost
  change execGateCheck p s = _
  unfold execGateCheck
  rw [hm]
  dsimp only
  rw [if_neg (not_not.mpr hphase), if_neg hstacks, hnone]
  rfl

/-- The first descriptor that differs is reported, and the commit ends (R276). -/
theorem exec_gateCheck_first {d : BitVec 1024} {more : List (BitVec 1024)}
    (hfirst : (m.descs.filter fun d => !(s.disagree p d).isEmpty) = d :: more) : exec (.gateCheck p) s =
      .next (((s.logEv 0x6003 unModule (some p) noLunit [uUid d, uExpect d, stackMap (s.disagree p d),
        s.updCtr p ((s.disagree p d).headD 0) (uUid d), more.length + 1]).odAdd odStepMismatchCount 1).endCommit p
          csStepMismatch ⟨0, stackMap (s.disagree p d) + uUid d * 65536, 0, 0⟩) := by
  have hstacks := gate_stacksThere hlost
  change execGateCheck p s = _
  unfold execGateCheck
  rw [hm]
  dsimp only
  rw [if_neg (not_not.mpr hphase), if_neg hstacks, hfirst]

variable (hw : s.wf = true)

include hw

/-- Every counter agrees: the gate opens (R275). -/
theorem exec_gateCheck_opens (hagree : ∀ d ∈ m.descs, s.disagree p d = []) :
    ∃ t n, exec (.gateCheck p) s = .next t ∧ s.sameMem t ∧ (t.part p).commit = some n ∧ n.phase = .apply ∧
      n.shards = m.shards ∧ ∀ q stack uid, t.updCtr q stack uid = s.updCtr q stack uid := by
  have hnone : (m.descs.filter fun d => !(s.disagree p d).isEmpty) = [] := by
    rw [List.filter_eq_nil_iff]
    intro d hd
    simp [hagree d hd]
  have hexec := exec_gateCheck_none hm hphase hlost hnone
  obtain ⟨hmem, hctr, n, hn, happly, hshards⟩ := State.gateOpen_keeps hw hm
  exact ⟨_, n, hexec, hmem, hn, happly, hshards, hctr⟩

/-- One counter differs: the commit ends with no counter and no byte changed, and the mismatch is counted (R276). -/
theorem exec_gateCheck_shuts (hdiffers : ∃ d ∈ m.descs, s.disagree p d ≠ []) :
    ∃ t, exec (.gateCheck p) s = .next t ∧ s.sameMem t ∧ t.upd = s.upd ∧ (t.part p).commit = none ∧
      t.od odStepMismatchCount = (s.od odStepMismatchCount + 1) % 2 ^ 64 := by
  obtain ⟨d, more, hfilter⟩ : ∃ d more, (m.descs.filter fun d => !(s.disagree p d).isEmpty) = d :: more := by
    rw [← List.ne_nil_iff_exists_cons, Ne, List.filter_eq_nil_iff]
    obtain ⟨d, hd, hne⟩ := hdiffers
    exact fun hall => hall d hd (by simp [hne])
  have hexec := exec_gateCheck_first hm hphase hlost hfilter
  have hlog := State.logEv_logs s 0x6003 unModule (some p) noLunit [uUid d, uExpect d, stackMap (s.disagree p d),
    s.updCtr p ((s.disagree p d).headD 0) (uUid d), more.length + 1]
  generalize s.logEv _ _ _ _ _ = u at *
  have hwLog : u.wf = true := hlog.keeps.wf hw
  have hwCount : (u.odAdd odStepMismatchCount 1).wf = true := (State.odAdd_keeps u _ _ (Keeps.refl u)).wf hwLog
  have hmCount : ((u.odAdd odStepMismatchCount 1).part p).commit = some m := by
    change (u.part p).commit = some m
    rw [hlog.frame.part, hm]
  obtain ⟨hmem, hupd, hoff, hquiet⟩ := State.endCommit_ends hwCount hmCount csStepMismatch
    ⟨0, stackMap (s.disagree p d) + uUid d * 65536, 0, 0⟩
  obtain ⟨-, hsame⟩ := hquiet (State.wf_dict hwCount)
  obtain ⟨-, hcount⟩ := hlog.quiet (State.wf_dict hw)
  refine ⟨_, hexec, State.sameMem_trans (t := u) hlog.frame.sameMem hmem, hupd.trans hlog.frame.upd, hoff, ?_⟩
  rw [hsame _ (by decide), State.odAdd, State.od_odSet_same (State.wf_dict hwLog), hcount _ (by decide)]

end

/-- Settles O40: what passes its checks stands at the gate, which opens for all engines or ends the commit. -/
theorem commitsPassTheGate : Obligations.CommitsPassTheGate := by
  intro s hw
  refine ⟨fun ring idx c hc => ⟨exec_stepCommit_behind hc, fun hcommit hst hstep hlist hroom hruns => ?_,
    fun hcommit hst hstep hlist hroom hruns => ?_, fun hcommit hst hlist => ?_, fun hcommit hst hstep hrule => ?_⟩,
    fun p m hm hphase hlost => ⟨exec_gateCheck_opens hm hphase hlost hw, exec_gateCheck_shuts hm hphase hlost hw⟩⟩
  · rw [exec_stepCommit_passes hc hcommit hst hstep hlist hroom, if_pos hruns]
  · refine ⟨_, s.gateCommit ring idx c, (exec_stepCommit_passes hc hcommit hst hstep hlist hroom).trans
      (if_neg (Bool.eq_false_iff.mp hruns)), ⟨rfl, rfl, rfl, rfl, rfl, rfl⟩, rfl, ?_, rfl, rfl, rfl, ?_⟩
    · rw [State.part_atGate hw]
    · rw [State.part_atGate hw]
  · exact ⟨_, exec_stepCommit_halted hc hcommit hst hlist, State.complete_ends s c _ _⟩
  · exact ⟨_, exec_stepCommit_otherStep hc hcommit hst hstep hrule, State.complete_ends s c _ _⟩

end Sys2Proof.Machine
end

section
/-! PROOFS. The apply phase of a commit and its end: what a group writes, the step counter of a shard that has ended, and what
a commit whose shards are done leaves (R257, R277, R279, R281, R284, R324, R528). -/

namespace Sys2Proof.Machine

open Sys2Proof

/-! ### The bytes of a group (R279) -/

/-- HBM, its marks and registers of the dictionary have changed, but no byte outside some values of a group. -/
structure State.OutsPut (s : State) (p : Part) (outs : List UpdOut) (t : State) : Prop where
  hbm : mwf zB s.hbm = true → mwf zB t.hbm = true
  frame : t = { s with hbm := t.hbm, hbmPoison := t.hbmPoison, hbmOvf := t.hbmOvf, dict := t.dict }
  outside : mwf zB s.hbm = true → ∀ a, (∀ o ∈ outs, a < p.hbmAt o.a ∨ p.hbmAt o.a + o.w ≤ a) →
    mget zB t.hbm a = mget zB s.hbm a

namespace State.OutsPut

variable {s t u : State} {p : Part} {outs : List UpdOut}

theorem refl (s : State) (p : Part) (outs : List UpdOut) : State.OutsPut s p outs s := ⟨id, rfl, fun _ _ _ => rfl⟩

theorem trans (h : State.OutsPut s p outs t) (k : State.OutsPut t p outs u) : State.OutsPut s p outs u where
  hbm hs := k.hbm (h.hbm hs)
  frame := by
    have hframe := k.frame
    rw [h.frame] at hframe
    exact hframe
  outside hs a ha := (k.outside (h.hbm hs) a ha).trans (h.outside hs a ha)

theorem cmem (h : State.OutsPut s p outs t) : t.cmem = s.cmem := by rw [h.frame]
theorem cores (h : State.OutsPut s p outs t) : t.cores = s.cores := by rw [h.frame]
theorem upd (h : State.OutsPut s p outs t) : t.upd = s.upd := by rw [h.frame]

/-- One of the values is written, if its controller is in reach (R251). -/
theorem updPut (s vw : State) (p : Part) {o : UpdOut} (ho : o ∈ outs) (whole bad : Bool) :
    State.OutsPut s p outs (s.updPut vw p o whole bad) := by
  unfold State.updPut
  extract_lets key
  split
  · exact .refl s p outs
  · refine ⟨msetRange_wf key _, rfl, fun hs a ha => mget_msetRange_other _ hs ?_⟩
    rw [length_leBytes]
    exact ha o ho

theorem foldl {f : State → UpdOut → State} (hf : ∀ s, ∀ o ∈ outs, State.OutsPut s p outs (f s o)) :
    ∀ (l : List UpdOut), (∀ o ∈ l, o ∈ outs) → ∀ s, State.OutsPut s p outs (l.foldl f s)
  | [], _, s => .refl s p outs
  | o :: l, hl, s => (hf s o (hl o List.mem_cons_self)).trans
      (foldl hf l (fun x hx => hl x (List.mem_cons_of_mem o hx)) (f s o))

end State.OutsPut

/-- A group writes its values, and counts what its engine cannot reach (R232, R279). -/
theorem State.updWrite_outs (s vw : State) (p : Part) (outs : List UpdOut) : State.OutsPut s p outs (s.updWrite vw p outs) := by
  unfold State.updWrite
  extract_lets t lost
  have ht : State.OutsPut s p outs t :=
    State.OutsPut.foldl (fun u o ho => State.OutsPut.updPut u vw p ho _ _) outs (fun _ ho => ho) s
  exact ht.trans ⟨id, rfl, fun _ _ _ => rfl⟩

/-! ### What a group leaves (R277, R279) -/

/-- HBM, CMEM and the cores. -/
def State.bytes (s : State) : SMap Byte × SMap Byte × SMap Core := (s.hbm, s.cmem, s.cores)

/-- The bytes, and the update table. -/
def State.works (s : State) : (SMap Byte × SMap Byte × SMap Core) × List UpdEntry := (s.bytes, s.upd)

theorem State.works_bytes {s t : State} (h : t.works = s.works) : t.bytes = s.bytes := congrArg (·.1) h
theorem State.works_upd {s t : State} (h : t.works = s.works) : t.upd = s.upd := congrArg (·.2) h
theorem State.bytes_hbm {s t : State} (h : t.bytes = s.bytes) : t.hbm = s.hbm := congrArg (·.1) h
theorem State.bytes_cmem {s t : State} (h : t.bytes = s.bytes) : t.cmem = s.cmem := congrArg (·.2.1) h
theorem State.bytes_cores {s t : State} (h : t.bytes = s.bytes) : t.cores = s.cores := congrArg (·.2.2) h

theorem State.LogFrame.works {s t : State} (h : State.LogFrame s t) : t.works = s.works := by
  unfold State.LogFrame at h
  rw [h]
  rfl

theorem State.updSet_bytes (s : State) (p stack uid ctr : Nat) : (s.updSet p stack uid ctr).bytes = s.bytes :=
  congrArg (·.1) (State.updSet_frame s p stack uid ctr).works

theorem State.commitSr_works (s : State) (p : Nat) : (s.commitSr p).works = s.works := by
  unfold State.commitSr
  split <;> rfl

/-- The events of a stale block change no byte and no counter (R288). -/
theorem State.staleEvents_works (s vw : State) (p : Nat) (d : BitVec 1024) (k blk : Nat) :
    (s.staleEvents vw p d k blk).works = s.works := by
  unfold State.staleEvents
  extract_lets key
  split
  extract_lets t u
  have ht : t.works = s.works := rfl
  have hu : u.works = t.works := by
    unfold u
    split <;> rfl
  clear_value t u
  split
  · exact hu.trans ht
  split
  · exact (State.logEv_frame _ _ _ _ _ _).works.trans (hu.trans ht)
  · exact hu.trans ht

/-- What a group has written: its bytes at most, and the step counter of a shard that has ended its last phase. -/
structure State.GroupApplied (s : State) (p : Nat) (h : ShardSt) (d : BitVec 1024) (g : Group) (t : State) : Prop where
  cmem : t.cmem = s.cmem
  cores : t.cores = s.cores
  outside : ∀ a, (∀ o ∈ g.outs, a < (s.part p).hbmAt o.a ∨ (s.part p).hbmAt o.a + o.w ≤ a) →
    mget zB t.hbm a = mget zB s.hbm a
  ends : g.ended = true → uPhases (uRule d) ≤ h.phase + 1 →
    t.updCtr p h.stack (uUid d) = if uRule d = 6 then uExpect d % 2 ^ 32 else (uExpect d + 1) % 2 ^ 32
  goes : g.ended = false ∨ h.phase + 1 < uPhases (uRule d) → t.upd = s.upd

theorem State.updCtr_congr {s t : State} (h : t.upd = s.upd) (p stack uid : Nat) :
    t.updCtr p stack uid = s.updCtr p stack uid := by
  rw [State.updCtr_eq, State.updCtr_eq, h]

theorem State.applyGroup_applied {s : State} (hw : s.wf = true) (p : Nat) (m : Commit) (h : ShardSt) :
    State.GroupApplied s p h (m.descs.getD h.desc 0)
      ((s.seenBy (s.directStacks h.stack (uRule (m.descs.getD h.desc 0)))).nextOuts p (s.part p).job.seed.toNat m h)
      (s.applyGroup p m h) := by
  unfold State.applyGroup
  extract_lets d vw g last h' s1 s1' s2 s3
  have hs1 : s1.works = s.works := by
    unfold s1
    split
    · exact State.staleEvents_works _ _ _ _ _ _
    · rfl
  have hs1' : s1'.works = s1.works := by
    unfold s1'
    split <;> rfl
  have hput := State.updWrite_outs s1' vw (s.part p) g.outs
  have hs2 : s2.works = (s1'.updWrite vw (s.part p) g.outs).works := rfl
  have hlast : last = true ↔ g.ended = true ∧ uPhases (uRule d) ≤ h.phase + 1 := by simp [last]
  have hend : (s3.commitSr p).works = s3.works := State.commitSr_works s3 p
  have hends : last = true → s3 = s2.updSet p h.stack (uUid d) (if uRule d = 6 then uExpect d else (uExpect d + 1) % 2 ^ 32) :=
    fun hset => if_pos hset
  have hgoes : last = false → s3 = s2 := fun hclear => if_neg (Bool.eq_false_iff.mp hclear)
  change State.GroupApplied s p h d g (s3.commitSr p)
  clear_value s1 s1' s2 s3 d g last
  generalize s1'.updWrite vw (s.part p) g.outs = w at hput hs2
  generalize s3.commitSr p = t at hend
  have hstart : s1'.works = s.works := hs1'.trans hs1
  have hs3 : s3.bytes = s2.bytes := by
    cases hset : last with
    | true => rw [hends hset, State.updSet_bytes]
    | false => rw [hgoes hset]
  have ht : t.bytes = w.bytes := (State.works_bytes hend).trans (hs3.trans (State.works_bytes hs2))
  have hbegin : s1'.hbm = s.hbm := State.bytes_hbm (State.works_bytes hstart)
  obtain ⟨hbm, -⟩ := State.wf_iff.mp hw
  refine ⟨(State.bytes_cmem ht).trans ?_, (State.bytes_cores ht).trans ?_, fun a ha => ?_, fun hended hphase => ?_,
    fun hmore => ?_⟩
  · exact hput.cmem.trans (State.bytes_cmem (State.works_bytes hstart))
  · exact hput.cores.trans (State.bytes_cores (State.works_bytes hstart))
  · rw [State.bytes_hbm ht, hput.outside (by rw [hbegin]; exact hbm) a ha, hbegin]
  · rw [State.updCtr_congr (State.works_upd hend), hends (hlast.mpr ⟨hended, hphase⟩), State.updCtr_updSet,
      if_pos ⟨rfl, rfl, rfl⟩]
    split
    · rfl
    · rw [Nat.mod_mod]
  · have hclear : last = false := by
      rw [Bool.eq_false_iff, Ne, hlast]
      rintro ⟨hended, hphase⟩
      rcases hmore with hnot | hlater
      · rw [hended] at hnot
        cases hnot
      · omega
    rw [State.works_upd hend, hgoes hclear, State.works_upd hs2, hput.upd, State.works_upd hstart]

/-! ### UPDATE_GROUP_APPLY (R257, R279, R528) -/

section

variable {s : State} {p : Nat} {m : Commit} (hm : (s.part p).commit = some m)

include hm

theorem exec_updateGroupApply_gate (hphase : m.phase = .gate) (g : GroupFind) : exec (.updateGroupApply p g) s = .next s := by
  change execUpdateGroupApply p g s = _
  unfold execUpdateGroupApply
  rw [hm]
  exact if_pos (by rw [hphase]; decide)

variable (hphase : m.phase = .apply) {k : Nat} {h : ShardSt}
  (hready : m.shards.find? (fun h => h.stack == k && s.shardReady m h) = some h)

include hphase hready

omit hm hphase in
/-- The engine of a stack works on a shard of it. -/
theorem stack_of_ready : h.stack = k := by
  have hfound := List.find?_some hready
  rw [Bool.and_eq_true, beq_iff_eq] at hfound
  exact hfound.1

/-- A memory-side unit writes its group (R260). -/
theorem exec_updateGroupApply_muu (hfor : s.upcFor k (uRule (m.descs.getD h.desc 0)) = none) (found : Finding) :
    exec (.updateGroupApply p ⟨k, found⟩) s = .next (s.applyGroup p m h) := by
  rw [← stack_of_ready hready] at hfor
  change execUpdateGroupApply p ⟨k, found⟩ s = _
  unfold execUpdateGroupApply
  rw [hm]
  dsimp only
  rw [if_neg (not_not.mpr hphase), hready]
  dsimp only
  rw [hfor]

/-- A run that occupies an update chiplet keeps it, and else its SRAM may discard the group (R257, R528). -/
theorem exec_updateGroupApply_upc {u : Nat} (hfor : s.upcFor k (uRule (m.descs.getD h.desc 0)) = some u) (found : Finding) :
    exec (.updateGroupApply p ⟨k, found⟩) s =
      if s.upcInRun u then .next s
      else .next (if (s.sramFind u found).2 then (s.sramFind u found).1 else (s.sramFind u found).1.applyGroup p m h) := by
  rw [← stack_of_ready hready] at hfor
  change execUpdateGroupApply p ⟨k, found⟩ s = _
  unfold execUpdateGroupApply
  rw [hm]
  dsimp only
  rw [if_neg (not_not.mpr hphase), hready]
  dsimp only
  rw [hfor]

/-- A group whose working data are sound is written. -/
theorem exec_updateGroupApply_ok (hfree : ∀ u, s.upcFor k (uRule (m.descs.getD h.desc 0)) = some u → s.upcInRun u = false) :
    exec (.updateGroupApply p ⟨k, .ok⟩) s = .next (s.applyGroup p m h) := by
  cases hfor : s.upcFor k (uRule (m.descs.getD h.desc 0)) with
  | none => exact exec_updateGroupApply_muu hm hphase hready hfor .ok
  | some u =>
    exact (exec_updateGroupApply_upc hm hphase hready hfor .ok).trans (if_neg (Bool.eq_false_iff.mp (hfree u hfor)))

end

/-! ### The end of a commit (R281, R284, R324) -/

/-- Events are logged and counters of a commit grow, but not the count of commits. -/
structure State.Notes (s t : State) : Prop where
  keeps : Keeps s t
  frame : State.LogFrame s t
  leaves : State.LeavesOd (· = odCommitCount) s t

namespace State.Notes

variable {s t u : State}

theorem refl (s : State) : State.Notes s s := ⟨Keeps.refl s, rfl, .refl _ s⟩

theorem trans (h : State.Notes s t) (k : State.Notes t u) : State.Notes s u :=
  ⟨h.keeps.trans k.keeps, h.frame.trans k.frame, h.leaves.trans k.leaves⟩

theorem foldl {β : Type} {f : State → β → State} (hf : ∀ s b, State.Notes s (f s b)) (l : List β) :
    ∀ s, State.Notes s (l.foldl f s) := by
  induction l with
  | nil => exact fun s => refl s
  | cons b l ih => exact fun s => (hf s b).trans (ih (f s b))

theorem logEv (s : State) (code : Nat) (un : UnitId) (part : Option Nat) (lunit : Nat) (payload : List Nat) :
    State.Notes s (s.logEv code un part lunit payload) := by
  have hlog := State.logEv_logs s code un part lunit payload
  exact ⟨hlog.keeps, hlog.frame, hlog.quiet.leavesOd fun k hk => by rw [hk]; decide⟩

theorem odAdd (s : State) {j : Nat} (hj : j ≠ odCommitCount) (n : Nat) : State.Notes s (s.odAdd j n) :=
  ⟨State.odAdd_keeps s j n (Keeps.refl s), rfl, .odSet (K := (· = odCommitCount)) s hj _⟩

end State.Notes

/-- The events of a commit that has applied (R281, R282, R288). -/
theorem State.commitEvents_notes (s : State) (p : Nat) (c : Commit) : State.Notes s (s.commitEvents p c) := by
  unfold State.commitEvents
  extract_lets t
  have ht : State.Notes s t := by
    refine State.Notes.foldl (fun u dk => ?_) _ s
    extract_lets bad v
    have hv : State.Notes u v := by
      unfold v
      split
      · exact .refl u
      · exact (State.Notes.odAdd u (by decide) bad).trans (.logEv _ _ _ _ _ _)
    split
    · exact hv
    · exact hv.trans (.logEv _ _ _ _ _ _)
  clear_value t
  refine ht.trans (State.Notes.foldl (fun u k => ?_) _ t)
  exact State.Notes.foldl (fun v l => .logEv v _ _ _ _ _) _ u

/-- A commit without poison, failed roots and lost stacks logs nothing. -/
theorem State.commitEvents_none (s : State) (p : Nat) {c : Commit} (htorn : c.torn = []) (hpoison : c.poisoned = [])
    (hstale : c.stale = []) : s.commitEvents p c = s := by
  unfold State.commitEvents
  rw [htorn, hpoison, hstale]
  exact foldl_keeps id (fun _ _ => rfl) c.descs.zipIdx s

/-- A commit that has applied is logged and counted (R281, R297). -/
def State.commitNoted (s : State) (p : Nat) (c : Commit) : State := (s.commitEvents p c).odAdd odCommitCount 1

theorem State.commitNoted_counts {s : State} (hw : s.wf = true) (p : Nat) (c : Commit) :
    Keeps s (s.commitNoted p c) ∧ State.LogFrame s (s.commitNoted p c) ∧
      (s.commitNoted p c).od odCommitCount = (s.od odCommitCount + 1) % 2 ^ 64 := by
  have hnotes := State.commitEvents_notes s p c
  obtain ⟨hdict, hsame⟩ := hnotes.leaves (State.wf_dict hw)
  refine ⟨State.odAdd_keeps _ _ _ hnotes.keeps, hnotes.frame.trans rfl, ?_⟩
  rw [State.commitNoted, State.odAdd, State.od_odSet_same hdict, hsame _ rfl]

section

variable {s : State} {p : Nat} {m : Commit} (hm : (s.part p).commit = some m)

include hm

theorem exec_commitComplete_applies (hdone : m.done = false) :
    exec (.commitComplete p) s = .next s ∧ exec (.commitAfterReset p) s = .next s := by
  constructor
  · change execCommitComplete p s = _
    unfold execCommitComplete
    rw [hm]
    exact if_pos (by simp [hdone])
  · change execCommitAfterReset p s = _
    unfold execCommitAfterReset
    rw [hm]
    exact if_pos (by simp [hdone])

/-- A commit whose shards are done ends with a status, CS_OK unless it is torn (R277, R281). -/
theorem exec_commitComplete_done (hdone : m.done = true) (hreset : m.afterReset = false) : exec (.commitComplete p) s =
    if m.torn.isEmpty then .next ((s.commitNoted p m).endCommit p csOk noRes)
    else .next ((s.commitNoted p m).endCommit p csStepLost ⟨rsStackLost, 0, 0, 0⟩) := by
  change execCommitComplete p s = _
  unfold execCommitComplete
  rw [hm]
  exact if_neg (by simp [hdone, hreset])

theorem exec_commitAfterReset_done (hdone : m.done = true) (hreset : m.afterReset = true)
    (hover : (s.part p).resetAt = none) : ∃ status, exec (.commitAfterReset p) s =
      .next (((s.commitNoted p m).logEv 0x6009 unModule (some p) noLunit [status]).endCommit p status noRes) := by
  refine ⟨if m.torn.isEmpty then csOk else csStepLost, ?_⟩
  change execCommitAfterReset p s = _
  unfold execCommitAfterReset
  rw [hm]
  exact if_neg (by simp [hdone, hreset, hover])

variable (hw : s.wf = true)

include hw

theorem State.commitNoted_ends (status : Nat) (res : Results) :
    s.sameMem ((s.commitNoted p m).endCommit p status res) ∧
      (((s.commitNoted p m).endCommit p status res).part p).commit = none ∧
      ((s.commitNoted p m).endCommit p status res).od odCommitCount = (s.od odCommitCount + 1) % 2 ^ 64 := by
  obtain ⟨hkeeps, hframe, hcount⟩ := State.commitNoted_counts hw p m
  have hpart := (congrArg Part.commit (hframe.part p)).trans hm
  obtain ⟨hmem, -, hoff, hquiet⟩ := State.endCommit_ends (hkeeps.wf hw) hpart status res
  obtain ⟨-, hsame⟩ := hquiet (State.wf_dict (hkeeps.wf hw))
  exact ⟨State.sameMem_trans hframe.sameMem hmem, hoff, (hsame _ (by decide)).trans hcount⟩

theorem exec_commitComplete_ends (hdone : m.done = true) (hreset : m.afterReset = false) :
    ∃ t, exec (.commitComplete p) s = .next t ∧ s.sameMem t ∧ (t.part p).commit = none := by
  rw [exec_commitComplete_done hm hdone hreset]
  split
  · obtain ⟨hmem, hoff, -⟩ := State.commitNoted_ends hm hw csOk noRes
    exact ⟨_, rfl, hmem, hoff⟩
  · obtain ⟨hmem, hoff, -⟩ := State.commitNoted_ends hm hw csStepLost ⟨rsStackLost, 0, 0, 0⟩
    exact ⟨_, rfl, hmem, hoff⟩

/-- A job that waited for its commit is LOADED again, unless the list was a RESYNC, and the command completes (R324). -/
theorem exec_commitComplete_ok (hdone : m.done = true) (hreset : m.afterReset = false) (htorn : m.torn = [])
    (hpoison : m.poisoned = []) (hstale : m.stale = []) (hst : (s.part p).job.st = .stepPending) {c : RingCmd}
    (hc : s.cmd m.ring m.idx = some c) :
    ∃ t, exec (.commitComplete p) s = .next t ∧ s.sameMem t ∧ (t.part p).commit = none ∧
      (t.part p).job.st = (if m.descs.all (fun d => uRule d == 6) then .stepPending else .loaded) ∧
      t.od odCommitCount = (s.od odCommitCount + 1) % 2 ^ 64 ∧ Completes s t c csOk := by
  have hnoted : s.commitNoted p m = s.odAdd odCommitCount 1 := by
    rw [State.commitNoted, State.commitEvents_none s p htorn hpoison hstale]
  obtain ⟨hmem, hoff, hcount⟩ := State.commitNoted_ends hm hw csOk noRes
  have hexec := (exec_commitComplete_done hm hdone hreset).trans (if_pos (by rw [htorn]; rfl))
  rw [hnoted] at hmem hoff hcount hexec
  have hwNoted : (s.odAdd odCommitCount 1).wf = true := (State.odAdd_keeps s _ _ (Keeps.refl s)).wf hw
  obtain ⟨-, hjob⟩ := State.part_commitOff (p := p) (c := m) hwNoted csOk
  have hsends : State.Sends s ((s.odAdd odCommitCount 1).commitOff p csOk m) :=
    (State.odSet_sends s _ _).trans (State.commitOff_sends (s.odAdd odCommitCount 1) p csOk m)
  have hends := State.endCommit_completes (s := s.odAdd odCommitCount 1) hm hreset hc csOk noRes
  refine ⟨_, hexec, hmem, hoff, ?_, hcount, ?_⟩
  · rw [hends, (State.complete_frame _ c csOk noRes).part]
    exact hjob hst rfl
  · rw [hends]
    exact hsends.complete hw c csOk noRes

/-- After a reset only the logs hear of a commit (R284). -/
theorem exec_commitAfterReset_ends (hdone : m.done = true) (hreset : m.afterReset = true)
    (hover : (s.part p).resetAt = none) :
    ∃ t, exec (.commitAfterReset p) s = .next t ∧ s.sameMem t ∧ (t.part p).commit = none ∧
      t.od odCommitCount = (s.od odCommitCount + 1) % 2 ^ 64 := by
  obtain ⟨status, hexec⟩ := exec_commitAfterReset_done hm hdone hreset hover
  obtain ⟨hkeeps, hframe, hcount⟩ := State.commitNoted_counts hw p m
  have hwNoted := hkeeps.wf hw
  generalize s.commitNoted p m = u at *
  have hlog := State.logEv_logs u 0x6009 unModule (some p) noLunit [status]
  generalize u.logEv _ _ _ _ _ = v at *
  have hpart := (congrArg Part.commit ((hframe.trans hlog.frame).part p)).trans hm
  obtain ⟨hmem, -, hoff, hquiet⟩ := State.endCommit_ends (hlog.keeps.wf hwNoted) hpart status noRes
  obtain ⟨-, hsame⟩ := (hlog.quiet.trans hquiet) (State.wf_dict hwNoted)
  exact ⟨_, hexec, State.sameMem_trans (hframe.trans hlog.frame).sameMem hmem, hoff, (hsame _ (by decide)).trans hcount⟩

end

/-- Settles O41: a group is written with its marker and counter, and a commit whose shards are done ends. -/
theorem commitsApplyAndEnd : Obligations.CommitsApplyAndEnd := by
  intro s p m hw hm
  refine ⟨fun hphase k found => exec_updateGroupApply_gate hm hphase ⟨k, found⟩,
    fun hphase k h hready => ⟨?_, fun hfree => ⟨?_, ?_, ?_⟩⟩,
    exec_commitComplete_applies hm, exec_commitComplete_ends hm hw,
    fun hdone hreset htorn hpoison hstale hst c hc => exec_commitComplete_ok hm hw hdone hreset htorn hpoison hstale hst hc,
    exec_commitAfterReset_ends hm hw⟩
  · rintro ⟨u, hfor, hrun⟩ found
    exact (exec_updateGroupApply_upc hm hphase hready hfor found).trans (if_pos hrun)
  · intro u hfor
    have hexec := fun found => (exec_updateGroupApply_upc hm hphase hready hfor found).trans
      (if_neg (Bool.eq_false_iff.mp (hfree u hfor)))
    exact ⟨hexec .bit, hexec .uncorrectable⟩
  · exact exec_updateGroupApply_ok hm hphase hready hfree
  · obtain rfl := stack_of_ready hready
    have hgroup := State.applyGroup_applied hw p m h
    exact ⟨_, exec_updateGroupApply_ok hm hphase hready hfree, hgroup.cmem, hgroup.cores, hgroup.outside, hgroup.ends,
      hgroup.goes⟩

end Sys2Proof.Machine
end

section
/-! PROOFS. Update chiplets and weight digests: drains, faults and returns of a chiplet, and digests that start, wait and complete
(R257, R291 to R297, R528). -/

namespace Sys2Proof.Machine

open Sys2Proof

/-! ### The registers of the update chiplets (R297) -/

/-- The states of the eight update chiplets. -/
def upcStateKey (k : Nat) : Prop := ∃ u, u < 8 ∧ k = odAt odUpcState u

theorem upcStateKey_at {u : Nat} (hu : u < 8) : upcStateKey (odAt odUpcState u) := ⟨u, hu, rfl⟩

/-- No register of the update chiplets is one of the noisy ones. -/
theorem noisyKey_upc {k : Nat} (hlo : 0x480000 ≤ k) (hhi : k < 0x490000) : noisyKey k = false := by
  simp [noisyKey, odEarlyEventsLost, odMeshUnreachDropCount, odMeshRetryCount, odMeshDarkDropCount, odMeshResetDropCount,
    odStudbookCount, odClustersOffered, odSparesUsable, odReplaceFlag, odMbDropCount, odStepLostCount, odLinkDropAgeCount]
  omega

theorem noisyKey_upcState {k : Nat} (hk : upcStateKey k) : noisyKey k = false := by
  obtain ⟨u, hu, rfl⟩ := hk
  exact noisyKey_upc (by unfold odAt odUpcState; omega) (by unfold odAt odUpcState; omega)

/-- The single registers before those of the chiplets are no state of a chiplet. -/
theorem not_upcStateKey {k : Nat} (hk : k < 0x481000) : ¬ upcStateKey k := by
  rintro ⟨u, -, rfl⟩
  unfold odAt odUpcState at hk
  omega

/-- The stand-ins and the memory-side units are no states either. -/
theorem standIn_not_upcStateKey (u : Nat) : ¬ upcStateKey (odAt odStandIn u) := by
  rintro ⟨v, -, h⟩
  unfold odAt odStandIn odUpcState at h
  omega

theorem muuActive_not_upcStateKey (k : Nat) : ¬ upcStateKey (odAt odMuuActive k) := by
  rintro ⟨v, hv, h⟩
  unfold odAt odMuuActive odUpcState at h
  omega

section

variable {s t u : State} {K : Nat → Prop}

/-- The memories stay, and of the dictionary the registers of a set. -/
def State.CalmOn (K : Nat → Prop) (s t : State) : Prop := s.sameMem t ∧ State.LeavesOd K s t

theorem State.CalmOn.leaves (h : State.CalmOn K s t) : State.LeavesOd K s t := h.2

theorem State.CalmOn.refl (K : Nat → Prop) (s : State) : State.CalmOn K s s :=
  ⟨⟨rfl, rfl, rfl, rfl, rfl, rfl⟩, .refl K s⟩

theorem State.CalmOn.trans (h : State.CalmOn K s t) (k : State.CalmOn K t u) : State.CalmOn K s u := by
  obtain ⟨hmem, hod⟩ := h
  obtain ⟨kmem, kod⟩ := k
  exact ⟨State.sameMem_trans hmem kmem, hod.trans kod⟩

theorem State.CalmOn.foldl {β : Type} {f : State → β → State} (hf : ∀ s b, State.CalmOn K s (f s b)) (l : List β) :
    ∀ s, State.CalmOn K s (l.foldl f s) := by
  induction l with
  | nil => exact fun s => .refl K s
  | cons b l ih => exact fun s => (hf s b).trans (ih (f s b))

theorem State.Calm.on (h : State.Calm s t) (hK : ∀ k, K k → noisyKey k = false) : State.CalmOn K s t := by
  obtain ⟨hmem, hquiet⟩ := h
  exact ⟨hmem, hquiet.leavesOd hK⟩

theorem State.CalmOn.odSet (s : State) {j : Nat} (hj : ¬ K j) (v : Nat) : State.CalmOn K s (s.odSet j v) :=
  ⟨⟨rfl, rfl, rfl, rfl, rfl, rfl⟩, .odSet s hj v⟩

theorem State.CalmOn.odAdd (s : State) {j : Nat} (hj : ¬ K j) (n : Nat) : State.CalmOn K s (s.odAdd j n) := .odSet s hj _

theorem State.modCommit_calm (s : State) (p : Nat) (f : Commit → Commit) : State.Calm s (s.modCommit p f) :=
  .of_val ⟨rfl, rfl, rfl, rfl, rfl, rfl⟩ rfl

end

/-! ### What the registers show of the states (R297) -/

/-- The registers that show the state of a chiplet. -/
def State.showUpc (s : State) (u : Nat) : State :=
  let out := s.od (odAt odUpcState u) == 1
  let s := s.odPutBit odUpcDrained u out
  let s := s.odSet (odAt odStandIn u) (if out then (s.standIn u).getD 255 else 255)
  let m := if out then 1 else 0
  (s.odSet (odAt odMuuActive (2 * u)) m).odSet (odAt odMuuActive (2 * u + 1)) m

section

variable {s : State}

theorem State.showUpc_states (s : State) (u : Nat) : State.CalmOn upcStateKey s (s.showUpc u) := by
  unfold State.showUpc
  extract_lets out a b m
  have ha : State.CalmOn upcStateKey s a := .odSet s (not_upcStateKey (by decide)) _
  have hb : State.CalmOn upcStateKey a b := .odSet a (standIn_not_upcStateKey u) _
  exact (ha.trans hb).trans (State.CalmOn.trans (.odSet b (muuActive_not_upcStateKey (2 * u)) m)
    (.odSet _ (muuActive_not_upcStateKey (2 * u + 1)) m))

theorem State.showUpc_drained (hd : mwf odDefault s.dict.val = true) (u j : Nat) : (s.showUpc u).odBit odUpcDrained j =
    if j = u then s.od (odAt odUpcState u) == 1 else s.odBit odUpcDrained j := by
  have hput := State.odBit_odPutBit hd odUpcDrained u (s.od (odAt odUpcState u) == 1) j
  have hwf := State.odPutBit_dictWf hd odUpcDrained u (s.od (odAt odUpcState u) == 1)
  unfold State.showUpc
  extract_lets out a b m
  have hb : State.LeavesOd (· = odUpcDrained) a b := .odSet a (by unfold odAt odStandIn odUpcDrained; omega) _
  have hshow : State.LeavesOd (· = odUpcDrained) a
      ((b.odSet (odAt odMuuActive (2 * u)) m).odSet (odAt odMuuActive (2 * u + 1)) m) :=
    hb.trans (State.LeavesOd.trans (.odSet b (by unfold odAt odMuuActive odUpcDrained; omega) m)
      (.odSet _ (by unfold odAt odMuuActive odUpcDrained; omega) m))
  obtain ⟨-, hsame⟩ := hshow hwf
  rw [← hput, State.odBit, State.odBit, hsame _ rfl]

theorem State.upcRefresh_states (s : State) : State.CalmOn upcStateKey s s.upcRefresh :=
  State.CalmOn.foldl State.showUpc_states (List.range 8) s

theorem State.upcRefresh_frame (s : State) : State.LogFrame s s.upcRefresh :=
  State.LogFrame.foldl (f := State.showUpc) (fun _ _ => rfl) (List.range 8) s

/-- UPC_DRAINED shows the states (R297). -/
theorem State.upcRefresh_drained (hd : mwf odDefault s.dict.val = true) {u : Nat} (hu : u < 8) :
    s.upcRefresh.odBit odUpcDrained u = (s.od (odAt odUpcState u) == 1) := by
  have hall := foldl_range_induct (f := State.showUpc) (P := fun i t => State.CalmOn upcStateKey s t ∧
    ∀ u < i, t.odBit odUpcDrained u = (s.od (odAt odUpcState u) == 1)) 8 s
    ⟨.refl _ s, fun u hu => absurd hu (Nat.not_lt_zero u)⟩ fun i hi t ⟨hcalm, hbits⟩ => by
      obtain ⟨hwf, hsame⟩ := hcalm.leaves hd
      refine ⟨hcalm.trans (State.showUpc_states t i), fun u hu => ?_⟩
      rw [State.showUpc_drained hwf]
      split
      next hui => rw [hui, hsame _ (upcStateKey_at hi)]
      next hui => exact hbits u (by omega)
  obtain ⟨-, hbits⟩ := hall
  exact hbits u hu

end

/-! ### Drains and faults (R280, R293) -/

/-- A chiplet is drained: its registers say so, and no drain of it waits any more. -/
structure State.Drained (s : State) (u : Nat) (t : State) : Prop where
  mem : s.sameMem t
  state : t.od (odAt odUpcState u) = 1
  bit : t.odBit odUpcDrained u = true
  wait : ∀ y ∈ t.upcWait, y.1 ≠ u

/-- The state and the requests of a chiplet that is drained, before the registers show it. -/
def State.markDrained (s : State) (u : Nat) : State :=
  { (s.odSet (odAt odUpcState u) 1).odPutBit odUpcDrainReq u false with
    upcWait := s.upcWait.filter fun x => x.1 != u, upcPassed := mset zF s.upcPassed u false }

theorem State.drainUpc_eq (s : State) (u cause : Nat) : s.drainUpc u cause =
    ((s.markDrained u).upcRefresh.logEv 0x6001 (unUpc u) none noLunit [Config.drainCause cause]).checkFloors := rfl

theorem State.markDrained_state {s : State} (hd : mwf odDefault s.dict.val = true) (u : Nat) :
    mwf odDefault (s.markDrained u).dict.val = true ∧ (s.markDrained u).od (odAt odUpcState u) = 1 := by
  have hset := State.odSet_dictWf hd (odAt odUpcState u) 1
  refine ⟨State.odPutBit_dictWf hset odUpcDrainReq u false, ?_⟩
  have hother := State.od_odPutBit_other hset (k := odUpcDrainReq) (j := odAt odUpcState u) u false
    (by unfold odAt odUpcState odUpcDrainReq; omega)
  exact hother.trans (State.od_odSet_same hd _ _)

theorem State.LogFrame.upcWait {s t : State} (h : State.LogFrame s t) : t.upcWait = s.upcWait := by
  unfold State.LogFrame at h
  rw [h]

section

variable {s : State} (hw : s.wf = true) {u : Nat} (hu : u < 8)

include hw hu

theorem State.drainUpc_drained (cause : Nat) : State.Drained s u (s.drainUpc u cause) := by
  have hmark : s.sameMem (s.markDrained u) := ⟨rfl, rfl, rfl, rfl, rfl, rfl⟩
  have hwait : ∀ y ∈ (s.markDrained u).upcWait, y.1 ≠ u := fun y hy => by simpa using (List.mem_filter.mp hy).2
  obtain ⟨hwf, hstate⟩ := State.markDrained_state (State.wf_dict hw) u
  rw [State.drainUpc_eq]
  generalize s.markDrained u = a at *
  have hbit := State.upcRefresh_drained hwf hu
  have hshow := State.upcRefresh_frame a
  obtain ⟨-, hleaves⟩ := State.upcRefresh_states a
  obtain ⟨hbwf, hsame⟩ := hleaves hwf
  generalize a.upcRefresh = b at *
  have hlog := State.logEv_logs b 0x6001 (unUpc u) none noLunit [Config.drainCause cause]
  generalize b.logEv _ _ _ _ _ = v at hlog
  have hframe := (hshow.trans hlog.frame).trans (State.checkFloors_frame v)
  obtain ⟨-, hquiet⟩ := (hlog.quiet.trans (State.checkFloors_quiet v)) hbwf
  refine ⟨State.sameMem_trans hmark hframe.sameMem, ?_, ?_, fun y hy => hwait y (hframe.upcWait ▸ hy)⟩
  · rw [hquiet _ (noisyKey_upcState (upcStateKey_at hu)), hsame _ (upcStateKey_at hu), hstate]
  · rw [State.odBit, hquiet _ (noisyKey_upc (by decide) (by decide)), ← State.odBit, hbit, hstate]
    rfl

/-- A drain that was asked for waits for its chiplet to be idle (R293). -/
theorem exec_upcDrain_waiting {x : Nat × Nat} (hwait : s.upcWait.find? (fun x => x.1 == u) = some x) :
    (s.upcBusy u = true → exec (.upcDrain u) s = .next s) ∧
    (s.upcBusy u = false → ∃ t, exec (.upcDrain u) s = .next t ∧ State.Drained s u t) := by
  have hexec : exec (.upcDrain u) s = if s.upcBusy u then .next s else .next (s.drainUpc u x.2) := by
    change execUpcDrain u s = _
    unfold execUpcDrain
    rw [hwait]
  refine ⟨fun hbusy => hexec.trans (if_pos hbusy), fun hidle => ⟨_, hexec.trans (if_neg (Bool.eq_false_iff.mp hidle)),
    State.drainUpc_drained hw hu x.2⟩⟩

end

/-- The commits of a chiplet that stops go on or repeat their gate; no memory and no state of a chiplet changes (R280). -/
theorem State.resumeCommits_calm (s : State) (u : Nat) (hit : List (Nat × List (Nat × Nat))) :
    State.CalmOn upcStateKey s (s.resumeCommits u hit) := by
  have hnoisy : ∀ k, upcStateKey k → noisyKey k = false := fun k hk => noisyKey_upcState hk
  unfold State.resumeCommits
  refine State.CalmOn.foldl (fun v x => ?_) hit s
  split
  · exact .refl _ v
  extract_lets uids
  split
  · exact .refl _ v
  split
  · exact (State.modCommit_calm v _ _).on hnoisy
  · refine State.CalmOn.trans ?_ (State.CalmOn.foldl (fun w l => (State.logEv_logs w _ _ _ _ _).calm.on hnoisy) _ _)
    exact ((State.modCommit_calm v _ _).on hnoisy).trans (.odAdd _ (not_upcStateKey (by decide)) 1)

/-- A studbook record changes the count of records alone (R494). -/
theorem State.studPut_quiet (s : State) (r : StudRec) : State.Quiet s (s.studPut r) := by
  unfold State.studPut
  extract_lets old l a b c
  have hb : State.Quiet s b := State.Quiet.trans (t := a) (.of_val rfl) (State.Quiet.odSet a rfl _)
  have hc : State.Quiet b c := State.logEv_quiet b _ _ _ _ _
  split
  · exact hb
  split
  · exact (hb.trans hc).trans (State.logEv_quiet c _ _ _ _ _)
  · exact hb.trans hc

theorem State.studFail_calm (s : State) (un : UnitId) (source detail : Nat) : State.Calm s (s.studFail un source detail) := by
  refine ⟨(State.studFail_frame s un source detail).sameMem, ?_⟩
  unfold State.studFail
  extract_lets r fails hard
  split
  · exact .refl s
  · exact State.studPut_quiet s _

/-- A chiplet in service that fails is drained at once (R280, R293). -/
theorem exec_upcFault_cases {s : State} (hw : s.wf = true) {u : Nat} (hu : u < 8) :
    (s.odBit odUpcEnabled u = false ∨ s.od (odAt odUpcState u) ≠ 0 → exec (.upcFault u) s = .next s) ∧
    (s.odBit odUpcEnabled u = true → s.od (odAt odUpcState u) = 0 →
      ∃ t, exec (.upcFault u) s = .next t ∧ s.sameMem t ∧ t.od (odAt odUpcState u) = 1) := by
  change (_ → execUpcFault u s = _) ∧ (_ → _ → ∃ t, execUpcFault u s = _ ∧ _)
  unfold execUpcFault
  refine ⟨fun hout => if_pos ?_, fun hen hst => ?_⟩
  · rcases hout with hoff | hst
    · simp [hoff]
    · simp [hst]
  rw [if_neg (by simp [hen, hst, hu])]
  have hdrained := State.drainUpc_drained hw hu 1
  have hwDrained : (s.drainUpc u 1).wf = true := (State.drainUpc_keeps s u 1 (Keeps.refl s)).wf hw
  unfold State.upcStops
  generalize s.drainUpc u 1 = v at *
  have hcleared : State.CalmOn upcStateKey v { v with upcSram := mset (fun _ => []) v.upcSram u [] } :=
    ⟨⟨rfl, rfl, rfl, rfl, rfl, rfl⟩, .of_val rfl⟩
  have hresumed := hcleared.trans (State.resumeCommits_calm _ u (s.upcWork u))
  obtain ⟨hmem, hleaves⟩ := hresumed.trans ((State.studFail_calm _ (unUpc u) 4 0).on fun k hk => noisyKey_upcState hk)
  obtain ⟨-, hsame⟩ := hleaves (State.wf_dict hwDrained)
  exact ⟨_, rfl, State.sameMem_trans hdrained.mem hmem, (hsame _ (upcStateKey_at hu)).trans hdrained.state⟩

/-! ### Returns (R295) -/

/-- A chiplet whose stacks are busy does not return (R295). -/
theorem exec_upcReturn_busy {s : State} {u : Nat} (hbusy : s.stacksBusy u = true) : exec (.upcReturn u) s = .next s := by
  change execUpcReturn u s = _
  unfold execUpcReturn
  exact if_pos (by simp [hbusy])

/-- A drained chiplet that has passed its runs returns when its stacks are idle (R295). -/
theorem exec_upcReturn_idle {s : State} (hw : s.wf = true) {u : Nat} (hu : u < 8) (hst : s.od (odAt odUpcState u) = 1)
    (hen : s.odBit odUpcEnabled u = true) (hpass : mget zF s.upcPassed u = true) (hin : s.unitOut (unUpc u) = false)
    (hidle : s.stacksBusy u = false) :
    ∃ t, exec (.upcReturn u) s = .next t ∧ s.sameMem t ∧ t.od (odAt odUpcState u) = 0 ∧ t.odBit odUpcDrained u = false := by
  have hset := State.odSet_dictWf (State.wf_dict hw) (odAt odUpcState u) 0
  have hzero := State.od_odSet_same (State.wf_dict hw) (odAt odUpcState u) 0
  have hmem : s.sameMem (s.odSet (odAt odUpcState u) 0) := ⟨rfl, rfl, rfl, rfl, rfl, rfl⟩
  change ∃ t, execUpcReturn u s = _ ∧ _
  unfold execUpcReturn
  rw [if_neg (by simp [hst, hen, hpass, hin, hidle])]
  generalize s.odSet (odAt odUpcState u) 0 = v at *
  obtain ⟨hshown, hleaves⟩ := State.upcRefresh_states v
  obtain ⟨hwf, hsame⟩ := hleaves hset
  have hbit := State.upcRefresh_drained hset hu
  generalize v.upcRefresh = r at *
  have hlog := State.logEv_logs { r with upcPassed := mset zF r.upcPassed u false } 0x6002 (unUpc u) none noLunit []
  obtain ⟨-, hquiet⟩ := hlog.quiet hwf
  refine ⟨_, rfl, State.sameMem_trans (State.sameMem_trans hmem hshown) hlog.frame.sameMem, ?_, ?_⟩
  · rw [hquiet _ (noisyKey_upcState (upcStateKey_at hu))]
    exact (hsame _ (upcStateKey_at hu)).trans hzero
  · rw [State.odBit, hquiet _ (noisyKey_upc (by decide) (by decide))]
    exact hbit.trans (by rw [hzero]; rfl)

/-! ### UPC_DRAIN_REQ (R293, R297) -/

/-- A chiplet of the mask that is in service is asked to drain. -/
def State.askUpc (s : State) (mask u : Nat) : State :=
  if mask.testBit u && s.odBit odUpcEnabled u && s.od (odAt odUpcState u) == 0 then
    (s.odPutBit odUpcDrainReq u true).askDrain u 2
  else s

/-- The enables and states of the chiplets. -/
def upcServesKey (k : Nat) : Prop := k = odUpcEnabled ∨ upcStateKey k

/-- A drain of a chiplet is asked for, and waits. -/
def State.drainAsked (s : State) (u : Nat) : Prop := s.odBit odUpcDrainReq u = true ∧ ∃ y ∈ s.upcWait, y.1 = u

section

variable {s : State}

/-- A drain that is asked for waits behind the others, if none of its chiplet waits. -/
theorem State.askDrain_eq (s : State) (u cause : Nat) : s.askDrain u cause = { s with upcWait :=
    if (!(s.odBit odUpcEnabled u && s.od (odAt odUpcState u) == 0) || s.upcWait.any fun x => x.1 == u) = true then s.upcWait
    else s.upcWait ++ [(u, cause)] } := by
  unfold State.askDrain
  split <;> rfl

theorem State.askUpc_calm (s : State) (mask u : Nat) : State.CalmOn upcServesKey s (s.askUpc mask u) := by
  unfold State.askUpc
  split
  · rw [State.askDrain_eq]
    refine State.CalmOn.trans (.odSet s ?_ _) ⟨⟨rfl, rfl, rfl, rfl, rfl, rfl⟩, .of_val rfl⟩
    rintro (h | h)
    · exact absurd h (by decide)
    · exact not_upcStateKey (by decide) h
  · exact .refl _ s

/-- What has been asked for stays asked for. -/
theorem State.askUpc_stays (hd : mwf odDefault s.dict.val = true) (mask u : Nat) {v : Nat} (h : s.drainAsked v) :
    (s.askUpc mask u).drainAsked v := by
  obtain ⟨hbit, y, hy, hyv⟩ := h
  unfold State.askUpc
  split
  · rw [State.askDrain_eq]
    refine ⟨(State.odBit_odPutBit hd odUpcDrainReq u true v).trans ?_, y, ?_, hyv⟩
    · split
      · rfl
      · exact hbit
    · dsimp only
      split
      · exact hy
      · exact List.mem_append_left _ hy
  · exact ⟨hbit, y, hy, hyv⟩

/-- A chiplet of the mask that is in service waits for its drain (R297). -/
theorem State.askUpc_asked (hd : mwf odDefault s.dict.val = true) {mask u : Nat} (hmask : mask.testBit u = true)
    (hen : s.odBit odUpcEnabled u = true) (hst : s.od (odAt odUpcState u) = 0) : (s.askUpc mask u).drainAsked u := by
  have henPut : (s.odPutBit odUpcDrainReq u true).odBit odUpcEnabled u = true := by
    rw [State.odBit, State.od_odPutBit_other hd u true (by decide), ← State.odBit, hen]
  have hstPut : (s.odPutBit odUpcDrainReq u true).od (odAt odUpcState u) = 0 := by
    rw [State.od_odPutBit_other hd u true (by unfold odAt odUpcState odUpcDrainReq; omega), hst]
  have hbit := State.odBit_odPutBit hd odUpcDrainReq u true u
  rw [if_pos rfl] at hbit
  unfold State.askUpc
  rw [if_pos (by simp [hmask, hen, hst]), State.askDrain_eq, henPut, hstPut]
  generalize s.odPutBit odUpcDrainReq u true = t at hbit
  refine ⟨hbit, ?_⟩
  dsimp only
  split
  next hwaits =>
    obtain ⟨y, hy, hyu⟩ : ∃ y ∈ t.upcWait, y.1 = u := by simpa using hwaits
    exact ⟨y, hy, hyu⟩
  · exact ⟨(u, 2), List.mem_append_right _ List.mem_cons_self, rfl⟩

/-- UPC_DRAIN_REQ asks for the drains of its mask (R297). -/
theorem exec_upcDrainReq_asks (hw : s.wf = true) {route u : Nat} {mask : BitVec 8} (hu : u < 8)
    (hmay : s.mayWrite route odUpcDrainReq) (hmask : mask.getLsbD u = true) (hen : s.odBit odUpcEnabled u = true)
    (hst : s.od (odAt odUpcState u) = 0) : ∃ t, exec (.upcDrainReq route mask) s = .next t ∧ s.sameMem t ∧ t.drainAsked u := by
  have hall := foldl_range_induct (f := fun t u => t.askUpc mask.toNat u) (P := fun i t =>
    State.CalmOn upcServesKey s t ∧ (u < i → t.drainAsked u)) 8 s ⟨.refl _ s, fun h => absurd h (Nat.not_lt_zero u)⟩
    fun i hi t ⟨hcalm, hasked⟩ => by
      obtain ⟨hwf, hsame⟩ := hcalm.leaves (State.wf_dict hw)
      refine ⟨hcalm.trans (State.askUpc_calm t mask.toNat i), fun hui => ?_⟩
      rcases Nat.lt_succ_iff_lt_or_eq.mp hui with hlt | rfl
      · exact State.askUpc_stays hwf mask.toNat i (hasked hlt)
      · refine State.askUpc_asked hwf hmask ?_ ((hsame _ (.inr (upcStateKey_at hu))).trans hst)
        rw [State.odBit, hsame _ (.inl rfl), ← State.odBit, hen]
  obtain ⟨⟨hmem, -⟩, hasked⟩ := hall
  obtain ⟨typ, n, hwrite⟩ := State.keyWrite_ok hmay (k := fun s => s.drainReqWrite mask.toNat)
    (t := (List.range 8).foldl (fun t u => t.askUpc mask.toNat u) s) rfl
  exact ⟨_, congrArg Host.Outcome.next hwrite, hmem, hasked hu⟩

end

/-! ### DIGEST_REQ and DIGEST_START (R257, R291, R292, R528) -/

/-- The units of the list of a digest command, each with its poison. -/
def State.digUnits (s : State) (c : RingCmd) : List (Nat × Bool) :=
  (List.range (fld c.desc 64 16 + 1)).map fun i => s.unitRead (s.part c.part) 2 (fld c.desc 128 64) i

/-- The entries of the list of a digest command. -/
def State.digEntries (s : State) (c : RingCmd) : List Row := (s.digUnits c).map fun u => BitVec.ofNat 256 u.1

/-- A digest of a command starts unless a commit runs or a run occupies an update chiplet of it. -/
def State.digGoes (s : State) (c : RingCmd) : Bool := (s.part c.part).commit.isNone && !s.digRuns c.part

/-- The digest of a command as it stands first. -/
def State.digOf (s : State) (ring idx : Nat) (c : RingCmd) : Digest :=
  let v := s.digValue (s.part c.part) (s.digEntries c)
  ⟨ring, idx, s.digGoes c, s.digEntries c, if s.digGoes c then v.1 else 0, s.digGoes c && v.2⟩

/-- The digest of a command stands behind the others, and the command has acted. -/
def State.digStands (s : State) (ring idx : Nat) (c : RingCmd) : State :=
  let t := s.modPart c.part fun x => { x with digests := x.digests ++ [s.digOf ring idx c] }
  let u := if s.digGoes c then t.digSram c.part (s.digValue (s.part c.part) (s.digEntries c)).1 else t
  { u with cmds := u.cmds.map fun y => if y.ring = ring ∧ y.idx = idx then { y with acted := true } else y }

/-- The working data of a digest change no memory and no partition (R257). -/
theorem State.digSram_leaves (s : State) (p : Nat) (v : BitVec 128) :
    s.sameMem (s.digSram p v) ∧ (s.digSram p v).parts = s.parts := by
  obtain ⟨hmem, -⟩ := State.Calm.foldl (f := fun (s : State) u => s.sramPut u (leBytes 16 v.toNat))
    (fun _ _ => .of_val ⟨rfl, rfl, rfl, rfl, rfl, rfl⟩ rfl)
    ((List.range 8).filter fun u => s.upcServes u && (s.part p).stacks.any fun k => k / 2 == u) s
  exact ⟨hmem, foldl_keeps State.parts (f := fun (s : State) u => s.sramPut u (leBytes 16 v.toNat)) (fun _ _ => rfl) _ s⟩

section

variable {s : State} {ring idx : Nat} {c : RingCmd} (hc : s.cmdOf ring idx 0x30 = some c)

/-- A digest that stands is the last of its partition. -/
theorem State.digStands_leaves (hw : s.wf = true) : s.sameMem (s.digStands ring idx c) ∧
    ((s.digStands ring idx c).part c.part).digests = (s.part c.part).digests ++ [s.digOf ring idx c] := by
  have hpart := State.part_modPart hw c.part fun x => { x with digests := x.digests ++ [s.digOf ring idx c] }
  have hmod : s.sameMem (s.modPart c.part fun x => { x with digests := x.digests ++ [s.digOf ring idx c] }) :=
    ⟨rfl, rfl, rfl, rfl, rfl, rfl⟩
  unfold State.digStands
  extract_lets t u
  change t.part c.part = _ at hpart
  change s.sameMem t at hmod
  have hu : t.sameMem u ∧ u.parts = t.parts := by
    unfold u
    split
    · exact State.digSram_leaves t c.part _
    · exact ⟨⟨rfl, rfl, rfl, rfl, rfl, rfl⟩, rfl⟩
  clear_value t u
  obtain ⟨hmem, hparts⟩ := hu
  refine ⟨State.sameMem_trans (t := u) (State.sameMem_trans hmod hmem) ⟨rfl, rfl, rfl, rfl, rfl, rfl⟩, ?_⟩
  change (mget zPart u.parts c.part).digests = _
  rw [hparts, ← State.part, hpart]

include hc

theorem exec_digestReq_checks : exec (.digestReq ring idx) s =
    if (s.digUnits c).any (·.2) then .next (s.complete c csPoisonConsumed noRes)
    else if !(s.digEntries c).all (digOk (s.part c.part).hbmSize) then .next (s.complete c csArgInvalid noRes)
    else .next (s.digStands ring idx c) := by
  obtain ⟨hcmd, hop, hacted⟩ := State.cmdOf_eq_some.mp hc
  change execDigestReq ring idx s = _
  unfold execDigestReq
  rw [hcmd]
  exact if_neg (by simp [hop, hacted])

/-- A poisoned granule of the list is one that the digest reads (R292). -/
theorem exec_digestReq_poisoned (hpoison : ∃ u ∈ s.digUnits c, u.2 = true) :
    exec (.digestReq ring idx) s = .next (s.complete c csPoisonConsumed noRes) :=
  (exec_digestReq_checks hc).trans (if_pos (List.any_eq_true.mpr hpoison))

variable (hclean : ∀ u ∈ s.digUnits c, u.2 = false)

include hclean

theorem exec_digestReq_clean : exec (.digestReq ring idx) s =
    if !(s.digEntries c).all (digOk (s.part c.part).hbmSize) then .next (s.complete c csArgInvalid noRes)
    else .next (s.digStands ring idx c) :=
  (exec_digestReq_checks hc).trans (if_neg (by simpa using hclean))

end

/-- A digest that waits starts once neither a commit nor a run is in its way (R292, R528). -/
theorem exec_digestStart_waiting {s : State} (hw : s.wf = true) {p : Nat} {g : Digest} (hg : (s.part p).digests = [g])
    (hwaits : g.started = false) :
    ((s.part p).commit.isSome = true ∨ s.digRuns p = true → exec (.digestStart p) s = .next s) ∧
    ((s.part p).commit = none → s.digRuns p = false → ∃ t, exec (.digestStart p) s = .next t ∧ s.sameMem t ∧
      (t.part p).digests = [{ g with started := true, value := (s.digValue (s.part p) g.entries).1,
                                     poison := (s.digValue (s.part p) g.entries).2 }]) := by
  change (_ → execDigestStart p s = _) ∧ (_ → _ → ∃ t, execDigestStart p s = _ ∧ _)
  unfold execDigestStart
  extract_lets x
  refine ⟨fun hway => if_pos (by simpa [x] using hway), fun hcommit hruns => ?_⟩
  have hfind : x.digests.find? (fun g => !g.started) = some g := by simp [x, hg, hwaits]
  have hpart := State.part_modPart hw p fun y => { y with digests := startDigest (s.digValue x) y.digests }
  have hmod : s.sameMem (s.modPart p fun y => { y with digests := startDigest (s.digValue x) y.digests }) :=
    ⟨rfl, rfl, rfl, rfl, rfl, rfl⟩
  rw [if_neg (by simp [x, hcommit, hruns]), hfind]
  generalize (s.modPart p fun y => { y with digests := startDigest (s.digValue x) y.digests }) = t at *
  obtain ⟨hmem, hparts⟩ := State.digSram_leaves t p (s.digValue x g.entries).1
  refine ⟨_, rfl, State.sameMem_trans hmod hmem, ?_⟩
  rw [State.part, hparts, ← State.part, hpart]
  change startDigest (s.digValue x) (s.part p).digests = _
  rw [hg, startDigest, if_neg (by simp [hwaits])]

/-! ### DIGEST_COMPLETE (R257, R291, R292, R314) -/

/-- A check of an SRAM that corrects an error. -/
def corrects (x : Nat × Finding) : Bool := x.2 == .bit || x.2 == .symbol

section

variable {s t u : State}

/-- Registers and working data of the update chiplets have changed at most. -/
structure State.SramChecked (s t : State) : Prop where
  sends : State.Sends s t
  frame : t = { s with dict := t.dict, upcSram := t.upcSram }

theorem State.SramChecked.refl (s : State) : State.SramChecked s s := ⟨.refl s, rfl⟩

theorem State.SramChecked.trans (h : State.SramChecked s t) (k : State.SramChecked t u) : State.SramChecked s u where
  sends := h.sends.trans k.sends
  frame := by
    have hframe := k.frame
    rw [h.frame] at hframe
    exact hframe

theorem State.SramChecked.foldl {β : Type} {f : State → β → State} (hf : ∀ s b, State.SramChecked s (f s b)) (l : List β) :
    ∀ s, State.SramChecked s (l.foldl f s) := by
  induction l with
  | nil => exact fun s => refl s
  | cons b l ih => exact fun s => (hf s b).trans (ih (f s b))

theorem State.sramPut_checked (s : State) (u : Nat) (bytes : List Byte) : State.SramChecked s (s.sramPut u bytes) :=
  ⟨.of_fields (State.sramPut_keeps s u bytes (Keeps.refl s)) rfl rfl rfl rfl rfl rfl, rfl⟩

theorem State.sramFind_checked (s : State) (u : Nat) (found : Finding) : State.SramChecked s (s.sramFind u found).1 := by
  cases found with
  | ok => exact .refl s
  | uncorrectable => exact State.sramPut_checked s u []
  | bit => exact ⟨State.odSet_sends s _ _, rfl⟩
  | symbol => exact ⟨State.odSet_sends s _ _, rfl⟩

/-- A check counts what it corrects (R257). -/
theorem State.sramFind_od (hd : mwf odDefault s.dict.val = true) (x : Nat × Finding) (u : Nat) :
    (s.sramFind x.1 x.2).1.od (odAt odUpcSramCorrectedCount u) = if x.1 == u && corrects x then
      (s.od (odAt odUpcSramCorrectedCount u) + 1) % 2 ^ 64 else s.od (odAt odUpcSramCorrectedCount u) := by
  have hadd : (s.odAdd (odAt odUpcSramCorrectedCount x.1) 1).od (odAt odUpcSramCorrectedCount u) = if x.1 == u then
      (s.od (odAt odUpcSramCorrectedCount u) + 1) % 2 ^ 64 else s.od (odAt odUpcSramCorrectedCount u) := by
    by_cases hx : x.1 = u
    · rw [hx, State.odAdd, State.od_odSet_same hd, if_pos (beq_self_eq_true u)]
    · rw [State.odAdd, State.od_odSet_other hd _ (by unfold odAt; omega), if_neg (by simpa using hx)]
  obtain ⟨v, found⟩ := x
  cases found with
  | ok => simp [corrects, State.sramFind]
  | uncorrectable => simp [corrects, State.sramFind, State.sramPut, State.od]
  | bit => simpa [corrects, State.sramFind] using hadd
  | symbol => simpa [corrects, State.sramFind] using hadd

/-- The checks of a digest count all that they correct (R257). -/
theorem State.foldl_sramFind_od (u : Nat) (l : List (Nat × Finding)) : ∀ s : State, mwf odDefault s.dict.val = true →
    (l.foldl (fun (s : State) x => (s.sramFind x.1 x.2).1) s).od (odAt odUpcSramCorrectedCount u) =
      if (l.filter fun x => x.1 == u && corrects x).length = 0 then s.od (odAt odUpcSramCorrectedCount u)
      else (s.od (odAt odUpcSramCorrectedCount u) + (l.filter fun x => x.1 == u && corrects x).length) % 2 ^ 64 := by
  induction l with
  | nil => exact fun _ _ => rfl
  | cons x l ih =>
    intro s hd
    have hwf : mwf odDefault (s.sramFind x.1 x.2).1.dict.val = true := by
      obtain ⟨u, found⟩ := x
      cases found with
      | ok => exact hd
      | uncorrectable => exact hd
      | bit => exact State.odSet_dictWf hd _ _
      | symbol => exact State.odSet_dictWf hd _ _
    rw [List.foldl_cons, ih _ hwf, State.sramFind_od hd, List.filter_cons]
    by_cases hx : (x.1 == u && corrects x) = true
    · rw [if_pos hx, if_pos hx, List.length_cons, if_neg (Nat.succ_ne_zero _)]
      split
      next hnil => rw [hnil]
      · omega
    · rw [if_neg hx, if_neg hx]

/-- The checks of the chiplets of a digest change no memory and no partition (R257). -/
theorem State.digFinds_checked (s : State) (p : Nat) (l : List (Nat × Finding)) : State.SramChecked s (s.digFinds p l) :=
  State.SramChecked.foldl (f := fun (s : State) (x : Nat × Finding) => (s.sramFind x.1 x.2).1)
    (fun u x => State.sramFind_checked u x.1 x.2) _ s

/-- What the SRAM of a chiplet of the digest corrects is counted (R257). -/
theorem State.digFinds_od (hd : mwf odDefault s.dict.val = true) (p : Nat) (l : List (Nat × Finding)) {u : Nat}
    (hserves : s.upcServes u = true) (hstack : ∃ k ∈ (s.part p).stacks, k / 2 = u)
    (hn : (l.filter fun x => x.1 == u && corrects x).length ≠ 0) :
    (s.digFinds p l).od (odAt odUpcSramCorrectedCount u) = (s.od (odAt odUpcSramCorrectedCount u) +
      (l.filter fun x => x.1 == u && corrects x).length) % 2 ^ 64 := by
  have hown : ((l.filter fun x => s.upcServes x.1 && (s.part p).stacks.any fun k => k / 2 == x.1).filter fun x =>
      x.1 == u && corrects x) = l.filter fun x => x.1 == u && corrects x := by
    rw [List.filter_filter]
    refine List.filter_congr fun x _ => ?_
    by_cases hx : x.1 = u
    · have hany : ((s.part p).stacks.any fun k => k / 2 == u) = true := by
        obtain ⟨k, hk, hku⟩ := hstack
        exact List.any_eq_true.mpr ⟨k, hk, beq_iff_eq.mpr hku⟩
      rw [hx, hserves, hany, Bool.and_self, Bool.and_true]
    · rw [beq_eq_false_iff_ne.mpr hx, Bool.false_and, Bool.false_and]
  unfold State.digFinds
  rw [State.foldl_sramFind_od u _ s hd, hown, if_neg hn]

/-- The digest is off its partition, and the SRAMs are rid of its working data (R257). -/
def State.digOff (s : State) (p : Nat) (g : Digest) : State :=
  (s.modPart p fun x => { x with digests := x.digests.filter fun y => y != g }).sramClear

theorem State.digOff_sends (s : State) (p : Nat) (g : Digest) : State.Sends s (s.digOff p g) :=
  .of_fields (State.sramClear_keeps _ (State.modPart_keeps s p _ (Keeps.refl s))) rfl rfl rfl rfl rfl rfl

theorem State.digOff_part (hw : s.wf = true) (p : Nat) (g : Digest) : g ∉ ((s.digOff p g).part p).digests := by
  have hpart := State.part_modPart hw p fun x => { x with digests := x.digests.filter fun y => y != g }
  change (s.digOff p g).part p = _ at hpart
  rw [hpart]
  simp

/-- The first digest that runs completes with its value, or with the poison that it read (R291, R292, R314). -/
theorem exec_digestComplete_first {p : Nat} {g : Digest} {gs : List Digest} {c : RingCmd}
    (hg : (s.part p).digests = g :: gs) (hstarted : g.started = true) (hc : s.cmd g.ring g.idx = some c)
    (l : List (Nat × Finding)) : ∃ res, exec (.digestComplete ⟨p, l⟩) s =
      .next (((s.digFinds p l).digOff p g).complete c (if g.poison then csPoisonConsumed else csOk) res) := by
  have hfind : (s.part p).digests.find? (·.started) = some g := by rw [hg, List.find?_cons_of_pos hstarted]
  have hcmd : ((s.digFinds p l).digOff p g).cmd g.ring g.idx = some c := by
    have hframe := (State.digFinds_checked s p l).frame
    generalize s.digFinds p l = t at hframe
    rw [hframe]
    exact hc
  unfold State.digOff at *
  change ∃ res, execDigestComplete ⟨p, l⟩ s = _
  unfold execDigestComplete
  dsimp only
  rw [hfind]
  dsimp only
  rw [hcmd]
  dsimp only
  split
  · exact ⟨noRes, rfl⟩
  · exact ⟨⟨0, 0, 0, g.value.toNat⟩, rfl⟩

/-- What a digest that completes leaves (R257, R291, R292). -/
theorem exec_digestComplete_ends (hw : s.wf = true) {p : Nat} {g : Digest} {gs : List Digest} {c : RingCmd}
    (hg : (s.part p).digests = g :: gs) (hstarted : g.started = true) (hc : s.cmd g.ring g.idx = some c)
    (l : List (Nat × Finding)) : ∃ t, exec (.digestComplete ⟨p, l⟩) s = .next t ∧ s.sameMem t ∧
      Completes s t c (if g.poison then csPoisonConsumed else csOk) ∧ g ∉ (t.part p).digests ∧
      ∀ u, u < 8 → s.upcServes u = true → (∃ k ∈ (s.part p).stacks, k / 2 = u) →
        (l.filter fun x => x.1 == u && corrects x).length ≠ 0 → t.od (odAt odUpcSramCorrectedCount u) =
          (s.od (odAt odUpcSramCorrectedCount u) + (l.filter fun x => x.1 == u && corrects x).length) % 2 ^ 64 := by
  obtain ⟨res, hexec⟩ := exec_digestComplete_first hg hstarted hc l
  have hchecked := State.digFinds_checked s p l
  have hcounts := fun u => State.digFinds_od (State.wf_dict hw) p l (u := u)
  generalize s.digFinds p l = f at *
  have hwFinds : f.wf = true := hchecked.sends.keeps.wf hw
  have hsends := hchecked.sends.trans (State.digOff_sends f p g)
  have hmem : s.sameMem f := by
    rw [hchecked.frame]
    exact ⟨rfl, rfl, rfl, rfl, rfl, rfl⟩
  have hlogs := State.complete_logs (f.digOff p g) c (if g.poison then csPoisonConsumed else csOk) res
  have hoff := State.digOff_part hwFinds p g
  obtain ⟨-, hquiet⟩ := hlogs.quiet (State.wf_dict (s := f) hwFinds)
  refine ⟨_, hexec, State.sameMem_trans (t := f) hmem hlogs.frame.sameMem, hsends.complete hw c _ res, ?_,
    fun u hu hserves hstack hn => ?_⟩
  · rw [hlogs.frame.part]
    exact hoff
  · rw [hquiet _ (noisyKey_upc (by unfold odAt odUpcSramCorrectedCount; omega) (by unfold odAt odUpcSramCorrectedCount; omega))]
    exact hcounts u hserves hstack hn

end

/-- Settles O42: drains, faults and returns of the update chiplets, and digests from their request to their completion. -/
theorem updateChipletsAndDigests : Obligations.UpdateChipletsAndDigests := by
  intro s hw
  refine ⟨fun u x hu hwait => ?_, fun u hu => exec_upcFault_cases hw hu,
    fun u hu hst hen hpass hin => ⟨exec_upcReturn_busy, exec_upcReturn_idle hw hu hst hen hpass hin⟩,
    fun route mask u hu hmay hmask hen hst => exec_upcDrainReq_asks hw hu hmay hmask hen hst,
    fun ring idx c hc => ⟨fun hpoison => ?_, fun hclean hbad => ?_, fun hclean hgood => ?_⟩,
    fun p g hg hwaits => exec_digestStart_waiting hw hg hwaits,
    fun p g gs c hg hstarted hc l => exec_digestComplete_ends hw hg hstarted hc l⟩
  · obtain ⟨hbusy, hidle⟩ := exec_upcDrain_waiting hw hu hwait
    refine ⟨hbusy, fun h => ?_⟩
    obtain ⟨t, hexec, hdrained⟩ := hidle h
    exact ⟨t, hexec, hdrained.mem, hdrained.state, hdrained.bit, hdrained.wait⟩
  · have hframe := State.complete_frame s c csPoisonConsumed noRes
    exact ⟨_, exec_digestReq_poisoned hc hpoison, hframe.sameMem, hframe.parts, State.complete_completes s c _ _⟩
  · have hframe := State.complete_frame s c csArgInvalid noRes
    have hillegal : (!(s.digEntries c).all (digOk (s.part c.part).hbmSize)) = true := Bool.not_eq_true' _ |>.mpr hbad
    exact ⟨_, (exec_digestReq_clean hc hclean).trans (if_pos hillegal), hframe.sameMem, hframe.parts,
      State.complete_completes s c _ _⟩
  · have hlegal : ¬ (!(s.digEntries c).all (digOk (s.part c.part).hbmSize)) = true := by
      rw [Bool.not_eq_true', Bool.not_eq_false]
      exact hgood
    obtain ⟨hmem, hdigests⟩ := State.digStands_leaves (ring := ring) (idx := idx) (c := c) hw
    refine ⟨_, s.digOf ring idx c, (exec_digestReq_clean hc hclean).trans (if_neg hlegal), hmem, hdigests, rfl, rfl, rfl, rfl,
      fun hcommit hruns => ?_⟩
    have hgoes : s.digGoes c = true := by simp [State.digGoes, hcommit, hruns]
    unfold State.digOf
    rw [hgoes]
    exact ⟨rfl, rfl⟩

end Sys2Proof.Machine
end
